-- ==== Sys2Proof/Word.lean ====
section
/-!
DEFINITION. The words of the Fjonarra Skoade 6048 model, and the sparse table that holds "a fixed
number of like things" (registers, cores, clusters) by their index.
-/
namespace Sys2Proof

/-- A byte (00, notation). -/
abbrev Byte := BitVec 8
/-- A 16-bit field. -/
abbrev Half := BitVec 16
/-- A scalar register, a vector lane, a register of a register block. -/
abbrev Word := BitVec 32
/-- A 64-bit field: a stroke counter, a logical address, a time. -/
abbrev DWord := BitVec 64

/-- A sparse table: index and value. `Tbl.set` keeps rising indices, `Tbl.get` answers the default
for an index that is not listed. -/
abbrev Tbl (α : Type) := List (Nat × α)

/-- The entry at an index, `d` when none is listed. -/
def Tbl.get {α : Type} (t : Tbl α) (d : α) (i : Nat) : α :=
  match t with
  | [] => d
  | (j, x) :: r => if j = i then x else Tbl.get r d i

/-- The table with the entry of one index replaced. -/
def Tbl.set {α : Type} (t : Tbl α) (i : Nat) (v : α) : Tbl α :=
  match t with
  | [] => [(i, v)]
  | (j, x) :: r =>
    if j = i then (i, v) :: r
    else if i < j then (i, v) :: (j, x) :: r
    else (j, x) :: Tbl.set r i v

/-- A list of flags or numbers as a set: an element put in once. -/
def setAdd {α : Type} [DecidableEq α] (l : List α) (x : α) : List α :=
  if x ∈ l then l else l ++ [x]

/-- A set without an element. -/
def setDel {α : Type} [DecidableEq α] (l : List α) (x : α) : List α :=
  l.filter (fun y => decide (y ≠ x))

end Sys2Proof
end

