-- ==== Sys2Proof/Syntax.lean ====
section
/-!
DEFINITION. The syntax of the block's commands: one constructor per row of spec/opcode_table.json, with the
row's operands. What a piece of hardware outside the model finds (an ECC error, a sensor sample, the bytes a
host read returns) is an operand of the command that reports it. An operand with
a default names what was found or set besides: by default nothing.
-/
namespace Sys2Proof

/-- What a read of a protected store finds (R135, R136, R423, R424, R449, R450). -/
inductive Ecc where
  | ok | corrected | uncorrectable
  deriving DecidableEq, Repr

/-- Where a core instruction issues: the physical core (32 * k + j), what its instruction fetch finds (R136)
and whether a scalar register read finds a parity error (R165, SREG_PARITY). -/
structure Issue where
  core : Fin 1536
  fetch : Ecc
  sregParity : Bool
  deriving DecidableEq, Repr

/-- A hardware error a matrix engine operation meets (R118): a residue mismatch or an accumulator parity error,
with the accumulator row. -/
inductive MeFault where
  | none
  | residue (row : BitVec 5)
  | accParity (row : BitVec 5)
  deriving DecidableEq, Repr

/-- A ruling entry of the active ruling of a cluster (R190, R191): output port, output slice, slot. -/
structure RulingSlot where
  k : Fin 48
  port : BitVec 4
  slice : BitVec 2
  slot : Byte
  deriving DecidableEq, Repr

/-- A link parity error (R196): the receiving router, its input port and slice, the slot. -/
structure ParityHit where
  k : Fin 48
  port : BitVec 4
  slice : BitVec 2
  slot : Byte
  deriving DecidableEq, Repr

/-- What the ECC of a ruling store finds (R197). -/
structure RuleEcc where
  k : Fin 48
  port : BitVec 4
  slice : BitVec 2
  slot : Byte
  uncorrectable : Bool
  deriving DecidableEq, Repr

/-- Who acts on a deadlock (R339): a cluster's detector or the Quill for a partition. -/
inductive DeadlockWhere where
  | cluster (k : Fin 48)
  | quill (p : Fin 4)
  deriving DecidableEq, Repr

/-- How a contribution reaches a combining queue (R342, R623). -/
inductive ContribSrc where
  | ruled (src dst : RulingSlot) (parity : Option ParityHit)
  | freeChan (core : Fin 1536) (chan : BitVec 3)
  deriving DecidableEq, Repr

/-- A combining queue: of a cluster, or device-level. -/
inductive CombiningQueue where
  | cluster (k : Fin 48) (n : BitVec 4)
  | device (n : BitVec 6)
  deriving DecidableEq, Repr

/-- What a memory controller serves next (R459): a request on its edge link, or one on its spine tap. -/
inductive RequestSrc where
  | edge (src : RulingSlot) (parity : Option ParityHit)
  | spine
  deriving DecidableEq, Repr

/-- A reset of host functions (R565). -/
inductive ResetKind where
  | flr (fn : Fin 6)
  | hot
  | perst
  deriving DecidableEq, Repr

/-- The header of a fetched command (R533, R525): function, submission queue, TAG, minor version, the flags,
PARTITION, CONTEXT, and whether a reserved field of the packet is set (ignored, R10). -/
structure Hdr where
  fn : Fin 6
  sq : Byte
  tag : Word
  minor : Byte
  ordered : Bool
  notify : Bool
  indirect : Bool
  partition : Byte
  context : Byte
  reservedSet : Bool
  deriving DecidableEq, Repr

/-- A reply buffer (R553): BUF_ADDR, BUF_LEN, and whether the buffer takes the write. -/
structure Reply where
  addr : DWord
  len : Word
  ok : Bool
  deriving DecidableEq, Repr

/-- A finding of a built-in self-test or of start-up (R809): a core, a router, an SRAM row (layer, bank group, row, whether a
spare row is left), a bulk range, a package that fails training (R466), any other logic. -/
inductive BistFinding where
  | core (c : Fin 1536)
  | router (k : Fin 48)
  | inkwellRow (k : Fin 48) (layer : Byte) (group : Byte) (row : Half) (spare : Bool)
  | bulkRange (addr64k : Word)
  | package (m : Fin 16)
  | other
  deriving DecidableEq, Repr

/-- The calibrated latency of one crossing (R205): cluster, input port, CAL. -/
structure XCal where
  k : Fin 48
  port : BitVec 4
  cal : BitVec 4
  deriving DecidableEq, Repr

/-- What the reads of one line of bulk memory find: an address in it, the line's ECC (R449, R450), the read link's (R452). -/
structure LineFind where
  addr : DWord
  ecc : Ecc
  link : Ecc
  deriving DecidableEq, Repr

/-- What a start-up finds: the supplies and the reference (R807), the findings of steps 3 to 5 (R809), the crossings (R205), the
moraine's factory signature and how many field entries are good (R696), the composition and which of the meter and OE0 to OE3
answered (R824), the OPERATING_POINTS record (R838), the records torn or badly signed (R835), how long it took, what the
  quick test finds in packages that kept their contents
(R808). -/
structure BootInput where
  supplyOk : Bool
  referenceOk : Bool
  found : List BistFinding
  cal : List XCal
  factoryOk : Bool
  goodEntries : Nat
  composition : Byte
  answered : BitVec 5
  opOk : Bool
  torn : Byte
  badSig : Byte
  ms : BitVec 20
  lines : List LineFind := []
  deriving DecidableEq, Repr

/-- Where an SPDM message comes from (R519, R567): a DOE mailbox, MCTP type 0x05, MCTP type 0x06 (a secured message). -/
inductive SpdmChannel where
  | doe (fn : Fin 6)
  | mctp
  | secured
  deriving DecidableEq, Repr

/-- An IDE stream (R520). -/
inductive IdeStream where
  | link
  | selective (vf : BitVec 3)
  deriving DecidableEq, Repr

/-- A Pretisse flit (R586): the header fields KIND, DEST_DEVICE, SRC_DEVICE, HOPS and VL, header bits [79:0] (WINDOW,
UNITS or COUNTER, BLOT, OFFSET, TRACK), the payload units; the trailer fields SEQ, ACK_SEQ, CREDIT0, CREDIT1 and CRC. -/
structure FabricFlit where
  kind : BitVec 4
  dst : Half
  src : Half
  hops : BitVec 6
  vl : Bool
  low : BitVec 80
  data : List (BitVec 256)
  seq : BitVec 12 := 0
  ack : BitVec 12 := 0
  credit0 : Byte := 0
  credit1 : Byte := 0
  crc : Word := 0
  deriving DecidableEq, Repr

/-- A margin sample (R640, R778): the worst value of a second; `corr` the corrected symbols of the second by lane. -/
inductive MarginSample where
  | rxPower (f : Fin 16) (lane : BitVec 3) (val : Half)
  | laserBias (oe : BitVec 2) (val : Half)
  | fec (f : Fin 16) (ber : Half) (corr : List Word)
  | die (r : Fin 8) (val : Half)
  | dieSlack (k : Fin 48) (val : Half)
  deriving DecidableEq, Repr

/-- A thermal sensor (R804): of a cluster, the seam bridge's, the host spine's. -/
inductive ThermSensor where
  | cluster (k : Fin 48)
  | seam
  | spine
  deriving DecidableEq, Repr

/-- A write of the PCIe configuration space (R500, R518): Bus Master Enable, the size of BAR2 (R509), VF Enable, the MSI-X
enable, function mask and mask of a vector, the bits cleared in the AER status. -/
inductive ConfigWrite where
  | busMaster (on : Bool)
  | bar2Size (log2Gib : BitVec 3)
  | vfEnable (on : Bool)
  | msixEnable (on : Bool)
  | msixMask (on : Bool)
  | msixVector (n : BitVec 6) (on : Bool)
  | aerClear (val : Word)
  deriving DecidableEq, Repr

/-- The state of the host link (R574). -/
structure HostLink where
  speed : BitVec 4
  width : BitVec 6
  l0p : BitVec 6
  flit : Bool
  deriving DecidableEq, Repr

/-- The commands: one constructor per row of the opcode table. A core instruction carries `at_`, the core that
issues it and what the fetch and the register read find; a command of the host carries the header of its
packet. -/
inductive Instr where
  -- Core instructions: scalar (03 R142)
  /-- ILLEGAL. R142, R141: a word with a reserved OP or FN, or opcode 0x00 -/
  | illegal (at_ : Issue)
  /-- ALU. R142: rd = rs1 op rs2 -/
  | alu (at_ : Issue) (rd rs1 rs2 : BitVec 6) (fn : Byte)
  /-- ADDI. R142 -/
  | addi (at_ : Issue) (rd rs1 : BitVec 6) (imm : BitVec 14)
  /-- ANDI. R142 -/
  | andi (at_ : Issue) (rd rs1 : BitVec 6) (imm : BitVec 14)
  /-- ORI. R142 -/
  | ori (at_ : Issue) (rd rs1 : BitVec 6) (imm : BitVec 14)
  /-- SHI. R142: the form in imm [13:12] -/
  | shi (at_ : Issue) (rd rs1 : BitVec 6) (imm : BitVec 14)
  /-- LUI. R142 -/
  | lui (at_ : Issue) (rd : BitVec 6) (imm : BitVec 20)
  /-- RDSYS. R147: the code in imm [3:0] -/
  | rdsys (at_ : Issue) (rd : BitVec 6) (imm : BitVec 14)
  /-- LDW. R142: `ls` is what the local store read finds (R135) -/
  | ldw (at_ : Issue) (rd rs1 : BitVec 6) (imm : BitVec 14) (ls : Ecc)
  /-- STW. R142: rd is the source -/
  | stw (at_ : Issue) (rd rs1 : BitVec 6) (imm : BitVec 14)
  /-- BEQ. R142 -/
  | beq (at_ : Issue) (rs1 rs2 : BitVec 6) (target : BitVec 12)
  /-- BNE. R142 -/
  | bne (at_ : Issue) (rs1 rs2 : BitVec 6) (target : BitVec 12)
  /-- BLT. R142: signed -/
  | blt (at_ : Issue) (rs1 rs2 : BitVec 6) (target : BitVec 12)
  /-- BGE. R142: signed -/
  | bge (at_ : Issue) (rs1 rs2 : BitVec 6) (target : BitVec 12)
  /-- JMP. R142: rs1 takes the next index -/
  | jmp (at_ : Issue) (rs1 : BitVec 6) (target : BitVec 12)
  /-- JR. R142 -/
  | jr (at_ : Issue) (rs2 : BitVec 6)
  /-- LOOP. R142 -/
  | loop (at_ : Issue) (rs1 : BitVec 6) (target : BitVec 12)
  /-- SECT_RULED_NEXT. R151 -/
  | sectRuledNext (at_ : Issue) (offset : Byte)
  /-- SECT_RULED_AT. R152 -/
  | sectRuledAt (at_ : Issue) (rb : BitVec 6) (offset : Byte)
  /-- SECT_RULED_HOLD. R153 -/
  | sectRuledHold (at_ : Issue) (ra rb : BitVec 6) (offset : Byte)
  /-- SECT_FREE. R155 -/
  | sectFree (at_ : Issue) (offset : Byte)
  /-- HALT. R159 -/
  | halt (at_ : Issue)
  -- Matrix engine (02)
  /-- MMA. R65 to R82, R143; `ls` lists the local store units whose read finds an ECC error -/
  | mma (at_ : Issue) (clr : Bool) (bank : Bool) (anchor : BitVec 10) (rb : BitVec 6) (hw : MeFault) (ls : List (Nat × Ecc))
  /-- MMA_DELAYED_START. R85: the MMA waiting for its bank starts -/
  | mmaDelayedStart (core : Fin 1536) (hw : MeFault) (ls : List (Nat × Ecc))
  /-- DRAIN. R86 to R94 -/
  | drain (at_ : Issue) (bank : Bool) (dfmt : BitVec 4) (rs1 rs2 : BitVec 6) (hw : MeFault)
  /-- ACC_SAVE. R95 -/
  | accSave (at_ : Issue) (bank : Bool) (rs1 : BitVec 6) (hw : MeFault)
  /-- ACC_LOAD. R95 to R98 -/
  | accLoad (at_ : Issue) (bank : Bool) (rs1 : BitVec 6) (ls : List (Nat × Ecc))
  -- Vector engine (02)
  /-- VLD. R142, R877 -/
  | vld (at_ : Issue) (vd : BitVec 5) (rs1 : BitVec 6) (imm : BitVec 14) (ls : List (Nat × Ecc))
  /-- VST. R142; `par`: the vector register whose read finds a parity error (R118) -/
  | vst (at_ : Issue) (vs : BitVec 5) (rs1 : BitVec 6) (imm : BitVec 14) (par : Option (BitVec 5))
  /-- VFP. R99 to R102 -/
  | vfp (at_ : Issue) (vd va vb vc : BitVec 5) (fn : BitVec 6) (par : Option (BitVec 5))
  /-- VINT. R103 -/
  | vint (at_ : Issue) (vd va vb vc : BitVec 5) (fn : BitVec 6) (par : Option (BitVec 5))
  /-- VCVT. R105, R877: FN [4] clear -/
  | vcvt (at_ : Issue) (vd va vb vc : BitVec 5) (fn : BitVec 6) (par : Option (BitVec 5))
  /-- MXQ. R106: VCVT with FN [4] set; `fnHi` is FN [5] -/
  | mxq (at_ : Issue) (vd va vb vc : BitVec 5) (fmt : BitVec 4) (fnHi : Bool) (par : Option (BitVec 5))
  /-- VRED. R104 -/
  | vred (at_ : Issue) (vd va vb vc : BitVec 5) (fn : BitVec 6) (par : Option (BitVec 5))
  /-- VTR. R107 to R109 -/
  | vtr (at_ : Issue) (vd va vb vc : BitVec 5) (fn : BitVec 6) (par : Option (BitVec 5))
  /-- VMOV. R142 -/
  | vmov (at_ : Issue) (vd va vb vc : BitVec 5) (fn : BitVec 6) (par : Option (BitVec 5))
  -- Transfer engine (07)
  /-- XFER. R400 to R403, R407 -/
  | xfer (at_ : Issue) (ra : BitVec 6) (ls : List (Nat × Ecc) := [])
  /-- XFER_ACCESS. R404 to R408, R135, R423, R424: what the access finds at which of its 16 words; `split`: the words whose
  unit's blot copies disagree (R422) -/
  | xferAccess (core : Fin 1536) (src dst : List (Nat × Ecc)) (split : List Nat)
  -- Message and steering unit (05, 06)
  /-- SEND. R142, R318 to R323 -/
  | send (at_ : Issue) (ra rb : BitVec 6) (n : BitVec 2)
  /-- RECV. R142, R314, R324 -/
  | recv (at_ : Issue) (ra rb : BitVec 6) (q : BitVec 3) (n : BitVec 2)
  /-- RECV_WAKE. R324: a waiting RECV finds a visible entry -/
  | recvWake (core : Fin 1536)
  /-- SELECT. R325 -/
  | select (at_ : Issue) (ra rb : BitVec 6)
  /-- SELECT_SELECTION. R325 to R327: a SELECT makes its selection -/
  | selectSelection (core : Fin 1536)
  /-- QSTAT. R328 -/
  | qstat (at_ : Issue) (ra : BitVec 6) (q : BitVec 3) (fn : BitVec 3) (off : BitVec 6)
  /-- STEER. R269 -/
  | steer (at_ : Issue) (ra : BitVec 6) (unit : BitVec 2)
  /-- SYNC_SET. R356 -/
  | syncSet (at_ : Issue) (ra rb : BitVec 6)
  /-- SYNC_ADD. R356 -/
  | syncAdd (at_ : Issue) (ra rb : BitVec 6)
  /-- SYNC_WAIT_GE. R356, R361 -/
  | syncWaitGe (at_ : Issue) (ra rb : BitVec 6)
  /-- WAIT_GE_WAKE. R361 -/
  | waitGeWake (core : Fin 1536)
  /-- SYNC_RADD. R356, R620 -/
  | syncRadd (at_ : Issue) (ra rb : BitVec 6)
  /-- LANDWAIT. R618 -/
  | landwait (at_ : Issue) (ra rb : BitVec 6)
  /-- LANDWAIT_WAKE. R618 -/
  | landwaitWake (core : Fin 1536)
  -- Strokes and crossings (04, 13)
  /-- STROKE_EDGE. R185, R216; `rules` lists what the ruling stores' ECC finds (R197), `cal` the latencies a reset of the
  partition measures (R205) -/
  | strokeEdge (p : Fin 4) (overrun : Bool) (rules : List RuleEcc) (cal : List XCal)
  /-- HOLD_RELEASE. R212 -/
  | holdRelease (p : Fin 4)
  /-- CROSSING_EMPTY_STALL. R207 -/
  | crossingEmptyStall (p : Fin 4)
  /-- CROSSING_FULL_STALL. R208 -/
  | crossingFullStall (p : Fin 4)
  /-- CROSSING_RESUME. R207, R208 -/
  | crossingResume (p : Fin 4)
  /-- DROOP_STRETCH. 13 R777 -/
  | droopStretch (r : Fin 8) (cycles : BitVec 8)
  -- Tokens and steering (05, 06)
  /-- TOKEN_DELIVERY. R192 to R196, R313: a ruled flit reaches an inbound queue or a landing stream -/
  | tokenDelivery (src dst : RulingSlot) (parity : Option ParityHit)
  /-- STEER_INPUT_DELIVERY. R272 -/
  | steerInputDelivery (src dst : RulingSlot) (parity : Option ParityHit)
  /-- STEER_FIRE. R274 to R281; `par`: a pairing buffer parity error (R118) -/
  | steerFire (core : Fin 1536) (unit : BitVec 2) (par : Bool)
  /-- FREE_TOKEN_ARRIVAL. R319, R878: the oldest free token of that channel arrives -/
  | freeTokenArrival (core : Fin 1536) (chan : BitVec 3)
  /-- CREDIT_RETURN. R322: a credit reaches that channel -/
  | creditReturn (core : Fin 1536) (chan : BitVec 3)
  /-- CLOSURE_NOTICE. R331 -/
  | closureNotice (core : Fin 1536) (chan : BitVec 3)
  /-- DEADLOCK_SCAN. R337: a cluster's detector samples -/
  | deadlockScan (k : Fin 48)
  /-- DEADLOCK_DETECTED. R337, R339: the finder acts on what it found -/
  | deadlockDetected (where_ : DeadlockWhere)
  /-- QUILL_DEADLOCK_POLL. R338 -/
  | quillDeadlockPoll (p : Fin 4)
  /-- CONTRIBUTION_ARRIVAL. R345 -/
  | contributionArrival (src : ContribSrc)
  /-- COMBINING_RELEASE. R349 -/
  | combiningRelease (q : CombiningQueue)
  /-- MGMT_SYNC_OP. R359: the oldest sync operation on the management network is applied -/
  | mgmtSyncOp 
  -- The inkwell (07)
  /-- LANDING_SLOT_WRITE. R412; `collide` marks the bytes of the slot that a core-side write of the same cycle
  writes too (R417) -/
  | landingSlotWrite (k : Fin 48) (ecc : List (Nat × Ecc)) (collide : BitVec 64)
  /-- SCRUB_ACCESS. R425 -/
  | scrubAccess (k : Fin 48) (ecc : List (Nat × Ecc)) (split : List Nat)
  -- Bulk memory and sequence slots (08)
  /-- MC_REQUEST. R459; `tblEcc` is what the read of a slot's table finds (R473); `lines`: what the other reads of bulk
  lines find, and the read links (R449, R450, R452) -/
  | mcRequest (m : Fin 16) (src : RequestSrc) (ecc linkEcc tblEcc : Ecc) (lines : List LineFind := [])
  /-- MC_READ_DATA_RETURN. R460: `slot` is the slot in which the cluster reads the edge slice -/
  | mcReadDataReturn (m : Fin 16) (slice : Bool) (slot : Byte) (dst : RulingSlot) (parity : Option ParityHit)
  /-- POSITION_WRITE. R482; `lines` as for MC_REQUEST -/
  | positionWrite (m : Fin 16) (lines : List LineFind := [])
  /-- SLOT_CMD_FORK. R483 to R485: the slot command that the controller serves next; `tbl` is what the read of the slot's
  table finds, by offset (R473); `lines` as for MC_REQUEST -/
  | slotCmdFork (m : Fin 16) (tbl : List (BitVec 22 × Ecc) := []) (lines : List LineFind := [])
  /-- SLOT_CMD_REWIND. R485; `lines` as for MC_REQUEST -/
  | slotCmdRewind (m : Fin 16) (tbl : List (BitVec 22 × Ecc) := []) (lines : List LineFind := [])
  /-- SLOT_CMD_ACCEPT. R485; `child` is what the read of the other slot's table finds; `lines` as for MC_REQUEST -/
  | slotCmdAccept (m : Fin 16) (tbl child : List (BitVec 22 × Ecc) := []) (lines : List LineFind := [])
  /-- MC_REFRESH. R464 -/
  | mcRefresh (m : Fin 16)
  /-- MC_WCK_CHECK. R465; `lines`: what the other reads of bulk lines find, and the read links (R449, R450, R452) -/
  | mcWckCheck (m : Fin 16) (chan : BitVec 2) (begin_ : Bool) (lines : List LineFind := [])
  /-- MC_LINK_POLL. R452 -/
  | mcLinkPoll (m : Fin 16) (errors : Byte)
  /-- MC_SCRUB_READ. R453; `linkEcc`: the read link (R452) -/
  | mcScrubRead (m : Fin 16) (ecc : Ecc) (linkEcc : Ecc := .ok)
  -- Host interface (09)
  /-- SQ_TAIL_DOORBELL. R524, R531 -/
  | sqTailDoorbell (fn : Fin 6) (n : Byte) (val : Word)
  /-- CQ_HEAD_DOORBELL. R527, R531 -/
  | cqHeadDoorbell (fn : Fin 6) (n : Byte) (val : Word)
  /-- EVENT_RING_HEAD_DOORBELL. R528, R531 -/
  | eventRingHeadDoorbell (fn : Fin 6) (val : Word)
  /-- COMMAND_FETCH. R526: the packet read, none where the fetch fails (R532); `written` clear: a completion write of the
  pair failed (R532) -/
  | commandFetch (fn : Fin 6) (n : Byte) (pkt : Option (List Byte)) (written : Bool := true)
  /-- QP_ENABLE. R522: a write of HI_QP_CFGn that sets ENABLE -/
  | qpEnable (fn : Fin 6) (n : Byte) (val : Word)
  /-- QP_DISABLE. R523: a write of HI_QP_CFGn that clears ENABLE -/
  | qpDisable (fn : Fin 6) (n : Byte) (val : Word)
  /-- QP_DEACTIVATE. R523 -/
  | qpDeactivate (fn : Fin 6) (n : Byte)
  /-- EVENT_RING_ENABLE. R578: a write of HI_EVR_CFG -/
  | eventRingEnable (fn : Fin 6) (val : Word)
  /-- EVENT_LOST_CLEAR. R579: a write of HI_EVR_STATUS -/
  | eventLostClear (fn : Fin 6) (val : Word)
  /-- DEFERRED_COMPLETION. R542: a command still running after 1 ms -/
  | deferredCompletion (job : Nat)
  /-- MSIX_MESSAGE. R530 -/
  | msixMessage (fn : Fin 6) (vector : BitVec 6)
  /-- BAR0_REJECT. R510 -/
  | bar0Reject (fn : Fin 6) (isRead : Bool)
  /-- BAR2_READ. R511 to R515; `errs` is what the read finds by device physical address, `split` the addresses of inkwell
  units whose blot copies disagree (R422); `lines`: what the other reads of bulk lines find, and the read links (R449, R450,
  R452) -/
  | bar2Read (fn : Fin 6) (off : BitVec 40) (len : Nat) (errs : List (DWord × Ecc)) (split : List DWord := [])
    (lines : List LineFind := [])
  /-- BAR2_WRITE. R511 to R515; `errs` is what the reads of partly written units and the
  accesses of an inkwell find by address (R423, R424, R451), `lost` the bytes that
  a core-side write of the same cycle writes too (R417); `lines`: what the other reads of bulk lines find, and the read
  links (R449, R450, R452) -/
  | bar2Write (fn : Fin 6) (off : BitVec 40) (bytes : List Byte) (poisoned : Bool) (errs : List (DWord × Ecc)) (lost : List Nat)
    (lines : List LineFind := [])
  /-- HOST_FUNCTION_RESET. R565 -/
  | hostFunctionReset (kind : ResetKind)
  /-- D3HOT_ENTRY. R502 -/
  | d3hotEntry (fn : Fin 6)
  /-- D0_RETURN. R502 -/
  | d0Return (fn : Fin 6)
  /-- REGISTER_WRITE. R10, R509, R516: a 32-bit write in BAR0, or in BAR4; `sets` marks the bits of the register
  that an engine sets in the cycle of the write (R128) -/
  | registerWrite (fn : Fin 6) (bar4 : Bool) (off : BitVec 25) (val : Word) (sets : Word := 0)
  /-- NW_STROKE_LO_READ. R251 -/
  | nwStrokeLoRead (p : Fin 4)
  /-- QL_TDC_LO_READ. R767 -/
  | qlTdcLoRead (c : Fin 16)
  /-- CK_TIME_LO_READ. R817 -/
  | ckTimeLoRead 
  /-- EM_ENERGY_LO_READ. R875 -/
  | emEnergyLoRead 
  /-- EM_TIME_LO_READ. R875 -/
  | emTimeLoRead 
  /-- EM_LOG_INDEX_WRITE. R876 -/
  | emLogIndexWrite (val : Word)
  /-- FB_ID_WRITE. R604, R646 -/
  | fbIdWrite (val : Word)
  /-- FB_PORT_EXPECT_WRITE. R632, R633 -/
  | fbPortExpectWrite (f : Fin 16) (n : BitVec 3) (val : Word)
  /-- FB_RING_ENABLE. R625, R649: a write of FB_RINGn_CFG -/
  | fbRingEnable (r : BitVec 6) (val : Word)
  -- Host commands (09 R556, R559, R562 and the owning chapters)
  /-- HELLO. R549, R550 -/
  | hello (h : Hdr) (majorMin majorMax minorMax : Byte)
  /-- GET_INFO. R557 -/
  | getInfo (h : Hdr) (r : Reply)
  /-- GET_DISTANCES. R36 to R42 -/
  | getDistances (h : Hdr) (r : Reply) (mode : Byte)
  /-- SET_EVENT_MASK. R548 -/
  | setEventMask (h : Hdr) (mask : BitVec 256)
  /-- SET_PARTITION_MODE. R737 -/
  | setPartitionMode (h : Hdr) (mode : Byte)
  /-- SET_MODES. R734 to R736 -/
  | setModes (h : Hdr) (det checking seam patrol drift : Byte)
  /-- GET_WATERMARK. R629, R739 -/
  | getWatermark (h : Hdr) (r : Reply)
  /-- SET_THRESHOLDS. R558, R712 -/
  | setThresholds (h : Hdr) (block : List Byte)
  /-- LOAD_SCROLL. R243, R446 -/
  | loadScroll (h : Hdr) (hostAddr len : DWord)
  /-- SCROLL_READ_COMPLETE. R243: the scroll as read from host memory, none where the read fails -/
  | scrollReadComplete (job : Nat) (bytes : Option (List Byte))
  /-- START_CONTEXT. R556; `lines`: what the other reads of bulk lines find, and the read links (R449, R450, R452) -/
  | startContext (h : Hdr) (watermark : BitVec 256) (clock from_ : Byte) (bulkSize hostBase hostLimit : Word)
    (lines : List LineFind := [])
  /-- STOP_CONTEXT_AT_EDGE. R556: FORM 0 -/
  | stopContextAtEdge (h : Hdr)
  /-- STOP_CONTEXT_AT_QUIET. R556: FORM 1 -/
  | stopContextAtQuiet (h : Hdr)
  /-- CHECKPOINT. R668 -/
  | checkpoint (h : Hdr) (mirror sm4 : Byte) (peerDevice : Half) (peerWindow : Byte) (hostAddr hostLen : DWord)
  /-- CHECKPOINT_TIMEOUT. R668 -/
  | checkpointTimeout (job : Nat)
  /-- RESTORE. R880 -/
  | restore (h : Hdr) (source : Byte) (hostAddr sequence : DWord)
  /-- RECONFIGURE_DRAIN. R288, R290 -/
  | reconfigureDrain (h : Hdr) (ruling configId : Byte) (stroke : DWord)
  /-- RECONFIGURE_DISCARD. R288, R289 -/
  | reconfigureDiscard (h : Hdr) (ruling configId : Byte) (stroke : DWord)
  /-- SELECT_VARIANT. R233 -/
  | selectVariant (h : Hdr) (index : Byte)
  /-- DMA. R560 -/
  | dma (h : Hdr) (hostAddr devAddr : DWord) (len : Word) (dir : Byte)
  /-- DMA_TRANSFER_DONE. R560: the host data of a DMA to the device, empty for one to the host; none where the host refuses;
  `poison` the bytes of host data that arrive poisoned (R456), `errs` and `split` what the device's accesses find by address,
  `lost` as for BAR2_WRITE; `lines`: what the other reads of bulk lines find, and the read links (R449, R450, R452) -/
  | dmaTransferDone (job : Nat) (data : Option (List Byte)) (errs : List (DWord × Ecc)) (lost : List Nat) (poison : List Nat := [])
    (split : List DWord := []) (lines : List LineFind := [])
  /-- SEQ_OPEN. R472, R483 -/
  | seqOpen (h : Hdr) (slot log2 tier : Byte) (base pages : Half)
  /-- SEQ_FORK. R484; `lines` as for MC_REQUEST -/
  | seqFork (h : Hdr) (parent child : Byte) (pos : Word) (tbl : List (BitVec 22 × Ecc) := []) (lines : List LineFind := [])
  /-- SEQ_REWIND. R484; `lines` as for MC_REQUEST -/
  | seqRewind (h : Hdr) (slot : Byte) (pos : Word) (tbl : List (BitVec 22 × Ecc) := []) (lines : List LineFind := [])
  /-- SEQ_ACCEPT. R484; `lines` as for MC_REQUEST -/
  | seqAccept (h : Hdr) (parent child : Byte) (tbl ctbl : List (BitVec 22 × Ecc) := []) (lines : List LineFind := [])
  /-- SEQ_CLOSE. R484; `lines` as for MC_REQUEST -/
  | seqClose (h : Hdr) (slot : Byte) (tbl : List (BitVec 22 × Ecc) := []) (lines : List LineFind := [])
  /-- SYNC_OP_SET. R561, R363 -/
  | syncOpSet (h : Hdr) (scope cluster : Byte) (index : Half) (val : Word)
  /-- SYNC_OP_ADD. R561, R363 -/
  | syncOpAdd (h : Hdr) (scope cluster : Byte) (index : Half) (val : Word)
  /-- SYNC_OP_READ. R561 -/
  | syncOpRead (h : Hdr) (scope cluster : Byte) (index : Half)
  /-- SYNC_OP_WAIT_GE. R561 -/
  | syncOpWaitGe (h : Hdr) (scope cluster : Byte) (index : Half) (val timeoutMs : Word)
  /-- SYNC_OP_WAIT_END. R561: the wait's condition holds or its time passes -/
  | syncOpWaitEnd (job : Nat)
  /-- OPEN_WINDOW. R610, R611 -/
  | openWindow (h : Hdr) (desc : List Byte)
  /-- CLOSE_WINDOW. R612 -/
  | closeWindow (h : Hdr) (w : Byte)
  /-- SET_ROUTE. R605 -/
  | setRoute (h : Hdr) (dest : Half) (entry : Word)
  /-- PORT_DISABLE. R590 -/
  | portDisable (h : Hdr) (port : Byte)
  /-- PORT_ENABLE. R590 -/
  | portEnable (h : Hdr) (port : Byte)
  /-- PORT_RETRAIN. R593 -/
  | portRetrain (h : Hdr) (port : Byte)
  /-- LANE_CLEAR. R599 -/
  | laneClear (h : Hdr) (port lane : Byte)
  /-- BIST_LOGIC. R812 -/
  | bistLogic (h : Hdr)
  /-- BIST_INKWELL_MARCH. R812 -/
  | bistInkwellMarch (h : Hdr)
  /-- BIST_LPDDR_QUICK. R812 -/
  | bistLpddrQuick (h : Hdr)
  /-- BIST_LPDDR_FULL. R812 -/
  | bistLpddrFull (h : Hdr)
  /-- BIST_DONE. R813, R814; `cal`: the latencies measured after a logic BIST -/
  | bistDone (job : Nat) (found : List BistFinding) (cal : List XCal)
  /-- GET_MORAINE. R699 -/
  | getMoraine (h : Hdr) (r : Reply) (portion : Byte)
  /-- LOAD_FIRN_PATTERNS. R682, R683 -/
  | loadFirnPatterns (h : Hdr) (hostAddr : DWord) (len : Word) (pack : Option (List Byte))
  /-- REPLAY_SUSPECTS. R708 -/
  | replaySuspects (h : Hdr)
  /-- SUSPECT_RUN_END. R709; `cal`: the latencies that the reset after a hang measures -/
  | suspectRunEnd (p : Fin 4) (hung : Bool) (cal : List XCal)
  /-- GET_HEALTH. R726 -/
  | getHealth (h : Hdr) (r : Reply)
  /-- RETURN_TO_SERVICE. R716 -/
  | returnToService (h : Hdr) (kind index : Byte)
  /-- POWER_STATE_RUN. R787; `cal`: the latencies measured as the partition comes on (R205, R793) -/
  | powerStateRun (h : Hdr) (cal : List XCal)
  /-- POWER_STATE_IDLE. R787 -/
  | powerStateIdle (h : Hdr) (cal : List XCal)
  /-- POWER_STATE_RETAIN. R790 -/
  | powerStateRetain (h : Hdr)
  /-- POWER_STATE_DORMANT. R792 -/
  | powerStateDormant (h : Hdr)
  /-- DOMAIN_ON. R795 -/
  | domainOn (h : Hdr) (domain : Byte)
  /-- DOMAIN_OFF. R45, R795 -/
  | domainOff (h : Hdr) (domain : Byte)
  /-- DOMAIN_RAMP_DONE. R796 -/
  | domainRampDone (domain : BitVec 6)
  /-- RESET_PARTITION. R706, R707 -/
  | resetPartition (h : Hdr) (cal : List XCal)
  /-- SET_POWER_CAP. R563, R799 -/
  | setPowerCap (h : Hdr) (capW : Half)
  /-- ATTEST. R825 -/
  | attest (h : Hdr) (r : Reply) (nonce : BitVec 256)
  /-- FW_STAGE. R831 -/
  | fwStage (h : Hdr) (hostAddr : DWord) (len : Word) (image : Option (List Byte))
  /-- FW_COMMIT. R832 -/
  | fwCommit (h : Hdr)
  /-- FW_COMMIT_RESET. R832: the device reset that follows a commit -/
  | fwCommitReset 
  /-- RECORD_READ. R840 -/
  | recordRead (h : Hdr) (r : Reply) (rtype index : Half)
  /-- METER_READ. R868 -/
  | meterRead (h : Hdr) (r : Reply)
  /-- METER_STAMP_START. R866 -/
  | meterStampStart (h : Hdr) (r : Reply) (jobId : DWord)
  /-- METER_STAMP_END. R867 -/
  | meterStampEnd (h : Hdr) (r : Reply) (jobId : DWord)
  /-- LOCKSTEP_PAIR. R749 -/
  | lockstepPair (h : Hdr) (port : Byte) (peer : Half)
  /-- LOCKSTEP_PAIR_TIMEOUT. R749 -/
  | lockstepPairTimeout (job : Nat)
  /-- LOCKSTEP_RELEASE. R760 -/
  | lockstepRelease (h : Hdr)
  /-- DEBUG_DUMP. R762, R763 -/
  | debugDump (h : Hdr) (r : Reply) (what cluster : Byte) (find : List (DWord × Ecc) := []) (split : List DWord := [])
  -- Board controller, DOE, SPDM, IDE (09, 14)
  /-- MCTP_COMMAND_REQUEST. R568: `cal`: the latencies that a partition it brings up or resets measures (R205) -/
  | mctpCommandRequest (msg : List Byte) (cal : List XCal)
  /-- MCTP_CONTROL_MESSAGE. R567 -/
  | mctpControlMessage (msg : List Byte)
  /-- I3C_ADDRESS_ASSIGN. R566 ENTDAA, or SETDASA to the static address `static_` -/
  | i3cAddressAssign (addr : BitVec 7) (static_ : Option (BitVec 7) := none)
  /-- DOE_DISCOVERY. R519 -/
  | doeDiscovery (fn : Fin 6) (index : Byte)
  /-- SPDM_REQUEST. R519, R826 -/
  | spdmRequest (ch : SpdmChannel) (msg : List Byte)
  /-- SPDM_GET_MEASUREMENTS. R826, R827 -/
  | spdmGetMeasurements (ch : SpdmChannel) (op : Byte) (nonce : Option (BitVec 256))
  /-- IDE_KM_KEY_SETUP. R520; the key, and whether the stream is stopped -/
  | ideKmKeySetup (fn : Fin 6) (stream : IdeStream) (ok : Bool) (key : BitVec 256 := 0) (stop : Bool := false)
  -- Fabric (10)
  /-- PORT_DETECT_POLL. R584, R590: whether the engine's laser input has light, the lanes with light and signal -/
  | portDetectPoll (f : Fin 16) (laser : Bool) (light : BitVec 5)
  /-- EQUALISE_DONE. R590 -/
  | equaliseDone (f : Fin 16) (locked : BitVec 5)
  /-- ALIGN_DONE. R591: the lanes that pass, whether the other direction chose width 2 -/
  | alignDone (f : Fin 16) (aligned : BitVec 5) (peerNarrow : Bool)
  /-- EXCHANGE_DONE. R592, R600 to R603: the block received (R631) -/
  | exchangeDone (f : Fin 16) (block : List Byte)
  /-- TRAINING_TIMEOUT. R590 -/
  | trainingTimeout (f : Fin 16)
  /-- LANE_LOCK_LOSS. R593 -/
  | laneLockLoss (f : Fin 16) (lane : BitVec 3)
  /-- RETRAIN_DONE. R590, R591, R594, R602: the lanes that pass EQUALISE and ALIGN, the other direction's width, the block -/
  | retrainDone (f : Fin 16) (passed : BitVec 5) (peerNarrow : Bool) (block : List Byte)
  /-- FLIT_CRC_FAIL. R587, R588 -/
  | flitCrcFail (f : Fin 16) (lane : Option (BitVec 3)) (uncorrectable : Bool)
  /-- FLIT_FORWARD. R606, R607; `tbl`: what the read of the route, window, counter or queue finds (R641) -/
  | flitForward (f : Fin 16) (flit : FabricFlit) (tbl : Ecc := .ok)
  /-- FABRIC_WRITE_RECEIVE. R613 to R617; `tbl`: what the read of the route, window, counter or queue finds (R641) -/
  | fabricWriteReceive (f : Fin 16) (flit : FabricFlit) (tbl : Ecc := .ok)
  /-- FABRIC_ADD_RECEIVE. R621; `tbl`: what the read of the route, window, counter or queue finds (R641) -/
  | fabricAddReceive (f : Fin 16) (flit : FabricFlit) (tbl : Ecc := .ok)
  /-- RECEIPT_RECEIVE. R622 -/
  | receiptReceive (f : Fin 16) (flit : FabricFlit)
  /-- LINK_CONTROL_BLOCK_RECEIVE. R632, R636 to R638: the bytes of the block (R631) -/
  | linkControlBlockReceive (f : Fin 16) (block : List Byte)
  /-- LOCKSTEP_DIGEST_RECEIVE. R749 to R757: the payload (R753) -/
  | lockstepDigestReceive (f : Fin 16) (dg : List Byte)
  /-- LINK_CONTROL_BLOCK_SEND. R631 -/
  | linkControlBlockSend (f : Fin 16)
  /-- WATERMARK_SILENCE. R632 -/
  | watermarkSilence (f : Fin 16)
  /-- CREDIT_STALL_TIMEOUT. R589 -/
  | creditStallTimeout (f : Fin 16) (vl : BitVec 3)
  /-- RECEIPT_TIMEOUT. R622 -/
  | receiptTimeout (entry : Nat)
  /-- TIME_SOURCE_TIMEOUT. R636, R638 -/
  | timeSourceTimeout 
  /-- MARGIN_TELEMETRY. R640, R778 -/
  | marginTelemetry (sample : MarginSample)
  /-- EDGE_REMOTE_WRITE. R606 to R609; `tbl`: what the read of the route, window, counter or queue finds (R641) -/
  | edgeRemoteWrite (f : Fin 16) (src : RulingSlot) (parity : Option ParityHit) (tbl : Ecc := .ok)
  /-- RING_DESCRIPTOR_START. R626: what the reads of the descriptor and its source find by address (R449, R450); `lines`:
  what the other reads of bulk lines find, and the read links (R449, R450, R452); `tbl`: what the read of the ring finds (R641) -/
  | ringDescriptorStart (r : BitVec 6) (errs : List (DWord × Ecc)) (lines : List LineFind := []) (tbl : Ecc := .ok)
  -- Faults and healing (04, 05, 06, 10, 11)
  /-- STROKE_OVERRUN_SUMMARY. R188 -/
  | strokeOverrunSummary (p : Fin 4)
  /-- STALE_TOKEN_EVENT. R299 -/
  | staleTokenEvent (p : Fin 4)
  /-- ORPHAN_SEND_EVENT. R335 -/
  | orphanSendEvent (p : Fin 4)
  /-- WINDOW_DROP_EVENT. R643 -/
  | windowDropEvent 
  /-- CORRECTED_ERROR_EVENT. R656 -/
  | correctedErrorEvent 
  /-- HEARTBEAT_MISS. R700 -/
  | heartbeatMiss 
  /-- QUILL_RESTART_DONE. R700, R701 -/
  | quillRestartDone 
  /-- STROKE_WATCH_EXPIRY. R703 -/
  | strokeWatchExpiry (p : Fin 4) (cal : List XCal)
  /-- HOLD_WATCH_EXPIRY. R703 -/
  | holdWatchExpiry (p : Fin 4) (cal : List XCal)
  /-- DRIFT_SAMPLE. R671 -/
  | driftSample (k : Fin 48)
  /-- DRIFT_COMPARE. R674: the signatures the spares give; what their reads of the operands find, by unit (R135) -/
  | driftCompare (k : Fin 48) (runA runB : DWord) (eccA eccB : List (Nat × Ecc) := [])
  /-- PATROL_PATTERN_START. R678 -/
  | patrolPatternStart (core : Fin 1536)
  /-- PATROL_PATTERN_END. R679, R680; `ecc` is what the reads of the result find, by unit (R135) -/
  | patrolPatternEnd (core : Fin 1536) (pass : Bool) (crc : DWord) (ecc : List (Nat × Ecc) := [])
  /-- CORE_REMAP. R687 -/
  | coreRemap (core : Fin 1536)
  /-- CONTEXT_RESTART. R657 to R662; `lines`: what the other reads of bulk lines find, and the read links (R449, R450, R452) -/
  | contextRestart (c : Fin 16) (lines : List LineFind := [])
  /-- CHECKPOINT_COMMIT. R665; `find` and `split` are what the Quill's reads find, by address (R422, R424, R473) -/
  | checkpointCommit (c : Fin 16) (find : List (DWord × Ecc) := []) (split : List DWord := [])
  /-- CHECKPOINT_MIRROR_DONE. R669, R628 -/
  | checkpointMirrorDone (job : Nat) (ok : Bool)
  /-- HEALTH_HOURLY. R717 -/
  | healthHourly 
  -- Clocks, power, start-up (13, 14)
  /-- REFERENCE_LOSS. R783 to R785, R814: the cause, the µs to the switch, the latencies that a RUN_BIST it ends measures -/
  | referenceLoss (cause : Byte) (us : Word) (cal : List XCal)
  /-- REFERENCE_RESTORED. R786: the offset of the reference from holdover in ppb -/
  | referenceRestored (ppb : Word)
  /-- POWER_CAP_TICK. R800 -/
  | powerCapTick (watts : Half)
  /-- THERMAL_SAMPLE. R804 -/
  | thermalSample (sensor : ThermSensor) (temp : BitVec 16)
  /-- THERMAL_THROTTLE_STEP. R804 -/
  | thermalThrottleStep 
  /-- THERMAL_HOLD_RELEASE. R804 -/
  | thermalHoldRelease (east : Bool) (cal : List XCal)
  /-- STARTUP. R806 -/
  | startup (boot : BootInput)
  /-- RECOVERY_GO. R830 -/
  | recoveryGo 
  /-- RECOVERY_TIMEOUT. R830 -/
  | recoveryTimeout 
  -- Power entry and meter (15)
  /-- INPUT_RISE. R847, R850 -/
  | inputRise (mv : BitVec 17)
  /-- INPUT_LOW_WARN. R847 -/
  | inputLowWarn (mv : BitVec 17)
  /-- INPUT_UNDERVOLTAGE_OFF. R847 -/
  | inputUndervoltageOff (mv : BitVec 17)
  /-- INPUT_OVERVOLTAGE_OFF. R847 -/
  | inputOvervoltageOff (mv : BitVec 17)
  /-- OVERCURRENT_LATCH. R847 -/
  | overcurrentLatch (ma : BitVec 17)
  /-- LATCH_CLEAR. R847 -/
  | latchClear (mv : BitVec 17)
  /-- PEAK_LIMIT. R847, R848, R852: the averages over 100 µs, the cycles stretched in it -/
  | peakLimit (ma : BitVec 16) (watts : Half) (cycles : Half)
  /-- METER_PERIODIC_READING. R861 -/
  | meterPeriodicReading (mv : BitVec 17) (ma : BitVec 16)
  /-- METER_SEAL_OPEN. R869 -/
  | meterSealOpen 
  /-- METER_RESEAL. R869: whether the command's signature verifies -/
  | meterReseal (ok : Bool)
  /-- METER_FW_UPDATE. R870: whether the package's signature verifies -/
  | meterFwUpdate (version : Word) (ok : Bool)
  /-- METER_SELF_FAULT. R872 -/
  | meterSelfFault
  /-- METER_NO_ANSWER. R873 -/
  | meterNoAnswer 
  /-- EM_REFRESH. R875 -/
  | emRefresh 
  /-- INPUT_RETURN_TO_RANGE. R873 -/
  | inputReturnToRange (mv : BitVec 17)
  /-- INPUT_ABOVE_RANGE. R873 -/
  | inputAboveRange (mv : BitVec 17)
  /-- DOMAIN_SUPPLY_FAILURE. R653 -/
  | domainSupplyFailure (k : Fin 48) (cal : List XCal)
  /-- SUPPLY_OUT_OF_TOLERANCE. R677, R807, R814: of a region, by more than 2 percent, or 3 where `wide` -/
  | supplyOutOfTolerance (r : Fin 8) (wide : Bool) (cal : List XCal)
  /-- DORMANT_HOST_INTERFACE_OFF. R792 -/
  | dormantHostInterfaceOff 
  /-- FW_COMMIT_WRITE_DONE. R832 -/
  | fwCommitWriteDone
  /-- RESTORE_MIRROR_COPY_DONE. R880 -/
  | restoreMirrorCopyDone (job : Nat) (image : Option (List Byte))
  /-- HOST_READ_COMPLETION. R517, R518 -/
  | hostReadCompletion (core : Fin 1536) (data : Option (List Byte)) (poisoned : Bool)
  /-- PCIE_CONFIG_WRITE. R518 -/
  | pcieConfigWrite (fn : Fin 6) (w : ConfigWrite)
  /-- PCIE_LINK_STATE_CHANGE. R574; `ideFail`: the IDE streams whose integrity check failed (R520) -/
  | pcieLinkStateChange (st : HostLink) (ideFail : List IdeStream := [])
  deriving DecidableEq, Repr

end Sys2Proof
end

