-- ==== Sys2Proof/Decode.lean ====
section
/-!
DEFINITION. The command that a word spells by the bits of the opcode table: no row of this hardware's table gives bits, its
commands reach the block as requests with operands. And the core instruction that a word of an instruction store spells (03
R140 to R143), with its encoder.
-/
namespace Sys2Proof

/-- The command a word of the opcode table spells: none, since no row has bits. -/
def decodeTableWord (nbits w : Nat) : Option Instr :=
  match nbits, w with
  | _, _ => none

/-! ### The fields of an instruction word (R140) -/

/-- OP, bits [31:26]. -/
def opOf (w : Word) : BitVec 6 := w.extractLsb' 26 6
/-- rd, or rs1 of format B, or ra: bits [25:20]. -/
def fieldA (w : Word) : BitVec 6 := w.extractLsb' 20 6
/-- rs1, or rs2 of format B, or rb of format Q: bits [19:14]. -/
def fieldB (w : Word) : BitVec 6 := w.extractLsb' 14 6
/-- rs2, or rb of format M: bits [13:8]. -/
def fieldC (w : Word) : BitVec 6 := w.extractLsb' 8 6
/-- imm14 of format I. -/
def imm14Of (w : Word) : BitVec 14 := w.extractLsb' 0 14
/-- target of format B. -/
def targetOf (w : Word) : BitVec 12 := w.extractLsb' 0 12
/-- BANK of formats M and D. -/
def bankOf (w : Word) : Bool := w.getLsbD 24
/-- Q of format Q. -/
def qOf (w : Word) : BitVec 3 := w.extractLsb' 11 3
/-- N of format Q. -/
def nOf (w : Word) : BitVec 2 := w.extractLsb' 9 2
/-- FN of format Q. -/
def fnQOf (w : Word) : BitVec 3 := w.extractLsb' 6 3
/-- FN of format V. -/
def fnVOf (w : Word) : BitVec 6 := w.extractLsb' 0 6
/-- The entry cycle of a SECT (R142): OFFSET [7:6] in [10:9], OFFSET [5:0] in [5:0]. -/
def sectOffset (w : Word) : Byte := nOf w ++ (w.extractLsb' 0 6 : BitVec 6)

/-! ### The core instruction of a word (R141, R142) -/

/-- A SECT, by its FN; the values 4 to 7 are reserved. -/
def decodeSect (a : Issue) (w : Word) : Instr :=
  match fnQOf w with
  | 0 => .sectRuledNext a (sectOffset w)
  | 1 => .sectRuledAt a (fieldB w) (sectOffset w)
  | 2 => .sectRuledHold a (fieldA w) (fieldB w) (sectOffset w)
  | 3 => .sectFree a (sectOffset w)
  | _ => .illegal a

/-- A SYNC, by its FN; the values 4 to 7 are reserved. -/
def decodeSync (a : Issue) (w : Word) : Instr :=
  match fnQOf w with
  | 0 => .syncSet a (fieldA w) (fieldB w)
  | 1 => .syncAdd a (fieldA w) (fieldB w)
  | 2 => .syncWaitGe a (fieldA w) (fieldB w)
  | 3 => .syncRadd a (fieldA w) (fieldB w)
  | _ => .illegal a

/-- A vector instruction of format V with OP 0x2A to 0x2F. -/
def decodeV (a : Issue) (op : Nat) (w : Word) : Instr :=
  let d : BitVec 5 := w.extractLsb' 21 5
  let x : BitVec 5 := w.extractLsb' 16 5
  let y : BitVec 5 := w.extractLsb' 11 5
  let z : BitVec 5 := w.extractLsb' 6 5
  let f := fnVOf w
  match op with
  | 0x2A => .vfp a d x y z f none
  | 0x2B => .vint a d x y z f none
  | 0x2C => if f.getLsbD 4 then .mxq a d x y z (w.extractLsb' 0 4) (f.getLsbD 5) none else .vcvt a d x y z f none
  | 0x2D => .vred a d x y z f none
  | 0x2E => .vtr a d x y z f none
  | _ => .vmov a d x y z f none

/-- The command that stands for the instruction word `w` issued at `a`, where nothing is found in what it reads: opcode 0 and
every OP that R142 does not list are reserved. A reserved FN or code of another instruction is refused by that
instruction's meaning (R141). -/
def decodeCore (a : Issue) (w : Word) : Instr :=
  match (opOf w).toNat with
  | 0x01 => .alu a (fieldA w) (fieldB w) (fieldC w) (w.extractLsb' 0 8)
  | 0x02 => .addi a (fieldA w) (fieldB w) (imm14Of w)
  | 0x03 => .andi a (fieldA w) (fieldB w) (imm14Of w)
  | 0x04 => .ori a (fieldA w) (fieldB w) (imm14Of w)
  | 0x05 => .shi a (fieldA w) (fieldB w) (imm14Of w)
  | 0x06 => .lui a (fieldA w) (w.extractLsb' 0 20)
  | 0x07 => .rdsys a (fieldA w) (imm14Of w)
  | 0x08 => .ldw a (fieldA w) (fieldB w) (imm14Of w) .ok
  | 0x09 => .stw a (fieldA w) (fieldB w) (imm14Of w)
  | 0x0C => .beq a (fieldA w) (fieldB w) (targetOf w)
  | 0x0D => .bne a (fieldA w) (fieldB w) (targetOf w)
  | 0x0E => .blt a (fieldA w) (fieldB w) (targetOf w)
  | 0x0F => .bge a (fieldA w) (fieldB w) (targetOf w)
  | 0x10 => .jmp a (fieldA w) (targetOf w)
  | 0x11 => .jr a (fieldB w)
  | 0x12 => .loop a (fieldA w) (targetOf w)
  | 0x14 => decodeSect a w
  | 0x15 => .halt a
  | 0x20 => .mma a (w.getLsbD 25) (bankOf w) (w.extractLsb' 14 10) (fieldC w) .none []
  | 0x21 => .drain a (bankOf w) (w.extractLsb' 20 4) (fieldB w) (fieldC w) .none
  | 0x22 => .accSave a (bankOf w) (fieldB w) .none
  | 0x23 => .accLoad a (bankOf w) (fieldB w) []
  | 0x28 => .vld a (w.extractLsb' 20 5) (fieldB w) (imm14Of w) []
  | 0x29 => .vst a (w.extractLsb' 20 5) (fieldB w) (imm14Of w) none
  | 0x2A => decodeV a 0x2A w
  | 0x2B => decodeV a 0x2B w
  | 0x2C => decodeV a 0x2C w
  | 0x2D => decodeV a 0x2D w
  | 0x2E => decodeV a 0x2E w
  | 0x2F => decodeV a 0x2F w
  | 0x30 => .xfer a (fieldA w) []
  | 0x38 => .send a (fieldA w) (fieldB w) (nOf w)
  | 0x39 => .recv a (fieldA w) (fieldB w) (qOf w) (nOf w)
  | 0x3A => .select a (fieldA w) (fieldB w)
  | 0x3B => .qstat a (fieldA w) (qOf w) (fnQOf w) (w.extractLsb' 0 6)
  | 0x3C => .steer a (fieldA w) (w.extractLsb' 11 2)
  | 0x3D => decodeSync a w
  | 0x3E => .landwait a (fieldA w) (fieldB w)
  | _ => .illegal a

/-! ### The encoder -/

/-- Format R. -/
def wordR (op rd rs1 rs2 : BitVec 6) (fn : Byte) : Word := op ++ rd ++ rs1 ++ rs2 ++ fn
/-- Format I. -/
def wordI (op rd rs1 : BitVec 6) (imm : BitVec 14) : Word := op ++ rd ++ rs1 ++ imm
/-- Format B. -/
def wordB (op rs1 rs2 : BitVec 6) (target : BitVec 12) : Word := op ++ rs1 ++ rs2 ++ (0 : BitVec 2) ++ target
/-- Format D. -/
def wordD (op : BitVec 6) (bank : Bool) (dfmt : BitVec 4) (rs1 rs2 : BitVec 6) : Word :=
  op ++ (0 : BitVec 1) ++ BitVec.ofBool bank ++ dfmt ++ rs1 ++ rs2 ++ (0 : BitVec 8)
/-- Format V. -/
def wordV (op : BitVec 6) (d x y z : BitVec 5) (f : BitVec 6) : Word := op ++ d ++ x ++ y ++ z ++ f
/-- Format Q. -/
def wordQ (op ra rb : BitVec 6) (q : BitVec 3) (n : BitVec 2) (fn : BitVec 3) (off : BitVec 6) : Word :=
  op ++ ra ++ rb ++ q ++ n ++ fn ++ off
/-- A SECT with its entry cycle split (R142). -/
def wordSect (fn : BitVec 3) (ra rb : BitVec 6) (off : Byte) : Word :=
  wordQ 0x14 ra rb 0 (off.extractLsb' 6 2) fn (off.extractLsb' 0 6)

/-- The word of a core instruction, reserved fields zero (R140, R142); none for a command that is no core instruction. What
the command's reads find stands in no word. -/
def encodeCore (i : Instr) : Option Word :=
  match i with
  | .illegal _ => some 0
  | .alu _ rd rs1 rs2 fn => some (wordR 0x01 rd rs1 rs2 fn)
  | .addi _ rd rs1 imm => some (wordI 0x02 rd rs1 imm)
  | .andi _ rd rs1 imm => some (wordI 0x03 rd rs1 imm)
  | .ori _ rd rs1 imm => some (wordI 0x04 rd rs1 imm)
  | .shi _ rd rs1 imm => some (wordI 0x05 rd rs1 imm)
  | .lui _ rd imm => some ((0x06 : BitVec 6) ++ rd ++ imm)
  | .rdsys _ rd imm => some (wordI 0x07 rd 0 imm)
  | .ldw _ rd rs1 imm _ => some (wordI 0x08 rd rs1 imm)
  | .stw _ rd rs1 imm => some (wordI 0x09 rd rs1 imm)
  | .beq _ rs1 rs2 t => some (wordB 0x0C rs1 rs2 t)
  | .bne _ rs1 rs2 t => some (wordB 0x0D rs1 rs2 t)
  | .blt _ rs1 rs2 t => some (wordB 0x0E rs1 rs2 t)
  | .bge _ rs1 rs2 t => some (wordB 0x0F rs1 rs2 t)
  | .jmp _ rs1 t => some (wordB 0x10 rs1 0 t)
  | .jr _ rs2 => some (wordB 0x11 0 rs2 0)
  | .loop _ rs1 t => some (wordB 0x12 rs1 0 t)
  | .sectRuledNext _ off => some (wordSect 0 0 0 off)
  | .sectRuledAt _ rb off => some (wordSect 1 0 rb off)
  | .sectRuledHold _ ra rb off => some (wordSect 2 ra rb off)
  | .sectFree _ off => some (wordSect 3 0 0 off)
  | .halt _ => some (wordQ 0x15 0 0 0 0 0 0)
  | .mma _ clr bank anchor rb _ _ =>
    some ((0x20 : BitVec 6) ++ BitVec.ofBool clr ++ BitVec.ofBool bank ++ anchor ++ rb ++ (0 : BitVec 8))
  | .drain _ bank dfmt rs1 rs2 _ => some (wordD 0x21 bank dfmt rs1 rs2)
  | .accSave _ bank rs1 _ => some (wordD 0x22 bank 0 rs1 0)
  | .accLoad _ bank rs1 _ => some (wordD 0x23 bank 0 rs1 0)
  | .vld _ d rs1 imm _ => some (wordI 0x28 ((0 : BitVec 1) ++ d) rs1 imm)
  | .vst _ v rs1 imm _ => some (wordI 0x29 ((0 : BitVec 1) ++ v) rs1 imm)
  | .vfp _ d x y z f _ => some (wordV 0x2A d x y z f)
  | .vint _ d x y z f _ => some (wordV 0x2B d x y z f)
  | .vcvt _ d x y z f _ => some (wordV 0x2C d x y z f)
  | .mxq _ d x y z fmt hi _ => some (wordV 0x2C d x y z (BitVec.ofBool hi ++ (1 : BitVec 1) ++ fmt))
  | .vred _ d x y z f _ => some (wordV 0x2D d x y z f)
  | .vtr _ d x y z f _ => some (wordV 0x2E d x y z f)
  | .vmov _ d x y z f _ => some (wordV 0x2F d x y z f)
  | .xfer _ ra _ => some (wordQ 0x30 ra 0 0 0 0 0)
  | .send _ ra rb n => some (wordQ 0x38 ra rb 0 n 0 0)
  | .recv _ ra rb q n => some (wordQ 0x39 ra rb q n 0 0)
  | .select _ ra rb => some (wordQ 0x3A ra rb 0 0 0 0)
  | .qstat _ ra q fn off => some (wordQ 0x3B ra 0 q 0 fn off)
  | .steer _ ra u => some (wordQ 0x3C ra 0 ((0 : BitVec 1) ++ u) 0 0 0)
  | .syncSet _ ra rb => some (wordQ 0x3D ra rb 0 0 0 0)
  | .syncAdd _ ra rb => some (wordQ 0x3D ra rb 0 0 1 0)
  | .syncWaitGe _ ra rb => some (wordQ 0x3D ra rb 0 0 2 0)
  | .syncRadd _ ra rb => some (wordQ 0x3D ra rb 0 0 3 0)
  | .landwait _ ra rb => some (wordQ 0x3E ra rb 0 0 0 0)
  | _ => none

end Sys2Proof
end

