-- ==== Sys2Proof/Config.lean ====
section
/-!
DEFINITION. What the spec leaves open: free values and the algorithms it names without defining them. Every
constant here is opaque, so no proof can see a value.
-/
namespace Sys2Proof

/-- The n-th free value (log 7): a value the spec does not state. The machine draws with a counter of its
state. -/
opaque Config.freeWord : Nat → BitVec 64

/-- SM3 digest of a byte string (GB/T 32905; log 8). -/
opaque Config.sm3 : List Byte → BitVec 256

/-- SM2 signature check (log 8): key number, message, signature. -/
opaque Config.sm2Verify : Nat → List Byte → List Byte → Bool

/-- SM2 signature, r then s (log 8): key number, message. -/
opaque Config.sm2Sign : Nat → List Byte → BitVec 512

/-- HMAC-SM3 under a key of the device (R820, log 8): key number, message. -/
opaque Config.hmac : Nat → List Byte → BitVec 256

/-- Built-in patrol patterns (R678), which the spec does not list: how many there are, and of each the instruction image,
the local store image and ENTRY (log 20). -/
opaque Config.patrolCount : Nat
opaque Config.patrolInstr : Nat → List Byte
opaque Config.patrolLocal : Nat → List Byte
opaque Config.patrolEntry : Nat → BitVec 12

/-- SM4 in the mode the spec names (log 8): key number, bytes. -/
opaque Config.sm4 : Nat → List Byte → List Byte

/-- Decryption that undoes `Config.sm4` (log 8). -/
opaque Config.sm4Open : Nat → List Byte → List Byte

/-- A correctly rounded transcendental result the model does not compute (R107, log 10): function, operand, and
whether the destination is BF16. -/
opaque Config.transcendental : Nat → Word → Bool → Word

/-- Whether that result overflows, underflows, is inexact (R108, R127, log 10). -/
opaque Config.transcendentalFlags : Nat → Word → Bool → BitVec 3

/-- The answer to an SPDM request, which SPDM 1.3 fixes and the spec does not (R519; log 8): a count of the answers, the
request. -/
opaque Config.spdmAnswer : Nat → List Byte → List Byte

/-- The parts a device is built with: serial numbers, certificates, enrolled keys (14; log 8). -/
opaque Config.serial : BitVec 64

/-- The certificates (R823; log 8), by number and firmware measurement: 0 root, 1 device CA, 2 device identity, 3 assembly,
4 alias, 5 meter, 6 to 9 OE0 to OE3. -/
opaque Config.cert : Nat → BitVec 256 → List Byte

/-- SM3 of the boot ROM (R825; log 8). -/
opaque Config.romMeasurement : BitVec 256

/-- The firmware image in flash as made (R828; log 19). -/
opaque Config.factoryImage : List Byte

/-- The body of the OPERATING_POINTS record (R837; log 8). -/
opaque Config.operatingPoints : List Byte

/-- The nominal region supply of a clock setting in mV (R775), from the part's configuration records (log 100). -/
opaque Config.nominalMv : Nat → BitVec 16

/-- The lowest supply in mV at which a cycle at a clock setting meets timing (R776; log 100). -/
opaque Config.lowestMv : Nat → BitVec 16

/-- The guard band of the droop monitors in mV (R776), from the configuration records (log 100). -/
opaque Config.guardMv : BitVec 16

/-- The CRC-32 of a fabric flit over header and payload (R586), of which the spec gives neither polynomial nor start value (log
137): header, payload. -/
opaque Config.flitCrc : Nat → List (BitVec 256) → BitVec 32

/-- The flits that the send queue of a port holds (R609; log 138). -/
opaque Config.sendRoom : Nat

end Sys2Proof
end

