-- ==== Sys2Proof/Machine/CoreState.lean ====
section
/-!
DEFINITION. The state of one core (02, 03, 05, 06, 07): registers, accumulators, queues, channels, steering
units, the transfer engine's channels and the error registers.
-/
namespace Sys2Proof.Machine

/-- CO_STATUS.STATE (R171). -/
inductive CoreSt where
  | off | idle | free | ruled | waitEntry | blocked | halted | frozen
  deriving DecidableEq, Repr

/-- The 3-bit code of CO_STATUS.STATE (R171). -/
def CoreSt.code : CoreSt → Nat
  | .off => 0 | .idle => 1 | .free => 2 | .ruled => 3
  | .waitEntry => 4 | .blocked => 5 | .halted => 6 | .frozen => 7

/-- A first-error register (R124): VALID, MULTI, the other fields at their places in the register, and the
registers captured with it (address and instruction index, R174, R435, R493). -/
structure ErrReg where
  valid : Bool
  multi : Bool
  fields : Word
  addr : DWord
  pc : Word
  deriving DecidableEq, Repr

/-- Nothing recorded. -/
def ErrReg.clear : ErrReg := { valid := false, multi := false, fields := 0, addr := 0, pc := 0 }

/-- A sync counter a core or a hold names, resolved (R355): a counter of a physical cluster or a device-level
counter of this device. -/
inductive Counter where
  | cluster (k : Nat) (i : Nat)
  | device (i : Nat)
  deriving DecidableEq, Repr

/-- What a core in WAIT_ENTRY waits for (R151 to R153), with OFFSET. -/
inductive EntryWait where
  | next (offset : Nat)
  | atStroke (stroke : Word) (offset : Nat)
  | hold (offset : Nat)
  deriving DecidableEq, Repr

/-- A pending stroke-hold request of a core (R153): the counter must reach the value. -/
structure HoldReq where
  counter : Counter
  value : Word
  deriving DecidableEq, Repr

/-- A token (R257), without the bits that are reserved; `sent` is the cycle in which it entered the egress channel or was
delivered to the inbound queue that holds it (R193, R313) and `rank` its place among the deliveries of that cycle (R315):
the LOCAL slice of a ruled delivery, 4 + 4 * unit + output of a steering output, 20 a combining release, 21 the management
network. -/
structure Token where
  pass : Byte
  count : Byte
  repoch : Byte
  cepoch : Byte
  ordinal : Byte
  words : BitVec 2
  last : Bool
  void : Bool
  payload : BitVec 128
  blot : Bool
  sent : Nat := 0
  rank : Nat := 0
  deriving DecidableEq, Repr

/-- One flit slice of data (R196): 256 data bits and the blot it carries; whether it is the request of a host access,
whose bits the spec does not fix (R402, log 99); the cycle in which it entered the FIFO that holds it (R193, R405). -/
structure Flit where
  data : BitVec 256
  blot : Bool
  host : Bool := false
  cycle : Nat := 0
  deriving DecidableEq, Repr

/-- What a BLOCKED core waits for (R142, R321, R324, R325, R361, 10 R618), with what its wake-up needs. -/
inductive BlockedOn where
  | send (chan : Nat) (tok : Token)
  | recv (q : Nat) (ra rb n : Nat)
  | select (ra : Nat) (mask : Byte)
  | waitGe (c : Counter) (value : Word)
  | landwait (window : Nat) (value : Word)
  deriving DecidableEq, Repr

/-- Special state of an anchored accumulator (R78). -/
inductive Special where
  | none | plusInf | minusInf | nan
  deriving DecidableEq, Repr

/-- An anchored accumulator (R70): the running sum T, the term count N, the special state, the flags and the
blot. -/
structure Acc where
  t : BitVec 160
  n : Word
  special : Special
  inexact : Bool
  overflow : Bool
  blot : Bool
  deriving DecidableEq, Repr

/-- A cleared accumulator (R81). -/
def Acc.clear : Acc :=
  { t := 0, n := 0, special := .none, inexact := false, overflow := false, blot := false }

/-- An MMA that waits for its bank's last row read (R85): the operand group it took at issue. -/
structure PendingMma where
  clr : Bool
  bank : Nat
  anchor : Int
  r0 : Word
  r1 : Word
  r2 : Word
  r3 : Word
  deriving DecidableEq, Repr

/-- The operand group of an MMA (R143). -/
structure MmaArgs where
  aAddr : Nat
  bAddr : Nat
  aScale : Nat
  bScale : Nat
  fa : Nat
  fb : Nat
  k : Nat
  deriving DecidableEq, Repr

/-- A write to the core's local store that is still to be made, within one 32-byte unit: its cycle, its port ranked as
R134 ranks them (1 scalar, 2 MSU, 3 TE, 4 VE, 5 ME; 0 the blot that a read of the cycle leaves, R135), its local store
address, bytes and blot. -/
structure LsWrite where
  cycle : Nat
  port : Nat
  addr : Nat
  bytes : List Byte
  blot : Bool
  deriving DecidableEq, Repr

/-- What the ME is doing with a bank that is not yet in the accumulators: an MMA reads one reduction block of its
operands after the other (R881), an ACC_LOAD four records a cycle (R110), each from its start on. -/
inductive MeRun where
  | mma (start : Nat) (args : MmaArgs) (clr : Bool) (bank : Nat) (anchor : Int)
  | load (start : Nat) (bank : Nat) (addr : Nat)
  deriving DecidableEq, Repr

/-- A vector register write that is not complete before its register can be read (R110): that cycle, the register, and what
its lanes held before, which stands where the core stops first (R165). -/
structure VecWrite where
  ready : Nat
  reg : Nat
  before : List (Word × Bool)
  deriving DecidableEq, Repr

/-- The timed part of a core's local store and engines (R134, R148, R110): writes to be made, in the order in which they take
effect, the ME operation under way, the vector register writes that can still be stopped. -/
structure CoreLs where
  flight : List LsWrite
  run : Option MeRun
  vwrites : List VecWrite
  deriving DecidableEq, Repr

/-- What happens in a core in a later cycle than the command that causes it. -/
inductive DueKind where
  /-- the token of a SEND enters a ruled egress channel (R277, R318); the index of the SEND -/
  | send (chan : Nat) (tok : Token) (pc : BitVec 12)
  /-- the token of a SEND leaves on a free channel (R263, R321) -/
  | leave (chan : Nat) (tok : Token)
  /-- an output of a fired set enters what the unit's configuration binds it to (R277) -/
  | out (unit m : Nat) (cfg : Word) (tok : Token)
  /-- STEER writes its control entry (R269) -/
  | ctl (unit : Nat) (tok : Token)
  /-- flits of an access of a transfer enter a TE egress channel (R406, R409); the index of the XFER -/
  | flits (chan : Nat) (fs : List Flit) (pc : BitVec 12)
  deriving DecidableEq, Repr

/-- Something due in a cycle; `rank` orders what is due in one cycle (R277): 4 * unit + output, then 16 for the rest. -/
structure Due where
  cycle : Nat
  rank : Nat
  what : DueKind
  deriving DecidableEq, Repr

/-- Whether something due comes before another, or with it. -/
def Due.before (a b : Due) : Bool := decide (a.cycle < b.cycle) || (decide (a.cycle = b.cycle) && decide (a.rank ≤ b.rank))

/-- Put something due in its place. -/
def Due.into (d : Due) (l : List Due) : List Due :=
  match l with
  | [] => [d]
  | e :: r => if e.before d then e :: d.into r else d :: e :: r

/-- The first MMA with CLR and K ≤ 2,048 of a sampling period (R671): its bank and the local store ranges of its
operands. -/
structure MmaTrace where
  bank : Nat
  ranges : List (Nat × Nat)
  deriving DecidableEq, Repr

/-- Registers and stores of a core (R130). `vreg` and `vblot` are indexed 32 * v + lane. -/
structure CoreRegs where
  sreg : Tbl Word
  sblot : Tbl Bool
  vreg : Tbl Word
  vblot : Tbl Bool
  istore : Tbl Word
  deriving DecidableEq, Repr

/-- Control state of a core: state, role, program counter and what it waits for. `cyc` is the cycle of its
next issue (stroke * 256 + cycle), `skew` what is to be added to it to get the cycle within the stroke that RDSYS reads
in a free section, none while that is not fixed (R147, R150), `sectFn` the FN of the SECT that began its section (R168); the maps beneath say from which cycle a register, an engine or an
accumulator bank can be used (R148, R110), which R149 tests. -/
structure CoreCtl where
  st : CoreSt
  context : Option Nat
  pc : BitVec 12
  pastEnd : Bool
  patrol : Bool
  fenced : Bool
  lcluster : Byte
  lcore : Byte
  entry : Option EntryWait
  hold : Option HoldReq
  blockedOn : Option BlockedOn
  cyc : Nat
  skew : Option Nat
  sectFn : Nat
  sready : Tbl Nat
  vready : Tbl Nat
  deriving DecidableEq, Repr

/-- Engine state: accumulators (index bank * 512 + row * 16 + column), latched anchors, occupancy, the MMA
waiting under R85, and the engine registers (R123 to R127). -/
structure CoreEng where
  acc : Tbl Acc
  anchor : Tbl Int
  meFree : Nat
  veFree : Nat
  vtFree : Nat
  bankRead : Tbl Nat
  pendingMma : Option PendingMma
  sampled : Option MmaTrace
  err : ErrReg
  parityCnt : Half
  residueCnt : Half
  meFlags : BitVec 7
  veFlags : BitVec 6
  deriving DecidableEq, Repr

/-- Error and translation registers of the CO_ block (R173 to R177). `cycle` is that of the last error recorded, with which
another of the same cycle is compared (R166), `was` the state of the core as it stopped. -/
structure CoreErrs where
  err : ErrReg
  cycle : Nat
  was : CoreSt
  lsUncorr : Byte
  lsCorr : Byte
  isUncorr : Byte
  isCorr : Byte
  cmap : Tbl Byte
  bulkBase : Word
  bulkLimit : Word
  hostBase : Word
  hostLimit : Word
  deriving DecidableEq, Repr

/-- A complete steering set waiting to fire (R274), with the cycle in which it completed. -/
structure ReadySet where
  cycle : Nat
  unit : Nat
  input : Nat
  ordinal : Byte
  backEdge : Bool
  deriving DecidableEq, Repr

/-- Steering state (05): configuration, pairing buffers (index 4 * unit + input), ready sets, the first cycle in which
each unit can fire again (R274), the registers R301 to R306. -/
structure CoreSteer where
  cfg : Tbl Word
  buf : Tbl (List Token)
  ready : List ReadySet
  fireFrom : Tbl Nat
  lastOrdinal : Tbl Byte
  clamp : Tbl Bool
  err : ErrReg
  roleEpoch : Byte
  configId : BitVec 4
  chanRepoch : Tbl Byte
  roleCnt : Half
  cfgCnt : Half
  noneSel : BitVec 12
  mergeDrop : BitVec 12
  unusedIn : Byte
  deriving DecidableEq, Repr

/-- Queues and egress channels (06): inbound queues, MSU egress FIFOs, credits, closure, R373 to R375. -/
structure CoreQueues where
  inq : Tbl (List Token)
  qmode : Half
  haltClosed : Bool
  echanFree : Byte
  echan : Tbl (List Token)
  credit : Tbl Nat
  notice : Tbl Bool
  closed : Tbl Bool
  orphans : Tbl Half
  rotate : Bool
  lastSel : BitVec 3
  fdest : Tbl Word
  recvDrop : Half
  sendDrop : Half
  deriving DecidableEq, Repr

/-- What one end of a transfer resolves to (R160, R402 to R404, R480): the own inkwell in its row or column view, a
stream, the own local store, bulk memory, the host, sequence pages (below `tierEnd` an inkwell at `tierBase`, of
the own cluster where `own`), another cluster's inkwell, a remote window. -/
inductive End_ where
  | inkRow | inkCol | stream | local_ | bulk | host | push | remote
  | page (slot : Nat) (tierEnd tierBase : Nat) (own : Bool)
  deriving DecidableEq, Repr

/-- A transfer in progress (R400 to R407): its addresses resolved (R163), the strides, the forms, the next access, the
first cycle in which it can be made and the index of the XFER (R167, R174). -/
structure Xfer where
  pc : BitVec 12
  src : Int
  dst : Int
  srcLog : DWord
  dstLog : DWord
  countI : Nat
  countO : Nat
  srcSI : Int
  srcSO : Int
  dstSI : Int
  dstSO : Int
  srcKind : End_
  dstKind : End_
  chan : Nat
  stream : Nat
  consume : Bool
  rslice : Bool
  o : Nat
  i : Nat
  cycle : Nat
  deriving DecidableEq, Repr

/-- An XFER whose descriptor is being read, in the four cycles after its issue (R148): the local store address, the
cycle of issue, the index of the XFER. -/
structure DescRead where
  addr : Nat
  issued : Nat
  pc : BitVec 12
  deriving DecidableEq, Repr

/-- Transfer engine state (07): the descriptor under way, the transfer, the TE egress channels, the landing streams the mask of
addressed streams (R409, R410), the remote writes emitted and
not yet accepted by a port, by number and header (R608, R620). -/
structure CoreTe where
  desc : Option DescRead
  xfer : Option Xfer
  free : Nat
  chan : Tbl (List Flit)
  stream : Tbl (List Flit)
  addressed : Byte
  farWrites : List (Nat × BitVec 256)
  farNext : Nat
  deriving DecidableEq, Repr

/-- One core. `due` lists what is still to happen in it, in order. -/
structure Core where
  regs : CoreRegs
  ctl : CoreCtl
  eng : CoreEng
  errs : CoreErrs
  steer : CoreSteer
  qs : CoreQueues
  te : CoreTe
  ls : CoreLs
  due : List Due
  deriving DecidableEq, Repr

/-- Registers at reset: every register zero with its blot bit clear (log 2). -/
def CoreRegs.reset : CoreRegs := { sreg := [], sblot := [], vreg := [], vblot := [], istore := [] }

/-- Control state at reset (R171, R172, R170): OFF, no context, a spare. -/
def CoreCtl.reset : CoreCtl :=
  { st := .off, context := none, pc := 0, pastEnd := false, patrol := false, fenced := false,
    lcluster := 0xFF, lcore := 0xFF, entry := none, hold := none, blockedOn := none, cyc := 0, skew := none, sectFn := 0,
    sready := [], vready := [] }

/-- Engine state at reset (R123 to R127; accumulators: log 2). -/
def CoreEng.reset : CoreEng :=
  { acc := [], anchor := [], meFree := 0, veFree := 0, vtFree := 0, bankRead := [], pendingMma := none, sampled := none,
    err := .clear, parityCnt := 0, residueCnt := 0, meFlags := 0, veFlags := 0 }

/-- Error and translation registers at reset (R173 to R177). -/
def CoreErrs.reset : CoreErrs :=
  { err := .clear, cycle := 0, was := .off, lsUncorr := 0, lsCorr := 0, isUncorr := 0, isCorr := 0, cmap := [],
    bulkBase := 0, bulkLimit := 0, hostBase := 0, hostLimit := 0 }

/-- Steering state at reset (R301 to R306). -/
def CoreSteer.reset : CoreSteer :=
  { cfg := [], buf := [], ready := [], fireFrom := [], lastOrdinal := [], clamp := [], err := .clear, roleEpoch := 0,
    configId := 0, chanRepoch := [], roleCnt := 0, cfgCnt := 0, noneSel := 0, mergeDrop := 0,
    unusedIn := 0 }

/-- Queue state at reset (R370 to R375): every queue closed and empty, LAST_SEL 7. -/
def CoreQueues.reset : CoreQueues :=
  { inq := [], qmode := 0, haltClosed := false, echanFree := 0, echan := [], credit := [], notice := [],
    closed := [], orphans := [], rotate := false, lastSel := 7, fdest := [], recvDrop := 0,
    sendDrop := 0 }

/-- Transfer engine state at reset: no transfer, every FIFO empty. -/
def CoreTe.reset : CoreTe :=
  { desc := none, xfer := none, free := 0, chan := [], stream := [], addressed := 0, farWrites := [],
    farNext := 0 }

/-- Nothing under way in the local store. -/
def CoreLs.reset : CoreLs := { flight := [], run := none, vwrites := [] }

/-- A core at reset. -/
def Core.reset : Core :=
  { regs := .reset, ctl := .reset, eng := .reset, errs := .reset, steer := .reset, qs := .reset,
    te := .reset, ls := .reset, due := [] }

end Sys2Proof.Machine
end

