-- ==== Sys2Proof/Machine/ClusterState.lean ====
section
/-!
DEFINITION. The state of one cluster (04, 06, 07): router, sync counters, combining queues, deadlock detector,
inkwell registers and landings; and of one partition (04, 05): stroke block, epoch block, summaries.
-/
namespace Sys2Proof.Machine

/-- A ruling image (R199). Entry of port code o, slot c, slice l: index o * 1024 + c * 4 + l. -/
structure Ruling where
  portMask : Half
  next : Byte
  repeatStrokes : Word
  entries : Tbl Word
  deriving DecidableEq, Repr

/-- A switch of rulings that awaits its edge (R201, R235): the ruling, its REPEAT position and the stroke it begins. -/
structure RulingSwitch where
  ruling : Nat
  pos : Nat
  stroke : DWord
  deriving DecidableEq, Repr

/-- A LOCAL or edge place that a flit reaches (R192, R195): the place by number, the entry that is active there in that slot, the
slot's cycle (stroke * 256 + slot). -/
structure Arrival where
  place : Nat
  entry : Word
  cycle : Nat
  deriving DecidableEq, Repr

/-- A flit on its way through the rulings (R192, R195, R203, R204): the source entries that sent it, by number; the sender's
stroke and cycle (stroke * 256 + cycle); the flit; the LOCAL and edge places it has reached or reaches in the stroke in progress
and at which it has not been taken in yet; the input slices at which copies arrive in the next stroke, from the
links and crossing FIFOs that hold them at the edge; the input slices of this stroke at which no entry reads it (R293). -/
structure Flight where
  origins : List Nat
  sent : Nat
  flit : Flit
  due : List Arrival
  next : List Nat
  lost : List Nat
  deriving DecidableEq, Repr

/-- A cluster's router (04). `xcal` is indexed by input port code (R248); `taken` lists the entries that have taken a flit
from their source in the stroke in progress (R193, R409), `flying` the flits that its source entries have sent and that have
not reached every place. -/
structure Router where
  active : Nat
  taken : List Nat
  repeatPos : Nat
  rulings : Tbl Ruling
  pending : Option RulingSwitch
  xcal : Tbl (BitVec 4)
  err : ErrReg
  ruleCorr : Byte
  ruleUncorr : Byte
  linkParity : Half
  fenced : Bool
  flying : List Flight
  deriving DecidableEq, Repr

/-- One element of a piece of a combining round: an anchored accumulator or an FP32 sum (R346, R347). -/
structure CqElem where
  acc : Acc
  sum : Word
  started : Bool
  deriving DecidableEq, Repr

/-- One piece of a combining round (R345): its arrivals, the elements (4 or 8), whether every contribution was
void, whether one was blotted. -/
structure CqPiece where
  arrivals : Nat
  elems : Tbl CqElem
  allVoid : Bool
  blot : Bool
  deriving DecidableEq, Repr

/-- A piece with no contribution. -/
def CqPiece.empty : CqPiece := { arrivals := 0, elems := [], allVoid := true, blot := false }

/-- A result piece that waits for its cycle of writing (R349): the piece, that cycle, its token, the flags its drain set. -/
structure CqResult where
  piece : Nat
  cycle : Nat
  tok : Token
  special : Bool
  overflow : Bool
  inexact : Bool
  deriving DecidableEq, Repr

/-- The contributions of one cycle to a combining queue (R348, R349): the cycle, the pieces before it, the contributions with
their places in the order of arrival, and whether one of them completed the round. -/
structure CqCycle where
  cycle : Nat
  before : Tbl CqPiece
  came : List (Nat × Token)
  done : Bool
  deriving DecidableEq, Repr

/-- A cycle before every other, with no contribution. -/
def CqCycle.none : CqCycle := { cycle := 0, before := [], came := [], done := false }

/-- Combining queues (06 R342 to R353): configuration, round in progress (index queue * 8 + piece), results to
be written, statistics, the context that configured each queue. The device-level queues use the same structure (10). -/
structure Combining where
  cfgA : Tbl Word
  cfgB : Tbl Word
  pieces : Tbl CqPiece
  cycles : Tbl CqCycle
  results : Tbl (List CqResult)
  releases : Tbl Half
  flags : Tbl (BitVec 4)
  owner : Tbl Nat
  err : ErrReg
  deriving DecidableEq, Repr

/-- No queue configured. -/
def Combining.reset : Combining :=
  { cfgA := [], cfgB := [], pieces := [], cycles := [], results := [], releases := [], flags := [], owner := [], err := .clear }

/-- The landing in progress of a cluster (R412): the stream it comes from (physical core, stream), its header
and how many data flits are written or dropped. -/
structure Landing where
  core : Nat
  stream : Nat
  header : BitVec 256
  done : Nat
  deriving DecidableEq, Repr

/-- A core-side inkwell write of a compared context (12 R752): context, stroke cycle, logical core, tile offset, view,
blot, the 16 words in delivery order. -/
structure InkWrite where
  ctx : Nat
  cycle : Nat
  lcore : Nat
  offset : Nat
  column : Bool
  blot : Bool
  words : List Word
  deriving DecidableEq, Repr

/-- A core-side inkwell write of checking mode that reads do not see yet (R399): the first cycle in which they do, the view,
the offsets of its 16 words, the words with their blots. -/
structure InkLate where
  visible : Nat
  column : Bool
  offs : List Nat
  words : List (Word × Bool)
  deriving DecidableEq, Repr

/-- An addressed stream whose next landing's header has entered (R412): 8 * physical core + stream, the logical core, the
cycle of entry. -/
structure LandKey where
  key : Nat
  lcore : Nat
  cycle : Nat
  deriving DecidableEq, Repr

/-- Whether a landing is taken before another (R412): by cycle of entry, then logical core, then stream. -/
def LandKey.before (a b : LandKey) : Bool :=
  decide (a.cycle < b.cycle) || (decide (a.cycle = b.cycle) &&
    (decide (a.lcore < b.lcore) || (decide (a.lcore = b.lcore) && decide (a.key % 8 < b.key % 8))))

/-- Put a landing in its place. -/
def landInsert (x : LandKey) (l : List LandKey) : List LandKey :=
  match l with
  | [] => [x]
  | y :: r => if x.before y then x :: y :: r else y :: landInsert x r

/-- A repaired SRAM row of a cluster's inkwell (R426, R694): layer, bank group, row. -/
structure RowRepair where
  layer : Nat
  group : Nat
  row : Nat
  deriving DecidableEq, Repr

/-- Inkwell registers and landing unit (R431 to R436, R410 to R412). `landOrder` lists the addressed streams
whose next landing's header has entered, in the order in which they are taken; `landLeft` counts the data flits of the landing whose header entered each stream last. `writes` lists the writes
of the stroke in progress that a lock-step digest covers, `rows` the row repairs in effect (R426), `late` the writes that reads
do not see yet (R399), `landDead` the streams whose last landing lost its window at an edge before all its flits had come
(R429). -/
structure Ink where
  scrub : Bool
  checking : Bool
  cmap : Tbl Byte
  err : ErrReg
  chkErr : ErrReg
  corr : Half
  uncorr : Half
  passes : BitVec 11
  position : BitVec 21
  winDrop : Half
  collide : Byte
  streamDrop : Byte
  landing : Option Landing
  landOrder : List LandKey
  landLeft : Tbl Nat
  writes : List InkWrite
  rows : List RowRepair
  late : List InkLate
  landDead : List Nat
  deriving DecidableEq, Repr

/-- What was done to a sync counter in one cycle (R359): the cycle, the value before it, the SET of the cluster's cores that
prevails with its logical core, the SET of the management network or the host, the sum of the ADDs; the value that the counter
has been given. -/
structure SyncMark where
  cycle : Nat
  start : Word
  set : Option (Nat × Word)
  far : Option Word
  added : Word
  shown : Word
  deriving DecidableEq, Repr

/-- The value of a counter at the end of the cycle so far (R359). -/
def SyncMark.value (m : SyncMark) : Word := (m.far.getD ((m.set.map (fun e => e.2)).getD m.start)) + m.added

/-- One more operation of a cycle (R359): of the SETs that from the highest logical core prevails, then every ADD counts. -/
def SyncMark.apply (m : SyncMark) (lcore : Nat) (isSet : Bool) (v : Word) : SyncMark :=
  if isSet then
    match m.set with
    | some e => if lcore < e.1 then m else { m with set := some (lcore, v) }
    | none => { m with set := some (lcore, v) }
  else { m with added := m.added + v }

/-- One cluster. `marks` says of each sync counter what was done to it in the last cycle in which something was. -/
structure Cluster where
  router : Router
  sync : Tbl Word
  marks : Tbl SyncMark
  cq : Combining
  ink : Ink
  dlockDetected : Half
  dlockLast : BitVec 6
  deriving DecidableEq, Repr

/-- A router at reset (R247 to R250). -/
def Router.reset : Router :=
  { active := 0, taken := [], repeatPos := 0, rulings := [], pending := none, xcal := [], err := .clear, ruleCorr := 0,
    ruleUncorr := 0, linkParity := 0, fenced := false, flying := [] }

/-- The inkwell block at reset (R431 to R436). -/
def Ink.reset : Ink :=
  { scrub := true, checking := false, cmap := [], err := .clear, chkErr := .clear, corr := 0, uncorr := 0,
    passes := 0, position := 0, winDrop := 0, collide := 0, streamDrop := 0, landing := none,
    landOrder := [], landLeft := [], writes := [], rows := [], late := [], landDead := [] }

/-- A cluster at reset. -/
def Cluster.reset : Cluster :=
  { router := .reset, sync := [], marks := [], cq := .reset, ink := .reset, dlockDetected := 0, dlockLast := 0 }

/-- A stall of a partition at a crossing (R207, R208). -/
inductive Stall where
  | empty | full
  deriving DecidableEq, Repr

/-- A pending RECONFIGURE (R288, R309): form, ruling, CONFIG_ID, the first stroke it may begin (0 at the next
edge), evaluations made, the job that completes it. -/
structure Reconf where
  discard : Bool
  context : Nat
  ruling : Nat
  configId : BitVec 4
  stroke : DWord
  evaluated : Nat
  job : Nat
  deriving DecidableEq, Repr

/-- What an event summary has reported (R188, R299, R335): values at the last event and its time. -/
structure Summary where
  time : Option Nat
  a : Nat
  b : Nat
  c : Nat
  d : Nat
  deriving DecidableEq, Repr

/-- Nothing reported yet. -/
def Summary.none : Summary := { time := .none, a := 0, b := 0, c := 0, d := 0 }

/-- The first orphan send since the last event 0x0062 (R335), with its device time. -/
structure Orphan where
  time : Nat
  lcluster : Byte
  sender : Byte
  dcluster : Byte
  dest : Byte
  deriving DecidableEq, Repr

/-- The orphan send that counts as the first of two (R335): the earlier; at one device time that of the lower logical cluster,
core and channel. -/
def Orphan.first (a b : Orphan) : Orphan :=
  if b.time < a.time ∨ (b.time = a.time ∧ (b.lcluster.toNat * 256 + b.sender.toNat < a.lcluster.toNat * 256 + a.sender.toNat)) then b
  else a

/-- The stroke block of a partition (R251 to R255) and its pauses. `loss` says that the stroke in progress is not exact
(R746). -/
structure Stroke where
  count : DWord
  hiCapture : Word
  seamRatio : BitVec 2
  seamReq : BitVec 2
  seamDeferred : Bool
  seamNext : Option (BitVec 2)
  margin : BitVec 5
  ovrMargin : Word
  ovrEmpty : Word
  ovrFull : Word
  holdCnt : Word
  holdSince : Option Nat
  switches : Half
  noLayout : Bool
  layout : BitVec 3
  stall : Option Stall
  loss : Bool
  deriving DecidableEq, Repr

/-- The epoch block of a partition (R308 to R310). `firstStroke` says that the stroke in progress is the first
of a configuration (R293). -/
structure Epoch where
  epoch : Byte
  configId : BitVec 4
  reconf : Option Reconf
  staleCfg : Word
  staleRole : Word
  reconfDrop : Word
  firstStroke : Bool
  deriving DecidableEq, Repr

/-- What the events 0x0030, 0x0061 and 0x0062 of a partition have counted and reported; `staleMoved` says that NW_STALE_CFG or
NW_STALE_ROLE has changed since the last event 0x0061 (R299), `carry` holds what event 0x0030 has not reported of the counts
before a reset of the partition (R188). -/
structure Reports where
  overrun : Summary
  carry : Summary
  stale : Summary
  orphan : Summary
  cfgTotal : Nat
  roleTotal : Nat
  staleMoved : Bool
  sendTotal : Nat
  recvTotal : Nat
  firstOrphan : Option Orphan
  deriving DecidableEq, Repr

/-- One partition. `ckptPause` is the context whose checkpoint pauses it (R665); `lagHold` the context that
holds it (R754). -/
structure Part where
  stroke : Stroke
  epoch : Epoch
  rep : Reports
  ckptPause : Option Nat
  lagHold : Option Nat
  deriving DecidableEq, Repr

/-- The stroke block at reset (R251 to R255). -/
def Stroke.reset : Stroke :=
  { count := 0, hiCapture := 0, seamRatio := 0, seamReq := 0, seamDeferred := false, seamNext := none,
    margin := 0, ovrMargin := 0, ovrEmpty := 0, ovrFull := 0, holdCnt := 0, holdSince := none,
    switches := 0, noLayout := false, layout := 0, stall := none, loss := false }

/-- The epoch block at reset (R282, R308 to R310). -/
def Epoch.reset : Epoch :=
  { epoch := 0, configId := 0, reconf := none, staleCfg := 0, staleRole := 0, reconfDrop := 0,
    firstStroke := false }

/-- Nothing counted, nothing reported. -/
def Reports.reset : Reports :=
  { overrun := .none, carry := .none, stale := .none, orphan := .none, cfgTotal := 0, roleTotal := 0, staleMoved := false, sendTotal := 0,
    recvTotal := 0, firstOrphan := none }

/-- A partition at reset. -/
def Part.reset : Part :=
  { stroke := .reset, epoch := .reset, rep := .reset, ckptPause := none, lagHold := none }

end Sys2Proof.Machine
end

