-- ==== Sys2Proof/Machine/ContextState.lean ====
section
/-!
DEFINITION. Contexts (09, 11, 12), scrolls (04 R239 to R241), memory controllers, sequence slots and the page
pool (08).
-/
namespace Sys2Proof.Machine

/-- The function lifecycle (R722). -/
inductive Life where
  | off | starting | on | stopping
  deriving DecidableEq, Repr

/-- The code of LIFE (R729). -/
def Life.code : Life → Nat
  | .off => 0 | .starting => 1 | .on => 2 | .stopping => 3

/-- A command held by the lifecycle (R723), by its job number. -/
inductive HeldCmd where
  | enable (job : Nat)
  | disable (job : Nat)
  deriving DecidableEq, Repr

/-- A section of a loaded scroll (R240). -/
structure Section where
  type : Nat
  layout : Nat
  cluster : Nat
  core : Nat
  dest : DWord
  bytes : List Byte
  deriving DecidableEq, Repr

/-- A loaded scroll (R446): its extent, digest, target descriptor fields and sections. -/
structure Scroll where
  base : Nat
  size : Nat
  digest : BitVec 256
  margin : BitVec 5
  detFast : Bool
  checking : Bool
  mode : Nat
  target : Nat
  clusters : Nat
  layouts : Nat
  sections : List Section
  deriving DecidableEq, Repr

/-- A pending CHECKPOINT (R664, R668): its job, the mirror it asks for. -/
structure CkptCmd where
  job : Nat
  mirror : Nat
  sm4 : Bool
  peerDevice : Half
  peerWindow : Nat
  hostAddr : DWord
  hostLen : DWord
  deriving DecidableEq, Repr

/-- A checkpoint being written (R665): image slot by part, SEQUENCE, the stroke it resumes, the quiet point, whether
the image is written, the clusters whose drift comparison COMMIT waits for, whether one of them ended in a mismatch (R666). -/
structure CkptWork where
  parts : List Nat
  seq : Nat
  stroke : DWord
  quiet : Word
  written : Bool
  waits : List Nat
  spoiled : Bool
  deriving DecidableEq, Repr

/-- Registers and history of a context's lifecycle (R730, R657 to R664): `starts` holds the jobs that complete when the
context's first stroke begins (R722), `stopEdge` and `stopQuiet` those that complete when it stops. -/
structure CtxLife where
  autoRestart : Bool
  periodMs : Half
  life : Life
  held : Option HeldCmd
  restartExhausted : Bool
  kills : Nat
  killLevel : Nat
  missed : Half
  restartDue : Bool
  named : Option DWord
  runImages : List DWord
  consumed : List Word
  lastCommit : Nat
  ckpt : Option CkptCmd
  stopEdge : List Nat
  stopQuiet : Option Nat
  work : Option CkptWork
  starts : List Nat
  deriving DecidableEq, Repr

/-- What a running context holds (R181, 04, 09, 12): stroke offset, the value its stroke counter takes in its first
stroke, clock setting, layout, windows on host memory, whether the issuing function has been reset since (R518), counters,
lock-step. `clock` is the setting in force, `clockNamed` that of the START_CONTEXT (R738), `lsIndex` counts the strokes
run since the start (R751), `delayed` those the power cap delayed (R802), `fresh` says that the start was from the
scroll's images. -/
structure CtxRun where
  strokeOffset : DWord
  startStroke : DWord
  fn : Nat
  clock : Nat
  clockNamed : Nat
  delayed : Nat
  configId : BitVec 4
  layout : Nat
  layoutValid : Bool
  variant : Option Nat
  bulkBase : Nat
  bulkSize : Nat
  bulkPlaced : Bool
  hostBase : Word
  hostLimit : Word
  fnReset : Bool
  tdc : DWord
  tdcHi : Word
  inexact : Word
  fresh : Bool
  compared : Bool
  frozen : Bool
  freezeAtEdge : Bool
  lsIndex : Nat
  deriving DecidableEq, Repr

/-- One context (index 4 * partition + context number). -/
structure Ctx where
  lc : CtxLife
  run : CtxRun
  scroll : Option Scroll
  deriving DecidableEq, Repr

/-- Lifecycle at reset (R730). -/
def CtxLife.reset : CtxLife :=
  { autoRestart := true, periodMs := 0, life := .off, held := none, restartExhausted := false, kills := 0,
    killLevel := 0, missed := 0, restartDue := false, named := none, runImages := [], consumed := [],
    lastCommit := 0, ckpt := none, stopEdge := [], stopQuiet := none, work := none, starts := [] }

/-- Nothing has run (R767). -/
def CtxRun.reset : CtxRun :=
  { strokeOffset := 0, startStroke := 0, fn := 0, clock := 0, clockNamed := 0, delayed := 0, configId := 0, layout := 0, layoutValid := false,
    variant := none, bulkBase := 0, bulkSize := 0, bulkPlaced := false, hostBase := 0, hostLimit := 0,
    fnReset := false, tdc := 0, tdcHi := 0, inexact := 0, fresh := false, compared := false, frozen := false, freezeAtEdge := false,
    lsIndex := 0 }

/-- A context at reset. -/
def Ctx.reset : Ctx := { lc := .reset, run := .reset, scroll := none }

/-- State of a memory controller (R490). -/
inductive McSt where
  | off | training | ready | selfRefresh | failed
  deriving DecidableEq, Repr

/-- The code of MC_STATUS.STATE (R490). -/
def McSt.code : McSt → Nat
  | .off => 0 | .training => 1 | .ready => 2 | .selfRefresh => 3 | .failed => 4

/-- A read whose data a controller has not yet returned (R460): return slice, the two flits, lower 32 bytes
first, and the device time of its arrival (R494); `host` are the core and the function of a host read that
keeps its place in the order (R459) while its data is not there (R23, R517, R518). -/
structure McRead where
  slice : Bool
  since : Nat
  lo : Flit
  hi : Flit
  loSent : Bool
  host : Option (Nat × Nat) := none
  deriving DecidableEq, Repr

/-- A request on a controller's host spine tap (R459, R615): one 32-byte unit that a fabric window writes, with the
number of its message. -/
structure McSpine where
  addr : Nat
  unit : BitVec 256
  blot : Bool
  message : Nat
  deriving DecidableEq, Repr

/-- A request that waits at a controller, with its data flits (R458), or a unit that came over its host spine tap (R459); with
the device time of its arrival (R494) and its number in the order of arrival at all controllers (R485). -/
structure McPending where
  request : Flit
  data : List Flit
  unit : Option McSpine
  since : Nat
  no : Nat
  deriving DecidableEq, Repr

/-- A memory controller (R489 to R494). `assembly` holds, per edge slice, the flits of a write whose data is not yet
complete; `held` marks the channels that an interval-oscillator check holds (R465); `scrubLine` is the next line of the package that scrub reads. -/
structure Mc where
  st : McSt
  rate : BitVec 2
  held : BitVec 4
  corr : Half
  uncorr : Half
  readCorr : Half
  writeErr : Half
  err : ErrReg
  passes : Byte
  scrubLine : Nat
  passCorr : Tbl Nat
  slow : Half
  maxNs : Half
  assembly : Tbl (List Flit)
  pending : List McPending
  spine : List McSpine
  reads : List McRead
  refreshes : Nat
  deriving DecidableEq, Repr

/-- A controller at reset (R489 to R494). -/
def Mc.reset : Mc :=
  { st := .off, rate := 1, held := 0, corr := 0, uncorr := 0, readCorr := 0, writeErr := 0,
    err := .clear, passes := 0, scrubLine := 0, passCorr := [], slow := 0, maxNs := 0, assembly := [], pending := [],
    spine := [], reads := [], refreshes := 0 }

/-- A sequence slot (R472, R473, R497, R498). Its page table lies in bulk memory (R475). -/
structure Slot where
  open_ : Bool
  faulted : Bool
  busy : Bool
  ctx : Nat
  log2 : Nat
  pos : Nat
  tierCluster : Byte
  tierBase : Nat
  tierPages : Nat
  copies : Half
  commands : Half
  deriving DecidableEq, Repr

/-- A closed slot (R497, R498). -/
def Slot.reset : Slot :=
  { open_ := false, faulted := false, busy := false, ctx := 0, log2 := 0, pos := 0,
    tierCluster := 0, tierBase := 0, tierPages := 0, copies := 0, commands := 0 }

/-- Bulk memory (08): controllers, slots, how many requests have arrived at the controllers, the pending pool pages with the context that released each (R477), the bad
ranges (R454) in 64 KiB units. Page tables and reference counts lie in the storage (R475). -/
structure Bulk where
  mc : Tbl Mc
  slots : Tbl Slot
  pendPages : Tbl Nat
  bad : List Nat
  arrivals : Nat
  deriving DecidableEq, Repr

/-- Bulk memory at reset. -/
def Bulk.reset : Bulk := { mc := [], slots := [], pendPages := [], bad := [], arrivals := 0 }

end Sys2Proof.Machine
end

