-- ==== Sys2Proof/Machine/DeviceState.lean ====
section
/-!
DEFINITION. Clocks, power and start-up (13), identity, firmware and stored records (14), power entry and the sealed
energy meter (15).
-/
namespace Sys2Proof.Machine

/-- A clock region (R775 to R778, R781, R817). `regulator` is the supply its regulator is set to in mV, `trip` the trip level
of its 24 droop monitors in mV, `ledger` the device time at the last stroke edge that its cycle ledger holds. -/
structure Region where
  setting : Nat
  regulator : Half
  trip : Half
  ledger : Nat
  running : Bool
  gated : Bool
  stretch : Word
  supply : Half
  margin : Half
  deriving DecidableEq, Repr

/-- A region at reset (R817; regulator and trip level: log 100). -/
def Region.reset : Region :=
  { setting := 13, regulator := 0, trip := 0, ledger := 0, running := false, gated := false, stretch := 0, supply := 0, margin := 0x8000 }

/-- The clocks (R783 to R786, R817). `timeHi` is the captured CK_TIME_HI. -/
structure Clock where
  present : Bool
  holdover : Bool
  losses : Byte
  lastMs : Half
  lossAt : Nat
  timeHi : Word
  regions : Tbl Region
  slack : Tbl Half
  deriving DecidableEq, Repr

/-- The clocks at reset (R817). -/
def Clock.reset : Clock :=
  { present := false, holdover := false, losses := 0, lastMs := 0, lossAt := 0, timeHi := 0, regions := [],
    slack := [] }

/-- Power states, domains, cap and thermal state (R787 to R805, R818). `on` and `ret` have a bit per domain;
`temps` holds the last sample of each sensor (clusters 0 to 47, 48 seam bridge, 49 host spine) in 0.1 degrees. -/
structure Power where
  prefIdle : BitVec 4
  states : Tbl Nat
  on : BitVec 60
  ret : BitVec 60
  fabricWas : BitVec 4
  step : Nat
  safeCause : Nat
  startJob : Option Nat
  durationMs : BitVec 20
  hostW : Half
  bcW : Half
  cut : Nat
  delay : Nat
  watts : Half
  hottest : Half
  hotCluster : BitVec 6
  west : Nat
  east : Nat
  held : BitVec 2
  tripped : Bool
  throttleSince : Tbl Nat
  maxSince : Option Nat
  zeroSince : Option Nat
  capSeam : Bool
  capDelay : Tbl Word
  temps : Tbl Half
  low : Nat
  wake : Option (List Byte)
  deriving DecidableEq, Repr

/-- Power at reset (R818): every domain off. -/
def Power.reset : Power :=
  { prefIdle := 0xF, states := [], on := 0, ret := 0, fabricWas := 0xF, step := 0, safeCause := 0, startJob := none,
    durationMs := 0, hostW := 0, bcW := 0, cut := 0, delay := 0, watts := 0, hottest := 0, hotCluster := 0,
    west := 0, east := 0, held := 0, tripped := false, throttleSince := [], maxSince := none, zeroSince := none,
    capSeam := false, capDelay := [], temps := [], low := 0, wake := none }

/-- A stored record (R834): the body as RECORD_READ returns it, without encryption. -/
structure Rec where
  type : Nat
  index : Nat
  signer : Nat
  flags : Nat
  seq : Nat
  body : List Byte
  deriving DecidableEq, Repr

/-- A staged image (R831): KIND, FW_VERSION, SVN, KEY_INDEX, the bytes. -/
structure Staged where
  kind : Nat
  version : DWord
  svn : Word
  keyIndex : Nat
  image : List Byte
  deriving DecidableEq, Repr

/-- Identity, firmware and records (R820 to R845). `flash` is the image in flash, none while it is not valid; `writing` the image
that a commit writes; `answered` has a bit for the meter and each of OE0 to OE3 (R824). -/
structure Ident where
  recovered : Bool
  staged : Option Staged
  committing : Option Nat
  writing : List Byte
  resetDue : Bool
  opFallback : Bool
  composition : Byte
  answered : BitVec 5
  recoveryFails : Byte
  recoveryAt : Option Nat
  version : DWord
  measurement : BitVec 256
  svn : Word
  flash : Option (List Byte)
  image : List Byte
  recs : List Rec
  used : Nat
  torn : Byte
  badSig : Byte
  logNext : Nat
  deriving DecidableEq, Repr

/-- Identity at reset (R844): nothing staged; the flash as the model starts it (log 19). -/
def Ident.reset : Ident :=
  { recovered := false, staged := none, committing := none, writing := [], resetDue := false, opFallback := false,
    composition := 0, answered := 0, recoveryFails := 0, recoveryAt := none, version := 0, measurement := 0, svn := 0,
    flash := some [], image := [], recs := [], used := 0, torn := 0, badSig := 0, logNext := 0 }

/-- The power-entry stage (R847): output on, latched off, peak limit, input in mV and mA. -/
structure Entry where
  on : Bool
  latched : Bool
  peak : Bool
  mv : Nat
  ma : Nat
  excess : Bool
  deriving DecidableEq, Repr

/-- The stage before input power. -/
def Entry.reset : Entry := { on := false, latched := false, peak := false, mv := 0, ma := 0, excess := false }

/-- The sealed energy meter (R856 to R873): `seq` the next SEQ, `since` the meter seconds before this power-up, `strayed` whether
the input left its range since the last periodic reading, `periodic` the energy at that reading, the log by slot, open stamps
with their start energy. -/
structure Meter where
  intact : Bool
  fault : Bool
  wrapped : Bool
  outRange : Bool
  strayed : Bool
  seq : Nat
  fw : Word
  energy : DWord
  since : Nat
  periodic : DWord
  log : Tbl (List Byte)
  stamps : List (DWord × DWord)
  entryCause : Nat
  entryOffNew : Bool
  answering : Bool
  deriving DecidableEq, Repr

/-- The meter as made (R857, R858), its seal intact. -/
def Meter.reset : Meter :=
  { intact := true, fault := false, wrapped := false, outRange := false, strayed := false, seq := 0, fw := 0, energy := 0, since := 0,
    periodic := 0, log := [], stamps := [], entryCause := 0, entryOffNew := false, answering := true }

/-- The EM_ block as the Quill last refreshed it (R875). -/
structure EmRegs where
  present : Bool
  intact : Bool
  fault : Bool
  outRange : Bool
  entryCause : Nat
  openStamps : Nat
  energy : DWord
  energyHi : Word
  mv : Nat
  ma : Nat
  seq : Word
  fw : Word
  seconds : DWord
  timeHi : Word
  slot : BitVec 12
  deriving DecidableEq, Repr

/-- The EM_ block at reset (R875). -/
def EmRegs.reset : EmRegs :=
  { present := false, intact := false, fault := false, outRange := false, entryCause := 0, openStamps := 0,
    energy := 0, energyHi := 0, mv := 0, ma := 0, seq := 0, fw := 0, seconds := 0, timeHi := 0, slot := 0 }

/-- What AON, the key unit, the flash, the entry stage and the meter hold. -/
structure Module where
  clock : Clock
  power : Power
  ident : Ident
  entry : Entry
  meter : Meter
  em : EmRegs
  deriving DecidableEq, Repr

/-- The module at reset. -/
def Module.reset : Module :=
  { clock := .reset, power := .reset, ident := .reset, entry := .reset, meter := .reset, em := .reset }

end Sys2Proof.Machine
end

