-- ==== Sys2Proof/Machine/FabricState.lean ====
section
/-!
DEFINITION. The state of the fabric unit (10): ports and lanes, routes, windows, tracked messages, device-level
counters and combining queues, rings, fabric time, margin telemetry.
-/
namespace Sys2Proof.Machine

/-- Port states (R590). -/
inductive PortSt where
  | off | detect | equalise | align | exchange | active | retrain
  deriving DecidableEq, Repr

/-- The code of a port state (R590). -/
def PortSt.code : PortSt → Nat
  | .off => 0 | .detect => 1 | .equalise => 2 | .align => 3 | .exchange => 4 | .active => 5 | .retrain => 6

/-- A lane (R597, R598, R640, R645). `counted` holds the device times of counted retrains. -/
structure Lane where
  retired : Bool
  inUse : Bool
  counted : List Nat
  retrains : Half
  rxPower : Half
  corr : Word
  deriving DecidableEq, Repr

/-- A lane at reset (R645). -/
def Lane.reset : Lane := { retired := false, inUse := false, counted := [], retrains := 0, rxPower := 0x8000, corr := 0 }

/-- A peer identity (R600): device ID and certificate digest. -/
structure PeerId where
  device : Half
  digest : BitVec 256
  deriving DecidableEq, Repr

/-- What the last link control block of a port said (R631, R632). -/
structure LastBlock where
  watermark : BitVec 256
  time : Nat
  tx : DWord
  stratum : Byte
  deriving DecidableEq, Repr

/-- Buffers of a virtual lane at a receiver (R589). -/
def laneCredits : Nat := 64
/-- Flits that a replay buffer keeps (R588). -/
def replayRoom : Nat := 256

/-- The link layer of a port (R586, R588, R589): SEQ of the next flit, the replay buffer, oldest first; the highest SEQ received
in order, whether flits are discarded until the sender replays; credits held and credits to return, by virtual lane; flits that
wait for a credit or for room. -/
structure Link where
  txSeq : BitVec 12
  replay : List FabricFlit
  rxSeq : BitVec 12
  discard : Bool
  credit : Tbl Nat
  owed : Tbl Nat
  wait : List FabricFlit
  deriving DecidableEq, Repr

/-- The link layer when a port trains: nothing sent, nothing received (log 139). -/
def Link.reset : Link :=
  { txSeq := 0, replay := [], rxSeq := 0xFFF, discard := false, credit := [], owed := [], wait := [] }

/-- A Pretisse port (R589 to R602, R614, R645). `usable` lists the lanes that passed EQUALISE; `landings`
holds, per edge slice, the flits accepted for the die, `landUnits` how many of them are data, `held` the writes that wait for room
there, each with the port it came by (R614), `downs` the times of the link downs counted against the port (R641), `landLeft` the
data flits left of the landing that each slice sends. -/
structure Port where
  gate : Bool
  st : PortSt
  laneMap : BitVec 5
  width : Nat
  mismatch : Bool
  stalled : Bool
  lastCause : Byte
  version : Byte
  peer : Option PeerId
  peerDevice : Half
  peerPort : Half
  replays : Half
  trainings : Half
  lost : Word
  uncorr : Half
  ber : Half
  expect : BitVec 256
  block : Option LastBlock
  lanes : Tbl Lane
  usable : BitVec 5
  link : Link
  downs : List Nat
  fecTimes : List Nat
  replayTimes : List Nat
  landings : Tbl (List Flit)
  landUnits : Nat
  held : List (Nat × FabricFlit)
  landLeft : Tbl Nat
  assembly : Tbl (List Flit)
  deriving DecidableEq, Repr

/-- A port at reset (R645). -/
def Port.reset : Port :=
  { gate := false, st := .off, laneMap := 0, width := 0, mismatch := false, stalled := false, lastCause := 0,
    version := 0, peer := none, peerDevice := 0xFFFF, peerPort := 0, replays := 0, trainings := 0, lost := 0,
    uncorr := 0, ber := 0, expect := 0, block := none, lanes := [], usable := 0, link := .reset, downs := [], fecTimes := [],
    replayTimes := [], landings := [], landUnits := 0, held := [], landLeft := [], assembly := [] }

/-- A window (R610 to R612, R646). `closed` says that a close has taken effect since it was last open (R642, cause 4). -/
structure Window where
  opened : Bool
  closing : Bool
  closed : Bool
  target : Nat
  part : Nat
  ctx : Nat
  peer : Half
  lcluster : Nat
  cluster : Nat
  entryPort : Nat
  entrySlice : Nat
  queue : Nat
  base : Nat
  length : Nat
  landed : Word
  deriving DecidableEq, Repr

/-- A closed window. -/
def Window.reset : Window :=
  { opened := false, closing := false, closed := false, target := 0, part := 0, ctx := 0, peer := 0, lcluster := 0, cluster := 0,
    entryPort := 0, entrySlice := 0, queue := 0, base := 0, length := 0, landed := 0 }

/-- Who waits for a write message's receipt (R622). -/
inductive Origin where
  | te (core : Nat) (id : Nat)
  | ring (r : Nat)
  | mirror (job : Nat)
  deriving DecidableEq, Repr

/-- A write message that awaits its receipt (R622). -/
structure Tracked where
  track : Nat
  port : Nat
  origin : Origin
  deriving DecidableEq, Repr

/-- A write message for bulk memory that is not yet complete (R613, R615): window, sender, TRACK, units left. -/
structure BulkIn where
  window : Nat
  src : Half
  track : BitVec 26
  left : Nat
  deriving DecidableEq, Repr

/-- A RADD held for receipts (R620): the numbers of its core's remote writes it waits for. -/
structure HeldAdd where
  core : Nat
  device : Nat
  counter : Nat
  value : Word
  waits : List Nat
  deriving DecidableEq, Repr

/-- A ring descriptor in progress (R626): its fields and the messages it waits for. -/
structure RingWork where
  device : Nat
  flags : Byte
  doneRemote : Nat
  doneLocal : Nat
  waits : List Nat
  deriving DecidableEq, Repr

/-- A fabric DMA ring (R625 to R627, R649). -/
structure RingSt where
  enable : Bool
  fault : Bool
  ctx : Nat
  part : Nat
  log2 : Nat
  tail : Nat
  base : Word
  head : Word
  work : Option RingWork
  deriving DecidableEq, Repr

/-- A ring at reset (R649). -/
def RingSt.reset : RingSt :=
  { enable := false, fault := false, ctx := 0, part := 0, log2 := 0, tail := 0, base := 0, head := 0, work := none }

/-- Fabric configuration and time (R636 to R638, R646); `slew` is the correction not yet made, in ns, and `slewAt` the device time
up to which it is made (R637). -/
structure FabCfg where
  receiptMs : Byte
  timeRole : Bool
  maxHops : BitVec 6
  locked : Bool
  stratum : Byte
  source : BitVec 4
  offset : Word
  streak : Nat
  everLocked : Bool
  slew : Int
  slewAt : Nat
  deriving DecidableEq, Repr

/-- FB_CFG and FB_TIME_STATUS at reset (R646). -/
def FabCfg.reset : FabCfg :=
  { receiptMs := 20, timeRole := false, maxHops := 16, locked := false, stratum := 0xFF, source := 0, offset := 0,
    streak := 0, everLocked := false, slew := 0, slewAt := 0 }

/-- Fabric counters and thresholds (R640, R643, R646). -/
structure FabCnt where
  forwarded : Word
  noRoute : Half
  hops : Byte
  other : Byte
  winDrop : Word
  rcptLost : Word
  dropFirst : Option (Half × Nat × Nat)
  dropEvent : Summary
  laser : BitVec 4
  bias : Tbl Half
  rxLow : Half
  biasHigh : Half
  berLow : Byte
  corrHigh : BitVec 24
  droopLow : Half
  slackLow : Half
  crossed : List Nat
  deriving DecidableEq, Repr

/-- Counters and thresholds at reset (R646). -/
def FabCnt.reset : FabCnt :=
  { forwarded := 0, noRoute := 0, hops := 0, other := 0, winDrop := 0, rcptLost := 0, dropFirst := none,
    dropEvent := .none, laser := 0, bias := [], rxLow := 0, biasHigh := 0, berLow := 0, corrHigh := 0,
    droopLow := 0, slackLow := 0, crossed := [] }

/-- The fabric unit. -/
structure Fabric where
  ports : Tbl Port
  routes : Tbl Word
  windows : Tbl Window
  sync : Tbl Word
  dcq : Combining
  rings : Tbl RingSt
  tracked : List Tracked
  adds : List HeldAdd
  bulkIn : Tbl BulkIn
  nextTrack : Nat
  cfg : FabCfg
  cnt : FabCnt
  deriving DecidableEq, Repr

/-- The fabric unit at reset. -/
def Fabric.reset : Fabric :=
  { ports := [], routes := [], windows := [], sync := [], dcq := .reset, rings := [], tracked := [], adds := [],
    bulkIn := [], nextTrack := 0, cfg := .reset, cnt := .reset }

end Sys2Proof.Machine
end

