-- ==== Sys2Proof/Machine/NetState.lean ====
section
/-!
DEFINITION. Messages under way on the management network (R878) and what the device has sent to the world
outside.
-/
namespace Sys2Proof.Machine

/-- A message under way on the management network. -/
inductive NetMsg where
  /-- a free token (R319): its sending core and channel, its destination FDEST, the token -/
  | freeTok (core chan : Nat) (fdest : Word) (tok : Token)
  /-- a credit on its way to a free channel, with the configuration epoch (R322) -/
  | credit (core chan : Nat) (epoch : Byte)
  /-- a closure notice on its way to a free channel (R331) -/
  | notice (core chan : Nat)
  /-- a sync counter operation (R358, R363): the core that issued it (none for the host), the counter, SET or ADD, the
  value -/
  | syncOp (core : Option Nat) (c : Counter) (isSet : Bool) (value : Word)
  deriving DecidableEq, Repr

/-- What the device has sent. -/
inductive Out where
  /-- a completion entry written to the CQ of a queue pair (R534, R527), at a host bus address (R521) -/
  | completion (fn sq index : Nat) (bytes : List Byte) (addr : Nat)
  /-- an event record written to a function's event ring (R545, R528), at a host bus address (R521) -/
  | event (fn index : Nat) (bytes : List Byte) (addr : Nat)
  /-- bytes written to host memory -/
  | hostWrite (fn : Nat) (addr : Nat) (bytes : List Byte)
  /-- a read request to host memory -/
  | hostRead (fn : Nat) (addr len : Nat)
  /-- an MSI-X message (R530) -/
  | msix (fn vector : Nat)
  /-- a completion of a host read of a BAR: data, poisoned; `none` is Unsupported Request -/
  | barData (fn : Nat) (data : Option (List Byte)) (poisoned : Bool)
  /-- a message to the board controller over MCTP (R567 to R570) -/
  | bcMessage (bytes : List Byte)
  /-- an answer over DOE (R519) -/
  | doe (fn : Nat) (bytes : List Byte)
  /-- a flit sent on a fabric port (R586, R606) -/
  | fabric (port : Nat) (flit : FabricFlit)
  /-- a link control block sent on a port (R631) -/
  | control (port : Nat) (bytes : List Byte)
  /-- a lock-step message (R752) -/
  | lockstep (port : Nat) (bytes : List Byte)
  /-- a signal of a pin of the module: alert, power good (R12, 15) -/
  | pin (name : Nat) (level : Bool)
  deriving DecidableEq, Repr

end Sys2Proof.Machine
end

