-- ==== Sys2Proof/Machine/HostState.lean ====
section
/-!
DEFINITION. The host interface (09): the function blocks of the PF, VF0 to VF3 and the board controller, queue
pairs, event rings, commands in progress.
-/
namespace Sys2Proof.Machine

/-- A command fetched without a final completion: the packet, with its block behind it where INDIRECT is set (R533, R536), and
the job that carries it out. -/
structure Fetched where
  packet : List Byte
  job : Option Nat
  deriving DecidableEq, Repr

/-- A queue pair (R522 to R527, R580, R581). `fetched` holds the commands fetched without a final completion, in the order of
their fetch (R534); `halted` says that the pair fetches and writes nothing until it is disabled and enabled again (R532). -/
structure Qp where
  sqBase : DWord
  cqBase : DWord
  enable : Bool
  vector : BitVec 6
  irqEn : Bool
  sqSize : Nat
  cqSize : Nat
  active : Bool
  fault : Bool
  sqHead : Nat
  sqTail : Nat
  cqHead : Nat
  cqTail : Nat
  phase : Bool
  fetched : List Fetched
  halted : Bool
  deriving DecidableEq, Repr

/-- A queue pair at reset (R580, R581). -/
def Qp.reset : Qp :=
  { sqBase := 0, cqBase := 0, enable := false, vector := 0, irqEn := false, sqSize := 0, cqSize := 0,
    active := false, fault := false, sqHead := 0, sqTail := 0, cqHead := 0, cqTail := 0, phase := true,
    fetched := [], halted := false }

/-- How many commands of a pair are fetched without a final completion. -/
def Qp.inFlight (q : Qp) : Nat := q.fetched.length

/-- An event ring (R528, R529, R577 to R579). -/
structure Ring where
  base : DWord
  enable : Bool
  vector : BitVec 6
  irqEn : Bool
  size : Nat
  active : Bool
  lost : Bool
  lostCnt : Half
  held : List (List Byte)
  head : Nat
  tail : Nat
  phase : Bool
  deriving DecidableEq, Repr

/-- An event ring at reset. -/
def Ring.reset : Ring :=
  { base := 0, enable := false, vector := 0, irqEn := false, size := 0, active := false, lost := false,
    lostCnt := 0, held := [], head := 0, tail := 0, phase := true }

/-- A completion that waits until its function may write to host memory (R502): queue pair, bytes, and the opcode where NOTIFY
asks for event 0x00C0 when it is written (R535). -/
structure Parked where
  pair : Nat
  bytes : List Byte
  note : Option Nat
  deriving DecidableEq, Repr

/-- A command that was fetched and not started before a reset of its function (R565): its SQ, whether HELLO had completed, the
packet. -/
structure Left where
  sq : Nat
  version : Bool
  packet : List Byte
  deriving DecidableEq, Repr

/-- Where an SPDM responder is (R519; SPDM 1.3, log 23): after which of the requests that open a session. -/
inductive SpdmPhase where
  | start | version | capabilities | algorithms | exchange | session
  deriving DecidableEq, Repr

/-- One function (index 0 PF, 1 to 4 VF0 to VF3, 5 the board controller). `msixDue` lists the vectors whose
message is due (R530), `parked` the completions and `parkedData` the reply data (address, bytes) that wait for D0 and Bus Master
Enable (R502); `msixOn`, `msixMask` and `msixMasked` are the MSI-X enable, the function mask and the masks of the vectors, `aer`
the AER status (R500); `ideKey` is the key of the function's selective IDE stream while it is secure (R520). -/
structure Fn where
  version : Bool
  mask : BitVec 256
  nonce : DWord
  aptBase : DWord
  b2Base : BitVec 18
  ring : Ring
  qps : Tbl Qp
  badDoorbell : Byte
  hostFail : Byte
  barReject : Half
  d3 : Bool
  bme : Bool
  b2Log : BitVec 3
  msixDue : List Nat
  parked : List Parked
  parkedData : List (Nat × List Byte)
  spdm : SpdmPhase
  ideKey : Option (BitVec 256)
  left : List Left
  msixOn : Bool
  msixMask : Bool
  msixMasked : BitVec 64
  aer : Word
  deriving DecidableEq, Repr

/-- A function at reset (R565; the event mask: log 4; AUTH_NONCE: log 5; the MSI-X and AER state of PCI Express: log 24). -/
def Fn.reset : Fn :=
  { version := false, mask := BitVec.allOnes 256, nonce := 0, aptBase := 0, b2Base := 0, ring := .reset,
    qps := [], badDoorbell := 0, hostFail := 0, barReject := 0, d3 := false, bme := false,
    b2Log := 0, msixDue := [], parked := [], parkedData := [], spdm := .start, ideKey := none,
    left := [], msixOn := false, msixMask := false, msixMasked := BitVec.allOnes 64, aer := 0 }

/-- Whether a function writes and sends nothing (R502; R500: Bus Master Enable is clear). -/
def Fn.mute (x : Fn) : Bool := x.d3 || !x.bme

/-- A command in progress (R542): its header, opcode, the command, the device time of its fetch, whether its DEFERRED completion
is written, whether its function has been reset since (`silent`, R565), and a number it keeps (bytes moved, the captured
RESULT). -/
structure Job where
  hdr : Hdr
  opcode : Half
  cmd : Instr
  start : Nat
  deferred : Bool
  silent : Bool
  value : Nat
  deriving DecidableEq, Repr

/-- The board controller's side (R566 to R570). -/
structure Bc where
  address : BitVec 7
  assigned : Bool
  eid : Byte
  tags : Nat
  held : List (List Byte)
  alert : Bool
  deriving DecidableEq, Repr

/-- No address, nothing held. -/
def Bc.reset : Bc := { address := 0, assigned := false, eid := 0, tags := 0, held := [], alert := false }

/-- The host interface. `vfOn` is VF Enable of the SR-IOV capability (R500), `linkKey` the key of
the link IDE stream while it is secure (R520); `window` is the recovery window (R516, R582). -/
structure HostIf where
  fns : Tbl Fn
  jobs : Tbl Job
  nextJob : Nat
  bc : Bc
  link : HostLink
  linkKey : Option (BitVec 256)
  vfOn : Bool
  window : List Host.Cell
  recoveryLen : BitVec 24
  deriving DecidableEq, Repr

/-- The host interface at reset (R574, R582). -/
def HostIf.reset : HostIf :=
  { fns := [], jobs := [], nextJob := 0, bc := .reset,
    link := { speed := 0, width := 0, l0p := 0, flit := false }, linkKey := none, vfOn := false,
    window := [], recoveryLen := 0 }

end Sys2Proof.Machine
end

