-- ==== Sys2Proof/Machine/Memory.lean ====
section
/-!
DEFINITION. The addressed storage of the device: one byte memory over the 48-bit device physical address map
(01 R47), the blot bit of every 32-byte unit (R116) and the FILL bit of every inkwell unit (07 R418).
A byte that nothing has written reads as 0, a unit that is not listed is clean and unfilled (log 3).
-/
namespace Sys2Proof.Machine

/-- What an unlisted address reads as (log 3). -/
def Memory.unlisted : BitVec 8 := 0

/-- The byte at an address. -/
def Memory.read (m : List Host.Cell) (a : Nat) : BitVec 8 :=
  match m with
  | [] => Memory.unlisted
  | (b, x) :: r => if b = a then x else Memory.read r a

/-- Put a cell into its place. -/
def Memory.insert (m : List Host.Cell) (a : Nat) (v : BitVec 8) : List Host.Cell :=
  match m with
  | [] => [(a, v)]
  | (b, x) :: r => if a < b then (a, v) :: (b, x) :: r else (b, x) :: Memory.insert r a v

/-- Take an address out of the list. -/
def Memory.erase (m : List Host.Cell) (a : Nat) : List Host.Cell :=
  match m with
  | [] => []
  | (b, x) :: r => if b = a then Memory.erase r a else (b, x) :: Memory.erase r a

/-- Write a byte: the canonical form lists no byte that equals what an unlisted address reads as. -/
def Memory.write (m : List Host.Cell) (a : Nat) (v : BitVec 8) : List Host.Cell :=
  if v = Memory.unlisted then Memory.erase m a else Memory.insert (Memory.erase m a) a v

/-- Write bytes at consecutive addresses. -/
def Memory.writeBytes (m : List Host.Cell) (a : Nat) (bs : List (BitVec 8)) : List Host.Cell :=
  match bs with
  | [] => m
  | b :: r => Memory.writeBytes (Memory.write m a b) (a + 1) r

/-- The canonical form: addresses strictly rising, no entry equal to what an unlisted address reads as. -/
def Memory.wfFrom (lo : Nat) (m : List Host.Cell) : Bool :=
  match m with
  | [] => true
  | (a, v) :: r => decide (lo ≤ a) && decide (v ≠ Memory.unlisted) && Memory.wfFrom (a + 1) r

/-- The canonical form of a memory. -/
def Memory.wf (m : List Host.Cell) : Bool := Memory.wfFrom 0 m

/-- Membership of a rising list of unit numbers. -/
def Units.has (l : List Nat) (u : Nat) : Bool :=
  match l with
  | [] => false
  | v :: r => if v = u then true else Units.has r u

/-- Put a unit number into a rising list. -/
def Units.add (l : List Nat) (u : Nat) : List Nat :=
  match l with
  | [] => [u]
  | v :: r => if v = u then v :: r else if u < v then u :: v :: r else v :: Units.add r u

/-- Take a unit number out. -/
def Units.del (l : List Nat) (u : Nat) : List Nat :=
  match l with
  | [] => []
  | v :: r => if v = u then Units.del r u else v :: Units.del r u

/-- Set or clear a unit number. -/
def Units.put (l : List Nat) (u : Nat) (b : Bool) : List Nat := if b then Units.add l u else Units.del l u

/-- The storage: bytes, blotted 32-byte units, filled inkwell units (unit number = address / 32). -/
structure Store where
  mem : List Host.Cell
  blots : List Nat
  fills : List Nat
  deriving DecidableEq, Repr

/-- Nothing written (log 3). -/
def Store.reset : Store := { mem := [], blots := [], fills := [] }

end Sys2Proof.Machine
end

