-- ==== Sys2Proof/Machine/QuillState.lean ====
section
/-!
DEFINITION. The management processor's state (11, 12): the moraine record, service states and scores, reset
history, watches, drift check, patrol, the modes of each partition, lock-step.
-/
namespace Sys2Proof.Machine

/-- An entry of the moraine record (R692 to R694): KIND, body bytes 16 to 27, boot count, device time. -/
structure Moraine where
  kind : Nat
  body : List Byte
  boot : Word
  time : Nat
  deriving DecidableEq, Repr

/-- The modes SET_MODES sets for one partition (12 R733 to R736, R766). -/
structure Modes where
  patrolSet : BitVec 2
  driftHigh : Bool
  checking : Bool
  detFast : Bool
  deriving DecidableEq, Repr

/-- The defaults (R733, R766). -/
def Modes.reset : Modes := { patrolSet := 0, driftHigh := false, checking := false, detFast := false }

/-- A partition's lifecycle, suspects and reset history (R729, R703 to R713). `resets` lists the device times of
counted resets; `ranSince` the contexts that ran since the progress mark (R704); `target` is the power state asked for by
the last disable (R787), `jobs` the POWER_STATE commands that wait for the partition (R723). -/
structure QPart where
  life : Life
  held : Option HeldCmd
  out : Bool
  resets : List Nat
  suspects : BitVec 4
  replay : Nat
  replayJob : Option Nat
  replayCtx : Option Nat
  replayRun : Nat
  ranSince : BitVec 4
  lastStroke : DWord
  lastStrokeTime : Nat
  lastDrift : Nat
  target : Nat
  jobs : List Nat
  deriving DecidableEq, Repr

/-- A partition at reset (R729). -/
def QPart.reset : QPart :=
  { life := .off, held := none, out := false, resets := [], suspects := 0, replay := 0, replayJob := none,
    replayCtx := none, replayRun := 0, ranSince := 0, lastStroke := 0, lastStrokeTime := 0, lastDrift := 0, target := 2,
    jobs := [] }

/-- A drift sample in progress in a cluster (R671 to R674): the live physical core, logical core, context, the
live signature (drift CRC), the spares, and whether the first spare has answered. -/
structure DriftSample where
  live : Nat
  logical : Nat
  ctx : Nat
  crc : DWord
  spareA : Nat
  spareB : Option Nat
  deriving DecidableEq, Repr

/-- Drift state of a cluster: the sample in progress, the next logical core, whether it is suspended (R675). -/
structure Drift where
  sample : Option DriftSample
  next : Nat
  suspended : Bool
  deriving DecidableEq, Repr

/-- Nothing sampled. -/
def Drift.reset : Drift := { sample := none, next := 0, suspended := false }

/-- Patrol state of a core (R678 to R681): whether it is tested, which pattern runs, retest pending, the last
full pass, whether a pattern failed in the pass under way, counted hardware errors (device times). -/
structure CoreCare where
  tested : Bool
  pattern : Option Nat
  next : Nat
  retest : Bool
  marginal : Bool
  lastPass : Nat
  failed : Bool
  errors : List Nat
  testDue : Bool
  deriving DecidableEq, Repr

/-- A core nobody has tested. -/
def CoreCare.reset : CoreCare :=
  { tested := false, pattern := none, next := 0, retest := false, marginal := false, lastPass := 0, failed := false,
    errors := [], testDue := false }

/-- A loaded pattern pack (R683). -/
structure Pack where
  id : Word
  version : Word
  patterns : Nat
  bytes : List Byte
  deriving DecidableEq, Repr

/-- A stroke digest (12 R752, R753): stroke index, choice counter, the CRC of each logical cluster where it is not 0. -/
structure LsDigest where
  index : DWord
  tdc : DWord
  crcs : Tbl DWord
  deriving DecidableEq, Repr

/-- Lock-step state of one context (R751, R754, R755, R757): the watermarks of the two start digests, the digests
that await comparison, how many strokes the peer has reported and this device has sent, the index after which comparison ends, the last index
compared. -/
structure LsCtx where
  mine : Option (BitVec 256)
  theirs : Option (BitVec 256)
  own : List LsDigest
  peer : List LsDigest
  reported : Nat
  endsAfter : Option Nat
  sent : Nat
  lastCompared : Nat
  deriving DecidableEq, Repr

/-- Nothing compared. -/
def LsCtx.reset : LsCtx :=
  { mine := none, theirs := none, own := [], peer := [], reported := 0, endsAfter := none, sent := 0, lastCompared := 0 }

/-- A device's lock-step state (12 R749 to R760, R765): LS_STATE, LS_PORT, LS_PEER, the pairing job, QL_LS_WAIT, the contexts,
and by port when a peer's pair request came while this device had asked for none. -/
structure LockStep where
  state : Nat
  port : BitVec 4
  peer : Half
  job : Option Nat
  waits : Word
  ctxs : Tbl LsCtx
  asked : Tbl Nat
  deriving DecidableEq, Repr

/-- No pairing (R765). -/
def LockStep.reset : LockStep :=
  { state := 0, port := 0, peer := 0xFFFF, job := none, waits := 0, ctxs := [], asked := [] }

/-- Corrected errors counted since the last event 0x0001 of a partition (R656, R725). -/
structure Corrected where
  local_ : Nat
  inkwell : Nat
  bulk : Nat
  ruling : Nat
  fabric : Nat
  last : Option Nat
  deriving DecidableEq, Repr

/-- Nothing counted. -/
def Corrected.reset : Corrected := { local_ := 0, inkwell := 0, bulk := 0, ruling := 0, fabric := 0, last := none }

/-- Service, health and thresholds (R712, R717, R728). -/
structure Health where
  service : Nat
  score : Nat
  portOut : BitVec 16
  portScore : Tbl Nat
  lastDrop : Nat
  portDrop : Tbl Nat
  devResets : List Nat
  mgmtResets : List Nat
  misses : Byte
  mgmtCount : Half
  strokeWatchMs : Half
  holdWatchS : Half
  partResets : Nat
  partMinutes : Nat
  devResetMax : Nat
  devMinutes : Nat
  deriving DecidableEq, Repr

/-- The values in force with no record and no threshold set (R712, R717, R728). -/
def Health.reset : Health :=
  { service := 0, score := 1000, portOut := 0, portScore := [], lastDrop := 0, portDrop := [],
    devResets := [], mgmtResets := [], misses := 0, mgmtCount := 0, strokeWatchMs := 50, holdWatchS := 5,
    partResets := 3, partMinutes := 10, devResetMax := 2, devMinutes := 60 }

/-- An event that arose while the management domain restarts (R701). -/
structure Missed where
  code : Nat
  sev : Nat
  level : Nat
  bytes : List Byte
  part : Option Nat
  deriving DecidableEq, Repr

/-- The Quill. `restarting` says that PD59 alone is being reset (R700). `samples`, `mismatches`, `passes` and `fails` have
the widths of GET_HEALTH (R726); QL_DRIFT and QL_PATROL show them saturated (R731). `factory` holds the entries of the factory
portion (R7, R692), `rows` the row repairs known for each cluster, which take effect at its next start-up or reset (R426). -/
structure Quill where
  running : Bool
  restarting : Bool
  missed : List Missed
  factory : List Moraine
  moraine : List Moraine
  rows : Tbl (List RowRepair)
  full : Bool
  truncated : Bool
  health : Health
  parts : Tbl QPart
  modes : Tbl Modes
  drift : Tbl Drift
  care : Tbl CoreCare
  corrected : Tbl Corrected
  packs : List Pack
  samples : DWord
  mismatches : Word
  skipped : BitVec 7
  passes : Word
  fails : Word
  ls : LockStep
  ruleUncorr : Tbl (List Nat)
  parityHits : Tbl (List Nat)
  deadlock : Tbl (List (List Nat))
  scan : Tbl (List Nat)
  deriving DecidableEq, Repr

/-- The Quill at reset (R728 to R731): a part with no known defect and an empty field portion (log 6). -/
def Quill.reset : Quill :=
  { running := false, restarting := false, missed := [], factory := [], moraine := [], rows := [], full := false, truncated := false, health := .reset, parts := [],
    modes := [], drift := [], care := [], corrected := [], packs := [], samples := 0, mismatches := 0,
    skipped := 0, passes := 0, fails := 0, ls := .reset, ruleUncorr := [], parityHits := [], deadlock := [],
    scan := [] }

end Sys2Proof.Machine
end

