-- ==== Sys2Proof/Machine/State.lean ====
section
/-!
DEFINITION. The state of the device, its state at reset, and the reasons a command can stop.
-/
namespace Sys2Proof.Machine

/-- Faults: none. Every error the spec describes is an effect on the state (an error register, an event, a kill, a reset,
the safe state), so no command stops the machine. -/
inductive Fault where
  deriving DecidableEq, Repr

/-- Refusals. -/
inductive Refusal where
  /-- Raised by an arm of `exec` whose command has no meaning yet. Safe: the model stops. -/
  | notModelled (mnemonic : String)
  deriving DecidableEq, Repr

/-- Device-wide settings: partition mode (R765), grade (R3), fabric device ID (R646), boot count (R694). -/
structure Dev where
  mode : BitVec 2
  gradeL : Nat
  fbId : Half
  boot : Word
  deriving DecidableEq, Repr

/-- The settings at reset: quarters (R765); grade M30 (log 2); FB_ID 0xFFFF (R646). -/
def Dev.reset : Dev := { mode := 2, gradeL := 30, fbId := 0xFFFF, boot := 0 }

structure State where
  pending : List Instr
  cores : Tbl Core
  clusters : Tbl Cluster
  parts : Tbl Part
  ctxs : Tbl Ctx
  store : Store
  bulk : Bulk
  host : HostIf
  dev : Dev
  quill : Quill
  fabric : Fabric
  module_ : Module
  net : List NetMsg
  time : Nat
  out : List Out
  free : Nat
  deriving DecidableEq, Repr

/-- The device right after reset. -/
def State.reset : State :=
  { pending := [], cores := [], clusters := [], parts := [], ctxs := [], store := .reset, bulk := .reset,
    host := .reset, dev := .reset, quill := .reset, fabric := .reset,
    module_ := .reset, net := [], time := 0, out := [], free := 0 }

end Sys2Proof.Machine
end

