-- ==== Sys2Proof/Machine/Ops.lean ====
section
/-!
DEFINITION. The named operations over the state: the objects by index, their updates, the geometry of the die
(01), the storage with its blots, free values, saturating counters and first-error registers.
-/
namespace Sys2Proof.Machine

/-! ### Objects by index -/

/-- Core number n = 32 * k + j. -/
def State.core (s : State) (n : Nat) : Core := s.cores.get Core.reset n
/-- Replace a core. -/
def State.setCore (s : State) (n : Nat) (c : Core) : State := { s with cores := s.cores.set n c }
/-- Update a core. -/
def State.modCore (s : State) (n : Nat) (f : Core → Core) : State := s.setCore n (f (s.core n))
/-- Cluster k. -/
def State.cluster (s : State) (k : Nat) : Cluster := s.clusters.get Cluster.reset k
/-- Update a cluster. -/
def State.modCluster (s : State) (k : Nat) (f : Cluster → Cluster) : State :=
  { s with clusters := s.clusters.set k (f (s.cluster k)) }
/-- Partition p. -/
def State.part (s : State) (p : Nat) : Part := s.parts.get Part.reset p
/-- Update a partition. -/
def State.modPart (s : State) (p : Nat) (f : Part → Part) : State :=
  { s with parts := s.parts.set p (f (s.part p)) }
/-- Context 4 * p + c. -/
def State.ctx (s : State) (c : Nat) : Ctx := s.ctxs.get Ctx.reset c
/-- Update a context. -/
def State.modCtx (s : State) (c : Nat) (f : Ctx → Ctx) : State :=
  { s with ctxs := s.ctxs.set c (f (s.ctx c)) }
/-- Update the lifecycle of a context. -/
def State.modLife (s : State) (c : Nat) (f : CtxLife → CtxLife) : State :=
  s.modCtx c (fun x => { x with lc := f x.lc })
/-- Update what a running context holds. -/
def State.modRun (s : State) (c : Nat) (f : CtxRun → CtxRun) : State :=
  s.modCtx c (fun x => { x with run := f x.run })
/-- Function f. -/
def State.fn (s : State) (f : Nat) : Fn := s.host.fns.get Fn.reset f
/-- Update a function. -/
def State.modFn (s : State) (f : Nat) (g : Fn → Fn) : State :=
  { s with host := { s.host with fns := s.host.fns.set f (g (s.fn f)) } }
/-- Queue pair n of function f. -/
def State.qp (s : State) (f n : Nat) : Qp := (s.fn f).qps.get Qp.reset n
/-- Update a queue pair. -/
def State.modQp (s : State) (f n : Nat) (g : Qp → Qp) : State :=
  s.modFn f (fun x => { x with qps := x.qps.set n (g (x.qps.get Qp.reset n)) })
/-- Memory controller m. -/
def State.mcOf (s : State) (m : Nat) : Mc := s.bulk.mc.get Mc.reset m
/-- Update a memory controller. -/
def State.modMc (s : State) (m : Nat) (f : Mc → Mc) : State :=
  { s with bulk := { s.bulk with mc := s.bulk.mc.set m (f (s.mcOf m)) } }
/-- Sequence slot n. -/
def State.slot (s : State) (n : Nat) : Slot := s.bulk.slots.get Slot.reset n
/-- Update a sequence slot. -/
def State.modSlot (s : State) (n : Nat) (f : Slot → Slot) : State :=
  { s with bulk := { s.bulk with slots := s.bulk.slots.set n (f (s.slot n)) } }

/-- Update the Quill. -/
def State.modQuill (s : State) (f : Quill → Quill) : State := { s with quill := f s.quill }
/-- The Quill's view of partition p. -/
def State.qpart (s : State) (p : Nat) : QPart := s.quill.parts.get QPart.reset p
/-- Update the Quill's view of a partition. -/
def State.modQPart (s : State) (p : Nat) (f : QPart → QPart) : State :=
  s.modQuill (fun q => { q with parts := q.parts.set p (f (q.parts.get QPart.reset p)) })
/-- The modes set for partition p (R766). -/
def State.modes (s : State) (p : Nat) : Modes := s.quill.modes.get Modes.reset p
/-- What the Quill knows of core n. -/
def State.care (s : State) (n : Nat) : CoreCare := s.quill.care.get CoreCare.reset n
/-- Update what the Quill knows of a core. -/
def State.modCare (s : State) (n : Nat) (f : CoreCare → CoreCare) : State :=
  s.modQuill (fun q => { q with care := q.care.set n (f (q.care.get CoreCare.reset n)) })
/-- Update the corrected-error counts of partition p. -/
def State.modCorrected (s : State) (p : Nat) (f : Corrected → Corrected) : State :=
  s.modQuill (fun q => { q with corrected := q.corrected.set p (f (q.corrected.get Corrected.reset p)) })

/-- Update the control part of a core. -/
def State.modCtl (s : State) (n : Nat) (f : CoreCtl → CoreCtl) : State :=
  s.modCore n (fun c => { c with ctl := f c.ctl })
/-- Update the registers of a core. -/
def State.modRegs (s : State) (n : Nat) (f : CoreRegs → CoreRegs) : State :=
  s.modCore n (fun c => { c with regs := f c.regs })
/-- Update the engine part of a core. -/
def State.modEng (s : State) (n : Nat) (f : CoreEng → CoreEng) : State :=
  s.modCore n (fun c => { c with eng := f c.eng })
/-- Update the error part of a core. -/
def State.modErrs (s : State) (n : Nat) (f : CoreErrs → CoreErrs) : State :=
  s.modCore n (fun c => { c with errs := f c.errs })
/-- Update the steering part of a core. -/
def State.modSteer (s : State) (n : Nat) (f : CoreSteer → CoreSteer) : State :=
  s.modCore n (fun c => { c with steer := f c.steer })
/-- Update the queues of a core. -/
def State.modQs (s : State) (n : Nat) (f : CoreQueues → CoreQueues) : State :=
  s.modCore n (fun c => { c with qs := f c.qs })
/-- Update the transfer engine of a core. -/
def State.modTe (s : State) (n : Nat) (f : CoreTe → CoreTe) : State :=
  s.modCore n (fun c => { c with te := f c.te })
/-- Update a router. -/
def State.modRouter (s : State) (k : Nat) (f : Router → Router) : State :=
  s.modCluster k (fun c => { c with router := f c.router })
/-- Update an inkwell block. -/
def State.modInk (s : State) (k : Nat) (f : Ink → Ink) : State :=
  s.modCluster k (fun c => { c with ink := f c.ink })
/-- Update a stroke block. -/
def State.modStroke (s : State) (p : Nat) (f : Stroke → Stroke) : State :=
  s.modPart p (fun x => { x with stroke := f x.stroke })
/-- Update an epoch block. -/
def State.modEpoch (s : State) (p : Nat) (f : Epoch → Epoch) : State :=
  s.modPart p (fun x => { x with epoch := f x.epoch })
/-- Update the report counts of a partition. -/
def State.modReports (s : State) (p : Nat) (f : Reports → Reports) : State :=
  s.modPart p (fun x => { x with rep := f x.rep })
/-- Port f. -/
def State.port (s : State) (f : Nat) : Port := s.fabric.ports.get Port.reset f
/-- Update a port. -/
def State.modPort (s : State) (f : Nat) (g : Port → Port) : State :=
  { s with fabric := { s.fabric with ports := s.fabric.ports.set f (g (s.port f)) } }
/-- Window w. -/
def State.window (s : State) (w : Nat) : Window := s.fabric.windows.get Window.reset w
/-- Update a window. -/
def State.modWindow (s : State) (w : Nat) (g : Window → Window) : State :=
  { s with fabric := { s.fabric with windows := s.fabric.windows.set w (g (s.window w)) } }
/-- Ring r. -/
def State.ring (s : State) (r : Nat) : RingSt := s.fabric.rings.get RingSt.reset r
/-- Update a ring. -/
def State.modRing (s : State) (r : Nat) (g : RingSt → RingSt) : State :=
  { s with fabric := { s.fabric with rings := s.fabric.rings.set r (g (s.ring r)) } }
/-- Update the fabric counters. -/
def State.modFabCnt (s : State) (g : FabCnt → FabCnt) : State :=
  { s with fabric := { s.fabric with cnt := g s.fabric.cnt } }
/-- Update the fabric configuration. -/
def State.modFabCfg (s : State) (g : FabCfg → FabCfg) : State :=
  { s with fabric := { s.fabric with cfg := g s.fabric.cfg } }
/-- Update the clocks. -/
def State.modClock (s : State) (g : Clock → Clock) : State :=
  { s with module_ := { s.module_ with clock := g s.module_.clock } }
/-- Clock region r. -/
def State.region (s : State) (r : Nat) : Region := s.module_.clock.regions.get Region.reset r
/-- Update a clock region. -/
def State.modRegion (s : State) (r : Nat) (g : Region → Region) : State :=
  s.modClock (fun c => { c with regions := c.regions.set r (g (c.regions.get Region.reset r)) })
/-- A region relocks to a clock setting (R775, R776, R817): the regulator is set to the setting's nominal and the droop
monitors to its trip level first. -/
def Region.relock (x : Region) (setting : Nat) : Region :=
  { x with regulator := Config.nominalMv setting, trip := Config.lowestMv setting + Config.guardMv, setting := setting }
/-- Update the power state. -/
def State.modPower (s : State) (g : Power → Power) : State :=
  { s with module_ := { s.module_ with power := g s.module_.power } }
/-- Update identity and records. -/
def State.modIdent (s : State) (g : Ident → Ident) : State :=
  { s with module_ := { s.module_ with ident := g s.module_.ident } }
/-- Update the power-entry stage. -/
def State.modEntry (s : State) (g : Entry → Entry) : State :=
  { s with module_ := { s.module_ with entry := g s.module_.entry } }
/-- Update the meter. -/
def State.modMeter (s : State) (g : Meter → Meter) : State :=
  { s with module_ := { s.module_ with meter := g s.module_.meter } }
/-- Update the EM_ block. -/
def State.modEm (s : State) (g : EmRegs → EmRegs) : State :=
  { s with module_ := { s.module_ with em := g s.module_.em } }
/-- Whether power domain PDn is on (R43, R795). -/
def State.domOn (s : State) (n : Nat) : Bool := s.module_.power.on.getLsbD n
/-- Whether power domain PDn is in retention. -/
def State.domRet (s : State) (n : Nat) : Bool := s.module_.power.ret.getLsbD n
/-- Put a message on the management network (R878). -/
def State.sendNet (s : State) (m : NetMsg) : State := { s with net := s.net ++ [m] }
/-- Record something the device sends out. -/
def State.emit (s : State) (o : Out) : State := { s with out := s.out ++ [o] }
/-- Draw a free value (log 7): the counter advances. -/
def State.draw (s : State) : State := { s with free := s.free + 1 }
/-- The free value that the next draw takes. -/
def State.freeNext (s : State) : BitVec 64 := Config.freeWord s.free

/-! ### Geometry (R13 to R21) -/

/-- Column of cluster k (R13). -/
def colOf (k : Nat) : Nat := k % 8
/-- Row of cluster k (R13). -/
def rowOf (k : Nat) : Nat := k / 8
/-- Quarter of cluster k (R16). -/
def quarterOf (k : Nat) : Nat := 2 * (colOf k / 4) + rowOf k / 3
/-- Partition-local ordinal of cluster k (R17). -/
def ordinalOf (k : Nat) : Nat := 4 * (rowOf k % 3) + colOf k % 4
/-- Clock region of cluster k (R18). -/
def regionOf (k : Nat) : Nat := 2 * quarterOf k + (colOf k / 2) % 2
/-- Home controller of cluster k (R20). -/
def homeOf (k : Nat) : Nat := 4 * quarterOf k + colOf k % 4
/-- The cluster a memory controller attaches to (R19). -/
def mcCluster (m : Nat) : Nat :=
  (if (m / 4) % 2 = 0 then 0 else 40) + 4 * (m / 8) + m % 4
/-- The cluster a fabric port attaches to (R21). -/
def portCluster (f : Nat) : Nat :=
  let i := f % 4
  let d := if i = 0 then 0 else if i = 3 then 2 else 1
  let row := if (f / 4) % 2 = 0 then d else 5 - d
  row * 8 + (if f / 8 = 0 then 0 else 7)
/-- Cluster of core number n. -/
def kOf (n : Nat) : Nat := n / 32
/-- Physical core index of core number n. -/
def jOf (n : Nat) : Nat := n % 32

/-- The partition, named by its lowest quarter, that quarter q belongs to under a partition mode (R180, R765):
0 whole, 1 halves, 2 quarters. -/
def partOfQuarter (mode : BitVec 2) (q : Nat) : Nat :=
  if mode = 0 then 0 else if mode = 1 then 2 * (q / 2) else q
/-- The partition of cluster k in force. -/
def State.partOf (s : State) (k : Nat) : Nat := partOfQuarter s.dev.mode (quarterOf k)
/-- The quarters of partition p. -/
def State.quartersOf (s : State) (p : Nat) : List Nat :=
  (List.range 4).filter (fun q => partOfQuarter s.dev.mode q = p)
/-- The clusters of partition p. -/
def State.clustersOf (s : State) (p : Nat) : List Nat :=
  (List.range 48).filter (fun k => s.partOf k = p)
/-- The cores of cluster k. -/
def coresOf (k : Nat) : List Nat := (List.range 32).map (fun j => 32 * k + j)
/-- The cores that run context c (key 4 * p + c). -/
def State.coresOfCtx (s : State) (c : Nat) : List Nat :=
  (s.cores.filter (fun e => e.2.ctl.context = some c)).map (fun e => e.1)
/-- The cores listed in the state that lie in partition p. -/
def State.coresOfPart (s : State) (p : Nat) : List Nat :=
  (s.cores.filter (fun e => s.partOf (kOf e.1) = p)).map (fun e => e.1)

/-! ### Saturating counters, first-error registers -/

/-- Add to a counter that saturates at all ones. -/
def satAdd {w : Nat} (x : BitVec w) (n : Nat) : BitVec w :=
  BitVec.ofNat w (min (x.toNat + n) (2 ^ w - 1))
/-- Increment a counter that saturates at all ones. -/
def satInc {w : Nat} (x : BitVec w) : BitVec w := satAdd x 1

/-- Record an error (R124): a first error takes its fields, a further one sets MULTI. -/
def ErrReg.record (r : ErrReg) (fields : Word) (addr : DWord) (pc : Word) : ErrReg :=
  if r.valid then { r with multi := true }
  else { valid := true, multi := r.multi, fields := fields, addr := addr, pc := pc }

/-- The register as it reads: VALID at [31], MULTI at [30]. -/
def ErrReg.read (r : ErrReg) : Word :=
  (if r.valid then 0x80000000#32 else 0) ||| (if r.multi then 0x40000000#32 else 0) ||| r.fields

/-- A write to the register (R124): 1 to VALID clears VALID and the fields, 1 to MULTI clears MULTI. -/
def ErrReg.write (r : ErrReg) (v : Word) : ErrReg :=
  let r1 := if v.getLsbD 31 then { ErrReg.clear with multi := r.multi } else r
  if v.getLsbD 30 then { r1 with multi := false } else r1

/-! ### Storage (R47, R116) -/

/-- Base of the inkwell of cluster k (R47). -/
def inkBase (k : Nat) : Nat := 0x080000000000 + k * 0x10000000
/-- Base of the local store of core number n (R47). -/
def lsBase (n : Nat) : Nat := 0x090000000000 + n * 0x100000
/-- End of the backed inkwell offsets (R384): 96 MiB. -/
def inkSize : Nat := 0x06000000
/-- End of the backed inkwell of a cluster: less in checking mode (R418), none while its domain is off (R51). -/
def State.inkLimit (s : State) (k : Nat) : Nat :=
  if !s.domOn k then 0 else if (s.cluster k).ink.checking then 0x05E80000 else inkSize
/-- Size of a local store (R130): 256 KiB. -/
def lsSize : Nat := 0x40000

/-- The byte at a device physical address. -/
def Store.byte (m : Store) (a : Nat) : Byte := Memory.read m.mem a
/-- The blot of the unit that holds an address. -/
def Store.blotAt (m : Store) (a : Nat) : Bool := Units.has m.blots (a / 32)
/-- n bytes from an address. -/
def Store.bytes (m : Store) (a n : Nat) : List Byte := (List.range n).map (fun i => m.byte (a + i))
/-- Whether any unit that holds one of n bytes from an address is blotted. -/
def Store.blotRange (m : Store) (a n : Nat) : Bool :=
  (List.range ((a + n - 1) / 32 + 1 - a / 32)).any (fun i => Units.has m.blots (a / 32 + i))

/-- Little-endian value of bytes (02 R63, notation of 00). -/
def leNat (l : List Byte) : Nat :=
  match l with
  | [] => 0
  | b :: r => b.toNat + 256 * leNat r
/-- n little-endian bytes of a number. -/
def toLe (v n : Nat) : List Byte := (List.range n).map (fun i => BitVec.ofNat 8 (v >>> (8 * i)))

/-- Place little-endian fields, given as (byte offset, width in bytes, value), in a block of n zero bytes. -/
def block (n : Nat) (fields : List (Nat × Nat × Nat)) : List Byte :=
  (List.range n).map (fun i =>
    fields.foldl (fun acc f =>
      if f.1 ≤ i ∧ i < f.1 + f.2.1 then BitVec.ofNat 8 (f.2.2 >>> (8 * (i - f.1))) else acc) (0 : Byte))

/-- The little-endian value of n bytes at an address. -/
def Store.le (m : Store) (a n : Nat) : Nat := leNat (m.bytes a n)
/-- The little-endian word at an address. -/
def Store.word (m : Store) (a : Nat) : Word := BitVec.ofNat 32 (leNat (m.bytes a 4))

/-- Write part of one 32-byte unit (R116): the unit ends blotted if it was blotted and not all 32 bytes are
replaced, or if a byte written is blotted. -/
def Store.writeUnit (m : Store) (a : Nat) (bs : List Byte) (blot : Bool) : Store :=
  let u := a / 32
  let b := blot || (Units.has m.blots u && decide (bs.length < 32))
  { m with mem := Memory.writeBytes m.mem a bs, blots := Units.put m.blots u b }

/-- Write a run of bytes that may cover several units; every unit follows R116. The fuel bounds the number of
units. -/
def Store.writeRun (fuel : Nat) (m : Store) (a : Nat) (bs : List Byte) (blot : Bool) : Store :=
  match fuel with
  | 0 => m
  | f + 1 =>
    if bs.isEmpty then m
    else
      let n := 32 - a % 32
      Store.writeRun f (m.writeUnit a (bs.take n) blot) (a + n) (bs.drop n) blot

/-- Write bytes from an address, with one blot for all of them. -/
def Store.write (m : Store) (a : Nat) (bs : List Byte) (blot : Bool) : Store :=
  Store.writeRun (bs.length / 32 + 2) m a bs blot

/-- Blot the unit that holds an address (R135, R424, R450). -/
def Store.blotUnit (m : Store) (a : Nat) : Store := { m with blots := Units.add m.blots (a / 32) }

/-- Write with the state. -/
def State.write (s : State) (a : Nat) (bs : List Byte) (blot : Bool) : State :=
  { s with store := s.store.write a bs blot }

/-- Clear a range: zero with blots and FILL clear. Used for a pool page (R477), an inkwell (R415) and a freshly
placed bulk region (R445). -/
def Store.zeroRange (m : Store) (a n : Nat) : Store :=
  { mem := m.mem.filter (fun c => decide (c.1 < a ∨ a + n ≤ c.1)),
    blots := m.blots.filter (fun u => decide (u < a / 32 ∨ (a + n) / 32 ≤ u)),
    fills := m.fills.filter (fun u => decide (u < a / 32 ∨ (a + n) / 32 ≤ u)) }

/-- Copy n bytes with their blots and FILL bits from a range of a store `v` to a range of the store `m`; both begin and end
on unit boundaries. -/
def Store.copyFrom (m v : Store) (src dst n : Nat) : Store :=
  let z := m.zeroRange dst n
  let move (l : List Nat) (acc : List Nat) : List Nat := l.foldl (fun r u =>
    if src / 32 ≤ u ∧ u < (src + n) / 32 then Units.add r (u - src / 32 + dst / 32) else r) acc
  { mem := v.mem.foldl (fun r c => if src ≤ c.1 ∧ c.1 < src + n then Memory.write r (c.1 - src + dst) c.2 else r) z.mem,
    blots := move v.blots z.blots, fills := move v.fills z.fills }

/-- Copy n bytes with their blots and FILL bits from one range to another that does not overlap it. Used for a pool page
(R481), a table (R483) and the parts of a checkpoint image (R470). -/
def Store.copyRange (m : Store) (src dst n : Nat) : Store := m.copyFrom m src dst n

/-- Whether a range holds nothing but zero bytes that are neither blotted nor filled. -/
def Store.rangeClear (m : Store) (a n : Nat) : Bool :=
  m.mem.all (fun c => decide (c.1 < a ∨ a + n ≤ c.1)) && m.blots.all (fun u => decide (u < a / 32 ∨ (a + n) / 32 ≤ u))

/-! ### Scalar and vector registers (R131) -/

/-- Scalar register n: s0 reads as zero. -/
def CoreRegs.s (r : CoreRegs) (n : Nat) : Word := if n = 0 then 0 else r.sreg.get 0 n
/-- Blot of scalar register n: s0 is never blotted. -/
def CoreRegs.sb (r : CoreRegs) (n : Nat) : Bool := if n = 0 then false else r.sblot.get false n
/-- Write scalar register n with its blot: writes to s0 are discarded. -/
def CoreRegs.setS (r : CoreRegs) (n : Nat) (v : Word) (b : Bool) : CoreRegs :=
  if n = 0 then r else { r with sreg := r.sreg.set n v, sblot := r.sblot.set n b }
/-- Lane l of vector register v. -/
def CoreRegs.v (r : CoreRegs) (v l : Nat) : Word := r.vreg.get 0 (32 * v + l)
/-- Blot of lane l of vector register v. -/
def CoreRegs.vb (r : CoreRegs) (v l : Nat) : Bool := r.vblot.get false (32 * v + l)
/-- Write lane l of vector register v (R115). -/
def CoreRegs.setV (r : CoreRegs) (v l : Nat) (x : Word) (b : Bool) : CoreRegs :=
  { r with vreg := r.vreg.set (32 * v + l) x, vblot := r.vblot.set (32 * v + l) b }

/-- Write the 32 lanes of a vector register. -/
def CoreRegs.setLanes (r : CoreRegs) (v : Nat) (f : Nat → Word) (b : Nat → Bool) : CoreRegs :=
  (List.range 32).foldl (fun q l => q.setV v l (f l) (b l)) r

/-! ### Rulings over strokes (R200, R201) -/

/-- The image of a router's active ruling. -/
def Router.image (r : Router) : Ruling :=
  r.rulings.get { portMask := 0, next := 0xFF, repeatStrokes := 0, entries := [] } r.active

/-- The ruling that succeeds the active one under R200 at some edge, where it names one. -/
def Router.successor (r : Router) : Option Nat :=
  if r.image.repeatStrokes ≠ 0 ∧ r.image.next ≠ 0xFF then some r.image.next.toNat else none

/-- The router after the edge that begins a stroke: a switch of the Quill that names the stroke (R201), else the
successor of a ruling whose REPEAT strokes are over (R200), else the same ruling one stroke on. -/
def Router.turn (r : Router) (stroke : DWord) : Router :=
  match r.pending with
  | some w =>
    if w.stroke = stroke then { r with active := w.ruling, repeatPos := w.pos, pending := none }
    else { r with repeatPos := r.repeatPos + 1 }
  | none =>
    match r.successor with
    | some n =>
      if r.image.repeatStrokes.toNat ≤ r.repeatPos + 1 then { r with active := n, repeatPos := 0 }
      else { r with repeatPos := r.repeatPos + 1 }
    | none => { r with repeatPos := r.repeatPos + 1 }

/-! ### Context counters -/

/-- The context stroke counter (R181). -/
def State.ctxStroke (s : State) (c : Nat) : DWord :=
  (s.part (c / 4)).stroke.count + (s.ctx c).run.strokeOffset

/-- The contexts of partition p that are not OFF. -/
def State.liveContexts (s : State) (p : Nat) : List Nat :=
  ((List.range 4).map (fun i => 4 * p + i)).filter (fun c => decide ((s.ctx c).lc.life ≠ .off))

/-- Context number (0 to 3) and partition of a context key. -/
def ctxNo (c : Nat) : Nat := c % 4
/-- Partition of a context key. -/
def ctxPart (c : Nat) : Nat := c / 4

/-- An n-byte little-endian field at a byte offset; bytes that are not there read as zero. -/
def fld (b : List Byte) (o n : Nat) : Nat := leNat ((b.drop o).take n)

end Sys2Proof.Machine
end

