-- ==== Sys2Proof/Machine/Links.lean ====
section
/-!
DEFINITION. The link layer of a port (10 R586, R588, R589): sequence numbers, the replay buffer, credits, the trailer of a flit.
-/
namespace Sys2Proof.Machine

/-- Update the link layer of a port. -/
def State.modLink (s : State) (p : Nat) (g : Link → Link) : State := s.modPort p (fun x => { x with link := g x.link })

/-- The virtual lane of a flit (R586). -/
def flitLane (f : FabricFlit) : Nat := if f.vl then 1 else 0

/-- Whether a flit needs a credit: a message does; a link control block and a digest end at the link and need none (DESIGN
CHOICE, log 139). -/
def flitCredited (f : FabricFlit) : Bool := decide (1 ≤ f.kind.toNat ∧ f.kind.toNat ≤ 3)

/-- The 128 bits of a flit's header (R586). -/
def flitHeader (f : FabricFlit) : Nat :=
  f.kind.toNat * 2 ^ 124 + f.dst.toNat * 2 ^ 104 + f.src.toNat * 2 ^ 88 + f.hops.toNat * 2 ^ 82 + flitLane f * 2 ^ 81 + f.low.toNat

/-- Credits that a sender holds for a virtual lane (R589). -/
def Link.credits (l : Link) (v : Nat) : Nat := l.credit.get laneCredits v

/-- The trailer of the next flit (R586): SEQ, the highest SEQ received in order, the credits to return, CRC. -/
def Link.stamp (l : Link) (f : FabricFlit) : FabricFlit :=
  { f with seq := l.txSeq, ack := l.rxSeq, credit0 := BitVec.ofNat 8 (l.owed.get 0 0), credit1 := BitVec.ofNat 8 (l.owed.get 0 1)
           crc := Config.flitCrc (flitHeader f) f.data }

/-- A flit leaves (R588, R589): it takes a SEQ, uses a credit of its lane, returns those owed, and stays among the last 256
flits of the replay buffer. -/
def Link.sent (l : Link) (f : FabricFlit) : Link :=
  { l with
    txSeq := l.txSeq + 1
    replay := (l.replay ++ [l.stamp f]).drop (l.replay.length + 1 - replayRoom)
    owed := []
    credit := if flitCredited f then l.credit.set (flitLane f) (l.credits (flitLane f) - 1) else l.credit }

/-- Whether a message may leave (R588, R589): its lane has a credit, and the replay buffer has room for it (DESIGN CHOICE, log
139). -/
def Link.ready (l : Link) (f : FabricFlit) : Bool := decide (0 < l.credits (flitLane f) ∧ l.replay.length < replayRoom)

/-- Send what waits, in the order of each lane; `stuck` lists the lanes that cannot send. -/
def State.drainList (s : State) (p : Nat) (stuck : List Nat) (l : List FabricFlit) : State :=
  match l with
  | [] => s
  | f :: r =>
    let x := (s.port p).link
    if x.ready f && !stuck.contains (flitLane f) then
      State.drainList ((s.modLink p (fun y => y.sent f)).emit (.fabric p (x.stamp f))) p stuck r
    else State.drainList (s.modLink p (fun y => { y with wait := y.wait ++ [f] })) p (flitLane f :: stuck) r

/-- Send what waits at a port, as far as its credits go. -/
def State.drainLink (s : State) (p : Nat) : State :=
  State.drainList (s.modLink p (fun y => { y with wait := [] })) p [] (s.port p).link.wait

/-- A message leaves by an ACTIVE port, or waits there for a credit (R589). -/
def State.sendFlit (s : State) (p : Nat) (f : FabricFlit) : State :=
  (s.modLink p (fun y => { y with wait := y.wait ++ [f] })).drainLink p

/-- The flit that carries a link control block or a digest (R631, R752), to the port's peer. -/
def State.linkFlit (s : State) (p : Nat) (kind : BitVec 4) (b : List Byte) : FabricFlit :=
  { kind := kind, dst := (s.port p).peerDevice, src := s.dev.fbId, hops := 0, vl := false, low := 0
    data := (List.range ((b.length + 31) / 32)).map (fun i => BitVec.ofNat 256 (leNat ((b.drop (32 * i)).take 32))) }

/-- Such a flit leaves; `o` is what the port sends. -/
def State.sendLink (s : State) (p : Nat) (kind : BitVec 4) (b : List Byte) (o : Out) : State :=
  (s.modLink p (fun y => y.sent (s.linkFlit p kind b))).emit o

/-- The flits of a replay buffer behind the acknowledged one (R586, R588). -/
def unacked (ack : BitVec 12) (l : List FabricFlit) : List FabricFlit :=
  if l.any (fun f => f.seq == ack) then (l.dropWhile (fun f => f.seq != ack)).drop 1 else l

/-- What the trailer of a received flit says to the sending side (R586, R588, R589). -/
def Link.trailer (l : Link) (f : FabricFlit) : Link :=
  { l with
    replay := unacked f.ack l.replay
    credit := (l.credit.set 0 (l.credits 0 + f.credit0.toNat)).set 1 (l.credits 1 + f.credit1.toNat) }

/-- A trailer arrives (R589): STALLED clears when a credit comes, and what waited is sent. -/
def State.takeTrailer (s : State) (p : Nat) (f : FabricFlit) : State :=
  (s.modPort p (fun x =>
    { x with link := x.link.trailer f, stalled := x.stalled && decide (f.credit0 = 0 ∧ f.credit1 = 0) })).drainLink p

/-- Whether a received flit is in order (R588): after a failure every flit is discarded until the sender replays. -/
def Link.accepts (l : Link) (f : FabricFlit) : Bool := !l.discard || decide (f.seq = l.rxSeq + 1)

/-- A flit is received in order (R588). -/
def State.takeSeq (s : State) (p : Nat) (f : FabricFlit) : State :=
  s.modLink p (fun l => { l with rxSeq := f.seq, discard := false })

/-- The buffer of a received message is free again: its credit is returned with a later flit (R589). -/
def State.oweCredit (s : State) (p : Nat) (f : FabricFlit) : State :=
  if flitCredited f then s.modLink p (fun l => { l with owed := l.owed.set (flitLane f) (l.owed.get 0 (flitLane f) + 1) }) else s

/-- A flit whose trailer is not part of the command, a link control block or a digest, is received in order (R588, R631,
R753). -/
def State.takeNext (s : State) (p : Nat) : State :=
  s.modLink p (fun l => { l with rxSeq := l.rxSeq + 1, discard := false })

/-- A port receives a flit in order: its trailer counts, then the flit is dealt with (R588, R589). -/
def State.receiveFlit (s : State) (p : Nat) (f : FabricFlit) (body : State → State) : State :=
  if (s.port p).link.accepts f then body ((s.takeSeq p f).takeTrailer p f) else s

end Sys2Proof.Machine
end

