-- ==== Sys2Proof/Machine/Numeric.lean ====
section
/-!
DEFINITION. Number formats and exact arithmetic (02 R56 to R60, R87 to R92, R99 to R106): values as sign,
magnitude and exponent, one rounding to nearest, ties to even.
-/
namespace Sys2Proof.Machine

/-- A floating-point value: NaN, an infinity, or (-1)^neg * m * 2^e exactly (R57: subnormals at full value). -/
inductive FpVal where
  | nan
  | inf (neg : Bool)
  | fin (neg : Bool) (m : Nat) (e : Int)
  deriving DecidableEq, Repr

/-- Special encodings of a format (R56). -/
inductive FpKind where
  | ieee    -- infinities and NaNs in the top exponent (E5M2, BF16, FP32)
  | nanOnly -- one NaN, S.1111.111 (E4M3)
  | finite  -- neither (FP6, FP4)
  deriving DecidableEq, Repr

/-- A floating-point format (R56). -/
structure Fmt where
  expBits : Nat
  manBits : Nat
  bias : Nat
  kind : FpKind
  deriving DecidableEq, Repr

/-- FP8 E4M3. -/
def e4m3 : Fmt := { expBits := 4, manBits := 3, bias := 7, kind := .nanOnly }
/-- FP8 E5M2. -/
def e5m2 : Fmt := { expBits := 5, manBits := 2, bias := 15, kind := .ieee }
/-- FP6 E3M2. -/
def e3m2 : Fmt := { expBits := 3, manBits := 2, bias := 3, kind := .finite }
/-- FP6 E2M3. -/
def e2m3 : Fmt := { expBits := 2, manBits := 3, bias := 1, kind := .finite }
/-- FP4 E2M1. -/
def e2m1 : Fmt := { expBits := 2, manBits := 1, bias := 1, kind := .finite }
/-- BF16. -/
def bf16 : Fmt := { expBits := 8, manBits := 7, bias := 127, kind := .ieee }
/-- FP32. -/
def fp32 : Fmt := { expBits := 8, manBits := 23, bias := 127, kind := .ieee }

/-- Width of a format. -/
def Fmt.width (f : Fmt) : Nat := 1 + f.expBits + f.manBits

/-- The value of an encoding (R56, R57). -/
def Fmt.decode (f : Fmt) (b : Nat) : FpVal :=
  let neg := b / 2 ^ (f.expBits + f.manBits) % 2 == 1
  let ex := b / 2 ^ f.manBits % 2 ^ f.expBits
  let man := b % 2 ^ f.manBits
  let top := 2 ^ f.expBits - 1
  if f.kind = .ieee ∧ ex = top then (if man = 0 then .inf neg else .nan)
  else if f.kind = .nanOnly ∧ ex = top ∧ man = 2 ^ f.manBits - 1 then .nan
  else if ex = 0 then .fin neg man (1 - (f.bias : Int) - f.manBits)
  else .fin neg (2 ^ f.manBits + man) ((ex : Int) - f.bias - f.manBits)

/-- The canonical NaN (R59). -/
def Fmt.canonicalNan (f : Fmt) : Nat :=
  match f.kind with
  | .ieee => if f.manBits = 2 then 0x7F else (2 ^ (f.expBits + 1) - 1) * 2 ^ (f.manBits - 1)
  | .nanOnly => 0x7F
  | .finite => 0

/-- The largest finite magnitude as an encoding without sign (R56). -/
def Fmt.maxBits (f : Fmt) : Nat :=
  match f.kind with
  | .ieee => (2 ^ f.expBits - 1) * 2 ^ f.manBits - 1
  | .nanOnly => 2 ^ (f.expBits + f.manBits) - 2
  | .finite => 2 ^ (f.expBits + f.manBits) - 1

/-- The encoding of an infinity, without sign. -/
def Fmt.infBits (f : Fmt) : Nat := (2 ^ f.expBits - 1) * 2 ^ f.manBits

/-- The sign bit of a format. -/
def Fmt.sign (f : Fmt) (neg : Bool) : Nat := if neg then 2 ^ (f.expBits + f.manBits) else 0

/-- Compare m1 * 2^e1 < m2 * 2^e2. -/
def magLt (m1 : Nat) (e1 : Int) (m2 : Nat) (e2 : Int) : Bool :=
  let e := min e1 e2
  decide (m1 * 2 ^ (e1 - e).toNat < m2 * 2 ^ (e2 - e).toNat)

/-- Divide by 2^n, rounding to nearest, ties to even. -/
def rneShift (m n : Nat) : Nat :=
  let q := m / 2 ^ n
  let r := m % 2 ^ n
  if 2 * r < 2 ^ n then q else if 2 ^ n < 2 * r then q + 1 else if q % 2 = 0 then q else q + 1

/-- Round m * 2^e to the precision of a format with an unbounded upper exponent range (R89, R105): the rounded
magnitude as q * 2^qe, and whether it differs from the exact value. -/
def Fmt.roundMag (f : Fmt) (m : Nat) (e : Int) : Nat × Int × Bool :=
  if m = 0 then (0, 0, false)
  else
    let top := e + (Nat.log2 m : Int)
    let qe := max (top - f.manBits) (1 - (f.bias : Int) - f.manBits)
    if qe ≤ e then (m * 2 ^ (e - qe).toNat, qe, false)
    else
      let n := (qe - e).toNat
      (rneShift m n, qe, decide (m % 2 ^ n ≠ 0))

/-- The encoding, without sign, of a magnitude q * 2^qe that the format holds exactly. -/
def Fmt.encodeMag (f : Fmt) (q : Nat) (qe : Int) : Nat :=
  if q = 0 then 0
  else
    let top := qe + (Nat.log2 q : Int)
    let emin : Int := 1 - (f.bias : Int)
    if top < emin then
      -- subnormal: the mantissa in units of 2^(emin - manBits)
      q * 2 ^ (qe - (emin - f.manBits)).toNat
    else
      let l := Nat.log2 q
      let man := if f.manBits ≤ l then q / 2 ^ (l - f.manBits) else q * 2 ^ (f.manBits - l)
      (top + f.bias).toNat * 2 ^ f.manBits + (man - 2 ^ f.manBits)

/-- A rounded result: the encoding and what the rounding found. `over`: the rounded magnitude exceeds the
largest finite value; `tiny`: a nonzero value became subnormal or zero. -/
structure Rounded where
  bits : Nat
  excess : Bool
  tiny : Bool
  inexact : Bool
  invalid : Bool
  deriving DecidableEq, Repr

/-- Round a finite value once (R87 to R90, R105): `saturate` decides what a magnitude beyond the largest finite
value becomes, the signed maximum or an infinity. -/
def Fmt.round (f : Fmt) (neg : Bool) (m : Nat) (e : Int) (saturate : Bool) : Rounded :=
  let r := f.roundMag m e
  let mx := f.decode f.maxBits
  let excess := match mx with
    | .fin _ mm me => magLt mm me r.1 r.2.1
    | _ => false
  if excess then
    { bits := f.sign neg + (if saturate then f.maxBits else f.infBits), excess := true, tiny := false,
      inexact := true, invalid := false }
  else
    let b := f.encodeMag r.1 r.2.1
    { bits := f.sign neg + b, excess := false, tiny := decide (m ≠ 0 ∧ b < 2 ^ f.manBits),
      inexact := r.2.2, invalid := false }

/-- An exact result with no flag. -/
def exactBits (b : Nat) : Rounded :=
  { bits := b, excess := false, tiny := false, inexact := false, invalid := false }

/-- Round a value for an operation of FP32 arithmetic (R99, R100, R102): beyond the largest finite value an
infinity, a NaN the canonical NaN. -/
def Fmt.result (f : Fmt) (v : FpVal) : Rounded :=
  match v with
  | .nan => exactBits f.canonicalNan
  | .inf neg => exactBits (f.sign neg + f.infBits)
  | .fin neg m e => f.round neg m e false

/-- Round a value for a conversion (R60, R105): out of range saturates; an infinity stays one where the format
has it and else saturates with overflow; a NaN becomes +0 with INVALID where the format has none. -/
def Fmt.convert (f : Fmt) (v : FpVal) : Rounded :=
  match v with
  | .nan => if f.kind = .finite then { exactBits 0 with invalid := true } else exactBits f.canonicalNan
  | .inf neg =>
    if f.kind = .ieee then exactBits (f.sign neg + f.infBits)
    else { exactBits (f.sign neg + f.maxBits) with excess := true }
  | .fin neg m e => f.round neg m e true

/-- Whether a value is NaN. -/
def FpVal.isNan : FpVal → Bool
  | .nan => true
  | _ => false

/-- Exact product (R67, R79, R100): zero times infinity is NaN. -/
def FpVal.mul (a b : FpVal) : FpVal :=
  match a, b with
  | .nan, _ => .nan
  | _, .nan => .nan
  | .inf s, .inf t => .inf (s != t)
  | .inf s, .fin t m _ => if m = 0 then .nan else .inf (s != t)
  | .fin s m _, .inf t => if m = 0 then .nan else .inf (s != t)
  | .fin s m e, .fin t n g => .fin (s != t) (m * n) (e + g)

/-- A finite value as an integer multiple of 2^e, for e at or below its exponent. -/
def signedAt (neg : Bool) (m : Nat) (e base : Int) : Int :=
  let x : Int := (m * 2 ^ (e - base).toNat : Nat)
  if neg then -x else x

/-- Exact sum (R100): a zero sum of values that are not both -0 is +0; infinities of opposite signs give NaN. -/
def FpVal.add (a b : FpVal) : FpVal :=
  match a, b with
  | .nan, _ => .nan
  | _, .nan => .nan
  | .inf s, .inf t => if s = t then .inf s else .nan
  | .inf s, _ => .inf s
  | _, .inf t => .inf t
  | .fin s m e, .fin t n g =>
    let base := min e g
    let x := signedAt s m e base + signedAt t n g base
    if x = 0 then .fin (s && t && decide (m = 0) && decide (n = 0)) 0 0
    else .fin (decide (x < 0)) x.natAbs base

/-- Negation. -/
def FpVal.neg : FpVal → FpVal
  | .nan => .nan
  | .inf s => .inf (!s)
  | .fin s m e => .fin (!s) m e

/-- a < b for values that are not NaN, with -0 less than +0 (R101). -/
def FpVal.lt (a b : FpVal) : Bool :=
  match a, b with
  | .nan, _ => false
  | _, .nan => false
  | .inf s, .inf t => s && !t
  | .inf s, .fin _ _ _ => s
  | .fin _ _ _, .inf t => !t
  | .fin s m e, .fin t n g =>
    let base := min e g
    let x := signedAt s m e base
    let y := signedAt t n g base
    if x = 0 ∧ y = 0 then s && !t else decide (x < y)

/-- Round a dyadic value to the nearest integer, ties to even (R92, R105). -/
def rneInt (neg : Bool) (m : Nat) (e : Int) : Int :=
  let x : Nat := if 0 ≤ e then m * 2 ^ e.toNat else rneShift m (-e).toNat
  if neg then -(x : Int) else x

/-- Whether a dyadic value is not an integer. -/
def notInt (m : Nat) (e : Int) : Bool := decide (e < 0 ∧ m % 2 ^ (-e).toNat ≠ 0)

/-- Clamp to the INT32 range: the value and whether it changed. -/
def clampInt32 (x : Int) : Int × Bool :=
  if x < -(2 ^ 31) then (-(2 ^ 31), true) else if 2 ^ 31 - 1 < x then (2 ^ 31 - 1, true) else (x, false)

/-- A conversion to INT32 (R105): NaN gives 0 and INVALID; out of range saturates with overflow; a nonzero value that
rounds to 0 is an underflow (R127). -/
def toInt32 (v : FpVal) : Rounded :=
  match v with
  | .nan => { exactBits 0 with invalid := true }
  | .inf neg => { exactBits (if neg then 0x80000000 else 0x7FFFFFFF) with excess := true }
  | .fin neg m e =>
    let c := clampInt32 (rneInt neg m e)
    { bits := (BitVec.ofInt 32 c.1).toNat, excess := c.2, tiny := decide (m ≠ 0 ∧ c.1 = 0), inexact := c.2 || notInt m e,
      invalid := false }

/-- The FP32 value of a lane (R877). -/
def laneVal (w : Word) : FpVal := fp32.decode w.toNat

/-- The value of a BF16 pattern, widened exactly (R102). -/
def bf16Val (n : Nat) : FpVal := bf16.decode (n % 2 ^ 16)

end Sys2Proof.Machine
end

