-- ==== Sys2Proof/Machine/Accum.lean ====
section
/-!
DEFINITION. The anchored accumulator (02 R68 to R80) and its drain (R76, R86 to R92), shared by the matrix engine
and the combining queues.
-/
namespace Sys2Proof.Machine

/-- The integer a finite term enters as: truncated toward zero to the grid 2^(A - 126) (R71), with whether it was
inexact (R72). -/
def quantise (anchor : Int) (m : Nat) (e : Int) : Nat × Bool :=
  let g := anchor - 126
  if g ≤ e then (m * 2 ^ (e - g).toNat, false)
  else
    let n := (g - e).toNat
    (m / 2 ^ n, decide (m % 2 ^ n ≠ 0))

/-- Add a finite term to an accumulator (R71 to R74). -/
def Acc.addFinite (a : Acc) (anchor : Int) (neg : Bool) (m : Nat) (e : Int) : Acc :=
  let q := quantise anchor m e
  let big := decide (2 ^ 127 - 1 < q.1)
  let t := if big then 2 ^ 127 - 1 else q.1
  let x : Int := if neg then -(t : Int) else t
  { a with t := a.t + BitVec.ofInt 160 x, n := a.n + 1, inexact := a.inexact || q.2,
           overflow := a.overflow || big }

/-- The special state after a special term (R78). -/
def Special.join : Special → FpVal → Special
  | .nan, _ => .nan
  | s, .fin _ _ _ => s
  | _, .nan => .nan
  | .none, .inf neg => if neg then .minusInf else .plusInf
  | .plusInf, .inf neg => if neg then .nan else .plusInf
  | .minusInf, .inf neg => if neg then .minusInf else .nan

/-- Add a term (R71 to R80): a special term changes the special state alone. -/
def Acc.add (a : Acc) (anchor : Int) (v : FpVal) : Acc :=
  match v with
  | .fin neg m e => a.addFinite anchor neg m e
  | _ => { a with special := a.special.join v }

/-- S: T clamped to -2^127 .. 2^127 - 1 (R76), and whether the clamp changed it. -/
def Acc.s (a : Acc) : Int × Bool :=
  let x := a.t.toInt
  if x < -(2 ^ 127) then (-(2 ^ 127), true) else if 2 ^ 127 - 1 < x then (2 ^ 127 - 1, true) else (x, false)

/-- An accumulator after its S is read (R76). -/
def Acc.afterRead (a : Acc) : Acc := { a with overflow := a.overflow || a.s.2 }

/-- Destination formats of a drain (R86, R144). -/
inductive DrainFmt where
  | float (f : Fmt)
  | int32
  deriving DecidableEq, Repr

/-- The drain format of a code (R144), none for a code that is not a drain destination. -/
def drainFmt (code : Nat) : Option DrainFmt :=
  match code with
  | 0x0 => some (.float e4m3)
  | 0x1 => some (.float e5m2)
  | 0x8 => some (.float bf16)
  | 0x9 => some (.float fp32)
  | 0xA => some .int32
  | _ => none

/-- Bytes of an element of a drain format. -/
def DrainFmt.bytes : DrainFmt → Nat
  | .int32 => 4
  | .float f => f.width / 8

/-- What a drain of one accumulator gives: the element and the flags of R89 to R92. -/
structure Drained where
  bits : Nat
  ovf : Bool
  tiny : Bool
  invalid : Bool
  deriving DecidableEq, Repr

/-- Drain one accumulator with its anchor (R87 to R92). -/
def Acc.drain (a : Acc) (anchor : Int) (d : DrainFmt) : Drained :=
  match d, a.special with
  | .float f, .none =>
    let x := a.s.1
    let r := f.round (decide (x < 0)) x.natAbs (anchor - 126) (f.manBits = 3 ∨ f.manBits = 2)
    { bits := r.bits, ovf := r.excess, tiny := decide (x ≠ 0) && r.tiny, invalid := false }
  | .float f, .nan => { bits := f.canonicalNan, ovf := false, tiny := false, invalid := false }
  | .float f, s =>
    let neg := decide (s = .minusInf)
    if f.kind = .ieee then
      { bits := f.sign neg + f.infBits, ovf := false, tiny := false, invalid := false }
    else { bits := f.sign neg + f.maxBits, ovf := true, tiny := false, invalid := false }
  | .int32, .none =>
    let x := a.s.1
    let c := clampInt32 (rneInt (decide (x < 0)) x.natAbs (anchor - 126))
    { bits := (BitVec.ofInt 32 c.1).toNat, ovf := c.2, tiny := false, invalid := false }
  | .int32, .nan => { bits := 0, ovf := false, tiny := false, invalid := true }
  | .int32, .plusInf => { bits := 0x7FFFFFFF, ovf := true, tiny := false, invalid := false }
  | .int32, .minusInf => { bits := 0x80000000, ovf := true, tiny := false, invalid := false }

end Sys2Proof.Machine
end

