-- ==== Sys2Proof/Machine/MatrixUnit.lean ====
section
/-!
DEFINITION. What the matrix engine computes (02 R56, R61 to R82, R95 to R98, R881; 03 R143, R144): operand formats,
the operand group, the terms of an MMA, accumulator records.
-/
namespace Sys2Proof.Machine

/-- An MMA operand format (R144): element bits, whether it carries block scales, how an element reads. -/
inductive OpFmt where
  | fp (f : Fmt) (mx : Bool)
  | int8
  | bf16
  deriving DecidableEq, Repr

/-- The operand format of a code (R144), none for a code marked No. -/
def opFmt (code : Nat) : Option OpFmt :=
  match code with
  | 0x0 => some (.fp e4m3 false)
  | 0x1 => some (.fp e5m2 false)
  | 0x2 => some (.fp e4m3 true)
  | 0x3 => some (.fp e5m2 true)
  | 0x4 => some (.fp e3m2 true)
  | 0x5 => some (.fp e2m3 true)
  | 0x6 => some (.fp e2m1 true)
  | 0x7 => some .int8
  | 0x8 => some .bf16
  | _ => none

/-- Bits of an element (R63). -/
def OpFmt.bits : OpFmt → Nat
  | .fp f _ => f.width
  | .int8 => 8
  | .bf16 => 16

/-- Whether a format carries block scales (R62). -/
def OpFmt.mx : OpFmt → Bool
  | .fp _ m => m
  | _ => false

/-- The format pairs the ME accepts (R66). -/
def pairOk (a b : OpFmt) : Bool :=
  match a, b with
  | .fp _ _, .fp _ _ => true
  | .int8, .int8 => true
  | .bf16, .bf16 => true
  | _, _ => false

/-- The value of an element pattern. -/
def OpFmt.value (f : OpFmt) (b : Nat) : FpVal :=
  match f with
  | .fp g _ => g.decode b
  | .int8 => let x := (BitVec.ofNat 8 b).toInt; .fin (decide (x < 0)) x.natAbs 0
  | .bf16 => bf16Val b

/-- Occupancy of the ME per reduction block of 32 (R110, R881): 16 for an MXFP4 pair, 64 for BF16, else 32. -/
def blockCycles (a b : OpFmt) : Nat :=
  if a = .bf16 then 64 else if a = .fp e2m1 true ∧ b = .fp e2m1 true then 16 else 32

/-- The operand group held in four register values (R143). -/
def mmaArgs (r0 r1 r2 r3 : Word) : MmaArgs :=
  { aAddr := r0.toNat % 2 ^ 18, bAddr := r1.toNat % 2 ^ 18,
    aScale := r2.toNat % 2 ^ 13 * 32, bScale := r2.toNat / 2 ^ 16 % 2 ^ 13 * 32,
    fa := r3.toNat / 2 ^ 28, fb := r3.toNat / 2 ^ 24 % 16, k := r3.toNat % 2 ^ 17 }

/-- Row pitch in bytes (R143). -/
def rowPitch (k : Nat) (f : OpFmt) : Nat := k * f.bits / 8

/-- Element k of a packed row at an address (R63): `w` bits from bit k * w of the little-endian bytes. -/
def Store.element (m : Store) (row k w : Nat) : Nat :=
  let b := k * w
  let a := row + b / 8
  ((m.byte a).toNat + 256 * (m.byte (a + 1)).toNat) / 2 ^ (b % 8) % 2 ^ w

/-- Whether a unit an element is read from is blotted (R111). -/
def Store.elementBlot (m : Store) (row k w : Nat) : Bool :=
  m.blotAt (row + k * w / 8) || m.blotAt (row + (k * w + w - 1) / 8)

/-- One side of an MMA: the base of the elements, of the scales, the format, K. -/
structure Side where
  base : Nat
  scale : Nat
  fmt : OpFmt
  k : Nat
  deriving DecidableEq, Repr

/-- The value of element (i, k) with its block scale (R62, R64): a scale byte of 0xFF makes it NaN. -/
def Side.value (m : Store) (x : Side) (i k : Nat) : FpVal :=
  let v := x.fmt.value (m.element (x.base + i * rowPitch x.k x.fmt) k x.fmt.bits)
  if x.fmt.mx then
    let e := (m.byte (x.scale + i * (x.k / 32) + k / 32)).toNat
    if e = 0xFF then .nan
    else match v with
      | .fin neg q g => .fin neg q (g + e - 127)
      | w => w
  else v

/-- Whether element (i, k) or the scale that applies to it is blotted (R111, R112). -/
def Side.blot (m : Store) (x : Side) (i k : Nat) : Bool :=
  m.elementBlot (x.base + i * rowPitch x.k x.fmt) k x.fmt.bits ||
    (x.fmt.mx && m.blotAt (x.scale + i * (x.k / 32) + k / 32))

/-- Accumulate the first `terms` of the K terms of one accumulator (R65, R67, R71 to R80, R112); `v` is the store as each
reduction block of 32 is read (R881). -/
def accumulate (v : Nat → Store) (a b : Side) (terms : Nat) (anchor : Int) (i j : Nat) (acc : Acc) : Acc :=
  (List.range terms).foldl (fun x k =>
    let m := v (k / 32)
    let y := x.add anchor ((a.value m i k).mul (b.value m j k))
    { y with blot := y.blot || a.blot m i k || b.blot m j k }) acc

/-- The anchor of an MMA (R69). -/
def mmaAnchor (field : Int) (f : OpFmt) : Int := if f = .int8 then 126 else field

/-- Accumulator (i, j) of a bank. -/
def CoreEng.accAt (e : CoreEng) (bank i j : Nat) : Acc := e.acc.get Acc.clear (bank * 512 + i * 16 + j)

/-- The bank after the first `terms` terms of an MMA (R81): cleared first with CLR, then every accumulator takes its terms. -/
def mmaBank (v : Nat → Store) (a b : Side) (terms : Nat) (anchor : Int) (clr : Bool) (bank : Nat) (e : CoreEng) : Tbl Acc :=
  (List.range 512).foldl (fun t n =>
    t.set (bank * 512 + n)
      (accumulate v a b terms anchor (n / 16) (n % 16) (if clr then Acc.clear else t.get Acc.clear (bank * 512 + n))))
    e.acc

/-- The code of a special state in a record (R95). -/
def Special.code : Special → Nat
  | .none => 0 | .plusInf => 1 | .minusInf => 2 | .nan => 3

/-- The special state of a code (R95). -/
def specialOf (n : Nat) : Special :=
  match n % 4 with
  | 0 => .none | 1 => .plusInf | 2 => .minusInf | _ => .nan

/-- The 32-byte record of an accumulator (R95). -/
def Acc.image (a : Acc) (anchor : Int) : List Byte :=
  block 32 [(0, 20, a.t.toNat), (20, 2, (BitVec.ofInt 16 anchor).toNat),
    (22, 1, (if a.inexact then 1 else 0) + (if a.overflow then 2 else 0) + (if a.blot then 4 else 0) +
      8 * a.special.code), (24, 4, a.n.toNat)]

/-- The ANCHOR of a record (R95), signed. -/
def Store.recAnchor (m : Store) (a : Nat) : Int := (BitVec.ofNat 16 (leNat (m.bytes (a + 20) 2))).toInt

/-- The accumulator a record holds (R95, R96): blotted if its flag or its unit is. -/
def Store.recAcc (m : Store) (a : Nat) : Acc :=
  let f := (m.byte (a + 22)).toNat
  { t := BitVec.ofNat 160 (leNat (m.bytes a 20)), n := BitVec.ofNat 32 (leNat (m.bytes (a + 24) 4)),
    special := specialOf (f / 8), inexact := f % 2 = 1, overflow := f / 2 % 2 = 1,
    blot := decide (f / 4 % 2 = 1) || m.blotAt a }

end Sys2Proof.Machine
end

