-- ==== Sys2Proof/Machine/LocalStore.lean ====
section
/-!
DEFINITION. The timed local store of a core (03 R133 to R135, R148; 02 R54, R110, R881): the writes still to be made,
the store as a read of a cycle sees it, and the matrix engine's operation under way.
-/
namespace Sys2Proof.Machine

/-- Whether the half of cluster k runs at 1:2 (R217, R218). -/
def State.halfRate (s : State) (k : Nat) : Bool :=
  let r := (s.part (s.partOf k)).stroke.seamRatio
  decide (s.dev.mode = 0) && ((r == 1 && decide (colOf k < 4)) || (r == 2 && decide (4 ≤ colOf k)))

/-- Cycles of a stroke in cluster k: 256, or 128 in a half at 1:2 (R179, R218). -/
def State.strokeLen (s : State) (k : Nat) : Nat := if s.halfRate k then 128 else 256

/-- d cycles after cycle t of core n (cycles number stroke * 256 + cycle). -/
def State.after (s : State) (n t d : Nat) : Nat :=
  let len := s.strokeLen (kOf n)
  let c := t % 256 + d
  (t / 256 + c / len) * 256 + c % len

/-- The cycle that core n has come to: that of its next instruction, at least the first of the stroke in progress. -/
def State.coreNow (s : State) (n : Nat) : Nat :=
  max (s.core n).ctl.cyc ((s.part (s.partOf (kOf n))).stroke.count.toNat * 256)

/-- Whether cycle t of core n has come: it is not in a stroke whose edge is still to pass (R183). -/
def State.cycleDue (s : State) (n t : Nat) : Bool :=
  decide (t / 256 ≤ (s.part (s.partOf (kOf n))).stroke.count.toNat)

/-- Update the timed part of a core's local store. -/
def State.modLocal (s : State) (n : Nat) (f : CoreLs → CoreLs) : State :=
  s.modCore n (fun c => { c with ls := f c.ls })

/-! ### Writes in the order in which they take effect -/

/-- Whether write a comes before write b, or with it (R134): an earlier cycle, or the same cycle on a port that does not
rank higher. -/
def LsWrite.before (a b : LsWrite) : Bool :=
  decide (a.cycle < b.cycle) || (decide (a.cycle = b.cycle) && decide (a.port ≤ b.port))

/-- Whether two writes touch a byte in common. -/
def LsWrite.overlaps (a b : LsWrite) : Bool :=
  decide (a.addr < b.addr + b.bytes.length) && decide (b.addr < a.addr + a.bytes.length)

/-- Put a write in its place. -/
def LsWrite.into (w : LsWrite) (l : List LsWrite) : List LsWrite :=
  match l with
  | [] => [w]
  | e :: r => if e.before w then e :: w.into r else w :: e :: r

/-- Whether a read in cycle c sees a write (R134): the writes of earlier cycles, and the blot that the reads of the cycle
leave (R135). The last rows of a DRAIN or ACC_SAVE, written seven cycles after they are read, can so be read in the cycle after
R110's latency of 22 or 134 (R54; DESIGN CHOICE, log 121). -/
def LsWrite.seen (c : Nat) (w : LsWrite) : Bool :=
  decide (w.cycle < c) || (decide (w.cycle = c) && decide (w.port = 0))

/-- The blot a write leaves on its unit (R116). -/
def LsWrite.leaves (w : LsWrite) (before : Bool) : Bool := w.blot || (before && decide (w.bytes.length < 32))

/-- Make writes in order (R134). `m0` is the store at the start of the cycle of the writes `done` before; where a write
meets bytes of one of these, that one does not count for the unit's blot. -/
def Store.makeWrites (base : Nat) (m0 m : Store) (done : List LsWrite) (ws : List LsWrite) : Store :=
  match ws with
  | [] => m
  | w :: r =>
    let same := done.any (fun e => decide (e.cycle = w.cycle))
    let start := if same then m0 else m
    let done := if same then done else []
    let unit := (base + w.addr) / 32
    let kept := done.filter (fun e => decide ((base + e.addr) / 32 = unit) && !e.overlaps w)
    let blot := kept.foldl (fun b e => e.leaves b) (Units.has start.blots unit)
    let m1 : Store := { m with mem := Memory.writeBytes m.mem (base + w.addr) w.bytes,
                               blots := Units.put m.blots unit (w.leaves blot) }
    Store.makeWrites base start m1 (done ++ [w]) r

/-- The store as a read of core n in cycle c sees its local store (R134). -/
def State.lsView (s : State) (n c : Nat) : Store :=
  let l := (s.core n).ls.flight.filter (LsWrite.seen c)
  if l.isEmpty then s.store else s.store.makeWrites (lsBase n) s.store [] l

/-- The store with every write of core n made. -/
def State.lsFinal (s : State) (n : Nat) : Store := s.store.makeWrites (lsBase n) s.store [] (s.core n).ls.flight

/-- Core n writes bytes of one unit in a cycle (R133, R134). -/
def State.lsPut (s : State) (n cycle port addr : Nat) (bytes : List Byte) (blot : Bool) : State :=
  s.modLocal n (fun l =>
    { l with flight := LsWrite.into { cycle := cycle, port := port, addr := addr, bytes := bytes, blot := blot } l.flight })

/-- An instruction issued in cycle t writes bytes of one unit in a later cycle (R148). -/
def State.lsStore (s : State) (n t d port addr : Nat) (bytes : List Byte) (blot : Bool) : State :=
  s.lsPut n (s.after n t d) port addr bytes blot

/-- Core n writes units of 32 bytes one after the other from an address in one cycle, each with its blot. -/
def State.lsPutUnits (s : State) (n cycle port addr : Nat) (us : List (List Byte × Bool)) : State :=
  us.zipIdx.foldl (fun t u => t.lsPut n cycle port (addr + 32 * u.2) u.1.1 u.1.2) s

/-! ### The matrix engine's operation under way -/

/-- The two sides of an MMA. -/
def MmaArgs.sides (x : MmaArgs) (base : Nat) (fa fb : OpFmt) : Side × Side :=
  ({ base := base + x.aAddr, scale := base + x.aScale, fmt := fa, k := x.k },
   { base := base + x.bAddr, scale := base + x.bScale, fmt := fb, k := x.k })

/-- Whether the ANCHOR of record i spoils an ACC_LOAD (R97, R98); `v` is the store as each four records are read. -/
def recordBad (v : Nat → Store) (addr i : Nat) : Bool :=
  let x := (v (i / 4)).recAnchor (addr + 32 * i)
  decide (x < -512) || decide (511 < x) || decide (x ≠ (v 0).recAnchor addr)

/-- The lowest record whose ANCHOR spoils an ACC_LOAD (R97, R98). -/
def badRecord (v : Nat → Store) (addr : Nat) : Option Nat := (List.range 512).find? (recordBad v addr)

/-- The engine once an operation has done its work (R81, R97, R98, R881), an MMA its first `blocks` reduction blocks; `v` is
the store as a cycle from the start on sees it. -/
def MeRun.finish (x : MeRun) (blocks : Nat) (v : Nat → Store) (base : Nat) (e : CoreEng) : CoreEng :=
  match x with
  | .mma _ g clr bank anchor =>
    match opFmt g.fa, opFmt g.fb with
    | some fa, some fb =>
      let y := g.sides base fa fb
      let p := blockCycles fa fb
      { e with acc := mmaBank (fun b => v (b * p)) y.1 y.2 (32 * min blocks (g.k / 32)) anchor clr bank e }
    | _, _ => e
  | .load _ bank addr =>
    if (badRecord v (base + addr)).isSome then e
    else
      { e with acc := (List.range 512).foldl (fun (t : Tbl Acc) i =>
                 t.set (bank * 512 + i) ((v (i / 4)).recAcc (base + addr + 32 * i))) e.acc
               anchor := e.anchor.set bank ((v 0).recAnchor (base + addr)) }

/-- The reduction blocks of an MMA. -/
def MeRun.blocks : MeRun → Nat
  | .mma _ g _ _ _ => g.k / 32
  | .load _ _ _ => 0

/-- The cycle in which an operation began. -/
def MeRun.start : MeRun → Nat
  | .mma t _ _ _ _ => t
  | .load t _ _ => t

/-- The store as the operation under way sees it, d cycles after its start. -/
def State.runView (s : State) (n : Nat) (x : MeRun) (d : Nat) : Store := s.lsView n (s.after n x.start d)

/-- The engine of core n once its operation under way is done. -/
def State.meFinal (s : State) (n : Nat) : CoreEng :=
  let c := s.core n
  match c.ls.run with
  | none => c.eng
  | some x => x.finish x.blocks (s.runView n x) (lsBase n) c.eng

/-- The engine as a row read in cycle c sees it (R110): a bank under ACC_LOAD is replaced in the load's cycle 133 and can
be read from cycle 134. -/
def State.meAt (s : State) (n c : Nat) : CoreEng :=
  match (s.core n).ls.run with
  | some (.load t _ _) => if c ≤ s.after n t 133 then (s.core n).eng else s.meFinal n
  | _ => s.meFinal n

/-- The operation under way takes its effect. -/
def State.meSettle (s : State) (n : Nat) : State :=
  s.modCore n (fun c => { c with eng := s.meFinal n, ls := { c.ls with run := none } })

/-- Make the writes of core n that no read to come can miss any more: those of cycles before c, before the next access
of its transfer and before the operation its ME works on began. -/
def State.lsTick (s : State) (n c : Nat) : State :=
  let x := s.core n
  let c1 := match x.te.xfer with | some t => min c t.cycle | none => c
  let c2 := match x.te.desc with | some d => min c1 d.issued | none => c1
  let c3 := match x.ls.run with | some r => min c2 r.start | none => c2
  let old := x.ls.flight.takeWhile (fun w => decide (w.cycle < c3))
  if old.isEmpty then s
  else
    let m := s.store.makeWrites (lsBase n) s.store [] old
    ({ s with store := m } : State).modLocal n (fun l => { l with flight := l.flight.dropWhile (fun w => decide (w.cycle < c3)) })

/-- What spoils an ACC_LOAD: the cycle in which the record is read, the bank, the record's row. -/
structure LoadFault where
  cycle : Nat
  bank : Nat
  row : Nat
  deriving DecidableEq, Repr

/-- The record that spoils the ACC_LOAD under way, as the cycles in which records are read find them (R97, R98, R110). -/
def State.loadFault (s : State) (n : Nat) : Option LoadFault :=
  match (s.core n).ls.run with
  | some (.load t b addr) =>
    (badRecord (s.runView n (.load t b addr)) (lsBase n + addr)).map (fun i =>
      { cycle := s.after n t (i / 4), bank := b, row := i / 16 })
  | _ => none

/-- The fields of CO_ENG_ERR (R121, R123): engine, kind, DETAIL. -/
def engFields (engine kind detail : Nat) : Word :=
  BitVec.ofNat 32 (engine * 2 ^ 27 + kind * 2 ^ 23 + (detail % 256) * 2 ^ 15)

/-- An ACC_LOAD that is to read a spoilt record ends without a bank (R97, R98): CO_ENG_ERR records ACC_IMAGE. -/
def State.loadSettle (s : State) (n : Nat) : State :=
  match s.loadFault n with
  | some x => s.modCore n (fun c =>
      { c with eng := { c.eng with err := c.eng.err.record (engFields 0 8 (x.bank * 32 + x.row)) 0 0 }
               ls := { c.ls with run := none } })
  | none => s

/-- The reduction blocks whose terms an MMA has added by cycle c: a block's terms are there 7 cycles after its P cycles (R110;
DESIGN CHOICE, log 95). -/
def State.blocksDone (s : State) (n c : Nat) (x : MeRun) : Nat :=
  match x with
  | .mma t g _ _ _ =>
    match opFmt g.fa, opFmt g.fb with
    | some fa, some fb =>
      ((List.range (g.k / 32)).filter (fun b => decide (s.after n t ((b + 1) * blockCycles fa fb + 6) ≤ c))).length
    | _, _ => 0
  | .load _ _ _ => 0

/-- The engine of core n if its operation under way stops after cycle c: an MMA has added the blocks it has done, an ACC_LOAD
has replaced its bank or not (R110). -/
def State.meStopped (s : State) (n c : Nat) : CoreEng :=
  let x := s.core n
  match x.ls.run with
  | none => x.eng
  | some (.load t _ _) => if c < s.after n t 133 then x.eng else s.meFinal n
  | some r => r.finish (s.blocksDone n c r) (s.runView n r) (lsBase n) x.eng

/-- Undo the vector register writes that were not made by cycle c, the last first. -/
def CoreRegs.undo (r : CoreRegs) (c : Nat) (l : List VecWrite) : CoreRegs :=
  match l with
  | [] => r
  | w :: rest =>
    let q := r.undo c rest
    if c + 1 < w.ready then
      q.setLanes w.reg (fun i => (w.before.getD i (0, false)).1) (fun i => (w.before.getD i (0, false)).2)
    else q

/-- The core has stopped (R165): its engines complete no write after cycle c, in local store, vector registers or accumulators,
and nothing enters its channels and buffers after it. -/
def State.dropWrites (s : State) (n c : Nat) : State :=
  let e := s.meStopped n c
  s.modCore n (fun x =>
    { x with eng := e, regs := x.regs.undo c x.ls.vwrites
             ls := { flight := x.ls.flight.filter (fun w => decide (w.cycle ≤ c)), run := none, vwrites := [] }
             due := x.due.filter (fun d => decide (d.cycle ≤ c)) })

/-- Everything under way in core n is done: its ME's operation and its writes (log 95). -/
def State.lsSettle (s : State) (n : Nat) : State :=
  if (s.core n).ls = .reset then s
  else
    let t := (s.loadSettle n).meSettle n
    ({ t with store := t.lsFinal n } : State).modLocal n (fun l => { l with flight := [] })

end Sys2Proof.Machine
end

