-- ==== Sys2Proof/Machine/Records.lean ====
section
/-!
DEFINITION. Stored records (14 R834 to R840): what the device writes to the record banks.
-/
namespace Sys2Proof.Machine

/-- Bytes of a record in a bank (R834, R836): header, body as stored, signature, COMMIT, padded to 256. -/
def Rec.size (r : Rec) : Nat :=
  let body := if 65536 < r.body.length then 48 else r.body.length + (if r.flags % 2 = 1 then 16 else 0)
  (32 + body + (if r.signer ≠ 0 then 64 else 0) + 4 + 255) / 256 * 256

/-- Size of a record bank (R833): 3.5 MiB. -/
def bankSize : Nat := 0x380000

/-- The records of the factory area (R833, R837): OPERATING_POINTS and the certificates, the first five of the store (log 19). -/
def factoryRecs : List Rec :=
  { type := 1, index := 0, signer := 1, flags := 0, seq := 1, body := Config.operatingPoints } ::
    (List.range 4).map (fun i => { type := 2, index := i, signer := 0, flags := 0, seq := 2 + i, body := Config.cert i 0 })

/-- The highest SEQUENCE in the store. -/
def Ident.lastSeq (d : Ident) : Nat := d.recs.foldl (fun a r => max a r.seq) 5

/-- Give governing records new SEQUENCE values from n on (R839). -/
def renumber (n : Nat) (l : List Rec) : List Rec :=
  match l with
  | [] => []
  | r :: t => { r with seq := n } :: renumber (n + 1) t

/-- Write a record (R834, R835, R839): it governs its TYPE and INDEX from now on; a bank without room is compacted first. -/
def Ident.write (d : Ident) (type index signer flags : Nat) (body : List Byte) : Ident :=
  let fresh : Rec := { type := type, index := index, signer := signer, flags := flags, seq := 0, body := body }
  let fits := decide (d.used + fresh.size ≤ bankSize)
  let old := if fits then d.recs else renumber (d.lastSeq + 1) d.recs
  let used := if fits then d.used else d.recs.foldl (fun a r => a + r.size) 0
  let seq := old.foldl (fun a r => max a r.seq) 5 + 1
  { d with recs := old.filter (fun r => decide (r.type ≠ type ∨ r.index ≠ index)) ++ [{ fresh with seq := seq }]
           used := used + fresh.size }

/-- The governing record of a TYPE and INDEX (R835). -/
def Ident.governing (d : Ident) (type index : Nat) : Option Rec :=
  (d.recs ++ factoryRecs).find? (fun r => decide (r.type = type ∧ r.index = index))

/-- Write a record with the state. -/
def State.writeRec (s : State) (type index signer flags : Nat) (body : List Byte) : State :=
  s.modIdent (fun d => d.write type index signer flags body)

/-- An event of severity 3 or 4 is kept in the field log (R837): 1,024 records in rotation, encrypted. -/
def State.fieldLog (s : State) (r : List Byte) : State :=
  s.modIdent (fun d => { (d.write 6 (d.logNext % 1024) 2 1 r) with logNext := (d.logNext + 1) % 1024 })

/-- The body of a HEALTH record (R837): the score, then the port scores. -/
def State.healthBody (s : State) : List Byte :=
  toLe s.quill.health.score 2 ++ (List.range 16).flatMap (fun f => toLe (s.quill.health.portScore.get 1000 f) 2)

/-- Save the scores (R717). -/
def State.saveHealth (s : State) : State := s.writeRec 4 0 2 0 s.healthBody

end Sys2Proof.Machine
end

