-- ==== Sys2Proof/Machine/Events.lean ====
section
/-!
DEFINITION. Event records (09 R545 to R548, R570), completions (R527, R541), the end of a command, the kill of a
context (08 R457, 11 R657, R659, R667).
-/
namespace Sys2Proof.Machine

/-- Put a vector on the list of messages due (R530). -/
def Fn.due (f : Fn) (irq : Bool) (vector : BitVec 6) : Fn :=
  if irq then { f with msixDue := setAdd f.msixDue vector.toNat } else f

/-- Records of severity 3 or 4 are held where a ring has no room (R529). -/
def recSeverity (r : List Byte) : Nat := (r.getD 2 0).toNat

/-- Whether a ring takes a record (R528, R529): in use, its function allowed to write (R502), one entry left free. -/
def Fn.ringRoom (f : Fn) : Bool :=
  f.ring.active && !f.mute && decide (0 < f.ring.size) &&
    decide ((f.ring.tail + 1) % f.ring.size ≠ f.ring.head)

/-- Write a record at the tail of a ring with its phase, and advance (R521, R528). -/
def State.ringWrite (s : State) (f : Nat) (r : List Byte) : State :=
  let x := s.fn f
  let t := x.ring.tail
  let bytes := r.set 3 (if x.ring.phase then 1 else 0)
  let wrap := decide ((t + 1) % x.ring.size = 0)
  let ring := { x.ring with tail := (t + 1) % x.ring.size, phase := x.ring.phase != wrap }
  (s.modFn f (fun y => { y with ring := ring }.due x.ring.irqEn x.ring.vector)).emit (.event f t bytes (x.ring.base.toNat + 32 * t))

/-- Deliver a record to a function's event ring (R528, R529, R579). -/
def State.toRing (s : State) (f : Nat) (r : List Byte) : State :=
  let x := s.fn f
  if x.ringRoom && x.ring.held.isEmpty then s.ringWrite f r
  else if 3 ≤ recSeverity r ∧ x.ring.held.length < 64 then
    s.modFn f (fun y => { y with ring := { y.ring with held := y.ring.held ++ [r] } })
  else
    s.modFn f (fun y => { y with ring := { y.ring with lost := true, lostCnt := satInc y.ring.lostCnt } })

/-- Drop the oldest record of severity 0 or 1 (R570). -/
def dropOldest (l : List (List Byte)) : List (List Byte) :=
  match l with
  | [] => []
  | r :: rest => if recSeverity r ≤ 1 then rest else r :: dropOldest rest

/-- Deliver a record to the board controller (R570): sent with an IBI where it has an address; otherwise held,
at most 64, and the alert signal asserted while a record of severity 3 or 4 is undelivered. -/
def State.toBc (s : State) (r : List Byte) : State :=
  let b := s.host.bc
  if b.assigned then s.emit (.bcMessage r)
  else
    let l := b.held ++ [r]
    let l := if l.length ≤ 64 then l else dropOldest l
    let l := l.take 64
    { s with host := { s.host with bc := { b with held := l, alert := l.any (fun x => 3 ≤ recSeverity x) } } }

/-- The codes marked in the VF column of the event table (R546). -/
def vfEvents : List Nat :=
  [0x0002, 0x0003, 0x0010, 0x0011, 0x0013, 0x0020, 0x0030, 0x0050, 0x0060, 0x0061, 0x0062, 0x0071,
   0x00A0, 0x00B0]

/-- Whether a record of a code and severity passes a function's event mask (R548). -/
def Fn.passes (f : Fn) (code sev : Nat) : Bool := decide (2 ≤ sev) || f.mask.getLsbD code

/-- SOURCE (R545): level, cluster, core, partition, unit-specific bits. -/
def source (level k j p unit : Nat) : Nat :=
  level * 2 ^ 28 + k * 2 ^ 22 + j * 2 ^ 17 + p * 2 ^ 15 + unit

/-- The frequency of a clock setting in MHz (R770, R817). -/
def settingMhz (n : Nat) : Nat := if n ≤ 12 then 1200 + 50 * n else 1000

/-- The cycles that a region has counted in the stroke in progress: as many as the core that has come furthest (log 101). -/
def State.countedIn (s : State) (r : Nat) : Nat :=
  s.cores.foldl (fun m e =>
    let x := e.2.ctl
    if regionOf (kOf e.1) = r ∧ x.cyc / 256 = (s.part (s.partOf (kOf e.1))).stroke.count.toNat then max m (x.cyc % 256) else m) 0

/-- The device time that the cycle ledger of region r holds (R781, R782): one nominal period for each counted cycle since the
last edge, two in a half at 1:2; never ahead of device time. -/
def State.ledgerTime (s : State) (r : Nat) : Nat :=
  let x := s.region r
  let n := s.countedIn r * (if s.halfRate (4 * (r / 4)) then 2 else 1)
  min s.time (x.ledger + n * 1000 / settingMhz x.setting)

/-- The time stamp of an event (R781): the ledger of the region that raised it, or the time base. The regions raise the
kills that an engine, a core or a cluster causes and the deadlocks that a cluster's detector finds. -/
def State.eventTime (s : State) (code src : Nat) : Nat :=
  if (code = 0x0002 ∨ code = 0x0060) ∧ src / 2 ^ 28 ≤ 2 then s.ledgerTime (regionOf (src / 2 ^ 22 % 64)) else s.time

/-- An event record (R545), its PAYLOAD fields named by record byte numbers 16 to 31. -/
def State.record (s : State) (code sev src : Nat) (payload : List (Nat × Nat × Nat)) : List Byte :=
  block 32 ([(0, 2, code), (2, 1, sev), (4, 4, src), (8, 8, s.eventTime code src)] ++ payload)

/-- Deliver an event (R546): to the PF, to VFp where it concerns partition p in quarters mode and the code is
marked, and to the board controller; each under its mask. -/
def State.deliverEvent (s : State) (code sev : Nat) (r : List Byte) (p : Option Nat) : State :=
  let s1 := if (s.fn 0).passes code sev then s.toRing 0 r else s
  let s2 := match p with
    | some q =>
      if s.dev.mode = 2 ∧ code ∈ vfEvents ∧ (s.fn (q + 1)).passes code sev then s1.toRing (q + 1) r else s1
    | none => s1
  let s3 := if (s.fn 5).passes code sev then s2.toBc r else s2
  if 3 ≤ sev then s3.fieldLog r else s3

/-- Post an event. While the management domain restarts, the event waits for the restart (R701). -/
def State.post (s : State) (code sev src : Nat) (payload : List (Nat × Nat × Nat)) (p : Option Nat) : State :=
  let r := s.record code sev src payload
  if s.quill.restarting then
    s.modQuill (fun q => { q with missed := q.missed ++ [{ code := code, sev := sev, level := src / 2 ^ 28, bytes := r, part := p }] })
  else s.deliverEvent code sev r p

/-! ### Completions -/

/-- STATUS codes (R544). -/
inductive Status where
  | ok | deferred | busy | badParam | badVersion | notPermitted | noResource | wrongState | authFail
  | watermarkMismatch | outOfService | timeout | aborted
  deriving DecidableEq, Repr

/-- The code of a status (R544). -/
def Status.code : Status → Nat
  | .ok => 0 | .deferred => 1 | .busy => 2 | .badParam => 3 | .badVersion => 4 | .notPermitted => 5
  | .noResource => 6 | .wrongState => 7 | .authFail => 8 | .watermarkMismatch => 9
  | .outOfService => 10 | .timeout => 11 | .aborted => 12

/-- The 16 bytes of a completion (R541). `result` is the 48-bit RESULT. -/
def completionBytes (h : Hdr) (sqHead : Nat) (st : Status) (phase : Bool) (result : Nat) : List Byte :=
  block 16 [(0, 4, h.tag.toNat), (4, 2, if h.fn = 5 then 0xFFFF else h.sq.toNat), (6, 2, sqHead),
    (8, 1, st.code), (9, 1, if phase then 1 else 0), (10, 6, result)]

/-- Event 0x00C0 of a completion (R535, R547), which goes to the function that issued the command, masked or not. -/
def State.postNote (s : State) (f : Nat) (b : List Byte) (opcode : Nat) : State :=
  let r := s.record 0x00C0 0 (source 7 0 0 0 0)
    [(16, 4, fld b 0 4), (20, 2, fld b 4 2), (22, 1, fld b 8 1), (24, 6, fld b 10 6), (30, 2, opcode)]
  if f = 5 then s.toBc r else s.toRing f r

/-- Post it where NOTIFY asks for it. -/
def State.postNotes (s : State) (f : Nat) (b : List Byte) (note : Option Nat) : State :=
  match note with
  | some op => s.postNote f b op
  | none => s

/-- Put a completion at the tail of a completion queue, which advances (R521, R527). -/
def State.cqPut (s : State) (f n : Nat) (b : List Byte) : State :=
  let q := s.qp f n
  let t := q.cqTail
  let wrap := decide ((t + 1) % q.cqSize = 0)
  let s1 := s.modQp f n (fun q => { q with cqTail := (t + 1) % q.cqSize, phase := q.phase != wrap })
  (s1.modFn f (fun x => x.due q.irqEn q.vector)).emit (.completion f n t b (q.cqBase.toNat + 16 * t))

/-- Whether completions of a pair are written (R532, R565): it is active and not stopped by a failed access. -/
def Qp.writes (q : Qp) : Bool := q.active && !q.halted && decide (q.cqSize ≠ 0)

/-- Write a completion (R527); hold it while its function may not write (R502). With it goes event 0x00C0 where `note` names the
opcode (R535), and the reply bytes of a command of the board controller (R568). -/
def State.writeCqWith (s : State) (h : Hdr) (st : Status) (result : Nat) (data : List Byte) (note : Option Nat) : State :=
  let f := h.fn.val
  let b := completionBytes h 0 st false result
  if f = 5 then (s.emit (.bcMessage (b ++ data))).postNotes 5 b note
  else
    let q := s.qp f h.sq.toNat
    if !q.writes then s
    else if (s.fn f).mute then
      s.modFn f (fun x => { x with parked := x.parked ++ [{ pair := h.sq.toNat, bytes := b, note := note }] })
    else (s.cqPut f h.sq.toNat (completionBytes h q.sqHead st q.phase result)).postNotes f b note

/-- A completion without reply bytes. -/
def State.writeCq (s : State) (h : Hdr) (st : Status) (result : Nat) : State := s.writeCqWith h st result [] none

/-- The final completion of the command that job `job` carries out (R535, R541, R542): the command leaves the pair's list and
the completion is written. -/
def State.completeJob (s : State) (h : Hdr) (opcode job : Nat) (st : Status) (result : Nat) (data : List Byte) : State :=
  let f := h.fn.val
  let s1 := if f = 5 then
      { s with host := { s.host with bc := { s.host.bc with tags := s.host.bc.tags - 1 } } }
    else s.modQp f h.sq.toNat (fun q => { q with fetched := q.fetched.filter (fun e => decide (e.job ≠ some job)) })
  s1.writeCqWith h st result data (if h.notify then some opcode else none)

/-- The final completion of a command that is being started: it has the number of the next job. -/
def State.completeWith (s : State) (h : Hdr) (opcode : Nat) (st : Status) (result : Nat) (data : List Byte) : State :=
  s.completeJob h opcode s.host.nextJob st result data

/-- Write command data to host memory; a function that may not write gets it later (R500, R502). -/
def State.toHost (s : State) (f a : Nat) (b : List Byte) : State :=
  if (s.fn f).mute then s.modFn f (fun x => { x with parkedData := x.parkedData ++ [(a, b)] }) else s.emit (.hostWrite f a b)

/-- A final completion without reply bytes. -/
def State.complete (s : State) (h : Hdr) (opcode : Nat) (st : Status) (result : Nat) : State :=
  s.completeWith h opcode st result []

/-- Start a job (R542): the command goes on after its packet is dealt with. -/
def State.addJob (s : State) (h : Hdr) (opcode : Nat) (c : Instr) (value : Nat) : State :=
  { s with host := { s.host with
      jobs := s.host.jobs.set s.host.nextJob
        { hdr := h, opcode := BitVec.ofNat 16 opcode, cmd := c, start := s.time, deferred := false, silent := false, value := value }
      nextJob := s.host.nextJob + 1 } }

/-- Start a job whose DEFERRED completion is written at once (R723, R542). -/
def State.deferJob (s : State) (h : Hdr) (opcode : Nat) (c : Instr) (value : Nat) : State :=
  ({ s with host := { s.host with
      jobs := s.host.jobs.set s.host.nextJob
        { hdr := h, opcode := BitVec.ofNat 16 opcode, cmd := c, start := s.time, deferred := true, silent := false, value := value }
      nextJob := s.host.nextJob + 1 } } : State).writeCq h .deferred 0

/-- Look a job up. -/
def findJob (l : Tbl Job) (id : Nat) : Option Job :=
  match l with
  | [] => none
  | (i, j) :: r => if i = id then some j else findJob r id

/-- The job of a number, none where no such command is in progress. -/
def State.job (s : State) (id : Nat) : Option Job := findJob s.host.jobs id

/-- Take a job off the list. -/
def State.dropJob (s : State) (id : Nat) : State :=
  { s with host := { s.host with jobs := s.host.jobs.filter (fun e => decide (e.1 ≠ id)) } }

/-- End a job with a status and RESULT; nothing where the job is not in progress. -/
def State.finish (s : State) (id : Nat) (st : Status) (result : Nat) : State :=
  match s.job id with
  | none => s
  | some j => if j.silent then s.dropJob id else (s.dropJob id).completeJob j.hdr j.opcode.toNat id st result []

/-! ### The kill of a context -/

/-- A core whose context stops: it issues nothing further, its transfer and its waiting MMA end, its requests
are withdrawn (R215, R362), what it had still to do is not done. A FROZEN core stays FROZEN (R165) and shows what it was blocked on (R340). -/
def Core.released (c : Core) : Core :=
  { c with
    ctl := { c.ctl with st := if c.ctl.st = .frozen then .frozen else .idle, context := none, entry := none,
                        hold := none, blockedOn := if c.ctl.st = .frozen then c.ctl.blockedOn else none },
    eng := { c.eng with pendingMma := none },
    te := { c.te with desc := none, xfer := none },
    ls := { c.ls with vwrites := [] },
    due := [] }

/-- Release every core of a context; what was under way in its local store is done (log 95). -/
def State.releaseCores (s : State) (c : Nat) : State :=
  (s.coresOfCtx c).foldl (fun t n => (t.lsSettle n).modCore n Core.released) s

/-- End every job of a list. -/
def State.finishAll (s : State) (ids : List Nat) (st : Status) (result : Nat) : State :=
  ids.foldl (fun t i => t.finish i st result) s

/-- The fabric DMA rings of a context that ends are disabled (R650). -/
def State.stopRings (s : State) (c : Nat) : State :=
  { s with fabric := { s.fabric with rings := s.fabric.rings.map (fun e =>
      if 4 * e.2.part + e.2.ctx = c then (e.1, { e.2 with enable := false }) else e) } }

/-- The windows of a context that ends close at the edge at which it ends (R429, R612). -/
def State.endWindows (s : State) (c : Nat) : State :=
  { s with fabric := { s.fabric with windows := s.fabric.windows.map (fun e =>
      if e.2.opened && decide (4 * e.2.part + e.2.ctx = c) then (e.1, { e.2 with closing := true }) else e) } }

/-- The commands that wait on a context end when it is killed or stopped: a pending RECONFIGURE and CHECKPOINT
with ABORTED (R288, R668), its stops and a held disable with OK, starts that have not reached ON with ABORTED (R723). -/
def State.endPending (s : State) (c : Nat) (result : Nat) : State :=
  let lc := (s.ctx c).lc
  let s1 := match (s.part (ctxPart c)).epoch.reconf with
    | some r => if r.context = c then
        (s.finish r.job .aborted 0).modEpoch (ctxPart c) (fun e => { e with reconf := none }) else s
    | none => s
  let s2 := match lc.ckpt with
    | some k => s1.finish k.job .aborted 0
    | none => s1
  let s3 := s2.finishAll (lc.stopEdge ++ lc.stopQuiet.toList) .ok result
  let held := match lc.held with
    | some (.disable j) => [j]
    | _ => []
  let s4 := (((s3.finishAll lc.starts .aborted 0).finishAll held .ok 0).stopRings c).endWindows c
  s4.modLife c (fun l =>
    { l with ckpt := none, stopEdge := [], stopQuiet := none, work := none, starts := []
             held := if held.isEmpty then l.held else none })

/-- A lock-step digest (12 R753): partition, context number, TYPE, STROKE, TDC, WATERMARK, the CRCs by logical
cluster. -/
def lsDigest (p c type stroke tdc wm : Nat) (crcs : Tbl DWord) : List Byte :=
  block 480 ([(0, 2, 1), (2, 1, p), (3, 1, c), (4, 1, type), (8, 8, stroke), (16, 8, tdc), (24, 32, wm)] ++
    crcs.map (fun e => (56 + 8 * e.1, 8, e.2.toNat)))

/-- A lock-step digest leaves by the lock-step port (R753). -/
def State.sendLs (s : State) (b : List Byte) : State :=
  let f := s.quill.ls.port.toNat
  s.sendLink f 5 b (.lockstep f b)

/-- A compared context ends (R757): a digest of TYPE 2 for a stop, 3 for a kill, with the last index. -/
def State.endCompare (s : State) (c type : Nat) : State :=
  let r := (s.ctx c).run
  if r.compared then
    ((s.sendLs (lsDigest (ctxPart c) (ctxNo c) type (r.lsIndex - 1) r.tdc.toNat 0 [])).modRun c (fun x =>
      { x with compared := false })).modQuill (fun q =>
        { q with ls := { q.ls with ctxs := q.ls.ctxs.set c LsCtx.reset } })
  else s

/-- A context no longer pauses its partition. -/
def State.unpause (s : State) (c : Nat) : State :=
  s.modPart (ctxPart c) (fun x => { x with ckptPause := if x.ckptPause = some c then none else x.ckptPause,
                                           lagHold := if x.lagHold = some c then none else x.lagHold })

/-- Kill a context (R457, R657, R659, R667, R757, R758): event 0x0002 is posted, its cores stop, its waiting commands
end, it passes through STOPPING to OFF, and a restart is due if AUTO_RESTART is set and the device is not paired, an
image of the current run exists and fewer than three kills have come since the last commit. -/
def State.kill (s : State) (c level src : Nat) (payload : List (Nat × Nat × Nat)) : State :=
  let s1 := s.post 0x0002 2 src payload (some (ctxPart c))
  let s2 := ((s1.releaseCores c).endPending c (s1.ctxStroke c).toNat).endCompare c 3
  let s3 := s2.modLife c (fun l =>
    let kills := min (l.kills + 1) 3
    { l with life := .off, kills := kills, killLevel := level,
             restartExhausted := l.restartExhausted || decide (3 ≤ kills),
             restartDue := l.autoRestart && !l.runImages.isEmpty && decide (kills < 3) &&
               decide (s.quill.ls.state ≠ 2) })
  (s3.modRun c (fun r => { r with frozen := false, freezeAtEdge := false })).unpause c

end Sys2Proof.Machine
end

