-- ==== Sys2Proof/Machine/Health.lean ====
section
/-!
DEFINITION. The moraine record, scores and service states, counted errors and fences (11 R684 to R688, R691 to
R697, R717 to R719). Shared by every command that finds a fault of the hardware.
-/
namespace Sys2Proof.Machine

/-- Append a field entry to the moraine record (R695) and post event 0x0012; a full record is not written
(R697). `body` gives bytes 16 to 27. -/
def State.moraineAppend (s : State) (kind : Nat) (body : List (Nat × Nat × Nat)) : State :=
  let q := s.quill
  let n := q.moraine.length
  let b := (block 28 body).drop 16
  let isFull := decide (4096 ≤ n)
  let s1 := if isFull then s.modQuill (fun q => { q with full := true })
    else s.modQuill (fun q =>
      { q with moraine := q.moraine ++ [{ kind := kind, body := b, boot := s.dev.boot, time := s.time }] })
  let flags := (if isFull then 1 else 0) + (if q.truncated then 2 else 0)
  s1.post 0x0012 0 (source 3 0 0 0 0)
    [(16, 2, kind), (18, 2, n), (20, 2, 4096 - min 4096 s1.quill.moraine.length), (22, 1, flags),
     (24, 8, leNat (b.take 8))] none

/-- Post event 0x0070 for a change of service state (R713, R719, R725). -/
def State.postService (s : State) (object index old new score cause : Nat) : State :=
  (if old = new then s else s.saveHealth).post 0x0070 0 (if object = 2 then source 4 0 0 0 (index * 2 ^ 11) else source 3 0 0 0 0)
    [(16, 1, object), (17, 1, index), (18, 1, old), (19, 1, new), (20, 2, score), (22, 1, cause)] none

/-- Change the health part of the Quill. -/
def State.modHealth (s : State) (f : Health → Health) : State :=
  s.modQuill (fun q => { q with health := f q.health })

/-- The service states a score decides (R719): In service below 600 to Probation, Probation at or above 700 to
In service. -/
def State.scoreService (s : State) : State :=
  let h := s.quill.health
  if h.service = 0 ∧ h.score < 600 then
    (s.modHealth (fun h => { h with service := 1 })).postService 0 0 0 1 h.score 1
  else if h.service = 1 ∧ 700 ≤ h.score then
    (s.modHealth (fun h => { h with service := 0 })).postService 0 0 1 0 h.score 1
  else s

/-- Lower the device score (R717). -/
def State.scoreDrop (s : State) (n : Nat) : State :=
  (s.modHealth (fun h => { h with score := h.score - n, lastDrop := s.time })).scoreService

/-- Raise the device score, up to 1,000 (R717). -/
def State.scoreRise (s : State) (n : Nat) : State :=
  (s.modHealth (fun h => { h with score := min 1000 (h.score + n) })).scoreService

/-- Good cores of cluster k: those not fenced. -/
def State.goodCores (s : State) (k : Nat) : Nat :=
  ((coresOf k).filter (fun n => !(s.core n).ctl.fenced)).length

/-- Fence a core (R685): it stops, its engine writes are discarded, it is under patrol no more, FENCED is set, event 0x0010 is
posted, a CORE_FENCE entry is appended, the score falls by 25; a context whose role it held is killed, with SOURCE of a level. A
core that is fenced stays so (R686). Its STATE (R171) is OFF, also where the error that fenced it left it FROZEN (DESIGN CHOICE,
log 127). -/
def State.fenceAs (s : State) (n cause level : Nat) : State :=
  if (s.core n).ctl.fenced then s
  else
    let k := kOf n
    let c := s.core n
    let stroke := (s.part (s.partOf k)).stroke.count.toNat % 2 ^ 32
    let s1 := s.modCore n (fun x => { x with ctl := { x.ctl with fenced := true, patrol := false }, ls := .reset })
    let s2 := s1.post 0x0010 1 (source 1 k (jOf n) 0 0)
      [(16, 1, 1), (17, 1, cause), (18, 1, s1.goodCores k), (19, 1, s.dev.gradeL), (20, 4, stroke),
       (24, 1, match c.ctl.context with | some x => ctxNo x | none => 0xFF)] (some (s.partOf k))
    let s3 := s2.moraineAppend 1 [(16, 1, k), (17, 1, jOf n), (18, 1, cause)]
    let s4 := s3.scoreDrop 25
    match c.ctl.context with
    | some x => (s4.kill x level (source level k (if level = 1 then jOf n else 0) (s.partOf k) 0) []).modCtl n (fun y => { y with st := .off })
    | none => s4.modCtl n (fun y => { y with st := .off })

/-- A fence whose kill has SOURCE level 1. -/
def State.fenceCore (s : State) (n cause : Nat) : State := s.fenceAs n cause 1

/-- Seven days in ns. -/
def sevenDays : Nat := 7 * 24 * 3600 * 1000000000

/-- A hardware error that counts against a core (R684): a CORE_ERROR entry, the score falls by 40; the second
within 7 days or the third over the core's life fences it, the first asks for a full pass before the restart. -/
def State.countError (s : State) (n level kind : Nat) : State :=
  let s1 := s.moraineAppend 2 [(16, 1, kOf n), (17, 1, jOf n), (18, 1, level), (19, 1, kind)]
  let s2 := s1.scoreDrop 40
  let old := (s2.care n).errors
  let recent := old.filter (fun t => decide (s.time < t + sevenDays))
  let s3 := s2.modCare n (fun x => { x with errors := x.errors ++ [s.time] })
  if !recent.isEmpty || decide (2 ≤ old.length) then s3.fenceCore n 1
  else s3.modCare n (fun x => { x with testDue := true })

/-- Fence a router (R688): a ROUTER_FENCE entry, event 0x0010 with WHAT 2, the score falls by 100. -/
def State.fenceRouter (s : State) (k cause : Nat) : State :=
  if (s.cluster k).router.fenced then s
  else
    let stroke := (s.part (s.partOf k)).stroke.count.toNat % 2 ^ 32
    let s1 := s.modRouter k (fun r => { r with fenced := true })
    let s2 := s1.moraineAppend 4 [(16, 1, k), (18, 1, cause)]
    let s3 := s2.post 0x0010 1 (source 2 k 0 0 0)
      [(16, 1, 2), (17, 1, cause), (18, 1, s1.goodCores k), (19, 1, s.dev.gradeL), (20, 4, stroke),
       (24, 1, 0xFF)] (some (s.partOf k))
    s3.scoreDrop 100

/-- Whether cluster k is unusable (R231): fewer than L good cores, a failed crossing into it, or a fenced
router. -/
def State.unusable (s : State) (k : Nat) : Bool :=
  decide (s.goodCores k < s.dev.gradeL) || (s.cluster k).router.fenced ||
    (List.range 16).any (fun i => (s.cluster k).router.xcal.get 0 i == 0xF)

/-- The unusable set U of partition p as a bit per cluster (R231). -/
def State.unusableSet (s : State) (p : Nat) : Nat :=
  (s.clustersOf p).foldl (fun a k => if s.unusable k then a + 2 ^ k else a) 0

end Sys2Proof.Machine
end

