-- ==== Sys2Proof/Machine/CoreFault.lean ====
section
/-!
DEFINITION. Core errors (03 R165 to R168, R173, R174) and engine errors (02 R118 to R125).
-/
namespace Sys2Proof.Machine

/-- The core error kinds (R165). -/
inductive CoreErrKind where
  | ifetchEcc | sregParity | address | illegalInstr | align | ruledStall | blockInRuled | lateEntry
  | ruledEmpty | blotConsumed | pairingOverflow | ruledOverflow
  deriving DecidableEq, Repr

/-- The number of a core error kind (R165). -/
def CoreErrKind.code : CoreErrKind → Nat
  | .ifetchEcc => 1 | .sregParity => 2 | .address => 3 | .illegalInstr => 4 | .align => 5
  | .ruledStall => 6 | .blockInRuled => 7 | .lateEntry => 8 | .ruledEmpty => 9 | .blotConsumed => 10
  | .pairingOverflow => 11 | .ruledOverflow => 12

/-- A core error: kind, DETAIL (R168), the address concerned (R167, R174), whether that is a local store address, which
is no logical address (R167), and the index of the instruction where that is not the one at issue. -/
structure CoreError where
  kind : CoreErrKind
  detail : Nat
  addr : DWord
  inLs : Bool := false
  pc : Option (BitVec 12) := none
  deriving DecidableEq, Repr

/-- An error with no address. -/
def CoreErrKind.err (k : CoreErrKind) (detail : Nat := 0) : CoreError := { kind := k, detail := detail, addr := 0 }

/-- A local store error at an address. -/
def CoreErrKind.atAddr (k : CoreErrKind) (a : Nat) : CoreError :=
  { kind := k, detail := 0, addr := BitVec.ofNat 64 a, inLs := true }

/-- The error of lowest kind (R166); the first of a list where kinds tie. -/
def lowestErr (l : List CoreError) : Option CoreError :=
  match l with
  | [] => none
  | e :: r =>
    match lowestErr r with
    | none => some e
    | some f => if f.kind.code < e.kind.code then some f else some e

/-- What CO_CORE_ERR and its captures record of an error (R168, R173, R174), for an error register `r`. The captured index is
that of the instruction that raised the error; of an error that no instruction of the core raises, it is CO_PC (DESIGN CHOICE,
log 96). -/
def CoreError.recordIn (e : CoreError) (r : ErrReg) (pc : BitVec 12) : ErrReg :=
  r.record (BitVec.ofNat 32 (e.kind.code * 2 ^ 26 + (e.detail % 256) * 2 ^ 18)) (BitVec.ofNat 64 (e.addr.toNat % 2 ^ 32))
    (BitVec.ofNat 32 (e.pc.getD pc).toNat)

/-- Raise a core error in cycle t (R165, R166): CO_CORE_ERR and its captures (R173, R174), the core FROZEN, its engines
stopped, its context killed with event 0x0002 (R167); a kind that counts is given to the Quill (R684). `multi`: another
error of the same cycle is not the one recorded (R166). -/
def State.coreFault (s : State) (n t : Nat) (e : CoreError) (multi : Bool) : State :=
  let c := s.core n
  let k := kOf n
  let p := s.partOf k
  let s1 := s.modCore n (fun c =>
    let r := e.recordIn c.errs.err c.ctl.pc
    { c with
      errs := { c.errs with err := { r with multi := r.multi || multi }, cycle := t, was := c.ctl.st }
      ctl := { c.ctl with st := .frozen, entry := none, hold := none }
      eng := { c.eng with pendingMma := none }
      te := { c.te with desc := none, xfer := none } })
  let s2 := match c.ctl.context with
    | some x => s1.kill x 1 (source 1 k (jOf n) p (e.kind.code * 2 ^ 11 + (e.detail % 256) * 8))
        [(16, 2, (e.pc.getD c.ctl.pc).toNat), (20, 4, t / 256 % 2 ^ 32),
         (24, 8, if e.inLs then 0 else e.addr.toNat)]
    | none => s1
  if e.kind.code ≤ 2 then s2.countError n 1 e.kind.code else s2

/-- Whether core n has stopped with a core error of cycle t (R166). -/
def Core.failedIn (c : Core) (t : Nat) : Bool :=
  c.ctl.st == .frozen && c.ctl.context.isNone && c.errs.err.valid && decide (c.errs.cycle = t)

/-- The number of the kind CO_CORE_ERR records. -/
def ErrReg.coreKind (r : ErrReg) : Nat := r.fields.toNat / 2 ^ 26 % 16

/-- Another core error of the cycle in which core n stopped (R166): the lowest kind is recorded, with MULTI. -/
def State.alsoFault (s : State) (n : Nat) (e : CoreError) : State :=
  let s1 := s.modErrs n (fun x =>
    let r := if e.kind.code < x.err.coreKind then e.recordIn ErrReg.clear (s.core n).ctl.pc else x.err
    { x with err := { r with multi := true } })
  if e.kind.code ≤ 2 then s1.countError n 1 e.kind.code else s1

/-- A core error in cycle t (R165, R166): the engines of the core complete no further writes; where the core has stopped in
that cycle already, the lowest kind is recorded. -/
def State.coreErrorIn (s : State) (n t : Nat) (e : CoreError) : State :=
  if (s.core n).failedIn t then s.alsoFault n e else (s.dropWrites n t).coreFault n t e false

/-- The core error recorded of several of cycle t (R166). -/
def State.coreErrorsIn (s : State) (n t : Nat) (e : CoreError) : State :=
  if (s.core n).failedIn t then s.alsoFault n e else (s.dropWrites n t).coreFault n t e true

/-- A core error in the cycle the core has come to. Of an error that no instruction raises CO_CORE_ERR_PC captures CO_PC
(R174; DESIGN CHOICE, log 96). -/
def State.coreError (s : State) (n : Nat) (e : CoreError) : State := s.coreErrorIn n (s.coreNow n) e

/-- The engine error kinds (R118). -/
inductive EngErrKind where
  | residue | accParity | vregParity | pairParity | anchorMismatch | termCount | formatPair | accImage
  | kRange
  deriving DecidableEq, Repr

/-- The number of an engine error kind (R118). -/
def EngErrKind.code : EngErrKind → Nat
  | .residue => 1 | .accParity => 2 | .vregParity => 3 | .pairParity => 4 | .anchorMismatch => 5
  | .termCount => 6 | .formatPair => 7 | .accImage => 8 | .kRange => 9

/-- The engine of an error kind (R121): 0 ME, 1 VE, 3 MSU. -/
def EngErrKind.engine : EngErrKind → Nat
  | .vregParity => 1
  | .pairParity => 3
  | _ => 0

/-- What a hardware error may have corrupted is blotted (R119): the accumulators of the bank in DETAIL [5], or
every lane of the vector register in DETAIL [4:0]. -/
def Core.blotFor (c : Core) (e : EngErrKind) (detail : Nat) : Core :=
  match e with
  | .residue | .accParity =>
    let b := (detail / 32 % 2) * 512
    let bad : Tbl Acc → Nat → Tbl Acc := fun t i =>
      t.set (b + i) { (t.get Acc.clear (b + i)) with blot := true }
    let acc := (List.range 512).foldl bad c.eng.acc
    { c with eng := { c.eng with acc := acc } }
  | .vregParity =>
    let bad : Tbl Bool → Nat → Tbl Bool := fun t l => t.set (32 * (detail % 32) + l) true
    let vb := (List.range 32).foldl bad c.regs.vblot
    { c with regs := { c.regs with vblot := vb } }
  | _ => c

/-- Raise an engine error (R118 to R125): the state a hardware error may have corrupted is blotted, CO_ENG_ERR
records it, its count rises, the context is killed with event 0x0002 at level 0. -/
def State.engineError (s : State) (n : Nat) (e : EngErrKind) (detail : Nat) : State :=
  let s := s.meSettle n
  let c := s.core n
  let k := kOf n
  let p := s.partOf k
  let fields := engFields e.engine e.code detail
  let s1 := s.modCore n (fun c =>
    let c := c.blotFor e detail
    { c with eng := { c.eng with
        err := c.eng.err.record fields 0 0
        residueCnt := if e = .residue then satInc c.eng.residueCnt else c.eng.residueCnt
        parityCnt := if 2 ≤ e.code ∧ e.code ≤ 4 then satInc c.eng.parityCnt else c.eng.parityCnt
        pendingMma := none } })
  let s2 := match c.ctl.context with
    | some x => s1.kill x 0 (source 0 k (jOf n) p (e.engine * 2 ^ 12 + e.code * 2 ^ 8 + detail % 256)) []
    | none => s1
  if e.code ≤ 4 then s2.countError n 0 e.code else s2

/-- The ACC_LOAD under way reads a record that spoils it (R97, R98): ACC_IMAGE, with the row of the lowest such record (R121,
log 15), which leaves the bank unchanged. -/
def State.judgeLoad (s : State) (n : Nat) : State :=
  match s.loadFault n with
  | some x => (s.modLocal n (fun l => { l with run := none })).engineError n .accImage (x.bank * 32 + x.row)
  | none => s

end Sys2Proof.Machine
end

