-- ==== Sys2Proof/Machine/Paths.lean ====
section
/-!
DEFINITION. The ways of flits through the rulings (04 R189 to R196, R200 to R204, R218, R219; 01 R19, R21, R27, R28, R30; 05
R293): ruling entries, links, where a flit goes within a stroke, how a slot takes a flit from its source and what an edge does
with the flits on their way.
-/
namespace Sys2Proof.Machine

/-! ### Tokens as flits (R257, R259) -/

/-- The 256 data bits of a token (R257). -/
def Token.pack (t : Token) : BitVec 256 :=
  (t.payload.setWidth 256) ||| ((if t.void then 1#256 else 0) <<< 128) ||| ((if t.last then 1#256 else 0) <<< 129) |||
    (t.words.setWidth 256 <<< 130) ||| (t.ordinal.setWidth 256 <<< 152) ||| (t.cepoch.setWidth 256 <<< 160) |||
    (t.repoch.setWidth 256 <<< 168) ||| (t.count.setWidth 256 <<< 176) ||| (t.pass.setWidth 256 <<< 184)

/-- The token a flit slice carries (R257, R259): reserved bits are ignored. -/
def Flit.token (f : Flit) : Token :=
  let d := f.data
  { pass := d.extractLsb' 184 8, count := d.extractLsb' 176 8, repoch := d.extractLsb' 168 8,
    cepoch := d.extractLsb' 160 8, ordinal := d.extractLsb' 152 8, words := d.extractLsb' 130 2,
    last := d.getLsbD 129, void := d.getLsbD 128, payload := d.extractLsb' 0 128, blot := f.blot }

/-- The flit slice of a token. -/
def Token.flit (t : Token) : Flit := { data := t.pack, blot := t.blot }

/-! ### Ruling entries (R190, R191) -/

/-- VALID. -/
def entryValid (e : Word) : Bool := e.getLsbD 31
/-- IN_PORT. -/
def entryInPort (e : Word) : Nat := e.toNat / 2 ^ 27 % 16
/-- IN_SLICE. -/
def entryInSlice (e : Word) : Nat := e.toNat / 2 ^ 25 % 4
/-- SRC_CORE. -/
def entrySrcCore (e : Word) : Nat := e.toNat / 2 ^ 20 % 32
/-- SRC_UNIT: the TE. -/
def entrySrcTe (e : Word) : Bool := e.getLsbD 19
/-- SRC_CHAN. -/
def entrySrcChan (e : Word) : Nat := e.toNat / 2 ^ 16 % 8
/-- DST_CORE. -/
def entryDstCore (e : Word) : Nat := e.toNat / 2 ^ 11 % 32
/-- DST_KIND. -/
def entryDstKind (e : Word) : Nat := e.toNat / 2 ^ 9 % 4
/-- DST_INDEX. -/
def entryDstIndex (e : Word) : Nat := e.toNat / 2 ^ 5 % 16

/-- A place in the rulings: cluster, output port, slice, slot. -/
structure Place where
  k : Nat
  port : Nat
  slice : Nat
  slot : Nat
  deriving DecidableEq, Repr

/-- The place of a ruling slot. -/
def placeOf (r : RulingSlot) : Place := ⟨r.k.val, r.port.toNat, r.slice.toNat, r.slot.toNat⟩

/-- The number of a place. -/
def Place.key (p : Place) : Nat := ((p.k * 16 + p.port) * 4 + p.slice) * 256 + p.slot

/-- The place of a number. -/
def Place.ofKey (n : Nat) : Place := ⟨n / 16384, n / 1024 % 16, n / 256 % 4, n % 256⟩

/-- The entry at a place in the active ruling (R195). -/
def State.entryAt (s : State) (p : Place) : Word :=
  (s.cluster p.k).router.image.entries.get 0 (p.port * 1024 + p.slot * 4 + p.slice)

/-- The place of entry number i of a router's ruling. -/
def entryPlace (k i : Nat) : Place := ⟨k, i / 1024, i % 4, i / 4 % 256⟩

/-! ### Links (R13, R27, R28, R203, R219) -/

/-- Columns and rows a link port leads away: E and W by columns, N and S by rows (R189). -/
def portStep (port : Nat) : Option (Int × Int) :=
  match port with
  | 1 => some (0, -1) | 2 => some (1, 0) | 3 => some (0, 1) | 4 => some (-1, 0)
  | 5 => some (0, -2) | 6 => some (2, 0) | 7 => some (0, 2) | 8 => some (-2, 0)
  | 9 => some (0, -3) | 10 => some (3, 0) | 11 => some (0, 3) | 12 => some (-3, 0)
  | _ => none

/-- The input port at which a link's other end arrives: N to S, E to W (R189). -/
def oppositePort (port : Nat) : Nat := (port - 1) / 4 * 4 + (port - 1 + 2) % 4 + 1

/-- Whether a link between two columns crosses the seam. -/
def crossesSeam (c1 c2 : Nat) : Bool := decide (c1 < 4) != decide (c2 < 4)

/-- The cluster that the link at a port of cluster k joins it to, none where there is no such link (R27, R28). -/
def linkAt (k port : Nat) : Option Nat :=
  match portStep port with
  | none => none
  | some (dc, dr) =>
    let c := (colOf k : Int) + dc
    let r := (rowOf k : Int) + dr
    if c < 0 ∨ 8 ≤ c ∨ r < 0 ∨ 6 ≤ r then none
    else
      let k2 := r.toNat * 8 + c.toNat
      if crossesSeam (colOf k) (colOf k2) && decide (4 < port) then none else some k2

/-- The cluster a link port of cluster k leads to in the partition mode in force (R30). -/
def State.linkTo (s : State) (k port : Nat) : Option Nat :=
  (linkAt k port).filter (fun k2 => decide (s.partOf k = s.partOf k2))

/-- The slot in which a flit sent in a slot arrives at the next router, and how many strokes later (R204, R219): links take
4, 5 or 6 cycles, a seam link 10, or the times of R219 while one half runs at 1:2. None for a slot that R219 does not
permit. -/
def State.arrivalSlot (s : State) (k k2 port slot : Nat) : Option (Nat × Nat) :=
  let wrap (c : Nat) : Nat × Nat := (c % s.strokeLen k2, c / s.strokeLen k2)
  if crossesSeam (colOf k) (colOf k2) then
    if s.halfRate k && !s.halfRate k2 then some (wrap (2 * slot + 16))
    else if !s.halfRate k && s.halfRate k2 then (if slot % 2 = 0 then some (wrap (slot / 2 + 8)) else none)
    else some (wrap (slot + 10))
  else some (wrap (slot + (if port ≤ 4 then 4 else if port ≤ 8 then 5 else 6)))

/-! ### Where a flit goes within a stroke -/

/-- The output places of cluster k that copy an input slice in a slot of the stroke in progress (R192). -/
def State.readers (s : State) (k port slice slot : Nat) : List Place :=
  ((s.cluster k).router.image.entries.filter (fun e =>
    decide (e.1 / 4 % 256 = slot) && entryValid e.2 && decide (entryInPort e.2 = port) &&
      decide (entryInSlice e.2 = slice))).map (fun e => entryPlace k e.1)

/-- The cycle of a slot of the stroke in progress (stroke * 256 + slot). -/
def State.slotCycle (s : State) (p : Place) : Nat := (s.part (s.partOf p.k)).stroke.count.toNat * 256 + p.slot

/-- What becomes of a flit in one stroke: the LOCAL and edge places it reaches; the input slices, by number, at which it arrives
in the next stroke; those at which no entry reads it. -/
structure Spread where
  due : List Arrival
  next : List Nat
  lost : List Nat
  deriving DecidableEq, Repr

/-- A flit that goes nowhere. -/
def Spread.none : Spread := { due := [], next := [], lost := [] }

/-- Both of two ways. -/
def Spread.and (a b : Spread) : Spread :=
  { due := a.due ++ b.due, next := a.next ++ b.next, lost := a.lost ++ b.lost }

/-- A flit at an input slice of this stroke is copied by every entry that reads it (R192, R195), or is lost (R293); `go` says
where an output place leads. -/
def State.arrive (s : State) (p : Place) (go : Place → Spread) : Spread :=
  match s.readers p.k p.port p.slice p.slot with
  | [] => { Spread.none with lost := [p.key] }
  | rs => rs.foldl (fun a r => a.and (go r)) .none

/-- Where a flit on an output place goes in the stroke in progress (R192, R195, R204). The fuel bounds the links of a way
within a stroke. -/
def State.spread (fuel : Nat) (s : State) (p : Place) : Spread :=
  match fuel with
  | 0 => .none
  | f + 1 =>
    if p.port = 0 ∨ 13 ≤ p.port then { Spread.none with due := [{ place := p.key, entry := s.entryAt p, cycle := s.slotCycle p }] }
    else
      match s.linkTo p.k p.port with
      | none => .none
      | some k2 =>
        match s.arrivalSlot p.k k2 p.port p.slot with
        | none => .none
        | some (c, 0) => s.arrive ⟨k2, oppositePort p.port, p.slice, c⟩ (fun r => State.spread f s r)
        | some (c, _) => { Spread.none with next := [(Place.mk k2 (oppositePort p.port) p.slice c).key] }

/-- Links that a way can have within a stroke: each takes at least 4 cycles of a full-rate stroke, and two seam links that
lead to a half-rate half and back at least 32. -/
def wayFuel : Nat := 256

/-- Where a flit on an output place goes. -/
def State.wayOf (s : State) (p : Place) : Spread := State.spread wayFuel s p

/-- Where a flit at an input slice goes. -/
def State.wayFrom (s : State) (p : Place) : Spread := s.arrive p s.wayOf

/-- Flits that reach input slices which no entry reads are discarded, and counted in NW_RECONF_DROP in the first stroke of a
configuration (R293). -/
def State.countUnread (s : State) (p n : Nat) : State :=
  if n ≠ 0 ∧ (s.part p).epoch.firstStroke = true then
    s.modEpoch p (fun e => { e with reconfDrop := satAdd e.reconfDrop n })
  else s

/-! ### Taking a flit from its source -/

/-- Whether a source entry has taken its flit in this stroke. -/
def State.hasTaken (s : State) (p : Place) : Bool := (s.cluster p.k).router.taken.contains p.key

/-- A flit leaves its source in a slot and goes on its way (R192, R193): `origins` are the entries that copy it. -/
def State.launch (s : State) (k : Nat) (origins : List Nat) (sent : Nat) (f : Flit) (w : Spread) : State :=
  (s.modRouter k (fun r =>
    { r with taken := origins ++ r.taken,
             flying := r.flying ++ [{ origins := origins, sent := sent, flit := f, due := w.due, next := w.next,
                                      lost := w.lost }] })).countUnread (s.partOf k) w.lost.length

/-- The physical core a logical core of cluster k resolves to (R161, R395): none where the entry is 0xFF. -/
def State.physCore (s : State) (k lcore : Nat) : Option Nat :=
  let j := ((s.cluster k).ink.cmap.get 0xFF lcore).toNat
  if j < 32 then some (32 * k + j) else none

/-- Put a place in the order in which the entries of a stroke take flits (R193, R409): by slot, output port, slice. -/
def Place.into (p : Place) (l : List Place) : List Place :=
  match l with
  | [] => [p]
  | q :: r =>
    if q.slot * 64 + q.port * 4 + q.slice ≤ p.slot * 64 + p.port * 4 + p.slice then q :: p.into r else p :: q :: r

/-- The source entries of the active ruling that read egress channel `ch` of core n, of its TE or its MSU, in the order in
which they take flits. -/
def State.sourcesOf (s : State) (n : Nat) (te : Bool) (ch : Nat) : List Place :=
  let k := kOf n
  (((s.cluster k).router.image.entries.filter (fun e =>
    entryValid e.2 && decide (entryInPort e.2 = 0) && (entrySrcTe e.2 == te) && decide (entrySrcChan e.2 = ch) &&
      decide (s.physCore k (entrySrcCore e.2) = some n))).map (fun e => entryPlace k e.1)).foldl (fun l p => p.into l) []

/-- The flits of an egress channel, oldest first. -/
def Core.flits (c : Core) (te : Bool) (ch : Nat) : List Flit :=
  if te then c.te.chan.get [] ch
  else (c.qs.echan.get [] ch).map (fun t => { t.flit with cycle := t.sent })

/-- The channel without its oldest flit. -/
def Core.dropFlit (c : Core) (te : Bool) (ch : Nat) : Core :=
  if te then { c with te := { c.te with chan := c.te.chan.set ch ((c.te.chan.get [] ch).drop 1) } }
  else { c with qs := { c.qs with echan := c.qs.echan.set ch ((c.qs.echan.get [] ch).drop 1) } }

/-- A source entry takes the oldest flit of its channel in its slot (R193, R277, R409); where none has entered by then the
slot is idle (R194). -/
def State.takeFlit (s : State) (n : Nat) (te : Bool) (ch : Nat) (p : Place) : State :=
  match (s.core n).flits te ch with
  | [] => s
  | f :: _ =>
    if f.cycle ≤ s.slotCycle p ∧ s.hasTaken p = false then
      (s.modCore n (fun c => c.dropFlit te ch)).launch p.k [p.key] (s.slotCycle p) f (s.wayOf p)
    else s

/-- Every slot up to a cycle has taken its flit of an egress channel (R193, R409). -/
def State.takeChan (s : State) (n : Nat) (te : Bool) (ch upto : Nat) : State :=
  if ((s.core n).flits te ch).isEmpty then s
  else
    ((s.sourcesOf n te ch).filter (fun p => decide (s.slotCycle p ≤ upto))).foldl (fun t p => t.takeFlit n te ch p) s

/-- Every slot of the stroke that ends has taken its flit from the channels of core n. -/
def State.takeAll (s : State) (n upto : Nat) : State :=
  (List.range 8).foldl (fun t ch => (t.takeChan n true ch upto).takeChan n false ch upto) s

/-! ### The edge -/

/-- The flits that a flight becomes at an edge (R195, R204): what is still due, and a copy at each input slice it reaches, which
the ruling of the new stroke moves. -/
def State.flyOn (s : State) (x : Flight) : List Flight :=
  let w := x.next.foldl (fun a n => a.and (s.wayFrom (Place.ofKey n))) Spread.none
  let y : Flight := { x with due := x.due ++ w.due, next := w.next, lost := w.lost }
  if y.due.isEmpty && y.next.isEmpty && y.lost.isEmpty then [] else [y]

/-- The flits of a router's sources cross the edge into the stroke that begins; those that no entry reads there are counted in
the first stroke of a configuration (R293). -/
def State.flyCluster (s : State) (k : Nat) : State :=
  let r := (s.cluster k).router
  if r.flying.isEmpty && r.taken.isEmpty then s
  else
    let l := r.flying.flatMap s.flyOn
    (s.modRouter k (fun r => { r with taken := [], flying := l })).countUnread (s.partOf k)
      (l.foldl (fun a x => a + x.lost.length) 0)

/-- Whether a flight holds a flit on a link or in a crossing FIFO (R290). -/
def Flight.onWay (x : Flight) : Bool := !x.due.isEmpty || !x.next.isEmpty

end Sys2Proof.Machine
end

