-- ==== Sys2Proof/Machine/Tokens.lean ====
section
/-!
DEFINITION. Tokens (05 R257 to R263), inbound queues and egress channels (06 R312 to R334): packing, delivery
with its epoch and closure tests, entry into a channel, credits and closure.
-/
namespace Sys2Proof.Machine

/-- Word i of a token's payload; words above WORDS are zero (R261), as is the payload of a void token (R260). -/
def Token.word (t : Token) (i : Nat) : Word :=
  if t.void then 0 else if i ≤ t.words.toNat then t.payload.extractLsb' (32 * i) 32 else 0

/-- The token control word of a received token (R262). -/
def Token.tcw (t : Token) (chan : Nat) : Word :=
  BitVec.ofNat 32 (t.pass.toNat * 2 ^ 24 + t.count.toNat * 2 ^ 16 + t.ordinal.toNat * 2 ^ 8 +
    (if t.blot then 32 else 0) + (if t.last then 16 else 0) + (if t.void then 8 else 0) + chan % 8)

/-- The configuration epoch of the partition of cluster k (R282). -/
def State.epochOf (s : State) (k : Nat) : Byte := (s.part (s.partOf k)).epoch.epoch

/-- QMODE of inbound queue q (R312, R365): 0 unused, 1 ruled, 2 free, 3 reserved. -/
def CoreQueues.mode (c : CoreQueues) (q : Nat) : Nat := c.qmode.toNat / 2 ^ (2 * q) % 4

/-- Whether inbound queue q is closed (R329). -/
def CoreQueues.isClosed (c : CoreQueues) (q : Nat) : Bool := c.haltClosed || decide (c.mode q = 0)

/-- The tokens of inbound queue q, oldest first. -/
def CoreQueues.queue (c : CoreQueues) (q : Nat) : List Token := c.inq.get [] q

/-- The tokens of egress channel n, oldest first. -/
def CoreQueues.chan (c : CoreQueues) (n : Nat) : List Token := c.echan.get [] n

/-- Whether egress channel n is free (R317). -/
def CoreQueues.isFree (c : CoreQueues) (n : Nat) : Bool := c.echanFree.getLsbD n

/-- FDEST fields (R374). -/
def fdestKind (w : Word) : Bool := w.getLsbD 23
/-- INDEX of FDEST. -/
def fdestIndex (w : Word) : Nat := w.toNat / 2 ^ 16 % 16
/-- LCORE of FDEST. -/
def fdestCore (w : Word) : Nat := w.toNat / 2 ^ 8 % 256
/-- LCLUSTER of FDEST. -/
def fdestCluster (w : Word) : Nat := w.toNat % 256

/-- Count a token discarded under R284. -/
def State.countStaleCfg (s : State) (p : Nat) : State :=
  (s.modEpoch p (fun e => { e with staleCfg := satInc e.staleCfg })).modReports p (fun r =>
    { r with cfgTotal := r.cfgTotal + 1, staleMoved := r.staleMoved || decide ((s.part p).epoch.staleCfg ≠ BitVec.allOnes 32) })

/-- Count a token discarded under R296. -/
def State.countStaleRole (s : State) (p : Nat) : State :=
  (s.modEpoch p (fun e => { e with staleRole := satInc e.staleRole })).modReports p (fun r =>
    { r with roleTotal := r.roleTotal + 1, staleMoved := r.staleMoved || decide ((s.part p).epoch.staleRole ≠ BitVec.allOnes 32) })

/-- Count a token discarded at a closed queue (R330, R335). -/
def State.countRecvDrop (s : State) (n : Nat) : State :=
  (s.modQs n (fun q => { q with recvDrop := satInc q.recvDrop })).modReports (s.partOf (kOf n))
    (fun r => { r with recvTotal := r.recvTotal + 1 })

/-- Count a send discarded on a closed channel (R331, R335): CLOSED, ORPHANS, SEND_DROP and the first sender
since the last event 0x0062. -/
def State.countOrphan (s : State) (n chan : Nat) : State :=
  let c := s.core n
  let fd := c.qs.fdest.get 0 chan
  let o : Orphan :=
    { time := s.time, lcluster := c.ctl.lcluster, sender := BitVec.ofNat 8 (c.ctl.lcore.toNat % 32 * 8 + chan % 8),
      dcluster := BitVec.ofNat 8 (fdestCluster fd),
      dest := BitVec.ofNat 8 (fdestCore fd % 32 * 8 + fdestIndex fd % 8) }
  (s.modQs n (fun q =>
    { q with closed := q.closed.set chan true, orphans := q.orphans.set chan (satInc (q.orphans.get 0 chan)),
             sendDrop := satInc q.sendDrop })).modReports (s.partOf (kOf n)) (fun r =>
    { r with sendTotal := r.sendTotal + 1, firstOrphan := some ((r.firstOrphan.map (fun x => x.first o)).getD o) })

/-- The outcome of the epoch tests of a token at core n (R284, R296, R297). -/
inductive EpochTest where
  | pass | staleCfg | staleRole
  deriving DecidableEq, Repr

/-- Test a token's epochs at core n: the configuration epoch first, then the role epoch. -/
def State.epochTest (s : State) (n : Nat) (t : Token) : EpochTest :=
  if t.cepoch ≠ s.epochOf (kOf n) then .staleCfg
  else if t.repoch ≠ (s.core n).steer.roleEpoch then .staleRole
  else .pass

/-- Discard a token that fails an epoch test at core n, counted in CO_STALE and in the partition. -/
def State.dropStale (s : State) (n : Nat) (e : EpochTest) : State :=
  let p := s.partOf (kOf n)
  match e with
  | .pass => s
  | .staleCfg => (s.modSteer n (fun c => { c with cfgCnt := satInc c.cfgCnt })).countStaleCfg p
  | .staleRole => (s.modSteer n (fun c => { c with roleCnt := satInc c.roleCnt })).countStaleRole p

/-- Whether a token is stored before another, or with it (R315): by the cycle of its delivery, then by its place in that cycle. -/
def Token.before (a b : Token) : Bool := decide (a.sent < b.sent) || (decide (a.sent = b.sent) && decide (a.rank ≤ b.rank))

/-- Put a token in its place. -/
def Token.into (t : Token) (l : List Token) : List Token :=
  match l with
  | [] => [t]
  | e :: r => if e.before t then e :: t.into r else t :: e :: r

/-- Store a token delivered to inbound queue q of core n in a cycle, at a place of the order of R315. -/
def State.enqueue (s : State) (n q cycle rank : Nat) (t : Token) : State :=
  s.modQs n (fun c => { c with inq := c.inq.set q ({ t with sent := cycle, rank := rank }.into (c.queue q)) })

/-- The visible entries of inbound queue q for an instruction issued in cycle t (R313): those delivered by then. -/
def CoreQueues.visible (c : CoreQueues) (q t : Nat) : List Token := (c.queue q).filter (fun x => decide (x.sent ≤ t))

/-- Deliver a token to inbound queue q of core n in a cycle (R284, R296, R297, R315, R316, R330): `ruled` for a delivery through
a ruling entry. A full queue raises RULED_OVERFLOW with the queue index. -/
def State.deliver (s : State) (n q cycle rank : Nat) (t : Token) (ruled : Bool) : State :=
  match s.epochTest n t with
  | .pass =>
    let c := (s.core n).qs
    if c.isClosed q || (ruled && decide (c.mode q = 2)) then s.countRecvDrop n
    else if 16 ≤ (c.queue q).length then s.coreErrorIn n cycle (CoreErrKind.ruledOverflow.err q)
    else s.enqueue n q cycle rank t
  | e => s.dropStale n e

/-- Stamp a token with the epochs SEND fills in (R263). -/
def State.stamp (s : State) (n chan : Nat) (t : Token) : Token :=
  { t with cepoch := s.epochOf (kOf n), repoch := (s.core n).steer.chanRepoch.get 0 chan }

/-- Whether the closure notice of channel n has arrived (R331). -/
def CoreQueues.noticed (c : CoreQueues) (n : Nat) : Bool := c.notice.get false n

/-- Send a token of a free channel on its way (R319). -/
def State.sendFree (s : State) (n chan : Nat) (t : Token) : State :=
  s.sendNet (.freeTok n chan ((s.core n).qs.fdest.get 0 chan) (s.stamp n chan t))

/-- Whether a free channel can take a token at once: closed, to a combining queue, or with a credit (R321, R323,
R331). -/
def CoreQueues.canSend (c : CoreQueues) (chan : Nat) : Bool :=
  c.noticed chan || fdestKind (c.fdest.get 0 chan) || decide (0 < c.credit.get 0 chan)

/-- A token leaves on a free channel that can take it: discarded where the channel's queue has closed (R331),
without a credit to a combining queue (R323), else with one credit taken (R321). -/
def State.leaveFree (s : State) (n chan : Nat) (t : Token) : State :=
  let c := (s.core n).qs
  if c.noticed chan then s.countOrphan n chan
  else if fdestKind (c.fdest.get 0 chan) then s.sendFree n chan t
  else (s.sendFree n chan t).modQs n (fun q => { q with credit := q.credit.set chan (q.credit.get 0 chan - 1) })

/-- A token enters ruled egress channel `chan` of core n in a cycle (R193, R263, R277). -/
def State.enterChan (s : State) (n chan cycle : Nat) (t : Token) : State :=
  let u := { s.stamp n chan t with sent := cycle }
  s.modQs n (fun c => { c with echan := c.echan.set chan (c.chan chan ++ [u]) })

/-- Whether free channel `e` of a core names inbound queue q of a logical core (R374). -/
def namesQueue (w : Word) (lcluster lcore q : Nat) : Bool :=
  !fdestKind w && decide (fdestCluster w = lcluster) && decide (fdestCore w = lcore) &&
    decide (fdestIndex w = q)

/-- The free egress channel that feeds free queue q of core n (R312): its core and channel. -/
def State.producer (s : State) (n q : Nat) : Option (Nat × Nat) :=
  let c := s.core n
  let cand := (s.cores.filter (fun e => e.2.ctl.context == c.ctl.context && c.ctl.context.isSome)).flatMap
    (fun e => ((List.range 8).filter (fun ch => e.2.qs.isFree ch &&
      namesQueue (e.2.qs.fdest.get 0 ch) c.ctl.lcluster.toNat c.ctl.lcore.toNat q)).map (fun ch => (e.1, ch)))
  cand.head?

/-- Send the producer of a free queue a message over the management network, if it has one. -/
def State.toProducer (s : State) (n q : Nat) (f : Nat → Nat → NetMsg) : State :=
  match s.producer n q with
  | some e => s.sendNet (f e.1 e.2)
  | none => s

/-- The inbound queues of a core that halts or resumes halted close (R329): entries are discarded, and the
producer of each free queue is sent a closure notice (R331). -/
def State.haltQueues (s : State) (n : Nat) : State :=
  let s1 := (List.range 8).foldl (fun u q =>
    if ((u.core n).qs.mode q = 2) then u.toProducer n q (fun c ch => .notice c ch) else u) s
  s1.modQs n (fun c => { c with inq := [], haltClosed := true })

end Sys2Proof.Machine
end

