-- ==== Sys2Proof/Machine/CoreTick.lean ====
section
/-!
DEFINITION. What happens in a core in a later cycle than the command that causes it (03 R148; 05 R263, R269 to R277; 06 R318;
07 R406, R409): tokens and flits that enter channels, outputs of steering units, control entries; the pairing buffers.
-/
namespace Sys2Proof.Machine

/-! ### Pairing buffers -/

/-- MODE of a CO_STEER_CFG (R301). -/
def steerMode (w : Word) : Nat := w.toNat / 2 ^ 29
/-- CSRC. -/
def steerCsrc (w : Word) : Bool := w.getLsbD 28
/-- PASS. -/
def steerPass (w : Word) : Nat := w.toNat / 2 ^ 20 % 256
/-- Whether OUTm is enabled. -/
def steerOut (w : Word) (m : Nat) : Bool := w.getLsbD (16 + m)
/-- The binding of OUTm: whether it is an inbound queue, and the index. -/
def steerBind (w : Word) (m : Nat) : Bool × Nat := (w.getLsbD (4 * m + 3), w.toNat / 2 ^ (4 * m) % 8)

/-- The data inputs of a mode (R268). -/
def steerData (mode : Nat) : List Nat :=
  match mode with
  | 1 => [1]
  | 2 => [1, 2]
  | 3 => [1, 2, 3]
  | 4 => [1, 2]
  | _ => []

/-- Whether an input takes tokens (R270): a data input of the mode, or IN0 with CSRC 0. -/
def steerUses (w : Word) (i : Nat) : Bool :=
  (steerData (steerMode w)).contains i || (decide (i = 0) && decide (1 ≤ steerMode w ∧ steerMode w ≤ 4) && !steerCsrc w)

/-- The configuration of unit u of core n. -/
def State.steerCfg (s : State) (n u : Nat) : Word := (s.core n).steer.cfg.get 0 u

/-- The pairing buffer of input i of unit u. -/
def CoreSteer.pair (c : CoreSteer) (u i : Nat) : List Token := c.buf.get [] (4 * u + i)

/-- PAIRING_OVERFLOW (R275 to R277, R303): CO_STEER_ERR records it, the core raises the core error. -/
def State.pairingOverflow (s : State) (n u inp cycle cause : Nat) (ord : Byte) : State :=
  let fields := BitVec.ofNat 32 (u * 2 ^ 28 + inp % 4 * 2 ^ 26 + cause * 2 ^ 23 + ord.toNat * 2 ^ 15)
  (s.modSteer n (fun c => { c with err := c.err.record fields 0 0 })).coreErrorIn n cycle CoreErrKind.pairingOverflow.err

/-- The members of the set that an entry on input i belongs to (R273). -/
def setMembers (mode i : Nat) : List Nat :=
  if mode = 4 then (if i = 2 then [2] else [0, 1]) else 0 :: steerData mode

/-- Whether the set of an ordinal is complete once input i is written (R273). -/
def CoreSteer.complete (c : CoreSteer) (u mode i : Nat) (ord : Byte) : Bool :=
  (setMembers mode i).all (fun m => (c.pair u m).any (fun t => t.ordinal == ord))

/-- A token is written into a pairing buffer in a cycle (R272 to R275). -/
def State.steerWrite (s : State) (n u i cycle : Nat) (t : Token) : State :=
  let c := (s.core n).steer
  let b := c.pair u i
  if b.any (fun x => x.ordinal == t.ordinal) then s.pairingOverflow n u i cycle 2 t.ordinal
  else if 8 ≤ b.length then s.pairingOverflow n u i cycle 1 t.ordinal
  else
    let mode := steerMode (s.steerCfg n u)
    s.modSteer n (fun c =>
      let c1 := { c with buf := c.buf.set (4 * u + i) (b ++ [t]) }
      if c1.complete u mode i t.ordinal then
        { c1 with ready := c1.ready ++ [{ cycle := cycle, unit := u, input := i, ordinal := t.ordinal,
                                          backEdge := decide (mode = 4 ∧ i = 2) }] }
      else c1)

/-- Count a token for an unused input (R270). -/
def State.countUnused (s : State) (n : Nat) : State := s.modSteer n (fun c => { c with unusedIn := satInc c.unusedIn })

/-- A token is delivered to input i of unit u in a cycle (R270, R272, R284, R296): the epoch tests, then a closed input. -/
def State.steerDeliver (s : State) (n u i cycle : Nat) (t : Token) : State :=
  match s.epochTest n t with
  | .pass => if steerUses (s.steerCfg n u) i then s.steerWrite n u i cycle t else s.countUnused n
  | e => s.dropStale n e

/-- A control entry of STEER (R269): VALUE in W0. -/
def controlToken (ord value : Byte) : Token :=
  { pass := 0, count := 0, repoch := 0, cepoch := 0, ordinal := ord, words := 0, last := false, void := false,
    payload := value.setWidth 128, blot := false }

/-! ### Channels -/

/-- An output of a fire enters what its unit binds it to, in a cycle (R277, R281): an egress channel, or an inbound queue of
the core, which holds it from the next cycle. -/
def State.steerOutput (s : State) (n u m cycle : Nat) (w : Word) (t : Token) : State :=
  let b := steerBind w m
  if b.1 then
    let c := (s.core n).qs
    let t1 := { t with cepoch := s.epochOf (kOf n), repoch := (s.core n).steer.roleEpoch }
    if c.isClosed b.2 then s.countRecvDrop n
    else if 16 ≤ (c.queue b.2).length then s.pairingOverflow n u m cycle 4 t.ordinal
    else s.enqueue n b.2 cycle (4 + 4 * u + m) t1
  else if (s.core n).qs.isFree b.2 then
    if (s.core n).qs.canSend b.2 then s.leaveFree n b.2 t else s.pairingOverflow n u m cycle 3 t.ordinal
  else
    let s1 := s.takeChan n false b.2 cycle
    if 8 ≤ ((s1.core n).qs.chan b.2).length then s1.pairingOverflow n u m cycle 3 t.ordinal
    else s1.enterChan n b.2 cycle t

/-- The token of a SEND enters its ruled channel (R263, R277, R318): where all 8 places are held after the slots of that cycle,
RULED_OVERFLOW with the index of the SEND. -/
def State.sendEnter (s : State) (n ch cycle : Nat) (t : Token) (pc : BitVec 12) : State :=
  let s1 := s.takeChan n false ch cycle
  if 8 ≤ ((s1.core n).qs.chan ch).length then
    s1.coreErrorIn n cycle { CoreErrKind.ruledOverflow.err (8 + ch) with pc := some pc }
  else s1.enterChan n ch cycle t

/-- Flits of an access of a transfer enter its TE egress channel one after the other (R406, R409): where all 16 places are held
after the slots of that cycle, RULED_OVERFLOW with the index of the XFER. -/
def State.flitsEnter (s : State) (n ch cycle : Nat) (fs : List Flit) (pc : BitVec 12) : State :=
  let s1 := s.takeChan n true ch cycle
  let l : List Flit := (s1.core n).te.chan.get [] ch ++ fs.map (fun f => { f with cycle := cycle })
  let s2 := s1.modTe n (fun e => { e with chan := e.chan.set ch (l.take 16) })
  if 16 < l.length then s2.coreErrorIn n cycle { CoreErrKind.ruledOverflow.err (24 + ch) with pc := some pc } else s2

/-- STEER writes its control entry (R269, R270); on a unit that is OFF or takes control from tokens it is counted. -/
def State.ctlEnter (s : State) (n u cycle : Nat) (t : Token) : State :=
  let cfg := s.steerCfg n u
  if steerMode cfg = 0 ∨ steerCsrc cfg = false then s.countUnused n else s.steerWrite n u 0 cycle t

/-- Something due in core n happens. -/
def State.dueStep (s : State) (n : Nat) (d : Due) : State :=
  match d.what with
  | .send ch t pc => s.sendEnter n ch d.cycle t pc
  | .leave ch t => s.sendFree n ch t
  | .out u m w t => s.steerOutput n u m d.cycle w t
  | .ctl u t => s.ctlEnter n u d.cycle t
  | .flits ch fs pc => s.flitsEnter n ch d.cycle fs pc

/-- The first thing due in core n happens. -/
def State.dueNext (s : State) (n : Nat) : State :=
  match (s.core n).due with
  | [] => s
  | d :: r => (s.modCore n (fun x => { x with due := r })).dueStep n d

/-- The first things due in core n happen, up to a cycle. The fuel bounds how many. -/
def State.tickFrom (fuel : Nat) (s : State) (n c : Nat) : State :=
  match fuel with
  | 0 => s
  | f + 1 =>
    match (s.core n).due with
    | [] => s
    | d :: _ => if d.cycle ≤ c then State.tickFrom f (s.dueNext n) n c else s

/-- Everything due in core n by a cycle has happened. -/
def State.coreTick (s : State) (n c : Nat) : State := s.tickFrom (s.core n).due.length n c

/-- Everything due in core n has happened up to the first thing of some kind whose cycle has come. -/
def State.tickFor (s : State) (n : Nat) (p : DueKind → Bool) : State :=
  match (s.core n).due.find? (fun d => p d.what) with
  | some d => if s.cycleDue n d.cycle then s.coreTick n d.cycle else s
  | none => s

/-- Something is to happen in core n in a cycle. -/
def State.addDue (s : State) (n cycle rank : Nat) (w : DueKind) : State :=
  s.modCore n (fun c => { c with due := ({ cycle := cycle, rank := rank, what := w } : Due).into c.due })

end Sys2Proof.Machine
end

