-- ==== Sys2Proof/Machine/Descriptor.lean ====
section
/-!
DEFINITION. The descriptor of a transfer (03 R148, R160 to R164; 07 R400 to R403; 08 R479, R480): reading it, resolving
its addresses, the transfer it asks for.
-/
namespace Sys2Proof.Machine

/-- The physical cluster of a logical cluster (R161): none where the entry is 0xFF. -/
def Core.physCluster (c : Core) (lc : Nat) : Option Nat :=
  let k := (c.errs.cmap.get 0xFF lc).toNat
  if k < 48 then some k else none

/-- The least and greatest byte offset an end of a transfer reaches from its base, the last access's 64 bytes
included (R401). -/
def extent (co ci : Nat) (so si : Int) : Int × Int :=
  let a : Int := co * so
  let b : Int := ci * si
  (64 * (min 0 a + min 0 b), 64 * (max 0 a + max 0 b) + 64)

/-- ADDRESS of a logical address (R162, R403). -/
def addrErr (a : DWord) : CoreError := { kind := .address, detail := 0, addr := a }
/-- ALIGN of a logical address (R403). -/
def alignErr (a : DWord) : CoreError := { kind := .align, detail := 0, addr := a }

/-- SPACE of a logical address (R160). -/
def spaceOf (a : DWord) : Nat := a.toNat / 2 ^ 60
/-- Bits [w - 1 : 0] of a logical address. -/
def offOf (a : DWord) (w : Nat) : Nat := a.toNat % 2 ^ w
/-- The logical cluster of a logical address (R160). -/
def lclusterOf (a : DWord) : Nat := a.toNat / 2 ^ 48 % 256

/-- Whether offsets off + lo to off + hi stay within 0 .. limit. -/
def within (off : Nat) (e : Int × Int) (limit : Nat) : Bool :=
  decide (0 ≤ (off : Int) + e.1) && decide ((off : Int) + e.2 ≤ limit)

/-- The inkwell end of a logical cluster at an offset (R161, R162): the own one or a push. -/
def State.inkEnd (s : State) (n lc off : Nat) (col : Bool) (e : Int × Int) : Option End_ :=
  match (s.core n).physCluster lc with
  | none => none
  | some k =>
    if !within off e (s.inkLimit k) then none
    else if lc = (s.core n).ctl.lcluster.toNat then some (if col then .inkCol else .inkRow)
    else if col then none else some .push

/-- The page end of SPACE 0x4 (R479, R480). -/
def State.pageEnd (s : State) (n : Nat) (a : DWord) : End_ :=
  let sl := s.slot (lclusterOf a)
  .page (lclusterOf a) (sl.tierPages * 65536) (sl.tierBase * 65536)
    (decide (sl.tierCluster = (s.core n).ctl.lcluster))

/-- Resolve one end of a transfer (R160 to R163, R402, R403, R479, R480): what it is and its base, or ADDRESS. Tier pages
in the own inkwell are SPACE 0x1 accesses, in either view. -/
def State.resolveEnd (s : State) (n : Nat) (a : DWord) (form : Nat) (e : Int × Int) : Option (End_ × Int) :=
  let c := s.core n
  let col := decide (form = 1)
  if form = 2 then some (.stream, 0)
  else if form = 3 then none
  else
    match spaceOf a with
    | 0 =>
      let off := offOf a 41
      let base := c.errs.bulkBase.toNat * 65536
      if col || !within off e (c.errs.bulkLimit.toNat * 65536) || !within (base + off) e 0x016800000000 then none
      else some (.bulk, (base + off : Nat))
    | 1 => (s.inkEnd n (lclusterOf a) (offOf a 28) col e).map (fun x => (x, (offOf a 28 : Nat)))
    | 2 =>
      let l := a.toNat / 2 ^ 40 % 256
      if col || decide (s.dev.gradeL ≤ l) || (c.physCluster (lclusterOf a)).isNone ||
          decide (lclusterOf a ≠ c.ctl.lcluster.toNat) || decide (l ≠ c.ctl.lcore.toNat) ||
          !within (offOf a 20) e lsSize then none
      else some (.local_, (offOf a 20 : Nat))
    | 3 =>
      if col || !within (offOf a 40) e (c.errs.hostLimit.toNat * 65536) then none
      else some (.host, (offOf a 40 : Nat))
    | 4 =>
      let off := offOf a 36
      let sl := s.slot (lclusterOf a)
      if col then
        if a.toNat / 2 ^ 36 % 2 ^ 12 = 0 ∧ lclusterOf a < 32 ∧ sl.tierCluster = c.ctl.lcluster ∧
            within off e (sl.tierPages * 65536) = true then
          (s.inkEnd n sl.tierCluster.toNat (sl.tierBase * 65536 + off) true e).map (fun x =>
            (x, (sl.tierBase * 65536 + off : Nat)))
        else none
      else if decide (32 ≤ lclusterOf a) || decide (a.toNat / 2 ^ 36 % 2 ^ 12 ≠ 0) || !within off e (2 ^ 36) then
        none
      else some (s.pageEnd n a, (off : Nat))
    | 5 => if col then none else some (.remote, (offOf a 34 : Nat))
    | _ => none

/-- The kinds an end takes over the whole transfer: pages with a tier may be inkwell accesses too (R480). -/
def State.endKinds (s : State) (n : Nat) (x : End_ × Int) (a : DWord) (e : Int × Int) : List (Option End_) :=
  match x.1 with
  | .page i t b own =>
    let lo := x.2 + e.1
    let hi := x.2 + e.2
    (if lo < t then
      [s.inkEnd n (s.slot (lclusterOf a)).tierCluster.toNat b false (lo, min hi (t : Int))] else []) ++
    (if (t : Int) < hi then [some (.page i 0 b own)] else [])
  | y => [some y]

/-- The permitted pairs (R402). -/
def pairAllowed (src dst : End_) : Bool :=
  match src, dst with
  | .inkRow, .inkRow | .inkRow, .inkCol | .inkCol, .inkRow | .inkCol, .inkCol => false
  | .inkRow, _ | .inkCol, _ => true
  | .local_, .local_ => false
  | .local_, _ => true
  | .stream, .inkRow | .stream, .inkCol | .stream, .local_ => true
  | .bulk, .stream | .host, .stream | .page _ _ _ _, .stream => true
  | _, _ => false

/-- A descriptor (R400) read from local store. -/
structure Desc where
  src : DWord
  dst : DWord
  ci : Nat
  co : Nat
  srcSI : Int
  srcSO : Int
  dstSI : Int
  dstSO : Int
  form : Nat
  streams : Nat
  flags : Nat
  deriving DecidableEq, Repr

/-- n little-endian bytes of a block from an offset. -/
def leAt (b : List Byte) (off n : Nat) : Nat := leNat ((b.drop off).take n)

/-- A signed 16-bit stride (R400). -/
def strideAt (b : List Byte) (off : Nat) : Int := (BitVec.ofNat 16 (leAt b off 2)).toInt

/-- The descriptor that 32 bytes hold (R400). -/
def descOf (b : List Byte) : Desc :=
  { src := BitVec.ofNat 64 (leAt b 0 8), dst := BitVec.ofNat 64 (leAt b 8 8), ci := leAt b 16 2, co := leAt b 18 2,
    srcSI := strideAt b 20, srcSO := strideAt b 22, dstSI := strideAt b 24, dstSO := strideAt b 26,
    form := leAt b 28 1, streams := leAt b 29 1, flags := leAt b 30 1 }

/-- The transfer a descriptor asks for, or the errors it raises (R162, R402, R403). -/
def State.plan (s : State) (n : Nat) (d : Desc) (cycle : Nat) (pc : BitVec 12) : List CoreError × Option Xfer :=
  let sf := d.form % 4
  let df := d.form / 4 % 4
  let se := extent d.co d.ci d.srcSO d.srcSI
  let de := extent d.co d.ci d.dstSO d.dstSI
  let stream := d.streams / 16 % 8
  let al := (if sf ≠ 2 ∧ d.src.toNat % 64 ≠ 0 then [alignErr d.src] else []) ++
    (if df ≠ 2 ∧ d.dst.toNat % 64 ≠ 0 then [alignErr d.dst] else [])
  if sf = 3 ∨ df = 3 then (addrErr 0 :: al, none)
  else match s.resolveEnd n d.src sf se, s.resolveEnd n d.dst df de with
  | none, _ => (addrErr d.src :: al, none)
  | some _, none => (addrErr d.dst :: al, none)
  | some x, some y =>
    let ks := s.endKinds n x d.src se
    let kd := s.endKinds n y d.dst de
    let ok := ks.all (fun a => kd.all (fun b => match a, b with
      | some p, some q => pairAllowed p q
      | _, _ => false))
    let addressed := decide (x.1 = .stream) && (s.core n).te.addressed.getLsbD stream
    if !ok || addressed then (addrErr 0 :: al, none)
    else (al, some
      { pc := pc, src := x.2, dst := y.2, srcLog := d.src, dstLog := d.dst, countI := d.ci, countO := d.co,
        srcSI := d.srcSI, srcSO := d.srcSO, dstSI := d.dstSI, dstSO := d.dstSO, srcKind := x.1, dstKind := y.1,
        chan := d.streams % 8, stream := stream, consume := d.flags % 2 = 1, rslice := d.flags / 2 % 2 = 1,
        o := 0, i := 0, cycle := cycle })

/-- Byte i of a descriptor is read in cycle issue + 1 + i / 8 (R148). -/
def State.descView (s : State) (n : Nat) (d : DescRead) (i : Nat) : Store := s.lsView n (s.after n d.issued (1 + i / 8))

/-- The 32 bytes of the descriptor under way (R148, R134). -/
def State.descBytes (s : State) (n : Nat) (d : DescRead) : List Byte :=
  (List.range 32).map (fun i => (s.descView n d i).byte (lsBase n + d.addr + i))

/-- What the descriptor under way gives: the errors it raises (R162, R164, R402, R403), or the transfer. The errors carry
the index of the XFER (R174). -/
def State.descPlan (s : State) (n : Nat) (d : DescRead) : List CoreError × Option Xfer :=
  let x := s.plan n (descOf (s.descBytes n d)) (s.after n d.issued 7) d.pc
  let blot := (List.range 4).any (fun i => (s.descView n d (8 * i)).blotAt (lsBase n + d.addr))
  let errs := (if blot then [CoreErrKind.blotConsumed.atAddr d.addr] else []) ++ x.1
  (errs.map (fun e => { e with pc := some d.pc }), if errs.isEmpty then x.2 else none)

/-- The last cycle in which a descriptor is read (R148), in which its errors arise (R166). -/
def State.descEnd (s : State) (n : Nat) (d : DescRead) : Nat := s.after n d.issued 4

/-- The descriptor under way has been read (R148, R163): its transfer is handed to the TE, or its error is raised. -/
def State.descDone (s : State) (n : Nat) : State :=
  match (s.core n).te.desc with
  | none => s
  | some d =>
    let x := s.descPlan n d
    let s1 := s.modTe n (fun e => { e with desc := none, xfer := x.2 })
    match lowestErr x.1 with
    | some e => s1.coreErrorIn n (s.descEnd n d) e
    | none => s1

end Sys2Proof.Machine
end

