-- ==== Sys2Proof/Machine/Access.lean ====
section
/-!
DEFINITION. The next access of a transfer as its core's state fixes it (07 R391, R392, R399, R401, R405, R406, R408, R419): its
cycle, its words, the core errors it raises; inkwell writes that reads do not see yet; what happens in a core of itself.
-/
namespace Sys2Proof.Machine

/-- The byte offsets of the 16 words of an access in delivery order (R388, R389). -/
def wordOffs (col : Bool) (off : Nat) : List Nat :=
  if col then
    let tile := off / 4096 * 4096
    let x := off / 128 % 32
    let h := off / 64 % 2
    (List.range 16).map (fun i => tile + (16 * h + i) * 128 + 4 * x)
  else (List.range 16).map (fun i => off + 4 * i)

/-- The 16 words at addresses, each with the blot of its unit (R408). -/
def Store.gather (m : Store) (base : Nat) (offs : List Nat) : List (Word × Bool) :=
  offs.map (fun o => (m.word (base + o), m.blotAt (base + o)))

/-- Write 16 words (R116, R408): a row access as two whole units, a column access word by word. -/
def Store.scatter (m : Store) (col : Bool) (base : Nat) (offs : List Nat) (ws : List (Word × Bool)) : Store :=
  if col then
    (offs.zip ws).foldl (fun (t : Store) x => t.write (base + x.1) (toLe x.2.1.toNat 4) x.2.2) m
  else
    let half (l : List (Word × Bool)) (off : Nat) (t : Store) : Store :=
      t.write (base + off) (l.flatMap (fun w => toLe w.1.toNat 4)) (l.any (fun w => w.2))
    half (ws.drop 8) (offs.getD 8 0) (half (ws.take 8) (offs.getD 0 0) m)

/-- A data flit of eight words (R406, R408). -/
def wordsFlit (ws : List (Word × Bool)) : Flit :=
  { data := BitVec.ofNat 256 (packElems32 ws), blot := ws.any (fun w => w.2) }
where
  /-- Words packed little-endian. -/
  packElems32 : List (Word × Bool) → Nat
    | [] => 0
    | w :: r => w.1.toNat + 2 ^ 32 * packElems32 r

/-- The 32 bytes of a flit. -/
def Flit.bytes (f : Flit) : List Byte := toLe f.data.toNat 32

/-- The eight words of a data flit, each with its blot (R408). -/
def Flit.words (f : Flit) : List (Word × Bool) :=
  (List.range 8).map (fun i => (f.data.extractLsb' (32 * i) 32, f.blot))

/-- The FILL bits after a core-side access (R419): the touch of word 7 sets or, with CONSUME, clears. -/
def Store.touchFill (m : Store) (base : Nat) (offs : List Nat) (isRead consume : Bool) : Store :=
  offs.foldl (fun (t : Store) o =>
    if o / 4 % 8 ≠ 7 then t
    else if isRead then (if consume then { t with fills := Units.del t.fills ((base + o) / 32) } else t)
    else { t with fills := Units.add t.fills ((base + o) / 32) }) m

/-- The next access of a transfer: source and destination offset (R401). -/
def Xfer.offs (x : Xfer) : Int × Int :=
  (x.src + 64 * ((x.o : Int) * x.srcSO + (x.i : Int) * x.srcSI),
   x.dst + 64 * ((x.o : Int) * x.dstSO + (x.i : Int) * x.dstSI))

/-- The inkwell view and offset of an end, none where it is no inkwell of the own cluster (R480). -/
def End_.ink (e : End_) (off : Nat) : Option (Bool × Nat) :=
  match e with
  | .inkRow => some (false, off)
  | .inkCol => some (true, off)
  | .page _ t b own => if own && decide (off < t) then some (false, b + off) else none
  | _ => none

/-- The logical address of an access: the descriptor's address plus the access's stride (R401). -/
def Xfer.dstAt (x : Xfer) : DWord := x.dstLog + BitVec.ofInt 64 (x.offs.2 - x.dst)

/-- The phase of core n at its inkwell (R391): its logical core; the cores without a role follow from L on, by physical
index. -/
def State.phaseOf (s : State) (n : Nat) : Nat :=
  let l := (s.core n).ctl.lcore.toNat
  if l < 32 then l
  else
    let others := (List.range (jOf n)).filter (fun j => decide (32 ≤ (s.core (32 * kOf n + j)).ctl.lcore.toNat))
    s.dev.gradeL + others.length

/-- The first cycle in which a stream source's two flits were there at the end of the cycle before (R405). -/
def State.flitsFrom (s : State) (n : Nat) (x : Xfer) (t : Nat) : Nat :=
  if x.srcKind = .stream then
    (((s.core n).te.stream.get [] x.stream).take 2).foldl (fun m f => max m (s.after n f.cycle 1)) t
  else t

/-- The cycle of an access (R392, R405): the first in which its flits are there and the core's port reaches the bank
group. -/
def State.xferCycle (s : State) (n : Nat) (x : Xfer) : Nat :=
  let t := s.flitsFrom n x x.cycle
  let group := match x.srcKind.ink x.offs.1.toNat with
    | some y => some (y.2 / 4096 % 32)
    | none => (x.dstKind.ink x.offs.2.toNat).map (fun y => y.2 / 4096 % 32)
  match group with
  | some g =>
    let now := (s.phaseOf n + t % 256) % 32
    s.after n t ((g + 32 - now) % 32)
  | none => t

/-- Whether the source of the next access is far, so that the access sends a request and moves no data (R402). -/
def Xfer.far (x : Xfer) : Bool :=
  match x.srcKind with
  | .bulk | .host => true
  | .page _ _ _ _ => (x.srcKind.ink x.offs.1.toNat).isNone
  | _ => false

/-! ### Writes that reads do not see yet (R399) -/

/-- A late write is made; FILL follows its words (R399, R419; DESIGN CHOICE, log 118). -/
def State.inkMake (s : State) (k : Nat) (w : InkLate) : State :=
  { s with store := (s.store.scatter w.column (inkBase k) w.offs w.words).touchFill (inkBase k) w.offs false false }

/-- The writes of cluster k that reads of cycle t see are made. -/
def State.inkSee (s : State) (k t : Nat) : State :=
  let l := (s.cluster k).ink.late
  if l.isEmpty then s
  else
    (l.filter (fun w => decide (w.visible ≤ t))).foldl (fun u w => u.inkMake k w)
      (s.modInk k (fun i => { i with late := i.late.filter (fun w => decide (t < w.visible)) }))

/-- Every late write of cluster k is made: what is no core-side access comes after it (DESIGN CHOICE, log 118). -/
def State.inkSettle (s : State) (k : Nat) : State :=
  let l := (s.cluster k).ink.late
  if l.isEmpty then s else l.foldl (fun u w => u.inkMake k w) (s.modInk k (fun i => { i with late := [] }))

/-! ### The core errors of an access -/

/-- The source words of an access of cycle `a` that sends no request, none where its flits are not there (R408). -/
def State.xferWords (s : State) (n a : Nat) (x : Xfer) : Option (List (Word × Bool)) :=
  let off := x.offs.1.toNat
  match x.srcKind.ink off with
  | some (col, o) => some (s.store.gather (inkBase (kOf n)) (wordOffs col o))
  | none =>
    match x.srcKind with
    | .local_ => some ((s.lsView n a).gather (lsBase n) (wordOffs false off))
    | _ =>
      match (s.core n).te.stream.get [] x.stream with
      | f :: g :: _ => some (f.words ++ g.words)
      | _ => none

/-- Whether a flit spells a position write (R458). -/
def Flit.isPosition (f : Flit) : Bool := decide (f.data.extractLsb' 253 3 = 4)

/-- Whether every slot that reads TE egress channel `ch` of core n sends its flits to a memory controller (R189). -/
def State.chanToEdge (s : State) (n ch : Nat) : Bool :=
  let l := s.sourcesOf n true ch
  !l.isEmpty && l.all (fun p => (s.wayOf p).due.any (fun e => decide ((Place.ofKey e.place).port = 13)))

/-- The core error of an access whose words are known (R164 codes 0x03 to 0x05, R482). The TE knows a position write as a
flit of KIND 0b100 that its channel takes to a memory controller (DESIGN CHOICE, log 119). -/
def State.xferErr (s : State) (n : Nat) (x : Xfer) (ws : List (Word × Bool)) : Option CoreError :=
  let blotErr (detail : Nat) : CoreError :=
    { kind := .blotConsumed, detail := detail, addr := x.dstAt, pc := some x.pc }
  if ws.any (fun w => w.2) then
    match x.dstKind with
    | .remote => some (blotErr 4)
    | .host => some (blotErr 3)
    | .stream =>
      if [wordsFlit (ws.take 8), wordsFlit (ws.drop 8)].any (fun f => f.blot && f.isPosition) && s.chanToEdge n x.chan then
        some (blotErr 5)
      else none
    | _ => none
  else none

/-- The core errors that the access of cycle t raises in that cycle (R166). -/
def State.accessErrs (s : State) (n t : Nat) : List CoreError :=
  match (s.core n).te.xfer with
  | some x =>
    if !x.far && decide (s.xferCycle n x = t) then (((s.inkSee (kOf n) t).xferWords n t x).bind (s.xferErr n x)).toList else []
  | none => []

/-! ### What happens in a core of itself -/

/-- What happens next in core n of itself: its cycle, and which of the ACC_LOAD's error (0), the end of a descriptor's reading
(1) and something due (2) it is; of one cycle in this order. -/
def State.nextOwn (s : State) (n : Nat) : Option (Nat × Nat) :=
  let l := ((s.loadFault n).map (fun f => (f.cycle, 0))).toList ++
    ((s.core n).te.desc.map (fun d => (s.descEnd n d, 1))).toList ++
    ((s.core n).due.head?.map (fun d => (d.cycle, 2))).toList
  l.foldl (fun m e => match m with
    | none => some e
    | some b => some (if e.1 < b.1 then e else b)) none

/-- The next things in core n happen, up to a cycle. The fuel bounds how many. -/
def State.ownFrom (fuel : Nat) (s : State) (n c : Nat) : State :=
  match fuel with
  | 0 => s
  | f + 1 =>
    match s.nextOwn n with
    | none => s
    | some (t, i) =>
      if c < t then s
      else State.ownFrom f (if i = 0 then s.judgeLoad n else if i = 1 then s.descDone n else s.dueNext n) n c

/-- Everything that happens in core n of itself by cycle c has happened (R97, R98, R148, R269, R277, R318, R406). -/
def State.coreRun (s : State) (n c : Nat) : State := s.ownFrom ((s.core n).due.length + 2) n c

end Sys2Proof.Machine
end

