-- ==== Sys2Proof/Machine/Issue.lean ====
section
/-!
DEFINITION. The issue of a core instruction (03): when a core issues, the fetch and register checks, the waits of
R149, the choice of one error (R166), what happens in the core of itself meanwhile, and the program counter.
-/
namespace Sys2Proof.Machine

/-- Whether partition p pauses (R158, R183, R213, R665, R754). -/
def Part.paused (x : Part) : Bool :=
  x.stroke.holdSince.isSome || x.stroke.stall.isSome || x.ckptPause.isSome || x.lagHold.isSome

/-- Whether core n issues its next instruction now: it runs in a free or ruled section (R171), as a core of a context or
under a patrol pattern (R678), its partition does not pause (R158), no MMA waits at issue (R85), and its cycle is not in a
later stroke (R183). -/
def State.canIssue (s : State) (n : Nat) : Bool :=
  let c := s.core n
  let p := s.partOf (kOf n)
  (c.ctl.st == .free || c.ctl.st == .ruled) && (c.ctl.context.isSome || c.ctl.patrol) && !(s.part p).paused &&
    c.eng.pendingMma.isNone && s.cycleDue n c.ctl.cyc

/-- The cycle from which core n may issue: in a free section at least the first cycle of the stroke in
progress. -/
def State.issueBase (s : State) (n : Nat) : Nat :=
  let c := (s.core n).ctl
  if c.st = .free then max c.cyc ((s.part (s.partOf (kOf n))).stroke.count.toNat * 256) else c.cyc

/-- The engine an instruction is issued to (R137), for the wait of R149. -/
inductive Unit_ where
  | scalar | me | ve | vt | te
  deriving DecidableEq, Repr

/-- The cycle from which an engine accepts its next operation (R110, R407). -/
def Core.unitFree (c : Core) : Unit_ → Nat
  | .scalar => 0
  | .me => c.eng.meFree
  | .ve => c.eng.veFree
  | .vt => max c.eng.veFree c.eng.vtFree
  | .te => c.te.free

/-- What an instruction brings to issue: scalar and vector sources, the engine, further cycles it must wait for,
the core errors its rules raise before it has any effect. -/
structure Plan where
  reads : List Nat
  vreads : List Nat
  unit : Unit_
  errs : List CoreError
  deriving DecidableEq, Repr

/-- The first cycle at or after `t` in which every source and the engine are ready (R148, R149). -/
def Core.readyAt (c : Core) (p : Plan) (t : Nat) : Nat :=
  let a := p.reads.foldl (fun m r => max m (if r = 0 then 0 else c.ctl.sready.get 0 r)) t
  let b := p.vreads.foldl (fun m r => max m (c.ctl.vready.get 0 r)) a
  max b (c.unitFree p.unit)

/-- Whether every source of an instruction is ready in cycle t (R148). -/
def Core.sourcesReady (c : Core) (p : Plan) (t : Nat) : Bool :=
  p.reads.all (fun r => decide (r = 0 ∨ c.ctl.sready.get 0 r ≤ t)) &&
    p.vreads.all (fun r => decide (c.ctl.vready.get 0 r ≤ t))

/-- The errors of a plan that can be judged: while a source is not ready in a ruled section, its value is not
known, so only ILLEGAL_INSTR, which the encoding decides, stands beside RULED_STALL (log 11). -/
def Core.judged (c : Core) (p : Plan) (t : Nat) : List CoreError :=
  if c.ctl.st = .ruled ∧ c.sourcesReady p t = false then
    p.errs.filter (fun e => decide (e.kind = .illegalInstr))
  else p.errs

/-- Count what the instruction fetch finds (R136), for the core and for event 0x0001 (R656). -/
def State.countFetch (s : State) (n : Nat) (e : Ecc) : State :=
  match e with
  | .ok => s
  | .corrected =>
    (s.modErrs n (fun x => { x with isCorr := satInc x.isCorr })).modCorrected (s.partOf (kOf n))
      (fun x => { x with local_ := x.local_ + 1 })
  | .uncorrectable => s.modErrs n (fun x => { x with isUncorr := satInc x.isUncorr })

/-- The errors every instruction can raise at issue: IFETCH_ECC (R136), SREG_PARITY (R165), issue past
instruction 4,095 (R165), RULED_STALL (R149). -/
def State.issueErrs (s : State) (a : Issue) (p : Plan) : List CoreError :=
  let c := s.core a.core
  let t := s.issueBase a.core
  (if a.fetch = .uncorrectable then [CoreErrKind.ifetchEcc.err] else []) ++
  (if a.sregParity && !p.reads.isEmpty then [CoreErrKind.sregParity.err] else []) ++
  (if c.ctl.pastEnd then [CoreErrKind.illegalInstr.err] else []) ++ c.judged p t ++
  (if c.ctl.st = .ruled ∧ t < c.readyAt p t then [CoreErrKind.ruledStall.err] else [])

/-- The cycle in which an instruction issues or raises its error: in a ruled section the core's next cycle, in a free
section the first in which its sources and its engine are ready (R149). -/
def State.issueAt (s : State) (n : Nat) (p : Plan) : Nat :=
  let c := s.core n
  if c.ctl.st = .ruled then s.issueBase n else c.readyAt p (s.issueBase n)

/-- The errors an instruction raises in cycle t in a core that has stopped in that cycle (R166), its section as it was. -/
def State.besideErrs (s : State) (a : Issue) (p : Plan) (t : Nat) : List CoreError :=
  (s.modCtl a.core (fun c => { c with st := (s.core a.core).errs.was, cyc := t })).issueErrs a p

/-- The issue of cycle t of core n has been made. -/
def State.spent (s : State) (n t : Nat) : State := s.modCtl n (fun c => { c with cyc := s.after n t 1 })

/-- An instruction of a cycle in which its core has stopped with a core error (R157, R166): the lowest kind is recorded, with
MULTI; beside RULED_EMPTY it is discarded. -/
def State.issueBeside (s : State) (a : Issue) (p : Plan) (t : Nat) : State :=
  if (s.core a.core).errs.err.coreKind = CoreErrKind.ruledEmpty.code then s
  else
    match lowestErr (s.besideErrs a p t) with
    | some e => (s.alsoFault a.core e).spent a.core t
    | none => s.spent a.core t

/-- Core errors of cycle t are raised (R166). -/
def State.raiseAll (s : State) (n t : Nat) (l : List CoreError) : State := l.foldl (fun u e => u.coreErrorIn n t e) s

/-- Whether core n goes on after something of its own (R165, R118): its context still runs, or it is under patrol. -/
def State.runsOn (s : State) (n : Nat) : Bool :=
  let c := s.core n
  (c.ctl.context.isSome || c.ctl.patrol) && c.ctl.st != .frozen

/-- What core n issues, with the core errors it raises, meets its cycle t (R165, R166), in a state `s0` in which all of earlier
cycles has happened: where something of the core's own raises an error in that cycle, the errors are raised beside it, an engine
error first so that the one event has level 0, and what raises none does not issue; else it raises its error of lowest kind with
no other effect, or takes its effect. -/
def State.meets (s0 : State) (n t : Nat) (errs : List CoreError) (effect : Nat → State → State) : State :=
  let s1 := s0.coreRun n t
  let acc := s1.accessErrs n t
  if s1.runsOn n && acc.isEmpty then
    match lowestErr errs with
    | some e => (s1.coreErrorIn n t e).spent n t
    | none => effect t s1
  else
    match lowestErr errs with
    | some e => ((s1.raiseAll n t acc).coreErrorIn n t e).spent n t
    | none =>
      let u := effect t s0
      ((if u.runsOn n then s1 else u.coreRun n t).raiseAll n t acc).spent n t

/-- Issue an instruction: nothing where the core does not issue, or where in a free section its cycle lies in a later
stroke (R183); else what happens in the core of itself before that cycle happens, and the instruction meets its cycle. In a
core that has stopped in that cycle its error is recorded too (R166). -/
def State.issue (s : State) (a : Issue) (p : Plan) (effect : Nat → State → State) : State :=
  let n := a.core.val
  let t := s.issueAt n p
  if s.canIssue n then
    if s.cycleDue n t then
      let s0 := s.coreRun n (t - 1)
      if s0.canIssue n then (s0.countFetch n a.fetch).meets n t (s0.issueErrs a p) effect
      else s0
    else s
  else if (s.core n).failedIn (s.core n).ctl.cyc then s.issueBeside a p (s.core n).ctl.cyc
  else s

/-- Go on at an instruction: the next issue is d cycles after t. -/
def State.goto (s : State) (n t d : Nat) (target : BitVec 12) : State :=
  s.modCtl n (fun c => { c with pc := target, cyc := s.after n t d, pastEnd := false })

/-- Go on at the next instruction; past instruction 4,095 there is none (R165): the index wraps to 0 and `pastEnd` tells it
(DESIGN CHOICE, log 114). -/
def State.advance (s : State) (n t d : Nat) : State :=
  s.modCtl n (fun c => { c with pc := c.pc + 1, cyc := s.after n t d, pastEnd := decide (c.pc = 0xFFF) })

/-- Write a scalar register; the result can be used `lat` cycles after issue (R148). -/
def State.putS (s : State) (n t lat r : Nat) (v : Word) (b : Bool) : State :=
  s.modCore n (fun c =>
    { c with regs := c.regs.setS r v b, ctl := { c.ctl with sready := c.ctl.sready.set r (s.after n t lat) } })

end Sys2Proof.Machine
end

