-- ==== Sys2Proof/Machine/Operands.lean ====
section
/-!
DEFINITION. Operand forms of the core instructions (03 R140, R143, R146, R164, R355): immediates, local store
addresses with their checks, counter IDs, the local store reads and writes of the scalar, VE and ME ports.
-/
namespace Sys2Proof.Machine

/-- A signed 14-bit immediate as a word (R140). -/
def imm14 (i : BitVec 14) : Word := i.signExtend 32

/-- The local store address rs1 + imm14 (R142). -/
def CoreRegs.lsAddr (r : CoreRegs) (rs1 : BitVec 6) (imm : BitVec 14) : Nat := (r.s rs1.toNat + imm14 imm).toNat

/-- BLOT_CONSUMED with a DETAIL (R164) where one of the registers is blotted. -/
def CoreRegs.blotErr (r : CoreRegs) (regs : List Nat) (detail : Nat) : List CoreError :=
  if regs.any r.sb then [CoreErrKind.blotConsumed.err detail] else []

/-- ADDRESS and ALIGN of a local store address (R146). -/
def lsErrs (a size : Nat) : List CoreError :=
  (if lsSize ≤ a then [CoreErrKind.address.atAddr a] else []) ++
  (if a % size ≠ 0 then [CoreErrKind.align.atAddr a] else [])

/-- ADDRESS and ALIGN of an operand range in local store (R146). -/
def rangeErrs (a len align : Nat) : List CoreError :=
  (if lsSize < a + len then [CoreErrKind.address.atAddr a] else []) ++
  (if a % align ≠ 0 then [CoreErrKind.align.atAddr a] else [])

/-- What a local store read in cycle t finds (R135): a single-bit error is corrected and counted, an uncorrectable one
is counted and blots the unit, and the read sees that blot. -/
def State.lsEcc (s : State) (n t a : Nat) (e : Ecc) : State :=
  match e with
  | .ok => s
  | .corrected =>
    (s.modErrs n (fun x => { x with lsCorr := satInc x.lsCorr })).modCorrected (s.partOf (kOf n))
      (fun x => { x with local_ := x.local_ + 1 })
  | .uncorrectable =>
    (s.modErrs n (fun x => { x with lsUncorr := satInc x.lsUncorr })).lsPut n t 0 (a / 32 * 32) [] true

/-- The ECC findings of a wider local store read: units by number (address / 32). -/
def State.lsEccs (s : State) (n t : Nat) (l : List (Nat × Ecc)) : State :=
  l.foldl (fun u e => u.lsEcc n t (32 * e.1) e.2) s

/-- The word that a read of core n in cycle t finds at a local store address (R134). -/
def State.lsWord (s : State) (n t a : Nat) : Word := (s.lsView n t).word (lsBase n + a)

/-- The blot of `len` bytes that a read of core n in cycle t finds (R134). -/
def State.lsBlot (s : State) (n t a len : Nat) : Bool := (s.lsView n t).blotRange (lsBase n + a) len

/-- The counter a counter ID names (R355), for the operations that allow SCOPE 0b00 to 0b10 (R357). -/
def State.counterOf (s : State) (n : Nat) (id : Word) : Option Counter :=
  let scope := id.toNat / 2 ^ 30
  if scope = 0 then some (.cluster (kOf n) (id.toNat % 256))
  else if scope = 1 then
    ((s.core n).physCluster (id.toNat / 2 ^ 16 % 256)).map (fun k => .cluster k (id.toNat % 256))
  else if scope = 2 then some (.device (id.toNat % 4096))
  else none

/-- ADDRESS with the counter ID (R357). -/
def counterErr (id : Word) : CoreError :=
  { kind := .address, detail := 0, addr := id.setWidth 64 }

/-- The errors of a counter operand (R357). -/
def State.counterErrs (s : State) (n : Nat) (id : Word) : List CoreError :=
  if (s.counterOf n id).isNone then [counterErr id] else []

/-- Scalar register numbers as naturals. -/
def regs (l : List (BitVec 6)) : List Nat := l.map BitVec.toNat

end Sys2Proof.Machine
end

