-- ==== Sys2Proof/Machine/Sync.lean ====
section
/-!
DEFINITION. Sync counters (06 R354 to R364): the counters of clusters and of the device, SET, ADD and WAIT_GE, and the
operations that travel on the management network.
-/
namespace Sys2Proof.Machine

/-- The value of a counter (R354). -/
def State.counter (s : State) (c : Counter) : Word :=
  match c with
  | .cluster k i => (s.cluster k).sync.get 0 i
  | .device i => s.fabric.sync.get 0 i

/-- Write a counter. -/
def State.setCounter (s : State) (c : Counter) (v : Word) : State :=
  match c with
  | .cluster k i => s.modCluster k (fun x => { x with sync := x.sync.set i v })
  | .device i => { s with fabric := { s.fabric with sync := s.fabric.sync.set i v } }

/-- What was done to a counter of a cluster in its last cycle, or nothing in a cycle (R359). -/
def State.markOf (s : State) (k i cycle : Nat) : SyncMark :=
  let now := s.counter (.cluster k i)
  let fresh : SyncMark := { cycle := cycle, start := now, set := none, far := none, added := 0, shown := now }
  let old := (s.cluster k).marks.get fresh i
  if old.shown = now then old else fresh

/-- Give a counter of a cluster a value, with what was done to it. -/
def State.putMark (s : State) (k i : Nat) (m : SyncMark) : State :=
  (s.setCounter (.cluster k i) m.shown).modCluster k (fun x => { x with marks := x.marks.set i m })

/-- A SET or an ADD of the management network or the host reaches a counter (R356, R359, R360): after what its cluster's cores
have done; where one of them does more in the same cycle, that cycle's operations meet in the order of R359 (log 116). -/
def State.syncApply (s : State) (c : Counter) (isSet : Bool) (v : Word) : State :=
  let w := if isSet then v else s.counter c + v
  match c with
  | .cluster k i =>
    let m := s.markOf k i 0
    s.putMark k i (if isSet then { m with far := some v, shown := w } else { m with added := m.added + v, shown := w })
  | .device _ => s.setCounter c w

/-- A SET or ADD by logical core l of the counter's own cluster in a cycle (R358, R359; log 116). -/
def State.syncByCore (s : State) (k i l cycle : Nat) (isSet : Bool) (v : Word) : State :=
  let now := s.counter (.cluster k i)
  let old := s.markOf k i cycle
  let m := (if old.cycle = cycle then old
    else { cycle := cycle, start := now, set := none, far := none, added := 0, shown := now }).apply l isSet v
  s.putMark k i { m with shown := m.value }

/-- The value of a counter at the end of a cycle (R359, R361): before what was done to it in a later one. -/
def State.counterAt (s : State) (c : Counter) (x : Nat) : Word :=
  match c with
  | .cluster k i =>
    let m := s.markOf k i x
    if x < m.cycle then m.start else s.counter c
  | .device _ => s.counter c

/-- The cycle in which a core of its cluster last changed a counter, if that is later than cycle x (R361). -/
def State.changedAfter (s : State) (c : Counter) (x : Nat) : Option Nat :=
  match c with
  | .cluster k i =>
    let m := s.markOf k i 0
    if x < m.cycle then some m.cycle else none
  | .device _ => none

/-- Whether an operation of core n on a counter is still on the management network (R358). -/
def State.syncOwed (s : State) (n : Nat) (c : Counter) : Bool :=
  s.net.any (fun m => match m with
    | .syncOp d x _ _ => d == some n && x == c
    | _ => false)

/-- Whether a counter has reached a value (R356): their difference, signed, is zero or positive. -/
def reached (counter value : Word) : Bool := decide (0 ≤ (counter - value).toInt)

/-- Whether a counter ID names a counter of the core's own cluster by SCOPE 0b00 (R355). -/
def scopeOwn (id : Word) : Bool := decide (id.toNat / 2 ^ 30 = 0)

/-- SET or ADD by a core (R356 to R358): in cycle issue + 2 on its own cluster's counter, over the management network
otherwise, or behind its own operations that are still there. -/
def syncOp (a : Issue) (ra rb : BitVec 6) (isSet : Bool) (s : State) : State :=
  let n := a.core.val
  let r := (s.core n).regs
  let id := r.s ra.toNat
  s.issue a { reads := regs [ra, rb], vreads := [], unit := .scalar,
              errs := r.blotErr (regs [ra, rb]) 2 ++ s.counterErrs n id } (fun t u =>
    let v := (u.core n).regs.s rb.toNat
    let u1 := match u.counterOf n id with
      | some (.cluster k i) =>
        if scopeOwn id && !u.syncOwed n (.cluster k i) then
          u.syncByCore k i (u.core n).ctl.lcore.toNat (u.after n t 2) isSet v
        else u.sendNet (.syncOp (some n) (.cluster k i) isSet v)
      | some c => u.sendNet (.syncOp (some n) c isSet v)
      | none => u
    u1.advance n t 1)

/-- SYNC_SET (R356). -/
def effSyncSet (a : Issue) (ra rb : BitVec 6) (s : State) : State := syncOp a ra rb true s
/-- SYNC_SET. -/
def execSyncSet (a : Issue) (ra rb : BitVec 6) (s : State) : Host.Outcome State Fault Refusal :=
  .next (effSyncSet a ra rb s)

/-- SYNC_ADD (R356). -/
def effSyncAdd (a : Issue) (ra rb : BitVec 6) (s : State) : State := syncOp a ra rb false s
/-- SYNC_ADD. -/
def execSyncAdd (a : Issue) (ra rb : BitVec 6) (s : State) : Host.Outcome State Fault Refusal :=
  .next (effSyncAdd a ra rb s)

/-- A blocking operation's BLOCK_IN_RULED (R156, R168): DETAIL is the FN of the SECT that began the section. -/
def Core.blockErrs (c : Core) : List CoreError :=
  if c.ctl.st = .ruled then [CoreErrKind.blockInRuled.err c.ctl.sectFn] else []

/-- Enter BLOCKED with what is waited for (R171). -/
def State.block (s : State) (n : Nat) (b : BlockedOn) : State :=
  s.modCtl n (fun c => { c with st := .blocked, blockedOn := some b })

/-- Leave BLOCKED (R321, R325, R361): the next instruction issues d cycles later, in the free section. -/
def State.unblock (s : State) (n d : Nat) : State :=
  let t := max (s.core n).ctl.cyc ((s.part (s.partOf (kOf n))).stroke.count.toNat * 256)
  s.modCtl n (fun c => { c with st := .free, blockedOn := none, cyc := s.after n t d, skew := none })

/-- Whether core n waits BLOCKED and its partition counts cycles (R158, R171). -/
def State.waiting (s : State) (n : Nat) : Bool :=
  (s.core n).ctl.st == .blocked && !(s.part (s.partOf (kOf n))).paused

/-- SYNC_WAIT_GE (R356, R359, R361): goes on where the counter has reached the value at the end of cycle issue + 2, else
enters BLOCKED. -/
def effSyncWaitGe (a : Issue) (ra rb : BitVec 6) (s : State) : State :=
  let n := a.core.val
  let c := s.core n
  let id := c.regs.s ra.toNat
  s.issue a { reads := regs [ra, rb], vreads := [], unit := .scalar,
              errs := c.blockErrs ++ c.regs.blotErr (regs [ra, rb]) 2 ++ s.counterErrs n id } (fun t u =>
    let v := (u.core n).regs.s rb.toNat
    let u1 := u.advance n t 3
    match u.counterOf n id with
    | some x =>
      if reached (u.counterAt x (u.after n t 2)) v && !u.syncOwed n x then u1 else u1.block n (.waitGe x v)
    | none => u1)
/-- SYNC_WAIT_GE. -/
def execSyncWaitGe (a : Issue) (ra rb : BitVec 6) (s : State) : Host.Outcome State Fault Refusal :=
  .next (effSyncWaitGe a ra rb s)

/-- A core blocked in WAIT_GE resumes (R361): three cycles after the cycle in whose end the condition held, which is known where
a core of the counter's cluster changed it; otherwise after the present cycle. -/
def State.wakeGe (s : State) (n : Nat) (x : Counter) : State :=
  match s.changedAfter x 0 with
  | some c =>
    let next := (s.core n).ctl.cyc
    s.modCtl n (fun y => { y with st := .free, blockedOn := none, cyc := max next (s.after n c 3), skew := none })
  | none => s.unblock n 3

/-- WAIT_GE_WAKE (R361): a core blocked in WAIT_GE resumes once the counter has reached the value. -/
def effWaitGeWake (core : Fin 1536) (s : State) : State :=
  let n := core.val
  match (s.core n).ctl.blockedOn with
  | some (.waitGe x v) => if s.waiting n && reached (s.counter x) v && !s.syncOwed n x then s.wakeGe n x else s
  | _ => s
/-- WAIT_GE_WAKE. -/
def execWaitGeWake (core : Fin 1536) (s : State) : Host.Outcome State Fault Refusal := .next (effWaitGeWake core s)

/-- LANDWAIT (R618): waits as WAIT_GE does on the landing count of the window ra [5:0]; ADDRESS where the window is not
open for the core's context. -/
def effLandwait (a : Issue) (ra rb : BitVec 6) (s : State) : State :=
  let n := a.core.val
  let c := s.core n
  let w := (c.regs.s ra.toNat).toNat % 64
  let x := s.window w
  let mine := x.opened && decide (some (4 * x.part + x.ctx) = c.ctl.context)
  s.issue a { reads := regs [ra, rb], vreads := [], unit := .scalar,
              errs := c.blockErrs ++ c.regs.blotErr (regs [ra, rb]) 2 ++
                (if mine then [] else [CoreErrKind.address.err]) } (fun t u =>
    let v := (u.core n).regs.s rb.toNat
    let u1 := u.advance n t 3
    if reached (u.window w).landed v then u1 else u1.block n (.landwait w v))
/-- LANDWAIT. -/
def execLandwait (a : Issue) (ra rb : BitVec 6) (s : State) : Host.Outcome State Fault Refusal :=
  .next (effLandwait a ra rb s)

/-- LANDWAIT_WAKE (R618): a core blocked in LANDWAIT resumes once the count is reached. -/
def effLandwaitWake (core : Fin 1536) (s : State) : State :=
  let n := core.val
  match (s.core n).ctl.blockedOn with
  | some (.landwait w v) => if s.waiting n && reached (s.window w).landed v then s.unblock n 3 else s
  | _ => s
/-- LANDWAIT_WAKE. -/
def execLandwaitWake (core : Fin 1536) (s : State) : Host.Outcome State Fault Refusal := .next (effLandwaitWake core s)

/-- Whether core n waits on a counter (R362): blocked in WAIT_GE on it, or with a pending hold request that names it. -/
def CoreCtl.waitsOn (x : CoreCtl) (c : Counter) : Bool :=
  x.hold.any (fun h => h.counter == c) ||
    (match x.blockedOn with
     | some (.waitGe d _) => d == c && x.st == .blocked
     | _ => false)

/-- The clusters that have waiters on a counter, a bit for each (R362). -/
def State.waiterMask (s : State) (c : Counter) : BitVec 48 :=
  BitVec.ofNat 48 (s.cores.foldl (fun m e => if e.2.ctl.waitsOn c then m ||| 2 ^ kOf e.1 else m) 0)

/-- Take the oldest sync operation off the management network. -/
def takeSync (l : List NetMsg) : Option ((Counter × Bool × Word) × List NetMsg) :=
  match l with
  | [] => none
  | .syncOp _ c b v :: r => some ((c, b, v), r)
  | m :: r => (takeSync r).map (fun e => (e.1, m :: e.2))

/-- MGMT_SYNC_OP (R359, R360): the oldest sync operation on the management network reaches its counter. -/
def effMgmtSyncOp (s : State) : State :=
  match takeSync s.net with
  | some ((c, b, v), r) => ({ s with net := r } : State).syncApply c b v
  | none => s
/-- MGMT_SYNC_OP. -/
def execMgmtSyncOp (s : State) : Host.Outcome State Fault Refusal := .next (effMgmtSyncOp s)

end Sys2Proof.Machine
end

