-- ==== Sys2Proof/Machine/BulkOps.lean ====
section
/-!
DEFINITION. Bulk memory (08): address decoding, regions, page tables and the pool, slot commands, what a line access
finds, memory faults. Shared by the controllers, the host commands and the fabric.
-/
namespace Sys2Proof.Machine

/-! ### Addresses (R441, R442, R444) -/

/-- 1 GiB. -/
def gib : Nat := 0x40000000
/-- Size of a quarter range (R441): 360 GiB. -/
def quarterSize : Nat := 360 * gib
/-- Base of quarter range q. -/
def quarterBase (q : Nat) : Nat := q * quarterSize
/-- End of the bulk addresses (R47, R441). -/
def bulkEnd : Nat := 4 * quarterSize

/-- The controller that serves bulk address x (R442). -/
def State.mcAt (s : State) (x : Nat) : Nat :=
  let q := x / quarterSize
  if s.dev.mode = 0 then x / 256 % 16
  else if s.dev.mode = 1 then 8 * (q / 2) + (x - quarterBase (2 * (q / 2))) / 256 % 8
  else 4 * q + (x - quarterBase q) / 256 % 4

/-- The channel of its package that serves bulk address x (R442). -/
def State.chanAt (s : State) (x : Nat) : Nat :=
  let q := x / quarterSize
  if s.dev.mode = 0 then x / 4096 % 4
  else if s.dev.mode = 1 then (x - quarterBase (2 * (q / 2))) / 2048 % 4
  else (x - quarterBase q) / 1024 % 4

/-- The quarter ranges of the interleave set of partition p: those of its quarters (R442, R472). -/
def State.poolQuarters (s : State) (p : Nat) : List Nat := s.quartersOf p

/-- The partition whose slots include slot n (R472). -/
def State.slotPart (s : State) (n : Nat) : Nat := partOfQuarter s.dev.mode (n / 8)

/-- Base of the table of slot n (R475). -/
def tableBase (n : Nat) : Nat := quarterBase (n / 8) + 327 * gib + n % 8 * 0x400000
/-- Bytes of a table (R475). -/
def tableSize : Nat := 0x400000
/-- The reference count of pool page pn (R475). -/
def countAddr (pn : Nat) : Nat := quarterBase (pn / 262144) + 327 * gib + 0x10000000 + pn % 262144
/-- The address of pool page pn (R474). -/
def pageAddr (pn : Nat) : Nat := quarterBase (pn / 262144) + 344 * gib + pn % 262144 * 65536

/-- Image slot i of the checkpoint area of context c in quarter range q (R468). -/
def imageBase (q c i : Nat) : Nat := quarterBase q + 328 * gib + c * (4 * gib) + i * (2 * gib)

/-! ### Page tables and the pool (R474 to R478) -/

/-- Entry n of the table of a slot: the page, none where not MAPPED (R475). -/
def Store.entry (m : Store) (slot n : Nat) : Option Nat :=
  let w := (m.word (tableBase slot + 4 * n)).toNat
  if 2 ^ 31 ≤ w then some (w % 2 ^ 20) else none

/-- Write entry n of the table of a slot. -/
def Store.setEntry (m : Store) (slot n : Nat) (e : Option Nat) : Store :=
  m.write (tableBase slot + 4 * n) (toLe (match e with | some pn => 2 ^ 31 + pn | none => 0) 4) false

/-- The mapped entries of a slot from entry lo on, as entry numbers: those whose top byte the storage lists. -/
def Store.mapped (m : Store) (slot lo : Nat) : List Nat :=
  let b := tableBase slot
  (m.mem.filter (fun c => decide (b + 4 * lo ≤ c.1 ∧ c.1 < b + tableSize ∧ c.1 % 4 = 3 ∧ 128 ≤ c.2.toNat))).map
    (fun c => (c.1 - b) / 4)

/-- The reference count of a page. -/
def Store.pageCount (m : Store) (pn : Nat) : Nat := (m.byte (countAddr pn)).toNat

/-- Change the reference count of a page. -/
def Store.setCount (m : Store) (pn n : Nat) : Store := m.write (countAddr pn) [BitVec.ofNat 8 n] false

/-- Lower the count of a page; at 0 it becomes pending for the context that released it (R477). -/
def State.releasePage (s : State) (ctx pn : Nat) : State :=
  let n := s.store.pageCount pn - 1
  let s1 : State := { s with store := s.store.setCount pn n }
  if n = 0 then { s1 with bulk := { s1.bulk with pendPages := s1.bulk.pendPages.set pn ctx } } else s1

/-- Raise the count of a page. -/
def State.holdPage (s : State) (pn : Nat) : State :=
  { s with store := s.store.setCount pn (s.store.pageCount pn + 1) }

/-- Unmap the entries of a slot from entry lo on, releasing their pages (R483). -/
def State.unmapFrom (s : State) (ctx slot lo : Nat) : State :=
  (s.store.mapped slot lo).foldl (fun (t : State) n =>
    match t.store.entry slot n with
    | some pn => ({ t with store := t.store.setEntry slot n none } : State).releasePage ctx pn
    | none => t) s

/-- Whether a page can be allocated (R454, R476): count 0, not pending, not in a bad range. -/
def State.pageFree (s : State) (pn : Nat) : Bool :=
  decide (s.store.pageCount pn = 0) && !(s.bulk.pendPages.any (fun e => e.1 == pn)) &&
    !(s.bulk.bad.contains (pageAddr pn / 65536))

/-- The lowest-numbered free page from pn on, within n pages (R476). -/
def State.firstFree (s : State) (pn n : Nat) : Option Nat :=
  match n with
  | 0 => none
  | k + 1 => if s.pageFree pn then some pn else s.firstFree (pn + 1) k

/-- The page an allocation takes for a slot (R472, R476). -/
def State.allocPage (s : State) (slot : Nat) : Option Nat :=
  (s.poolQuarters (s.slotPart slot)).findSome? (fun q => s.firstFree (q * 262144) 262144)

/-- Zero and free the pending pages of a context (R477). -/
def State.freePending (s : State) (ctx : Nat) : State :=
  let mine := (s.bulk.pendPages.filter (fun e => e.2 == ctx)).map (fun e => e.1)
  let st := mine.foldl (fun (m : Store) pn => m.zeroRange (pageAddr pn) 65536) s.store
  { s with store := st, bulk := { s.bulk with pendPages := s.bulk.pendPages.filter (fun e => e.2 != ctx) } }

/-! ### What a line access finds (R449 to R454) -/

/-- A range is bad (R454): listed and appended to the moraine record, once. -/
def State.markBad (s : State) (addr cause : Nat) : State :=
  let r := addr / 65536
  if s.bulk.bad.contains r then s
  else
    (({ s with bulk := { s.bulk with bad := s.bulk.bad ++ [r] } } : State).moraineAppend 6
      [(16, 4, r), (20, 1, cause)]).scoreDrop 5

/-- MC_ERR fields (R492). -/
def mcErrFields (kind ctx slot : Nat) : Word := BitVec.ofNat 32 (kind * 2 ^ 26 + ctx * 2 ^ 24 + slot * 2 ^ 16)

/-- A slot is FAULTED where a read of its table is uncorrectable (R473). -/
def State.tableFault (s : State) (line : Nat) : State :=
  match (List.range 32).find? (fun n => decide (tableBase n ≤ line ∧ line < tableBase n + tableSize)) with
  | some n => if (s.slot n).open_ then s.modSlot n (fun x => { x with faulted := true }) else s
  | none => s

/-- An uncorrectable line (R450, R452, R473): both units blotted, counted, recorded with its kind, its range bad. -/
def State.mcUncorr (s : State) (m line kind : Nat) : State :=
  let s1 := s.modMc m (fun x =>
    { x with uncorr := satInc x.uncorr
             err := x.err.record (mcErrFields kind 0 0) (BitVec.ofNat 64 line) 0 })
  (({ s1 with store := (s1.store.blotUnit line).blotUnit (line + 32) } : State).markBad line 1).tableFault line

/-- The corrected errors that a range has produced in the scrub passes its controllers are in (R454): a range lies on
several controllers, each with a pass of its own (DESIGN CHOICE, log 111). -/
def State.passErrors (s : State) (r : Nat) : Nat :=
  (List.range 16).foldl (fun a m => a + (s.mcOf m).passCorr.get 0 r) 0

/-- A corrected line (R449, R454): counted, its range bad at 16 in one scrub pass. -/
def State.mcCorr (s : State) (m line : Nat) : State :=
  let r := line / 65536
  let s1 := (s.modMc m (fun x => { x with corr := satInc x.corr, passCorr := x.passCorr.set r (x.passCorr.get 0 r + 1) })
    ).modCorrected (s.partOf (mcCluster m)) (fun c => { c with bulk := c.bulk + 1 })
  if 16 ≤ s1.passErrors r then s1.markBad line 2 else s1

/-- What the read of a line finds (R449, R450, R452): the ECC of the line, the read link. -/
def State.mcFind (s : State) (m line : Nat) (ecc link : Ecc) : State :=
  let s1 := match link with
    | .ok => s
    | .corrected => s.modMc m (fun x => { x with readCorr := satInc x.readCorr })
    | .uncorrectable => s.mcUncorr m line 2
  match ecc with
  | .ok => s1
  | .corrected => s1.mcCorr m line
  | .uncorrectable => s1.mcUncorr m line 1

/-- What the reads of n bytes from an address find, by line: findings outside the range are not theirs. -/
def State.mcLines (s : State) (a n : Nat) (l : List LineFind) : State :=
  (l.filter (fun e => decide (a / 64 * 64 ≤ e.addr.toNat ∧ e.addr.toNat < a + n))).foldl (fun t e =>
    t.mcFind (t.mcAt e.addr.toNat) (e.addr.toNat / 64 * 64) e.ecc e.link) s

/-- A memory fault (R462): recorded in MC_ERR, the context killed with event 0x0002 at level 5. `ctx` is the CONTEXT
field of the request. -/
def State.memFault (s : State) (m kind ctx addr lcluster lcore slot : Nat) : State :=
  let k := mcCluster m
  let p := s.partOf k
  let sl := if 4 ≤ kind ∧ kind ≤ 6 then slot else 0
  let s1 := s.modMc m (fun x =>
    { x with err := x.err.record (mcErrFields kind ctx sl) (BitVec.ofNat 64 addr) 0 })
  s1.kill (4 * p + ctx) 5 (source 5 k 0 p (kind * 2 ^ 11 + m * 2 ^ 7))
    [(16, 8, addr), (24, 1, ctx), (25, 1, lcluster), (26, 1, lcore), (27, 1, slot)]

/-! ### Slot commands (R483 to R486) -/

/-- Bytes per position of a slot. -/
def Slot.bpp (x : Slot) : Nat := 2 ^ x.log2

/-- The first position beyond the tier (R483). -/
def Slot.tierPos (x : Slot) : Nat := x.tierPages * 65536 / x.bpp

/-- The first table entry that lies wholly at or beyond position p (R483): n * 64 KiB ≥ p * BPP. -/
def Slot.entryOf (x : Slot) (p : Nat) : Nat := (p * x.bpp + 65535) / 65536

/-- Why a slot command cannot take effect (R462, R484): the state of a slot it names as open, a value out of range, or
another requirement of R483. -/
inductive SlotRefusal where
  | state | range | rule
  deriving DecidableEq, Repr

/-- A slot that a command of context c may name as open (R473, R483). -/
def State.slotOpen (s : State) (n c : Nat) : Bool :=
  decide (n < 32) && (s.slot n).open_ && !(s.slot n).faulted && decide ((s.slot n).ctx = c)

/-- Whether slot n is closed and belongs to the partition of context c (R483). -/
def State.slotClosed (s : State) (n c : Nat) : Bool :=
  decide (n < 32) && !(s.slot n).open_ && decide (s.slotPart n = ctxPart c)

/-- A slot command of context c reads the table of a slot it names as open: what it finds, by offset in the table, and what
the read links find (R449, R450, R452, R473). -/
def State.readTable (s : State) (c slot : Nat) (l : List (BitVec 22 × Ecc)) (lines : List LineFind) : State :=
  if s.slotOpen slot c then
    (l.foldl (fun t e =>
      let a := (tableBase slot + e.1.toNat) / 64 * 64
      t.mcFind (t.mcAt a) a e.2 .ok) s).mcLines (tableBase slot) tableSize lines
  else s

/-- A command has taken effect on a slot (R498). -/
def State.slotDone (s : State) (n : Nat) : State :=
  s.modSlot n (fun x => { x with commands := satInc x.commands, busy := false })

/-- Every page a slot's table names is held once more (R483). -/
def State.holdTable (s : State) (slot : Nat) : State :=
  (s.store.mapped slot 0).foldl (fun t e =>
    match s.store.entry slot e with
    | some pn => t.holdPage pn
    | none => t) s

/-- FORK (R483): the child takes the parent's entries below p, and their counts rise; SQ_CNT of the child is cleared as it opens
(R498; log 136). -/
def State.forkSlot (s : State) (c parent child p : Nat) : SlotRefusal ⊕ State :=
  let x := s.slot parent
  if !s.slotOpen parent c then .inl .state
  else if !s.slotClosed child c then .inl .rule
  else if x.pos < p ∨ (0 < x.tierPages ∧ p < x.tierPos) then .inl .range
  else
    let n := x.entryOf p
    let m := s.store.copyRange (tableBase parent) (tableBase child) (4 * n / 32 * 32)
    let m1 := (List.range (n % 8)).foldl (fun (m : Store) i =>
      m.setEntry child (n / 8 * 8 + i) (m.entry parent (n / 8 * 8 + i))) m
    let s1 : State := { s with store := m1 }
    .inr (((s1.holdTable child).modSlot child (fun _ =>
      { x with pos := p, copies := 0, commands := 0, busy := false, faulted := false })).slotDone parent)

/-- Whether a slot shares its tier with another open slot (R483). -/
def State.sharesTier (s : State) (n : Nat) : Bool :=
  let x := s.slot n
  decide (0 < x.tierPages) && (List.range 32).any (fun m =>
    let y := s.slot m
    decide (m ≠ n) && y.open_ && decide (y.ctx = x.ctx ∧ y.tierCluster = x.tierCluster ∧ y.tierBase = x.tierBase ∧
      y.tierPages = x.tierPages))

/-- REWIND (R483). -/
def State.rewindSlot (s : State) (c n p : Nat) : SlotRefusal ⊕ State :=
  let x := s.slot n
  if !s.slotOpen n c then .inl .state
  else if x.pos < p ∨ (s.sharesTier n ∧ p < x.tierPos) then .inl .range
  else .inr (((s.unmapFrom c n (x.entryOf p)).modSlot n (fun y => { y with pos := p })).slotDone n)

/-- A slot closes (R483): SQ_CNT stays until it opens again, and counts the command (R498). -/
def Slot.close (x : Slot) : Slot := { Slot.reset with copies := x.copies, commands := satInc x.commands }

/-- ACCEPT (R483): the parent's entries are released; the parent takes the child's table and position; the child
closes. -/
def State.acceptSlot (s : State) (c parent child : Nat) : SlotRefusal ⊕ State :=
  let x := s.slot parent
  let y := s.slot child
  if !s.slotOpen parent c || !s.slotOpen child c then .inl .state
  else if parent = child ∨ x.log2 ≠ y.log2 ∨ x.tierPages ≠ y.tierPages ∨
      (x.tierPages ≠ 0 ∧ (x.tierBase ≠ y.tierBase ∨ x.tierCluster ≠ y.tierCluster)) then .inl .rule
  else
    let s1 := s.unmapFrom c parent 0
    let m := (s1.store.copyRange (tableBase child) (tableBase parent) tableSize).zeroRange (tableBase child) tableSize
    .inr (((({ s1 with store := m } : State).modSlot parent (fun z => { z with pos := y.pos })).modSlot child
      Slot.close).slotDone parent)

/-- CLOSE (R483): every entry is released. -/
def State.closeSlot (s : State) (n : Nat) : State :=
  let c := (s.slot n).ctx
  (s.unmapFrom c n 0).modSlot n Slot.close

/-- The slots of a context. -/
def State.slotsOf (s : State) (c : Nat) : List Nat :=
  (List.range 32).filter (fun n => (s.slot n).open_ && decide ((s.slot n).ctx = c))

end Sys2Proof.Machine
end

