-- ==== Sys2Proof/Machine/Combine.lean ====
section
/-!
DEFINITION. Combining queues (06 R342 to R353; 10 R623): a contribution summed into its round, the release of a round,
faults. The queues of the clusters and the device-level queues share every operation.
-/
namespace Sys2Proof.Machine

/-- The combining block that holds a queue. -/
def State.cqOf (s : State) (q : CombiningQueue) : Combining :=
  match q with
  | .cluster k _ => (s.cluster k).cq
  | .device _ => s.fabric.dcq

/-- Update the combining block that holds a queue. -/
def State.modCq (s : State) (q : CombiningQueue) (f : Combining → Combining) : State :=
  match q with
  | .cluster k _ => s.modCluster k (fun c => { c with cq := f c.cq })
  | .device _ => { s with fabric := { s.fabric with dcq := f s.fabric.dcq } }

/-- The index of a queue in its block. -/
def cqIdx : CombiningQueue → Nat
  | .cluster _ n => n.toNat
  | .device n => n.toNat

/-- The configuration of a queue (R379). -/
structure CqCfg where
  mode : Nat
  inFmt : Nat
  outFmt : Nat
  pieces : Nat
  count : Nat
  anchor : Int
  base : Nat
  core : Nat
  queue : Nat
  lcluster : Nat
  deriving DecidableEq, Repr

/-- The fields of CL_CQ_CFGAn and CL_CQ_CFGBn (R379, R647). -/
def cqCfg (a b : Word) : CqCfg :=
  { mode := a.toNat / 2 ^ 30, inFmt := a.toNat / 2 ^ 26 % 16, outFmt := a.toNat / 2 ^ 22 % 16,
    pieces := a.toNat / 2 ^ 19 % 8 + 1, count := a.toNat % 2 ^ 16, anchor := (b.extractLsb' 22 10).toInt,
    base := b.toNat / 2 ^ 14 % 256, core := b.toNat / 2 ^ 9 % 32, queue := b.toNat / 2 ^ 6 % 8,
    lcluster := b.toNat % 64 }

/-- The configuration of queue n of a block. -/
def Combining.cfg (c : Combining) (n : Nat) : CqCfg := cqCfg (c.cfgA.get 0 n) (c.cfgB.get 0 n)

/-- The piece in progress of a queue. -/
def Combining.piece (c : Combining) (n p : Nat) : CqPiece := c.pieces.get CqPiece.empty (8 * n + p)

/-- Whether an element format has 16-bit elements (R343, R144). -/
def cqNarrow (fmt : Nat) : Bool := decide (fmt = 8)

/-- Elements of a piece (R343). -/
def cqElems (fmt : Nat) : Nat := if cqNarrow fmt then 8 else 4

/-- The bits of element e of a payload, a BF16 element widened to FP32 (R102, R343). -/
def cqBits (fmt : Nat) (payload : BitVec 128) (e : Nat) : Word :=
  if cqNarrow fmt then (payload.extractLsb' (16 * e) 16).setWidth 32 <<< 16 else payload.extractLsb' (32 * e) 32

/-- The value of an element (R346, R347). -/
def cqValue (fmt : Nat) (w : Word) : FpVal :=
  if fmt = 10 then .fin (decide (w.toInt < 0)) w.toInt.natAbs 0 else laneVal w

/-- The anchor of a queue (R346): 126 for INT32 inputs. -/
def CqCfg.anchorOf (c : CqCfg) : Int := if c.inFmt = 10 then 126 else c.anchor

/-- An element with nothing summed. -/
def CqElem.empty : CqElem := { acc := .clear, sum := 0, started := false }

/-- Add one element of a contribution (R346, R347). -/
def CqElem.contribute (e : CqElem) (c : CqCfg) (w : Word) : CqElem :=
  if c.mode = 1 then { e with acc := e.acc.add c.anchorOf (cqValue c.inFmt w) }
  else if e.started then
    { e with sum := BitVec.ofNat 32 (fp32.result ((laneVal e.sum).add (laneVal w))).bits }
  else { e with sum := w, started := true }

/-- A piece after a contribution (R345). -/
def CqPiece.contribute (p : CqPiece) (c : CqCfg) (t : Token) : CqPiece :=
  let pay := fun (e : Nat) => if cqNarrow c.inFmt then cqBits c.inFmt (t.payload &&&
      BitVec.ofNat 128 (2 ^ (32 * (t.words.toNat + 1)) - 1)) e else t.word e
  let el := if t.void then p.elems
    else (List.range (cqElems c.inFmt)).foldl (fun (m : Tbl CqElem) e =>
      m.set e ((m.get CqElem.empty e).contribute c (pay e))) p.elems
  { arrivals := p.arrivals + 1, elems := el, allVoid := p.allVoid && t.void, blot := p.blot || t.blot }

/-- Whether the bits of a released element are infinite or NaN (R380); an INT32 is neither. -/
def notFinite (fmt bits : Nat) : Bool :=
  if fmt = 10 then false
  else
    match laneVal (BitVec.ofNat 32 (if cqNarrow fmt then bits * 65536 else bits)) with
    | .fin _ _ _ => false
    | _ => true

/-- The element a release gives with its flags (R350, R380): bits, special, overflow, inexact. -/
def CqElem.release (e : CqElem) (c : CqCfg) : Nat × Bool × Bool × Bool :=
  if c.mode = 1 then
    match drainFmt c.outFmt with
    | some d =>
      let r := e.acc.drain c.anchorOf d
      (r.bits, decide (e.acc.special ≠ .none) || notFinite c.outFmt r.bits, e.acc.overflow || e.acc.s.2 || r.ovf, e.acc.inexact)
    | none => (0, false, false, false)
  else
    let v := laneVal e.sum
    let bits := if cqNarrow c.outFmt then (bf16.result v).bits else e.sum.toNat
    (bits, notFinite c.outFmt bits, false, false)

/-- The result of piece p of a round (R349, R350), with `after` giving the cycles that follow its completion; its epochs are
set when it is released. PASS and COUNT, for which R350 gives no value, are 0 (DESIGN CHOICE, log 123). -/
def CqPiece.result (x : CqPiece) (c : CqCfg) (p : Nat) (after : Nat → Nat) : CqResult :=
  let es := (List.range (cqElems c.inFmt)).map (fun e => (x.elems.get CqElem.empty e).release c)
  let w := if cqNarrow c.outFmt then 16 else 32
  let pay := es.foldr (fun e acc => e.1 + 2 ^ w * acc) 0
  { piece := p, cycle := after (4 + p),
    tok := { pass := 0, count := 0, repoch := 0, cepoch := 0, ordinal := BitVec.ofNat 8 (c.base + p), words := 3,
             last := decide (p + 1 = c.pieces), void := x.allVoid,
             payload := if x.allVoid then 0 else BitVec.ofNat 128 pay, blot := x.blot },
    special := !x.allVoid && es.any (fun e => e.2.1),
    overflow := !x.allVoid && es.any (fun e => e.2.2.1),
    inexact := !x.allVoid && es.any (fun e => e.2.2.2) }

/-- The context that runs on cluster k: that of its first core with a context. -/
def State.ctxOfCluster (s : State) (k : Nat) : Option Nat :=
  (coresOf k).findSome? (fun n => (s.core n).ctl.context)

/-- The context a queue belongs to. -/
def State.cqOwner (s : State) (q : CombiningQueue) : Option Nat :=
  match q with
  | .cluster k _ => s.ctxOfCluster k
  | .device n =>
    match (s.fabric.dcq.owner.find? (fun e => e.1 == n.toNat)) with
    | some e => some e.2
    | none => none

/-- The fields of CL_CQ_ERR (R381) or FB_DCQ_ERR (R648). -/
def cqErrFields (q : CombiningQueue) (kind piece ctx : Nat) : Word :=
  match q with
  | .cluster _ n => BitVec.ofNat 32 (kind * 2 ^ 27 + n.toNat * 2 ^ 23 + piece * 2 ^ 20)
  | .device n =>
    BitVec.ofNat 32 (kind * 2 ^ 27 + n.toNat * 2 ^ 21 + piece * 2 ^ 18 + ctxPart ctx * 2 ^ 16 + ctxNo ctx * 2 ^ 14)

/-- SOURCE of a combining fault (R353, R623, R642). -/
def cqSource (q : CombiningQueue) (kind piece : Nat) : Nat :=
  match q with
  | .cluster k n => source 2 k 0 0 (kind * 2 ^ 12 + n.toNat * 2 ^ 8 + piece * 2 ^ 5)
  | .device n => source 4 0 0 0 (kind * 2 ^ 12 + n.toNat * 2 ^ 6 + piece * 2 ^ 3)

/-- A combining fault (R353, R623): recorded, the context killed with event 0x0002. -/
def State.cqFault (s : State) (q : CombiningQueue) (kind piece : Nat) : State :=
  let o := s.cqOwner q
  let s1 := s.modCq q (fun c => { c with err := c.err.record (cqErrFields q kind piece (o.getD 0)) 0 0 })
  match o with
  | some c => s1.kill c (match q with | .cluster _ _ => 2 | .device _ => 4) (cqSource q kind piece) []
  | none => s1

/-- Whether a round is complete (R349): every piece has reached COUNT. -/
def Combining.roundDone (c : Combining) (n : Nat) : Bool :=
  (List.range (c.cfg n).pieces).all (fun p => decide ((c.cfg n).count ≤ (c.piece n p).arrivals))

/-- The pieces of a queue cleared (R349, R352). -/
def Combining.clearRound (c : Combining) (n : Nat) : Combining :=
  { c with pieces := c.pieces.filter (fun e => decide (e.1 / 8 ≠ n)) }

/-- A round completes and releases (R349, R350, R380): its results, with the epochs given, wait for their cycles of
writing, its sums and counts are cleared. -/
def Combining.releaseRound (c : Combining) (n : Nat) (after : Nat → Nat) (cepoch repoch : Byte) : Combining :=
  let g := c.cfg n
  let rs := (List.range g.pieces).map (fun p =>
    let r := (c.piece n p).result g p after
    { r with tok := { r.tok with cepoch := cepoch, repoch := repoch } })
  let old := c.flags.get 0 n
  let anch := decide (g.mode = 1)
  let fl : BitVec 4 := (if rs.any (fun r => r.special) then 8 else 0) ||| (if rs.any (fun r => r.tok.blot) then 4 else 0) |||
    (if anch && rs.any (fun r => r.overflow) then 2 else 0) ||| (if anch && rs.any (fun r => r.inexact) then 1 else 0)
  { c.clearRound n with
    results := c.results.set n (c.results.get [] n ++ rs)
    releases := c.releases.set n (satInc (c.releases.get 0 n))
    flags := c.flags.set n (old ||| fl) }

/-- Add to the timing-dependent choice counter of a context (R327, R351). -/
def State.countChoice (s : State) (c : Nat) : State := s.modRun c (fun r => { r with tdc := satInc r.tdc })

/-- The physical cluster of a logical cluster of a running context, by the map its cores hold (R161). -/
def State.ctxCluster (s : State) (c lc : Nat) : Option Nat :=
  match s.coresOfCtx c with
  | n :: _ => (s.core n).physCluster lc
  | [] => none

/-- The core a queue releases to (R379, R647). -/
def State.cqDest (s : State) (q : CombiningQueue) : Option Nat :=
  let g := (s.cqOf q).cfg (cqIdx q)
  match q with
  | .cluster k _ => s.physCore k g.core
  | .device _ =>
    match s.cqOwner q with
    | some c => (s.ctxCluster c g.lcluster).bind (fun k => s.physCore k g.core)
    | none => none

/-- The epochs of a result token (R350): the partition's, and the role epoch of the destination core. -/
def State.cqEpochs (s : State) (q : CombiningQueue) : Byte × Byte :=
  match s.cqDest q with
  | some d => (s.epochOf (kOf d), (s.core d).steer.roleEpoch)
  | none => (match q with | .cluster k _ => s.epochOf k | .device _ => 0, 0)

/-- Put a contribution in its place among those of its cycle (R348). -/
def contribInto (rank : Nat) (t : Token) (l : List (Nat × Token)) : List (Nat × Token) :=
  match l with
  | [] => [(rank, t)]
  | e :: r => if e.1 ≤ rank then e :: contribInto rank t r else (rank, t) :: e :: r

/-- The piece that a contribution names (R343). -/
def pieceOf (t : Token) : Nat := t.ordinal.toNat % 8

/-- The pieces of queue n after the contributions of a cycle, in their order (R345, R348). -/
def sumAll (g : CqCfg) (n : Nat) (l : List (Nat × Token)) (pieces : Tbl CqPiece) : Tbl CqPiece :=
  l.foldl (fun m e =>
    let i := 8 * n + pieceOf e.2
    m.set i ((m.get CqPiece.empty i).contribute g e.2)) pieces

/-- The contributions that queue n has had in a cycle. -/
def Combining.cycleOf (c : Combining) (n cycle : Nat) : CqCycle :=
  let old := c.cycles.get CqCycle.none n
  if old.cycle = cycle then old else { cycle := cycle, before := c.pieces, came := [], done := false }

/-- Queue n takes a contribution in a cycle, at a place of the order of arrival (R345, R348). -/
def Combining.take (c : Combining) (n cycle rank : Nat) (t : Token) : Combining :=
  let y := c.cycleOf n cycle
  let l := contribInto rank t y.came
  { c with pieces := sumAll (c.cfg n) n l y.before, cycles := c.cycles.set n { y with came := l } }

/-- The fault that a contribution of a cycle meets (R349, R353): 0 for none. A piece that has reached COUNT takes nothing more
in the cycle in which its round completes. -/
def Combining.faultOf (c : Combining) (n cycle : Nat) (t : Token) : Nat :=
  let g := c.cfg n
  let y := c.cycleOf n cycle
  if g.mode = 0 then 1
  else if g.pieces ≤ pieceOf t then 2
  else if y.done ∨ g.count ≤ (c.piece n (pieceOf t)).arrivals then 3
  else 0

/-- The cluster that a queue releases to, its own where none is mapped. -/
def State.cqHome (s : State) (q : CombiningQueue) : Nat :=
  match s.cqDest q with
  | some d => kOf d
  | none => (match q with | .cluster k _ => k | .device _ => 0)

/-- A queue takes a contribution (R345 to R349): the round that it completes in its cycle is released. -/
def State.cqTake (s : State) (q : CombiningQueue) (cycle rank : Nat) (t : Token) : State :=
  let n := (cqIdx q)
  let s1 := s.modCq q (fun c => c.take n cycle rank t)
  if (s1.cqOf q).roundDone n then
    let s2 := s1.modCq q (fun c =>
      { c.releaseRound n (s.after (32 * s.cqHome q) cycle) (s1.cqEpochs q).1 (s1.cqEpochs q).2 with
        cycles := c.cycles.set n { (c.cycleOf n cycle) with done := true } })
    if ((s.cqOf q).cfg n).mode = 2 then
      match s2.cqOwner q with
      | some x => s2.countChoice x
      | none => s2
    else s2
  else s1

/-- Whether a contribution is discarded for its epoch (R284, R623). -/
def State.cqStale (s : State) (q : CombiningQueue) (t : Token) : Bool :=
  match q with
  | .cluster k _ => decide (t.cepoch ≠ s.epochOf k)
  | .device _ => false

/-- A contribution reaches a queue in a cycle, at a place of the order of arrival (R284, R345 to R353). -/
def State.contribute (s : State) (q : CombiningQueue) (cycle rank : Nat) (t : Token) : State :=
  if s.cqStale q t then
    match q with
    | .cluster k _ => s.countStaleCfg (s.partOf k)
    | .device _ => s
  else
    match (s.cqOf q).faultOf (cqIdx q) cycle t with
    | 0 => s.cqTake q cycle rank t
    | kind => s.cqFault q kind (pieceOf t)

/-- The cycle of a contribution that the management network or the fabric brings (R348; DESIGN CHOICE, log 124): that of the
queue's last contribution, behind it, or the first of the stroke in progress; one more where a round completed in it. -/
def State.cqNow (s : State) (q : CombiningQueue) : Nat :=
  let y := (s.cqOf q).cycles.get CqCycle.none (cqIdx q)
  let now := (s.part (s.partOf (s.cqHome q))).stroke.count.toNat * 256
  if now ≤ y.cycle then (if y.done then y.cycle + 1 else y.cycle) else now

/-- A result piece is written into inbound queue i of core d in its cycle (R284, R296, R315, R330, R349, R353). A full queue
raises DEST_FULL and not RULED_OVERFLOW, also where it is ruled (R316; DESIGN CHOICE, log 125). -/
def State.putResult (s : State) (q : CombiningQueue) (d i : Nat) (r : CqResult) : State :=
  let x := (s.core d).qs
  match s.epochTest d r.tok with
  | .pass =>
    if x.isClosed i then s.countRecvDrop d
    else if 16 ≤ (x.queue i).length then s.cqFault q 4 r.piece
    else s.enqueue d i r.cycle 20 r.tok
  | e => s.dropStale d e

/-- COMBINING_RELEASE (R349, R350): the next result piece of a queue is written into its destination inbound queue; nothing
where no result waits, its core is not mapped, the partition pauses, or its cycle lies in a later stroke. -/
def effCombiningRelease (q : CombiningQueue) (s : State) : State :=
  let n := (cqIdx q)
  let c := s.cqOf q
  match c.results.get [] n, s.cqDest q with
  | r :: rest, some d =>
    if (s.part (s.partOf (kOf d))).paused || !s.cycleDue d r.cycle then s
    else
      let s1 := s.modCq q (fun c => { c with results := c.results.set n rest })
      s1.putResult q d (c.cfg n).queue r
  | _, _ => s
/-- COMBINING_RELEASE. -/
def execCombiningRelease (q : CombiningQueue) (s : State) : Host.Outcome State Fault Refusal :=
  .next (effCombiningRelease q s)

end Sys2Proof.Machine
end

