-- ==== Sys2Proof/Machine/FabricOps.lean ====
section
/-!
DEFINITION. Messages of the fabric unit (10 R586, R605 to R628): the fields of a flit, routing, adds, receipts, write
messages that arrive and that originate here.
-/
namespace Sys2Proof.Machine

/-! ### Header fields (R586) -/

/-- WINDOW of a write. -/
def flitWindow (f : FabricFlit) : Nat := f.low.toNat / 2 ^ 74 % 64
/-- Payload units of a write. -/
def flitUnits (f : FabricFlit) : Nat := f.low.toNat / 2 ^ 70 % 16 + 1
/-- Whether unit u of a write is blotted. -/
def flitBlot (f : FabricFlit) (u : Nat) : Bool := f.low.getLsbD (55 + u)
/-- Window offset of a write in bytes. -/
def flitOffset (f : FabricFlit) : Nat := f.low.toNat / 2 ^ 26 % 2 ^ 29 * 32
/-- TRACK. -/
def flitTrack (f : FabricFlit) : Nat := f.low.toNat % 2 ^ 26
/-- COUNTER of an add. -/
def flitCounter (f : FabricFlit) : Nat :=
  f.low.toNat / 2 ^ 74 % 64 * 64 + f.low.toNat / 2 ^ 70 % 16 * 4 + f.low.toNat / 2 ^ 55 % 4
/-- Payload unit u. -/
def flitUnit (f : FabricFlit) (u : Nat) : BitVec 256 := f.data.getD u 0

/-- HOPS of a message that originates here (R606, R646). -/
def State.maxHops (s : State) : BitVec 6 := if s.fabric.cfg.maxHops = 0 then 1 else s.fabric.cfg.maxHops

/-- A flit that originates here (R606). -/
def State.newFlit (s : State) (kind : BitVec 4) (dst : Half) (low : Nat) (data : List (BitVec 256)) : FabricFlit :=
  { kind := kind, dst := dst, src := s.dev.fbId, hops := s.maxHops, vl := false, low := BitVec.ofNat 80 low,
    data := data }

/-! ### Routing (R605, R606) -/

/-- Where a flit goes (R606). -/
inductive Fate where
  | self
  | out (port : Nat) (dateline : Bool)
  | noRoute
  | noPort
  deriving DecidableEq, Repr

/-- Whether routing may use a port (R606): ACTIVE, and not the lock-step port of a paired device (R750). -/
def State.routable (s : State) (p : Nat) : Bool :=
  decide ((s.port p).st = .active) && !(decide (s.quill.ls.state = 2) && decide (s.quill.ls.port.toNat = p))

/-- The fate of a flit for a destination (R605, R606). An ID of 0xFFFF is none, so nothing is addressed to it. -/
def State.fate (s : State) (dst : Half) : Fate :=
  if dst = s.dev.fbId ∧ dst.toNat < 4096 then .self
  else
    let e := s.fabric.routes.get 0 dst.toNat
    if 4096 ≤ dst.toNat ∨ e.getLsbD 31 = false then .noRoute
    else
      let p := e.toNat / 2 ^ 26 % 16
      let a := e.toNat / 2 ^ 22 % 16
      if s.routable p then .out p (e.getLsbD 21)
      else if e.getLsbD 30 ∧ s.routable a then .out a (e.getLsbD 21)
      else .noPort

/-- A flit leaves by a port, or waits there for a credit (R588, R589, R606). -/
def State.transmit (s : State) (p : Nat) (dateline : Bool) (f : FabricFlit) : State :=
  s.sendFlit p (if dateline then { f with vl := true } else f)

/-- Count a dropped flit in FB_FWD_DROP (R646). -/
def State.dropNoRoute (s : State) : State := s.modFabCnt (fun c => { c with noRoute := satInc c.noRoute })
/-- Count a flit dropped for want of a port, or of a reserved KIND (R587). -/
def State.dropOther (s : State) : State := s.modFabCnt (fun c => { c with other := satInc c.other })

/-! ### Adds (R620, R621) -/

/-- An add reaches its device-level counter (R360, R621). -/
def State.addDevice (s : State) (i : Nat) (v : Word) : State :=
  if 4096 ≤ i then s.dropNoRoute else s.syncApply (.device i) false v

/-- Send an add message (R586, R606, R620). -/
def State.sendAdd (s : State) (dst : Half) (i : Nat) (v : Word) : State :=
  let f := s.newFlit 2 dst (i / 64 % 64 * 2 ^ 74 + i / 4 % 16 * 2 ^ 70 + i % 4 * 2 ^ 55) [v.setWidth 256]
  match s.fate dst with
  | .self => s.addDevice i v
  | .out p d => s.transmit p d f
  | .noRoute => s.dropNoRoute
  | .noPort => s.dropOther

/-- Remote writes of a core that have no receipt yet (R620): emitted and not accepted by a port, or tracked. -/
def State.openWrites (s : State) (n : Nat) : List Nat :=
  (s.core n).te.farWrites.map (fun e => e.1) ++ s.fabric.tracked.filterMap (fun t =>
    match t.origin with
    | .te c id => if c = n then some id else none
    | _ => none)

/-- The RADDs of a core that wait on a write no longer wait on it; those that wait on none are sent (R620). -/
def State.releaseAdds (s : State) (n id : Nat) : State :=
  let upd := s.fabric.adds.map (fun a => if a.core = n then { a with waits := a.waits.filter (fun w => w != id) } else a)
  let ready := upd.filter (fun a => a.waits.isEmpty)
  let s1 : State := { s with fabric := { s.fabric with adds := upd.filter (fun a => !a.waits.isEmpty) } }
  ready.foldl (fun t a => t.sendAdd (BitVec.ofNat 16 a.device) a.counter a.value) s1

/-! ### Receipts (R613, R622, R626 to R628) -/

/-- A ring descriptor is done once every write has its receipt (R626): DONE_REMOTE, DONE_LOCAL, the head advances. A ring
that is disabled meanwhile completes nothing. -/
def State.ringDone (s : State) (r : Nat) : State :=
  match (s.ring r).work with
  | some w =>
    if w.waits.isEmpty && (s.ring r).enable then
      let s1 := s.modRing r (fun x => { x with work := none, head := x.head + 1 })
      let s2 := if w.flags.getLsbD 0 then s1.sendAdd (BitVec.ofNat 16 w.device) w.doneRemote 1 else s1
      if w.flags.getLsbD 1 then s2.addDevice w.doneLocal 1 else s2
    else s
  | none => s

/-- Count a drop that this device's window check made, or a receipt reported to a ring (R613, R627). -/
def State.countWinDrop (s : State) : State := s.modFabCnt (fun c => { c with winDrop := satInc c.winDrop })

/-- What a receipt does for one that waited for its message (R622, R626, R628). -/
def State.receiptFor (s : State) (t : Tracked) (dropped : Bool) : State :=
  match t.origin with
  | .te n id => s.releaseAdds n id
  | .ring r =>
    (s.modRing r (fun x => { x with work := x.work.map (fun w =>
      { w with waits := w.waits.filter (fun y => y != t.track) }) })).ringDone r
  | .mirror j => if dropped then s.finish j .aborted 0 else s

/-- A receipt arrives for a tracked message, which may carry several writes of one core (R609, R622); one that reports a drop is
counted at the sender (R627). One for a message that is not tracked is ignored. -/
def State.receipt (s : State) (track : Nat) (dropped : Bool) : State :=
  let mine := s.fabric.tracked.filter (fun t => t.track == track)
  if mine.isEmpty then s
  else
    let s1 : State := { s with fabric := { s.fabric with tracked := s.fabric.tracked.filter (fun x => x.track != track) } }
    mine.foldl (fun t x => t.receiptFor x dropped) (if dropped then s1.countWinDrop else s1)

/-- Send a receipt for one message (R586, R613). -/
def State.sendReceipt (s : State) (dst : Half) (track : Nat) (dropped : Bool) : State :=
  let v := track % 2 ^ 26 + (if dropped then 2 ^ 31 else 0)
  match s.fate dst with
  | .self => s.receipt track dropped
  | .out p d => s.transmit p d (s.newFlit 3 dst 0 [BitVec.ofNat 256 v])
  | .noRoute => s.dropNoRoute
  | .noPort => s.dropOther

/-! ### Write messages that arrive (R613 to R618) -/

/-- Why a write message is dropped (R613, R642): 1 not open, 2 wrong source, 3 out of range, 4 closed. -/
def State.windowRefuses (s : State) (f : FabricFlit) : Option Nat :=
  let w := s.window (flitWindow f)
  if !w.opened then some (if w.closed then 4 else 1)
  else if f.src ≠ w.peer then some 2
  else if w.length < flitOffset f + 32 * flitUnits f then some 3
  else none

/-- The header of a landing (R411). -/
def landHeader (src window count off : Nat) : Flit :=
  { data := BitVec.ofNat 256 (src * 2 ^ 176 + window * 2 ^ 170 + 2 ^ 169 + (count - 1) * 2 ^ 160 + off % 2 ^ 27),
    blot := false }

/-- The units of a write as data flits. -/
def writeFlits (f : FabricFlit) : List Flit :=
  (List.range (flitUnits f)).map (fun u => { data := flitUnit f u, blot := flitBlot f u })

/-- The landings of a write into an inkwell (R411, R614): at most eight units each. -/
def landingsOf (f : FabricFlit) (base : Nat) : List Flit :=
  let fs := writeFlits f
  let at0 := base + flitOffset f
  let lo := fs.take 8
  let hi := fs.drop 8
  (landHeader f.src.toNat (flitWindow f) lo.length at0 :: lo) ++
    (if hi.isEmpty then [] else landHeader f.src.toNat (flitWindow f) hi.length (at0 + 256) :: hi)

/-- Units the landing buffer of a port can hold (R614): 1 MiB. -/
def landCapacity : Nat := 0x100000 / 32

/-- Whether the landing buffer of a write's window has room (R614). -/
def State.landRoom (s : State) (f : FabricFlit) : Bool :=
  let w := s.window (flitWindow f)
  let p := s.port w.entryPort
  decide (w.target ≠ 0) || decide (p.landUnits + flitUnits f ≤ landCapacity)

/-- Count units landed in a window (R618). -/
def State.landed (s : State) (w n : Nat) : State :=
  s.modWindow w (fun x => { x with landed := x.landed + BitVec.ofNat 32 n })

/-- A unit of a combining write is applied to its queue (R616), and counted in the window's landing count if it is no fault
(R353, R618). -/
def State.contributeUnit (s : State) (window : Nat) (queue : BitVec 6) (t : Token) : State :=
  let q := CombiningQueue.device queue
  let x := s.cqNow q
  let s1 := s.contribute q x 4 t
  if (s.cqOf q).faultOf (cqIdx q) x t = 0 then s1.landed window 1 else s1

/-- A write message is accepted by its target (R614 to R616) and its receipt sent; a bulk write's receipt waits until its
units are complete. -/
def State.acceptWrite (s : State) (f : FabricFlit) : State :=
  let n := flitWindow f
  let w := s.window n
  if w.target = 0 then
    let s1 := s.modPort w.entryPort (fun p =>
      { p with landings := p.landings.set w.entrySlice (p.landings.get [] w.entrySlice ++ landingsOf f w.base)
               landUnits := p.landUnits + flitUnits f })
    s1.sendReceipt f.src (flitTrack f) false
  else if w.target = 1 then
    let id := s.fabric.nextTrack
    let base := (s.ctx (4 * w.part + w.ctx)).run.bulkBase * 65536 + w.base + flitOffset f
    let s1 : State := { s with fabric := { s.fabric with
      nextTrack := id + 1
      bulkIn := s.fabric.bulkIn.set id
        { window := n, src := f.src, track := BitVec.ofNat 26 (flitTrack f), left := flitUnits f } } }
    (List.range (flitUnits f)).foldl (fun t u =>
      t.modMc (t.mcAt (base + 32 * u)) (fun m =>
        { m with spine := m.spine ++ [{ addr := base + 32 * u, unit := flitUnit f u, blot := flitBlot f u,
                                        message := id }] })) s1
  else
    let s1 := (writeFlits f).foldl (fun t x => t.contributeUnit n (BitVec.ofNat 6 w.queue) x.token) s
    s1.sendReceipt f.src (flitTrack f) false

/-- A write message is dropped with its receipt, or accepted (R613). -/
def State.decideWrite (s : State) (f : FabricFlit) : State :=
  match s.windowRefuses f with
  | some cause =>
    let s1 := (s.countWinDrop).modFabCnt (fun c =>
      { c with dropFirst := c.dropFirst <|> some (f.src, flitWindow f, cause) })
    s1.sendReceipt f.src (flitTrack f) true
  | none => s.acceptWrite f

/-- Whether a write waits for its landing buffer (R614): the buffer is full, or others wait before it. -/
def State.landHeld (s : State) (f : FabricFlit) : Bool :=
  let w := s.window (flitWindow f)
  (s.windowRefuses f).isNone && decide (w.target = 0) && (!s.landRoom f || !(s.port w.entryPort).held.isEmpty)

/-- A write message that came by port `via` (16: it originates here) is dropped or accepted (R613), and its credit returned. -/
def State.dealWrite (s : State) (via : Nat) (f : FabricFlit) : State :=
  if via < 16 then (s.decideWrite f).oweCredit via f else s.decideWrite f

/-- A write message for this device: it is dealt with, or held, and no credit returned, while its landing buffer is full
(R614). -/
def State.writeArrives (s : State) (via : Nat) (f : FabricFlit) : State :=
  if s.landHeld f then
    s.modPort (s.window (flitWindow f)).entryPort (fun p => { p with held := p.held ++ [(via, f)] })
  else s.dealWrite via f

/-- The writes that a landing buffer holds up are dealt with as far as it has room (R614). -/
def State.acceptHeld (fuel : Nat) (s : State) (p : Nat) : State :=
  match fuel with
  | 0 => s
  | k + 1 =>
    match (s.port p).held with
    | [] => s
    | (via, f) :: r =>
      if (s.windowRefuses f).isNone && !s.landRoom f then s
      else State.acceptHeld k ((s.modPort p (fun x => { x with held := r })).dealWrite via f) p

/-- One unit of a bulk window write is complete (R615, R618); the receipt follows the last. -/
def State.bulkUnitDone (s : State) (message : Nat) : State :=
  match s.fabric.bulkIn.find? (fun e => e.1 == message) with
  | none => s
  | some (_, b) =>
    let s1 := s.landed b.window 1
    if b.left ≤ 1 then
      ({ s1 with fabric := { s1.fabric with bulkIn := s1.fabric.bulkIn.filter (fun e => e.1 != message) } } : State
        ).sendReceipt b.src b.track.toNat false
    else { s1 with fabric := { s1.fabric with bulkIn := s1.fabric.bulkIn.set message { b with left := b.left - 1 } } }

/-! ### Write messages that originate here (R606, R622) -/

/-- Whether two writes come from one core. -/
def sameCore (a b : Origin) : Bool :=
  match a, b with
  | .te n _, .te m _ => n == m
  | _, _ => false

/-- The blot bits of a write's units as a number (R586). -/
def blotBits (units : List Flit) : Nat :=
  (List.range units.length).foldl (fun a u => if ((units.map (fun x => x.blot)).getD u false) then a + 2 ^ u else a) 0

/-- Whether a write of n units joins a message that waits at a port (R609): from the same core, to the same window, right behind
it, with at most 15 units in all. -/
def State.joins (s : State) (g : FabricFlit) (dst : Half) (window off n : Nat) (o : Origin) : Bool :=
  decide (g.kind = 1 ∧ g.dst = dst ∧ g.src = s.dev.fbId ∧ flitWindow g = window % 64 ∧
    flitOffset g + 32 * flitUnits g = off ∧ flitUnits g + n ≤ 15) &&
    s.fabric.tracked.any (fun t => decide (t.track = flitTrack g) && sameCore t.origin o)

/-- A waiting message with the units of another write behind its own. -/
def packUnits (g : FabricFlit) (units : List Flit) : FabricFlit :=
  { g with low := BitVec.ofNat 80 (g.low.toNat + units.length * 2 ^ 70 + blotBits units * 2 ^ (55 + flitUnits g))
           data := g.data ++ units.map (fun u => u.data) }

/-- The last message that waits at a port, where a write joins it (R609). -/
def State.packed (s : State) (p : Nat) (dst : Half) (window off : Nat) (units : List Flit) (o : Origin) : Option FabricFlit :=
  ((s.port p).link.wait.getLast?).filter (fun g => s.joins g dst window off units.length o)

/-- A write joins the last message that waits at a port; the message's receipt answers for both (R609, R622). -/
def State.packWrite (s : State) (p : Nat) (g : FabricFlit) (units : List Flit) (o : Origin) : State :=
  let s1 : State := { s with fabric := { s.fabric with
    tracked := s.fabric.tracked ++ [{ track := flitTrack g, port := p, origin := o }] } }
  s1.modLink p (fun l => { l with wait := l.wait.dropLast ++ [packUnits g units] })

/-- Send a new write message and track it (R586, R606, R622). TRACK numbers begin at 1. -/
def State.sendNew (s : State) (dst : Half) (window off : Nat) (units : List Flit) (o : Origin) : State :=
  let track := s.fabric.nextTrack % (2 ^ 26 - 1) + 1
  let f := s.newFlit 1 dst (window % 64 * 2 ^ 74 + (units.length - 1) * 2 ^ 70 + blotBits units * 2 ^ 55 +
    off / 32 % 2 ^ 29 * 2 ^ 26 + track) (units.map (fun u => u.data))
  let ft := s.fate dst
  let port := match ft with
    | .out p _ => p
    | _ => 0
  let s1 : State := { s with fabric := { s.fabric with
    nextTrack := s.fabric.nextTrack + 1
    tracked := s.fabric.tracked ++ [{ track := track, port := port, origin := o }] } }
  match ft with
  | .self => s1.writeArrives 16 f
  | .out p d => s1.transmit p d f
  | .noRoute => s1.dropNoRoute
  | .noPort => s1.dropOther

/-- Send a write message (R606, R609, R622): it joins the message that waits before it where it may. -/
def State.sendWrite (s : State) (dst : Half) (window off : Nat) (units : List Flit) (o : Origin) : State :=
  match s.fate dst with
  | .out p _ =>
    match s.packed p dst window off units o with
    | some g => s.packWrite p g units o
    | none => s.sendNew dst window off units o
  | _ => s.sendNew dst window off units o

/-- The TRACK number that the next write message takes. -/
def State.nextTrackNo (s : State) : Nat := s.fabric.nextTrack % (2 ^ 26 - 1) + 1

/-- SYNC_RADD (R356, R357, R620): an add to a peer's device-level counter, held until every remote write that the core's
TE emitted before has its receipt; more than 16 held raise RULED_OVERFLOW with DETAIL 32. -/
def effSyncRadd (a : Issue) (ra rb : BitVec 6) (s : State) : State :=
  let n := a.core.val
  let r := (s.core n).regs
  let id := r.s ra.toNat
  let held := (s.fabric.adds.filter (fun x => decide (x.core = n))).length
  let waits := s.openWrites n
  s.issue a { reads := regs [ra, rb], vreads := [], unit := .scalar,
              errs := r.blotErr (regs [ra, rb]) 2 ++
                (if id.toNat / 2 ^ 30 = 3 then [] else [counterErr id]) ++
                (if !waits.isEmpty && decide (16 ≤ held) then [CoreErrKind.ruledOverflow.err 32] else []) } (fun t u =>
    let v := (u.core n).regs.s rb.toNat
    let dst := BitVec.ofNat 16 (id.toNat / 2 ^ 14)
    let i := id.toNat % 4096
    let u1 := if waits.isEmpty then u.sendAdd dst i v
      else { u with fabric := { u.fabric with
        adds := u.fabric.adds ++ [{ core := n, device := dst.toNat, counter := i, value := v, waits := waits }] } }
    u1.advance n t 1)
/-- SYNC_RADD. -/
def execSyncRadd (a : Issue) (ra rb : BitVec 6) (s : State) : Host.Outcome State Fault Refusal :=
  .next (effSyncRadd a ra rb s)

end Sys2Proof.Machine
end

