-- ==== Sys2Proof/Machine/Message.lean ====
section
/-!
DEFINITION. SEND, RECV, SELECT, QSTAT and what completes them (03 R142, R156, R157; 05 R259 to R263; 06 R312 to R334,
R370 to R372): tokens from and to the registers, waiting, credits and closure notices.
-/
namespace Sys2Proof.Machine

/-- The payload of a SEND (R142, R259 to R261): registers ra to ra + n, a word beyond s63 zero and unblotted. -/
def CoreRegs.payload (r : CoreRegs) (ra n : Nat) : BitVec 128 × Bool :=
  let rs := (List.range (n + 1)).filter (fun i => decide (ra + i < 64))
  (BitVec.ofNat 128 (rs.foldl (fun a i => a + (r.s (ra + i)).toNat * 2 ^ (32 * i)) 0), rs.any (fun i => r.sb (ra + i)))

/-- The token of a SEND (R257 to R263), its epochs not yet filled in. -/
def CoreRegs.sendToken (r : CoreRegs) (ra rb n : Nat) : Token :=
  let w := r.s rb
  let void := w.getLsbD 3
  let p := r.payload ra n
  { pass := w.extractLsb' 24 8, count := w.extractLsb' 16 8, repoch := 0, cepoch := 0, ordinal := w.extractLsb' 8 8,
    words := BitVec.ofNat 2 n, last := w.getLsbD 4, void := void,
    payload := if void then 0 else p.1, blot := !void && p.2 }

/-- The registers a SEND reads: rb, and the payload unless the TCW says VOID (R260). -/
def CoreRegs.sendReads (r : CoreRegs) (ra rb n : Nat) : List Nat :=
  rb :: (if (r.s rb).getLsbD 3 then [] else ((List.range (n + 1)).map (fun i => ra + i)).filter (fun x => decide (x < 64)))

/-- The token of a SEND of cycle t on a free channel (R263, R321, R323, R331): discarded where the channel's queue has closed;
else it takes its credit and leaves two cycles later. -/
def State.startSend (s : State) (n ch t : Nat) (tok : Token) : State :=
  let c := (s.core n).qs
  if c.noticed ch then s.countOrphan n ch
  else
    let s1 := if fdestKind (c.fdest.get 0 ch) then s
      else s.modQs n (fun q => { q with credit := q.credit.set ch (q.credit.get 0 ch - 1) })
    s1.addDue n (s.after n t 2) 16 (.leave ch tok)

/-- SEND (R318 to R323): on a ruled channel the token enters in cycle issue + 2 (`State.sendEnter`); on a free channel it leaves
in that cycle, behind the steering outputs that take credits by then (R277), or the core enters BLOCKED without a credit. -/
def effSend (a : Issue) (ra rb : BitVec 6) (n : BitVec 2) (s : State) : State :=
  let m := a.core.val
  let c := s.core m
  let r := c.regs
  let ch := (r.s rb.toNat).toNat % 8
  let free := c.qs.isFree ch
  s.issue a { reads := r.sendReads ra.toNat rb.toNat n.toNat, vreads := [], unit := .scalar,
              errs := if free then c.blockErrs else [] }
    (fun t u =>
      let tok := (u.core m).regs.sendToken ra.toNat rb.toNat n.toNat
      let u1 := u.advance m t 1
      if !free then u1.addDue m (u.after m t 2) 16 (.send ch tok (u.core m).ctl.pc)
      else
        let u2 := u1.coreRun m (min (t + 2) (t / 256 * 256 + 255))
        if !u2.runsOn m then u2
        else if (u2.core m).qs.canSend ch then u2.startSend m ch t tok
        else u2.block m (.send ch tok))
/-- SEND. -/
def execSend (a : Issue) (ra rb : BitVec 6) (n : BitVec 2) (s : State) : Host.Outcome State Fault Refusal :=
  .next (effSend a ra rb n s)

/-- Whether a credit that returns now frees a slot of a free queue for its producer (R322). -/
def State.returnCredit (s : State) (n q : Nat) : State :=
  if ((s.core n).qs.mode q = 2) then s.toProducer n q (fun c ch => .credit c ch (s.epochOf (kOf n))) else s

/-- RECV takes the oldest entry (R261, R262, R314, R322): payload into ra to ra + N, words beyond s63 discarded, the TCW
into rb; a free queue returns a credit. -/
def State.take (s : State) (n t ra rb q cnt : Nat) : State :=
  match (s.core n).qs.queue q with
  | [] => s
  | tok :: rest =>
    let s1 := s.modQs n (fun c => { c with inq := c.inq.set q rest })
    let put (u : State) (i : Nat) : State := if ra + i < 64 then u.putS n t 2 (ra + i) (tok.word i) tok.blot else u
    let s2 := (List.range (cnt + 1)).foldl put s1
    (s2.putS n t 2 rb (tok.tcw q) false).returnCredit n q

/-- A RECV finds its queue empty in its removal cycle in a ruled section (R157): RULED_EMPTY in that cycle, with the index of the
RECV. -/
def State.recvEmpty (s : State) (n q t : Nat) (pc : BitVec 12) : State :=
  (s.coreRun n t).coreErrorIn n t { CoreErrKind.ruledEmpty.err q with pc := some pc }

/-- RECV (R156, R157, R313, R314, R324): takes the oldest entry that is visible in cycle issue + 1, waits in a free section where
there is none, and raises RULED_EMPTY in that cycle, or BLOCK_IN_RULED, in a ruled one. -/
def effRecv (a : Issue) (ra rb : BitVec 6) (q : BitVec 3) (n : BitVec 2) (s : State) : State :=
  let m := a.core.val
  let c := s.core m
  let isFree := decide (c.qs.mode q.toNat = 2)
  s.issue a { reads := [], vreads := [], unit := .scalar, errs := if isFree then c.blockErrs else [] } (fun t u =>
      let u1 := u.advance m t 1
      if !((u.core m).qs.visible q.toNat t).isEmpty then u1.take m t ra.toNat rb.toNat q.toNat n.toNat
      else if (u.core m).ctl.st = .ruled then u1.recvEmpty m q.toNat (u.after m t 1) (u.core m).ctl.pc
      else u1.block m (.recv q.toNat ra.toNat rb.toNat n.toNat))
/-- RECV. -/
def execRecv (a : Issue) (ra rb : BitVec 6) (q : BitVec 3) (n : BitVec 2) (s : State) :
    Host.Outcome State Fault Refusal := .next (effRecv a ra rb q n s)

/-- Whether something due is an output to inbound queue q of its core. -/
def DueKind.toQueue (q : Nat) : DueKind → Bool
  | .out _ m w _ => decide (steerBind w m = (true, q))
  | _ => false

/-- The outputs of steering units of core n that reach one of some inbound queues before its oldest entry was delivered, or the
first of them where the queues are empty, have reached it (R277). -/
def State.fillQueues (s : State) (n : Nat) (qs : List Nat) : State :=
  match qs.flatMap (fun q => ((s.core n).qs.queue q).map (fun t => t.sent)) with
  | [] => s.tickFor n (fun w => qs.any (fun q => w.toQueue q))
  | d :: r => s.coreRun n (r.foldl min d)

/-- Core n, which was BLOCKED, goes on: its next instruction issues in a cycle. -/
def State.resumeAt (s : State) (n cyc : Nat) : State :=
  s.modCtl n (fun c => { c with st := .free, blockedOn := none, cyc := cyc, skew := none })

/-- RECV_WAKE (R313, R324): a core that waits in RECV finds a visible entry: one delivered in cycle d is removed in the first
cycle from d + 1 on that is a removal cycle of the RECV. -/
def effRecvWake (core : Fin 1536) (s : State) : State :=
  let n := core.val
  match (s.core n).ctl.blockedOn with
  | some (.recv q ra rb cnt) =>
    let s0 := if s.waiting n then s.fillQueues n [q] else s
    match (s0.core n).qs.queue q with
    | tok :: _ =>
      if s0.waiting n && s0.cycleDue n tok.sent then
        let t := max ((s0.core n).ctl.cyc - 1) tok.sent
        (s0.resumeAt n (s0.after n t 1)).take n t ra rb q cnt
      else s0
    | [] => s0
  | _ => s
/-- RECV_WAKE. -/
def execRecvWake (core : Fin 1536) (s : State) : Host.Outcome State Fault Refusal := .next (effRecvWake core s)

/-- SELECT (R156, R325): waits for its selection. -/
def effSelect (a : Issue) (ra rb : BitVec 6) (s : State) : State :=
  let m := a.core.val
  let c := s.core m
  s.issue a { reads := regs [rb], vreads := [], unit := .scalar, errs := c.blockErrs } (fun t u =>
    (u.advance m t 1).block m (.select ra.toNat (((u.core m).regs.s rb.toNat).setWidth 8)))
/-- SELECT. -/
def execSelect (a : Issue) (ra rb : BitVec 6) (s : State) : Host.Outcome State Fault Refusal :=
  .next (effSelect a ra rb s)

/-- The eligible queues of a SELECT (R325). -/
def eligible (mask : Byte) : List Nat := (List.range 8).filter (fun q => decide (mask = 0) || mask.getLsbD q)

/-- The eligible queues of a SELECT that are ready in a selection cycle `x` (R313, R325). -/
def CoreQueues.readySet (c : CoreQueues) (mask : Byte) (x : Nat) : List Nat :=
  (eligible mask).filter (fun q => !(c.visible q (x - 1)).isEmpty)

/-- The cycle in which a SELECT that was issued before cycle `x` makes its selection (R313, R325): the first from `x` on in which an
eligible queue is ready; none while all are empty. -/
def CoreQueues.selectCycle (c : CoreQueues) (mask : Byte) (x : Nat) : Option Nat :=
  match (eligible mask).flatMap (fun q => ((c.queue q).map (fun t => t.sent)).take 1) with
  | [] => none
  | d :: r => some (max x (r.foldl min d + 1))

/-- The queue a SELECT selects in a cycle (R326): the lowest, or under ROTATE the first after LAST_SEL. -/
def CoreQueues.selects (c : CoreQueues) (mask : Byte) (x : Nat) : Option Nat :=
  let l := c.readySet mask x
  if c.rotate then
    match l.filter (fun q => decide (c.lastSel.toNat < q)) with
    | q :: _ => some q
    | [] => l.head?
  else l.head?

/-- The selection of a SELECT in cycle t (R325 to R327): it is written to ra; under ROTATE it sets LAST_SEL and, with two or
more queues ready, counts a timing-dependent choice. -/
def State.selectIn (s : State) (n ra : Nat) (mask : Byte) (t : Nat) : State :=
  let c := s.core n
  match c.qs.selects mask t with
  | some q =>
    let s1 := (s.resumeAt n (s.after n t 2)).putS n t 1 ra (BitVec.ofNat 32 q) false
    if c.qs.rotate then
      let s2 := s1.modQs n (fun x => { x with lastSel := BitVec.ofNat 3 q })
      match c.ctl.context with
      | some x => if 2 ≤ (c.qs.readySet mask t).length then s2.modRun x (fun r => { r with tdc := satInc r.tdc }) else s2
      | none => s2
    else s1
  | none => s

/-- SELECT_SELECTION (R313, R325 to R327): a core that waits in SELECT makes its selection once an eligible queue is ready. -/
def effSelectSelection (core : Fin 1536) (s : State) : State :=
  let n := core.val
  match (s.core n).ctl.blockedOn with
  | some (.select ra mask) =>
    let s0 := if s.waiting n then s.fillQueues n (eligible mask) else s
    match (s0.core n).qs.selectCycle mask (s0.core n).ctl.cyc with
    | some t => if s0.waiting n && s0.cycleDue n t then s0.selectIn n ra mask t else s0
    | none => s0
  | _ => s
/-- SELECT_SELECTION. -/
def execSelectSelection (core : Fin 1536) (s : State) : Host.Outcome State Fault Refusal :=
  .next (effSelectSelection core s)

/-- CO_QSTATn (R370), with the entries delivered by cycle t. -/
def CoreQueues.qstat (c : CoreQueues) (q t : Nat) : Word :=
  let l := c.visible q t
  let h := l.head?
  BitVec.ofNat 32 ((if c.isClosed q then 2 ^ 31 else 0) + c.mode q * 2 ^ 29 +
    (if (h.map (fun t => t.void)).getD false then 2 ^ 28 else 0) +
    (if (h.map (fun t => t.last)).getD false then 2 ^ 27 else 0) +
    (if (h.map (fun t => t.blot)).getD false then 2 ^ 26 else 0) + l.length * 2 ^ 21 +
    (h.map (fun t => t.ordinal.toNat)).getD 0)

/-- CO_ECHANn (R371). LEVEL of a free channel whose FDEST names a combining queue, which has no credits (R320, R323), is 0
(DESIGN CHOICE, log 122). -/
def CoreQueues.echanWord (c : CoreQueues) (n : Nat) : Word :=
  let level := if c.isFree n then (if fdestKind (c.fdest.get 0 n) then 0 else c.credit.get 0 n) else (c.chan n).length
  BitVec.ofNat 32 ((if c.closed.get false n then 2 ^ 31 else 0) + (if c.isFree n then 2 ^ 30 else 0) + level * 2 ^ 25 +
    (c.orphans.get 0 n).toNat)

/-- A byte with bit i as f says. -/
def bits8 (f : Nat → Bool) : Nat := (List.range 8).foldl (fun a i => if f i then a + 2 ^ i else a) 0

/-- CO_QSUM (R372), with the entries delivered by cycle t. -/
def CoreQueues.qsum (c : CoreQueues) (t : Nat) : Word :=
  BitVec.ofNat 32 (bits8 c.isClosed * 2 ^ 16 + bits8 (fun q => decide (c.mode q = 2)) * 2 ^ 8 +
    bits8 (fun q => !(c.visible q t).isEmpty))

/-- QSTAT (R313, R328, R334): a status word into ra, sampled in cycle issue + 1 as the cycles before it left it; FN 1 with
OFFSET [0] clears CLOSED and ORPHANS after sampling. -/
def effQstat (a : Issue) (ra : BitVec 6) (q : BitVec 3) (fn : BitVec 3) (off : BitVec 6) (s : State) : State :=
  let m := a.core.val
  s.issue a { reads := [], vreads := [], unit := .scalar,
              errs := if 2 < fn.toNat then [CoreErrKind.illegalInstr.err] else [] } (fun t u =>
    let i := q.toNat
    let u0 := if fn = 1 then u.takeChan m false i t else u
    let c := (u0.core m).qs
    let w := if fn = 0 then c.qstat i t else if fn = 1 then c.echanWord i else c.qsum t
    let u1 := if fn = 1 ∧ off.getLsbD 0 then
        u0.modQs m (fun x => { x with closed := x.closed.set i false, orphans := x.orphans.set i 0 }) else u0
    (u1.putS m t 2 ra.toNat w false).advance m t 1)
/-- QSTAT. -/
def execQstat (a : Issue) (ra : BitVec 6) (q : BitVec 3) (fn : BitVec 3) (off : BitVec 6) (s : State) :
    Host.Outcome State Fault Refusal := .next (effQstat a ra q fn off s)

/-! ### Messages of the management network -/

/-- Take the oldest message of the network for which a test holds. -/
def takeMsg (f : NetMsg → Bool) (l : List NetMsg) : Option (NetMsg × List NetMsg) :=
  match l with
  | [] => none
  | m :: r => if f m then some (m, r) else (takeMsg f r).map (fun e => (e.1, m :: e.2))

/-- A blocked SEND on a channel goes on (R321, R331): the token leaves. -/
def State.resumeSend (s : State) (n ch : Nat) : State :=
  match (s.core n).ctl.blockedOn with
  | some (.send c tok) =>
    if c = ch ∧ s.waiting n ∧ (s.core n).qs.canSend ch then (s.unblock n 2).leaveFree n ch tok else s
  | _ => s

/-- The blocked SENDs of partition p that can go on now that it counts cycles again (R321, R331). -/
def State.resumeSends (s : State) (p : Nat) : State :=
  (s.coresOfPart p).foldl (fun t n =>
    match (t.core n).ctl.blockedOn with
    | some (.send ch _) => t.resumeSend n ch
    | _ => t) s

/-- CREDIT_RETURN (R320 to R322): the oldest credit for a channel arrives; one of another epoch is ignored; a SEND blocked
on the channel takes it. -/
def effCreditReturn (core : Fin 1536) (chan : BitVec 3) (s : State) : State :=
  let n := core.val
  let ch := chan.toNat
  match takeMsg (fun m => match m with | .credit c h _ => c == n && h == ch | _ => false) s.net with
  | some (.credit _ _ e, r) =>
    let s1 : State := { s with net := r }
    if e = s1.epochOf (kOf n) then
      (s1.modQs n (fun c => { c with credit := c.credit.set ch (min 16 (c.credit.get 0 ch + 1)) })).resumeSend n ch
    else s1
  | _ => s
/-- CREDIT_RETURN. -/
def execCreditReturn (core : Fin 1536) (chan : BitVec 3) (s : State) : Host.Outcome State Fault Refusal :=
  .next (effCreditReturn core chan s)

/-- CLOSURE_NOTICE (R331): the notice for a channel arrives; a SEND blocked on it completes as discarded. -/
def effClosureNotice (core : Fin 1536) (chan : BitVec 3) (s : State) : State :=
  let n := core.val
  let ch := chan.toNat
  match takeMsg (fun m => match m with | .notice c h => c == n && h == ch | _ => false) s.net with
  | some (_, r) =>
    (({ s with net := r } : State).modQs n (fun c => { c with notice := c.notice.set ch true })).resumeSend n ch
  | none => s
/-- CLOSURE_NOTICE. -/
def execClosureNotice (core : Fin 1536) (chan : BitVec 3) (s : State) : Host.Outcome State Fault Refusal :=
  .next (effClosureNotice core chan s)

/-- Whether something due sends a token on free channel ch of its core. -/
def DueKind.onFree (ch : Nat) : DueKind → Bool
  | .leave c _ => decide (c = ch)
  | .out _ m w _ => decide (steerBind w m = (false, ch))
  | _ => false

/-- The first token due on a free channel of core n has left, where none is on its way. -/
def State.sendDue (s : State) (n ch : Nat) : State :=
  if (s.core n).qs.isFree ch && !s.net.any (fun m => match m with | .freeTok c h _ _ => c == n && h == ch | _ => false) &&
      !(s.part (s.partOf (kOf n))).paused then
    s.tickFor n (fun w => w.onFree ch)
  else s

/-- FREE_TOKEN_ARRIVAL (R284, R296, R315, R319, R330, R878): the oldest free token of a channel reaches the inbound queue its
FDEST names, in the cycle to which the destination's core has come; nothing while the destination's partition pauses. -/
def effFreeTokenArrival (core : Fin 1536) (chan : BitVec 3) (s0 : State) : State :=
  let n := core.val
  let ch := chan.toNat
  let s := s0.sendDue n ch
  match takeMsg (fun m => match m with | .freeTok c h fd _ => c == n && h == ch && !fdestKind fd | _ => false) s.net with
  | some (.freeTok _ _ fd tok, r) =>
    if (s.part (s.partOf (kOf n))).paused then s
    else
      let s1 : State := { s with net := r }
      match ((s.core n).physCluster (fdestCluster fd)).bind (fun k => s.physCore k (fdestCore fd)) with
      | some d => s1.deliver d (fdestIndex fd % 8) (s1.coreNow d) 21 tok false
      | none => s1
  | _ => s
/-- FREE_TOKEN_ARRIVAL. -/
def execFreeTokenArrival (core : Fin 1536) (chan : BitVec 3) (s : State) : Host.Outcome State Fault Refusal :=
  .next (effFreeTokenArrival core chan s)

end Sys2Proof.Machine
end

