-- ==== Sys2Proof/Machine/Steering.lean ====
section
/-!
DEFINITION. Steering units (05 R267 to R281): complete sets, what a fire writes, STEER and STEER_FIRE.
-/
namespace Sys2Proof.Machine

/-- STEER (R164, R269, R270): writes a control entry in cycle issue + 2. -/
def effSteer (a : Issue) (ra : BitVec 6) (unit : BitVec 2) (s : State) : State :=
  let n := a.core.val
  let u := unit.toNat
  s.issue a { reads := regs [ra], vreads := [], unit := .scalar,
              errs := (s.core n).regs.blotErr (regs [ra]) 1 } (fun t w =>
    let v := (w.core n).regs.s ra.toNat
    (w.advance n t 1).addDue n (w.after n t 2) 16 (.ctl u (controlToken (v.extractLsb' 8 8) (v.setWidth 8))))
/-- STEER. -/
def execSteer (a : Issue) (ra : BitVec 6) (unit : BitVec 2) (s : State) : Host.Outcome State Fault Refusal :=
  .next (effSteer a ra unit s)

/-- A void output (R280). -/
def voidOut (ord : Byte) (last : Bool) (pass : Nat) : Token :=
  { pass := BitVec.ofNat 8 pass, count := 0, repoch := 0, cepoch := 0, ordinal := ord, words := 0, last := last,
    void := true, payload := 0, blot := false }

/-- What a fire gives (R278): the outputs by number, additions to NONE_SEL and MERGE_DROP, CLAMP. -/
structure Fired where
  outs : List (Nat × Token)
  noneSel : Nat
  mergeDrop : Nat
  clamp : Bool
  deriving DecidableEq, Repr

/-- Outputs of a SWITCH (R278): `sel` is the output that receives the data token. -/
def fireSwitch (w : Word) (d : Token) (sel : Option Nat) : Fired :=
  let enabled := (List.range 4).filter (steerOut w)
  let s := sel.filter (fun m => steerOut w m)
  { outs := enabled.map (fun m => (m, if s = some m ∧ d.void = false then d else voidOut d.ordinal d.last 0)),
    noneSel := if s.isNone && !d.void then 1 else 0, mergeDrop := 0, clamp := false }

/-- Output of a MERGE (R278, R280): `sel` is the data input selected. -/
def fireMerge (data : List (Nat × Token)) (sel : Option Nat) (ord : Byte) : Fired :=
  let pick := sel.bind (fun i => (data.find? (fun e => e.1 == i)).map (fun e => e.2))
  let first := (data.head?.map (fun e => e.2.last)).getD false
  let dropped := (data.filter (fun e => !e.2.void && (pick.isNone || decide (some e.1 ≠ sel)))).length
  { outs := [(0, match pick with
      | some t => if t.void then voidOut ord t.last 0 else t
      | none => voidOut ord first 0)], noneSel := 0, mergeDrop := dropped,
    clamp := false }

/-- Outputs of a LOOP entry set (R278, R279). -/
def fireEntry (p : Nat) (ctl d : Token) : Fired :=
  let v := voidOut d.ordinal d.last
  if ctl.void then
    { outs := [(0, v 0), (1, v 0)], noneSel := if d.void then 0 else 1, mergeDrop := 0, clamp := false }
  else
    let value := ctl.payload.toNat % 256
    let n := min value p
    let c := decide (p < value)
    if d.void then { outs := [(0, v 0), (1, v 0)], noneSel := 0, mergeDrop := 0, clamp := c }
    else if 1 ≤ n then
      { outs := [(0, { d with pass := BitVec.ofNat 8 p, count := BitVec.ofNat 8 n }), (1, v 0)], noneSel := 0,
        mergeDrop := 0, clamp := c }
    else { outs := [(0, v p), (1, { d with count := 0 })], noneSel := 0, mergeDrop := 0, clamp := c }

/-- Outputs of a LOOP back edge (R278): PASS 0 is taken as 1. -/
def fireBack (d : Token) : Fired :=
  let p := d.pass.toNat
  let c := d.count.toNat
  let v := voidOut d.ordinal d.last
  let outs : List (Nat × Token) :=
    if 1 < p then
      if d.void then [(0, v (p - 1)), (1, v 0)]
      else if 1 < c then [(0, { d with pass := BitVec.ofNat 8 (p - 1), count := BitVec.ofNat 8 (c - 1) }), (1, v 0)]
      else [(0, v (p - 1)), (1, { d with count := 0 })]
    else [(1, if d.void then v 0 else { d with count := 0 })]
  { outs := outs, noneSel := 0, mergeDrop := 0, clamp := false }

/-- The input that a merge's control names (R268). -/
def mergeSelects (mode value : Nat) : Option Nat :=
  let v := value % 4
  if v = 0 then some 1 else if v = 1 then some 2 else if v = 2 ∧ mode = 3 then some 3 else none

/-- What the fire of a set gives (R278); `tok i` is the set's entry on input i. -/
def fireResult (w : Word) (backEdge : Bool) (ord : Byte) (tok : Nat → Token) : Fired :=
  let mode := steerMode w
  let ctl := tok 0
  let value := ctl.payload.toNat % 256
  if backEdge then fireBack (tok 2)
  else if mode = 4 then fireEntry (steerPass w) ctl (tok 1)
  else if mode = 1 then fireSwitch w (tok 1) (if ctl.void ∨ 4 ≤ value % 8 then none else some (value % 8))
  else fireMerge ((steerData mode).map (fun i => (i, tok i))) (if ctl.void then none else mergeSelects mode value) ord

/-- Whether the steering units of a core work: a context runs on it and it is not frozen. -/
def Core.steers (c : Core) : Bool := c.ctl.context.isSome && c.ctl.st != .frozen && c.ctl.st != .off && c.ctl.st != .idle

/-- Whether a complete set fires before another of its unit (R274): by the cycle in which it completed, then by the input
whose write completed it. -/
def ReadySet.before (a b : ReadySet) : Bool :=
  decide (a.cycle < b.cycle) || (decide (a.cycle = b.cycle) && decide (a.input < b.input))

/-- Take the complete set of a unit that fires next off the list (R274). -/
def takeReady (u : Nat) (l : List ReadySet) : Option (ReadySet × List ReadySet) :=
  match l with
  | [] => none
  | r :: rest =>
    match takeReady u rest with
    | none => if r.unit = u then some (r, rest) else none
    | some (x, left) => if r.unit = u ∧ !x.before r then some (r, rest) else some (x, r :: left)

/-- A token that no set holds. -/
def noToken : Token := voidOut 0 false 0

/-- The cycle in which a complete set of unit u fires (R274). -/
def State.fireCycle (s : State) (n u : Nat) (r : ReadySet) : Nat :=
  max (s.after n r.cycle 1) ((s.core n).steer.fireFrom.get 0 u)

/-- What is due before unit u of core n fires its next set has happened: the control entries of earlier cycles; a fire frees
its entries before a write of its own cycle (DESIGN CHOICE, log 117). -/
def State.fireTick (s : State) (n u : Nat) : State :=
  match takeReady u (s.core n).steer.ready with
  | some (r, _) => s.coreTick n (s.fireCycle n u r - 1)
  | none => s.tickFor n (fun w => match w with | .ctl v _ => decide (v = u) | _ => false)

/-- STEER_FIRE (R271, R274 to R281): the complete set of the unit that is next fires, in the first cycle that R274 allows, and
its outputs enter their channels and queues two cycles later; nothing where there is none, its cycle has not come or the
partition pauses. -/
def effSteerFire (core : Fin 1536) (unit : BitVec 2) (par : Bool) (s0 : State) : State :=
  let n := core.val
  let u := unit.toNat
  if !(s0.core n).steers || (s0.part (s0.partOf (kOf n))).paused then s0
  else
    let s := s0.fireTick n u
    let c := s.core n
    match (if c.steers then takeReady u c.steer.ready else none) with
    | none => s
    | some (r, rest) =>
      let f := s.fireCycle n u r
      if !s.cycleDue n f then s
      else if par then s.engineError n .pairParity u
      else
        let w := s.steerCfg n u
        let mem := setMembers (steerMode w) r.input
        let tok (i : Nat) : Token := ((c.steer.pair u i).find? (fun t => t.ordinal == r.ordinal)).getD noToken
        let s1 := s.modSteer n (fun x =>
          { x with ready := rest, fireFrom := x.fireFrom.set u (s.after n f 1), lastOrdinal := x.lastOrdinal.set u r.ordinal
                   buf := mem.foldl (fun (b : Tbl (List Token)) i =>
                     b.set (4 * u + i) ((b.get [] (4 * u + i)).filter (fun t => t.ordinal != r.ordinal))) x.buf })
        if !r.backEdge && (tok 0).blot && !(tok 0).void then s1.coreErrorIn n f (CoreErrKind.blotConsumed.err 1)
        else
          let z := fireResult w r.backEdge r.ordinal tok
          let s2 := s1.modSteer n (fun x =>
            { x with noneSel := satAdd x.noneSel z.noneSel, mergeDrop := satAdd x.mergeDrop z.mergeDrop
                     clamp := if z.clamp then x.clamp.set u true else x.clamp })
          z.outs.foldl (fun t o => t.addDue n (s.after n f 2) (4 * u + o.1) (.out u o.1 w o.2)) s2
/-- STEER_FIRE. -/
def execSteerFire (core : Fin 1536) (unit : BitVec 2) (par : Bool) (s : State) : Host.Outcome State Fault Refusal :=
  .next (effSteerFire core unit par s)

end Sys2Proof.Machine
end

