-- ==== Sys2Proof/Machine/Transfer.lean ====
section
/-!
DEFINITION. The transfer engine (03 R160 to R164; 07 R400 to R408, R416 to R424; 08 R458; 09 R517, R518; 10 R608):
XFER and one access of a transfer.
-/
namespace Sys2Proof.Machine

/-- XFER (R142, R148, R400 to R403, R407): the TE reads the descriptor in the four cycles that follow; `ls` is what
these reads find, by 64-bit word (R135). While the TE is occupied an XFER waits at issue in a free section and raises
RULED_STALL in a ruled one. -/
def effXfer (a : Issue) (ra : BitVec 6) (ls : List (Nat × Ecc)) (s : State) : State :=
  let n := a.core.val
  let c := s.core n
  let busy := c.te.xfer.isSome || c.te.desc.isSome
  let x := (c.regs.s ra.toNat).toNat
  if busy && decide (c.ctl.st = .free) then s
  else
    s.issue a { reads := regs [ra], vreads := [], unit := .te,
                errs := lsErrs x 32 ++ c.regs.blotErr [ra.toNat] 0 ++
                  (if busy then [CoreErrKind.ruledStall.err] else []) } (fun t u =>
      let u1 := ls.foldl (fun (w : State) e => w.lsEcc n (w.after n t (1 + e.1 % 4)) (x + 8 * (e.1 % 4)) e.2) u
      (u1.modTe n (fun e => { e with desc := some { addr := x, issued := t, pc := (u.core n).ctl.pc } })).advance n t 1)
/-- XFER. -/
def execXfer (a : Issue) (ra : BitVec 6) (s : State) (ls : List (Nat × Ecc) := []) : Host.Outcome State Fault Refusal :=
  .next (effXfer a ra ls s)

/-! ### One access -/

/-- The fields of CL_INK_ERR (R433). -/
def inkErrFields (kind off phase : Nat) : Word :=
  BitVec.ofNat 32 (kind * 2 ^ 27 + off / 2 ^ 17 % 2 * 2 ^ 26 + off / 2 ^ 12 % 32 * 2 ^ 21 + phase * 2 ^ 16)

/-- What an inkwell access finds (R423, R424, R433): a correction is counted; an uncorrectable error blots the unit,
is counted and recorded with its kind. -/
def State.inkEcc (s : State) (k off kind phase : Nat) (e : Ecc) : State :=
  match e with
  | .ok => s
  | .corrected =>
    (s.modInk k (fun i => { i with corr := satInc i.corr })).modCorrected (s.partOf k)
      (fun x => { x with inkwell := x.inkwell + 1 })
  | .uncorrectable =>
    let s1 := s.modInk k (fun i =>
      { i with uncorr := satInc i.uncorr
               err := i.err.record (inkErrFields kind off phase) (BitVec.ofNat 64 (off / 8 * 8)) 0 })
    { s1 with store := s1.store.blotUnit (inkBase k + off) }

/-- What an access of 16 words finds, each finding at a word of it (R422 to R424, R433): its 64 bits, and the unit whose
two blot copies disagree. -/
def State.inkFind (s : State) (k : Nat) (offs : List Nat) (kind phase : Nat) (l : List (Nat × Ecc)) : State :=
  l.foldl (fun t e => match offs[e.1]? with
    | some o => t.inkEcc k o kind phase e.2
    | none => t) s

/-- The two copies of a unit's blot disagree (R422, R433 KIND 4): the unit reads as blotted. -/
def State.inkSplit (s : State) (k off : Nat) : State :=
  let s1 := s.modInk k (fun i =>
    { i with err := i.err.record (inkErrFields 4 off 0) (BitVec.ofNat 64 (off / 8 * 8)) 0 })
  { s1 with store := s1.store.blotUnit (inkBase k + off) }

/-- The blot copies that an access of 16 words finds to disagree, each at a word of the unit (R422). -/
def State.inkSplits (s : State) (k : Nat) (offs : List Nat) (l : List Nat) : State :=
  l.foldl (fun t i => match offs[i]? with
    | some o => t.inkSplit k o
    | none => t) s

/-- The checking trap of a core-side access (R419): 1 UNFILLED, 2 UNDRAINED, with the offset of the unit. -/
def Store.trap (m : Store) (base : Nat) (offs : List Nat) (isRead consume : Bool) : Option (Nat × Nat) :=
  match offs with
  | [] => none
  | o :: r =>
    let w := o / 4 % 8
    let fill := Units.has m.fills ((base + o) / 32)
    if isRead && !fill && (decide (w = 0) || (!consume && decide (w ≠ 7))) then some (1, o / 32 * 32)
    else if !isRead && fill && decide (w = 0) then some (2, o / 32 * 32)
    else Store.trap m base r isRead consume

/-- A checking trap (R421): CL_CHK_ERR records it and the context is killed with event 0x0002 at level 2. -/
def State.checkTrap (s : State) (n kind off : Nat) : State :=
  let k := kOf n
  let p := s.partOf k
  let fields := BitVec.ofNat 32 (kind * 2 ^ 28 + (s.core n).ctl.lcore.toNat % 32 * 2 ^ 23)
  let s1 := s.modInk k (fun i => { i with chkErr := i.chkErr.record fields (BitVec.ofNat 64 off) 0 })
  match (s.core n).ctl.context with
  | some c => s1.kill c 2 (source 2 k (jOf n) p (kind * 2 ^ 8))
      [(16, 4, off), (20, 4, (s.part p).stroke.count.toNat % 2 ^ 32)]
  | none => s1

/-- Flits of a transfer are to enter its egress channel in a cycle (R406, R409). -/
def State.putFlits (s : State) (n cycle : Nat) (x : Xfer) (fs : List Flit) : State :=
  s.addDue n cycle 16 (.flits x.chan fs x.pc)

/-- A data flit of a landing whose window has closed comes after that edge (R429): it is dropped and counted in WIN_DROP. -/
def Ink.dropDead (i : Ink) (key : Nat) : Ink :=
  let left := i.landLeft.get 0 key - 1
  { i with winDrop := satInc i.winDrop, landLeft := i.landLeft.set key left,
           landDead := if left = 0 then i.landDead.filter (fun x => decide (x ≠ key)) else i.landDead }

/-- A flit enters landing stream `st` of core n in its cycle (R410, R411): one that finds it full raises RULED_OVERFLOW. In an
addressed stream a header joins the order of landings (R412): in the order of entry, and of those that enter in one cycle
by logical core and stream. -/
def State.landFlit (s : State) (n st : Nat) (f : Flit) : State :=
  let te := (s.core n).te
  let l := te.stream.get [] st
  if (s.cluster (kOf n)).ink.landDead.contains (jOf n * 8 + st) then s.modInk (kOf n) (fun i => i.dropDead (jOf n * 8 + st))
  else if 16 ≤ l.length then s.coreErrorIn n f.cycle (CoreErrKind.ruledOverflow.err (16 + st))
  else
    let s1 := s.modTe n (fun e => { e with stream := e.stream.set st (l ++ [f]) })
    if te.addressed.getLsbD st then
      s1.modInk (kOf n) (fun i =>
        let key := jOf n * 8 + st
        let left := i.landLeft.get 0 key
        if left = 0 then
          { i with landOrder := landInsert { key := key, lcore := (s.core n).ctl.lcore.toNat, cycle := f.cycle } i.landOrder,
                   landLeft := i.landLeft.set key ((f.data.extractLsb' 160 3).toNat + 1) }
        else { i with landLeft := i.landLeft.set key (left - 1) })
    else s1

/-- A request flit (R458). -/
def State.requestFlit (s : State) (n kind : Nat) (rslice : Bool) (slot addr : Nat) : Flit :=
  let c := (s.core n).ctl
  { data := BitVec.ofNat 256 (kind * 2 ^ 253 + (if rslice then 2 ^ 252 else 0) + ctxNo (c.context.getD 0) * 2 ^ 250 +
      c.lcluster.toNat * 2 ^ 242 + c.lcore.toNat % 32 * 2 ^ 237 + slot % 256 * 2 ^ 229 + addr % 2 ^ 41),
    blot := false }

/-- The request of a host access (R402, R404, R517): the fields of R458 without a KIND, and bit 41 set for a write. Its
bits are the model's own (DESIGN CHOICE, log 99). -/
def State.hostFlit (s : State) (n : Nat) (isWrite rslice : Bool) (off : Nat) : Flit :=
  let f := s.requestFlit n 0 rslice 0 (off % 2 ^ 40)
  { f with host := true, data := f.data ||| (if isWrite then BitVec.ofNat 256 (2 ^ 41) else 0) }

/-- The header flit of a push (R404, R411): COUNT 1, REMOTE 0. -/
def State.pushFlit (s : State) (off : Nat) : Flit :=
  { data := BitVec.ofNat 256 (s.dev.fbId.toNat * 2 ^ 176 + 2 ^ 160 + off % 2 ^ 27), blot := false }

/-- The header flit of a remote write (R608): two data flits. -/
def State.remoteFlit (s : State) (n : Nat) (a : DWord) : Flit :=
  let c := (s.core n).ctl
  { data := BitVec.ofNat 256 (a.toNat / 2 ^ 40 % 2 ^ 16 * 2 ^ 237 + a.toNat / 2 ^ 34 % 64 * 2 ^ 231 + 2 ^ 228 +
      a.toNat % 2 ^ 34 * 2 ^ 194 + ctxNo (c.context.getD 0) * 2 ^ 192 + c.lcluster.toNat * 2 ^ 184 +
      c.lcore.toNat % 32 * 2 ^ 179), blot := false }

/-- Count a failed host-memory access of function f in HI_ERR_CNT (R518, R576). -/
def State.countHostFail (s : State) (f : Nat) : State :=
  s.modFn f (fun x => { x with hostFail := satInc x.hostFail })

/-- Note a core-side inkwell write that a lock-step digest covers (12 R752). -/
def State.noteWrite (s : State) (n cycle off : Nat) (col : Bool) (ws : List (Word × Bool)) : State :=
  match (s.core n).ctl.context with
  | some c =>
    if (s.ctx c).run.compared then
      s.modInk (kOf n) (fun x => { x with writes := x.writes ++
        [{ ctx := c, cycle := cycle % 256, lcore := (s.core n).ctl.lcore.toNat, offset := off, column := col,
           blot := ws.any (fun w => w.2), words := ws.map (fun w => w.1) }] })
    else s
  | none => s

/-- The cycles in which the data of an access reach local store and an egress channel (R399, R406): from an inkwell 4, or
6 in checking mode; from local store 2; from a landing stream local store takes them in the cycle that follows. -/
def State.xferDelay (s : State) (n : Nat) (x : Xfer) : Nat :=
  if (x.srcKind.ink x.offs.1.toNat).isSome then (if (s.cluster (kOf n)).ink.checking then 6 else 4)
  else if x.srcKind = .stream then 1 else 2

/-- A core-side write of 16 words to an inkwell in cycle `a` (R399, R408, R419): reads see it from a + 1, and in checking mode
from a + 3. -/
def State.inkPut (s : State) (n a : Nat) (col : Bool) (o : Nat) (ws : List (Word × Bool)) : State :=
  let k := kOf n
  let offs := wordOffs col o
  if (s.cluster k).ink.checking then
    s.modInk k (fun i => { i with late := i.late ++ [{ visible := s.after n a 3, column := col, offs := offs, words := ws }] })
  else { s with store := s.store.scatter col (inkBase k) offs ws }

/-- The destination of an access of cycle `a` takes its 16 words (R402, R404, R406, R408). -/
def State.xferWrite (s : State) (n a : Nat) (x : Xfer) (ws : List (Word × Bool)) : State :=
  let off := x.offs.2.toNat
  let lo := wordsFlit (ws.take 8)
  let hi := wordsFlit (ws.drop 8)
  let d := s.xferDelay n x
  let far (h : Flit) (t : State) : State := (t.putFlits n (s.after n a (d - 1)) x [h]).putFlits n (s.after n a d) x [lo, hi]
  match x.dstKind.ink off with
  | some (col, o) => (s.inkPut n a col o ws).noteWrite n a o col ws
  | none =>
    match x.dstKind with
    | .local_ => s.lsPutUnits n (s.after n a d) 3 off [(lo.bytes, lo.blot), (hi.bytes, hi.blot)]
    | .stream => s.putFlits n (s.after n a d) x [lo, hi]
    | .bulk => far (s.requestFlit n 1 false 0 off) s
    | .push => far (s.pushFlit off) s
    | .page i t b _ =>
      if off < t then far (s.pushFlit (b + off)) s
      else far (s.requestFlit n 3 false i off) s
    | .remote =>
      let h := s.remoteFlit n x.dstAt
      far h (s.modTe n (fun e =>
        { e with farWrites := e.farWrites ++ [(e.farNext, h.data)], farNext := e.farNext + 1 }))
    | .host => far (s.hostFlit n true false off) s
    | _ => s

/-- A far read of cycle `a` sends its request (R402, R406, R517). -/
def State.xferRequest (s : State) (n a : Nat) (x : Xfer) : State :=
  let off := x.offs.1.toNat
  let put (f : Flit) : State := s.putFlits n (s.after n a 2) x [f]
  match x.srcKind with
  | .bulk => put (s.requestFlit n 0 x.rslice 0 off)
  | .page i _ _ _ => put (s.requestFlit n 2 x.rslice i off)
  | .host => put (s.hostFlit n false x.rslice off)
  | _ => s

/-- The transfer after an access (R401): the next one, or none with the TE free in the cycle that follows (R407).
A transfer that an error of this access ended stays ended. -/
def State.xferStep (s : State) (n t : Nat) (x : Xfer) : State :=
  s.modTe n (fun e =>
    if e.xfer.isNone then e
    else if x.i < x.countI then { e with xfer := some { x with i := x.i + 1, cycle := s.after n t 1 } }
    else if x.o < x.countO then { e with xfer := some { x with i := 0, o := x.o + 1, cycle := s.after n t 1 } }
    else { e with xfer := none, free := s.after n t 1 })

/-- What an access of 16 words of the local store finds, each finding at a word of it (R135). -/
def State.lsFind (s : State) (n a : Nat) (offs : List Nat) (l : List (Nat × Ecc)) : State :=
  l.foldl (fun t e => match offs[e.1]? with
    | some o => t.lsEcc n a o e.2
    | none => t) s

/-- The source words of an access of cycle `a` with the state after they are read (R399, R406, R408, R419 to R424), none
where the access waits for its flits or a checking trap ends it. -/
def State.xferRead (s : State) (n a : Nat) (x : Xfer) (ecc : List (Nat × Ecc)) (split : List Nat) :
    State × Option (List (Word × Bool)) :=
  let k := kOf n
  let off := x.offs.1.toNat
  match x.srcKind.ink off with
  | some (col, o) =>
    let offs := wordOffs col o
    let s1 := (s.inkFind k offs 1 (s.phaseOf n) ecc).inkSplits k offs split
    let ws := s1.store.gather (inkBase k) offs
    if (s.cluster k).ink.checking then
      match s1.store.trap (inkBase k) offs true x.consume with
      | some (kind, u) => (s1.checkTrap n kind u, none)
      | none => ({ s1 with store := s1.store.touchFill (inkBase k) offs true x.consume }, some ws)
    else (s1, some ws)
  | none =>
    match x.srcKind with
    | .local_ =>
      let offs := wordOffs false off
      let s1 := s.lsFind n a offs ecc
      (s1, some ((s1.lsView n a).gather (lsBase n) offs))
    | _ =>
      match (s.core n).te.stream.get [] x.stream with
      | f :: g :: r =>
        (s.modTe n (fun e => { e with stream := e.stream.set x.stream r }), some (f.words ++ g.words))
      | _ => (s, none)

/-- Whether an access has to wait: a pause of the partition (R158, R394), a landing stream without its two flits
(R405), or a cycle of a stroke whose edge is still to pass (R183). -/
def State.xferWaits (s : State) (n : Nat) (x : Xfer) : Bool :=
  (s.part (s.partOf (kOf n))).paused ||
    (decide (x.srcKind = .stream) && decide (((s.core n).te.stream.get [] x.stream).length < 2)) ||
    !s.cycleDue n (s.xferCycle n x)

/-- An access with its words goes on (R164, R166, R401): its core error is raised, or its destination takes the words. -/
def State.xferPut (s : State) (n t : Nat) (x : Xfer) (ws : List (Word × Bool)) : State :=
  match s.xferErr n x ws with
  | some e => s.coreErrorIn n t e
  | none => (s.xferWrite n t x ws).xferStep n t x

/-- The access of a transfer in cycle t (R404 to R408). -/
def State.xferAccess (s0 : State) (n t : Nat) (x : Xfer) (src dst : List (Nat × Ecc)) (split : List Nat) : State :=
  let s := s0.inkSee (kOf n) t
  if x.far then (s.xferRequest n t x).xferStep n t x
  else
    match s.xferRead n t x src split with
    | (s1, none) => s1
    | (s1, some ws) =>
      match x.dstKind.ink x.offs.2.toNat with
      | some (col, o) =>
        let offs := wordOffs col o
        let s2 := s1.inkFind (kOf n) offs 1 (s.phaseOf n) dst
        match (if (s.cluster (kOf n)).ink.checking then s2.store.trap (inkBase (kOf n)) offs false false
               else none) with
        | some (kind, u) => s2.checkTrap n kind u
        | none => s2.xferPut n t x ws
      | none => s1.xferPut n t x ws

/-- What happens in core n before the next access of its transfer (R148, R165): its descriptor has been read, and what is due
before the access's cycle has happened. -/
def State.beforeAccess (s : State) (n : Nat) : State :=
  let s0 := match (s.core n).te.desc with
    | some d => if s.cycleDue n (s.descEnd n d) then s.coreRun n (s.descEnd n d) else s
    | none => s
  match (s0.core n).te.xfer with
  | some x => if s0.xferWaits n x then s0 else s0.coreRun n (s0.xferCycle n x - 1)
  | none => s0

/-- XFER_ACCESS (R404 to R408): the next access of the core's transfer, once its descriptor has been read; nothing where
none can be made. `src`, `dst` and `split` say what the access finds, each at one of its 16 words (R135, R422 to R424). -/
def effXferAccess (core : Fin 1536) (src dst : List (Nat × Ecc)) (split : List Nat) (s : State) : State :=
  let n := core.val
  let s0 := if (s.part (s.partOf (kOf n))).paused then s else s.beforeAccess n
  match (s0.core n).te.xfer with
  | none => s0
  | some x => if s0.xferWaits n x then s0 else s0.xferAccess n (s0.xferCycle n x) x src dst split
/-- XFER_ACCESS. -/
def execXferAccess (core : Fin 1536) (src dst : List (Nat × Ecc)) (split : List Nat) (s : State) :
    Host.Outcome State Fault Refusal := .next (effXferAccess core src dst split s)

end Sys2Proof.Machine
end

