-- ==== Sys2Proof/Machine/Routing.lean ====
section
/-!
DEFINITION. Ruled movement (04 R189 to R196, R203, R204; 01 R19, R21): flits taken from their sources, what links do to them,
and the deliveries at the end of their ways.
-/
namespace Sys2Proof.Machine

/-- The fabric port that an EDGE_F code of cluster k names (R189). -/
def edgePort (k code : Nat) : Option Nat :=
  ((List.range 16).filter (fun f => decide (portCluster f = k)))[code - 14]?

/-- The controller attached to cluster k (R19). -/
def edgeMc (k : Nat) : Option Nat := (List.range 16).find? (fun m => decide (mcCluster m = k))

/-! ### Taking a flit from its source -/

/-- The next flit of a fabric port for an edge slice (R614): the landing buffer moves on. -/
def State.popLanding (s : State) (f slice : Nat) : Option (Flit × State) :=
  let p := s.port f
  match p.landings.get [] slice with
  | [] => none
  | x :: r =>
    let left := p.landLeft.get 0 slice
    some (x, s.modPort f (fun p =>
      { p with landings := p.landings.set slice r
               landUnits := if left = 0 then p.landUnits else p.landUnits - 1
               landLeft := p.landLeft.set slice
                 (if left = 0 then (x.data.extractLsb' 160 3).toNat + 1 else left - 1) }))

/-- The entries that copy input slice `slice` of an edge port of cluster k in a slot, and where a flit there goes (R192). -/
def State.edgeWay (s : State) (k port slice slot : Nat) : List Nat × Spread :=
  ((s.readers k port slice slot).map Place.key, s.wayFrom ⟨k, port, slice, slot⟩)

/-- The flit of a fabric port crosses the edge into an input slice in a slot, which makes room for the writes that its landing
buffer holds up (R614). -/
def State.takeLanding (s : State) (src : Place) (port slice : Nat) : State :=
  match edgePort src.k port with
  | none => s
  | some f =>
    match (if s.domOn (54 + f / 4) then s.popLanding f slice else none) with
    | none => s
    | some (x, s1) =>
      let w := s.edgeWay src.k port slice src.slot
      (s1.acceptHeld (s1.port f).held.length f).launch src.k w.1 (s.slotCycle src) x w.2

/-- A source entry takes its flit in its slot of the stroke in progress (R193, R277, R409, R614): from the egress channel it
reads, once what enters that channel by then has entered, or from its fabric port. A controller's read data is taken by
MC_READ_DATA_RETURN. -/
def State.takeAt (s : State) (src : Place) : State :=
  let e := s.entryAt src
  if !entryValid e || s.hasTaken src then s
  else if entryInPort e = 0 then
    match s.physCore src.k (entrySrcCore e) with
    | some n => (s.coreRun n (s.slotCycle src)).takeChan n (entrySrcTe e) (entrySrcChan e) (s.slotCycle src)
    | none => s
  else if 14 ≤ entryInPort e then s.takeLanding src (entryInPort e) (entryInSlice e)
  else s

/-- A link delivers a flit with a parity error (R196, R688): counted and recorded at the receiving router; 16 on one input
port within 1 s fence it. -/
def State.parityError (s : State) (h : ParityHit) : State :=
  let k := h.k.val
  let fields := BitVec.ofNat 32 (2 * 2 ^ 26 + h.port.toNat * 2 ^ 22 + h.slice.toNat * 2 ^ 20 + h.slot.toNat * 2 ^ 12)
  let s1 := s.modRouter k (fun r => { r with linkParity := satInc r.linkParity, err := r.err.record fields 0 0 })
  let key := k * 16 + h.port.toNat
  let recent := ((s1.quill.parityHits.get [] key).filter (fun t => decide (s.time < t + 1000000000))) ++ [s.time]
  let s2 := s1.modQuill (fun q => { q with parityHits := q.parityHits.set key recent })
  if 16 ≤ recent.length then s2.fenceRouter k 5 else s2

/-- A flit after what a link did to it (R196). -/
def Flit.after (f : Flit) (h : Option ParityHit) : Flit := if h.isSome then { f with blot := true } else f

/-- Split a flight at a link (R196): the copies that go on from an input slice, blotted, and the others. -/
def Flight.splitAt (x : Flight) (place : Nat) (w : Spread) : List Flight :=
  let l := x.next.contains place || x.lost.contains place
  let hd := x.due.filter w.due.contains
  let hn := x.next.filter (fun n => w.next.contains n || n == place)
  if hd.isEmpty && hn.isEmpty && !l then [x]
  else
    [{ x with flit := { x.flit with blot := true }, due := hd, next := hn, lost := [] },
     { x with due := x.due.filter (fun e => !hd.contains e), next := x.next.filter (fun n => !hn.contains n) }]

/-- A parity error on a link blots every copy that goes on from there (R196): those of the flits of an origin that are still
on their way behind the link. -/
def State.blotBehind (s : State) (k key : Nat) (h : ParityHit) : State :=
  let p : Place := ⟨h.k.val, h.port.toNat, h.slice.toNat, h.slot.toNat⟩
  let w := s.wayFrom p
  s.modRouter k (fun r => { r with flying := r.flying.flatMap (fun x =>
    if x.origins.contains key then x.splitAt p.key w else [x]) })

/-- The effect of what a link did to the flit of an origin (R196). -/
def State.linkHit (s : State) (k key : Nat) (h : Option ParityHit) : State :=
  match h with
  | some x => (s.parityError x).blotBehind k key x
  | none => s

/-- Take the oldest flit of an origin that waits at a place out of the flits on their way: the flit with its arrival, and the
others. -/
def takeArrival (key : Nat) (test : Arrival → Bool) (l : List Flight) : Option ((Flit × Arrival) × List Flight) :=
  match l with
  | [] => none
  | x :: r =>
    match (if x.origins.contains key then x.due.find? test else none) with
    | some a =>
      let y := { x with due := x.due.erase a }
      some ((x.flit, a), if y.due.isEmpty && y.next.isEmpty && y.lost.isEmpty then r else y :: r)
    | none => (takeArrival key test r).map (fun e => (e.1, x :: e.2))

/-- A flit of an origin on its way reaches a place that satisfies a test, with what a link did to it. -/
def State.reach (s : State) (k key : Nat) (test : Arrival → Bool) (h : Option ParityHit) : Option (Flit × Arrival × State) :=
  (takeArrival key test (s.cluster k).router.flying).map (fun x =>
    (x.1.1.after h, x.1.2, (s.modRouter k (fun r => { r with flying := x.2 })).linkHit k key h))

/-- The flit of a source entry reaches a place that satisfies a test (R192 to R195): one on its way, else the one that the entry
takes from its source in this stroke; none where there is no such flit or place, or the partition pauses. -/
def State.move (s : State) (src : Place) (test : Arrival → Bool) (h : Option ParityHit) : Option (Flit × Arrival × State) :=
  if (s.part (s.partOf src.k)).paused then none
  else
    match s.reach src.k src.key test h with
    | some r => some r
    | none => (s.takeAt src).reach src.k src.key test h

/-- Whether an arrival is at a place. -/
def Arrival.isAt (a : Arrival) (p : Place) : Bool := decide (a.place = p.key)

/-- A flit that no entry reads (R293): it leaves its source and is discarded, with what a link did to it (R196). -/
def State.dropUnread (s : State) (src : Place) (h : Option ParityHit) : State :=
  if (s.part (s.partOf src.k)).paused then s
  else
    let lost (t : State) : Bool := (t.cluster src.k).router.flying.any (fun x => x.origins.contains src.key && !x.lost.isEmpty)
    let s1 := if lost s then s else s.takeAt src
    if lost s1 then s1.linkHit src.k src.key h else s1

/-- A flit arrives at a LOCAL place (R191, R193): at what its entry names, four cycles after its slot. -/
def State.arriveLocal (s : State) (a : Arrival) (f : Flit) : State :=
  let b := Place.ofKey a.place
  let e := a.entry
  let i := entryDstIndex e
  let t := s.after (32 * b.k) a.cycle 4
  if entryDstKind e = 3 then
    if hk : b.k < 48 then s.contribute (.cluster ⟨b.k, hk⟩ (BitVec.ofNat 4 i)) t b.slice f.token else s
  else
    match s.physCore b.k (entryDstCore e) with
    | none => s
    | some n =>
      if entryDstKind e = 0 then s.deliver n (i % 8) t b.slice f.token true
      else if entryDstKind e = 1 then s.landFlit n (i % 8) { f with cycle := t }
      else s.steerDeliver n (i / 4) (i % 4) t f.token

/-- A ruled delivery of some DST_KINDs at entry `dst` (R191 to R195). -/
def State.deliverAt (s : State) (src dst : RulingSlot) (kinds : Nat → Bool) (h : Option ParityHit) : Option State :=
  let b := placeOf dst
  if b.port = 0 then
    (s.move (placeOf src) (fun a => a.isAt b && kinds (entryDstKind a.entry)) h).map (fun r => r.2.2.arriveLocal r.2.1 r.1)
  else none

/-- TOKEN_DELIVERY (R192 to R196, R284, R293, R296, R313, R316, R330, R410): the flit of source entry `src` reaches the
inbound queue or the landing stream that entry `dst` names; where no entry reads it, it is lost. -/
def effTokenDelivery (src dst : RulingSlot) (parity : Option ParityHit) (s : State) : State :=
  (s.deliverAt src dst (fun k => decide (k < 2)) parity).getD (s.dropUnread (placeOf src) parity)
/-- TOKEN_DELIVERY. -/
def execTokenDelivery (src dst : RulingSlot) (parity : Option ParityHit) (s : State) :
    Host.Outcome State Fault Refusal := .next (effTokenDelivery src dst parity s)

/-- STEER_INPUT_DELIVERY (R267, R270, R272, R284, R296): the flit of `src` reaches the steering input that `dst` names. -/
def effSteerInputDelivery (src dst : RulingSlot) (parity : Option ParityHit) (s : State) : State :=
  (s.deliverAt src dst (fun k => decide (k = 2)) parity).getD s
/-- STEER_INPUT_DELIVERY. -/
def execSteerInputDelivery (src dst : RulingSlot) (parity : Option ParityHit) (s : State) :
    Host.Outcome State Fault Refusal := .next (effSteerInputDelivery src dst parity s)

/-- The free token of a channel to a combining queue reaches it (R319, R323, R348). -/
def State.freeContribution (s : State) (n ch : Nat) : State :=
  match takeMsg (fun m => match m with | .freeTok c h fd _ => c == n && h == ch && fdestKind fd | _ => false) s.net with
  | some (.freeTok _ _ fd tok, r) =>
    if (s.part (s.partOf (kOf n))).paused then s
    else
      let s1 : State := { s with net := r }
      match (s.core n).physCluster (fdestCluster fd) with
      | some k =>
        if hk : k < 48 then
          let q : CombiningQueue := .cluster ⟨k, hk⟩ (BitVec.ofNat 4 (fdestIndex fd))
          s1.contribute q (s1.cqNow q) 4 tok
        else s1
      | none => s1
  | _ => s

/-- CONTRIBUTION_ARRIVAL (R342, R345, R348, R284): a contribution reaches its combining queue, by a ruling entry with DST_KIND
0b11 or by a free channel whose FDEST names it. Those that the fabric brings are applied with their write message
(R616). -/
def effContributionArrival (src : ContribSrc) (s : State) : State :=
  match src with
  | .ruled a d h => (s.deliverAt a d (fun k => decide (k = 3)) h).getD s
  | .freeChan core chan => (s.sendDue core chan.toNat).freeContribution core chan.toNat
/-- CONTRIBUTION_ARRIVAL. -/
def execContributionArrival (src : ContribSrc) (s : State) : Host.Outcome State Fault Refusal :=
  .next (effContributionArrival src s)

end Sys2Proof.Machine
end

