-- ==== Sys2Proof/Machine/Bulk.lean ====
section
/-!
DEFINITION. Memory controllers at work (08 R449 to R466, R473, R481 to R485, R494; 10 R615; 09 R517, R518): requests from the edge and
from the spine, host accesses, read data, position writes and slot commands of programs, refresh, checks, scrub.
-/
namespace Sys2Proof.Machine

/-- The fields of a request flit (R458); `host` marks a host access, `toHost` one that writes (log 99). -/
structure Request where
  host : Bool
  toHost : Bool
  kind : Nat
  rslice : Bool
  ctx : Nat
  lcluster : Nat
  lcore : Nat
  slot : Nat
  op : Nat
  other : Nat
  pos : Nat
  done : Nat
  addr : Nat
  deriving DecidableEq, Repr

/-- Read a request flit (R458). -/
def requestOf (f : Flit) : Request :=
  let d := f.data
  { host := f.host, toHost := f.host && d.getLsbD 41, kind := (d.extractLsb' 253 3).toNat, rslice := d.getLsbD 252, ctx := (d.extractLsb' 250 2).toNat,
    lcluster := (d.extractLsb' 242 8).toNat, lcore := (d.extractLsb' 237 5).toNat,
    slot := (d.extractLsb' 229 8).toNat, op := (d.extractLsb' 184 8).toNat, other := (d.extractLsb' 176 8).toNat,
    pos := (d.extractLsb' 152 24).toNat, done := (d.extractLsb' 128 12).toNat, addr := (d.extractLsb' 0 41).toNat }

/-- Data flits that follow a request: two after a bulk or page write (R458) and after a write to the host (R406). -/
def Request.dataFlits (r : Request) : Nat := if r.toHost ∨ (!r.host ∧ (r.kind = 1 ∨ r.kind = 3)) then 2 else 0

/-- Whether a row of its own serves a request: a position write, or a slot command with an OP that is not reserved. -/
def Request.special (r : Request) : Bool :=
  !r.host && (decide (r.kind = 4) || (decide (r.kind = 5) && decide (3 ≤ r.op ∧ r.op ≤ 5)))

/-- The context key of a request at controller m (R458). -/
def State.requestCtx (s : State) (m : Nat) (r : Request) : Nat := 4 * s.partOf (mcCluster m) + r.ctx

/-- A memory fault of a request (R462). -/
def State.requestFault (s : State) (m kind : Nat) (r : Request) : State :=
  s.memFault m kind r.ctx r.addr r.lcluster r.lcore r.slot

/-- A 32-byte unit of the storage as a flit. -/
def State.unitFlit (s : State) (a : Nat) : Flit :=
  { data := BitVec.ofNat 256 (leNat (s.store.bytes a 32)), blot := s.store.blotAt a }

/-- What the reads of a command find: its own line, read link and table entry for the request that the command brings; for the
others, by line address. -/
structure Finds where
  first : Option (Ecc × Ecc × Ecc)
  lines : List LineFind

/-- No read finds anything but what the list says. -/
def Finds.of (l : List LineFind) : Finds := { first := none, lines := l }

/-- What the read of a line finds: its ECC and the read link. -/
def Finds.line (f : Finds) (a : Nat) : Ecc × Ecc :=
  match f.first with
  | some x => (x.1, x.2.1)
  | none => ((f.lines.find? (fun e => decide (e.addr.toNat / 64 = a / 64))).map (fun e => (e.ecc, e.link))).getD (.ok, .ok)

/-- What the read of a table entry finds: its ECC and the read link. -/
def Finds.table (f : Finds) (a : Nat) : Ecc × Ecc :=
  match f.first with
  | some x => (x.2.2, .ok)
  | none => f.line a

/-- Queue the two flits of a read that arrived at a device time for its return slice (R460, R494). -/
def State.queueRead (s : State) (m : Nat) (slice : Bool) (since : Nat) (lo hi : Flit) : State :=
  s.modMc m (fun x =>
    { x with reads := x.reads ++ [{ slice := slice, since := since, lo := lo, hi := hi, loSent := false }] })

/-- Read a line and queue its data (R449, R450, R452, R460). -/
def State.mcRead (s : State) (m line : Nat) (slice : Bool) (since : Nat) (f : Finds) : State :=
  let s1 := s.mcFind m line (f.line line).1 (f.line line).2
  s1.queueRead m slice since (s1.unitFlit line) (s1.unitFlit (line + 32))

/-- Write the two units of a line (R451, R460). -/
def State.mcWrite (s : State) (line : Nat) (data : List Flit) : State :=
  data.zipIdx.foldl (fun t e => t.write (line + 32 * e.2) (toLe e.1.data.toNat 32) e.1.blot) s

/-- Whether a bulk address is served by controller m and lies in the context's bulk region (R462 MISROUTE). -/
def State.bulkServed (s : State) (m c a : Nat) : Bool :=
  let r := (s.ctx c).run
  decide (a < bulkEnd) && decide (s.mcAt a = m) && decide (r.bulkBase * 65536 ≤ a) &&
    decide (a + 64 ≤ (r.bulkBase + r.bulkSize) * 65536)

/-- The controller that serves a page offset of a slot (R442, R472): every page of the slot's pool lies alike. -/
def State.pageServer (s : State) (slot off : Nat) : Nat := s.mcAt (pageAddr (slot / 8 * 262144) + off % 65536)

/-- A page held more than once is copied before a slot writes it (R481); `l` is what the reads of the page find. -/
def State.copyOnWrite (s0 : State) (slot n pn q : Nat) (l : List LineFind) : State :=
  let s := s0.mcLines (pageAddr pn) 65536 l
  let m := ((s.store.copyRange (pageAddr pn) (pageAddr q) 65536).setEntry slot n (some q)).setCount pn
    (s.store.pageCount pn - 1)
  ({ s with store := m.setCount q 1 } : State).modSlot slot (fun x => { x with copies := satInc x.copies })

/-- A new page is named in a slot's table. -/
def State.freshPage (s : State) (slot n q : Nat) : State :=
  { s with store := (s.store.setEntry slot n (some q)).setCount q 1 }

/-- The page of an entry that a write may change (R481): the page itself with count 1, else a page allocated for it; none
where the pool is empty. -/
def State.pageForWrite (s : State) (slot n : Nat) (l : List LineFind) : Option (Nat × State) :=
  match s.store.entry slot n with
  | some pn =>
    if s.store.pageCount pn ≤ 1 then some (pn, s)
    else
      match s.allocPage slot with
      | some q => some (q, s.copyOnWrite slot n pn q l)
      | none => none
  | none =>
    match s.allocPage slot with
    | some q => some (q, s.freshPage slot n q)
    | none => none

/-- Serve a page request (R449, R450, R452, R462, R473, R481): the entry of the slot's table is read first. -/
def State.servePage (s : State) (m : Nat) (r : Request) (data : List Flit) (since : Nat) (f : Finds) : State :=
  let c := s.requestCtx m r
  let n := r.addr / 65536
  let a := (tableBase r.slot + 4 * n) / 64 * 64
  let e := f.table a
  if !s.slotOpen r.slot c then s.requestFault m 4 r
  else if e.1 = .uncorrectable ∨ e.2 = .uncorrectable then (s.mcFind (s.mcAt a) a e.1 e.2).requestFault m 4 r
  else if 4194304 * (s.slot r.slot).bpp ≤ r.addr then s.requestFault m 5 r
  else if s.pageServer r.slot r.addr ≠ m then s.requestFault m 3 r
  else
    let s0 := s.mcFind (s.mcAt a) a e.1 e.2
    if r.kind = 2 then
      match s0.store.entry r.slot n with
      | none => s0.queueRead m r.rslice since { data := 0, blot := false } { data := 0, blot := false }
      | some pn => s0.mcRead m (pageAddr pn + r.addr % 65536 / 64 * 64) r.rslice since f
    else
      match s0.pageForWrite r.slot n f.lines with
      | none => s0.requestFault m 6 r
      | some (pn, s1) => s1.mcWrite (pageAddr pn + r.addr % 65536 / 64 * 64) data

/-- The core that sent a request (R458). -/
def State.requestCore (s : State) (m : Nat) (r : Request) : Option Nat :=
  (s.ctxCluster (s.requestCtx m r) r.lcluster).bind (fun k => s.physCore k r.lcore)

/-- The two data flits of a 64-byte host read. -/
def hostFlits (data : List Byte) (blot : Bool) : List Flit :=
  [{ data := BitVec.ofNat 256 (leNat (data.take 32)), blot := blot },
   { data := BitVec.ofNat 256 (leNat ((data.drop 32).take 32)), blot := blot }]

/-- Queue the data of a host read of 64 bytes for its return slice (R23). -/
def State.queueHost (s : State) (m : Nat) (slice : Bool) (since : Nat) (data : List Byte) (blot : Bool) : State :=
  match hostFlits data blot with
  | [lo, hi] => s.queueRead m slice since lo hi
  | _ => s

/-- Whether a context's host accesses are cut off (R518). -/
def State.hostCut (s : State) (c : Nat) : Bool :=
  let r := (s.ctx c).run
  r.fnReset || (s.fn r.fn).mute

/-- The host bus address of an offset of SPACE 0x3 for core n of context c (R517). -/
def State.hostAddr (s : State) (n c off : Nat) : Nat :=
  (s.fn (s.ctx c).run.fn).aptBase.toNat / 65536 * 65536 + (s.core n).errs.hostBase.toNat * 65536 + off

/-- A host access at the home controller of its core's cluster (R23, R517, R518): a write goes to the host, a read waits
for its completion in the order of its slice's reads (R459); where the host is cut off, the write is dropped, the read returns
zero, blotted, and each is counted. Another controller cannot serve it (DESIGN CHOICE, log 99). -/
def State.serveHost (s : State) (m : Nat) (r : Request) (data : List Flit) (since : Nat) : State :=
  match s.requestCore m r with
  | none => s
  | some n =>
    let c := s.requestCtx m r
    let f := (s.ctx c).run.fn
    if homeOf (kOf n) ≠ m then s.requestFault m 3 r
    else if s.hostCut c then
      let s1 := s.countHostFail f
      if r.toHost then s1 else s1.queueHost m r.rslice since [] true
    else if r.toHost then s.emit (.hostWrite f (s.hostAddr n c (r.addr % 2 ^ 40)) (data.flatMap Flit.bytes))
    else
      (s.modMc m (fun x =>
        { x with reads := x.reads ++ [{ slice := r.rslice, since := since, lo := { data := 0, blot := false }
                                        hi := { data := 0, blot := false }, loSent := false, host := some (n, f) }] })).emit
        (.hostRead f (s.hostAddr n c (r.addr % 2 ^ 40)) 64)

/-- Whether a read waits for host data of core n. -/
def hostWaits (n : Nat) (r : McRead) : Bool := r.host.any (fun h => h.1 == n)

/-- The data of core n's oldest host read takes the place that the read keeps (R459). -/
def fillHost (n : Nat) (lo hi : Flit) (l : List McRead) : List McRead :=
  match l with
  | [] => []
  | r :: rest => if hostWaits n r then { r with lo := lo, hi := hi, host := none } :: rest else r :: fillHost n lo hi rest

/-- The data of core n's oldest host read is there, at its home controller. -/
def State.hostArrives (s : State) (n : Nat) (data : List Byte) (blot : Bool) : State :=
  match hostFlits data blot with
  | [lo, hi] => s.modMc (homeOf (kOf n)) (fun x => { x with reads := fillHost n lo hi x.reads })
  | _ => s

/-- HOST_READ_COMPLETION (R517, R518, R23): the data of the core's oldest host read is there for its return slice; Unsupported
Request or Completer Abort (`none`) returns zero, blotted, and is counted for the function that issued the read. -/
def effHostReadCompletion (core : Fin 1536) (data : Option (List Byte)) (poisoned : Bool) (s : State) : State :=
  match (s.mcOf (homeOf (kOf core.val))).reads.find? (hostWaits core.val) with
  | none => s
  | some r =>
    match data with
    | some d => s.hostArrives core d poisoned
    | none => (s.countHostFail (r.host.getD (0, 0)).2).hostArrives core [] true
/-- HOST_READ_COMPLETION. -/
def execHostReadCompletion (core : Fin 1536) (data : Option (List Byte)) (poisoned : Bool) (s : State) :
    Host.Outcome State Fault Refusal := .next (effHostReadCompletion core data poisoned s)

/-- A unit of a bulk window write is written (R459, R615). -/
def State.serveUnit (s : State) (q : McSpine) : State :=
  (s.write q.addr (toLe q.unit.toNat 32) q.blot).bulkUnitDone q.message

/-- Serve one request (R458 to R462, R481). -/
def State.serve (s : State) (m : Nat) (q : McPending) (f : Finds) : State :=
  let r := requestOf q.request
  match q.unit with
  | some u => s.serveUnit u
  | none =>
    if r.host then s.serveHost m r q.data q.since
    else
      match r.kind with
      | 0 =>
        if s.bulkServed m (s.requestCtx m r) (r.addr / 64 * 64) then s.mcRead m (r.addr / 64 * 64) r.rslice q.since f
        else s.requestFault m 3 r
      | 1 =>
        if s.bulkServed m (s.requestCtx m r) (r.addr / 64 * 64) then s.mcWrite (r.addr / 64 * 64) q.data
        else s.requestFault m 3 r
      | 2 => s.servePage m r q.data q.since f
      | 3 => s.servePage m r q.data q.since f
      | _ => s.requestFault m 7 r

/-- Whether a row of its own serves what waits at a controller. -/
def McPending.special (q : McPending) : Bool := q.unit.isNone && (requestOf q.request).special

/-- Whether an interval-oscillator check holds the channel that a request needs (R465). -/
def State.mcHolds (s : State) (m : Nat) (q : McPending) : Bool :=
  let r := requestOf q.request
  let line := match q.unit with
    | some u => u.addr
    | none => if 2 ≤ r.kind then pageAddr (r.slot / 8 * 262144) + r.addr % 65536 else r.addr
  (q.unit.isSome || (!r.host && decide (r.kind ≤ 3))) && (s.mcOf m).held.getLsbD (s.chanAt line)

/-- Whether a waiting request of core n, of which a test holds, came to another controller before the request of number `no`. -/
def State.cameBefore (s : State) (m n no : Nat) (test : Request → Bool) : Bool :=
  (List.range 16).any (fun m2 => decide (m2 ≠ m) && (s.mcOf m2).pending.any (fun q =>
    let r := requestOf q.request
    decide (q.no < no) && q.unit.isNone && !r.host && test r && decide (s.requestCore m2 r = some n)))

/-- Whether a request waits for one at another controller (R485): a slot command for the page requests of its core's TE that
came before it, a page request for such a slot command. The order of sending is taken from the order of arrival (DESIGN CHOICE,
log 135). -/
def State.mcWaits (s : State) (m : Nat) (q : McPending) : Bool :=
  let r := requestOf q.request
  if q.unit.isSome || r.host then false
  else
    match s.requestCore m r with
    | none => false
    | some n =>
      if r.kind = 5 then s.cameBefore m n q.no (fun x => decide (x.kind = 2 ∨ x.kind = 3))
      else if r.kind = 2 ∨ r.kind = 3 then s.cameBefore m n q.no (fun x => decide (x.kind = 5) && x.special)
      else false

/-- Serve the requests at the front of a controller's list in the order of arrival (R459), up to one that a row of its
own serves, whose channel a check holds (R465) or that waits for another controller (R485). `first` is what the accesses of the
first find. -/
def State.serveFront (fuel : Nat) (s : State) (m : Nat) (first : Finds) : State :=
  match fuel with
  | 0 => s
  | f + 1 =>
    match (s.mcOf m).pending with
    | [] => s
    | q :: rest =>
      if q.special || s.mcHolds m q || s.mcWaits m q then s
      else State.serveFront f ((s.modMc m (fun x => { x with pending := rest })).serve m q first) m (.of first.lines)

/-- Serve what can be served. -/
def State.serveAll (s : State) (m : Nat) (f : Finds) : State := State.serveFront ((s.mcOf m).pending.length) s m f

/-- Serve what can be served at every controller that is READY. -/
def State.serveEvery (s : State) (f : Finds) : State :=
  (List.range 16).foldl (fun t m => if (t.mcOf m).st = .ready then t.serveAll m f else t) s

/-- Mark the slots a program's slot command names as busy (R497). -/
def State.markBusy (s : State) (r : Request) : State :=
  if r.kind ≠ 5 ∨ !r.special then s
  else
    let s1 := s.modSlot r.slot (fun x => { x with busy := true })
    if r.op = 4 then s1 else s1.modSlot r.other (fun x => { x with busy := true })

/-- A request takes its place in a controller's list (R459), with the time and the number of its arrival. -/
def State.mcQueue (s : State) (m : Nat) (request : Flit) (data : List Flit) (unit : Option McSpine) : State :=
  let q : McPending := { request := request, data := data, unit := unit, since := s.time, no := s.bulk.arrivals }
  let s1 := s.modMc m (fun x => { x with pending := x.pending ++ [q] })
  { s1 with bulk := { s1.bulk with arrivals := s.bulk.arrivals + 1 } }

/-- A flit arrives at a controller from an edge slice (R458, R459): a request, or data of the write before it. -/
def State.mcArrive (s : State) (m slice : Nat) (f : Flit) : State :=
  let l := (s.mcOf m).assembly.get [] slice ++ [f]
  match l with
  | [] => s
  | h :: data =>
    let r := requestOf h
    if data.length < r.dataFlits then s.modMc m (fun x => { x with assembly := x.assembly.set slice l })
    else ((s.modMc m (fun x => { x with assembly := x.assembly.set slice [] })).mcQueue m h data none).markBusy r

/-- MC_REQUEST (R459 to R462, R481, R615): the flit of a source entry reaches the controller, or the oldest request of its
spine tap arrives; then requests are served in the order of arrival. Nothing while the controller is not READY. -/
def effMcRequest (m : Fin 16) (src : RequestSrc) (ecc linkEcc tblEcc : Ecc) (lines : List LineFind) (s : State) : State :=
  let f : Finds := { first := some (ecc, linkEcc, tblEcc), lines := lines }
  if (s.mcOf m).st ≠ .ready then s
  else
    match src with
    | .edge a h =>
      match s.move (placeOf a) (fun x => decide ((Place.ofKey x.place).port = 13 ∧ (Place.ofKey x.place).k = mcCluster m)) h with
      | none => s
      | some (x, b, s1) => (s1.mcArrive m (Place.ofKey b.place).slice x).serveAll m f
    | .spine =>
      match (s.mcOf m).spine with
      | [] => s
      | q :: rest =>
        ((s.modMc m (fun x => { x with spine := rest })).mcQueue m { data := 0, blot := false } [] (some q)).serveAll m f
/-- MC_REQUEST. -/
def execMcRequest (m : Fin 16) (src : RequestSrc) (ecc linkEcc tblEcc : Ecc) (s : State) (lines : List LineFind := []) :
    Host.Outcome State Fault Refusal := .next (effMcRequest m src ecc linkEcc tblEcc lines s)

/-- Take the next flit of the reads that return on a slice (R459, R460): the lower 32 bytes first; none while the oldest waits for
host data. -/
def popRead (slice : Bool) (l : List McRead) : Option ((Flit × McRead) × List McRead) :=
  match l with
  | [] => none
  | r :: rest =>
    if r.slice = slice then
      if r.host.isSome then none else if r.loSent then some ((r.hi, r), rest) else some ((r.lo, r), { r with loSent := true } :: rest)
    else (popRead slice rest).map (fun e => (e.1, r :: e.2))

/-- The flit a controller returns next on a slice, with MC_LAT (R494): a read's latency counts when its first flit
leaves. -/
def State.popMcRead (s : State) (m : Nat) (slice : Bool) : Option (Flit × State) :=
  match popRead slice (s.mcOf m).reads with
  | none => none
  | some ((f, r), rest) =>
    let ns := s.time - r.since
    some (f, s.modMc m (fun x =>
      let y := { x with reads := rest }
      if r.loSent then y
      else { y with slow := if 1000 < ns then satInc y.slow else y.slow
                    maxNs := BitVec.ofNat 16 (max y.maxNs.toNat (min ns 0xFFFF)) }))

/-- The number under which the read data that crosses a controller's edge at an input slice is known, distinct from every
entry's. -/
def edgeKey (p : Place) : Nat := 2 ^ 24 + p.key

/-- The next flit of read data crosses the edge in a slot of the stroke in progress (R192, R460), once in a stroke. -/
def State.takeRead (s : State) (m : Nat) (slice : Bool) (p : Place) : State :=
  if (s.cluster p.k).router.taken.contains (edgeKey p) then s
  else
    match s.popMcRead m slice with
    | none => s
    | some (f, s1) => s1.launch p.k [edgeKey p] (s.slotCycle p) f (s.wayFrom p)

/-- Read data that no entry reads (R293) is discarded, with what the link did to it (R196). -/
def State.dropRead (s : State) (p : Place) (h : Option ParityHit) : State :=
  if (s.cluster p.k).router.flying.any (fun x => x.origins.contains (edgeKey p) && !x.lost.isEmpty) then
    s.linkHit p.k (edgeKey p) h
  else s

/-- MC_READ_DATA_RETURN (R192, R196, R293, R459, R460): the next flit of read data crosses the edge in a slot and reaches `dst`,
or is discarded where no entry reads it. -/
def effMcReadDataReturn (m : Fin 16) (slice : Bool) (slot : Byte) (dst : RulingSlot) (parity : Option ParityHit)
    (s : State) : State :=
  let p : Place := ⟨mcCluster m, 13, if slice then 1 else 0, slot.toNat⟩
  let b := placeOf dst
  if (s.part (s.partOf p.k)).paused ∨ b.port ≠ 0 then s
  else
    match s.reach p.k (edgeKey p) (fun a => a.isAt b) parity with
    | some (f, a, s1) => s1.arriveLocal a f
    | none =>
      let s0 := s.takeRead m slice p
      match s0.reach p.k (edgeKey p) (fun a => a.isAt b) parity with
      | some (f, a, s1) => s1.arriveLocal a f
      | none => s0.dropRead p parity
/-- MC_READ_DATA_RETURN. -/
def execMcReadDataReturn (m : Fin 16) (slice : Bool) (slot : Byte) (dst : RulingSlot) (parity : Option ParityHit)
    (s : State) : Host.Outcome State Fault Refusal := .next (effMcReadDataReturn m slice slot dst parity s)

/-- Take the request at the front of a controller's list where a test holds, and run a row's effect on it; the requests that
wait for it are then served (R459, R485). -/
def State.withFront (s : State) (m : Nat) (test : Request → Bool) (lines : List LineFind) (f : State → McPending → Request → State) :
    State :=
  match (s.mcOf m).pending with
  | [] => s
  | q :: rest =>
    let r := requestOf q.request
    if q.special && test r && decide ((s.mcOf m).st = .ready) && !s.mcWaits m q then
      (f (s.modMc m (fun x => { x with pending := rest })) q r).serveEvery (.of lines)
    else s

/-- Serve a position write (R482, R462). The TE checks its source unit before it sends (R164 code 0x05); a blot that a link added
on the way (R196) is consumed here. -/
def State.servePosition (s : State) (m : Nat) (q : McPending) (r : Request) : State :=
  if q.request.blot then
    match s.requestCore m r with
    | some n => s.coreError n (CoreErrKind.blotConsumed.err 5)
    | none => s
  else if !s.slotOpen r.slot (s.requestCtx m r) then s.requestFault m 4 r
  else if r.pos < (s.slot r.slot).pos ∨ 4194304 < r.pos then s.requestFault m 5 r
  else s.modSlot r.slot (fun x => { x with pos := r.pos })

/-- POSITION_WRITE (R482): the position write that the controller serves next. -/
def effPositionWrite (m : Fin 16) (lines : List LineFind) (s : State) : State :=
  s.withFront m (fun r => decide (r.kind = 4)) lines (fun t q r => t.servePosition m q r)
/-- POSITION_WRITE. -/
def execPositionWrite (m : Fin 16) (s : State) (lines : List LineFind := []) : Host.Outcome State Fault Refusal :=
  .next (effPositionWrite m lines s)

/-- Clear BUSY of a slot (R497). -/
def State.notBusy (s : State) (n : Nat) : State := s.modSlot n (fun x => { x with busy := false })

/-- A program's slot command (R484, R485): its effect and then ADD 1 to DONE_COUNTER, or the memory fault it raises. -/
def State.slotCommand (s : State) (m : Nat) (r : Request) (res : SlotRefusal ⊕ State) : State :=
  match res with
  | .inl .state => ((s.notBusy r.slot).notBusy r.other).requestFault m 4 r
  | .inl .range => ((s.notBusy r.slot).notBusy r.other).requestFault m 5 r
  | .inl .rule => ((s.notBusy r.slot).notBusy r.other).requestFault m 5 r
  | .inr t => ((t.notBusy r.slot).notBusy r.other).addDevice r.done 1

/-- Serve a FORK; `tbl` is what the read of the parent's table finds (R473). -/
def State.serveFork (s : State) (m : Nat) (r : Request) (tbl : List (BitVec 22 × Ecc)) (lines : List LineFind) : State :=
  let c := s.requestCtx m r
  let t := s.readTable c r.slot tbl lines
  t.slotCommand m r (t.forkSlot c r.slot r.other r.pos)

/-- Serve a REWIND; `tbl` is what the read of the slot's table finds (R473). -/
def State.serveRewind (s : State) (m : Nat) (r : Request) (tbl : List (BitVec 22 × Ecc)) (lines : List LineFind) : State :=
  let c := s.requestCtx m r
  let t := s.readTable c r.slot tbl lines
  t.slotCommand m r (t.rewindSlot c r.slot r.pos)

/-- Serve an ACCEPT; `tbl` and `child` are what the reads of the two tables find (R473). -/
def State.serveAccept (s : State) (m : Nat) (r : Request) (tbl child : List (BitVec 22 × Ecc)) (lines : List LineFind) : State :=
  let c := s.requestCtx m r
  let t := (s.readTable c r.slot tbl lines).readTable c r.other child lines
  t.slotCommand m r (t.acceptSlot c r.slot r.other)

/-- Serve a request that waits at a controller, whichever row it has; `l` is what its reads find. -/
def State.serveAny (s : State) (m : Nat) (q : McPending) (l : List LineFind) : State :=
  let r := requestOf q.request
  if !q.special then s.serve m q (.of l)
  else if r.kind = 4 then s.servePosition m q r
  else if r.op = 3 then s.serveFork m r [] l
  else if r.op = 4 then s.serveRewind m r [] l
  else s.serveAccept m r [] [] l

/-- Serve what came to a controller before a host access (R459, R463), up to a request whose channel a check holds (R465). -/
def State.serveBefore (fuel : Nat) (s : State) (m : Nat) (l : List LineFind) : State :=
  match fuel with
  | 0 => s
  | f + 1 =>
    match (s.mcOf m).pending with
    | [] => s
    | q :: rest =>
      if s.mcHolds m q then s
      else State.serveBefore f ((s.modMc m (fun x => { x with pending := rest })).serveAny m q l) m l

/-- A controller completes the requests that it holds and the units on its spine tap (R459, R467); nothing behind a request whose
channel a check holds. -/
def State.completeHeld (s : State) (m : Nat) (l : List LineFind) : State :=
  let t := State.serveBefore ((s.mcOf m).pending.length) s m l
  if (t.mcOf m).pending.isEmpty then
    (t.mcOf m).spine.foldl (fun t u => t.serveUnit u) (t.modMc m (fun y => { y with spine := [] }))
  else t

/-- SLOT_CMD_FORK (R483 to R485): the FORK that the controller serves next. -/
def effSlotCmdFork (m : Fin 16) (tbl : List (BitVec 22 × Ecc)) (lines : List LineFind) (s : State) : State :=
  s.withFront m (fun r => decide (r.kind = 5 ∧ r.op = 3)) lines (fun t _ r => t.serveFork m r tbl lines)
/-- SLOT_CMD_FORK. -/
def execSlotCmdFork (m : Fin 16) (s : State) (tbl : List (BitVec 22 × Ecc) := []) (lines : List LineFind := []) :
    Host.Outcome State Fault Refusal := .next (effSlotCmdFork m tbl lines s)

/-- SLOT_CMD_REWIND (R483 to R485). -/
def effSlotCmdRewind (m : Fin 16) (tbl : List (BitVec 22 × Ecc)) (lines : List LineFind) (s : State) : State :=
  s.withFront m (fun r => decide (r.kind = 5 ∧ r.op = 4)) lines (fun t _ r => t.serveRewind m r tbl lines)
/-- SLOT_CMD_REWIND. -/
def execSlotCmdRewind (m : Fin 16) (s : State) (tbl : List (BitVec 22 × Ecc) := []) (lines : List LineFind := []) :
    Host.Outcome State Fault Refusal := .next (effSlotCmdRewind m tbl lines s)

/-- SLOT_CMD_ACCEPT (R483 to R485). -/
def effSlotCmdAccept (m : Fin 16) (tbl child : List (BitVec 22 × Ecc)) (lines : List LineFind) (s : State) : State :=
  s.withFront m (fun r => decide (r.kind = 5 ∧ r.op = 5)) lines (fun t _ r => t.serveAccept m r tbl child lines)
/-- SLOT_CMD_ACCEPT. -/
def execSlotCmdAccept (m : Fin 16) (s : State) (tbl child : List (BitVec 22 × Ecc) := []) (lines : List LineFind := []) :
    Host.Outcome State Fault Refusal := .next (effSlotCmdAccept m tbl child lines s)

/-- MC_REFRESH (R464): a per-bank refresh; no data changes. -/
def effMcRefresh (m : Fin 16) (s : State) : State :=
  if (s.mcOf m).st = .ready then s.modMc m (fun x => { x with refreshes := x.refreshes + 1 }) else s
/-- MC_REFRESH. -/
def execMcRefresh (m : Fin 16) (s : State) : Host.Outcome State Fault Refusal := .next (effMcRefresh m s)

/-- MC_WCK_CHECK (R465, R490): an interval-oscillator check of a channel begins or ends; RETUNING shows it, and the
requests that it held are served at its end. -/
def effMcWckCheck (m : Fin 16) (chan : BitVec 2) (begin_ : Bool) (lines : List LineFind) (s : State) : State :=
  let bit := BitVec.ofNat 4 (2 ^ chan.toNat)
  if (s.mcOf m).st ≠ .ready then s
  else if begin_ then s.modMc m (fun x => { x with held := x.held ||| bit })
  else (s.modMc m (fun x => { x with held := x.held &&& ~~~bit })).serveAll m (.of lines)
/-- MC_WCK_CHECK. -/
def execMcWckCheck (m : Fin 16) (chan : BitVec 2) (begin_ : Bool) (s : State) (lines : List LineFind := []) :
    Host.Outcome State Fault Refusal := .next (effMcWckCheck m chan begin_ lines s)

/-- MC_LINK_POLL (R452, R491): the write link errors that the package reports are counted. -/
def effMcLinkPoll (m : Fin 16) (errors : Byte) (s : State) : State :=
  if (s.mcOf m).st = .ready then s.modMc m (fun x => { x with writeErr := satAdd x.writeErr errors.toNat }) else s
/-- MC_LINK_POLL. -/
def execMcLinkPoll (m : Fin 16) (errors : Byte) (s : State) : Host.Outcome State Fault Refusal :=
  .next (effMcLinkPoll m errors s)

/-- Lines of a package (R440): 90 GiB. -/
def packageLines : Nat := 90 * gib / 64

/-- The device address of line l of package m (R442). -/
def State.packageLine (s : State) (m l : Nat) : Nat :=
  let g := l / 4
  let low := l % 4 * 64
  if s.dev.mode = 0 then (g * 16 + m) * 256 + low
  else if s.dev.mode = 1 then quarterBase (2 * (m / 8)) + (g * 8 + m % 8) * 256 + low
  else quarterBase (m / 4) + (g * 4 + m % 4) * 256 + low

/-- MC_SCRUB_READ (R449, R450, R452, R453, R454, R494): scrub reads the next line of the package, unless a check holds its channel
(R465). -/
def effMcScrubRead (m : Fin 16) (ecc linkEcc : Ecc) (s : State) : State :=
  let l := (s.mcOf m).scrubLine
  if (s.mcOf m).st ≠ .ready ∨ (s.mcOf m).held.getLsbD (s.chanAt (s.packageLine m l)) then s
  else
    let s1 := s.mcFind m (s.packageLine m l) ecc linkEcc
    s1.modMc m (fun x =>
      if packageLines ≤ l + 1 then { x with scrubLine := 0, passes := satInc x.passes, passCorr := [] }
      else { x with scrubLine := l + 1 })
/-- MC_SCRUB_READ. -/
def execMcScrubRead (m : Fin 16) (ecc : Ecc) (s : State) (linkEcc : Ecc := .ok) : Host.Outcome State Fault Refusal :=
  .next (effMcScrubRead m ecc linkEcc s)

end Sys2Proof.Machine
end

