-- ==== Sys2Proof/Machine/Inkwell.lean ====
section
/-!
DEFINITION. The service side of an inkwell (07 R410 to R413, R417, R420, R425, R427): addressed landings and scrub.
-/
namespace Sys2Proof.Machine

/-- The fields of a landing header (R411): SRC_DEVICE, WINDOW, REMOTE, data flits, OFFSET. -/
structure LandHeader where
  src : Half
  window : Nat
  isRemote : Bool
  count : Nat
  off : Nat
  deriving DecidableEq, Repr

/-- Read a landing header (R411). -/
def landFields (d : BitVec 256) : LandHeader :=
  { src := d.extractLsb' 176 16, window := (d.extractLsb' 170 6).toNat, isRemote := d.getLsbD 169,
    count := (d.extractLsb' 160 3).toNat + 1, off := (d.extractLsb' 0 27).toNat }

/-- Whether a landing falls outside the backed inkwell of cluster k (R413, R418). -/
def State.landOutside (s : State) (k : Nat) (h : LandHeader) : Bool :=
  decide ((if (s.cluster k).ink.checking then 0x05E80000 else inkSize) < h.off + 32 * h.count)

/-- Whether window w lets 32 bytes at an offset of cluster k's inkwell be written from a device (R427). -/
def State.windowAdmits (s : State) (k : Nat) (h : LandHeader) (off : Nat) : Bool :=
  let w := s.window h.window
  w.opened && decide (w.target = 0) && decide (w.cluster = k) && decide (w.peer = h.src) && decide (w.base ≤ off) &&
    decide (off + 32 ≤ w.base + w.length)

/-- The flits of a stream of core n. -/
def State.streamOf (s : State) (n st : Nat) : List Flit := (s.core n).te.stream.get [] st

/-- Take the first flits of a stream. -/
def State.dropStream (s : State) (n st m : Nat) : State :=
  s.modTe n (fun e => { e with stream := e.stream.set st ((e.stream.get [] st).drop m) })

/-- Begin the next landing (R412): the one whose header entered first among the cluster's addressed streams. -/
def State.beginLanding (s : State) (k : Nat) : State :=
  let i := (s.cluster k).ink
  match i.landing, i.landOrder with
  | none, x :: rest =>
    let n := 32 * k + x.key / 8
    let st := x.key % 8
    match s.streamOf n st with
    | h :: _ =>
      (s.dropStream n st 1).modInk k (fun x =>
        { x with landing := some { core := n, stream := st, header := h.data, done := 0 }, landOrder := rest })
    | [] => s
  | _, _ => s

/-- Count flits dropped (R413, R427, R429). -/
def State.countWinDropInk (s : State) (k n : Nat) : State := s.modInk k (fun x => { x with winDrop := satAdd x.winDrop n })

/-- A service write lost bytes to the core side (R417): counted once. -/
def State.countCollide (s : State) (k n : Nat) : State := s.modInk k (fun x => { x with collide := satAdd x.collide n })

/-- Write one data flit at an offset (R412, R420, R417): a service write of the whole unit. Bytes that the core side wrote
in the same cycle (`hit`) prevail with the unit's blot. -/
def State.serviceWrite (s : State) (k off : Nat) (f : Flit) (hit : BitVec 32) : State :=
  let a := inkBase k + off
  let bs := toLe f.data.toNat 32
  if hit = 0 then
    let m := s.store.write a bs f.blot
    { s with store := if (s.cluster k).ink.checking then { m with fills := Units.add m.fills (a / 32) } else m }
  else
    let mem := bs.zipIdx.foldl (fun r e => if hit.getLsbD e.2 then r else Memory.write r (a + e.2) e.1) s.store.mem
    { s with store := { s.store with mem := mem } }

/-- The landing in progress advances by m flits, and ends with the last (R412). -/
def State.landingAdvance (s : State) (k m : Nat) : State :=
  s.modInk k (fun x => { x with landing := match x.landing with
    | some l => if l.done + m < (landFields l.header).count then some { l with done := l.done + m } else none
    | none => none })

/-- Whether a data flit of a landing is written at an offset (R413, R427). -/
def State.landAdmits (s : State) (k : Nat) (h : LandHeader) (off : Nat) : Bool :=
  !s.landOutside k h && (!h.isRemote || s.windowAdmits k h off)

/-- One data flit of the landing in progress (R413, R427, R618): dropped or written. -/
def State.landOne (s : State) (k : Nat) (h : LandHeader) (off : Nat) (f : Flit) (hit : BitVec 32) : State :=
  if !s.landAdmits k h off then s.countWinDropInk k 1
  else
    let s1 := s.serviceWrite k off f hit
    if h.isRemote then s1.modWindow h.window (fun w => { w with landed := w.landed + 1 }) else s1

/-- How many data flits a slot writes (R412): two where both are present and lie in one half-row of 64 bytes. -/
def slotFlits (present left off : Nat) : Nat :=
  if 2 ≤ present ∧ 2 ≤ left ∧ off / 64 = (off + 32) / 64 then 2 else min 1 (min present left)

/-- The 64-bit words of a 64-byte service access, by the 16 words they hold (R422). -/
def slotWords (off : Nat) : List Nat := (List.range 16).map (fun i => off + 4 * i)

/-- LANDING_SLOT_WRITE (R396, R397, R412, R413, R417, R420, R424, R427): a landing slot writes the next one or two data flits
of the landing in progress; there is none while no context runs on the partition, and a checkpoint's pause and a lock-step
freeze suspend it (R665, R755). -/
def effLandingSlotWrite (k : Fin 48) (ecc : List (Nat × Ecc)) (collide : BitVec 64) (s : State) : State :=
  let p := s.partOf k
  if (s.part p).ckptPause.isSome || !s.domOn k || (s.liveContexts p).isEmpty then s
  else
    let s1 := (s.inkSettle k).beginLanding k
    match (s1.cluster k).ink.landing with
    | none => s1
    | some l =>
      let h := landFields l.header
      let fs := s1.streamOf l.core l.stream
      let off := h.off + 32 * l.done
      match slotFlits fs.length (h.count - l.done) off with
      | 0 => s1
      | m =>
        let s2 := (s1.dropStream l.core l.stream m).inkFind k ((slotWords off).take (8 * m)) 2 0 ecc
        let hit := (List.range m).any (fun i =>
          s2.landAdmits k h (off + 32 * i) && decide (collide.extractLsb' (32 * i) 32 ≠ 0))
        let s3 := (fs.take m).zipIdx.foldl (fun t e => 
          t.landOne k h (off + 32 * e.2) e.1 (collide.extractLsb' (32 * e.2) 32)) s2
        (if hit then s3.countCollide k 1 else s3).landingAdvance k m
/-- LANDING_SLOT_WRITE. -/
def execLandingSlotWrite (k : Fin 48) (ecc : List (Nat × Ecc)) (collide : BitVec 64) (s : State) : Host.Outcome State Fault Refusal :=
  .next (effLandingSlotWrite k ecc collide s)

/-- Scrub positions of an inkwell (R425): 64-byte units. -/
def scrubEnd : Nat := 1572864

/-- SCRUB_ACCESS (R422 to R425, R436): scrub reads the next 64 bytes; at the end it wraps and a pass is counted. -/
def effScrubAccess (k : Fin 48) (ecc : List (Nat × Ecc)) (split : List Nat) (s : State) : State :=
  let i := (s.cluster k).ink
  if !i.scrub || !s.domOn k then s
  else
    let off := i.position.toNat * 64
    let s1 := ((s.inkSettle k).inkFind k (slotWords off) 3 0 ecc).inkSplits k (slotWords off) split
    s1.modInk k (fun x =>
      if scrubEnd ≤ x.position.toNat + 1 then { x with position := 0, passes := satInc x.passes }
      else { x with position := x.position + 1 })
/-- SCRUB_ACCESS. -/
def execScrubAccess (k : Fin 48) (ecc : List (Nat × Ecc)) (split : List Nat) (s : State) : Host.Outcome State Fault Refusal :=
  .next (effScrubAccess k ecc split s)

/-! ### Window closes (R429, R612) -/

/-- What a window close leaves of the flits of a stream. -/
structure Scan where
  kept : List Flit
  dropped : Nat
  heads : List Bool
  unfinished : Bool
  deriving DecidableEq, Repr

/-- Drop the landings of window w from the flits of a stream, of which the first `left` belong to a landing begun, dropped or
not: the others stay, data flits that go are counted, `heads` says of each header whether it goes, `unfinished` that flits of a
dropped landing are still to come (R429). -/
def scanClosed (w : Nat) (l : List Flit) (left : Nat) (drop : Bool) : Scan :=
  match l with
  | [] => { kept := [], dropped := 0, heads := [], unfinished := drop && decide (0 < left) }
  | f :: r =>
    if left = 0 then
      let h := landFields f.data
      let d := h.isRemote && decide (h.window = w)
      let z := scanClosed w r h.count d
      { z with kept := if d then z.kept else f :: z.kept, heads := d :: z.heads }
    else
      let z := scanClosed w r (left - 1) drop
      if drop then { z with dropped := z.dropped + 1 } else { z with kept := f :: z.kept }

/-- The landings of one stream that stay in the order of landings: `heads` says of each, oldest first, whether it goes. -/
def keepOrder (key : Nat) (heads : List Bool) (l : List LandKey) : List LandKey :=
  match l with
  | [] => []
  | x :: r =>
    if x.key = key then
      match heads with
      | true :: h => keepOrder key h r
      | false :: h => x :: keepOrder key h r
      | [] => x :: r
    else x :: keepOrder key heads r

/-- The landings of window w in one addressed stream of cluster k are dropped and counted (R429). -/
def State.closeStream (s : State) (k w key : Nat) : State :=
  let n := 32 * k + key / 8
  let st := key % 8
  let i := (s.cluster k).ink
  let mine := match i.landing with
    | some l => if l.core = n ∧ l.stream = st then some (landFields l.header, l.done) else none
    | none => none
  let hit := match mine with
    | some x => x.1.isRemote && decide (x.1.window = w)
    | none => false
  let left := match mine with
    | some x => x.1.count - x.2
    | none => 0
  let l := s.streamOf n st
  if !(s.core n).te.addressed.getLsbD st || (l.isEmpty && !hit) then s
  else
    let z := scanClosed w l left hit
    (s.modTe n (fun e => { e with stream := e.stream.set st z.kept })).modInk k (fun x =>
      { x with landing := if hit then none else x.landing, landOrder := keepOrder key z.heads x.landOrder
               landDead := if z.unfinished then key :: x.landDead else x.landDead, winDrop := satAdd x.winDrop z.dropped })

/-- The landings of window w that still wait whole at the port by which its flits enter are dropped and counted at cluster k
(R429). -/
def State.closePort (s : State) (k w : Nat) : State :=
  let x := s.window w
  let p := s.port x.entryPort
  let z := scanClosed w (p.landings.get [] x.entrySlice) (p.landLeft.get 0 x.entrySlice) false
  if z.dropped = 0 then s
  else
    (s.modPort x.entryPort (fun p =>
      { p with landings := p.landings.set x.entrySlice z.kept, landUnits := p.landUnits - z.dropped })).countWinDropInk k z.dropped

/-- The flits of an inkwell window that are not written by the edge of its close are dropped (R429). Those on the links of the
dies at that edge are judged as they arrive (DESIGN CHOICE, log 126). -/
def State.closeLandings (s : State) (w : Nat) : State :=
  let x := s.window w
  if x.target = 0 then ((List.range 256).foldl (fun t key => t.closeStream x.cluster w key) s).closePort x.cluster w else s

/-- The CLOSE_WINDOW commands that wait for window w. -/
def State.closeJobs (s : State) (w : Nat) : List Nat :=
  (s.host.jobs.filter (fun e => match e.2.cmd with
    | .closeWindow _ n => decide (n.toNat = w)
    | _ => false)).map (fun e => e.1)

/-- A window closes at an edge of its partition (R429, R612); a CLOSE_WINDOW that waited completes. -/
def State.shutWindow (s : State) (w : Nat) : State :=
  let x := s.window w
  ((s.closeLandings w).modWindow w (fun y => { y with opened := false, closing := false, closed := true })).finishAll
    (s.closeJobs w) .ok (s.ctxStroke (4 * x.part + x.ctx)).toNat

/-- Close the windows of a context (R612). -/
def State.closeWindows (s : State) (c : Nat) : State :=
  (List.range 64).foldl (fun t w =>
    let x := t.window w
    if (x.opened || x.closing) && decide (4 * x.part + x.ctx = c) then t.shutWindow w else t) s

end Sys2Proof.Machine
end

