-- ==== Sys2Proof/Machine/DevMemory.lean ====
section
/-!
DEFINITION. Device memory as the host and the Quill reach it (01 R47, R50, R51; 07 R422 to R424, R433; 08 R449, R450, R459):
the store that an address names, and what an access of it finds.
-/
namespace Sys2Proof.Machine

/-! ### Device physical addresses (R47)

An access of the host to an inkwell is one of the Quill's accesses, which have service slots whether a context runs on the
partition or not (R397; DESIGN CHOICE, log 134). -/

/-- What a backed device physical address names (R47). -/
inductive DevMem where
  | bulk
  | ink (k : Nat)
  | loc (n : Nat)
  deriving DecidableEq, Repr

/-- The backed store that n bytes from an address lie in (R47, R50, R51); none where any of them is not backed. -/
def State.devMem (s : State) (a n : Nat) : Option DevMem :=
  let e := a + n
  if e ≤ bulkEnd then some .bulk
  else if inkBase 0 ≤ a ∧ a < inkBase 48 then
    let k := (a - inkBase 0) / 0x10000000
    if e ≤ inkBase k + s.inkLimit k then some (.ink k) else none
  else if lsBase 0 ≤ a ∧ a < lsBase 1536 then
    let j := (a - lsBase 0) / 0x100000
    if e ≤ lsBase j + lsSize ∧ s.domOn (kOf j) then some (.loc j) else none
  else none

/-- The partition whose resources n bytes of a store lie in; none where they span two (R513, R560). -/
def State.devPart (s : State) (m : DevMem) (a n : Nat) : Option Nat :=
  match m with
  | .bulk =>
    let p := partOfQuarter s.dev.mode (a / quarterSize)
    if partOfQuarter s.dev.mode ((a + n - 1) / quarterSize) = p then some p else none
  | .ink k => some (s.partOf k)
  | .loc j => some (s.partOf (kOf j))

/-- What a read of a store finds at an address (R135, R423, R424, R433 KIND 2, R449, R450, R473). -/
def State.devEcc (s : State) (m : DevMem) (a : Nat) (e : Ecc) : State :=
  match m with
  | .bulk => s.mcFind (s.mcAt a) (a / 64 * 64) e .ok
  | .ink k => s.inkEcc k (a - inkBase k) 2 0 e
  | .loc j => s.lsEcc j (s.issueBase j) (a - lsBase j) e

/-- What the accesses of a range find, by address (R423, R424): findings outside the range's lines are not its own. -/
def State.devEccs (s : State) (m : DevMem) (a n : Nat) (l : List (DWord × Ecc)) : State :=
  (l.filter (fun e => decide (a / 64 * 64 ≤ e.1.toNat ∧ e.1.toNat < (a + n + 63) / 64 * 64))).foldl
    (fun t e => t.devEcc m e.1.toNat e.2) s

/-- The inkwell units of a range whose blot copies disagree (R422). -/
def State.devSplits (s : State) (m : DevMem) (a n : Nat) (l : List DWord) : State :=
  match m with
  | .ink k => (l.filter (fun e => decide (a / 32 * 32 ≤ e.toNat ∧ e.toNat < a + n))).foldl
      (fun t e => t.inkSplit k (e.toNat - inkBase k)) s
  | _ => s

/-- The controllers that serve n bytes of bulk memory from an address (R442). -/
def State.bulkControllers (s : State) (a n : Nat) : List Nat :=
  (List.range 16).filter (fun m =>
    (List.range (min 16 (n / 256 + 2))).any (fun i =>
      decide (a / 256 * 256 + 256 * i < a + n) && decide (s.mcAt (a / 256 * 256 + 256 * i) = m)))

/-- What the accesses of a range find; `lines` names the lines of bulk memory whose read link ECC found errors too (R452). -/
def State.devFinds (s : State) (m : DevMem) (a n : Nat) (l : List (DWord × Ecc)) (lines : List LineFind) : State :=
  let t := s.devEccs m a n l
  match m with
  | .bulk => t.mcLines a n lines
  | _ => t

/-- Whether an interval-oscillator check holds a channel that n bytes of bulk memory from an address use (R465); channels
repeat every 64 granules at most (R442). -/
def State.devHeld (s : State) (a n : Nat) : Bool :=
  (List.range (min 65 (n / 256 + 2))).any (fun i =>
    let g := a / 256 * 256 + 256 * i
    decide (g < a + n) && (s.mcOf (s.mcAt g)).held.getLsbD (s.chanAt g))

/-- A host access of n bytes comes after the requests that reached the controllers before it (R459, R463). It waits (none) for
a controller that is not READY (R467), for a channel under check and for a request before it that waits (R465); `lines` is what
the reads of those requests find. The access then comes again (DESIGN CHOICE, log 141). -/
def State.devReady (s : State) (m : DevMem) (a n : Nat) (lines : List LineFind) : Option State :=
  match m with
  | .bulk =>
    let ms := s.bulkControllers a n
    let t := ms.foldl (fun t c => t.completeHeld c lines) s
    if ms.all (fun c => decide ((t.mcOf c).st = .ready) && (t.mcOf c).pending.isEmpty) && !t.devHeld a n then some t else none
  | _ => some s

/-- The store that a host write meets: what a core has under way in its local store is done before (log 95), as are the late
writes of an inkwell (log 118). -/
def State.devSettle (s : State) (m : DevMem) : State :=
  match m with
  | .loc j => (s.judgeLoad j).lsSettle j
  | .ink k => s.inkSettle k
  | .bulk => s

/-- The storage a host read of a store sees: for a local store with what its core has under way done (log 95), for an inkwell
with its late writes (log 118). -/
def State.devStore (s : State) (m : DevMem) : Store :=
  match m with
  | .loc j => s.lsFinal j
  | .ink k => (s.inkSettle k).store
  | .bulk => s.store

/-- What the Quill's reads of a set of addresses find (R424, R433 KIND 2, R450, R473), by address: ECC findings, and the
inkwell units whose blot copies disagree (R422). -/
def State.quillFinds (s : State) (reads : DevMem → Nat → Bool) (find : List (DWord × Ecc)) (split : List DWord) : State :=
  let t := find.foldl (fun (t : State) e => match t.devMem e.1.toNat 1 with
    | some m => if reads m e.1.toNat then t.devEcc m e.1.toNat e.2 else t
    | none => t) s
  split.foldl (fun (t : State) a => match t.devMem a.toNat 1 with
    | some (.ink k) => if reads (.ink k) a.toNat then t.inkSplit k (a.toNat - inkBase k) else t
    | _ => t) t

end Sys2Proof.Machine
end

