-- ==== Sys2Proof/Machine/ScrollFormat.lean ====
section
/-!
DEFINITION. The scroll (04 R237 to R243; 05 R285, R286; 06 R365 to R367; 11 R661, R662): its sections, the images they
hold, and the checks that LOAD_SCROLL makes of the scroll alone.
-/
namespace Sys2Proof.Machine

/-- Little-endian words of a byte string, at most n of them. -/
def wordsOf (n : Nat) (b : List Byte) : List Word :=
  match n with
  | 0 => []
  | k + 1 => if b.isEmpty then [] else BitVec.ofNat 32 (fld b 0 4) :: wordsOf k (b.drop 4)

/-! ### Header and section table (R239, R240) -/

/-- The section a table entry names, with its bytes; none where they lie beyond the scroll. -/
def sectionAt (b : List Byte) (o : Nat) : Option Section :=
  let off := fld b (o + 8) 8
  let len := fld b (o + 16) 8
  if b.length < o + 32 ∨ b.length < off + len then none
  else some { type := fld b o 2, layout := fld b (o + 2) 1, cluster := fld b (o + 3) 1, core := fld b (o + 4) 1,
              dest := BitVec.ofNat 64 (fld b (o + 24) 8), bytes := (b.drop off).take len }

/-- The sections of a scroll in section table order, but for optional ones, which the device ignores (R241); none where one
lies beyond the scroll. -/
def sectionsOf (b : List Byte) : Option (List Section) :=
  let n := fld b 16 4
  let t := fld b 24 8
  if b.length < t + 32 * n then none
  else ((List.range n).filter (fun i => decide (fld b (t + 32 * i) 2 < 0x8000))).mapM (fun i => sectionAt b (t + 32 * i))

/-- MAGIC, FORMAT, HEADER_SIZE and TOTAL_SIZE (R239, R556). -/
def headerOk (b : List Byte) (len : Nat) : Bool :=
  decide (64 ≤ b.length) && decide (fld b 0 4 = 0x4C524B53) && decide (fld b 4 2 = 1) && decide (fld b 6 2 = 64) &&
    decide (fld b 8 8 = len) && decide (b.length = len)

/-- The sections of a type that serve layout l (R240). -/
def secsOf (ss : List Section) (t l : Nat) : List Section :=
  ss.filter (fun x => decide (x.type = t) && (decide (x.layout = l) || decide (x.layout = 0xFF)))

/-- The layouts of a scroll: INDEX and record (R229). -/
def layoutsOf (ss : List Section) : List (Nat × List Byte) :=
  (ss.filter (fun x => decide (x.type = 2))).map (fun x => (fld x.bytes 0 1, x.bytes))

/-- SEAM_RATIO of a layout record. -/
def laySeam (r : List Byte) : Nat := fld r 1 1
/-- AVOID of a layout record. -/
def layAvoid (r : List Byte) : Nat := fld r 8 8
/-- CMAP entry of logical cluster c of a layout record. -/
def layMap (r : List Byte) (c : Nat) : Nat := fld r (16 + c) 1
/-- The logical cluster that a layout places on physical cluster k. -/
def layLogical (r : List Byte) (n k : Nat) : Option Nat := (List.range n).find? (fun c => decide (layMap r c = k))

/-! ### Rulings (R199) -/

/-- Ports set in PORT_MASK, in ascending code. -/
def maskPorts (m : Nat) : List Nat := (List.range 16).filter (fun o => decide (m / 2 ^ o % 2 = 1))

/-- The nonzero entries of the table of one port, at their indices. -/
def tableEntries (o : Nat) (ws : List Word) : Tbl Word :=
  (ws.zipIdx.filter (fun e => decide (e.1 ≠ 0))).map (fun e => (o * 1024 + e.2, e.1))

/-- The ruling of an image. -/
def rulingOf (b : List Byte) : Ruling :=
  let m := fld b 0 2
  { portMask := BitVec.ofNat 16 m, next := BitVec.ofNat 8 (fld b 2 1), repeatStrokes := BitVec.ofNat 32 (fld b 4 4),
    entries := (maskPorts m).zipIdx.flatMap (fun e =>
      tableEntries e.1 (wordsOf 1024 ((b.drop (16 + 4096 * e.2)).take 4096))) }

/-- The ruling image that serves physical cluster k, ruling index i and layout l. -/
def rulingSec (ss : List Section) (l k i : Nat) : Option Section :=
  (secsOf ss 3 l).find? (fun x => decide (x.cluster = k ∧ x.core = i))

/-- The routers of a layout (R288): physical clusters with a ruling image for it. -/
def routersOf (ss : List Section) (l : Nat) : List Nat :=
  (List.range 48).filter (fun k => (secsOf ss 3 l).any (fun x => decide (x.cluster = k)))

/-- Slices of a port (R189). -/
def portSlices (port : Nat) : Nat := if port ≤ 4 then 4 else if port ≤ 12 then 1 else 2

/-- The cluster a link port leads to under a partition mode, without regard to the mode in force (R27, R28, R30). -/
def linkIn (mode k port : Nat) : Option Nat :=
  match portStep port with
  | none => none
  | some (dc, dr) =>
    let c := (colOf k : Int) + dc
    let r := (rowOf k : Int) + dr
    if c < 0 ∨ 8 ≤ c ∨ r < 0 ∨ 6 ≤ r then none
    else
      let k2 := r.toNat * 8 + c.toNat
      let part := fun (x : Nat) => partOfQuarter (BitVec.ofNat 2 mode) (quarterOf x)
      if crossesSeam (colOf k) (colOf k2) && decide (4 < port) then none
      else if part k ≠ part k2 then none else some k2

/-- Whether a port is present at cluster k and its link allowed under a mode (R189, R28, R30). -/
def portPresent (mode k port : Nat) : Bool :=
  if port = 0 then true
  else if port ≤ 12 then (linkIn mode k port).isSome
  else if port = 13 then (edgeMc k).isSome
  else (edgePort k port).isSome

/-- Clusters of the partition of a mode that begins at quarter p. -/
def inPart (mode p k : Nat) : Bool := decide (partOfQuarter (BitVec.ofNat 2 mode) (quarterOf k) = p)

/-- Whether a cluster's half is at 1:2 under a seam ratio code (R217). -/
def slowHalf (seam k : Nat) : Bool :=
  (decide (seam = 1) && decide (colOf k < 4)) || (decide (seam = 2) && decide (4 ≤ colOf k))

/-! ### Core configurations (05 R285; 06 R365; 07 R410) -/

/-- A CORE_CONFIG section, its fields read from its bytes. -/
def cfgEntry (b : List Byte) : Nat := fld b 0 2
/-- CONFIG_ID. -/
def cfgId (b : List Byte) : Nat := fld b 8 1
/-- ROLE_EPOCH. -/
def cfgRole (b : List Byte) : Nat := fld b 9 1
/-- STEER_CFG image of unit u. -/
def cfgSteer (b : List Byte) (u : Nat) : Word := BitVec.ofNat 32 (fld b (16 + 4 * u) 4)
/-- CHAN_REPOCH of channel n. -/
def cfgChan (b : List Byte) (n : Nat) : Nat := fld b (32 + n) 1
/-- QMODE. -/
def cfgQmode (b : List Byte) : Nat := fld b 64 2
/-- QMODE of queue q. -/
def cfgMode (b : List Byte) (q : Nat) : Nat := cfgQmode b / 2 ^ (2 * q) % 4
/-- SELECT. -/
def cfgSelect (b : List Byte) : Nat := fld b 66 1
/-- ECHAN_FREE. -/
def cfgFree (b : List Byte) : Nat := fld b 67 1
/-- FDEST of channel n. -/
def cfgFdest (b : List Byte) (n : Nat) : Word := BitVec.ofNat 32 (fld b (72 + 4 * n) 4)
/-- Addressed landing streams (R410). -/
def cfgAddressed (b : List Byte) : Nat := fld b 128 1

/-- The CORE_CONFIG sections of a logical core for a layout. -/
def configsOf (ss : List Section) (l c e : Nat) : List (List Byte) :=
  ((secsOf ss 5 l).filter (fun x => decide (x.cluster = c ∧ x.core = e))).map (fun x => x.bytes)

/-- The configuration with a CONFIG_ID of a logical core. -/
def configOf (ss : List Section) (l c e i : Nat) : Option (List Byte) :=
  (configsOf ss l c e).find? (fun b => decide (cfgId b = i))

/-- The instruction image of a logical core for a layout. -/
def instrSec (ss : List Section) (l c e : Nat) : Option Section :=
  (secsOf ss 4 l).find? (fun x => decide (x.cluster = c ∧ x.core = e))

/-- The logical cores of a layout: those with an INSTR section, as (cluster, core). -/
def rolesOf (ss : List Section) (l : Nat) : List (Nat × Nat) := (secsOf ss 4 l).map (fun x => (x.cluster, x.core))

/-! ### SYNC_INIT (06 R366) -/

/-- A SYNC_INIT record: the cluster of its section, KIND, index, and two words. -/
structure SyncRec where
  cluster : Nat
  kind : Nat
  index : Nat
  a : Word
  b : Word
  deriving DecidableEq, Repr

/-- The records of a SYNC_INIT section. -/
def syncRecs (x : Section) : List SyncRec :=
  (List.range (x.bytes.length / 16)).map (fun i =>
    let r := (x.bytes.drop (16 * i)).take 16
    let kind := fld r 0 1
    { cluster := x.cluster, kind := kind, index := if kind = 1 then fld r 2 2 else fld r 1 1,
      a := BitVec.ofNat 32 (fld r 4 4), b := BitVec.ofNat 32 (fld r 8 4) })

/-- The records of a layout in section table order. -/
def syncOf (ss : List Section) (l : Nat) : List SyncRec := (secsOf ss 9 l).flatMap syncRecs

/-- The combining records that are not OFF (R366). -/
def combiningOf (ss : List Section) (l : Nat) : List SyncRec :=
  (syncOf ss l).filter (fun r => decide (r.kind = 2) && decide ((cqCfg r.a r.b).mode ≠ 0))

/-! ### Quiet points (11 R661, R662) -/

/-- A quiet point of a layout. -/
structure QuietPoint where
  index : Word
  counter : Word
  value : Word
  configId : Nat
  resume : Nat
  deriving DecidableEq, Repr

/-- The QUIET_POINTS section of a layout (R243). One whose LAYOUT is 0xFF serves no layout and is not rejected (DESIGN CHOICE,
log 131). -/
def quietSec (ss : List Section) (l : Nat) : Option Section :=
  ss.find? (fun x => decide (x.type = 0xA) && decide (x.layout = l))

/-- The quiet points of a layout. -/
def quietOf (ss : List Section) (l : Nat) : List QuietPoint :=
  match quietSec ss l with
  | none => []
  | some x => (List.range (fld x.bytes 0 4)).map (fun i =>
      let r := (x.bytes.drop (16 + 32 * i)).take 32
      { index := BitVec.ofNat 32 (fld r 0 4), counter := BitVec.ofNat 32 (fld r 4 4),
        value := BitVec.ofNat 32 (fld r 8 4), configId := fld r 12 1, resume := fld r 16 8 })

/-- The resume entry of logical cluster c at a quiet point: ruling and REPEAT position (R662). -/
def resumeCluster (x : Section) (q : QuietPoint) (c : Nat) : Nat × Nat :=
  (fld x.bytes (q.resume + 8 * c) 1, fld x.bytes (q.resume + 8 * c + 4) 4)

/-- The resume entry of a logical core at a quiet point (R662). -/
def resumeCore (x : Section) (q : QuietPoint) (clusters grade c e : Nat) : Nat :=
  fld x.bytes (q.resume + 8 * clusters + 4 * (c * grade + e)) 4

/-! ### The checks (R243 stage 2, R286, R367) -/

/-- Whether no element of a list equals a later one. -/
def noRepeat {α : Type} [DecidableEq α] (l : List α) : Bool := decide l.Nodup

/-- The target descriptor's fields (R237). -/
structure Target where
  grade : Nat
  mode : Nat
  part : Nat
  seam : Nat
  margin : Nat
  checking : Nat
  det : Nat
  clusters : Nat
  deriving DecidableEq, Repr

/-- The fields of a TARGET section. -/
def targetOf (b : List Byte) : Target :=
  { grade := fld b 4 1, mode := fld b 5 1, part := fld b 6 1, seam := fld b 7 1, margin := fld b 8 1,
    checking := fld b 10 1, det := fld b 11 1, clusters := fld b 13 1 }

/-- GEN, STEPPING, GRADE_L, CLASS_SET, MARGIN, the target partition, CHECKING, DET_MODE, LOGICAL_CLUSTERS (R237, R243). -/
def targetOk (b : List Byte) (grade : Nat) : Bool :=
  let t := targetOf b
  decide (fld b 0 2 = 1) && decide (fld b 2 1 = 1) && decide (fld b 3 1 = 0xA1) && decide (t.grade = grade) &&
    decide (fld b 9 1 = 1) && decide (4 ≤ t.margin ∧ t.margin ≤ 16) && decide (t.mode ≤ 2) &&
    decide (t.part < 4) && decide (partOfQuarter (BitVec.ofNat 2 t.mode) t.part = t.part) &&
    decide (t.checking ≤ 1) && decide (t.det ≤ 1) && decide (1 ≤ t.clusters ∧ t.clusters ≤ 48)

/-- Types: none reserved, one TARGET (R241, R243). -/
def typesOk (ss : List Section) : Bool :=
  ss.all (fun x => decide (x.type ≠ 0 ∧ (x.type ≤ 0xA ∨ 0x8000 ≤ x.type))) &&
    decide ((ss.filter (fun x => decide (x.type = 1))).length = 1)

/-- The LAYOUT sections carry INDEX 0 to n − 1, each once, and every LAYOUT field is one of them or 0xFF. -/
def layoutsOk (ss : List Section) (n : Nat) : Bool :=
  let ls := (layoutsOf ss).map (fun e => e.1)
  decide (1 ≤ n ∧ n ≤ 8) && decide (ls.length = n) && (List.range n).all (fun i => ls.contains i) &&
    ss.all (fun x => decide (0x8000 ≤ x.type) || decide (x.layout < n ∨ x.layout = 0xFF))

/-- No key of INSTR or RULING serves both its layout and all layouts, and none of RULING, INSTR, QUIET_POINTS repeats. -/
def keysOk (ss : List Section) : Bool :=
  let key := fun (x : Section) => (x.type, x.layout, x.cluster, x.core)
  noRepeat ((ss.filter (fun x => decide (x.type = 3 ∨ x.type = 4 ∨ x.type = 0xA))).map key) &&
    (ss.filter (fun x => decide (x.type = 3 ∨ x.type = 4) && decide (x.layout ≠ 0xFF))).all (fun x =>
      ss.all (fun y => decide (y.type ≠ x.type ∨ y.layout ≠ 0xFF ∨ y.cluster ≠ x.cluster ∨ y.core ≠ x.core)))

/-- The clusters and cores that sections name (R243). -/
def namesOk (ss : List Section) (t : Target) : Bool :=
  let lc := fun (x : Section) => decide (x.cluster < t.clusters)
  let le := fun (x : Section) => decide (x.core < t.grade)
  ss.all (fun x =>
    match x.type with
    | 3 => decide (x.cluster < 48) && inPart t.mode t.part x.cluster && decide (x.core ≤ 3)
    | 4 => lc x && le x
    | 5 => lc x && le x
    | 6 => (lc x || decide (x.cluster = 0xFF)) && (le x || decide (x.core = 0xFF))
    | 7 => (lc x || decide (x.cluster = 0xFF)) && (le x || decide (x.core = 0xFF))
    | 9 => (lc x || decide (x.cluster = 0xFF)) && (le x || decide (x.core = 0xFF))
    | _ => true)

/-- A CMAP maps exactly the logical clusters, each to a cluster of its own in the partition that is not avoided. -/
def mapOk (r : List Byte) (t : Target) : Bool :=
  let m := layMap r
  (List.range 48).all (fun c => decide (m c = 0xFF) != decide (c < t.clusters)) &&
    noRepeat ((List.range t.clusters).map m) &&
    (List.range t.clusters).all (fun c => decide (m c < 48) && inPart t.mode t.part (m c) && !(layAvoid r).testBit (m c))

/-- Whether an initial image's DEST resolves (R243). -/
def imageOk (x : Section) (t : Target) : Bool :=
  let d := x.dest.toNat
  let lc := decide (d / 2 ^ 48 % 256 < t.clusters)
  match x.type with
  | 6 => decide (d / 2 ^ 60 = 2) && lc && decide (d / 2 ^ 40 % 256 < t.grade) &&
      decide (d % 2 ^ 20 + x.bytes.length ≤ lsSize)
  | 7 => decide (d / 2 ^ 60 = 1) && lc &&
      decide (d % 2 ^ 28 + x.bytes.length ≤ (if t.checking = 1 then 0x05E80000 else inkSize))
  | 8 => decide (d / 2 ^ 60 = 0)
  | _ => true

/-- A valid ruling entry at cluster k, output port o, slice l, slot c (R191, R218, R219, R243, R367). -/
def entryOk (ss : List Section) (t : Target) (lay : Nat × List Byte) (k o c l : Nat) (e : Word) : Bool :=
  let ip := entryInPort e
  let avoided := fun (x : Nat) => (layAvoid lay.2).testBit x
  let clear := fun (port : Nat) => match linkIn t.mode k port with
    | some x => !avoided x
    | none => true
  let lc := layLogical lay.2 t.clusters k
  let i := entryDstIndex e
  let slow := decide (t.mode = 0) && slowHalf (laySeam lay.2) k
  let toSlow := decide (t.mode = 0) && !slow && (match linkIn t.mode k o with
    | some x => slowHalf (laySeam lay.2) x
    | none => false)
  portPresent t.mode k o && decide (l < portSlices o) && portPresent t.mode k ip && decide (entryInSlice e < portSlices ip) &&
    !avoided k && clear o && clear ip && !(slow && decide (128 ≤ c)) && !(toSlow && decide (c % 2 = 1)) &&
    (decide (o ≠ 0) || (match entryDstKind e with
      | 0 => decide (i < 8) && (match lc with
          | some x => (configsOf ss lay.1 x (entryDstCore e)).any (fun b => decide (cfgMode b i = 1))
          | none => false)
      | 1 => decide (i < 8)
      | 3 => (match lc with
          | some x => (combiningOf ss lay.1).any (fun r => decide (r.cluster = x ∧ r.index = i))
          | none => false)
      | _ => true))

/-- A ruling of a layout: its NEXT is supplied, entries of absent slices are zero, its valid entries hold (R199, R243). -/
def rulingOk (ss : List Section) (t : Target) (lay : Nat × List Byte) (x : Section) : Bool :=
  let r := rulingOf x.bytes
  let ports := maskPorts r.portMask.toNat
  decide (x.bytes.length = 16 + 4096 * ports.length) &&
    (decide (r.next = 0xFF) || (rulingSec ss lay.1 x.cluster r.next.toNat).isSome) &&
    r.entries.all (fun e =>
      let o := e.1 / 1024
      let l := e.1 % 4
      decide (l < portSlices o) && (!entryValid e.2 || entryOk ss t lay x.cluster o (e.1 % 1024 / 4) l e.2))

/-- The rulings of a layout: every router has ruling 0 (R235, R243), and each ruling holds. -/
def rulingsOk (ss : List Section) (t : Target) (lay : Nat × List Byte) : Bool :=
  (routersOf ss lay.1).all (fun k => (rulingSec ss lay.1 k 0).isSome) &&
    (secsOf ss 3 lay.1).all (rulingOk ss t lay)

/-- The quiet points of the layouts: one set of INDEX values or none at all, counters and resume entries in range
(R243, R228, R662). -/
def quietOk (ss : List Section) (t : Target) : Bool :=
  let ls := (layoutsOf ss).map (fun e => e.1)
  let set := fun l => (quietSec ss l).map (fun _ => (quietOf ss l).map (fun q => q.index))
  let same := ls.all (fun l => match set 0, set l with
    | none, none => true
    | some a, some b => a.all (fun i => b.contains i) && b.all (fun i => a.contains i)
    | _, _ => false)
  same && ls.all (fun l => match quietSec ss l with
    | none => true
    | some x => noRepeat ((quietOf ss l).map (fun q => q.index)) && (quietOf ss l).all (fun q =>
        decide (q.counter.toNat / 2 ^ 30 = 1) && decide (q.counter.toNat / 2 ^ 16 % 256 < t.clusters) &&
        (rolesOf ss l).all (fun r =>
          let kind := resumeCore x q t.clusters t.grade r.1 r.2 / 2 ^ 20 % 8
          decide (kind ≤ 2 ∨ kind = 7))))

/-- A STEER_CFG (R286, R268). -/
def steerOk (w : Word) : Bool :=
  let m := steerMode w
  let en := w.toNat / 2 ^ 16 % 16
  decide (m ≤ 4) && decide ((m = 4) = (steerPass w ≠ 0)) && !(decide (m = 1) && decide (en = 0)) &&
    !((decide (m = 2) || decide (m = 3)) && decide (en ≠ 1)) && !(decide (m = 4) && decide (en ≠ 3))

/-- The core configurations of a layout (R286). -/
def configsOk (ss : List Section) (l : Nat) : Bool :=
  (rolesOf ss l).all (fun r => (configOf ss l r.1 r.2 0).isSome) &&
    (secsOf ss 5 l).all (fun x =>
      let all := configsOf ss l x.cluster x.core
      decide (cfgId x.bytes ≤ 15) && decide ((all.filter (fun b => decide (cfgId b = cfgId x.bytes))).length = 1) &&
      all.all (fun b => decide (cfgRole b ≠ cfgRole x.bytes) || (decide (cfgEntry b = cfgEntry x.bytes) &&
        (List.range 4).all (fun u => decide (cfgSteer b u = cfgSteer x.bytes u)))) &&
      (List.range 4).all (fun u => steerOk (cfgSteer x.bytes u)))

/-- The combining format pairs (R344). -/
def pairFmtOk (c : CqCfg) : Bool :=
  match c.mode with
  | 1 => [(9, 9), (9, 10), (10, 10), (10, 9), (8, 8)].contains (c.inFmt, c.outFmt)
  | 2 => [(9, 9), (8, 8)].contains (c.inFmt, c.outFmt)
  | _ => false

/-- A SYNC_INIT record (R366, R367). -/
def syncRecOk (r : SyncRec) (t : Target) : Bool :=
  let dev := decide (r.cluster = 0xFF)
  let c := cqCfg r.a r.b
  match r.kind with
  | 1 => decide (r.index < (if dev then 4096 else 256))
  | 2 => decide (c.mode = 0) ||
      (decide (r.index < (if dev then 64 else 16)) && pairFmtOk c && decide (c.count ≠ 0) && decide (c.core < t.grade) &&
        (!dev || decide (c.lcluster < t.clusters)) && !(decide (t.det = 0) && decide (c.mode = 2)))
  | _ => false

/-- The queue fields of a configuration (R365, R367). -/
def queuesOk (b : List Byte) (t : Target) : Bool :=
  (List.range 8).all (fun q => decide (cfgMode b q ≠ 3)) && decide (cfgSelect b ≤ 1) &&
    !(decide (t.det = 0) && decide (cfgSelect b = 1)) &&
    (List.range 8).all (fun n =>
      let w := cfgFdest b n
      decide (w.toNat / 2 ^ 24 = 0) && decide (w.toNat / 2 ^ 20 % 8 = 0) && (fdestKind w || decide (fdestIndex w < 8)) &&
        (decide (cfgFree b / 2 ^ n % 2 = 0) ||
          (decide (fdestCluster w < t.clusters) && (fdestKind w || decide (fdestCore w < t.grade)))))

/-- QMODE of a logical core's queue under a CONFIG_ID of a layout; none where the core has no such configuration. -/
def modeUnder (ss : List Section) (l i c e q : Nat) : Option Nat := (configOf ss l c e i).map (fun b => cfgMode b q)

/-- The queues that the free channels of a configuration name. -/
def freeNames (b : List Byte) : List (Nat × Nat × Nat) :=
  ((List.range 8).filter (fun n => decide (cfgFree b / 2 ^ n % 2 = 1) && !fdestKind (cfgFdest b n))).map (fun n =>
    (fdestCluster (cfgFdest b n), fdestCore (cfgFdest b n), fdestIndex (cfgFdest b n)))

/-- The inbound queues that the steering outputs of a configuration name. -/
def steerNames (b : List Byte) : List Nat :=
  (List.range 8).filter (fun q => (List.range 4).any (fun u => (List.range 4).any (fun m =>
    let w := cfgSteer b u
    decide (steerMode w ≠ 0) && steerOut w m && decide (steerBind w m = (true, q)))))

/-- The queue a combining record releases to. -/
def releaseName (r : SyncRec) : Nat × Nat × Nat :=
  let c := cqCfg r.a r.b
  (if r.cluster = 0xFF then c.lcluster else r.cluster, c.core, c.queue)

/-- Queues named, and one producer for each free queue, under one CONFIG_ID of a layout (R312, R367). A queue of a core without
that configuration is unused; a release is held to it under a CONFIG_ID that every core of the layout has. -/
def producersOk (ss : List Section) (l i : Nat) : Bool :=
  let cores := ((secsOf ss 5 l).filter (fun x => decide (cfgId x.bytes = i)))
  let frees := cores.flatMap (fun x => freeNames x.bytes)
  let steers := cores.flatMap (fun x => (steerNames x.bytes).map (fun q => (x.cluster, x.core, q)))
  let rel := (combiningOf ss l).map releaseName
  let mode := fun (n : Nat × Nat × Nat) => modeUnder ss l i n.1 n.2.1 n.2.2
  let unused := fun (n : Nat × Nat × Nat) => decide (mode n = none ∨ mode n = some 0)
  let whole := (rolesOf ss l).all (fun r => (configOf ss l r.1 r.2 i).isSome) && !cores.isEmpty
  frees.all (fun n => !unused n && mode n != some 1) && steers.all (fun n => !unused n) &&
    rel.all (fun n => if whole then !unused n else mode n != some 0) &&
    (frees ++ steers ++ rel).all (fun n => mode n != some 2 ||
      decide (((frees ++ steers ++ rel).filter (fun m => decide (m = n))).length = 1))

/-- The queue and counter checks of a layout (R367). -/
def queueChecks (ss : List Section) (t : Target) (l : Nat) : Bool :=
  (syncOf ss l).all (fun r => syncRecOk r t) && (secsOf ss 5 l).all (fun x => queuesOk x.bytes t) &&
    (List.range 16).all (fun i => producersOk ss l i)

/-- The scroll that passes the checks of R243 stage 2, R286 and R367; none gives BAD_PARAM. -/
def parseScroll (b : List Byte) (len grade : Nat) : Option Scroll :=
  match sectionsOf b with
  | none => none
  | some ss =>
    match ss.find? (fun x => decide (x.type = 1)) with
    | none => none
    | some tg =>
      let t := targetOf tg.bytes
      let ls := layoutsOf ss
      let ok := headerOk b len && targetOk tg.bytes grade && typesOk ss && layoutsOk ss (fld b 20 1) && keysOk ss &&
        namesOk ss t && ls.all (fun e => mapOk e.2 t) && ss.all (fun x => imageOk x t) &&
        ls.all (fun e => rulingsOk ss t e) && quietOk ss t && ls.all (fun e => configsOk ss e.1) &&
        ls.all (fun e => queueChecks ss t e.1)
      if ok then
        some { base := 0, size := len, digest := Config.sm3 b, margin := BitVec.ofNat 5 t.margin, detFast := decide (t.det = 1),
               checking := decide (t.checking = 1), mode := t.mode, target := t.part, clusters := t.clusters,
               layouts := ls.length, sections := ss }
      else none

end Sys2Proof.Machine
end

