-- ==== Sys2Proof/Machine/Placement.lean ====
section
/-!
DEFINITION. Layout selection (04 R231 to R236, R879), core maps and remap (04 R225, 07 R395, 11 R687), and the placement of
a context on its clusters at a start or a restart (R129, R132, R287, R295, R320, R368, R415, R660, R662).
-/
namespace Sys2Proof.Machine

/-! ### Loaded scrolls -/

/-- The margin in force follows the scrolls that are loaded on the partition; 0 with none (R243, R252, R739). -/
def State.refreshMargin (s : State) (p : Nat) : State :=
  let m := ((List.range 4).findSome? (fun i => (s.ctx (4 * p + i)).scroll.map (fun sc => sc.margin))).getD 0
  s.modStroke p (fun x => { x with margin := m })

/-- Unload the scroll of a context (R445, R446, R233): its extent and its bulk region are freed, nothing is named. -/
def State.unload (s : State) (c : Nat) : State :=
  ((s.modCtx c (fun x => { x with scroll := none })).modRun c (fun r =>
    { r with bulkPlaced := false, variant := none, layoutValid := false })).modLife c (fun l => { l with named := none }) |>.refreshMargin
      (ctxPart c)

/-! ### Layout selection -/

/-- The record of layout i of a scroll (R229). -/
def Scroll.layout (sc : Scroll) (i : Nat) : Option (List Byte) :=
  ((layoutsOf sc.sections).find? (fun e => decide (e.1 = i))).map (fun e => e.2)

/-- Whether a layout passes both tests of R232 in partition p: its seam ratio, in whole mode, and its avoid set. -/
def State.fits (s : State) (p : Nat) (r : List Byte) : Bool :=
  let u := s.unusableSet p
  (decide (s.dev.mode ≠ 0) || decide (laySeam r = (s.part p).stroke.seamRatio.toNat)) && decide (u &&& layAvoid r = u)

/-- Whether layout i of a scroll fits. -/
def State.fitsAt (s : State) (p : Nat) (sc : Scroll) (i : Nat) : Bool :=
  match sc.layout i with
  | some r => s.fits p r
  | none => false

/-- The layout that selection gives for context c: the one SELECT_VARIANT named while it fits (R233), else the first that
fits in ascending INDEX (R232). -/
def State.selectLayout (s : State) (c : Nat) (sc : Scroll) : Option Nat :=
  let p := ctxPart c
  match (s.ctx c).run.variant.filter (s.fitsAt p sc) with
  | some v => some v
  | none => (List.range 8).find? (s.fitsAt p sc)

/-- Event 0x0013 (R236): old and new INDEX, 0xFF for none, and REASON. -/
def State.postVariant (s : State) (c old new reason : Nat) : State :=
  let p := ctxPart c
  s.post 0x0013 (if new = 0xFF then 2 else 0) (source 3 0 0 p 0)
    [(16, 1, old), (17, 1, new), (18, 1, reason), (19, 1, ctxNo c), (20, 6, s.unusableSet p)] (some p)

/-- No layout can be selected (R232, R255). -/
def State.noLayout (s : State) (c : Nat) : State := s.modStroke (ctxPart c) (fun x => { x with noLayout := true })

/-- Layout i is selected for context c (R255): a layout other than the context's last one counts as a change. -/
def State.takeLayout (s : State) (c i : Nat) : State :=
  let r := (s.ctx c).run
  let changed := r.layoutValid && decide (r.layout ≠ i)
  (s.modStroke (ctxPart c) (fun x =>
    { x with noLayout := false, layout := BitVec.ofNat 3 i,
             switches := if changed then satInc x.switches else x.switches })).modRun c (fun x =>
    { x with layout := i, layoutValid := true, variant := none })

/-! ### Core maps -/

/-- The physical index that logical core l of cluster k has. -/
def State.mapEntry (s : State) (k l : Nat) : Nat := ((s.cluster k).ink.cmap.get 0xFF l).toNat

/-- The logical core that physical core j of cluster k holds. -/
def State.roleOf (s : State) (k j : Nat) : Option Nat := (List.range 32).find? (fun l => decide (s.mapEntry k l = j))

/-- A core that is not fenced and holds no role. -/
def State.noRole (s : State) (n : Nat) : Bool := !(s.core n).ctl.fenced && (s.roleOf (kOf n) (jOf n)).isNone

/-- A spare (R684, R687): a core that is not fenced, holds no role and does not await a full pass. -/
def State.isSpare (s : State) (n : Nat) : Bool := s.noRole n && !(s.care n).testDue

/-- The spares of cluster k in ascending order, as core numbers. -/
def State.sparesOf (s : State) (k : Nat) : List Nat := (coresOf k).filter s.isSpare

/-- The spare that takes a role (R687): the lowest tested one, else the lowest that is not fenced. One that still owes a full
pass (R674, R684) comes last, and only for a fenced core's role (log 102). -/
def State.takeSpare (s : State) (k : Nat) (forFenced : Bool) : Option Nat :=
  match (s.sparesOf k).find? (fun n => (s.care n).tested) with
  | some n => some n
  | none =>
    match (s.sparesOf k).head? with
    | some n => some n
    | none => if forFenced then (coresOf k).find? s.noRole else none

/-- The clusters of the layout that a context last selected. -/
def State.lastClusters (s : State) (c : Nat) : List Nat :=
  match (s.ctx c).scroll with
  | some sc => (match sc.layout (s.ctx c).run.layout with
    | some r => (List.range sc.clusters).map (layMap r)
    | none => [])
  | none => []

/-- Whether the last layout of context c has a logical cluster on cluster k. -/
def State.mapsCluster (s : State) (c k : Nat) : Bool := (s.lastClusters c).contains k

/-- Whether context c places logical cluster lc on cluster k under its last layout. -/
def State.placedOn (s : State) (c k lc : Nat) : Bool :=
  match (s.ctx c).scroll with
  | some sc => (s.ctx c).run.layoutValid && (match sc.layout (s.ctx c).run.layout with
    | some r => decide (lc < sc.clusters ∧ layMap r lc = k)
    | none => false)
  | none => false

/-- Instruction store contents of an image (R130, R132): at most 4,096 words. -/
def istoreOf (b : List Byte) : Tbl Word :=
  ((wordsOf 4096 b).zipIdx.filter (fun e => decide (e.1 ≠ 0))).map (fun e => (e.2, e.1))

/-- The instruction store of logical core l of logical cluster lc of context c under its selected layout (R132). -/
def State.roleImage (s : State) (c lc l : Nat) : Tbl Word :=
  match (s.ctx c).scroll with
  | some sc => istoreOf (((instrSec sc.sections (s.ctx c).run.layout lc l).map (fun y => y.bytes)).getD [])
  | none => []

/-- A core that takes a role abandons the pattern it runs (R673, R681); its instruction store is written with the role's
image where a context has one (R132). -/
def Core.takeIdent (x : Core) (lc l : Byte) (image : Option (Tbl Word)) : Core :=
  { x with
    regs := match image with | some i => { x.regs with istore := i } | none => x.regs
    ctl := { x.ctl with lcluster := lc, lcore := l, patrol := false, st := if x.ctl.patrol then .idle else x.ctl.st } }

/-- Give logical core l of cluster k, held by core `old`, to core `new` (R132, R687, R681): CL_CMAP, the CO_ID fields, the
role's instruction image and event 0x0011 with its REASON; the old core holds no role. -/
def State.remapTo (s : State) (k l old new reason : Nat) : State :=
  let p := s.partOf k
  let o := (s.core old).ctl
  let owner := match o.context with
    | some c => some c
    | none => (List.range 4).map (fun i => 4 * p + i) |>.find? (fun c => s.placedOn c k o.lcluster.toNat)
  let s1 := s.modInk k (fun x => { x with cmap := x.cmap.set l (BitVec.ofNat 8 (jOf new)) })
  let image := owner.map (fun c => s.roleImage c o.lcluster.toNat l)
  let s2 := (s1.modCore new (fun x => x.takeIdent o.lcluster (BitVec.ofNat 8 l) image)).modCare new (fun x =>
    { x with tested := false, pattern := none })
  let s3 := (s2.modCtl old (fun x => { x with lcluster := 0xFF, lcore := 0xFF })).modCare old (fun x =>
    { x with tested := false, next := 0, retest := false })
  s3.post 0x0011 0 (source 2 k 0 0 0)
    [(16, 1, l), (17, 1, jOf old), (18, 1, jOf new), (19, 1, reason),
     (20, 1, match owner with | some c => ctxNo c | none => 0xFF),
     (24, 4, (s.part p).stroke.count.toNat % 2 ^ 32)] (some p)

/-- Move the role of a core to a spare (R687); nothing where it holds none or no spare is left. -/
def State.moveRole (s : State) (n reason : Nat) : State :=
  let k := kOf n
  match s.roleOf k (jOf n), s.takeSpare k (s.core n).ctl.fenced with
  | some l, some m => s.remapTo k l n m reason
  | _, _ => s

/-- Whether the core map of cluster k may change for context c (R225): no other running context has a logical cluster on
it. -/
def State.mapFree (s : State) (k : Nat) (c : Option Nat) : Bool :=
  (s.liveContexts (s.partOf k)).all (fun d => decide (c = some d) || !s.mapsCluster d k)

/-- Fence, remap and test before a restart (R658, R684, R687): in cluster k each role of a fenced core moves, and each role
of a core that owes a full pass. -/
def State.repairCluster (s : State) (k : Nat) : State :=
  (coresOf k).foldl (fun t n =>
    if (t.core n).ctl.fenced then t.moveRole n 1
    else if (t.care n).testDue then t.moveRole n 3
    else t) s

/-- Fill the core map of cluster k up to L entries (R225, R395): an entry that names no core takes the lowest-numbered
spare, which then has its logical core in CO_ID (R170); where every spare still owes a full pass, such a core takes it (R227,
log 102). -/
def State.fillMap (s : State) (k : Nat) : State :=
  (List.range s.dev.gradeL).foldl (fun t l =>
    if t.mapEntry k l < 32 then t
    else match (match (t.sparesOf k).head? with | some n => some n | none => (coresOf k).find? t.noRole) with
      | some n =>
        ((t.modInk k (fun x => { x with cmap := x.cmap.set l (BitVec.ofNat 8 (jOf n)) })).modCore n (fun x =>
          x.takeIdent 0xFF (BitVec.ofNat 8 l) none)).modCare n (fun x => { x with tested := false, pattern := none })
      | none => t) s

/-- The cores that hold the roles of a layout's logical clusters take their logical cluster and core (R170, R178), but for
those on which another context runs. -/
def State.nameCores (s : State) (c : Nat) (rec_ : List Byte) (clusters : Nat) : State :=
  (List.range clusters).foldl (fun t lc =>
    (List.range s.dev.gradeL).foldl (fun u l =>
      match u.physCore (layMap rec_ lc) l with
      | some n =>
        if (u.core n).ctl.context.all (fun d => decide (d = c)) then
          u.modCtl n (fun x => { x with lcluster := BitVec.ofNat 8 lc, lcore := BitVec.ofNat 8 l })
        else u
      | none => u) t) s

/-- The cores of clusters of the partition that a layout leaves name no logical cluster (R170), but where the last layout of
another context has the cluster. -/
def State.unnameCores (s : State) (c : Nat) (ks : List Nat) : State :=
  let p := ctxPart c
  let others := ((List.range 4).map (fun i => 4 * p + i)).filter (fun d => decide (d ≠ c))
  let left := (s.clustersOf p).filter (fun k => !ks.contains k && others.all (fun d => !s.mapsCluster d k))
  (left.flatMap coresOf).foldl (fun t n => t.modCtl n (fun x => { x with lcluster := 0xFF })) s

/-! ### Placing cores and rulings -/

/-- The cluster map of a layout as CO_CMAP holds it (R176). -/
def cmapOf (r : List Byte) (clusters : Nat) : Tbl Byte :=
  (List.range clusters).map (fun c => (c, BitVec.ofNat 8 (layMap r c)))

/-- Steering state of a configuration (R285, R295, R301, R304 to R306); CLAMP, LAST_ORDINAL and the recorded fault stay
(R302, R303). -/
def steerOf (b : List Byte) (old : CoreSteer) : CoreSteer :=
  { CoreSteer.reset with
    cfg := (List.range 4).map (fun u => (u, cfgSteer b u))
    err := old.err
    lastOrdinal := old.lastOrdinal
    clamp := old.clamp
    roleEpoch := BitVec.ofNat 8 (cfgRole b)
    configId := BitVec.ofNat 4 (cfgId b)
    chanRepoch := (List.range 8).map (fun n => (n, BitVec.ofNat 8 (cfgChan b n))) }

/-- Credits of the free channels of a configuration (R320): 16 where FDEST names an inbound queue. -/
def creditsOf (b : List Byte) : Tbl Nat :=
  ((List.range 8).filter (fun n => decide (cfgFree b / 2 ^ n % 2 = 1) && !fdestKind (cfgFdest b n))).map (fun n => (n, 16))

/-- Queue state of a configuration, everything empty (R320, R326, R334, R365, R368). -/
def queuesOf (b : List Byte) : CoreQueues :=
  { CoreQueues.reset with
    qmode := BitVec.ofNat 16 (cfgQmode b)
    echanFree := BitVec.ofNat 8 (cfgFree b)
    credit := creditsOf b
    rotate := decide (cfgSelect b % 2 = 1)
    fdest := (List.range 8).map (fun n => (n, cfgFdest b n)) }

/-- Engines at a context start: accumulators cleared, nothing in progress, flags cleared (R129); the error register and
the error counts stay. -/
def CoreEng.fresh (e : CoreEng) : CoreEng := { CoreEng.reset with err := e.err, parityCnt := e.parityCnt, residueCnt := e.residueCnt }

/-- A core takes logical core (lc, l) of context x: image, configuration, bounds; every register zero with blot clear, its
engines, queues and steering units as at a start. -/
def Core.place (core : Core) (x lc l : Nat) (img cfg : List Byte) (cmap : Tbl Byte) (r : CtxRun) : Core :=
  { regs := { CoreRegs.reset with istore := istoreOf img }
    ctl := { CoreCtl.reset with
      st := .idle, context := some x, fenced := core.ctl.fenced, lcluster := BitVec.ofNat 8 lc, lcore := BitVec.ofNat 8 l,
      pc := BitVec.ofNat 12 (cfgEntry cfg) }
    eng := core.eng.fresh
    errs := { core.errs with
      cmap := cmap, bulkBase := BitVec.ofNat 32 r.bulkBase, bulkLimit := BitVec.ofNat 32 r.bulkSize,
      hostBase := r.hostBase, hostLimit := r.hostLimit }
    steer := steerOf cfg core.steer
    qs := queuesOf cfg
    te := { CoreTe.reset with addressed := BitVec.ofNat 8 (cfgAddressed cfg), farNext := core.te.farNext }
    ls := .reset
    due := [] }

/-- Place the logical cores of a context under its layout with a CONFIG_ID (R287, R295): those with an INSTR section. -/
def State.placeCores (s : State) (c : Nat) (sc : Scroll) (rec_ : List Byte) (l i : Nat) : State :=
  (rolesOf sc.sections l).foldl (fun t e =>
    match t.physCore (layMap rec_ e.1) e.2 with
    | some n => t.modCore n (fun x =>
        x.place c e.1 e.2 (((instrSec sc.sections l e.1 e.2).map (fun y => y.bytes)).getD [])
          ((configOf sc.sections l e.1 e.2 i).getD []) (cmapOf rec_ sc.clusters) (t.ctx c).run)
    | none => t) s

/-- The routers of the layout that a context last selected. -/
def State.lastRouters (s : State) (c : Nat) : List Nat :=
  match (s.ctx c).scroll with
  | some sc => routersOf sc.sections (s.ctx c).run.layout
  | none => []

/-- Whether the layout of a running context other than c has router k: its active ruling is in use (R198; log 103). -/
def State.routerUsed (s : State) (c k : Nat) : Bool :=
  (s.liveContexts (ctxPart c)).any (fun d => decide (d ≠ c) && (s.lastRouters d).contains k)

/-- The rulings that the Quill does not write while a router is in use (R198): the active one and its successors. -/
def Router.locked (r : Router) (i : Nat) : Bool :=
  decide (r.active = i) || decide (r.successor = some i) || (r.pending.map (fun w => w.ruling) == some i)

/-- Load the rulings of a router (R198, R249): of one in use, none that is active or a pending successor, which records
WRITE_ACTIVE. A router that no running context uses holds nothing of the rulings before. -/
def Router.load (r : Router) (img : Tbl Ruling) (used : Bool) : Router :=
  if used then
    img.foldl (fun x e =>
      if r.locked e.1 then { x with err := x.err.record (BitVec.ofNat 32 (4 * 2 ^ 26)) 0 0 }
      else { x with rulings := x.rulings.set e.1 e.2 }) r
  else { r with rulings := img, flying := [], taken := [] }

/-- The routers of a layout hold its rulings (R198), and switch at the edge that begins the next stroke to the ruling and
REPEAT position that `start` gives (R201, R235). -/
def State.loadRulings (s : State) (c : Nat) (sc : Scroll) (l : Nat) (start : Nat → Nat × Nat) : State :=
  let n := (s.part (ctxPart c)).stroke.count + 1
  (routersOf sc.sections l).foldl (fun t k =>
    let img := (List.range 4).filterMap (fun i => (rulingSec sc.sections l k i).map (fun x => (i, rulingOf x.bytes)))
    t.modRouter k (fun r =>
      { r.load img (s.routerUsed c k) with
        pending := some { ruling := (start k).1 % 4, pos := (start k).2, stroke := n } })) s

/-- Landing and combining state of the clusters of a layout is empty (R368, R380); `drop` of CL_INK stays. -/
def State.clearClusters (s : State) (ks : List Nat) : State :=
  ks.foldl (fun t k => t.modCluster k (fun x =>
    { x with cq := { Combining.reset with err := x.cq.err }
             ink := { x.ink with landing := none, landOrder := [], landLeft := [], writes := [], late := [], landDead := [] } })) s

/-- A combining block without rounds in progress and results. -/
def Combining.idle (x : Combining) : Combining := { x with pieces := [], cycles := [], results := [] }

/-- CL_CQ_STAT is cleared when context c starts on its partition (R380): with DONE, which shows the round in progress, where no
other context runs. -/
def State.clearCqStat (s : State) (c : Nat) : State :=
  (s.clustersOf (ctxPart c)).foldl (fun t k => t.modCluster k (fun x =>
    { x with cq := { (if t.mapFree k (some c) then x.cq.idle else x.cq) with releases := [], flags := [] } })) s

/-- Combining queue n holds no round in progress and no result. -/
def Combining.emptied (x : Combining) (n : Nat) : Combining :=
  { x with pieces := x.pieces.filter (fun e => decide (e.1 / 8 ≠ n)), cycles := x.cycles.filter (fun e => decide (e.1 ≠ n))
           results := x.results.filter (fun e => decide (e.1 ≠ n)) }

/-- The combining queues that SYNC_INIT configures (R366, R623): of the clusters, and device-level for the context. Each
starts empty (R368). -/
def State.configureQueues (s : State) (c : Nat) (sc : Scroll) (rec_ : List Byte) (l : Nat) : State :=
  (combiningOf sc.sections l).foldl (fun t r =>
    let set (x : Combining) : Combining :=
      { x.emptied r.index with cfgA := x.cfgA.set r.index r.a, cfgB := x.cfgB.set r.index r.b, owner := x.owner.set r.index c }
    if r.cluster = 0xFF then { t with fabric := { t.fabric with dcq := set t.fabric.dcq } }
    else t.modCluster (layMap rec_ r.cluster) (fun x => { x with cq := set x.cq })) s

/-- The counters that SYNC_INIT names are written (R364, R366). -/
def State.writeCounters (s : State) (sc : Scroll) (rec_ : List Byte) (l : Nat) : State :=
  ((syncOf sc.sections l).filter (fun r => decide (r.kind = 1))).foldl (fun t r =>
    if r.cluster = 0xFF then t.setCounter (.device r.index) r.a
    else t.setCounter (.cluster (layMap rec_ r.cluster) r.index) r.a) s

/-- FILL is set for every unit of a range that an image covers (R415, R420). -/
def Store.fillRange (m : Store) (a n : Nat) : Store :=
  (List.range ((a + n) / 32 - (a + 31) / 32)).foldl (fun (x : Store) i =>
    { x with fills := Units.add x.fills ((a + 31) / 32 + i) }) m

/-- One initial image is written where its destination lies (R241, R243, R415, R445). -/
def State.placeImage (t : State) (c : Nat) (rec_ : List Byte) (x : Section) : State :=
  let d := x.dest.toNat
  let k := layMap rec_ (d / 2 ^ 48 % 256)
  match x.type with
  | 6 => match t.physCore k (d / 2 ^ 40 % 256) with
    | some n => t.write (lsBase n + d % 2 ^ 20) x.bytes false
    | none => t
  | 7 =>
    let a := inkBase k + d % 2 ^ 28
    let t1 := t.write a x.bytes false
    if (t.cluster k).ink.checking then { t1 with store := t1.store.fillRange a x.bytes.length } else t1
  | 8 => t.write ((t.ctx c).run.bulkBase * 65536 + d % 2 ^ 41) x.bytes false
  | _ => t

/-- The initial images of a layout are written in section table order (R241). -/
def State.writeImages (s : State) (c : Nat) (sc : Scroll) (rec_ : List Byte) (l : Nat) : State :=
  (sc.sections.filter (fun x => decide (x.layout = l ∨ x.layout = 0xFF))).foldl
    (fun t x => t.placeImage c rec_ x) s

/-- The physical clusters of a layout's logical clusters. -/
def mappedClusters (rec_ : List Byte) (clusters : Nat) : List Nat := (List.range clusters).map (layMap rec_)

/-- The inkwells of a layout read zero, blot and FILL clear (R415). -/
def State.zeroInkwells (s : State) (ks : List Nat) : State :=
  ks.foldl (fun t k => { t with store := t.store.zeroRange (inkBase k) inkSize }) s

/-- The clocks of a partition's regions relock to a setting (R772, R773, R817). -/
def State.relock (s : State) (p setting : Nat) : State :=
  ((List.range 8).filter (fun r => decide (partOfQuarter s.dev.mode (r / 2) = p))).foldl (fun t r =>
    t.modRegion r (fun x => x.relock setting)) s

end Sys2Proof.Machine
end

