-- ==== Sys2Proof/Machine/Images.lean ====
section
/-!
DEFINITION. Checkpoint images (08 R468 to R471, R478; 11 R657, R660, R880): where an image lies, which are committed, what
a checkpoint writes and what a restore brings back.
-/
namespace Sys2Proof.Machine

/-- COMMIT of a committed part (R471). -/
def commitWord : Nat := 0x4649524D
/-- SEQUENCE of the part at an address. -/
def Store.partSeq (m : Store) (a : Nat) : Nat := m.le (a + 8) 8
/-- CONFIG_ID in the header of the part at an address (R295, R471). -/
def Store.partConfig (m : Store) (a : Nat) : Nat := (m.byte (a + 7)).toNat % 16
/-- Whether the part at an address holds the commit word. -/
def Store.partDone (m : Store) (a : Nat) : Bool := decide (m.le (a + 4092) 4 = commitWord)
/-- The two image slots of area c in quarter range q (R468). -/
def imageSlots (q c : Nat) : List Nat := [imageBase q c 0, imageBase q c 1]

/-- The committed image with a SEQUENCE of context number c in partition p: the bases of its parts (R469, R471). -/
def Store.image (m : Store) (p c seq : Nat) : Option (List Nat) :=
  let find (q : Nat) : Option Nat := (imageSlots q c).find? (fun a => m.partDone a && decide (m.partSeq a = seq))
  match find p with
  | some a =>
    let n := m.le (a + 6) 1
    if 1 ≤ n ∧ p + n ≤ 4 then (List.range n).mapM (fun i => find (p + i)) else none
  | none => none

/-- The SEQUENCE values of the committed images of a context. -/
def Store.imageSeqs (m : Store) (p c : Nat) : List Nat :=
  ((imageSlots p c).map m.partSeq).filter (fun q => (m.image p c q).isSome)

/-- The highest of a list of SEQUENCE values. -/
def newestOf (l : List Nat) : Option Nat := l.max?

/-- The newest committed image of context c. -/
def State.newestImage (s : State) (c : Nat) : Option Nat := newestOf (s.store.imageSeqs (ctxPart c) (ctxNo c))

/-- The parts of the image with a SEQUENCE whose SCROLL is the digest of the loaded scroll (R880). -/
def State.imageFor (s : State) (c seq : Nat) (digest : BitVec 256) : Option (List Nat) :=
  (s.store.image (ctxPart c) (ctxNo c) seq).filter (fun l =>
    l.all (fun a => decide (s.store.le (a + 32) 32 = digest.toNat)))

/-- The parts a scroll needs (R469). -/
def Scroll.parts (sc : Scroll) : Nat := (sc.clusters + 11) / 12

/-- Bytes of a part (R470). -/
def partBytes : Nat := 0x60000000

/-- Whether a part at an address overlaps a bad range (R454). -/
def State.slotBad (s : State) (a : Nat) : Bool :=
  s.bulk.bad.any (fun r => decide (a / 65536 ≤ r ∧ r < (a + partBytes) / 65536))

/-- Where part n of a new image goes (R468, R454): the image slot that does not hold the newest committed image, none
where it overlaps a bad range. -/
def State.freeSlot (s : State) (c n : Nat) : Option Nat :=
  let q := ctxPart c + n
  let used := match s.newestImage c with
    | some x => (s.store.image (ctxPart c) (ctxNo c) x).getD []
    | none => []
  (imageSlots q (ctxNo c)).find? (fun a => !used.contains a && !s.slotBad a)

/-- The image slots of a new image of a context, one for each part (R469); none where one of them cannot be had (log 110). -/
def State.newSlots (s : State) (c : Nat) (sc : Scroll) : Option (List Nat) := (List.range sc.parts).mapM (s.freeSlot c)

/-- Clear the COMMIT word of a part. -/
def Store.uncommit (m : Store) (a : Nat) : Store := m.write (a + 4092) (toLe 0 4) false

/-- Images with a SEQUENCE above one of a context lose their COMMIT word (R880). -/
def State.dropLater (s : State) (c seq : Nat) : State :=
  let all := (List.range 4).flatMap (fun i => if ctxPart c + i < 4 then imageSlots (ctxPart c + i) (ctxNo c) else [])
  let mine := all.filter (fun a => s.store.partDone a && decide (seq < s.store.partSeq a) &&
    decide (partOfQuarter s.dev.mode (a / quarterSize) = ctxPart c))
  { s with store := mine.foldl (fun (m : Store) a => m.uncommit a) s.store }

/-! ### Layout of a part (R470) -/

/-- Sync counters of logical cluster lc within its part. -/
def partSync (base lc : Nat) : Nat := base + 0x1000 + lc % 12 * 1024
/-- Local store of a logical core within its part. -/
def partLocal (base lc l : Nat) : Nat := base + 0x04000000 + (lc % 12 * 32 + l) * lsSize
/-- Inkwell of logical cluster lc within its part. -/
def partInk (base lc : Nat) : Nat := base + 0x10000000 + lc % 12 * inkSize
/-- Descriptor of slot n, by slot number. -/
def partSlot (base n : Nat) : Nat := base + 0x4000 + 64 * n
/-- Page table of slot n, by slot number. -/
def partTable (base n : Nat) : Nat := base + 0x58000000 + n * tableSize

/-- SQ_STATE of a slot (R497); a closed one may be BUSY with a command that names it. -/
def State.sqState (s : State) (n : Nat) : Word :=
  let x := s.slot n
  if x.open_ || x.faulted then
    BitVec.ofNat 32 ((if x.open_ then 2 ^ 31 else 0) + (if x.faulted then 2 ^ 30 else 0) + (if x.busy then 2 ^ 29 else 0) +
      ctxNo x.ctx * 2 ^ 27 + ctxPart x.ctx * 2 ^ 25 + x.log2 * 2 ^ 21)
  else if x.busy then 2 ^ 29
  else 0
/-- SQ_POS (R498). -/
def State.sqPos (s : State) (n : Nat) : Word := BitVec.ofNat 32 (s.slot n).pos
/-- SQ_PAGES (R498). -/
def State.sqPages (s : State) (n : Nat) : Word :=
  if (s.slot n).open_ then BitVec.ofNat 32 (s.store.mapped n 0).length else 0
/-- SQ_TIER (R498). -/
def State.sqTier (s : State) (n : Nat) : Word :=
  let x := s.slot n
  BitVec.ofNat 32 (x.tierCluster.toNat * 2 ^ 24 + x.tierBase * 2 ^ 12 + x.tierPages)

/-- The bytes of a counter block (R470). -/
def counterBytes (t : Tbl Word) : List Byte := (List.range 256).flatMap (fun i => toLe (t.get 0 i).toNat 4)

/-- The cluster sync counters are captured in the image (R665 step 2): its parts lose their COMMIT word first. -/
def State.captureCounters (s : State) (parts : List Nat) (sc : Scroll) (rec_ : List Byte) : State :=
  let m := parts.foldl (fun (m : Store) a => m.uncommit a) s.store
  { s with store := (List.range sc.clusters).foldl (fun (m : Store) lc =>
      m.write (partSync (parts.getD (lc / 12) 0) lc) (counterBytes (s.cluster (layMap rec_ lc)).sync) false) m }

/-- The header of part n without its COMMIT word (R471). -/
def State.partHeader (s : State) (c n : Nat) (w : CkptWork) (sc : Scroll) : List Byte :=
  let r := (s.ctx c).run
  Sys2Proof.Machine.block 4096 [(0, 4, 0x50434B53), (4, 1, ctxNo c), (5, 1, n), (6, 1, sc.parts), (7, 1, r.configId.toNat), (8, 8, w.seq),
    (16, 8, w.stroke.toNat), (24, 4, w.quiet.toNat), (28, 1, r.layout), (32, 32, sc.digest.toNat)]

/-- The descriptors and tables of the context's slots (R470). -/
def State.saveSlots (s : State) (c base : Nat) : State :=
  let m := s.store.zeroRange (base + 0x4000) 4096
  { s with store := (List.range 32).foldl (fun (m : Store) n =>
      if (s.slot n).open_ && decide ((s.slot n).ctx = c) then
        (m.write (partSlot base n) ([s.sqState n, s.sqPos n, s.sqPages n, s.sqTier n].flatMap (fun w => toLe w.toNat 4))
          false).copyRange (tableBase n) (partTable base n) tableSize
      else m) m }

/-- The image of a context is written, all but COMMIT (R470, R665 step 3). -/
def State.writeImage (s : State) (c : Nat) (w : CkptWork) (sc : Scroll) (rec_ : List Byte) : State :=
  let heads := w.parts.zipIdx.foldl (fun (m : Store) e => m.write e.1 (s.partHeader c e.2 w sc) false) s.store
  let ink := (List.range sc.clusters).foldl (fun (m : Store) lc =>
    m.copyRange (inkBase (layMap rec_ lc)) (partInk (w.parts.getD (lc / 12) 0) lc) inkSize) heads
  let loc := (rolesOf sc.sections (s.ctx c).run.layout).foldl (fun (m : Store) e =>
    match s.physCore (layMap rec_ e.1) e.2 with
    | some n => m.copyRange (lsBase n) (partLocal (w.parts.getD (e.1 / 12) 0) e.1 e.2) lsSize
    | none => m) ink
  ({ s with store := loc } : State).saveSlots c (w.parts.getD 0 0)

/-- COMMIT is written to every part (R471), the commit is noted, the pages that wait for it are freed (R477), and
kills are counted afresh (R659). -/
def State.commitImage (s : State) (c : Nat) (w : CkptWork) : State :=
  let m := w.parts.foldl (fun (m : Store) a => m.write (a + 4092) (toLe commitWord 4) false) s.store
  (({ s with store := m } : State).freePending c).modLife c (fun l =>
    { l with runImages := l.runImages ++ [BitVec.ofNat 64 w.seq], lastCommit := s.time, kills := 0 })

/-! ### Restore (R660, R478) -/

/-- A slot that the image describes as open (R497, R498). -/
def Store.savedSlot (m : Store) (base n c : Nat) : Option Slot :=
  let st := m.word (partSlot base n)
  let tier := (m.word (partSlot base n + 12)).toNat
  if st.getLsbD 31 then
    some { open_ := true, faulted := st.getLsbD 30, busy := false, ctx := c, log2 := st.toNat / 2 ^ 21 % 16,
           pos := (m.word (partSlot base n + 4)).toNat % 2 ^ 23, tierCluster := BitVec.ofNat 8 (tier / 2 ^ 24),
           tierBase := tier / 2 ^ 12 % 2 ^ 12, tierPages := tier % 2 ^ 12, copies := 0, commands := 0 }
  else none

/-- The references that the tables of the open slots of partition p make to its pool pages (R478). -/
def State.pageRefs (s : State) (p : Nat) : Tbl Nat :=
  ((List.range 32).filter (fun n => (s.slot n).open_ && decide (s.slotPart n = p))).foldl (fun t n =>
    (s.store.mapped n 0).foldl (fun (t : Tbl Nat) e =>
      match s.store.entry n e with
      | some pn => t.set pn (t.get 0 pn + 1)
      | none => t) t) []

/-- Pool pages of a partition with a nonzero count. -/
def State.usedPages (s : State) (p : Nat) : List Nat :=
  (s.store.mem.filter (fun x => (s.poolQuarters p).any (fun q =>
    decide (countAddr (q * 262144) ≤ x.1 ∧ x.1 < countAddr (q * 262144) + 262144)))).map (fun x =>
      x.1 / quarterSize * 262144 + (x.1 - countAddr (x.1 / quarterSize * 262144)))

/-- The counts are recomputed from the restored tables (R478): a page that was in use and that no table names becomes
pending for the context. -/
def State.recount (s : State) (c : Nat) : State :=
  let p := ctxPart c
  let refs := s.pageRefs p
  let lost := (s.usedPages p).filter (fun pn => decide (refs.get 0 pn = 0))
  let m0 := (s.usedPages p).foldl (fun (m : Store) pn => m.setCount pn 0) s.store
  let m1 := refs.foldl (fun (m : Store) e => m.setCount e.1 e.2) m0
  let pend := (s.bulk.pendPages.filter (fun e => decide (refs.get 0 e.1 = 0)))
  { s with store := m1, bulk := { s.bulk with pendPages := lost.foldl (fun (t : Tbl Nat) pn => t.set pn c) pend } }

/-- The slots of the context become those of the image; a slot that another context holds open stays with it. -/
def State.restoreSlots (s : State) (c base : Nat) : State :=
  let t := ((List.range 32).filter (fun n => decide (s.slotPart n = ctxPart c))).foldl (fun (t : State) n =>
    let x := t.slot n
    if x.open_ && decide (x.ctx ≠ c) then t
    else
      match t.store.savedSlot base n c with
      | some y => ({ t with store := t.store.copyRange (partTable base n) (tableBase n) tableSize } : State).modSlot n
          (fun z => { y with copies := z.copies, commands := z.commands })
      | none =>
        if x.open_ then ({ t with store := t.store.zeroRange (tableBase n) tableSize } : State).modSlot n (fun _ => Slot.reset)
        else t) s
  t.recount c

/-- The counters of a block of an image. -/
def Store.counters (m : Store) (a : Nat) : Tbl Word :=
  ((List.range 256).map (fun i => (i, m.word (a + 4 * i)))).filter (fun e => decide (e.2 ≠ 0))

/-- A restore writes the image's inkwells with their FILL bits, local stores, cluster sync counters and slot tables
(R660, R420). -/
def State.restoreImage (s : State) (c : Nat) (parts : List Nat) (sc : Scroll) (rec_ : List Byte) (l : Nat) : State :=
  let base := fun lc => parts.getD (lc / 12) 0
  let ink := (List.range sc.clusters).foldl (fun (m : Store) lc =>
    m.copyRange (partInk (base lc) lc) (inkBase (layMap rec_ lc)) inkSize) s.store
  let loc := (rolesOf sc.sections l).foldl (fun (m : Store) e =>
    match s.physCore (layMap rec_ e.1) e.2 with
    | some n => m.copyRange (partLocal (base e.1) e.1 e.2) (lsBase n) lsSize
    | none => m) ink
  let t := (List.range sc.clusters).foldl (fun (t : State) lc =>
    t.modCluster (layMap rec_ lc) (fun x => { x with sync := loc.counters (partSync (base lc) lc) })) ({ s with store := loc } : State)
  t.restoreSlots c (parts.getD 0 0)

end Sys2Proof.Machine
end

