-- ==== Sys2Proof/Machine/Bringup.lean ====
section
/-!
DEFINITION. Starting a context (09 R556; 04 R235, R238, R879; 08 R445; 10 R624, R629, R630, R634; 11 R657 to R660, R880;
12 R739, R751; 13 R773, R798): the watermark, the checks, the bring-up, the first stroke, the stop.
-/
namespace Sys2Proof.Machine

/-! ### Watermark (R234, R629, R630, R739) -/

/-- The determinism class code (R630): "DC-A1-" and the grade. -/
def classCode (grade : Nat) : List Byte :=
  [0x44, 0x43, 0x2D, 0x41, 0x31, 0x2D, BitVec.ofNat 8 (0x30 + grade / 10), BitVec.ofNat 8 (0x30 + grade % 10)]

/-- The listed settings of the unit that partition p holds (R739). -/
def State.settings (s : State) (p : Nat) : List Byte :=
  let m := s.modes p
  let x := (s.part p).stroke
  Sys2Proof.Machine.block 16 [(0, 1, 1), (1, 1, s.dev.mode.toNat), (2, 1, if m.detFast then 1 else 0),
    (3, 1, if m.checking then 1 else 0), (4, 1, if s.dev.mode = 0 then x.seamRatio.toNat else 0), (5, 1, x.margin.toNat), (6, 1, 1)]

/-- The layout fingerprint (R234): AVOID and INDEX. -/
def fingerprint (i : Nat) (r : List Byte) : BitVec 256 :=
  Config.sm3 (Sys2Proof.Machine.block 16 [(0, 8, layAvoid r), (8, 1, i)])

/-- Scroll digest and layout fingerprint of a context (R630): of the selected layout while it is not OFF and `fresh` does
not ask for the selection of a start, else of the layout selection would give. -/
def State.ctxDigests (s : State) (c : Nat) (fresh : Bool) : BitVec 256 × BitVec 256 :=
  match (s.ctx c).scroll with
  | none => (0, 0)
  | some sc =>
    let l := if (s.ctx c).lc.life = .off ∨ fresh then s.selectLayout c sc else some (s.ctx c).run.layout
    (sc.digest, match l with
      | some i => match sc.layout i with
        | some r => fingerprint i r
        | none => 0
      | none => 0)

/-- The configuration watermark of the unit that partition p holds (R630); for context `c` with the layout that a start
would select. -/
def State.watermark (s : State) (p : Nat) (c : Option Nat) : BitVec 256 :=
  let head := toLe s.module_.ident.version.toNat 8 ++ classCode s.dev.gradeL ++ s.settings p ++
    [1, 0, BitVec.ofNat 8 s.dev.mode.toNat, BitVec.ofNat 8 p] ++ List.replicate 28 0
  Config.sm3 (head ++ (List.range 4).flatMap (fun i =>
    let d := s.ctxDigests (4 * p + i) (c == some (4 * p + i))
    toLe d.1.toNat 32 ++ toLe d.2.toNat 32))

/-- The ports of the unit that partition p holds (R629). -/
def State.unitPorts (s : State) (p : Nat) : List Nat :=
  (List.range 16).filter (fun f => decide (partOfQuarter s.dev.mode (f / 4) = p))

/-! ### Bulk regions and scroll extents (R445, R446), in units of 64 KiB -/

/-- Units of 64 KiB that hold n bytes. -/
def units64 (n : Nat) : Nat := (n + 65535) / 65536

/-- The extents of scrolls that are being read (R446). -/
def State.loadingExtents (s : State) : List (Nat × Nat) :=
  s.host.jobs.filterMap (fun e => match e.2.cmd with
    | .loadScroll _ _ len => some (e.2.value / 65536, units64 len.toNat)
    | _ => none)

/-- The extents in use: scrolls, placed bulk regions but that of `skip`, scrolls being read, bad ranges. -/
def State.extents (s : State) (skip : Option Nat) : List (Nat × Nat) :=
  (List.range 16).flatMap (fun c =>
    let x := s.ctx c
    (match x.scroll with
      | some sc => [(sc.base / 65536, units64 sc.size)]
      | none => []) ++
    (if x.run.bulkPlaced ∧ skip ≠ some c then [(x.run.bulkBase, x.run.bulkSize)] else [])) ++ s.loadingExtents ++ s.bulk.bad.map (fun b => (b, 1))

/-- The lowest free extent of n units in the general regions of partition p (R444 to R446). -/
def State.findExtent (s : State) (p n : Nat) (skip : Option Nat) : Option Nat :=
  let used := s.extents skip
  let fits (q a : Nat) : Bool :=
    let lo := quarterBase q / 65536
    decide (lo ≤ a ∧ a + n ≤ lo + 327 * gib / 65536) && used.all (fun e => decide (a + n ≤ e.1 ∨ e.1 + e.2 ≤ a))
  ((s.poolQuarters p).flatMap (fun q =>
    ((quarterBase q / 65536) :: used.map (fun e => e.1 + e.2)).filter (fits q))).min?

/-- Place or keep the bulk region of a context (R445); none where no extent exists. A region placed anew reads zero with
blots clear. -/
def State.placeRegion (s : State) (c n : Nat) : Option State :=
  let r := (s.ctx c).run
  if r.bulkPlaced && decide (r.bulkSize = n) then some s
  else
    match s.findExtent (ctxPart c) n (some c) with
    | none => none
    | some b =>
      some (({ s with store := s.store.zeroRange (b * 65536) (n * 65536) } : State).modRun c (fun x =>
        { x with bulkBase := b, bulkSize := n, bulkPlaced := true }))

/-! ### Checks of a start -/

/-- Whether the domains a layout needs are on (R798): its clusters, the partition's network and memory controllers. -/
def State.layoutPowered (s : State) (p : Nat) (ks : List Nat) : Bool :=
  ks.all s.domOn && (s.clustersOf p).all (fun k => s.domOn (if colOf k < 4 then 48 else 49)) &&
    (s.quartersOf p).all (fun q => s.domOn (50 + q))

/-- Whether a RUN_BIST of partition p has not ended (R812). -/
def State.bistRuns (s : State) (p : Nat) : Bool :=
  s.host.jobs.any (fun e => match e.2.cmd with
    | .bistLogic h => decide (partOfQuarter s.dev.mode h.partition.toNat = p)
    | .bistInkwellMarch h => decide (partOfQuarter s.dev.mode h.partition.toNat = p)
    | .bistLpddrQuick h => decide (partOfQuarter s.dev.mode h.partition.toNat = p)
    | .bistLpddrFull h => decide (partOfQuarter s.dev.mode h.partition.toNat = p)
    | _ => false)

/-- The image that a start with FROM 1 resumes (R880): the named one, else the newest committed one, of the loaded scroll. -/
def State.startImage (s : State) (c : Nat) (sc : Scroll) : Option (Nat × List Nat) :=
  let seq := match (s.ctx c).lc.named with
    | some q => some q.toNat
    | none => s.newestImage c
  seq.bind (fun q => (s.imageFor c q sc.digest).map (fun l => (q, l)))

/-- The checks of a start that come before layout selection, in order: watermark (R556), port gates (R634), modes (R238),
a running test (R812) or firmware commit (R832), the image (R880). -/
def State.startRefusal (s : State) (c : Nat) (sc : Scroll) (wm : BitVec 256) (from1 : Bool) : Option Status :=
  let p := ctxPart c
  let m := s.modes p
  if s.watermark p (some c) ≠ wm then some .watermarkMismatch
  else if (s.unitPorts p).any (fun f => (s.port f).gate && ((s.port f).mismatch || decide ((s.port f).st ≠ .active))) then
    some .watermarkMismatch
  else if m.checking ≠ sc.checking ∨ m.detFast ≠ sc.detFast then some .wrongState
  else if s.bistRuns p ∨ s.module_.ident.committing.isSome then some .busy
  else if from1 ∧ (s.startImage c sc).isNone then some .wrongState
  else none

/-- Whether a BULK_INIT image of layout l reaches beyond n units (R556). -/
def bulkTooLarge (sc : Scroll) (l n : Nat) : Bool :=
  (secsOf sc.sections 8 l).any (fun x => decide (n * 65536 < x.dest.toNat % 2 ^ 41 + x.bytes.length))

/-- Whether a device-level queue of layout l is configured by another running context (R624). -/
def State.dcqTaken (s : State) (c : Nat) (sc : Scroll) (l : Nat) : Bool :=
  let d := s.fabric.dcq
  (combiningOf sc.sections l).any (fun r => decide (r.cluster = 0xFF) && decide ((d.cfg r.index).mode ≠ 0) &&
    (let o := d.owner.get c r.index
     decide (o ≠ c) && decide ((s.ctx o).lc.life ≠ .off)))

/-- Whether a cluster of a layout is one on which another running context has a logical cluster: the start would write its
cores and its inkwell (R178, R181, R225, R415; DESIGN CHOICE, log 76). -/
def State.clustersTaken (s : State) (c : Nat) (ks : List Nat) : Bool := ks.any (fun k => !s.mapFree k (some c))

/-- The quiet point record of a layout for an index (R879). -/
def quietRec (sc : Scroll) (l : Nat) (index : Word) : Option (Section × QuietPoint) :=
  match quietSec sc.sections l, (quietOf sc.sections l).find? (fun q => q.index == index) with
  | some x, some q => some (x, q)
  | _, _ => none

/-! ### Bring-up -/

/-- Where a context enters (R235, R660): from its scroll, or from an image with its SEQUENCE, parts and quiet point. -/
inductive Entrance where
  | fresh
  | image (seq : Nat) (parts : List Nat) (sec : Section) (q : QuietPoint)

/-- Forget a device-level or cluster combining queue: it is OFF and empty (R366, R368). -/
def Combining.off (x : Combining) (n : Nat) : Combining :=
  { x.emptied n with cfgA := x.cfgA.set n 0, cfgB := x.cfgB.set n 0, owner := x.owner.filter (fun e => decide (e.1 ≠ n)) }

/-- The device-level queues that context c configured are OFF again. -/
def State.dropQueues (s : State) (c : Nat) : State :=
  let mine := (s.fabric.dcq.owner.filter (fun e => decide (e.2 = c))).map (fun e => e.1)
  { s with fabric := { s.fabric with dcq := mine.foldl (fun (x : Combining) n => x.off n) s.fabric.dcq } }

/-- A core resumes at a quiet point (R662): kinds 0 to 2 issue RESUME_PC in cycle OFFSET of the stroke that the resumed
edge begins. -/
def Core.resumeAt (x : Core) (e : Nat) : Core :=
  { x with ctl := { x.ctl with
      st := .waitEntry, entry := some (.next (e / 2 ^ 12 % 256)), pc := BitVec.ofNat 12 e, sectFn := e / 2 ^ 20 % 8 } }

/-- The logical cores resume as the quiet point's table says; those that resume halted close their queues once every
core is placed (R329, R331). -/
def State.resumeCores (s : State) (sc : Scroll) (rec_ : List Byte) (l : Nat) (x : Section) (q : QuietPoint) : State :=
  let entry := fun (e : Nat × Nat) => resumeCore x q sc.clusters s.dev.gradeL e.1 e.2
  let halted := fun e => decide (entry e / 2 ^ 20 % 8 = 7)
  let s1 := (rolesOf sc.sections l).foldl (fun t e =>
    match t.physCore (layMap rec_ e.1) e.2 with
    | some n => if halted e then t.modCtl n (fun y => { y with st := .halted }) else t.modCore n (fun y => y.resumeAt (entry e))
    | none => t) s
  ((rolesOf sc.sections l).filter halted).foldl (fun t e =>
    match t.physCore (layMap rec_ e.1) e.2 with
    | some n => t.haltQueues n
    | none => t) s1

/-- What the entrance brings: images of the scroll or of the checkpoint with its CONFIG_ID (R295), ruling positions, entry
points. A router of the layout that has no logical cluster, of which the quiet point records nothing (R662), takes ruling 0 at
position 0 (DESIGN CHOICE, log 104). CONFIG_ID of the partition (R308) is that of its last start, restore or configuration, also
where its contexts run under different ones (DESIGN CHOICE, log 133). -/
def State.enterFrom (s : State) (c : Nat) (sc : Scroll) (rec_ : List Byte) (l : Nat) (e : Entrance) (counters : Bool) : State :=
  match e with
  | .fresh =>
    let ks := mappedClusters rec_ sc.clusters
    let s1 := ((s.zeroInkwells ks).writeCounters sc rec_ l).placeCores c sc rec_ l 0
    ((s1.writeImages c sc rec_ l).loadRulings c sc l (fun _ => (0, 0))).modEpoch (ctxPart c) (fun x =>
      { x with configId := 0 })
  | .image _ parts x q =>
    let i := s.store.partConfig (parts.getD 0 0)
    let s0 := if counters then s.writeCounters sc rec_ l else s
    let s1 := (s0.placeCores c sc rec_ l i).restoreImage c parts sc rec_ l
    let at_ := fun k => match layLogical rec_ sc.clusters k with
      | some lc => resumeCluster x q lc
      | none => (0, 0)
    ((s1.loadRulings c sc l at_).resumeCores sc rec_ l x q).modEpoch (ctxPart c) (fun y =>
      { y with configId := BitVec.ofNat 4 i })

/-- STROKE of an image's header (R471). -/
def Store.partStroke (m : Store) (a : Nat) : DWord := BitVec.ofNat 64 (m.le (a + 16) 8)

/-- Event 0x00A0 (R761): KIND, the diverging clusters, the stroke index. -/
def State.postDivergence (s : State) (c kind clusters stroke : Nat) : State :=
  let p := ctxPart c
  s.post 0x00A0 2 (source 3 0 0 p (s.quill.ls.port.toNat * 2 ^ 11))
    [(16, 1, kind), (17, 1, ctxNo c), (18, 1, (if (s.modes p).detFast then 1 else 0) + (if (s.ctx c).run.tdc ≠ 0 then 2 else 0)),
     (20, 6, clusters), (26, 6, stroke)] (some p)

/-- Lock-step state of a context. -/
def State.lsCtx (s : State) (c : Nat) : LsCtx := s.quill.ls.ctxs.get LsCtx.reset c
/-- Update the lock-step state of a context. -/
def State.modLs (s : State) (c : Nat) (f : LsCtx → LsCtx) : State :=
  s.modQuill (fun q => { q with ls := { q.ls with ctxs := q.ls.ctxs.set c (f (q.ls.ctxs.get LsCtx.reset c)) } })

/-- Comparison begins once both start digests are there with equal watermarks; unequal ones post KIND 3 (R751). -/
def State.lsMatch (s : State) (c : Nat) : State :=
  match (s.lsCtx c).mine, (s.lsCtx c).theirs with
  | some a, some b =>
    if a = b then s.modRun c (fun r => { r with compared := true })
    else (s.postDivergence c 3 0 0).modLs c (fun x => { x with mine := none, theirs := none })
  | _, _ => s

/-- A context that starts while the device is paired sends a start digest (R751). -/
def State.lsStart (s : State) (c : Nat) : State :=
  let p := ctxPart c
  if s.quill.ls.state = 2 then
    let wm := s.watermark p none
    ((s.sendLs (lsDigest p (ctxNo c) 0 0 (s.ctx c).run.tdc.toNat wm.toNat [])).modLs c (fun x =>
      { LsCtx.reset with mine := some wm, theirs := x.theirs })).lsMatch c
  else s

/-- A context of a selected layout is brought up and is STARTING until its first stroke begins (R722): clocks, core maps,
clusters, cores, rulings, counters, combining queues, and what the entrance brings. -/
def State.bringUp (s : State) (c : Nat) (sc : Scroll) (rec_ : List Byte) (l : Nat) (e : Entrance) (setting : Nat) (counters : Bool) :
    State :=
  let p := ctxPart c
  let ks := mappedClusters rec_ sc.clusters
  let s1 := (s.relock p setting).modRun c (fun r =>
    { r with fresh := (match e with | .fresh => true | .image _ _ _ _ => false), clock := setting, delayed := 0, lsIndex := 0, compared := false, frozen := false, freezeAtEdge := false
             configId := BitVec.ofNat 4 (match e with | .fresh => 0 | .image _ parts _ _ => s.store.partConfig (parts.getD 0 0))
             startStroke := match e with | .fresh => 0 | .image _ parts _ _ => s.store.partStroke (parts.getD 0 0) })
  let s2 := s1.modLife c (fun x =>
    { x with life := .starting, restartDue := false
             consumed := match e with | .fresh => [] | .image _ _ _ q => [q.index] })
  let s3 := (ks.foldl (fun t k => if t.mapFree k (some c) then (t.repairCluster k).fillMap k else t) s2)
  let s3 := (s3.unnameCores c ks).nameCores c rec_ sc.clusters
  let s4 := ((s3.dropQueues c).clearClusters ks).clearCqStat c
  ((s4.enterFrom c sc rec_ l e counters).configureQueues c sc rec_ l).lsStart c

/-- START_CONTEXT on a context that is OFF, as job `job` (R723): the checks in order, then the bring-up; the job goes on
until the first stroke begins. -/
def State.startContext (s : State) (job c fn : Nat) (wm : BitVec 256) (clock : Nat) (from1 : Bool) (bulk base limit : Word) :
    State :=
  match (s.ctx c).scroll with
  | none => s.finish job .wrongState 0
  | some sc =>
    match s.startRefusal c sc wm from1 with
    | some st => s.finish job st 0
    | none =>
      let image := if from1 then s.startImage c sc else none
      let reason := if ((s.ctx c).run.variant.filter (s.fitsAt (ctxPart c) sc)).isSome then 2 else 3
      match s.selectLayout c sc with
      | none => (((s.noLayout c).postVariant c 0xFF 0xFF reason)).finish job .wrongState 0
      | some l =>
        let rec_ := (sc.layout l).getD []
        let s1 := (s.takeLayout c l).postVariant c 0xFF l reason
        let quiet := image.bind (fun m => quietRec sc l (s.store.word (m.2.getD 0 0 + 24)))
        if !s.layoutPowered (ctxPart c) (mappedClusters rec_ sc.clusters) then s1.finish job .wrongState 0
        else if from1 && quiet.isNone then s1.finish job .wrongState 0
        else if bulkTooLarge sc l bulk.toNat then s1.finish job .badParam 0
        else if s1.dcqTaken c sc l || s1.clustersTaken c (mappedClusters rec_ sc.clusters) then s1.finish job .noResource 0
        else
          match s1.placeRegion c bulk.toNat with
          | none => s1.finish job .noResource 0
          | some s2 =>
            let s3 := match image with
              | some m => s2.dropLater c m.1
              | none => s2
            let s4 := s3.modRun c (fun r =>
              { r with fn := fn, clockNamed := clock, hostBase := base, hostLimit := limit, fnReset := false, tdc := 0
                       inexact := 0 })
            let s5 := s4.modLife c (fun x =>
              { x with kills := 0, restartExhausted := false, killLevel := 0, named := none, lastCommit := s.time
                       starts := [job]
                       runImages := match image with | some m => [BitVec.ofNat 64 m.1] | none => [] })
            let e := match image, quiet with
              | some m, some q => Entrance.image m.1 m.2 q.1 q.2
              | _, _ => .fresh
            s5.bringUp c sc rec_ l e clock true

/-- The start that a job asks for (R723). -/
def State.startJob (s : State) (job : Nat) : State :=
  match s.job job with
  | some j =>
    match j.cmd with
    | .startContext h wm clock from_ bulk base limit =>
      s.startContext job (4 * partOfQuarter s.dev.mode h.partition.toNat + h.context.toNat % 4) h.fn.val wm clock.toNat
        (decide (from_ = 1)) bulk base limit
    | _ => s
  | none => s

/-- The images of the current run that a restart can use, newest first (R657). -/
def State.runImage (s : State) (c : Nat) (sc : Scroll) : Option (Nat × List Nat) :=
  (newestOf (((s.ctx c).lc.runImages.map (fun q => q.toNat)).filter (fun q => (s.imageFor c q sc.digest).isSome))).bind (fun q =>
    (s.imageFor c q sc.digest).map (fun l => (q, l)))

/-- What a start of context c reads in bulk memory: the parts of the image it resumes (R660, R880), or its scroll (R235, R446). -/
def State.startReads (s : State) (c : Nat) (from1 : Bool) : List (Nat × Nat) :=
  match (s.ctx c).scroll with
  | none => []
  | some sc =>
    if from1 then
      match s.startImage c sc with
      | some m => m.2.map (fun a => (a, partBytes))
      | none => []
    else [(sc.base, sc.size)]

/-- What a restart of context c reads (R657, R658). -/
def State.restartReads (s : State) (c : Nat) : List (Nat × Nat) :=
  match (s.ctx c).scroll.bind (fun sc => s.runImage c sc) with
  | some m => m.2.map (fun a => (a, partBytes))
  | none => []

/-- Carry out a start of context c whose reads of bulk memory find what `lines` says (R449, R450, R452): where it starts, its
reads meet the lines as they were found. -/
def State.startReading (s : State) (c : Nat) (reads : List (Nat × Nat)) (lines : List LineFind) (run : State → State) : State :=
  let t := run s
  if lines.isEmpty || decide ((s.ctx c).lc.life ≠ .off) || decide ((t.ctx c).lc.life ≠ .starting) then t
  else run (reads.foldl (fun u r => u.mcLines r.1 r.2 lines) s)

/-- RESULT of START_CONTEXT (R556): layout index, and the partition's stroke counter at the first stroke. -/
def State.startResult (s : State) (c : Nat) : Nat :=
  let r := (s.ctx c).run
  r.layout + 2 ^ 16 * ((r.startStroke - r.strokeOffset).toNat % 2 ^ 32)

/-- Context numbers as a bit set. -/
def ctxBits (l : List Nat) : BitVec 4 := BitVec.ofNat 4 (l.foldl (fun a c => a ||| 2 ^ ctxNo c) 0)

/-- Whether the progress mark of partition p stands now (R704): every running context has a committed checkpoint. -/
def State.atMark (s : State) (p : Nat) : Bool := (s.liveContexts p).all (fun c => !(s.ctx c).lc.runImages.isEmpty)

/-- The suspects of a hang (R704): every context that ran since the progress mark. -/
def State.suspectsOf (s : State) (p : Nat) : BitVec 4 :=
  let live := ctxBits (s.liveContexts p)
  if s.atMark p then live else live ||| (s.qpart p).ranSince

/-- Note that context c runs (R704). -/
def State.noteRun (s : State) (c : Nat) : State :=
  let p := ctxPart c
  let others := (s.liveContexts p).filter (fun x => decide (x ≠ c))
  let settled := others.all (fun x => !(s.ctx x).lc.runImages.isEmpty)
  s.modQPart p (fun q => { q with ranSince := (if settled then ctxBits others else q.ranSince) ||| ctxBits [c] })

/-- A STARTING context begins with the stroke whose number the partition's counter holds (R181, R722): its offset is set,
cores that start fresh issue their entry instruction in a free section, the jobs that started it complete. -/
def State.beginContext (s : State) (c : Nat) : State :=
  let n := (s.part (ctxPart c)).stroke.count
  let s1 := s.modRun c (fun r => { r with strokeOffset := r.startStroke - n })
  let s2 := (s1.coresOfCtx c).foldl (fun t m => t.modCtl m (fun x =>
    if x.st = .idle then { x with st := .free, cyc := n.toNat * 256, skew := none } else x)) s1
  let jobs := (s2.ctx c).lc.starts
  ((s2.modLife c (fun x => { x with life := .on, starts := [] })).noteRun c).finishAll jobs .ok (s2.startResult c)

/-- A context stops (R216 step 2, R477, R556, R757): its cores stop, its commands end, its pages are freed. RESULT is the
context stroke counter of the stroke that the edge ends. -/
def State.stopContext (s : State) (c : Nat) : State :=
  let r := (s.ctxStroke c).toNat
  let s1 := ((s.endCompare c 2).releaseCores c).endPending c r
  ((s1.modLife c (fun x => { x with life := .off })).modRun c (fun x =>
    { x with frozen := false, freezeAtEdge := false })).freePending c |>.unpause c

/-- A held enable is carried out on a context that is OFF (R723). -/
def State.runHeld (s : State) (c : Nat) : State :=
  match (s.ctx c).lc.life, (s.ctx c).lc.held with
  | .off, some (.enable j) => (s.modLife c (fun x => { x with held := none })).startJob j
  | _, _ => s

/-- The setting of a restart (R738, R802): one below the one the context last ran at where the cap delayed more than 1
percent of its strokes since, else the one START_CONTEXT named. -/
def CtxRun.restartClock (r : CtxRun) : Nat := if r.lsIndex < 100 * r.delayed then r.clock - 1 else r.clockNamed

/-- A restart (R658): fence and remap, layout selection, restore of the newest image of the current run, resume at its
quiet point. Where a step fails the context stays OFF. REASON of the variant switch event is given. While another running
context has a cluster or a device-level queue of the selected layout, the restart stays due (R178, R225; DESIGN CHOICE, log 129). -/
def State.restart (s : State) (c reason : Nat) : State :=
  let s0 := s.modLife c (fun x => { x with restartDue := false })
  match (s.ctx c).scroll with
  | none => s0
  | some sc =>
    let old := (s.ctx c).run.layout
    let s1 := (mappedClusters ((sc.layout old).getD []) sc.clusters).foldl (fun t k =>
      if t.mapFree k (some c) then t.repairCluster k else t) s0
    match s1.selectLayout c sc with
    | none => (s1.noLayout c).postVariant c old 0xFF reason
    | some l =>
      let why := if ((s1.ctx c).run.variant.filter (s1.fitsAt (ctxPart c) sc)).isSome then 2 else reason
      if s1.dcqTaken c sc l || s1.clustersTaken c (mappedClusters ((sc.layout l).getD []) sc.clusters) then
        s1.modLife c (fun x => { x with restartDue := true })
      else
      let s2 := s1.takeLayout c l
      let s3 := if l = old then s2 else s2.postVariant c old l why
      match s3.runImage c sc with
      | none => s3
      | some m =>
        match quietRec sc l (s3.store.word (m.2.getD 0 0 + 24)) with
        | none => s3
        | some q => s3.bringUp c sc ((sc.layout l).getD []) l (.image m.1 m.2 q.1 q.2) (s.ctx c).run.restartClock false

end Sys2Proof.Machine
end

