-- ==== Sys2Proof/Machine/Reset.lean ====
section
/-!
DEFINITION. Crossing calibration (04 R203, R205, R206), partition reset (11 R704 to R707), reset escalation and service
(R711 to R714), hangs (R703, R704).
-/
namespace Sys2Proof.Machine

/-! ### Crossings -/

/-- The latency class of the crossing at an input port of cluster k, in cycles of the receiver (R202, R203, R219); none where
the port has no crossing. The crossings between partitions are there in every mode. -/
def State.crossingClass (s : State) (k port : Nat) : Option Nat :=
  if port = 0 ∨ 15 < port then none
  else if port = 13 then (edgeMc k).map (fun _ => 4)
  else if 14 ≤ port then (edgePort k port).map (fun _ => 4)
  else
    match linkAt k port with
    | none => none
    | some k2 =>
      if regionOf k2 = regionOf k then none
      else if crossesSeam (colOf k) (colOf k2) then
        some (if s.halfRate k = s.halfRate k2 then 10 else if s.halfRate k then 8 else 16)
      else if port ≤ 4 then some 4 else if port ≤ 8 then some 5 else some 6

/-- One crossing is calibrated (R205, R206): CAL is recorded; beyond the class the crossing has failed. A CAL of 15 on a crossing
of class 16 is shown as 0xF, the code of a failed crossing, for want of another (R248; DESIGN CHOICE, log 132). -/
def State.calibrate (s : State) (x : XCal) : State :=
  let k := x.k.val
  let port := x.port.toNat
  match s.crossingClass k port with
  | none => s
  | some cls =>
    if x.cal.toNat ≤ cls then s.modRouter k (fun r => { r with xcal := r.xcal.set port x.cal })
    else
      let s1 := s.modRouter k (fun r =>
        { r with xcal := r.xcal.set port 0xF, err := r.err.record (BitVec.ofNat 32 (3 * 2 ^ 26 + port * 2 ^ 22)) 0 0 })
      (s1.moraineAppend 9 [(16, 1, k), (17, 1, port), (18, 1, x.cal.toNat)]).scoreDrop 100

/-- The crossings of partition p are calibrated; what each measures is an input. -/
def State.calibrateAll (s : State) (p : Nat) (cal : List XCal) : State :=
  (cal.filter (fun x => decide (s.partOf x.k.val = p))).foldl State.calibrate s

/-! ### Service -/

/-- A service state changes (R713, R716): a SERVICE_CHANGE entry and event 0x0070. -/
def State.serviceChange (s : State) (object index old new score cause : Nat) : State :=
  (s.moraineAppend 10 [(16, 1, object), (17, 1, index), (18, 1, old), (19, 1, new), (20, 1, cause)]).postService
    object index old new score cause

/-- Minutes in ns. -/
def minutesNs (n : Nat) : Nat := n * 60 * 1000000000

/-- The counted resets of a list within some minutes of now. -/
def State.inWindow (s : State) (l : List Nat) (minutes : Nat) : List Nat :=
  l.filter (fun t => decide (s.time < t + minutesNs minutes))

/-- A counted reset of partition p (R711 to R713, R717): event 0x0071; at the threshold the partition leaves service. -/
def State.countPartReset (s : State) (p cause : Nat) : State :=
  let h := s.quill.health
  let l := s.inWindow (s.qpart p).resets h.partMinutes ++ [s.time]
  let leaves := decide (h.partResets ≤ l.length) && !(s.qpart p).out
  let s1 := (s.modQPart p (fun q => { q with resets := l, out := q.out || leaves })).scoreDrop 50
  let s2 := s1.post 0x0071 3 (source 3 0 0 p 0)
    [(16, 1, 1), (17, 1, p), (18, 1, l.length), (19, 1, h.partResets), (20, 1, h.partMinutes),
     (21, 1, if leaves then 1 else 0), (22, 1, cause)] (some p)
  if leaves then
    let s3 := s2.serviceChange 1 p 0 2 s2.quill.health.score 2
    (s3.coresOfPart p).foldl (fun t n => t.modCtl n (fun x => { x with st := .off })) s3
  else s2

/-- A counted reset of the device (R711 to R713, R717). -/
def State.countDevReset (s : State) (cause : Nat) : State :=
  let h := s.quill.health
  let l := s.inWindow h.devResets h.devMinutes ++ [s.time]
  let leaves := decide (h.devResetMax ≤ l.length) && decide (h.service ≠ 2)
  let s1 := (s.modHealth (fun x => { x with devResets := l })).scoreDrop 150
  let s2 := s1.post 0x0071 (if leaves then 4 else 3) (source 3 0 0 0 0)
    [(16, 1, 0), (18, 1, l.length), (19, 1, h.devResetMax), (20, 1, h.devMinutes), (21, 1, if leaves then 1 else 0),
     (22, 1, cause)] none
  if leaves then
    let old := s2.quill.health.service
    (s2.modHealth (fun x => { x with service := 2 })).serviceChange 0 0 old 2 s2.quill.health.score 2
  else s2

/-! ### Partition reset -/

/-- The state a core takes when its partition is reset or its domain comes on (R171): IDLE where its domain is on, OFF
where it is fenced or its partition out of service (R714). -/
def State.freshCore (s : State) (n : Nat) : Core :=
  let f := (s.core n).ctl.fenced
  { Core.reset with ctl := { CoreCtl.reset with fenced := f, st := if f || !s.domOn (kOf n) || (s.qpart (s.partOf (kOf n))).out then .off else .idle } }

/-- A cluster after a reset of its partition: router, queues, counters and inkwell registers at reset; fences, crossings'
latencies, the mode and the row repairs in effect stay. -/
def Cluster.afterReset (x : Cluster) : Cluster :=
  { Cluster.reset with
    router := { Router.reset with fenced := x.router.fenced, xcal := x.router.xcal }
    ink := { Ink.reset with checking := x.ink.checking, rows := x.ink.rows } }

/-- The core a message on the management network belongs to, or the cluster whose counter it changes. -/
def NetMsg.cluster : NetMsg → Option Nat
  | .freeTok n _ _ _ => some (kOf n)
  | .credit n _ _ => some (kOf n)
  | .notice n _ => some (kOf n)
  | .syncOp _ (.cluster k _) _ _ => some k
  | .syncOp _ (.device _) _ _ => none

/-- Kill a context for a fault of its partition (R651): SOURCE has level 3. -/
def State.killByPart (s : State) (c : Nat) : State := s.kill c 3 (source 3 0 0 (ctxPart c) 0) []

/-- The WIN_DROP counts of some clusters together. -/
def State.inkDrops (s : State) (ks : List Nat) : Nat := ks.foldl (fun t k => t + (s.cluster k).ink.winDrop.toNat) 0

/-- The cores and clusters of partition p return to reset; local stores, and inkwells unless they are kept, lose what they
held (R706, R813, log 3). What event 0x0063 has not reported of the WIN_DROP counts stays to be reported (R643). -/
def State.resetClusters (s : State) (p : Nat) (keepInk : Bool) : State :=
  let ks := s.clustersOf p
  let s1 := (s.coresOfPart p).foldl (fun t n => t.setCore n (t.freshCore n)) s
  let s1 := s1.modFabCnt (fun c => { c with dropEvent := { c.dropEvent with c := c.dropEvent.c + s.inkDrops ks } })
  let s2 := ks.foldl (fun t k => t.modCluster k Cluster.afterReset) s1
  let m := ks.foldl (fun (m : Store) k =>
    (coresOf k).foldl (fun (y : Store) n => y.zeroRange (lsBase n) lsSize)
      (if keepInk then m else m.zeroRange (inkBase k) inkSize)) s2.store
  { s2 with store := m, net := s2.net.filter (fun x => match x.cluster with
      | some k => !ks.contains k
      | none => true) }

/-- The controllers of the quarters of partition p reset and retrain while their packages hold their contents (R705,
R706). -/
def State.resetControllers (s : State) (p : Nat) : State :=
  ((List.range 16).filter (fun m => decide (partOfQuarter s.dev.mode (m / 4) = p))).foldl (fun t m =>
    t.modMc m (fun x => { Mc.reset with st := if s.domOn (50 + m / 4) then .ready else x.st, rate := x.rate })) s

/-- What the summaries of a partition keep over its reset (R188, R299, R335): the times of the last events and what they have
not reported; the registers count from zero again. -/
def Reports.afterReset (r : Reports) (x : Stroke) : Reports :=
  let owe : Summary :=
    { time := none, a := r.carry.a + (x.ovrMargin.toNat - r.overrun.a), b := r.carry.b + (x.ovrEmpty.toNat - r.overrun.b)
      c := r.carry.c + (x.ovrFull.toNat - r.overrun.c), d := r.carry.d + (x.holdCnt.toNat - r.overrun.d) }
  { r with overrun := { Summary.none with time := r.overrun.time }, carry := owe }

/-- The row repairs known for some clusters take effect (R426). -/
def State.repairRows (s : State) (ks : List Nat) : State :=
  ks.foldl (fun t k => if (t.quill.rows.get [] k).isEmpty then t
    else t.modInk k (fun x => { x with rows := t.quill.rows.get [] k })) s

/-- What a reset of partition p clears (R705, R706, R813): its cores, routers, queues, counters and stroke and epoch blocks
reset, its controllers retrain, its crossings are calibrated. The seam ratio, a request for another (R221) and the margin of the
loaded scrolls stay. -/
def State.clearPartition (s : State) (p : Nat) (keepInk : Bool) (cal : List XCal) : State :=
  let s2 := (s.resetClusters p keepInk).resetControllers p
  let old := (s2.part p).stroke
  let s3 := s2.modPart p (fun _ =>
    { Part.reset with
      stroke := { Stroke.reset with
        seamRatio := old.seamRatio, seamReq := old.seamReq, seamDeferred := old.seamDeferred, seamNext := old.seamNext
        margin := old.margin }
      rep := (s2.part p).rep.afterReset old })
  let s4 := s3.modPower (fun w => { w with capDelay := w.capDelay.set p 0 })
  let s5 := ((List.range 8).filter (fun r => decide (partOfQuarter s.dev.mode (r / 2) = p))).foldl (fun t r =>
    t.modRegion r (fun x => { x with stretch := 0 })) s4
  let s6 := s5.modQuill (fun q =>
    { q with drift := q.drift.filter (fun e => decide (s.partOf e.1 ≠ p))
             care := q.care.map (fun e => if s.partOf (kOf e.1) = p then (e.1, { e.2 with pattern := none }) else e)
             scan := q.scan.filter (fun e => decide (s.partOf e.1 ≠ p))
             deadlock := q.deadlock.filter (fun e => decide (e.1 % 4 ≠ p)) })
  (s6.modQPart p (fun q => { q with lastStroke := 0, lastStrokeTime := s.time })).calibrateAll p cal

/-- Reset partition p (R705, R706): its contexts are killed and their windows close, it is cleared, and row repairs take effect
(R426). -/
def State.resetPartition (s : State) (p : Nat) (cal : List XCal) : State :=
  let cs := (List.range 4).map (fun i => 4 * p + i)
  let s1 := cs.foldl (fun t c => t.closeWindows c) ((s.liveContexts p).foldl (fun t c => t.killByPart c) s)
  (s1.clearPartition p false cal).repairRows (s.clustersOf p)

/-- A partition fault (R651, R653): event 0x0003 with CAUSE, the partition is reset and the reset counts. -/
def State.partFault (s : State) (p cause errReg : Nat) (cal : List XCal) : State :=
  let stroke := (s.part p).stroke.count.toNat % 2 ^ 32
  let h := s.quill.health
  let leaves := decide (h.partResets ≤ (s.inWindow (s.qpart p).resets h.partMinutes).length + 1)
  let s1 := s.post 0x0003 3 (source 3 0 0 p 0)
    [(16, 1, cause), (17, 1, if leaves then 2 else 1), (20, 4, stroke), (24, 4, errReg)] (some p)
  (s1.resetPartition p cal).countPartReset p (if cause = 2 then 1 else 2)

/-- A hang (R704): the suspects are noted, event 0x0020 with its KIND, then a partition fault with CAUSE 2. -/
def State.hang (s : State) (p kind elapsedMs : Nat) (cal : List XCal) : State :=
  let sus := s.suspectsOf p
  let stroke := (s.part p).stroke.count.toNat % 2 ^ 32
  let s1 := (s.modQPart p (fun q => { q with suspects := q.suspects ||| sus })).post 0x0020 3 (source 3 0 0 p 0)
    [(16, 1, kind), (17, 1, 0xFF), (18, 1, sus.toNat), (20, 4, stroke), (24, 4, elapsedMs)] (some p)
  s1.partFault p 2 0 cal

/-- The partition that quarter `q` of a packet names in the mode in force. -/
def State.partNamed (s : State) (q : Nat) : Nat := partOfQuarter s.dev.mode q

end Sys2Proof.Machine
end

