-- ==== Sys2Proof/Machine/PowerOps.lean ====
section
/-!
DEFINITION. Power domains and the partition's lifecycle (13 R787 to R795, R798; 11 R722, R723): switching domains, a
partition coming on and going off. Shared by POWER_STATE, DOMAIN_CONTROL, start-up, the thermal unit and the stroke edge.
-/
namespace Sys2Proof.Machine

/-! ### Domains (R43, R787) -/

/-- Mark a domain ON, out of retention. -/
def State.domainUp (s : State) (n : Nat) : State :=
  s.modPower (fun w => { w with on := w.on ||| BitVec.ofNat 60 (2 ^ n), ret := w.ret &&& ~~~BitVec.ofNat 60 (2 ^ n) })

/-- Mark a domain off. -/
def State.domainDown (s : State) (n : Nat) : State :=
  s.modPower (fun w => { w with on := w.on &&& ~~~BitVec.ofNat 60 (2 ^ n) })

/-- A cluster domain comes on: its cores start at reset, IDLE. -/
def State.clusterUp (s : State) (k : Nat) : State :=
  if s.domOn k then s
  else
    let s1 := s.domainUp k
    (coresOf k).foldl (fun t n => t.setCore n (t.freshCore n)) s1

/-- A cluster domain leaves ON: registers and local stores are lost, and the inkwell too unless it is retained. -/
def State.clusterDown (s : State) (k : Nat) (retain : Bool) : State :=
  let s1 := s.domainDown k
  let s2 := s1.modPower (fun w =>
    { w with ret := if retain then w.ret ||| BitVec.ofNat 60 (2 ^ k) else w.ret &&& ~~~BitVec.ofNat 60 (2 ^ k) })
  let s3 := ((coresOf k).foldl (fun t n => t.setCore n (t.freshCore n)) s2).modQuill (fun q =>
    { q with care := q.care.map (fun e => if kOf e.1 = k then (e.1, { e.2 with pattern := none, retest := false }) else e) })
  let m := (coresOf k).foldl (fun (y : Store) n => y.zeroRange (lsBase n) lsSize) s3.store
  { s3 with store := if retain then m else m.zeroRange (inkBase k) inkSize }

/-- A network domain goes off: the routers of its half lose what they hold but fences and calibrated latencies (R44, R793). -/
def State.netDown (s : State) (n : Nat) : State :=
  ((List.range 48).filter (fun k => decide (48 + colOf k / 4 = n))).foldl (fun t k =>
    t.modRouter k (fun r => { Router.reset with fenced := r.fenced, xcal := r.xcal })) (s.domainDown n)

/-- The network domains of the halves in which a partition has clusters. -/
def State.netsOf (s : State) (p : Nat) : List Nat :=
  (List.range 2).filterMap (fun h => if (s.clustersOf p).any (fun k => decide (colOf k / 4 = h)) then some (48 + h) else none)

/-- Whether a partition in Run or Idle other than p has a cluster in half h (R790). -/
def State.halfUsed (s : State) (p h : Nat) : Bool :=
  (List.range 48).any (fun k =>
    decide (colOf k / 4 = h) && decide (s.partOf k ≠ p) && decide ((s.qpart (s.partOf k)).life = .on))

/-- The memory controller domain of quarter q comes on: its controllers retrain (R467). -/
def State.controllersUp (s : State) (q : Nat) : State :=
  (List.range 4).foldl (fun t i =>
    t.modMc (4 * q + i) (fun x => if x.st = .failed then x else { x with st := .ready })) (s.domainUp (50 + q))

/-- The memory controller domain of quarter q goes off: each controller completes the requests it holds, those of a channel
under check too, and its package is placed in self-refresh (R467). -/
def State.controllersDown (s : State) (q : Nat) : State :=
  (List.range 4).foldl (fun t i =>
    (if (t.mcOf (4 * q + i)).st = .ready then
      (t.modMc (4 * q + i) (fun x => { x with held := 0 })).completeHeld (4 * q + i) [] else t).modMc (4 * q + i) (fun x =>
      if x.st = .failed then x
      else { x with st := .selfRefresh, held := 0, assembly := [], pending := [], spine := [], reads := [] }))
    (s.domainDown (50 + q))

/-- PW_STATE and the clock gating of a partition follow its lifecycle (R772, R787, R789): Run with a context, else Idle or
Run by its preference; regions run at 1,600 MHz while no context runs, or at 1,000 MHz under test (R774). -/
def State.refreshPw (s : State) (p : Nat) : State :=
  let idle := s.module_.power.prefIdle.getLsbD p
  let live := !(s.liveContexts p).isEmpty
  let q := s.qpart p
  let on := decide (q.life = .on ∨ q.life = .stopping)
  let st := if on then (if live then 0 else if idle then 1 else 0) else q.target
  let s1 := s.modPower (fun w => { w with states := w.states.set p st })
  ((List.range 8).filter (fun r => decide (partOfQuarter s.dev.mode (r / 2) = p))).foldl (fun t r =>
    t.modRegion r (fun x =>
      { (if on && !live && !s.bistRuns p then x.relock 8 else x) with gated := on && decide (st = 1), running := on })) s1

/-- Partition p comes on (R722, R793, R795, R798): its domains in order, its crossings, its waiting commands. -/
def State.partOn (s : State) (p : Nat) (cal : List XCal) : State :=
  let s1 := (s.quartersOf p).foldl State.controllersUp s
  let s2 := (s.netsOf p).foldl State.domainUp s1
  let s3 := (s.clustersOf p).foldl (fun t k => t.clusterUp k) s2
  let s4 := s3.modQPart p (fun q => { q with life := .on, lastStrokeTime := s.time })
  (s4.calibrateAll p cal).refreshPw p

/-- The jobs that no partition lists any more complete with OK (R723, R791). -/
def State.settleJobs (s : State) (ids : List Nat) : State :=
  ids.foldl (fun t i =>
    if (List.range 4).any (fun p => (t.qpart p).jobs.contains i || decide ((t.qpart p).held = some (.enable i)) ||
      decide ((t.qpart p).held = some (.disable i))) then t else t.finish i .ok 0) s

/-- The central part of the fabric unit is off while no fabric domain is on and no partition is STARTING or ON (R585): its
tables, counters, queues and rings are lost. -/
def State.checkCentral (s : State) : State :=
  if (List.range 4).any (fun q => s.domOn (54 + q) || decide ((s.qpart q).life = .on ∨ (s.qpart q).life = .starting)) then s
  else
    { s with fabric := { s.fabric with
        routes := [], windows := [], sync := [], dcq := .reset, rings := [], tracked := [], adds := [], bulkIn := [] } }

/-- Partition p is OFF (R722, R790, R795): its clusters in retention for Retain or off for Dormant, the half networks that
no other partition needs, its controllers with their packages in self-refresh; its windows are closed (R612), its waiting
commands complete. -/
def State.partOff (s : State) (p : Nat) : State :=
  let retain := decide ((s.qpart p).target = 2)
  let s0 := ((List.range 4).map (fun i => 4 * p + i)).foldl (fun t c => t.closeWindows c) s
  let s1 := (s0.clustersOf p).foldl (fun t k => t.clusterDown k retain) s0
  let s2 := (s.netsOf p).foldl (fun t n => if s.halfUsed p (n - 48) then t else t.netDown n) s1
  let s3 := (s.quartersOf p).foldl State.controllersDown s2
  let jobs := (s.qpart p).jobs
  let s4 := s3.modQPart p (fun q => { q with life := .off, jobs := [] })
  ((s4.refreshPw p).settleJobs jobs).checkCentral

/-- The crossing latencies that a job's command carries. -/
def Job.cal (j : Job) : List XCal :=
  match j.cmd with
  | .powerStateRun _ cal => cal
  | .powerStateIdle _ cal => cal
  | _ => []

/-- Whether a thermal emergency holds the cluster domains of partition p off (R804). -/
def State.heatHeld (s : State) (p : Nat) : Bool := (s.clustersOf p).any (fun k => s.module_.power.held.getLsbD (colOf k / 4))

/-- A partition that is OFF is enabled (R722): it comes ON, or stays STARTING while a thermal emergency holds it. -/
def State.enablePart (s : State) (p : Nat) (cal : List XCal) : State :=
  if s.heatHeld p then s.modQPart p (fun q => { q with life := .starting }) else s.partOn p cal

/-- A held enable of a partition that is OFF is carried out (R723). -/
def State.partHeld (s : State) (p : Nat) : State :=
  match (s.qpart p).life, (s.qpart p).held with
  | .off, some (.enable j) =>
    let cal := match s.job j with
      | some x => x.cal
      | none => []
    let t := (s.modQPart p (fun q => { q with held := none })).enablePart p cal
    if (t.qpart p).life = .on then t.settleJobs [j] else t.modQPart p (fun q => { q with jobs := q.jobs ++ [j] })
  | _, _ => s

end Sys2Proof.Machine
end

