-- ==== Sys2Proof/Machine/LockstepOps.lean ====
section
/-!
DEFINITION. The drift CRC (11 R672) and the stroke digests of lock-step (12 R752 to R757).
-/
namespace Sys2Proof.Machine

/-! ### Drift CRC (R672): CRC-64, polynomial 0x42F0E1EBA9EA3693 reflected -/

/-- The reflected polynomial. -/
def crcPoly : DWord := 0xC96C5795D7870F42
/-- One bit of the CRC. -/
def crcBit (c : DWord) : DWord := if c.getLsbD 0 then (c >>> 1) ^^^ crcPoly else c >>> 1
/-- One byte of the CRC. -/
def crcByte (c : DWord) (b : Byte) : DWord :=
  let x := c ^^^ b.setWidth 64
  crcBit (crcBit (crcBit (crcBit (crcBit (crcBit (crcBit (crcBit x)))))))
/-- The drift CRC of a byte string. -/
def driftCrc (l : List Byte) : DWord := (l.foldl crcByte (BitVec.allOnes 64)) ^^^ BitVec.allOnes 64

/-! ### Stroke digests -/

/-- The 72-byte record of a core-side inkwell write (R752). -/
def InkWrite.record (w : InkWrite) : List Byte :=
  toLe (w.offset % 2 ^ 27 + (if w.column then 2 ^ 31 else 0)) 4 ++
    [BitVec.ofNat 8 w.cycle, BitVec.ofNat 8 w.lcore, if w.blot then 1 else 0, 0] ++
    w.words.flatMap (fun x => toLe x.toNat 4)

/-- Put a write into its place: ascending stroke cycle, then ascending logical core (R752). -/
def insertWrite (w : InkWrite) (l : List InkWrite) : List InkWrite :=
  match l with
  | [] => [w]
  | x :: r =>
    if w.cycle < x.cycle ∨ (w.cycle = x.cycle ∧ w.lcore < x.lcore) then w :: x :: r else x :: insertWrite w r

/-- The CRC of a cluster's writes of context c; 0 for none (R752). -/
def clusterCrc (c : Nat) (l : List InkWrite) : DWord :=
  let mine := l.filter (fun w => decide (w.ctx = c))
  if mine.isEmpty then 0
  else driftCrc ((mine.foldl (fun (a : List InkWrite) w => insertWrite w a) []).flatMap InkWrite.record)

/-- The physical clusters of a running context by logical cluster, as the layout in force places them. -/
def State.ctxClusters (s : State) (c : Nat) : List (Nat × Nat) :=
  match (s.ctx c).scroll with
  | some sc =>
    let r := (sc.layout (s.ctx c).run.layout).getD []
    (List.range sc.clusters).map (fun lc => (lc, layMap r lc))
  | none => []

/-- The digest of the stroke that ends (R752): logical clusters whose CRC is not 0. -/
def State.strokeDigest (s : State) (c : Nat) : LsDigest :=
  { index := BitVec.ofNat 64 (s.ctx c).run.lsIndex, tdc := (s.ctx c).run.tdc
    crcs := ((s.ctxClusters c).map (fun e => (e.1, clusterCrc c (s.cluster e.2).ink.writes))).filter (fun e => decide (e.2 ≠ 0)) }

/-- The logical clusters whose CRCs differ, as a bit set. -/
def divergence (a b : LsDigest) : Nat :=
  (List.range 48).foldl (fun acc c => if a.crcs.get 0 c = b.crcs.get 0 c then acc else acc + 2 ^ c) 0

/-- Compare the digests of both sides index by index (R755 to R757): a difference posts event 0x00A0 and freezes the context
at its next edge; after the last index of a side that stopped, comparison ends. -/
def State.lsCompare (fuel : Nat) (s : State) (c : Nat) : State :=
  match fuel with
  | 0 => s
  | f + 1 =>
    let x := s.lsCtx c
    if !(s.ctx c).run.compared || (s.ctx c).run.freezeAtEdge then s
    else
      match x.own, x.peer with
      | a :: r, b :: q =>
        let d := divergence a b
        if a.index.toNat < b.index.toNat then (s.modLs c (fun y => { y with own := r })).lsCompare f c
        else if b.index.toNat < a.index.toNat then (s.modLs c (fun y => { y with peer := q })).lsCompare f c
        else if d = 0 then
          let t := s.modLs c (fun y => { y with own := r, peer := q, lastCompared := a.index.toNat })
          if x.endsAfter.any (fun e => decide (e ≤ a.index.toNat)) then
            (t.modRun c (fun z => { z with compared := false })).modLs c (fun _ => LsCtx.reset)
          else t.lsCompare f c
        else
          let kind := if (s.modes (ctxPart c)).detFast ∧ a.tdc ≠ b.tdc then 2 else 1
          ((s.postDivergence c kind d a.index.toNat).modLs c (fun y => { y with own := r, peer := q })).modRun c (fun z =>
            { z with freezeAtEdge := true })
      | _, _ => s

/-- Compare as far as both sides have digests. -/
def State.lsCompareAll (s : State) (c : Nat) : State :=
  s.lsCompare ((s.lsCtx c).own.length + (s.lsCtx c).peer.length + 1) c

/-- A compared context forms and sends the digest of the stroke that ends, once (R752). -/
def State.sendDigest (s : State) (c : Nat) : State :=
  let r := (s.ctx c).run
  if r.compared ∧ (s.lsCtx c).sent ≤ r.lsIndex then
    let d := s.strokeDigest c
    let s1 := s.sendLs (lsDigest (ctxPart c) (ctxNo c) 1 d.index.toNat d.tdc.toNat 0 d.crcs)
    (s1.modLs c (fun x => { x with own := x.own ++ [d], sent := r.lsIndex + 1 })).lsCompareAll c
  else s

/-- The digests of every context of partition p; the writes they covered are forgotten. -/
def State.sendDigests (s : State) (p : Nat) : State :=
  let s1 := (s.liveContexts p).foldl (fun t c => if (t.ctx c).lc.life = .on then t.sendDigest c else t) s
  (s1.clustersOf p).foldl (fun t k => if (t.cluster k).ink.writes.isEmpty then t
    else t.modInk k (fun x => { x with writes := [] })) s1

/-- Strokes completed beyond the last index that the peer has reported (R754, R767), at the edge that ends a stroke. -/
def State.lsLag (s : State) (c : Nat) : Nat := (s.ctx c).run.lsIndex + 1 - (s.lsCtx c).reported

/-- The compared context of partition p whose lead holds the partition (R754). -/
def State.lagging (s : State) (p : Nat) : Option Nat :=
  (s.liveContexts p).find? (fun c =>
    (s.ctx c).run.compared && !(s.ctx c).run.freezeAtEdge && (s.lsCtx c).endsAfter.isNone && decide (64 ≤ s.lsLag c))

end Sys2Proof.Machine
end

