-- ==== Sys2Proof/Machine/Strokes.lean ====
section
/-!
DEFINITION. Stroke edges (04 R179 to R216, R220, R221; 05 R288 to R293; 11 R663 to R665; 12 R746, R754, R755; 13 R772, R801):
when an edge occurs, its actions in order, holds, crossing stalls, cycle stretching.
-/
namespace Sys2Proof.Machine

/-! ### Time lost (R746, R801, R802) -/

/-- The running contexts of partition p. -/
def State.onContexts (s : State) (p : Nat) : List Nat := (s.liveContexts p).filter (fun c => decide ((s.ctx c).lc.life = .on))

/-- Each running context of partition p counts a stroke that is not exact (R746). -/
def State.countInexact (s : State) (p : Nat) : State :=
  (s.onContexts p).foldl (fun t c => t.modRun c (fun r => { r with inexact := satInc r.inexact })) s

/-- Mark the stroke in progress of partition p as not exact (R746). -/
def State.markLoss (s : State) (p : Nat) : State := s.modStroke p (fun x => { x with loss := true })

/-- The delay that the power cap adds to an edge (R801): counted where a context runs. -/
def State.countDelay (s : State) (p : Nat) : State :=
  if s.module_.power.delay = 0 ∨ (s.onContexts p).isEmpty then s
  else
    ((s.onContexts p).foldl (fun t c => t.modRun c (fun r => { r with delayed := r.delayed + 1 })) s).modPower (fun w =>
      { w with capDelay := w.capDelay.set p (satInc (w.capDelay.get 0 p)) }) |>.markLoss p

/-! ### Ruling stores (R197) -/

/-- A ruling store error: corrected and counted, or recorded as RULE_UNCORR (R197, R249, R250). -/
def State.ruleEcc (s : State) (e : RuleEcc) : State :=
  let k := e.k.val
  if e.uncorrectable then
    s.modRouter k (fun r =>
      { r with ruleUncorr := satInc r.ruleUncorr
               err := r.err.record (BitVec.ofNat 32 (2 ^ 26 + e.port.toNat * 2 ^ 22 + e.slice.toNat * 2 ^ 20 +
                 e.slot.toNat * 2 ^ 12)) 0 0 })
  else
    (s.modRouter k (fun r => { r with ruleCorr := satInc r.ruleCorr })).modCorrected (s.partOf k) (fun x =>
      { x with ruling := x.ruling + 1 })

/-- 24 hours in ns. -/
def dayNs : Nat := 24 * 3600 * 1000000000

/-- The Quill fences a router whose second RULE_UNCORR comes within 24 hours (R688). -/
def State.ruleFence (s : State) (k : Nat) : State :=
  let old := (s.quill.ruleUncorr.get [] k).filter (fun t => decide (s.time < t + dayNs))
  let s1 := s.modQuill (fun q => { q with ruleUncorr := q.ruleUncorr.set k (old ++ [s.time]) })
  if old.isEmpty then s1 else s1.fenceRouter k 4

/-! ### Holds (R211 to R215) -/

/-- Whether a core's context is about to stop, so that its requests are withdrawn (R215, R723). -/
def State.withdrawn (s : State) (p n : Nat) : Bool :=
  decide ((s.qpart p).life = .stopping) ||
    (match (s.core n).ctl.context with
     | some c => decide ((s.ctx c).lc.life = .stopping)
     | none => false)

/-- The hold requests pending for the next edge of partition p, as (core, request) (R211, R215). -/
def State.holdRequests (s : State) (p : Nat) : List (Nat × HoldReq) :=
  ((s.coresOfPart p).filter (fun n => !s.withdrawn p n)).filterMap (fun n => (s.core n).ctl.hold.map (fun h => (n, h)))

/-- Whether every condition holds (R211), behind the core's own operations on the counter (R358). -/
def State.holdsMet (s : State) (p : Nat) : Bool :=
  (s.holdRequests p).all (fun e => reached (s.counter e.2.counter) e.2.value && !s.syncOwed e.1 e.2.counter)

/-! ### Step 2: stops, freezes, checkpoints -/

/-- Whether a checkpoint of a context is due (R664). -/
def State.checkpointDue (s : State) (c : Nat) : Bool :=
  let l := (s.ctx c).lc
  decide (l.life = .on) && l.work.isNone &&
    (l.ckpt.isSome || l.stopQuiet.isSome ||
      (decide (l.periodMs ≠ 0) && decide (l.lastCommit + l.periodMs.toNat * 1000000 ≤ s.time)))

/-- The quiet points of a running context under its layout. -/
def State.quietPoints (s : State) (c : Nat) : List QuietPoint :=
  match (s.ctx c).scroll with
  | some sc => quietOf sc.sections (s.ctx c).run.layout
  | none => []

/-- Whether a quiet point is armed (R661). -/
def State.armed (s : State) (c : Nat) (q : QuietPoint) : Bool :=
  match ((s.ctxClusters c).find? (fun e => decide (e.1 = q.counter.toNat / 2 ^ 16 % 256))) with
  | some e => reached (s.counter (.cluster e.2 (q.counter.toNat % 256))) q.value
  | none => false

/-- The quiet point evaluated at an edge (R663): the armed one of lowest INDEX that is not consumed. -/
def State.nextQuiet (s : State) (c : Nat) : Option QuietPoint :=
  ((s.quietPoints c).filter (fun q => s.armed c q && !(s.ctx c).lc.consumed.contains q.index)).foldl (fun m q =>
    match m with
    | none => some q
    | some x => if q.index.toNat < x.index.toNat then some q else some x) none

/-- Whether nothing of a context is in flight (R290): no token in an inbound queue, pairing buffer, egress channel or
combining queue of the context, no flit on a link or in a crossing of the partition. A control entry that STEER wrote counts as a token of its
pairing buffer (DESIGN CHOICE, log 106). -/
def State.quiet (s : State) (c : Nat) : Bool :=
  (s.coresOfCtx c).all (fun n =>
    let x := s.core n
    x.qs.inq.all (fun e => e.2.isEmpty) && x.qs.echan.all (fun e => e.2.isEmpty) && x.steer.buf.all (fun e => e.2.isEmpty)) &&
  (s.ctxClusters c).all (fun e =>
    let q := (s.cluster e.2).cq
    q.pieces.all (fun y => decide (y.2.arrivals = 0)) && q.results.all (fun y => y.2.isEmpty)) &&
  s.fabric.dcq.pieces.all (fun y => decide (y.2.arrivals = 0) || decide (s.fabric.dcq.owner.get 16 (y.1 / 8) ≠ c)) &&
  s.fabric.dcq.results.all (fun y => y.2.isEmpty || decide (s.fabric.dcq.owner.get 16 y.1 ≠ c)) &&
  (s.clustersOf (ctxPart c)).all (fun k => (s.cluster k).router.flying.all (fun x => !x.onWay))

/-- Whether a quiet point is reached (R663): every core in WAIT_ENTRY or HALTED, nothing in flight, no flit in an addressed
landing stream. -/
def State.quietReached (s : State) (c : Nat) : Bool :=
  (s.coresOfCtx c).all (fun n =>
    let x := s.core n
    (x.ctl.st == .waitEntry || x.ctl.st == .halted) &&
      x.te.stream.all (fun e => e.2.isEmpty || !x.te.addressed.getLsbD e.1)) && s.quiet c

/-- The clusters of partition p with an open drift comparison (R666). -/
def State.openSamples (s : State) (p : Nat) : List Nat :=
  (s.quill.drift.filter (fun e => e.2.sample.isSome && decide (s.partOf e.1 = p))).map (fun e => e.1)

/-- What is under way in the local stores and inkwells of a context is done (log 95). -/
def State.settleCtx (s : State) (c : Nat) : State :=
  (s.ctxClusters c).foldl (fun t e => t.inkSettle e.2) ((s.coresOfCtx c).foldl (fun t n => t.lsSettle n) s)

/-- A checkpoint begins (R665 steps 1 and 2): the partition pauses, the counters of the edge are captured. -/
def State.beginCheckpoint (s : State) (c : Nat) (sc : Scroll) (parts : List Nat) (q : QuietPoint) : State :=
  let p := ctxPart c
  let seqs := s.store.imageSeqs p (ctxNo c)
  let w : CkptWork :=
    { parts := parts, seq := (newestOf seqs).getD 0 + 1, stroke := s.ctxStroke c + 1, quiet := q.index, written := false
      waits := s.openSamples p, spoiled := false }
  let s1 := ((s.settleCtx c).modLife c (fun l =>
    { l with work := some w, consumed := setAdd l.consumed q.index })).captureCounters parts sc
    ((sc.layout (s.ctx c).run.layout).getD [])
  s1.modPart p (fun x => { x with ckptPause := some c })

/-- Evaluate quiet points at an edge (R663). A point is missed too where no image slot is clear of bad ranges (R454; DESIGN
CHOICE, log 110). -/
def State.evalQuiet (s : State) (c : Nat) : State :=
  if s.checkpointDue c && (s.part (ctxPart c)).ckptPause.isNone then
    match (s.ctx c).scroll, s.nextQuiet c with
    | some sc, some q =>
      match (if s.quietReached c then s.newSlots c sc else none) with
      | some parts => s.beginCheckpoint c sc parts q
      | none => s.modLife c (fun l => { l with missed := satInc l.missed, consumed := setAdd l.consumed q.index })
    | _, _ => s
  else s

/-- A consumed point stops being consumed once it is not armed (R663). -/
def State.rearm (s : State) (c : Nat) : State :=
  let arm := (s.quietPoints c).filter (s.armed c)
  s.modLife c (fun l => { l with consumed := l.consumed.filter (fun i => arm.any (fun q => q.index == i)) })

/-- A context freezes at its edge (R755): its cores show FROZEN and its partition holds there. -/
def State.freeze (s : State) (c : Nat) : State :=
  let s1 := (s.coresOfCtx c).foldl (fun t n => t.modCtl n (fun x => { x with st := .frozen })) s
  (s1.modRun c (fun r => { r with frozen := true, freezeAtEdge := false, compared := false })).modPart (ctxPart c) (fun x =>
    { x with ckptPause := some c })

/-! ### Step 3: the seam ratio (R217, R220 to R222) -/

/-- Whether half h changes its ratio between two codes. -/
def halfChanges (old new h : Nat) : Bool := (decide (old = h + 1)) != decide (new = h + 1)

/-- Whether the link at a port of cluster k is a seam link (R27). -/
def seamPort (k port : Nat) : Bool :=
  match linkAt k port with
  | some k2 => crossesSeam (colOf k) (colOf k2)
  | none => false

/-- Whether a layout has a seam slot at router k (R220): an entry that writes or reads a seam link. -/
def seamSlotAt (sc : Scroll) (l k : Nat) : Bool :=
  (List.range 4).any (fun i => match rulingSec sc.sections l k i with
    | some x => (rulingOf x.bytes).entries.any (fun e =>
        entryValid e.2 && (seamPort k (e.1 / 1024) || seamPort k (entryInPort e.2)))
    | none => false)

/-- Whether a layout has a cluster or a seam slot in one of the halves that `half` names (R220, R223). -/
def inHalf (sc : Scroll) (l : Nat) (r : List Byte) (half : Nat → Bool) : Bool :=
  (mappedClusters r sc.clusters).any (fun k => half (colOf k / 4)) ||
    (routersOf sc.sections l).any (fun k => half (colOf k / 4) && seamSlotAt sc l k)

/-- Whether a layout has a cluster or a seam slot in a half that changes (R220). -/
def touchesHalf (sc : Scroll) (l : Nat) (r : List Byte) (old new : Nat) : Bool := inHalf sc l r (halfChanges old new)

/-- The running contexts that keep a new ratio from taking effect (R220). -/
def State.seamBlockers (s : State) (p new : Nat) : List Nat :=
  let old := (s.part p).stroke.seamRatio.toNat
  (s.liveContexts p).filter (fun c =>
    match (s.ctx c).scroll with
    | some sc =>
      let r := (sc.layout (s.ctx c).run.layout).getD []
      decide (laySeam r ≠ new) && touchesHalf sc (s.ctx c).run.layout r old new
    | none => false)

/-- A request for a seam ratio (R220 to R222): the ratio in force cancels a deferred request; another replaces it. SEAM_REQ
shows it from the request on, before the edge that takes or defers it (R252; DESIGN CHOICE, log 107). -/
def State.seamRequest (s : State) (p new : Nat) : State :=
  if s.dev.mode ≠ 0 then s
  else
    s.modStroke p (fun x =>
      if x.seamRatio.toNat = new then { x with seamNext := none, seamDeferred := false, seamReq := 0 }
      else { x with seamNext := some (BitVec.ofNat 2 new), seamReq := BitVec.ofNat 2 new })

/-- A ratio change that is due takes effect, or is deferred (R216 step 3, R221). -/
def State.seamStep (s : State) (p : Nat) : State :=
  match (s.part p).stroke.seamNext with
  | none => s
  | some r =>
    if (s.seamBlockers p r.toNat).isEmpty then
      s.modStroke p (fun x => { x with seamRatio := r, seamNext := none, seamDeferred := false, seamReq := 0 })
    else s.modStroke p (fun x => { x with seamDeferred := true })

/-! ### Step 4: rulings (R200, R201) -/

/-- Rulings succeed one another at the edge (R200), or change as the Quill's switch says (R201, R235). -/
def State.rulingStep (s : State) (p : Nat) : State :=
  let n := (s.part p).stroke.count + 1
  ((s.clustersOf p).filter (fun k => !(s.cluster k).router.rulings.isEmpty)).foldl (fun t k =>
    t.modRouter k (fun r => r.turn n)) s

/-! ### Step 5: configurations (R288 to R293) -/

/-- Tokens a core holds in its queues, channels and pairing buffers. -/
def Core.tokens (x : Core) : Nat :=
  let sum (l : Tbl (List Token)) : Nat := l.foldl (fun a e => a + e.2.length) 0
  sum x.qs.inq + sum x.qs.echan + sum x.steer.buf

/-- Count n tokens discarded under R284 for partition p. -/
def State.countStale (s : State) (p n : Nat) : State :=
  if n = 0 then s
  else
    (s.modEpoch p (fun e => { e with staleCfg := satAdd e.staleCfg n })).modReports p (fun r =>
      { r with cfgTotal := r.cfgTotal + n, staleMoved := r.staleMoved || decide ((s.part p).epoch.staleCfg ≠ BitVec.allOnes 32) })

/-- Sweep a core (R291 step 3): every token it holds is discarded and counted, one of an egress channel for the core that
holds it, a control entry that STEER wrote like the others (DESIGN CHOICE, log 106). -/
def State.sweepCore (s : State) (n : Nat) : State :=
  let t := (s.core n).tokens
  (s.modCore n (fun x =>
    { x with qs := { x.qs with inq := [], echan := [] }
             steer := { x.steer with buf := [], ready := [], cfgCnt := satAdd x.steer.cfgCnt t } })).countStale (s.partOf (kOf n)) t

/-- Clear the rounds in progress of combining queues, and the results that wait to be written, and answer how many tokens
they held (R291 step 3, R352). -/
def Combining.sweep (x : Combining) (mine : Nat → Bool) : Nat × Combining :=
  let old := x.pieces.filter (fun e => mine (e.1 / 8))
  let res := x.results.filter (fun e => mine e.1)
  (old.foldl (fun a e => a + e.2.arrivals) 0 + res.foldl (fun a e => a + e.2.length) 0,
    { x with pieces := x.pieces.filter (fun e => !mine (e.1 / 8)), cycles := x.cycles.filter (fun e => !mine e.1)
             results := x.results.filter (fun e => !mine e.1) })

/-- The combining queues of a context are cleared at the edge where a configuration begins (R352). -/
def State.sweepCombining (s : State) (c : Nat) : State :=
  let p := ctxPart c
  let s1 := (s.ctxClusters c).foldl (fun t e =>
    let r := (t.cluster e.2).cq.sweep (fun _ => true)
    (t.modCluster e.2 (fun x => { x with cq := r.2 })).countStale p r.1) s
  let r := s1.fabric.dcq.sweep (fun n => decide (s.fabric.dcq.owner.get 16 n = c))
  ({ s1 with fabric := { s1.fabric with dcq := r.2 } } : State).countStale p r.1

/-- The queue part of a new configuration (R291 step 5, R320, R329): modes, channels and credits; closure by HALT stays. -/
def CoreQueues.reconfigure (q : CoreQueues) (b : List Byte) : CoreQueues :=
  { q with qmode := BitVec.ofNat 16 (cfgQmode b), echanFree := BitVec.ofNat 8 (cfgFree b), credit := creditsOf b, notice := []
           rotate := decide (cfgSelect b % 2 = 1), fdest := (List.range 8).map (fun n => (n, cfgFdest b n)) }

/-- A core that is re-roled (R292, R414): registers and accumulators zero, new role epoch and steering configuration, its
new entry instruction in cycle 0 of the new stroke, in a free section; its transfer, TE channels and paired streams
end. -/
def Core.rerole (x : Core) (b : List Byte) (cyc : Nat) : Core :=
  { x with
    regs := { CoreRegs.reset with istore := x.regs.istore }
    ctl := { x.ctl with
      st := .free, pc := BitVec.ofNat 12 (cfgEntry b), pastEnd := false, entry := none, hold := none, blockedOn := none
      cyc := cyc, skew := some 0, sready := [], vready := [] }
    eng := { CoreEng.reset with
      err := x.eng.err, parityCnt := x.eng.parityCnt, residueCnt := x.eng.residueCnt, meFlags := x.eng.meFlags
      veFlags := x.eng.veFlags }
    steer := { (steerOf b x.steer) with
      roleCnt := x.steer.roleCnt, cfgCnt := x.steer.cfgCnt, noneSel := x.steer.noneSel, mergeDrop := x.steer.mergeDrop
      unusedIn := x.steer.unusedIn }
    qs := { x.qs.reconfigure b with haltClosed := false }
    te := { x.te with
      desc := none, xfer := none, free := 0, chan := []
      stream := x.te.stream.filter (fun e => x.te.addressed.getLsbD e.1), addressed := BitVec.ofNat 8 (cfgAddressed b) }
    ls := .reset
    due := [] }

/-- Flits that re-roling a core discards (R414): TE egress channels and paired streams. -/
def Core.droppedFlits (x : Core) : Nat :=
  x.te.chan.foldl (fun a e => a + e.2.length) 0 +
    (x.te.stream.filter (fun e => !x.te.addressed.getLsbD e.1)).foldl (fun a e => a + e.2.length) 0

/-- A core takes its new configuration at the edge (R291 steps 4 and 5). -/
def State.reconfigureCore (s : State) (n : Nat) (b : List Byte) (cyc : Nat) : State :=
  let x := s.core n
  if x.steer.roleEpoch.toNat ≠ cfgRole b then
    (((s.dropWrites n (cyc - 1)).lsSettle n).modCore n (fun y => y.rerole b cyc)).modInk (kOf n) (fun i => { i with streamDrop := satAdd i.streamDrop x.droppedFlits })
  else
    let s1 := s.modCore n (fun y =>
      { y with steer := { y.steer with
                 configId := BitVec.ofNat 4 (cfgId b)
                 chanRepoch := (List.range 8).map (fun m => (m, BitVec.ofNat 8 (cfgChan b m))) }
               qs := y.qs.reconfigure b })
    match x.ctl.blockedOn with
    | some (.send ch _) => s1.resumeSend n ch
    | _ => s1

/-- The configuration of a RECONFIGURE begins (R291): the routers switch, the epoch rises, tokens are swept, cores take
their configurations; the command completes with the stroke that begins. -/
def State.beginConfig (s : State) (p : Nat) (r : Reconf) : State :=
  let c := r.context
  match (s.ctx c).scroll with
  | none => s
  | some sc =>
    let l := (s.ctx c).run.layout
    let rec_ := (sc.layout l).getD []
    let s1 := (routersOf sc.sections l).foldl (fun t k =>
      t.modRouter k (fun x => { x with active := r.ruling, repeatPos := 0, pending := none })) s
    let s2 := s1.modEpoch p (fun e => { e with epoch := e.epoch + 1, configId := r.configId, reconf := none, firstStroke := true })
    let s3 := ((s2.coresOfCtx c).foldl (fun t n => t.sweepCore n) s2).sweepCombining c
    let cyc := ((s.part p).stroke.count.toNat + 1) * 256
    let s4 := (rolesOf sc.sections l).foldl (fun t e =>
      match t.physCore (layMap rec_ e.1) e.2 with
      | some n => t.reconfigureCore n ((configOf sc.sections l e.1 e.2 r.configId.toNat).getD []) cyc
      | none => t) s3
    (s4.modRun c (fun x => { x with configId := r.configId })).finish r.job .ok ((s.ctxStroke c).toNat + 1)

/-- A pending RECONFIGURE at an edge (R289, R290): it begins, or a drain counts an evaluation that failed, at most 1,024. -/
def State.configStep (s : State) (p : Nat) : State :=
  let s0 := s.modEpoch p (fun e => { e with firstStroke := false })
  match (s.part p).epoch.reconf with
  | none => s0
  | some r =>
    if r.stroke ≠ 0 ∧ (s.ctxStroke r.context).toNat + 1 < r.stroke.toNat then s0
    else if r.discard || s.quiet r.context then s0.beginConfig p r
    else if 1023 ≤ r.evaluated then
      (s0.modEpoch p (fun e => { e with reconf := none })).finish r.job .timeout 0
    else s0.modEpoch p (fun e => { e with reconf := some { r with evaluated := r.evaluated + 1 } })

/-! ### Step 6: windows (R429, R612) -/

/-- Window closes of partition p take effect: those commanded, and those of contexts that have ended. -/
def State.windowStep (s : State) (p : Nat) : State :=
  (List.range 64).foldl (fun t w =>
    let x := t.window w
    let c := 4 * x.part + x.ctx
    let life := (t.ctx c).lc.life
    if decide (x.part = p) && (x.closing || (x.opened && decide (life ≠ .on ∧ life ≠ .starting))) then t.shutWindow w else t) s

/-! ### Steps 7 and 8 -/

/-- A core in WAIT_ENTRY enters its section in the stroke that begins (R151 to R153). -/
def Core.enterStroke (x : Core) (count : Nat) (ctxStroke : Word) : Core :=
  let go := fun (off : Nat) => { x with ctl := { x.ctl with st := .ruled, entry := none, cyc := count * 256 + off } }
  if x.ctl.st = .waitEntry then
    match x.ctl.entry with
    | some (.next off) => go off
    | some (.hold off) => go off
    | some (.atStroke v off) => if v = ctxStroke then go off else x
    | none => x
  else x

/-- Every cycle ledger of partition p is set to the time base (R781). -/
def State.syncLedgers (s : State) (p : Nat) : State :=
  ((List.range 8).filter (fun r => decide (partOfQuarter s.dev.mode (r / 2) = p))).foldl (fun t r =>
    t.modRegion r (fun x => { x with ledger := s.time })) s

/-- The stroke counter increments; contexts that start begin, and count their strokes (R216 step 7, R722, R751). -/
def State.countStroke (s : State) (p : Nat) : State :=
  let s1 := (s.onContexts p).foldl (fun t c => t.modRun c (fun r => { r with lsIndex := r.lsIndex + 1 })) s
  let s1 := s1.syncLedgers p
  let s2 := s1.modStroke p (fun x => { x with count := x.count + 1, loss := false })
  let s3 := s2.modQPart p (fun q => { q with lastStroke := (s2.part p).stroke.count, lastStrokeTime := s.time })
  (s3.liveContexts p).foldl (fun t c => if (t.ctx c).lc.life = .starting then t.beginContext c else t) s3

/-- Cores waiting under R151 to R153 enter (R216 step 8). -/
def State.enterCores (s : State) (p : Nat) : State :=
  let n0 := (s.part p).stroke.count.toNat
  (s.coresOfPart p).foldl (fun t n =>
    if (t.core n).ctl.st = .waitEntry then
      t.modCore n (fun x => x.enterStroke n0 ((t.ctxStroke (x.ctl.context.getD 0)).setWidth 32))
    else t) s

/-- A held STOP_CONTEXT is carried out on a context that is ON now (R668, R723): FORM 0 at the next edge, FORM 1 at the next
quiet point. -/
def State.carryDisable (s : State) (c j : Nat) : State :=
  let quiet := match s.job j with
    | some x => match x.cmd with
      | .stopContextAtQuiet _ => true
      | _ => false
    | none => false
  s.modLife c (fun l =>
    if quiet then { l with held := none, stopQuiet := some j }
    else { l with held := none, life := .stopping, stopEdge := l.stopEdge ++ [j] })

/-- A disable held on a context that is ON now is carried out (R723). -/
def State.runDisable (t : State) (c : Nat) : State :=
  match (t.ctx c).lc.life, (t.ctx c).lc.held with
  | .on, some (.disable j) => t.carryDisable c j
  | _, _ => t

/-- What a context that has just been started or stopped leaves to do after an edge: held enables (R723), a disable held on a
context that is ON now, the partition's own disable, PW_STATE. -/
def State.afterEdge (s : State) (p : Nat) : State :=
  let cs := (List.range 4).map (fun i => 4 * p + i)
  let s1 := cs.foldl (fun t c => t.runDisable c) s
  let s2 := if (s1.qpart p).life = .stopping ∧ (s1.liveContexts p).isEmpty then (s1.partOff p).partHeld p else s1
  let s3 := if (s2.qpart p).life = .on then cs.foldl (fun t c => t.runHeld c) s2 else s2
  (s3.refreshPw p).resumeSends p

/-- The flits of partition p cross into the stroke that begins (R195, R204, R293). -/
def State.flyAll (s : State) (p : Nat) : State := (s.clustersOf p).foldl (fun t k => t.flyCluster k) s

/-- Steps 3 to 8 of an edge (R216). -/
def State.edgeTail (s : State) (p : Nat) : State :=
  (((((((s.seamStep p).rulingStep p).configStep p).windowStep p).countStroke p).flyAll p).enterCores p).afterEdge p

/-- Whether a core has something still to happen in it or flits in a channel. -/
def Core.stirs (x : Core) : Bool :=
  !x.due.isEmpty || x.te.desc.isSome || x.ls.run.isSome || x.te.chan.any (fun e => !e.2.isEmpty) || x.qs.echan.any (fun e => !e.2.isEmpty)

/-- The stroke in progress runs to its end: what is to happen in its cycles has happened, its slots have taken their flits
(R193, R277, R291). -/
def State.endStroke (s : State) (p : Nat) : State :=
  let last := (s.part p).stroke.count.toNat * 256 + 255
  ((s.coresOfPart p).filter (fun n => (s.core n).stirs)).foldl (fun t n => (t.coreRun n last).takeAll n last) s

/-- Step 2 for context c: stops that are due, or all while its partition goes off (R790), then freezes. -/
def State.stopStep (s : State) (p c : Nat) : State :=
  let l := (s.ctx c).lc
  if l.life = .off then s
  else if !l.stopEdge.isEmpty || decide (l.life = .stopping) || decide ((s.qpart p).life = .stopping) then s.stopContext c
  else if (s.ctx c).run.freezeAtEdge then s.freeze c
  else s

/-- The edge of partition p occurs (R216) once its stroke has run to its end: steps 1 and 2; where a checkpoint or a freeze pauses the partition, the edge
stops there, else it goes on. -/
def State.strokeEdge (s : State) (p : Nat) : State :=
  let lossy := (s.part p).stroke.loss
  let s := s.endStroke p
  let s0 := if lossy then s.countInexact p else s
  let s1 := (s0.coresOfPart p).foldl (fun t n => if (t.core n).ctl.hold.isSome then t.modCtl n (fun x => { x with hold := none }) else t) s0
  let s2 := s1.modPart p (fun x => { x with stroke := { x.stroke with holdSince := none }, lagHold := none })
  let cs := (List.range 4).map (fun i => 4 * p + i)
  let s3 := cs.foldl (fun t c => t.stopStep p c) s2
  let s4 := (s3.onContexts p).foldl (fun t c => (t.evalQuiet c).rearm c) s3
  if (s4.part p).ckptPause.isSome then (if lossy then s4 else s4.countInexact p).modStroke p (fun x => { x with loss := false })
  else s4.edgeTail p

/-- The edge that is due occurs unless a hold keeps it back (R211, R212, R754). `first` says that the edge is evaluated for
the first time: a held edge is counted then. -/
def State.tryEdge (s : State) (p : Nat) (first : Bool) : State :=
  match s.lagging p with
  | some c =>
    let s1 := s.modPart p (fun x => { x with lagHold := some c })
    if first then
      ((s1.modStroke p (fun x => { x with holdCnt := satInc x.holdCnt, holdSince := some s.time })).markLoss p).modQuill (fun q =>
        { q with ls := { q.ls with waits := satInc q.ls.waits } })
    else s1
  | none =>
    let s1 := s.modPart p (fun x => { x with lagHold := none })
    if s1.holdsMet p then s1.strokeEdge p
    else if first then
      (s1.modStroke p (fun x => { x with holdCnt := satInc x.holdCnt, holdSince := some s.time })).markLoss p
    else s1

/-- Whether a partition's strokes run: it is ON or about to go off, and does not pause. -/
def State.strokesRun (s : State) (p : Nat) : Bool :=
  decide (s.partNamed p = p) && (decide ((s.qpart p).life = .on) || decide ((s.qpart p).life = .stopping)) && !(s.part p).paused

/-- STROKE_EDGE (R185, R197, R211, R216, R801): the edge timer ends a stroke. An uncorrectable ruling store error is a
partition fault; else a late edge is counted, digests are sent, and the edge occurs or is held. -/
def effStrokeEdge (p : Fin 4) (overrun : Bool) (rules : List RuleEcc) (cal : List XCal) (s : State) : State :=
  if s.strokesRun p then
    let mine := rules.filter (fun e => decide (s.partOf e.k.val = p.val))
    let s1 := mine.foldl State.ruleEcc s
    match mine.find? (fun e => e.uncorrectable) with
    | some e => (s1.ruleFence e.k.val).partFault p 1 (s1.cluster e.k.val).router.err.read.toNat cal
    | none =>
      let s2 := if overrun then (s1.modStroke p (fun x => { x with ovrMargin := satInc x.ovrMargin })).markLoss p else s1
      ((s2.countDelay p).sendDigests p).tryEdge p true
  else s
/-- STROKE_EDGE. -/
def execStrokeEdge (p : Fin 4) (overrun : Bool) (rules : List RuleEcc) (cal : List XCal) (s : State) :
    Host.Outcome State Fault Refusal := .next (effStrokeEdge p overrun rules cal s)

/-- HOLD_RELEASE (R212, R215): a held edge occurs once every condition holds. -/
def effHoldRelease (p : Fin 4) (s : State) : State :=
  let x := s.part p
  if x.stroke.holdSince.isSome && x.stroke.stall.isNone && x.ckptPause.isNone then s.tryEdge p false else s
/-- HOLD_RELEASE. -/
def execHoldRelease (p : Fin 4) (s : State) : Host.Outcome State Fault Refusal := .next (effHoldRelease p s)

/-! ### Crossings (R207 to R209) -/

/-- CROSSING_EMPTY_STALL (R207): the partition pauses until the entry lands; NW_OVR_EMPTY rises. -/
def effCrossingEmptyStall (p : Fin 4) (s : State) : State :=
  if s.strokesRun p then
    s.modStroke p (fun x => { x with stall := some .empty, ovrEmpty := satInc x.ovrEmpty, loss := true })
  else s
/-- CROSSING_EMPTY_STALL. -/
def execCrossingEmptyStall (p : Fin 4) (s : State) : Host.Outcome State Fault Refusal := .next (effCrossingEmptyStall p s)

/-- CROSSING_FULL_STALL (R208): the partition pauses until an entry frees; NW_OVR_FULL rises. -/
def effCrossingFullStall (p : Fin 4) (s : State) : State :=
  if s.strokesRun p then
    s.modStroke p (fun x => { x with stall := some .full, ovrFull := satInc x.ovrFull, loss := true })
  else s
/-- CROSSING_FULL_STALL. -/
def execCrossingFullStall (p : Fin 4) (s : State) : Host.Outcome State Fault Refusal := .next (effCrossingFullStall p s)

/-- CROSSING_RESUME (R207, R208): all regions resume together. -/
def effCrossingResume (p : Fin 4) (s : State) : State := (s.modStroke p (fun x => { x with stall := none })).resumeSends p
/-- CROSSING_RESUME. -/
def execCrossingResume (p : Fin 4) (s : State) : Host.Outcome State Fault Refusal := .next (effCrossingResume p s)

/-- DROOP_STRETCH (13 R777): a region whose generator runs stretches some cycles, each counted in CK_STRETCHr. -/
def effDroopStretch (r : Fin 8) (cycles : BitVec 8) (s : State) : State :=
  if (s.region r).running then s.modRegion r (fun x => { x with stretch := satAdd x.stretch cycles.toNat }) else s
/-- DROOP_STRETCH. -/
def execDroopStretch (r : Fin 8) (cycles : BitVec 8) (s : State) : Host.Outcome State Fault Refusal :=
  .next (effDroopStretch r cycles s)

end Sys2Proof.Machine
end

