-- ==== Sys2Proof/Machine/Checkpoints.lean ====
section
/-!
DEFINITION. Checkpoints after their edge (11 R665 to R670, R681; 14 R841), restarts (R657, R658), remaps (R687).
-/
namespace Sys2Proof.Machine

/-! ### Mirrors (R669, R670, R841) -/

/-- Bytes of a part in a host mirror, its blot map included. -/
def mirrorPart : Nat := 0x60600000
/-- Key number of the mirror MAC key (log 8). -/
def mirrorMac : Nat := 4
/-- Key number of the mirror key pair under tweak u (log 8). -/
def mirrorKey (u : Nat) : Nat := 2 ^ 16 + u

/-- The blot map of a part (R670). -/
def Store.blotMap (m : Store) (a : Nat) : List Byte :=
  (List.range 0x600000).map (fun i =>
    BitVec.ofNat 8 ((List.range 8).foldl (fun acc j => if m.blotAt (a + 32 * (8 * i + j)) then acc + 2 ^ j else acc) 0))

/-- A mirrored part encrypted (R841): bytes 0 to 4,095 in clear with the MAC in 64 to 95 and 1 in 96, every later 4 KiB
unit under its tweak. -/
def sealedPart (b : List Byte) : List Byte :=
  let body := (List.range (b.length / 4096 - 1)).flatMap (fun i =>
    Config.sm4 (mirrorKey (i + 1)) ((b.drop (4096 * (i + 1))).take 4096))
  (b.take 64 ++ toLe (Config.hmac mirrorMac body).toNat 32 ++ [1] ++ (b.drop 97).take (4096 - 97)) ++ body

/-- A part as a host mirror holds it. -/
def State.hostPart (s : State) (a : Nat) (enc : Bool) : List Byte :=
  let b := s.store.bytes a partBytes ++ s.store.blotMap a
  if enc then sealedPart b else b

/-- A part as a fabric mirror holds it. -/
def State.fabricPart (s : State) (a : Nat) (enc : Bool) : List Byte :=
  let b := s.store.bytes a partBytes
  if enc then sealedPart b else b

/-- Message i of a fabric mirror of a part: up to 15 units (R586), each with its blot (R670). -/
def State.mirrorUnits (s : State) (a : Nat) (b : List Byte) (i : Nat) : List Flit :=
  (List.range (min 15 ((partBytes - 480 * i) / 32))).map (fun u =>
    { data := BitVec.ofNat 256 (leNat ((b.drop (480 * i + 32 * u)).take 32)), blot := s.store.blotAt (a + 480 * i + 32 * u) })

/-- One part of an image is written to the host's memory (R669). -/
def State.mirrorToHost (t : State) (fn : Nat) (k : CkptCmd) (e : Nat × Nat) : State :=
  t.emit (.hostWrite fn (k.hostAddr.toNat + e.2 * mirrorPart) (t.hostPart e.1 k.sm4))

/-- The function that sent a job's command. -/
def State.jobFn (s : State) (id : Nat) : Nat :=
  match s.job id with
  | some j => j.hdr.fn.val
  | none => 0

/-- How many messages of 480 bytes carry a part. -/
def partMessages : Nat := (partBytes + 479) / 480

/-- One part of an image is written to the peer's window, 480 bytes a message (R669, R628). -/
def State.mirrorToPeer (t : State) (k : CkptCmd) (e : Nat × Nat) : State :=
  let b := t.fabricPart e.1 k.sm4
  if k.mirror ≠ 2 then t
  else (List.range partMessages).foldl (fun u i =>
    u.sendWrite k.peerDevice k.peerWindow (e.2 * partBytes + 480 * i) (u.mirrorUnits e.1 b i) (.mirror k.job)) t

/-- The mirror that a CHECKPOINT asks for is written after the commit (R669, R628); the command goes on until it is
complete. -/
def State.writeMirror (s : State) (k : CkptCmd) (w : CkptWork) : State :=
  if k.mirror = 1 then w.parts.zipIdx.foldl (fun t e => t.mirrorToHost (s.jobFn k.job) k e) s
  else w.parts.zipIdx.foldl (fun t e => t.mirrorToPeer k e) s

/-- Note the SEQUENCE that a CHECKPOINT will report. -/
def State.noteJob (s : State) (id v : Nat) : State :=
  { s with host := { s.host with jobs := s.host.jobs.map (fun e => if e.1 = id then (e.1, { e.2 with value := v }) else e) } }

/-- COMMIT is written (R665 step 4): the CHECKPOINT that waits completes, or goes on with its mirror. -/
def State.commitCheckpoint (s : State) (c : Nat) (w : CkptWork) : State :=
  let k := (s.ctx c).lc.ckpt
  let s1 := (s.commitImage c w).modLife c (fun l => { l with work := none, ckpt := none })
  match k with
  | none => s1
  | some k =>
    if k.mirror = 0 then s1.finish k.job .ok (w.seq % 2 ^ 48) else (s1.noteJob k.job (w.seq % 2 ^ 48)).writeMirror k w

/-! ### Rotation (R681) -/

/-- The patrol mode in force in partition p (R720, R766). -/
def State.patrolMode (s : State) (p : Nat) : Nat := if s.quill.health.service = 1 then 0 else (s.modes p).patrolSet.toNat
/-- Whether the high drift rate is in force in partition p. -/
def State.driftHigh (s : State) (p : Nat) : Bool := decide (s.quill.health.service = 1) || (s.modes p).driftHigh

/-- The tested spare of a cluster that takes a role (R681). -/
def State.testedSpare (s : State) (k : Nat) : Option Nat := (s.sparesOf k).find? (fun n => (s.care n).tested)

/-- The live core of context c in cluster k whose last full pass is oldest, the lowest among equals (R681). -/
def State.oldestLive (s : State) (c k : Nat) : Option Nat :=
  ((coresOf k).filter (fun n => decide ((s.core n).ctl.context = some c))).foldl (fun m n =>
    match m with
    | none => some n
    | some x => if (s.care n).lastPass < (s.care x).lastPass then some n else some x) none

/-- What a spare takes over with a role at a quiet point (R681): the role's state, its registers zero. The remap has written
its instruction store (R132); its own error registers and counts stay (R302, R306, R375). -/
def Core.takeRole (new old : Core) : Core :=
  { regs := { CoreRegs.reset with istore := new.regs.istore }
    ctl := { old.ctl with
      fenced := new.ctl.fenced, patrol := false, lcluster := new.ctl.lcluster, lcore := new.ctl.lcore, sready := [], vready := [] }
    eng := new.eng.fresh
    errs := { new.errs with
      cmap := old.errs.cmap, bulkBase := old.errs.bulkBase, bulkLimit := old.errs.bulkLimit
      hostBase := old.errs.hostBase, hostLimit := old.errs.hostLimit }
    steer := { old.steer with
      err := new.steer.err, lastOrdinal := new.steer.lastOrdinal, clamp := new.steer.clamp, roleCnt := new.steer.roleCnt
      cfgCnt := new.steer.cfgCnt, noneSel := new.steer.noneSel, mergeDrop := new.steer.mergeDrop
      unusedIn := new.steer.unusedIn }
    qs := { old.qs with recvDrop := new.qs.recvDrop, sendDrop := new.qs.sendDrop }
    te := { old.te with desc := none, xfer := none, farWrites := new.te.farWrites, farNext := new.te.farNext }
    ls := .reset
    due := old.due }

/-- A core that a role left: IDLE, a spare, its queues and buffers empty. Registers that only a start, a restore or a
configuration edge writes stay (R311, R383). -/
def Core.leaveRole (x : Core) : Core :=
  { x with
    ctl := { CoreCtl.reset with st := .idle, fenced := x.ctl.fenced }
    eng := x.eng.fresh
    steer := { x.steer with buf := [], ready := [], fireFrom := [] }
    qs := { x.qs with inq := [], echan := [], credit := [], notice := [] }
    te := { CoreTe.reset with farWrites := x.te.farWrites, farNext := x.te.farNext }
    ls := .reset
    due := [] }

/-- One live core of cluster k rotates out (R681): CL_CMAP and event 0x0011, the spare with the role's state, its local
store from the image just written. -/
def State.rotateCluster (s : State) (c : Nat) (w : CkptWork) (lc k : Nat) : State :=
  match s.testedSpare k, s.oldestLive c k with
  | some new, some old =>
    let x := s.core old
    let l := x.ctl.lcore.toNat
    let s1 := s.remapTo k l old new 2
    let s2 := (s1.modCore new (fun y => y.takeRole x)).modCore old Core.leaveRole
    { s2 with store := s2.store.copyRange (partLocal (w.parts.getD (lc / 12) 0) lc l) (lsBase new) lsSize }
  | _, _ => s

/-- Rotation at a checkpoint of context c (R676, R681). -/
def State.rotate (s : State) (c : Nat) (w : CkptWork) : State :=
  if s.patrolMode (ctxPart c) = 0 then (s.ctxClusters c).foldl (fun t e => t.rotateCluster c w e.1 e.2) s else s

/-! ### The commands -/

/-- A context that a deferred seam ratio stops at its checkpoint (R221): it goes OFF and is due to restart under the new
ratio once no context keeps the ratio from taking effect. -/
def State.seamRelease (s : State) (c : Nat) : State :=
  let s1 := ((s.endCompare c 2).releaseCores c).unpause c
  s1.modLife c (fun l => { l with life := .off, restartDue := true })

/-- Whether a deferred seam ratio waits for context c (R221). -/
def State.seamWaits (s : State) (c : Nat) : Bool :=
  let x := (s.part (ctxPart c)).stroke
  match x.seamNext with
  | some r => x.seamDeferred && (s.seamBlockers (ctxPart c) r.toNat).contains c
  | none => false

/-- A checkpoint that is being written while its partition pauses. -/
def State.pausedWork (s : State) (c : Nat) : Option (CkptWork × Scroll) :=
  if (s.part (ctxPart c)).ckptPause = some c ∧ (s.ctx c).run.frozen = false then
    match (s.ctx c).lc.work, (s.ctx c).scroll with
    | some w, some sc => some (w, sc)
    | _, _ => none
  else none

/-- After the pause (R665 steps 5 and 6): a STOP_CONTEXT with FORM 1 stops the context once its image is committed, a
deferred seam ratio releases it, and the edge goes on from step 3. A checkpoint whose COMMIT an open drift comparison delays
(R666) does not release it: a later one does (DESIGN CHOICE, log 108). -/
def State.endPause (s : State) (c : Nat) : State :=
  let l := (s.ctx c).lc
  let s1 := if l.work.isNone && l.stopQuiet.isSome then s.stopContext c
    else if l.work.isNone && s.seamWaits c then s.seamRelease c
    else s
  (s1.unpause c).edgeTail (ctxPart c)

/-- Whether a checkpoint of context c reads an address (R470): inkwells and local stores of its clusters, tables of its
slots. -/
def State.ckptReads (s : State) (c : Nat) (m : DevMem) (a : Nat) : Bool :=
  match m with
  | .ink k => (s.ctxClusters c).any (fun e => decide (e.2 = k))
  | .loc n => decide ((s.core n).ctl.context = some c)
  | .bulk => (s.slotsOf c).any (fun n => decide (tableBase n ≤ a ∧ a < tableBase n + tableSize))

/-- CHECKPOINT_COMMIT (R665 steps 3 to 6, R666, R681): the image is written, with what the Quill's reads find (`find`,
`split`); COMMIT follows unless a drift comparison is open, and never after a mismatch. -/
def effCheckpointCommit (c : Fin 16) (find : List (DWord × Ecc)) (split : List DWord) (s : State) : State :=
  match s.pausedWork c with
  | none => s
  | some (w, sc) =>
    let rec_ := (sc.layout (s.ctx c).run.layout).getD []
    let s1 := (s.quillFinds (s.ckptReads c) find split).writeImage c w sc rec_
    let s2 := if w.spoiled then s1.modLife c (fun l => { l with work := none })
      else if w.waits.isEmpty then s1.commitCheckpoint c w
      else s1.modLife c (fun l => { l with work := some { w with written := true } })
    if w.spoiled then (s2.unpause c).edgeTail (ctxPart c) else (s2.rotate c w).endPause c
/-- CHECKPOINT_COMMIT. -/
def execCheckpointCommit (c : Fin 16) (s : State) (find : List (DWord × Ecc) := []) (split : List DWord := []) :
    Host.Outcome State Fault Refusal := .next (effCheckpointCommit c find split s)

/-- CHECKPOINT_MIRROR_DONE (R668, R669, R628): the mirror is complete, or it is not; the committed image stays. A fabric
mirror is complete once no message of it awaits its receipt. -/
def effCheckpointMirrorDone (job : Nat) (ok : Bool) (s : State) : State :=
  match s.job job with
  | some j =>
    match j.cmd with
    | .checkpoint h _ _ _ _ _ _ =>
      let c := 4 * s.partNamed h.partition.toNat + h.context.toNat % 4
      let writing := (s.ctx c).lc.ckpt.any (fun k => decide (k.job = job))
      let open_ := s.fabric.tracked.any (fun t => decide (t.origin = .mirror job))
      if writing || (ok && open_) then s
      else if ok then s.finish job .ok j.value
      else s.finish job .aborted 0
    | _ => s
  | none => s
/-- CHECKPOINT_MIRROR_DONE. -/
def execCheckpointMirrorDone (job : Nat) (ok : Bool) (s : State) : Host.Outcome State Fault Refusal :=
  .next (effCheckpointMirrorDone job ok s)

/-- CHECKPOINT_TIMEOUT (R668): 60 s pass with no quiet point reached; the CHECKPOINT or the STOP_CONTEXT completes with
TIMEOUT and the context goes on. -/
def effCheckpointTimeout (job : Nat) (s : State) : State :=
  match s.job job with
  | some j =>
    match j.cmd with
    | .checkpoint h _ _ _ _ _ _ =>
      let c := 4 * s.partNamed h.partition.toNat + h.context.toNat % 4
      if (s.ctx c).lc.ckpt.any (fun k => decide (k.job = job)) && (s.ctx c).lc.work.isNone then
        (s.finish job .timeout 0).modLife c (fun l => { l with ckpt := none })
      else s
    | .stopContextAtQuiet h =>
      let c := 4 * s.partNamed h.partition.toNat + h.context.toNat % 4
      if (s.ctx c).lc.stopQuiet = some job ∧ (s.ctx c).lc.work.isNone then
        (s.finish job .timeout 0).modLife c (fun l => { l with stopQuiet := none })
      else s
    | _ => s
  | none => s
/-- CHECKPOINT_TIMEOUT. -/
def execCheckpointTimeout (job : Nat) (s : State) : Host.Outcome State Fault Refusal := .next (effCheckpointTimeout job s)

/-- Whether a context may restart now (R655, R657, R221). One that a deferred seam ratio does not concern waits with the others of
its partition until the deferral ends (DESIGN CHOICE, log 130). -/
def State.mayRestart (s : State) (c : Nat) : Bool :=
  let p := ctxPart c
  (s.ctx c).lc.restartDue && decide ((s.ctx c).lc.life = .off) && decide ((s.qpart p).life = .on) && !(s.qpart p).out &&
    decide (s.quill.health.service ≠ 2) && decide ((s.qpart p).replay ≠ 1) && !(s.part p).stroke.seamDeferred

/-- The reason a restart gives for a change of layout (R236): 1 for a new seam ratio, else 0. -/
def State.restartReason (s : State) (c : Nat) : Nat :=
  match (s.ctx c).scroll with
  | some sc =>
    if s.dev.mode = 0 ∧ laySeam ((sc.layout (s.ctx c).run.layout).getD []) ≠ (s.part (ctxPart c)).stroke.seamRatio.toNat then 1
    else 0
  | none => 0

/-- CONTEXT_RESTART (R657, R658). -/
def effContextRestart (c : Fin 16) (lines : List LineFind) (s : State) : State :=
  if s.mayRestart c then s.startReading c (s.restartReads c) lines (fun t => t.restart c (s.restartReason c)) else s
/-- CONTEXT_RESTART. -/
def execContextRestart (c : Fin 16) (s : State) (lines : List LineFind := []) : Host.Outcome State Fault Refusal :=
  .next (effContextRestart c lines s)

/-- CORE_REMAP (R225, R687): the role that a fenced core held goes to a spare, once no running context has a logical cluster
there. -/
def effCoreRemap (core : Fin 1536) (s : State) : State :=
  if (s.core core).ctl.fenced && s.mapFree (kOf core) none then s.moveRole core 1 else s
/-- CORE_REMAP. -/
def execCoreRemap (core : Fin 1536) (s : State) : Host.Outcome State Fault Refusal := .next (effCoreRemap core s)

end Sys2Proof.Machine
end

