-- ==== Sys2Proof/Machine/HostCmd.lean ====
section
/-!
DEFINITION. Host commands (09 R505 to R508, R540 to R544, R553 to R555; 11 R724): the checks that come before a command's
own, replies, data written to host memory.
-/
namespace Sys2Proof.Machine

/-! ### What a command may name -/

/-- What a command needs in PARTITION (R556): any value of R533, 0 to 3, or 0xFF. -/
inductive PartArg where
  | any | one | device
  deriving DecidableEq, Repr

/-- A row of the opcode table (R555): the opcode, the columns VF, BC and Safe, what PARTITION may hold, whether CONTEXT names
a context, whether the command starts work on its partition (R540 check 6); `args` are the PARAMS fields that a packet of the command holds
(R553, R556, R559, R562): packet byte, width in bytes, value. -/
structure CmdSpec where
  opcode : Nat
  vf : Bool
  bc : Bool
  safe : Bool
  part : PartArg
  context : Bool
  work : Bool
  args : List (Nat × Nat × Nat) := []
  deriving DecidableEq, Repr

/-- A command from the PF alone. -/
def pfOnly (opcode : Nat) (safe : Bool) (part : PartArg) : CmdSpec :=
  { opcode := opcode, vf := false, bc := false, safe := safe, part := part, context := false, work := false }
/-- A command of a context, from its VF too. -/
def ctxSpec (opcode : Nat) (work : Bool) : CmdSpec :=
  { opcode := opcode, vf := true, bc := false, safe := false, part := .one, context := true, work := work }
/-- A command with the columns of the table, for any PARTITION. -/
def anySpec (opcode : Nat) (vf bc safe : Bool) : CmdSpec :=
  { opcode := opcode, vf := vf, bc := bc, safe := safe, part := .any, context := false, work := false }

/-- A command with the PARAMS fields of its packet. -/
def CmdSpec.on (c : CmdSpec) (args : List (Nat × Nat × Nat)) : CmdSpec := { c with args := args }
/-- The fields BUF_ADDR and BUF_LEN of a reply (R553). -/
def replyArgs (r : Reply) : List (Nat × Nat × Nat) := [(16, 8, r.addr.toNat), (24, 4, r.len.toNat)]

/-- The commands for which a VF may name 0xFF (R506). -/
def vfDevice : List Nat := [0x0001, 0x0002, 0x0004, 0x0502, 0x0505, 0x0701, 0x0801]
/-- The commands a VF may issue outside quarters mode (R506). -/
def vfAnyMode : List Nat := [0x0001, 0x0002, 0x0004]

/-- Authority (R505 to R507). -/
def State.permits (s : State) (h : Hdr) (c : CmdSpec) : Bool :=
  let f := h.fn.val
  if f = 0 then true
  else if f = 5 then c.bc
  else
    let own := decide (h.partition.toNat = f - 1)
    c.vf && (if s.dev.mode = 2 then own || (decide (h.partition = 0xFF) && vfDevice.contains c.opcode)
      else (own || decide (h.partition = 0xFF)) && vfAnyMode.contains c.opcode)

/-- PARTITION and CONTEXT are in range (R533, R540 check 4). Reserved fields are ignored (R10). -/
def hdrInRange (h : Hdr) (c : CmdSpec) : Bool :=
  let p := h.partition.toNat
  let part := match c.part with
    | .any => decide (p ≤ 3 ∨ p = 0xFF)
    | .one => decide (p ≤ 3)
    | .device => decide (p = 0xFF)
  part && decide (h.context.toNat ≤ 3 ∨ (!c.context ∧ h.context = 0xFF))

/-- The partition that a command names, in the mode in force; P0 for 0xFF (R629, R734). -/
def State.hdrPart (s : State) (h : Hdr) : Nat := if h.partition.toNat ≤ 3 then s.partNamed h.partition.toNat else 0
/-- The context that a command names. -/
def State.hdrCtx (s : State) (h : Hdr) : Nat := 4 * s.hdrPart h + h.context.toNat % 4

/-- Whether the device is in the safe state (R575). -/
def State.inSafe (s : State) : Bool := decide (s.module_.power.safeCause ≠ 0)

/-- R540 check 6: the named partition is out of service and the command would start work on it; a device out of service
starts no context (R714). -/
def State.outOfService (s : State) (h : Hdr) (c : CmdSpec) : Bool :=
  c.work && ((decide (h.partition.toNat ≤ 3) && (s.qpart (s.hdrPart h)).out) ||
    (decide (c.opcode = 0x0202) && decide (s.quill.health.service = 2)))

/-- R539, R724: the partition that encloses the named context is STARTING or STOPPING. -/
def State.enclosingMoves (s : State) (h : Hdr) (c : CmdSpec) : Bool :=
  let l := (s.qpart (s.hdrPart h)).life
  c.context && (decide (l = .starting) || decide (l = .stopping))

/-- The checks of R540 in order, then that of R724; none where all pass. `ok` says that every PARAMS field is in range. -/
def State.refuses (s : State) (h : Hdr) (c : CmdSpec) (ok : Bool) : Option Status :=
  if c.opcode ≠ 0x0001 ∧ (!(s.fn h.fn.val).version ∨ h.minor ≠ 0) then some .badVersion
  else if !s.permits h c then some .notPermitted
  else if !hdrInRange h c || !ok then some .badParam
  else if s.inSafe && !c.safe then some .wrongState
  else if s.outOfService h c then some .outOfService
  else if s.enclosingMoves h c then some .busy
  else none

/-! ### The packet of a command (R533, R536) -/

/-- The header of a packet (R533), taken from a queue of a function. A flag bit that is reserved is dropped with bytes 10 to
15: both are reserved fields. -/
def pktHdr (fn : Fin 6) (sq : Byte) (p : List Byte) : Hdr :=
  let fl := BitVec.ofNat 8 (fld p 3 1)
  { fn := fn, sq := sq, tag := BitVec.ofNat 32 (fld p 4 4), minor := BitVec.ofNat 8 (fld p 2 1), ordered := fl.getLsbD 0,
    notify := fl.getLsbD 1, indirect := fl.getLsbD 2, partition := BitVec.ofNat 8 (fld p 8 1),
    context := BitVec.ofNat 8 (fld p 9 1), reservedSet := decide (fl.toNat / 8 ≠ 0 ∨ fld p 10 6 ≠ 0) }

/-- Packet bytes 16 and up: those of the parameter block where INDIRECT is set (R536). `p` is the packet followed by its
block. -/
def pktParams (h : Hdr) (p : List Byte) : List Byte := if h.indirect then p.drop 64 else p.drop 16

/-- Whether a packet asks for a command: its header, its OPCODE and its PARAMS fields are the command's. -/
def spells (h : Hdr) (c : CmdSpec) (p : List Byte) : Bool :=
  decide (pktHdr h.fn h.sq p = h) && decide (fld p 0 2 = c.opcode) &&
    c.args.all (fun a => decide (fld (pktParams h p) (a.1 - 16) a.2.1 = a.2.2))

/-- Whether a fetched command waits to be started with a TAG. -/
def Fetched.waits (e : Fetched) (h : Hdr) : Bool := e.job.isNone && decide (fld e.packet 4 4 = h.tag.toNat)

/-- Whether every command of an SQ has its final completion written (R534). -/
def State.sqClear (s : State) (h : Hdr) : Bool :=
  let f := h.fn.val
  (s.fn f).parked.all (fun e => decide (e.pair ≠ h.sq.toNat)) && (s.qp f h.sq.toNat).fetched.isEmpty &&
    s.host.jobs.all (fun e => e.2.silent || decide (e.2.hdr.fn ≠ h.fn ∨ e.2.hdr.sq ≠ h.sq))

/-- Whether a command may start (R533, R534): where commands of its TAG wait in its SQ, one of them asks for it; with ORDERED
set, it is the first of the SQ without a final completion. A command that was not fetched comes after those of its SQ (log
93). -/
def State.mayStart (s : State) (h : Hdr) (c : CmdSpec) : Bool :=
  let f := h.fn.val
  let l := (s.qp f h.sq.toNat).fetched
  let free := (s.fn f).parked.all (fun e => decide (e.pair ≠ h.sq.toNat))
  let asks := fun (e : Fetched) => e.waits h && spells h c e.packet
  decide (f = 5) ||
    (if l.any (fun e => e.waits h) then l.any asks && (!h.ordered || (free && (l.head?.map asks).getD false))
     else !h.ordered || s.sqClear h)

/-- The first entry of a list that a test holds of takes a job's number. -/
def claimFirst (test : Fetched → Bool) (job : Nat) (l : List Fetched) : List Fetched :=
  match l with
  | [] => []
  | e :: r => if test e then { e with job := some job } :: r else e :: claimFirst test job r

/-- The fetched command that is being started takes the number of the next job. -/
def State.claim (s : State) (h : Hdr) (c : CmdSpec) : State :=
  s.modQp h.fn.val h.sq.toNat (fun q =>
    { q with fetched := claimFirst (fun e => e.waits h && spells h c e.packet) s.host.nextJob q.fetched })

/-- A fetched command that did not start waits as before: no job has taken the number. -/
def State.unclaim (s : State) (h : Hdr) (job : Nat) : State :=
  if s.host.nextJob ≠ job then s
  else s.modQp h.fn.val h.sq.toNat (fun q =>
    { q with fetched := q.fetched.map (fun e => if e.job = some job then { e with job := none } else e) })

/-- The checks, then the command's effect or the completion of the first check that fails. -/
def State.checked (s : State) (h : Hdr) (c : CmdSpec) (ok : Bool) (body : State → State) : State :=
  match s.refuses h c ok with
  | some st => s.complete h c.opcode st 0
  | none => body s

/-! ### Commands fetched before a reset of their function (R565) -/

/-- The command that was fetched before a reset of its function and not started, where a command comes that it asks for; with
ORDERED set, once no earlier one of its SQ is left or under way. -/
def State.leftFor (s : State) (h : Hdr) (c : CmdSpec) : Option Left :=
  let l := (s.fn h.fn.val).left.filter (fun e => decide (e.sq = h.sq.toNat))
  (l.find? (fun e => spells h c e.packet)).filter (fun e =>
    !h.ordered || (decide (l.head? = some e) &&
      s.host.jobs.all (fun j => !j.2.silent || decide (j.2.hdr.fn ≠ h.fn ∨ j.2.hdr.sq ≠ h.sq))))

/-- The jobs from a number on write no completion. -/
def State.silence (s : State) (job : Nat) : State :=
  { s with host := { s.host with
      jobs := s.host.jobs.map (fun e => if job ≤ e.1 then (e.1, { e.2 with silent := true }) else e) } }

/-- Such a command takes effect under the version negotiated when it was fetched; no completion is written for it (R565). -/
def State.carryLeft (s : State) (h : Hdr) (c : CmdSpec) (ok : Bool) (l : Left) (body : State → State) : State :=
  let f := h.fn.val
  let q := s.qp f h.sq.toNat
  let v := (s.fn f).version
  let s1 := (s.modFn f (fun x => { x with left := x.left.erase l, version := l.version })).modQp f h.sq.toNat (fun _ => Qp.reset)
  let t := (s1.checked h c ok body).silence s.host.nextJob
  (t.modFn f (fun x => { x with version := if c.opcode = 1 then x.version else v })).modQp f h.sq.toNat (fun _ => q)

/-- A host command: its effect once the checks pass, else a completion with the status of the first that fails. Nothing
while the Quill does not run: it starts no command then (R575, R700); and nothing while the command may not start (R534): it
starts when it comes again (DESIGN CHOICE, log 93). -/
def State.hostCmd (s : State) (h : Hdr) (c : CmdSpec) (ok : Bool) (body : State → State) : State :=
  if s.quill.running then
    match s.leftFor h c with
    | some l => s.carryLeft h c ok l body
    | none =>
      if s.mayStart h c then ((s.claim h c).checked h c ok body).unclaim h s.host.nextJob else s
  else s

/-- A new AUTH_NONCE: the spec states no value (log 5). -/
def State.newNonce (s : State) (f : Nat) : State := (s.draw).modFn f (fun x => { x with nonce := s.freeNext })

/-! ### Data -/

/-- A reply (R553, R568): the size needed where the buffer is too small, ABORTED where it does not take the write, else the
reply and its size. -/
def State.reply (s : State) (h : Hdr) (opcode : Nat) (r : Reply) (data : List Byte) : State :=
  let n := data.length
  if r.len.toNat < n then s.complete h opcode .badParam n
  else if h.fn = 5 then s.completeWith h opcode .ok n data
  else if !r.ok then (s.countHostFail h.fn.val).complete h opcode .aborted 0
  else (s.toHost h.fn.val r.addr.toNat data).complete h opcode .ok n

/-- A reply buffer is 64-byte aligned (R553); the board controller's is ignored (R568). -/
def replyOk (h : Hdr) (r : Reply) : Bool := decide (h.fn = 5) || decide (r.addr.toNat % 64 = 0)

end Sys2Proof.Machine
end

