-- ==== Sys2Proof/Machine/Identity.lean ====
section
/-!
DEFINITION. Keys, stored records as RECORD_READ returns them, and the moraine record as bytes (11 R691 to R698; 14 R820 to
R823, R834 to R840).
-/
namespace Sys2Proof.Machine

/-! ### Keys (R820 to R822, log 8) -/

/-- Key number of the device identity key. -/
def identityKey : Nat := 1
/-- Key number of the maker's key. -/
def makerKey : Nat := 2
/-- Key number of the firmware signing key. -/
def firmwareKey : Nat := 3
/-- Key number of the record key. -/
def recordKey : Nat := 5
/-- Key number of the alias key, which a firmware measurement decides. -/
def aliasKey (m : BitVec 256) : Nat := 2 ^ 256 + m.toNat
/-- Key number of a public key enrolled by its bytes. -/
def publicKey (b : List Byte) : Nat := 2 ^ 520 + leNat b

/-- A list cut or padded with zeros to n bytes. -/
def fitTo (n : Nat) (l : List Byte) : List Byte := (l ++ List.replicate n (0 : Byte)).take n

/-- The 64 bytes of a signature over the SM3 digest of some bytes. -/
def signed (key : Nat) (b : List Byte) : List Byte := toLe (Config.sm2Sign key (toLe (Config.sm3 b).toNat 32)).toNat 64

/-- Whether a signature over the SM3 digest of some bytes verifies. -/
def verified (key : Nat) (b sig : List Byte) : Bool := Config.sm2Verify key (toLe (Config.sm3 b).toNat 32) sig

/-- The verification key of a KEY record (R822): 0 the threshold authority key, 1 the pattern key. -/
def Ident.enrolled (d : Ident) (i : Nat) : Option Nat := (d.governing 3 i).map (fun r => publicKey ((r.body.drop 4).take 64))

/-! ### Records (R834 to R837) -/

/-- The header of a record. -/
def Rec.header (r : Rec) (len flags : Nat) : List Byte :=
  block 32 [(0, 4, 0x44524B53), (4, 2, r.type), (6, 2, r.index), (8, 4, len), (12, 1, r.signer), (13, 1, flags),
    (16, 8, r.seq)]

/-- The body as stored: SM4-GCM under the record key where it is encrypted. -/
def Rec.storedBody (r : Rec) : List Byte :=
  if r.flags % 2 = 1 then
    fitTo (r.body.length + 16) (Config.sm4 recordKey (toLe r.seq 8 ++ toLe r.type 2 ++ toLe r.index 2 ++ r.body))
  else r.body

/-- The key that signs a record (R834). -/
def Rec.signKey (r : Rec) (measurement : BitVec 256) : Nat :=
  if r.signer = 1 then makerKey else if r.signer = 2 then identityKey else aliasKey measurement

/-- A record as RECORD_READ returns it (R840): as stored, its body in plaintext or the extent, FLAGS bits 0 and 1 clear;
LENGTH counts the body returned. -/
def Rec.returned (r : Rec) (measurement : BitVec 256) : List Byte :=
  let sig := if r.signer = 0 then []
    else signed (r.signKey measurement) (r.header r.storedBody.length r.flags ++ r.storedBody)
  let front := r.header r.body.length (r.flags / 4 * 4) ++ r.body ++ sig
  let n := (front.length + 4 + 255) / 256 * 256
  fitTo (n - 4) front ++ toLe 0x52454344 4

/-- The governing OPERATING_POINTS record as bytes. -/
def Ident.configDigest (d : Ident) : BitVec 256 :=
  if d.opFallback then 0
  else
    match d.governing 1 0 with
    | some r => Config.sm3 (r.returned d.measurement)
    | none => 0

/-! ### The moraine record (R691 to R694, R698) -/

/-- The body of entry i (R694). -/
def Moraine.bytes (m : Moraine) (i : Nat) : List Byte :=
  fitTo 28 (block 16 [(0, 2, m.kind), (2, 2, i), (4, 4, m.boot.toNat), (8, 8, m.time)] ++ m.body)

/-- The entries of the factory portion, 32 bytes each, with BOOT and time zero (R692, R694). -/
def factoryEntries (l : List Moraine) : List Byte :=
  l.zipIdx.flatMap (fun e => ({ e.1 with boot := 0, time := 0 } : Moraine).bytes e.2 ++ List.replicate 4 0)

/-- The factory portion (R7, R692): header, the entries of the defects known when the part shipped, the maker's signature. -/
def State.factoryPortion (s : State) : List Byte :=
  let l := s.quill.factory
  let head := Sys2Proof.Machine.block 64 [(0, 4, 0x524D4B53), (4, 2, 1), (6, 1, 0xA1), (7, 1, s.dev.gradeL),
    (8, 8, Config.serial.toNat), (16, 4, l.length)] ++ factoryEntries l
  head ++ signed makerKey head

/-- A field entry (R693): body, the digest of what precedes it, the signature, COMMIT. -/
def Moraine.entry (m : Moraine) (i : Nat) (prev : BitVec 256) : List Byte :=
  let front := m.bytes i ++ toLe prev.toNat 32
  front ++ signed identityKey front ++ toLe 0x4D4F5241 4

/-- The field entries from entry i on. -/
def moraineEntries (l : List Moraine) (i : Nat) (prev : BitVec 256) : List (List Byte) :=
  match l with
  | [] => []
  | m :: r =>
    let e := m.entry i prev
    e :: moraineEntries r (i + 1) (Config.sm3 (e.take 124))

/-- The applied field entries of the device. -/
def State.fieldEntries (s : State) : List (List Byte) :=
  moraineEntries s.quill.moraine 0 (Config.sm3 s.factoryPortion)

/-- The moraine digest (R698). -/
def State.moraineDigest (s : State) : BitVec 256 := Config.sm3 (s.factoryPortion ++ s.fieldEntries.flatten)

/-! ### Reports -/

/-- SERVICE as GET_INFO gives it (R557): 3 in the safe state. -/
def State.serviceCode (s : State) : Nat := if s.inSafe then 3 else s.quill.health.service

end Sys2Proof.Machine
end

