-- ==== Sys2Proof/Machine/Boot.lean ====
section
/-!
DEFINITION. The boot ROM (14 R828 to R832), the recovery window, the safe state (13 R810), the loss of what a device reset or
a loss of power does not keep (11 R652; 13 R779; 15 R849).
-/
namespace Sys2Proof.Machine

/-! ### The firmware image (R828) -/

/-- LENGTH of an image header. -/
def imageLength (b : List Byte) : Nat := fld b 12 4

/-- The header is as R828 requires, for a KIND; reserved bytes are ignored (R10). -/
def imageHeaderOk (b : List Byte) (kinds : List Nat) : Bool :=
  decide (fld b 0 4 = 0x57464B53 ∧ fld b 4 2 = 1 ∧ fld b 6 1 = 1 ∧ fld b 7 1 = 0xA1) && kinds.contains (fld b 8 1) &&
    decide (512 ≤ imageLength b ∧ imageLength b ≤ 8388608 ∧ imageLength b % 256 = 0)

/-- The bytes that the measurement covers. -/
def imageMeasured (b : List Byte) : List Byte := b.take 32 ++ (b.take (imageLength b)).drop 256

/-- The measurement of an image. -/
def imageMeasurement (b : List Byte) : BitVec 256 := Config.sm3 (imageMeasured b)

/-- The signature verifies under the firmware signing key (R822, R828). -/
def imageSigned (b : List Byte) : Bool := verified firmwareKey (imageMeasured b) ((b.drop 32).take 64)

/-- FW_VERSION and SVN of an image. -/
def imageVersion (b : List Byte) : DWord := BitVec.ofNat 64 (fld b 16 8)
/-- SVN of an image. -/
def imageSvn (b : List Byte) : Word := BitVec.ofNat 32 (fld b 24 4)

/-- An image is valid (R829), COMMIT apart. -/
def imageValid (b : List Byte) : Bool := imageHeaderOk b [1] && imageSigned b && decide (imageLength b ≤ b.length)

/-- What FW_STAGE keeps of an image. -/
def stagedOf (b : List Byte) : Staged :=
  { kind := fld b 8 1, version := imageVersion b, svn := imageSvn b, keyIndex := fld b 256 2, image := b }

/-! ### The boot ROM (R829, R830) -/

/-- The boot ROM hands control to an image: it is the running one. A recovered image counts as staged (R830). -/
def State.bootImage (s : State) (b : List Byte) (recovered : Bool) : State :=
  s.modIdent (fun d =>
    { d with recovered := recovered, staged := if recovered then some (stagedOf b) else none, recoveryAt := none, image := b,
             version := imageVersion b, svn := imageSvn b, measurement := imageMeasurement b })

/-- Recovery opens: the window is empty (R516, R830). -/
def State.openRecovery (s : State) : State :=
  ({ s with host := { s.host with window := [] } } : State).modIdent (fun d =>
    { d with recoveryAt := some s.time, staged := none })

/-- The boot ROM at a start of PD59 (R829): the flash image runs if it is valid, else recovery opens. -/
def State.bootRom (s : State) : State :=
  match s.module_.ident.flash with
  | some b => s.bootImage (if b.isEmpty then Config.factoryImage else b) false
  | none => s.openRecovery

/-- An image runs. -/
def State.booted (s : State) : Bool := s.module_.ident.recoveryAt.isNone

/-- PD59 and PD58 come on again after device-level Dormant; every partition stays in Dormant (R569, R792). `low` 2 says that
the fabric domains wait. -/
def State.wakeQuill (s : State) : State :=
  let s1 := ((s.modPower (fun w => { w with on := w.on ||| BitVec.ofNat 60 (3 * 2 ^ 58), low := 2 })).modIdent (fun d =>
    { d with staged := none })).bootRom
  s1.modQuill (fun q => { q with running := s1.booted })

/-! ### What a reset keeps -/

/-- The part of a context that lies in bulk memory or names what does (R652): scroll, bulk region, the image a RESTORE
named. -/
def Ctx.afterReset (x : Ctx) : Ctx :=
  { Ctx.reset with
    lc := { CtxLife.reset with named := x.lc.named }
    run := { CtxRun.reset with bulkBase := x.run.bulkBase, bulkSize := x.run.bulkSize, bulkPlaced := x.run.bulkPlaced }
    scroll := x.scroll }

/-- What the flash, the meter and the power-entry stage hold, on a machine at reset (R833, R849, R856). -/
def State.powerless (s : State) : State :=
  { State.reset with
    pending := s.pending, out := s.out, free := s.free
    dev := { Dev.reset with gradeL := s.dev.gradeL, boot := s.dev.boot }
    quill := { Quill.reset with factory := s.quill.factory, moraine := s.quill.moraine, full := s.quill.full, packs := s.quill.packs }
    module_ := { Module.reset with
      ident := { Ident.reset with flash := s.module_.ident.flash, recs := s.module_.ident.recs, used := s.module_.ident.used
                                  logNext := s.module_.ident.logNext }
      meter := s.module_.meter, entry := s.module_.entry } }

/-- A device reset (R652): every domain but AON. AON keeps device time (R779), the mode, the SET_MODES settings, the
escalation history, the monitors of the reference and of the temperature, the I3C target (R566); the packages hold bulk
memory. -/
def State.deviceReset (s : State) : State :=
  let t := s.powerless
  let bulkMem := { s.store with
    mem := s.store.mem.filter (fun e => decide (e.1 < bulkEnd)), blots := s.store.blots.filter (fun u => decide (u < bulkEnd / 32)), fills := [] }
  { t with
    time := s.time, store := bulkMem, dev := { t.dev with mode := s.dev.mode }
    ctxs := s.ctxs.map (fun e => (e.1, e.2.afterReset))
    parts := s.parts.map (fun e => (e.1, { Part.reset with
      stroke := { Stroke.reset with seamRatio := e.2.stroke.seamRatio, margin := e.2.stroke.margin } }))
    bulk := { Bulk.reset with slots := s.bulk.slots, pendPages := s.bulk.pendPages
                              mc := s.bulk.mc.map (fun e => (e.1, { Mc.reset with
                                st := if e.2.st = .ready ∨ e.2.st = .selfRefresh then .selfRefresh else e.2.st, rate := e.2.rate })) }
    host := { t.host with bc := { s.host.bc with tags := 0 } }
    quill := { t.quill with
      modes := s.quill.modes
      health := { t.quill.health with devResets := s.quill.health.devResets }
      parts := s.quill.parts.map (fun e => (e.1, { QPart.reset with resets := e.2.resets })) }
    module_ := { t.module_ with
      clock := { Clock.reset with present := s.module_.clock.present, holdover := s.module_.clock.holdover
                                  losses := s.module_.clock.losses, lastMs := s.module_.clock.lastMs, lossAt := s.module_.clock.lossAt }
      power := { Power.reset with step := 1, temps := s.module_.power.temps, hottest := s.module_.power.hottest
                                  hotCluster := s.module_.power.hotCluster, west := s.module_.power.west, east := s.module_.power.east
                                  tripped := s.module_.power.tripped } } }

/-- A device fault (R651, R654): event 0x0004 with CAUSE, every context is killed, the reset counts, the device is reset. -/
def State.devFault (s : State) (cause : Nat) : State :=
  let h := s.quill.health
  let leaves := decide (h.devResetMax ≤ (s.inWindow h.devResets h.devMinutes).length + 1)
  let s1 := s.post 0x0004 4 (source 3 0 0 0 0) [(16, 1, cause), (17, 1, if leaves then 2 else 1)] none
  let live := (List.range 4).flatMap s1.liveContexts
  ((live.foldl State.killByPart s1).countDevReset 3).deviceReset

/-- The safe state (R810): AON, PD58 and PD59 are on, everything else is off; READY is set but for cause 5. -/
def State.enterSafe (s : State) (cause : Nat) (ms : BitVec 20) : State :=
  (s.modPower (fun w => { w with on := BitVec.ofNat 60 (3 * 2 ^ 58), ret := 0, step := 8, safeCause := cause, durationMs := ms })).modQuill
    (fun q => { q with running := decide (cause ≠ 5), restarting := false })

end Sys2Proof.Machine
end

