-- ==== Sys2Proof/Machine/Session.lean ====
section
/-!
DEFINITION. The host commands of the session (09 R548 to R550, R557, R558), the distance table (01 R31 to R42), health and
service (11 R699, R712 to R721, R726).
-/
namespace Sys2Proof.Machine

/-! ### HELLO, GET_INFO, SET_EVENT_MASK -/

/-- Commands of a function that are fetched and have no final completion (R550); of the board controller, requests
outstanding (R568). -/
def State.outstanding (s : State) (f : Nat) : Nat :=
  if f = 5 then s.host.bc.tags else (s.fn f).qps.foldl (fun a e => a + e.2.inFlight) 0

/-- HELLO (R549, R550, R540: exempt from check 1). -/
def effHello (h : Hdr) (majorMin majorMax minorMax : Byte) (s : State) : State :=
  s.hostCmd h ((anySpec 0x0001 true true true).on [(16, 1, majorMin.toNat), (17, 1, majorMax.toNat), (18, 1, minorMax.toNat)]) true (fun s =>
    let f := h.fn.val
    if 2 ≤ s.outstanding f then s.complete h 0x0001 .busy 0
    else if majorMin.toNat ≤ 1 ∧ 1 ≤ majorMax.toNat then
      ((s.modFn f (fun x => { x with version := true, mask := BitVec.allOnes 256 })).newNonce f).complete h 0x0001 .ok
        (1 + 2 ^ 16 + f * 2 ^ 24)
    else s.complete h 0x0001 .badVersion 1)
/-- HELLO. -/
def execHello (h : Hdr) (majorMin majorMax minorMax : Byte) (s : State) : Host.Outcome State Fault Refusal :=
  .next (effHello h majorMin majorMax minorMax s)

/-- The part number (R5) in ASCII. -/
def partNumber (grade : Nat) : List Byte :=
  [0x53, 0x4B, 0x44, 0x36, 0x30, 0x34, 0x38, 0x2D, 0x4D, BitVec.ofNat 8 (0x30 + grade / 10), BitVec.ofNat 8 (0x30 + grade % 10)]

/-- The information block (R557), as a function sees it. -/
def State.infoBlock (s : State) (f : Nat) : List Byte :=
  Sys2Proof.Machine.block 256
    [(0, 2, 1), (2, 1, 1), (3, 1, 0xA1), (4, 1, s.dev.gradeL), (5, 1, s.dev.mode.toNat), (6, 1, 1), (7, 1, 0),
     (8, 8, s.module_.ident.version.toNat), (16, 2, s.dev.fbId.toNat), (18, 1, 48), (19, 1, 32), (20, 1, 4),
     (21, 1, if f = 0 then 64 else if f = 5 then 0 else 16), (22, 1, s.serviceCode), (24, 2, s.quill.health.score),
     (32, 16, leNat (partNumber s.dev.gradeL)), (48, 8, Config.serial.toNat), (56, 8, (s.fn f).nonce.toNat),
     (64, 8, 1440 * 2 ^ 30 - s.bulk.bad.length * 65536), (72, 8, 9 * 2 ^ 29)]

/-- GET_INFO (R557). -/
def effGetInfo (h : Hdr) (r : Reply) (s : State) : State :=
  s.hostCmd h ((anySpec 0x0002 true true true).on (replyArgs r)) (replyOk h r) (fun s => s.reply h 0x0002 r (s.infoBlock h.fn.val))
/-- GET_INFO. -/
def execGetInfo (h : Hdr) (r : Reply) (s : State) : Host.Outcome State Fault Refusal := .next (effGetInfo h r s)

/-- SET_EVENT_MASK (R548). -/
def effSetEventMask (h : Hdr) (mask : BitVec 256) (s : State) : State :=
  s.hostCmd h ((anySpec 0x0004 true true true).on [(16, 32, mask.toNat)]) true (fun s =>
    (s.modFn h.fn.val (fun x => { x with mask := mask })).complete h 0x0004 .ok 0)
/-- SET_EVENT_MASK. -/
def execSetEventMask (h : Hdr) (mask : BitVec 256) (s : State) : Host.Outcome State Fault Refusal :=
  .next (effSetEventMask h mask s)

/-! ### Distances (R31 to R42) -/

/-- Distance of two numbers. -/
def gap (a b : Nat) : Nat := (a - b) + (b - a)

/-- The cost of a span within a half or of a vertical span (R33). -/
def spanCycles (n : Nat) : Nat := [0, 4, 5, 6, 10, 11].getD n 0

/-- The cost of a horizontal span (R33). -/
def rowCycles (a b : Nat) : Nat :=
  if a / 4 = b / 4 then spanCycles (gap a b)
  else
    let w := min a b
    let e := max a b
    spanCycles (3 - w) + 10 + spanCycles (e - 4)

/-- The cluster a destination of the table attaches to, and whether an edge link follows (R39). -/
def distEnd (k d : Nat) : Nat × Bool :=
  if d < 48 then (d, false)
  else if d < 64 then (mcCluster (d - 48), true)
  else if d < 80 then (portCluster (d - 64), true)
  else (mcCluster (homeOf k), true)

/-- The 8-byte entry of source k and destination d (R40 to R42): bit 0 of FLAGS follows the mode, bit 1 the partitions of R16.
A controller, a port and the host have the clock region of the cluster they are attached to (DESIGN CHOICE, log 113). -/
def distEntry (mode : BitVec 2) (k d : Nat) : List Byte :=
  let x := distEnd k d
  let edge := if x.2 then 1 else 0
  let grid := gap (colOf k) (colOf x.1) + gap (rowOf k) (rowOf x.1)
  let hops := grid + edge
  let seam := if colOf k / 4 = colOf x.1 / 4 then 0 else 1
  let least := rowCycles (colOf k) (colOf x.1) + spanCycles (gap (rowOf k) (rowOf x.1)) + 4 * edge
  let same := decide (partOfQuarter mode (quarterOf k) = partOfQuarter mode (quarterOf x.1))
  let flags := (if same then 1 else 0) + (if quarterOf k = quarterOf x.1 then 2 else 0) + (if regionOf k = regionOf x.1 then 4 else 0) + (if d = 80 then 8 else 0)
  let width := if hops = 0 then 0 else if hops = 1 then (if x.2 then 2 else 1) else 3
  block 8 [(0, 1, hops), (1, 1, seam), (2, 2, 4 * hops + 6 * seam), (4, 2, least), (6, 1, flags), (7, 1, width)]

/-- The distance table of a partition mode (R36, R38). -/
def distTable (mode : BitVec 2) : List Byte :=
  block 64 [(0, 2, 1), (2, 1, 1), (3, 1, 0xA1), (4, 1, mode.toNat), (6, 2, 48), (8, 2, 81), (10, 1, 8), (12, 4, 31168)] ++
    (List.range 48).flatMap (fun k => (List.range 81).flatMap (fun d => distEntry mode k d))

/-- GET_DISTANCES (R36, R556): MODE 0xFF is the mode in force. -/
def effGetDistances (h : Hdr) (r : Reply) (mode : Byte) (s : State) : State :=
  s.hostCmd h ((anySpec 0x0003 true false false).on (replyArgs r ++ [(28, 1, mode.toNat)])) (replyOk h r && decide (mode.toNat ≤ 2 ∨ mode = 0xFF)) (fun s =>
    s.reply h 0x0003 r (distTable (if mode = 0xFF then s.dev.mode else BitVec.ofNat 2 mode.toNat)))
/-- GET_DISTANCES. -/
def execGetDistances (h : Hdr) (r : Reply) (mode : Byte) (s : State) : Host.Outcome State Fault Refusal :=
  .next (effGetDistances h r mode s)

/-! ### Thresholds (R558, R712) -/

/-- The block's fields are in range (R558). -/
def thresholdsOk (b : List Byte) : Bool :=
  let f := fun o n => leNat ((b.drop o).take n)
  decide (b.length = 96) && decide (2 ≤ f 0 1 ∧ f 0 1 ≤ 10 ∧ 1 ≤ f 1 1 ∧ f 1 1 ≤ 120) &&
    decide (2 ≤ f 2 1 ∧ f 2 1 ≤ 10 ∧ 1 ≤ f 3 1 ∧ f 3 1 ≤ 120) &&
    decide (10 ≤ f 4 2 ∧ f 4 2 ≤ 5000 ∧ 1 ≤ f 6 2 ∧ f 6 2 ≤ 600)

/-- The nonce is the function's and the signature verifies under the threshold authority key (R558, R822). -/
def State.thresholdsSigned (s : State) (f : Nat) (b : List Byte) : Bool :=
  decide (leNat ((b.drop 8).take 8) = (s.fn f).nonce.toNat) &&
    (match s.module_.ident.enrolled 0 with
     | some k => verified k (b.take 32) ((b.drop 32).take 64)
     | none => false)

/-- SET_THRESHOLDS (R558, R712): a new AUTH_NONCE follows whatever its outcome. -/
def effSetThresholds (h : Hdr) (block : List Byte) (s : State) : State :=
  let f := h.fn.val
  let x := fun o n => leNat ((block.drop o).take n)
  let c := (anySpec 0x0104 false true false).on [(16, block.length, leNat block)]
  let t := s.hostCmd h c (thresholdsOk block && h.indirect) (fun s =>
    if s.thresholdsSigned f block then
      let s1 := s.modHealth (fun y =>
        { y with partResets := x 0 1, partMinutes := x 1 1, devResetMax := x 2 1, devMinutes := x 3 1
                 strokeWatchMs := BitVec.ofNat 16 (x 4 2), holdWatchS := BitVec.ofNat 16 (x 6 2) })
      (s1.moraineAppend 11 [(16, 8, leNat (block.take 8))]).complete h 0x0104 .ok 0
    else s.complete h 0x0104 .authFail 0)
  if s.quill.running && ((s.leftFor h c).isSome || s.mayStart h c) then t.newNonce f else t
/-- SET_THRESHOLDS. -/
def execSetThresholds (h : Hdr) (block : List Byte) (s : State) : Host.Outcome State Fault Refusal :=
  .next (effSetThresholds h block s)

/-! ### Health (R726) -/

/-- Ten minutes in ns. -/
def tenMinutes : Nat := minutesNs 10

/-- Times of a list within the last ten minutes. -/
def State.lately (s : State) (l : List Nat) : Nat := (s.inWindow l 10).length

/-- The spares of cluster k as QL_SPAREi shows them (R729). -/
def State.spareCode (s : State) (k : Nat) : Nat := if s.unusable k then 0xFF else min 6 (s.goodCores k - s.dev.gradeL)

/-- The health reply (R726). -/
def State.healthBlock (s : State) : List Byte :=
  let q := s.quill
  let x := q.health
  let outs := (List.range 4).foldl (fun a p => if (s.qpart p).out then a + 2 ^ p else a) 0
  Sys2Proof.Machine.block 256 ([(0, 2, 1), (2, 1, s.serviceCode), (4, 2, x.score), (6, 1, outs), (8, 2, x.portOut.toNat),
      (12, 4, q.moraine.length), (16, 1, x.partResets), (17, 1, x.partMinutes), (18, 1, x.devResetMax), (19, 1, x.devMinutes),
      (20, 2, x.strokeWatchMs.toNat), (22, 2, x.holdWatchS.toNat)] ++
    (List.range 48).map (fun k => (32 + k, 1, s.spareCode k)) ++
    (List.range 16).map (fun f => (80 + 2 * f, 2, x.portScore.get 1000 f)) ++
    (List.range 16).map (fun f => (112 + f, 1, min 255 (s.lately (s.port f).downs))) ++
    (List.range 4).map (fun p => (128 + p, 1, min 255 (s.inWindow (s.qpart p).resets x.partMinutes).length)) ++
    [(132, 1, min 255 (s.inWindow x.devResets x.devMinutes).length), (133, 1, min 255 (s.lately x.mgmtResets)),
     (136, 8, q.samples.toNat), (144, 4, q.mismatches.toNat), (148, 4, q.passes.toNat), (152, 4, q.fails.toNat)])

/-- GET_HEALTH (R726). -/
def effGetHealth (h : Hdr) (r : Reply) (s : State) : State :=
  s.hostCmd h ((anySpec 0x0505 true true true).on (replyArgs r)) (replyOk h r) (fun s => s.reply h 0x0505 r s.healthBlock)
/-- GET_HEALTH. -/
def execGetHealth (h : Hdr) (r : Reply) (s : State) : Host.Outcome State Fault Refusal := .next (effGetHealth h r s)

/-- The moraine reply (R699). -/
def State.moraineReply (s : State) (portion : Nat) : List Byte :=
  let flags := (if s.quill.full then 1 else 0) + (if s.quill.truncated then 2 else 0)
  let fac := s.factoryPortion
  Sys2Proof.Machine.block 16 [(0, 2, 1), (2, 1, portion), (3, 1, flags), (4, 4, fac.length), (8, 4, s.quill.moraine.length)] ++
    (if portion = 1 then [] else fac) ++ (if portion = 0 then [] else s.fieldEntries.flatten)

/-- GET_MORAINE (R699, R562). -/
def effGetMoraine (h : Hdr) (r : Reply) (portion : Byte) (s : State) : State :=
  s.hostCmd h ((anySpec 0x0502 true true true).on (replyArgs r ++ [(28, 1, portion.toNat)])) (replyOk h r && decide (portion.toNat ≤ 2)) (fun s =>
    s.reply h 0x0502 r (s.moraineReply portion.toNat))
/-- GET_MORAINE. -/
def execGetMoraine (h : Hdr) (r : Reply) (portion : Byte) (s : State) : Host.Outcome State Fault Refusal :=
  .next (effGetMoraine h r portion s)

/-- The device returns to service (R716). -/
def State.deviceBack (s : State) : State :=
  let new := if s.quill.health.score < 700 then 1 else 0
  (s.modHealth (fun x => { x with service := new, devResets := [] })).serviceChange 0 0 2 new s.quill.health.score 3

/-- Partition p returns to service (R716, R714): its clusters leave reset. -/
def State.partitionBack (s : State) (p : Nat) : State :=
  let s1 := s.modQPart p (fun q => { q with out := false, resets := [] })
  let s2 := (s1.coresOfPart p).foldl (fun t n => t.setCore n (t.freshCore n)) s1
  s2.serviceChange 1 p 2 0 s.quill.health.score 3

/-- Port f returns to service (R716); it stays OFF until it is enabled. -/
def State.portBack (s : State) (f : Nat) : State :=
  let s1 := s.modHealth (fun x => { x with portOut := x.portOut &&& ~~~(BitVec.ofNat 16 (2 ^ f)) })
  (s1.modPort f (fun y => { y with downs := [] })).serviceChange 2 f 2 0 (s.quill.health.portScore.get 1000 f) 3

/-- RETURN_TO_SERVICE (R716): WRONG_STATE for an object that is not out of service. -/
def effReturnToService (h : Hdr) (kind index : Byte) (s : State) : State :=
  s.hostCmd h ((anySpec 0x0506 false true false).on [(16, 1, kind.toNat), (17, 1, index.toNat)])
    (decide (kind.toNat ≤ 2 ∧ (kind = 1 → index.toNat ≤ 3) ∧ (kind = 2 → index.toNat ≤ 15))) (fun s =>
    let p := s.partNamed (index.toNat % 4)
    let f := index.toNat % 16
    if kind = 0 then
      if s.quill.health.service = 2 then s.deviceBack.complete h 0x0506 .ok 0 else s.complete h 0x0506 .wrongState 0
    else if kind = 1 then
      if (s.qpart p).out then (s.partitionBack p).complete h 0x0506 .ok 0 else s.complete h 0x0506 .wrongState 0
    else if s.quill.health.portOut.getLsbD f then (s.portBack f).complete h 0x0506 .ok 0
    else s.complete h 0x0506 .wrongState 0)
/-- RETURN_TO_SERVICE. -/
def execReturnToService (h : Hdr) (kind index : Byte) (s : State) : Host.Outcome State Fault Refusal :=
  .next (effReturnToService h kind index s)

end Sys2Proof.Machine
end

