-- ==== Sys2Proof/Machine/Modes.lean ====
section
/-!
DEFINITION. The modes of the device and of its partitions (12 R733 to R737; 08 R443; 07 R418, R736; 04 R220).
-/
namespace Sys2Proof.Machine

/-- The partitions of a mode, each named by its lowest quarter. -/
def partitionsOf (mode : BitVec 2) : List Nat := (List.range 4).filter (fun p => decide (partOfQuarter mode p = p))

/-- The partitions that a command names (R734): the one that contains its quarter, or every one for 0xFF. -/
def State.namedParts (s : State) (h : Hdr) : List Nat :=
  if h.partition.toNat ≤ 3 then [s.hdrPart h] else partitionsOf s.dev.mode

/-- Every context of a partition is OFF. -/
def State.allOff (s : State) (p : Nat) : Bool :=
  (List.range 4).all (fun i => decide ((s.ctx (4 * p + i)).lc.life = .off))

/-! ### SET_MODES -/

/-- A mode byte is 0xFF, which leaves the setting unchanged, or at most a value (R556). -/
def modeByteOk (v : Byte) (top : Nat) : Bool := decide (v = 0xFF ∨ v.toNat ≤ top)

/-- The state checks of R735: a change of DET_MODE or CHECKING asks for every context OFF. -/
def State.modesRefused (s : State) (ps : List Nat) (det checking : Byte) : Bool :=
  ps.any (fun p => decide (det ≠ 0xFF) && decide ((det = 1) ≠ ((s.modes p).detFast = true)) && !s.allOff p) ||
    ps.any (fun p => decide (checking ≠ 0xFF) && decide ((checking = 1) ≠ ((s.modes p).checking = true)) && !s.allOff p)

/-- Update the modes of a partition. -/
def State.modModes (s : State) (p : Nat) (f : Modes → Modes) : State :=
  s.modQuill (fun q => { q with modes := q.modes.set p (f (q.modes.get Modes.reset p)) })

/-- Checking mode of cluster k is switched (R418, R736): the checking records hold zero, every FILL bit is clear. -/
def State.checkCluster (s : State) (on : Bool) (k : Nat) : State :=
  let m := s.store.zeroRange (inkBase k + 0x05E80000) 0x180000
  let lo := inkBase k / 32
  let hi := (inkBase k + inkSize) / 32
  ({ s with store := { m with fills := m.fills.filter (fun u => decide (u < lo ∨ hi ≤ u)) } } : State).modInk k (fun x =>
    { x with checking := on })

/-- Checking mode of partition p takes a value. -/
def State.setChecking (s : State) (p : Nat) (on : Bool) : State :=
  if (s.modes p).checking = on then s
  else (s.clustersOf p).foldl (fun t k => t.checkCluster on k) (s.modModes p (fun m => { m with checking := on }))

/-- The fields of SET_MODES that are not 0xFF take effect on partition p (R735). -/
def State.applyModes (s : State) (det checking seam patrol drift : Byte) (p : Nat) : State :=
  let s1 := if det = 0xFF then s else s.modModes p (fun m => { m with detFast := decide (det = 1) })
  let s2 := if checking = 0xFF then s1 else s1.setChecking p (decide (checking = 1))
  let s3 := if seam = 0xFF then s2 else s2.seamRequest p seam.toNat
  let s4 := if patrol = 0xFF then s3 else s3.modModes p (fun m => { m with patrolSet := BitVec.ofNat 2 patrol.toNat })
  if drift = 0xFF then s4 else s4.modModes p (fun m => { m with driftHigh := decide (drift = 1) })

/-- SET_MODES (R734, R735). -/
def effSetModes (h : Hdr) (det checking seam patrol drift : Byte) (s : State) : State :=
  s.hostCmd h ((anySpec 0x0102 true false false).on [(16, 1, det.toNat), (17, 1, checking.toNat), (18, 1, seam.toNat),
    (19, 1, patrol.toNat), (20, 1, drift.toNat)])
    (modeByteOk det 1 && modeByteOk checking 1 && modeByteOk seam 2 && modeByteOk patrol 2 && modeByteOk drift 1) (fun s =>
    let ps := s.namedParts h
    if s.modesRefused ps det checking then s.complete h 0x0102 .wrongState 0
    else (ps.foldl (State.applyModes · det checking seam patrol drift ·) s).complete h 0x0102 .ok 0)
/-- SET_MODES. -/
def execSetModes (h : Hdr) (det checking seam patrol drift : Byte) (s : State) : Host.Outcome State Fault Refusal :=
  .next (effSetModes h det checking seam patrol drift s)

/-! ### SET_PARTITION_MODE -/

/-- The Quill's view of partition p of a new mode: ON where every quarter of it was in a partition that was ON, out of
service where one was; its history is that of its lowest quarter. -/
def State.mergedPart (s : State) (mode : BitVec 2) (p : Nat) : QPart :=
  let olds := ((List.range 4).filter (fun q => decide (partOfQuarter mode q = p))).map (fun q => s.qpart (s.partNamed q))
  { s.qpart (s.partNamed p) with
    life := if olds.all (fun x => decide (x.life = .on)) then .on else .off
    out := olds.any (fun x => x.out)
    suspects := 0, replay := 0 }

/-- Partition p of a new mode: what the partition of that name held, with the seam ratio 1:1 (R737, R180). -/
def State.partAfterMode (s : State) (p : Nat) : Part :=
  let old := if partOfQuarter s.dev.mode p = p then s.part p else Part.reset
  { old with stroke := { old.stroke with seamRatio := 0, seamReq := 0, seamDeferred := false, seamNext := none, margin := 0 } }

/-- The contents of bulk memory are lost (R443): they read as memory that nothing has written (log 3); slots close. -/
def State.loseBulk (s : State) : State :=
  { s with store := s.store.zeroRange 0 bulkEnd
           bulk := { s.bulk with slots := [], pendPages := [] }
           ctxs := s.ctxs.map (fun e => (e.1, { e.2 with lc := { e.2.lc with
             named := none, runImages := [], consumed := [], restartDue := false } })) }

/-- The partition mode changes (R443, R737). -/
def State.changeMode (s : State) (mode : BitVec 2) : State :=
  let ps := partitionsOf mode
  let s1 := (partitionsOf s.dev.mode).foldl (fun t p => t.setChecking p false) s
  let idle := fun p => s.module_.power.prefIdle.getLsbD (s.partNamed p)
  let s2 := s1.loseBulk
  let s3 : State := { s2 with
    dev := { s2.dev with mode := mode }
    parts := ps.map (fun p => (p, s1.partAfterMode p))
    quill := { s2.quill with parts := ps.map (fun p => (p, s1.mergedPart mode p)), modes := [] }
    module_ := { s2.module_ with power := { s2.module_.power with
      prefIdle := BitVec.ofNat 4 (ps.foldl (fun a p => if idle p then a + 2 ^ p else a) 0) } } }
  ps.foldl (fun t p => t.refreshPw p) s3

/-- SET_PARTITION_MODE (R556, R733, R737). -/
def effSetPartitionMode (h : Hdr) (mode : Byte) (s : State) : State :=
  s.hostCmd h ((pfOnly 0x0101 false .device).on [(16, 1, mode.toNat)]) (decide (mode.toNat ≤ 2)) (fun s =>
    if s.ctxs.any (fun e => e.2.scroll.isSome) then s.complete h 0x0101 .wrongState 0
    else (s.changeMode (BitVec.ofNat 2 mode.toNat)).complete h 0x0101 .ok 0)
/-- SET_PARTITION_MODE. -/
def execSetPartitionMode (h : Hdr) (mode : Byte) (s : State) : Host.Outcome State Fault Refusal :=
  .next (effSetPartitionMode h mode s)

end Sys2Proof.Machine
end

