-- ==== Sys2Proof/Machine/Startup.lean ====
section
/-!
DEFINITION. Start-up (13 R806 to R811; 11 R696; 14 R824, R835, R838): the moraine record applied, the findings of the tests,
Ready.
-/
namespace Sys2Proof.Machine

/-! ### The moraine record applied (R696) -/

/-- Body byte i (16 to 27) of a field entry. -/
def Moraine.at_ (m : Moraine) (i : Nat) : Nat := fld m.body (i - 16) 1

/-- What a service entry says of its object (R694, R696). -/
def State.applyService (s : State) (object index new : Nat) : State :=
  if object = 0 then s.modHealth (fun h => { h with service := new })
  else if object = 1 then s.modQPart index (fun q => { q with out := decide (new = 2) })
  else
    s.modHealth (fun h =>
      { h with portOut := if new = 2 then h.portOut ||| BitVec.ofNat 16 (2 ^ index) else h.portOut &&& ~~~BitVec.ofNat 16 (2 ^ index) })

/-- A row repair becomes known (R426): it takes effect at the next start-up or reset of its partition. -/
def State.knowRow (s : State) (k : Nat) (r : RowRepair) : State :=
  s.modQuill (fun q => { q with rows := q.rows.set k (setAdd (q.rows.get [] k) r) })

/-- One applied entry. An error counted before this power-up counts as at its start, where the time base reads less than the
entry (log 18). -/
def State.applyEntry (s : State) (m : Moraine) : State :=
  let x := m.at_
  let n := 32 * x 16 + x 17
  let k := m.kind
  if k = 1 then s.modCtl n (fun c => { c with fenced := true, st := .off })
  else if k = 2 then s.modCare n (fun c => { c with errors := c.errors ++ [if m.time ≤ s.time then m.time else 0] })
  else if k = 3 then s.modCare n (fun c => { c with marginal := true })
  else if k = 4 then s.modRouter (x 16) (fun r => { r with fenced := true })
  else if k = 5 then s.knowRow (x 16) { layer := x 18, group := x 19, row := fld m.body 4 2 }
  else if k = 6 then ({ s with bulk := { s.bulk with bad := setAdd s.bulk.bad (fld m.body 0 4) } } : State)
  else if k = 7 then s.modPort (x 16) (fun p =>
    { p with lanes := p.lanes.set (x 17) { p.lanes.get Lane.reset (x 17) with retired := true } })
  else if k = 8 then s.modPort (x 16) (fun p =>
    { p with lanes := p.lanes.set (x 17) { p.lanes.get Lane.reset (x 17) with retired := false } })
  else if k = 9 then s.modRouter (x 16) (fun r => { r with xcal := r.xcal.set (x 17) 0xF })
  else if k = 10 then s.applyService (x 16) (x 17) (x 19)
  else if k = 11 then s.modHealth (fun h =>
    { h with partResets := x 16, partMinutes := x 17, devResetMax := x 18, devMinutes := x 19
             strokeWatchMs := BitVec.ofNat 16 (fld m.body 4 2), holdWatchS := BitVec.ofNat 16 (fld m.body 6 2) })
  else s

/-- The packs that an applied entry names (R683, R696). -/
def appliedPacks (l : List Moraine) (packs : List Pack) : List Pack :=
  packs.filter (fun p => l.any (fun m => decide (m.kind = 12 ∧ fld m.body 0 4 = p.id.toNat ∧ fld m.body 4 4 = p.version.toNat)))

/-- The factory entries and the good field entries are applied; later ones are dropped and TRUNCATED is set (R7, R696). -/
def State.applyMoraine (s : State) (good : Nat) : State :=
  let l := s.quill.moraine.take good
  let cut := decide (good < s.quill.moraine.length)
  (s.quill.factory ++ l).foldl State.applyEntry (s.modQuill (fun q =>
    { q with moraine := l, truncated := cut, full := q.full && !cut, packs := appliedPacks l q.packs }))

/-- The saved score (R717); 1,000 where none is saved. Port scores start at 1,000 (R718). -/
def State.loadScore (s : State) : State :=
  s.modHealth (fun h =>
    { h with score := match s.module_.ident.governing 4 0 with
               | some r => fld r.body 0 2
               | none => 1000
             portScore := [], lastDrop := s.time, portDrop := (List.range 16).map (fun f => (f, s.time)) })

/-! ### Findings (R809, R814) -/

/-- A finding that is not repairable (R809). -/
def BistFinding.fatal (b : BistFinding) : Bool :=
  match b with
  | .inkwellRow _ _ _ _ spare => !spare
  | .package _ => true
  | .other => true
  | .core _ => false
  | .router _ => false
  | .bulkRange _ => false

/-- The SRAM die of a layer of cluster k (R384): S0 and S1 West, S2 and S3 East, layer 0 on the lower one. -/
def dieOf (k layer : Nat) : Nat := 2 * (colOf k / 4) + layer % 2

/-- A finding is handled (R809). -/
def State.handleFinding (s : State) (b : BistFinding) : State :=
  match b with
  | .core c => s.fenceAs c.val 6 1
  | .router k => s.fenceRouter k.val 6
  | .inkwellRow k layer group row spare =>
    if spare then
      (s.knowRow k { layer := layer.toNat, group := group.toNat, row := row.toNat }).moraineAppend 5
        [(16, 1, k.val), (17, 1, dieOf k layer.toNat), (18, 1, layer.toNat), (19, 1, group.toNat), (20, 2, row.toNat)]
    else s
  | .bulkRange a => s.markBad (a.toNat * 65536) 3
  | .package m => s.modMc m.val (fun x => { x with st := .failed })
  | .other => s

/-! ### Ready (R806 step 8) -/

/-- Every domain is on: each partition of the mode comes ON in Idle with its crossings calibrated; a partition out of service
keeps its clusters in reset (R714). -/
def State.bringPartitions (s : State) (cal : List XCal) : State :=
  let s1 := s.modPower (fun w => { w with on := w.on ||| BitVec.ofNat 60 (0x3F * 2 ^ 54), low := 0, prefIdle := 0xF })
  let s2 := (partitionsOf s.dev.mode).foldl (fun t p => t.partOn p cal) s1
  let s3 := (List.range 48).foldl (fun t k => t.modInk k (fun x => { x with checking := (t.modes (t.partOf k)).checking })) s2
  (partitionsOf s.dev.mode).foldl (fun t p =>
    if (t.qpart p).out then (t.coresOfPart p).foldl (fun u n => u.modCtl n (fun x => { x with st := .off })) t else t) s3

/-- The ports go to DETECT (R585, R590), but for those out of service (R714). -/
def State.portsToDetect (s : State) (fs : List Nat) : State :=
  fs.foldl (fun t f =>
    if t.quill.health.portOut.getLsbD f then t
    else t.modPort f (fun p => { p with st := .detect })) s

/-- Event 0x0070 with CAUSE 5 for every object that start-up does not find in service (R725). -/
def State.reportService (s : State) : State :=
  let h := s.quill.health
  let s1 := if h.service = 0 ∧ 600 ≤ h.score then s
    else
      let new := if h.service = 2 then 2 else 1
      (s.modHealth (fun x => { x with service := new })).postService 0 0 0 new h.score 5
  let s2 := (partitionsOf s.dev.mode).foldl (fun t p =>
    if (t.qpart p).out then t.postService 1 p 0 2 t.quill.health.score 5 else t) s1
  (List.range 16).foldl (fun t f =>
    if t.quill.health.portOut.getLsbD f then t.postService 2 f 0 2 (t.quill.health.portScore.get 1000 f) 5 else t) s2

/-- The half-wise effective cap (R799): the lowest of the caps and 1,350 W, less the cut of the thermal unit. -/
def Power.effective (w : Power) : Nat :=
  let cap := fun (x : Half) => if x = 0 then 1350 else min 1350 x.toNat
  min (cap w.hostW) (cap w.bcW) - w.cut

/-- The sensors of a half: its clusters, the seam bridge and the host spine (R804). -/
def sensorsOf (east : Bool) : List Nat :=
  (List.range 48).filter (fun k => decide (4 ≤ colOf k) == east) ++ [48, 49]

/-- The hottest sensor of a list, with its sample. -/
def Power.hottestOf (w : Power) (l : List Nat) : Nat × Half :=
  l.foldl (fun (a : Nat × Half) i => if a.2.toInt < (w.temps.get 0 i).toInt then (i, w.temps.get 0 i) else a)
    (l.headD 0, w.temps.get 0 (l.headD 0))

/-- Event 0x00B0 (R805, R815), which concerns both quarters of a half. `reset` has a bit per partition that is reset. -/
def State.postThermal (s : State) (kind : Nat) (east : Bool) (reset : Nat) : State :=
  let w := s.module_.power
  let h := w.hottestOf (sensorsOf east)
  let src := if h.1 < 48 then source 2 h.1 0 0 0 else source 3 0 0 0 0
  let sev := if kind = 3 then 3 else 1
  let payload := [(16, 1, kind), (17, 1, if east then 1 else 0), (18, 2, h.2.toNat), (20, 2, w.effective), (24, 1, reset)]
  let p := if east then 2 else 0
  let s1 := s.post 0x00B0 sev src payload (some p)
  if s.dev.mode = 2 ∧ !s.quill.restarting ∧ (s.fn (p + 2)).passes 0x00B0 sev then s1.toRing (p + 2) (s.record 0x00B0 sev src payload)
  else s1

/-- The trips that start-up reports (R805): the halves at level 4, which return to normal. -/
def State.reportTrip (s : State) : State :=
  let w := s.module_.power
  let s1 := if w.west = 4 then s.postThermal 4 false 0 else s
  let s2 := if w.east = 4 then s1.postThermal 4 true 0 else s1
  s2.modPower (fun w =>
    { w with tripped := false, west := if w.west = 4 then 0 else w.west, east := if w.east = 4 then 0 else w.east })

/-- The newest committed reading (R863), none before the first. -/
def Meter.newest (m : Meter) : List Byte := if m.seq = 0 then [] else m.log.get [] ((m.seq - 1) % 4096)

/-- Event 0x0080 (R873) with FLAGS, SEQ and ENERGY_MWH of the newest reading. -/
def State.postMeter (s : State) (kind : Nat) : State :=
  let b := s.module_.meter.newest
  s.post 0x0080 0 (source 6 0 0 0 0) [(16, 1, kind), (17, 1, fld b 7 1), (20, 4, fld b 8 4), (24, 8, fld b 24 8)] none

/-- FLAGS of a reading (R860). -/
def Meter.flags (m : Meter) : Nat :=
  (if m.intact then 1 else 0) + (if m.strayed then 2 else 0) + (if m.wrapped then 4 else 0) + (if m.fault then 8 else 0)

/-- Event 0x0080 KIND 8 where the log holds a KIND 6 reading logged since the last Ready (R873). -/
def State.reportEntry (s : State) : State :=
  let m := s.module_.meter
  if m.entryOffNew then
    (s.postMeter 8).modMeter (fun x => { x with entryOffNew := false })
  else s

/-- A POWER_STATE that started start-up again ends (R811). -/
def State.endStartJob (s : State) : State :=
  match s.module_.power.startJob with
  | none => s
  | some j =>
    (s.modPower (fun w => { w with startJob := none })).finish j
      (if s.inSafe then .wrongState else .ok) s.module_.power.safeCause

/-- Each loaded scroll's digest is computed again; one that does not match is unloaded (R446). -/
def State.checkScrolls (s : State) : State :=
  (List.range 16).foldl (fun t c =>
    match (t.ctx c).scroll with
    | some sc => if Config.sm3 (t.store.bytes sc.base sc.size) = sc.digest then t else t.unload c
    | none => t) s

/-- Ready (R806). A crossing that the record says has failed stays failed (R696). -/
def State.ready (s : State) (b : BootInput) : State :=
  let s0 := (s.checkScrolls.bringPartitions b.cal).repairRows (List.range 48)
  let s1 := (((s0.quill.factory ++ s0.quill.moraine).filter (fun m => decide (m.kind = 9))).foldl State.applyEntry s0).portsToDetect
    (List.range 16)
  let s2 := (s1.modPower (fun w => { w with step := 7, safeCause := 0, durationMs := b.ms })).modQuill (fun q =>
    { q with running := true, restarting := false })
  ((s2.reportService.reportTrip).reportEntry).endStartJob

/-- Every region relocks to 1,000 MHz for the tests (R774, R775, R776, R807). -/
def State.relockAll (s : State) : State := (List.range 8).foldl (fun t r => t.modRegion r (fun x => x.relock 13)) s

/-- Training begins (R466): a package that failed an earlier one is trained anew. -/
def State.trainPackages (s : State) : State :=
  (List.range 16).foldl (fun t m => t.modMc m (fun x => if x.st = .failed then { x with st := .off } else x)) s

/-- What the quick test finds in the packages that held their contents, by line (R466, R808; R449, R450, R452). -/
def State.quickTest (s : State) (lines : List LineFind) : State :=
  (lines.filter (fun e => decide (e.addr.toNat < bulkEnd) && decide ((s.mcOf (s.mcAt e.addr.toNat)).st = .selfRefresh))).foldl
    (fun t e => t.mcFind (t.mcAt e.addr.toNat) (e.addr.toNat / 64 * 64) e.ecc e.link) s

/-- Steps 3 to 8 of start-up (R806 to R810). -/
def State.startSteps (s : State) (b : BootInput) : State :=
  if !b.supplyOk then (s.enterSafe 1 b.ms).endStartJob
  else if !(b.referenceOk && !s.module_.clock.holdover) then (s.enterSafe 2 b.ms).endStartJob
  else
    let s1 := (s.relockAll.modClock (fun c => { c with present := true })).applyMoraine b.goodEntries
    let s2 := b.found.foldl State.handleFinding (s1.loadScore.trainPackages.quickTest b.lines)
    if b.found.any BistFinding.fatal then (s2.enterSafe 3 b.ms).endStartJob
    else if !b.factoryOk then (s2.enterSafe 4 b.ms).endStartJob
    else
      (s2.modIdent (fun d =>
        { d with composition := b.composition &&& 0x7F, answered := b.answered, opFallback := !b.opOk, torn := b.torn, badSig := b.badSig })).ready b

/-- Whether start-up can go on: the input is on, neither Ready nor safe, no recovery open, every sensor below 85 °C after a
trip (R804, R806, R830). -/
def State.canStart (s : State) : Bool :=
  let w := s.module_.power
  s.module_.entry.on && decide (w.step < 7) && s.booted && (!w.tripped || (List.range 50).all (fun i => decide ((w.temps.get 0 i).toInt < 850)))

/-- STARTUP (R806): step 2 counts the boot (R694, R837) and starts the firmware; where the flash image is not valid, start-up
waits for recovery and goes on from step 3. -/
def effStartup (boot : BootInput) (s : State) : State :=
  if s.canStart then
    if s.module_.power.step < 2 then
      let n := s.dev.boot + 1
      let s1 := ({ s with dev := { s.dev with boot := n } } : State).writeRec 7 0 0 0 (toLe n.toNat 4)
      let s2 := (s1.modPower (fun w => { w with on := w.on ||| BitVec.ofNat 60 (3 * 2 ^ 58), step := 1 })).bootRom
      if s2.booted then (s2.modPower (fun w => { w with step := 2 })).startSteps boot else s2
    else s.startSteps boot
  else s
/-- STARTUP. -/
def execStartup (boot : BootInput) (s : State) : Host.Outcome State Fault Refusal := .next (effStartup boot s)

/-! ### Recovery (R830, R582) -/

/-- PD59 has started again after a management restart or in Dormant: the Quill runs. -/
def State.quillStarts (s : State) : State := s.modQuill (fun q => { q with running := true })

/-- The events that a restart of the Quill can rebuild from the error registers (R701): kills by levels 0, 1, 2 and 5, and
partition faults. -/
def rebuilt (m : Missed) : Bool :=
  decide (m.code = 0x0003) || (decide (m.code = 0x0002) && decide (m.level = 0 ∨ m.level = 1 ∨ m.level = 2 ∨ m.level = 5))

/-- The Quill has restarted (R700, R701): event 0x0021, then what it rebuilds. -/
def State.restartDone (s : State) : State :=
  let missed := s.quill.missed.filter rebuilt
  let misses := s.quill.health.misses.toNat
  let s1 := s.modQuill (fun q =>
    { q with running := true, restarting := false, missed := [], health := { q.health with misses := 0 } })
  let s2 := s1.post 0x0021 1 (source 3 0 0 0 0) [(16, 1, misses), (17, 1, s.lately s.quill.health.mgmtResets)] none
  missed.foldl (fun t m => t.deliverEvent m.code m.sev m.bytes m.part) s2

/-- RECOVERY_TIMEOUT (R830): no valid image has run within 30 s: the safe state with cause 5. -/
def effRecoveryTimeout (s : State) : State :=
  if s.booted then s
  else ((s.deviceReset.modIdent (fun d => { d with recoveryFails := s.module_.ident.recoveryFails })).enterSafe 5 0)
/-- RECOVERY_TIMEOUT. -/
def execRecoveryTimeout (s : State) : Host.Outcome State Fault Refusal := .next (effRecoveryTimeout s)

end Sys2Proof.Machine
end

