-- ==== Sys2Proof/Machine/Firmware.lean ====
section
/-!
DEFINITION. Attestation (14 R825 to R827), firmware (R828 to R832), stored records (R840), the heartbeat watch (11 R700 to
R702).
-/
namespace Sys2Proof.Machine

/-! ### Attestation -/

/-- The certificates of a report, in order (R825): a part that did not answer gives length 0. -/
def State.certificates (s : State) : List (List Byte) :=
  let d := s.module_.ident
  let c := fun n => Config.cert n d.measurement
  [c 4, c 2, c 1, c 0, c 3] ++ (List.range 5).map (fun i => if d.answered.getLsbD i then c (5 + i) else [])

/-- The watermark of the unit that partition p holds, zero where it holds none (R629, R825). -/
def State.unitWatermark (s : State) (p : Nat) : BitVec 256 := if s.partNamed p = p then s.watermark p none else 0

/-- The report of ATTEST (R825). -/
def State.report (s : State) (nonce : BitVec 256) : List Byte :=
  let d := s.module_.ident
  let chain := s.certificates.flatMap (fun c => toLe c.length 4 ++ c)
  let head := Sys2Proof.Machine.block 320 ([(0, 2, 1), (2, 1, 1), (3, 1, 0xA1), (4, 8, d.version.toNat),
    (12, 4, 320 + chain.length + 64), (16, 32, nonce.toNat), (48, 32, Config.romMeasurement.toNat),
    (80, 32, d.measurement.toNat), (112, 32, d.configDigest.toNat), (144, 32, s.moraineDigest.toNat)] ++
    (List.range 4).map (fun p => (176 + 32 * p, 32, (s.unitWatermark p).toNat)) ++
    [(304, 8, s.time), (312, 1, s.dev.mode.toNat), (313, 1, d.composition.toNat), (314, 1, s.serviceCode), (315, 1, 10),
     (316, 4, chain.length)])
  head ++ chain ++ signed (aliasKey d.measurement) (head ++ chain)

/-- ATTEST (R825). -/
def effAttest (h : Hdr) (r : Reply) (nonce : BitVec 256) (s : State) : State :=
  s.hostCmd h ((anySpec 0x0701 true true true).on (replyArgs r ++ [(32, 32, nonce.toNat)])) (replyOk h r) (fun s => s.reply h 0x0701 r (s.report nonce))
/-- ATTEST. -/
def execAttest (h : Hdr) (r : Reply) (nonce : BitVec 256) (s : State) : Host.Outcome State Fault Refusal :=
  .next (effAttest h r nonce s)

/-- The measurement of an SPDM index (R826), 1 to 9. -/
def State.spdmMeasurement (s : State) (i : Nat) : BitVec 256 :=
  let d := s.module_.ident
  if i = 1 then Config.romMeasurement
  else if i = 2 then d.measurement
  else if i = 3 then d.configDigest
  else if i = 4 then s.moraineDigest
  else if i ≤ 8 then s.unitWatermark (i - 5)
  else Config.sm3 (Config.cert 3 d.measurement ++ [d.composition])

/-! ### FW_STAGE, FW_COMMIT -/

/-- SVN of the governing KEY record of an index (R837). -/
def Ident.keySvn (d : Ident) (i : Nat) : Option Nat := (d.governing 3 i).map (fun r => fld r.body 68 4)

/-- The rollback check of R831. -/
def State.svnOk (s : State) (x : Staged) : Bool :=
  let d := s.module_.ident
  if x.kind = 1 then decide (d.svn.toNat ≤ x.svn.toNat)
  else decide (x.keyIndex ≤ 1) && (match d.keySvn x.keyIndex with
    | some n => decide (n < x.svn.toNat)
    | none => true)

/-- What an FW_STAGE ends with (R831): the first condition of the table. -/
def State.stageStatus (s : State) (len : Nat) (image : Option (List Byte)) : Status :=
  if len < 512 ∨ 8388608 < len then .badParam
  else if image.any (fun b => !imageHeaderOk b [1, 2] || decide (imageLength b ≠ len)) then .badParam
  else if s.module_.ident.committing.isSome then .busy
  else
    match image with
    | none => .aborted
    | some b => if imageSigned b && s.svnOk (stagedOf b) then .ok else .authFail

/-- FW_STAGE (R831): DEFERRED, then the outcome; an image staged before is discarded. -/
def effFwStage (h : Hdr) (hostAddr : DWord) (len : Word) (image : Option (List Byte)) (s : State) : State :=
  s.hostCmd h ((pfOnly 0x0702 true .any).on [(16, 8, hostAddr.toNat), (24, 4, len.toNat)]) (decide (hostAddr.toNat % 4 = 0)) (fun s =>
    let b := image.map (fun x => fitTo len.toNat x)
    let st := s.stageStatus len.toNat b
    let s1 := (s.deferJob h 0x0702 (.fwStage h hostAddr len none) 0).modIdent (fun d =>
      { d with staged := if st = .ok then b.map stagedOf else none })
    s1.finish s.host.nextJob st 0)
/-- FW_STAGE. -/
def execFwStage (h : Hdr) (hostAddr : DWord) (len : Word) (image : Option (List Byte)) (s : State) :
    Host.Outcome State Fault Refusal :=
  .next (effFwStage h hostAddr len image s)

/-- Whether some context is not OFF, or some partition STARTING or STOPPING (R832). -/
def State.commitBarred (s : State) : Bool :=
  (List.range 16).any (fun c => decide ((s.ctx c).lc.life ≠ .off)) ||
    (List.range 4).any (fun p => decide ((s.qpart p).life = .starting ∨ (s.qpart p).life = .stopping))

/-- FW_COMMIT (R832): a key package becomes a KEY record at once; for firmware the image region is invalid until the write
ends. -/
def effFwCommit (h : Hdr) (s : State) : State :=
  s.hostCmd h (pfOnly 0x0703 true .any) true (fun s =>
    match s.module_.ident.staged with
    | none => s.complete h 0x0703 .wrongState 0
    | some x =>
      if s.module_.ident.committing.isSome then s.complete h 0x0703 .busy 0
      else if x.kind = 1 then
        if s.commitBarred then s.complete h 0x0703 .wrongState 0
        else
          (s.deferJob h 0x0703 (.fwCommit h) 0).modIdent (fun d =>
            { d with committing := some s.host.nextJob, writing := x.image, flash := none })
      else
        ((s.deferJob h 0x0703 (.fwCommit h) 0).writeRec 3 x.keyIndex 1 0
          (((x.image.drop 256).take 68) ++ toLe x.svn.toNat 4)).finish s.host.nextJob .ok 0)
/-- FW_COMMIT. -/
def execFwCommit (h : Hdr) (s : State) : Host.Outcome State Fault Refusal := .next (effFwCommit h s)

/-- FW_COMMIT_WRITE_DONE (R832): COMMIT is written; the flash image is valid, the command ends, a device reset is due. -/
def effFwCommitWriteDone (s : State) : State :=
  match s.module_.ident.committing with
  | none => s
  | some j =>
    (s.modIdent (fun d => { d with committing := none, flash := some d.writing, writing := [], resetDue := true })).finish j .ok 0
/-- FW_COMMIT_WRITE_DONE. -/
def execFwCommitWriteDone (s : State) : Host.Outcome State Fault Refusal := .next (effFwCommitWriteDone s)

/-- FW_COMMIT_RESET (R832): the device reset after a commit, not counted. -/
def effFwCommitReset (s : State) : State := if s.module_.ident.resetDue then s.deviceReset else s
/-- FW_COMMIT_RESET. -/
def execFwCommitReset (s : State) : Host.Outcome State Fault Refusal := .next (effFwCommitReset s)

/-! ### RECORD_READ -/

/-- The record types (R837). -/
def recordTypes : List Nat := [0x0001, 0x0002, 0x0003, 0x0004, 0x0005, 0x0006, 0x0007, 0x0010, 0x0011]

/-- What RECORD_READ returns (R840). -/
def State.recordBytes (s : State) (type index : Nat) : Option (List Byte) :=
  if type = 0x0010 then (if index = 0 then some s.factoryPortion else none)
  else if type = 0x0011 then s.fieldEntries[index]?
  else (s.module_.ident.governing type index).map (fun r => r.returned s.module_.ident.measurement)

/-- RECORD_READ (R840). -/
def effRecordRead (h : Hdr) (r : Reply) (rtype index : Half) (s : State) : State :=
  s.hostCmd h ((anySpec 0x0704 false true true).on (replyArgs r ++ [(28, 2, rtype.toNat), (30, 2, index.toNat)])) (replyOk h r && recordTypes.contains rtype.toNat) (fun s =>
    match s.recordBytes rtype.toNat index.toNat with
    | some b => s.reply h 0x0704 r b
    | none => s.complete h 0x0704 .wrongState 0)
/-- RECORD_READ. -/
def execRecordRead (h : Hdr) (r : Reply) (rtype index : Half) (s : State) : Host.Outcome State Fault Refusal :=
  .next (effRecordRead h r rtype index s)

/-! ### The heartbeat watch (R700 to R702) -/

/-- HEARTBEAT_MISS (R700, R702, R832): after three misses PD59 is reset: a staged image is lost, a commit under way leaves
the flash image invalid; the third reset within 10 minutes is a device fault. -/
def effHeartbeatMiss (s : State) : State :=
  if s.quill.running then
    let s1 := s.modHealth (fun h =>
      { h with misses := 3, mgmtCount := satInc h.mgmtCount, mgmtResets := s.inWindow h.mgmtResets 10 ++ [s.time] })
    let s2 := match s.module_.ident.committing with
      | some j => s1.finish j .aborted 0
      | none => s1
    let s3 := s2.modIdent (fun d => { d with staged := none, committing := none, writing := [] })
    if 3 ≤ s3.quill.health.mgmtResets.length then s3.devFault 2
    else s3.modQuill (fun q => { q with running := false, restarting := true })
  else s
/-- HEARTBEAT_MISS. -/
def execHeartbeatMiss (s : State) : Host.Outcome State Fault Refusal := .next (effHeartbeatMiss s)

/-- QUILL_RESTART_DONE (R700, R701, R829): the boot ROM starts the firmware; where the flash image is not valid, recovery opens
first. -/
def effQuillRestartDone (s : State) : State :=
  if s.quill.restarting ∧ s.booted then
    let s1 := s.bootRom
    if s1.booted then s1.restartDone else s1
  else s
/-- QUILL_RESTART_DONE. -/
def execQuillRestartDone (s : State) : Host.Outcome State Fault Refusal := .next (effQuillRestartDone s)

end Sys2Proof.Machine
end

