-- ==== Sys2Proof/Machine/HostQueues.lean ====
section
/-!
DEFINITION. The queues in host memory (09 R521 to R532, R577 to R581): doorbells, fetches, enables; what a packet may be refused
for (R536, R540); MSI-X messages, function resets, D3hot (R502, R565) and the PCI Express rows (R500, R518, R574).
-/
namespace Sys2Proof.Machine

/-! ### Doorbells (R516, R524, R527, R528, R531) -/

/-- Queue pairs of a function (R521). -/
def pairsOf (f : Nat) : Nat := if f = 0 then 64 else if f ≤ 4 then 16 else 0

/-- Count an ignored doorbell (R531). -/
def State.badDoorbell (s : State) (f : Nat) : State := s.modFn f (fun x => { x with badDoorbell := satInc x.badDoorbell })

/-- SQ_TAIL_DOORBELL (R524, R531). -/
def effSqTailDoorbell (fn : Fin 6) (n : Byte) (val : Word) (s : State) : State :=
  let v := val.toNat % 4096
  let q := s.qp fn.val n.toNat
  if n.toNat < pairsOf fn.val then
    if q.active ∧ v < q.sqSize then s.modQp fn.val n.toNat (fun q => { q with sqTail := v }) else s.badDoorbell fn.val
  else s
/-- SQ_TAIL_DOORBELL. -/
def execSqTailDoorbell (fn : Fin 6) (n : Byte) (val : Word) (s : State) : Host.Outcome State Fault Refusal :=
  .next (effSqTailDoorbell fn n val s)

/-- CQ_HEAD_DOORBELL (R527, R531). -/
def effCqHeadDoorbell (fn : Fin 6) (n : Byte) (val : Word) (s : State) : State :=
  let v := val.toNat % 4096
  let q := s.qp fn.val n.toNat
  if n.toNat < pairsOf fn.val then
    if q.active ∧ v < q.cqSize then s.modQp fn.val n.toNat (fun q => { q with cqHead := v }) else s.badDoorbell fn.val
  else s
/-- CQ_HEAD_DOORBELL. -/
def execCqHeadDoorbell (fn : Fin 6) (n : Byte) (val : Word) (s : State) : Host.Outcome State Fault Refusal :=
  .next (effCqHeadDoorbell fn n val s)

/-- Write the held records as far as there is room, first of all (R529). -/
def State.flushHeld (fuel : Nat) (s : State) (f : Nat) : State :=
  match fuel with
  | 0 => s
  | k + 1 =>
    match (s.fn f).ring.held with
    | [] => s
    | r :: rest =>
      if (s.fn f).ringRoom then
        State.flushHeld k ((s.modFn f (fun x => { x with ring := { x.ring with held := rest } })).ringWrite f r) f
      else s

/-- Write the held records of a function. -/
def State.flushRing (s : State) (f : Nat) : State := s.flushHeld (s.fn f).ring.held.length f

/-- EVENT_RING_HEAD_DOORBELL (R528, R529, R531). -/
def effEventRingHeadDoorbell (fn : Fin 6) (val : Word) (s : State) : State :=
  let v := val.toNat % 65536
  let r := (s.fn fn.val).ring
  if fn = 5 then s
  else if r.active ∧ v < r.size then
    (s.modFn fn.val (fun x => { x with ring := { x.ring with head := v } })).flushRing fn.val
  else s.badDoorbell fn.val
/-- EVENT_RING_HEAD_DOORBELL. -/
def execEventRingHeadDoorbell (fn : Fin 6) (val : Word) (s : State) : Host.Outcome State Fault Refusal :=
  .next (effEventRingHeadDoorbell fn val s)

/-! ### Enabling and disabling (R522, R523, R578 to R581) -/

/-- The fields VECTOR and IRQ_EN of HI_QP_CFGn. -/
def Qp.setIrq (q : Qp) (val : Word) : Qp := { q with vector := val.extractLsb' 25 6, irqEn := val.getLsbD 24 }

/-- QP_ENABLE (R522, R532, R580, R581): an inactive pair starts at 0 with phase 1; sizes below 2 and 4 set FAULT; a pair that a
failed access stopped goes on where it was disabled before. -/
def effQpEnable (fn : Fin 6) (n : Byte) (val : Word) (s : State) : State :=
  let sq := (val.extractLsb' 12 12).toNat + 1
  let cq := (val.extractLsb' 0 12).toNat + 1
  if n.toNat < pairsOf fn.val then
    s.modQp fn.val n.toNat (fun q =>
      let q1 := { q.setIrq val with enable := true, fault := false, halted := q.enable && q.halted }
      if q.active then q1
      else
        let small := decide (sq < 2 ∨ cq < 4)
        { q1 with sqSize := sq, cqSize := cq, active := !small, fault := small, sqHead := 0, sqTail := 0, cqHead := 0,
                  cqTail := 0, phase := true, fetched := [] })
  else s
/-- QP_ENABLE. -/
def execQpEnable (fn : Fin 6) (n : Byte) (val : Word) (s : State) : Host.Outcome State Fault Refusal :=
  .next (effQpEnable fn n val s)

/-- QP_DISABLE (R523): fetching stops at once. -/
def effQpDisable (fn : Fin 6) (n : Byte) (val : Word) (s : State) : State :=
  let sq := (val.extractLsb' 12 12).toNat + 1
  let cq := (val.extractLsb' 0 12).toNat + 1
  if n.toNat < pairsOf fn.val then
    s.modQp fn.val n.toNat (fun q =>
      let q1 := { q.setIrq val with enable := false }
      if q.active then q1 else { q1 with sqSize := sq, cqSize := cq })
  else s
/-- QP_DISABLE. -/
def execQpDisable (fn : Fin 6) (n : Byte) (val : Word) (s : State) : Host.Outcome State Fault Refusal :=
  .next (effQpDisable fn n val s)

/-- QP_DEACTIVATE (R523): every command fetched from a disabled pair has its final completion written. -/
def effQpDeactivate (fn : Fin 6) (n : Byte) (s : State) : State :=
  let q := s.qp fn.val n.toNat
  if q.active && !q.enable && decide (q.inFlight = 0) && (s.fn fn.val).parked.all (fun e => decide (e.pair ≠ n.toNat)) then
    s.modQp fn.val n.toNat (fun q => { q with active := false })
  else s
/-- QP_DEACTIVATE. -/
def execQpDeactivate (fn : Fin 6) (n : Byte) (s : State) : Host.Outcome State Fault Refusal := .next (effQpDeactivate fn n s)

/-- EVENT_RING_ENABLE (R578, R528, R529): a write of HI_EVR_CFG. A ring that becomes active takes the held records. -/
def effEventRingEnable (fn : Fin 6) (val : Word) (s : State) : State :=
  let size := (val.extractLsb' 0 16).toNat + 1
  let on := val.getLsbD 31
  if fn = 5 then s
  else
    let set := fun (r : Ring) =>
      let r1 := { r with enable := on, vector := val.extractLsb' 25 6, irqEn := val.getLsbD 24 }
      if r.active then { r1 with active := on }
      else
        let starts := on && decide (16 ≤ size)
        { r1 with size := size, active := starts, head := 0, tail := 0, phase := true }
    (s.modFn fn.val (fun x => { x with ring := set x.ring })).flushRing fn.val
/-- EVENT_RING_ENABLE. -/
def execEventRingEnable (fn : Fin 6) (val : Word) (s : State) : Host.Outcome State Fault Refusal :=
  .next (effEventRingEnable fn val s)

/-- EVENT_LOST_CLEAR (R579): writing 1 to LOST clears it and LOST_CNT. -/
def effEventLostClear (fn : Fin 6) (val : Word) (s : State) : State :=
  if fn ≠ 5 ∧ val.getLsbD 30 then
    s.modFn fn.val (fun x => { x with ring := { x.ring with lost := false, lostCnt := 0 } })
  else s
/-- EVENT_LOST_CLEAR. -/
def execEventLostClear (fn : Fin 6) (val : Word) (s : State) : Host.Outcome State Fault Refusal :=
  .next (effEventLostClear fn val s)

/-! ### Fetching (R524, R526, R532 to R537) -/

/-- The opcode table (R555): opcode, column VF, column BC. -/
def opTable : List (Nat × Bool × Bool) :=
  [(0x0001, true, true), (0x0002, true, true), (0x0003, true, false), (0x0004, true, true), (0x0101, false, false),
   (0x0102, true, false), (0x0103, true, true), (0x0104, false, true), (0x0201, true, false), (0x0202, true, false),
   (0x0203, true, false), (0x0204, true, false), (0x0205, true, false), (0x0206, true, false), (0x0207, true, false),
   (0x0301, true, false), (0x0302, true, false), (0x0303, true, false), (0x0304, true, false), (0x0305, true, false),
   (0x0306, true, false), (0x0307, true, false), (0x0401, false, false), (0x0402, false, false), (0x0403, false, false),
   (0x0404, false, false), (0x0405, false, false)] ++
  [(0x0501, false, false), (0x0502, true, true), (0x0503, false, false), (0x0504, false, false), (0x0505, true, true),
   (0x0506, false, true), (0x0601, false, true), (0x0602, false, false), (0x0603, true, true), (0x0604, false, true),
   (0x0701, true, true), (0x0702, false, false), (0x0703, false, false), (0x0704, false, true), (0x0801, true, true),
   (0x0802, false, true), (0x0901, false, false), (0x0902, false, false), (0x0903, true, false)]

/-- The row of an opcode; none for a reserved one. -/
def opRow (op : Nat) : Option (Nat × Bool × Bool) := opTable.find? (fun e => decide (e.1 = op))

/-- A parameter byte that selects the form of a command, and whether it is reserved (R556, R559, R562). `b` gives packet
bytes 16 and up. -/
def formReserved (op : Nat) (b : List Byte) : Bool :=
  let x := fun i => fld b (i - 16) 1
  if op = 0x0203 ∨ op = 0x0206 then decide (1 < x 16)
  else if op = 0x0307 ∨ op = 0x0501 ∨ op = 0x0601 then decide (3 < x 16)
  else if op = 0x0404 then decide (2 < x 17)
  else if op = 0x0602 then decide (1 < x 17)
  else if op = 0x0802 then decide (1 < x 40)
  else false

/-- What a packet that stands for no row of the opcode table completes with (R540 checks 1 to 4, R536, R537): a reserved
opcode, a BLOCK_LEN out of range, a block that cannot be read, a reserved form. `p` is the packet, followed by its block. -/
def State.packetRefusal (s : State) (h : Hdr) (p : List Byte) : Option Status :=
  let op := fld p 0 2
  let len := fld p 24 4
  let badLen := h.indirect && decide (len < 48 ∨ 4096 < len)
  let missing := h.indirect && decide (p.length < 64 + len)
  let form := formReserved op (if h.indirect then p.drop 64 else p.drop 16)
  let version := if op ≠ 1 ∧ (!(s.fn h.fn.val).version ∨ h.minor ≠ 0) then some Status.badVersion else none
  match opRow op with
  | none => if version.isSome then version else some .badParam
  | some (_, vf, bc) =>
    if badLen || missing || form then
      if version.isSome then version
      else if !s.permits h { anySpec op vf bc true with work := false } then some .notPermitted
      else if badLen then some .badParam
      else if missing then some .aborted
      else some .badParam
    else none

/-- Whether a pair may fetch now (R523, R524, R526, R532, R500, R502): commands fetched without a final completion leave room in
the completion queue for two completions each. -/
def State.mayFetch (s : State) (f n : Nat) : Bool :=
  let q := s.qp f n
  s.quill.running && q.enable && q.active && !q.halted && !(s.fn f).mute && decide (q.sqHead ≠ q.sqTail) &&
    decide (2 * (q.inFlight + 1) ≤ q.cqSize - 1 - (q.cqTail + q.cqSize - q.cqHead) % q.cqSize)

/-- A failed access of the device for a pair (R532): FAULT is set, and the pair stops until it is disabled and enabled
again. -/
def State.pairFails (s : State) (f n : Nat) : State :=
  (s.modQp f n (fun q => { q with fault := true, halted := true })).countHostFail f

/-- A packet is refused before it is known to be a command of the table: its completion is written, under the number of the next
job. A SET_THRESHOLDS draws a new AUTH_NONCE whatever its outcome (R558). -/
def State.refusePacket (s : State) (h : Hdr) (op : Nat) (st : Status) : State :=
  let t := (if st = .aborted then s.countHostFail h.fn.val else s).complete h op st 0
  if op = 0x0104 then t.newNonce h.fn.val else t

/-- The entry of a pair is fetched (R521, R524): it is read at the head, which advances; `job` is the job that carries it
out. -/
def State.fetched (s : State) (f n : Nat) (p : List Byte) (job : Option Nat) : State :=
  let q := s.qp f n
  (s.emit (.hostRead f (q.sqBase.toNat + 64 * q.sqHead) 64)).modQp f n (fun q =>
    { q with sqHead := (q.sqHead + 1) % q.sqSize, fetched := q.fetched ++ [{ packet := p, job := job }] })

/-- The parameter block of a fetched packet is read (R536), where its length is in range. -/
def State.readBlock (s : State) (h : Hdr) (p : List Byte) : State :=
  let len := fld p 24 4
  if h.indirect ∧ 48 ≤ len ∧ len ≤ 4096 then s.emit (.hostRead h.fn.val (fld p 16 8) len) else s

/-- COMMAND_FETCH (R521, R524, R526, R532, R536): the entry at the head is read and the head advances; a failed read or write of
the pair sets FAULT. A packet that stands for a command of the table is carried out when that command comes; any other completes
here, and is fetched once it may start (R534). -/
def effCommandFetch (fn : Fin 6) (n : Byte) (packet : Option (List Byte)) (written : Bool) (s : State) : State :=
  let f := fn.val
  if pairsOf f ≤ n.toNat then s
  else if !written then (if (s.qp f n.toNat).active then s.pairFails f n.toNat else s)
  else if s.mayFetch f n.toNat then
    match packet with
    | none => s.pairFails f n.toNat
    | some p =>
      let h := pktHdr fn n p
      match s.packetRefusal h p with
      | none => (s.fetched f n.toNat p none).readBlock h p
      | some st =>
        if !h.ordered || s.sqClear h then
          ((s.fetched f n.toNat p (some s.host.nextJob)).readBlock h p).refusePacket h (fld p 0 2) st
        else s
  else s
/-- COMMAND_FETCH. -/
def execCommandFetch (fn : Fin 6) (n : Byte) (packet : Option (List Byte)) (s : State) (written : Bool := true) :
    Host.Outcome State Fault Refusal := .next (effCommandFetch fn n packet written s)

/-! ### Completions and messages under way -/

/-- DEFERRED_COMPLETION (R542): a command still running 1 ms after its fetch receives DEFERRED, once. -/
def effDeferredCompletion (job : Nat) (s : State) : State :=
  match s.job job with
  | some j =>
    if j.deferred || j.silent then s
    else
      ({ s with host := { s.host with jobs := s.host.jobs.set job { j with deferred := true } } } : State).writeCq j.hdr
        .deferred 0
  | none => s
/-- DEFERRED_COMPLETION. -/
def execDeferredCompletion (job : Nat) (s : State) : Host.Outcome State Fault Refusal := .next (effDeferredCompletion job s)

/-- Whether a function sends the message of a vector (R500, R502). -/
def Fn.sendsMsix (x : Fn) (v : Nat) : Bool := !x.mute && x.msixOn && !x.msixMask && !x.msixMasked.getLsbD v

/-- MSIX_MESSAGE (R530, R502): the message that is due for a vector is sent; it stays due while the function may not send it or
the vector is masked (R500). -/
def effMsixMessage (fn : Fin 6) (vector : BitVec 6) (s : State) : State :=
  let x := s.fn fn.val
  if x.msixDue.contains vector.toNat && x.sendsMsix vector.toNat then
    (s.modFn fn.val (fun y => { y with msixDue := setDel y.msixDue vector.toNat })).emit (.msix fn.val vector.toNat)
  else s
/-- MSIX_MESSAGE. -/
def execMsixMessage (fn : Fin 6) (vector : BitVec 6) (s : State) : Host.Outcome State Fault Refusal :=
  .next (effMsixMessage fn vector s)

/-! ### Function resets and power states (R502, R565) -/

/-- The commands of a function that are fetched and not started, with the version they were fetched under: a reset leaves them
to take effect (R565). -/
def Fn.unstarted (x : Fn) : List Left :=
  x.left ++ x.qps.flatMap (fun e =>
    (e.2.fetched.filter (fun y => y.job.isNone)).map (fun y => { sq := e.1, version := x.version, packet := y.packet }))

/-- A function after a reset (R565): queue pairs, event ring, mask, version, BAR bases, error counts and D-state return to
reset, and with them Bus Master Enable, MSI-X and the size of BAR2; AUTH_NONCE, the SPDM session, the IDE stream and the AER
status stay (log 24). -/
def Fn.afterReset (x : Fn) : Fn :=
  { Fn.reset with nonce := x.nonce, spdm := x.spdm, ideKey := x.ideKey, aer := x.aer, left := x.unstarted }

/-- Reset the host interface of one function (R565, R518): no completion is written for what it had fetched. -/
def State.resetFn (s : State) (f : Nat) : State :=
  let s1 := s.modFn f Fn.afterReset
  let s2 : State := { s1 with
    host := { s1.host with
      jobs := s1.host.jobs.map (fun e => if e.2.hdr.fn.val = f then (e.1, { e.2 with silent := true }) else e) }
    ctxs := s1.ctxs.map (fun e => if e.2.run.fn = f then (e.1, { e.2 with run := { e.2.run with fnReset := true } }) else e) }
  s2

/-- The IDE streams are no longer secure (R520; log 24): the link left the state in which they were set up. -/
def State.dropIde (s : State) : State :=
  let t : State := { s with host := { s.host with linkKey := none } }
  (List.range 5).foldl (fun t f => t.modFn f (fun x => { x with ideKey := none })) t

/-- HOST_FUNCTION_RESET (R565): a function level reset of one function, a hot reset or PERST# of all. In device-level Dormant
PERST# switches on PD59 and PD58 (R792). -/
def effHostFunctionReset (kind : ResetKind) (s : State) : State :=
  match kind with
  | .flr fn => if fn = 5 then s else s.resetFn fn.val
  | .hot => ((List.range 5).foldl State.resetFn s).dropIde
  | .perst =>
    let t := ((List.range 5).foldl State.resetFn s).dropIde
    if t.module_.power.low = 3 ∧ !t.domOn 58 then t.wakeQuill else t
/-- HOST_FUNCTION_RESET. -/
def execHostFunctionReset (kind : ResetKind) (s : State) : Host.Outcome State Fault Refusal :=
  .next (effHostFunctionReset kind s)

/-- D3HOT_ENTRY (R502). -/
def effD3hotEntry (fn : Fin 6) (s : State) : State :=
  if fn = 5 then s else s.modFn fn.val (fun x => { x with d3 := true })
/-- D3HOT_ENTRY. -/
def execD3hotEntry (fn : Fin 6) (s : State) : Host.Outcome State Fault Refusal := .next (effD3hotEntry fn s)

/-- Write a completion that waited: SQ_HEAD and PHASE are those of the moment (R541, R527), and event 0x00C0 goes with it
(R535). -/
def State.writeParked (s : State) (f : Nat) (e : Parked) : State :=
  let q := s.qp f e.pair
  if !q.writes then s
  else
    let b := ((e.bytes.set 6 (BitVec.ofNat 8 q.sqHead)).set 7 (BitVec.ofNat 8 (q.sqHead / 256))).set 9 (if q.phase then 1 else 0)
    (s.cqPut f e.pair b).postNotes f b e.note

/-- A function that may write to host memory again writes the data, the completions and the records that waited (R500, R502). -/
def State.flushFn (s : State) (f : Nat) : State :=
  let x := s.fn f
  if x.mute then s
  else
    let s1 := s.modFn f (fun y => { y with parked := [], parkedData := [] })
    let s2 := x.parkedData.foldl (fun t e => t.emit (.hostWrite f e.1 e.2)) s1
    (x.parked.foldl (fun t e => t.writeParked f e) s2).flushRing f

/-- D0_RETURN (R502, R503): what waited is written. -/
def effD0Return (fn : Fin 6) (s : State) : State :=
  if fn ≠ 5 ∧ (s.fn fn.val).d3 then (s.modFn fn.val (fun y => { y with d3 := false })).flushFn fn.val else s
/-- D0_RETURN. -/
def execD0Return (fn : Fin 6) (s : State) : Host.Outcome State Fault Refusal := .next (effD0Return fn s)

/-! ### PCI Express (R500, R509, R518, R574) -/

/-- A BAR of R509: its number, its smallest and largest size as powers of two, whether it is prefetchable; every BAR is 64 bits
wide (R509). -/
structure BarRow where
  bar : Nat
  minLog : Nat
  maxLog : Nat
  prefetch : Bool
  wide : Bool := true
  deriving DecidableEq, Repr

/-- The BARs of function f (R509): BAR2 of the PF is 1 to 64 GiB, of a VF 1 to 16 GiB. -/
def barsOf (f : Nat) : List BarRow :=
  if f = 0 then
    [{ bar := 0, minLog := 25, maxLog := 25, prefetch := false }, { bar := 2, minLog := 30, maxLog := 36, prefetch := true },
     { bar := 4, minLog := 24, maxLog := 24, prefetch := false }]
  else
    [{ bar := 0, minLog := 16, maxLog := 16, prefetch := false }, { bar := 2, minLog := 30, maxLog := 34, prefetch := true },
     { bar := 4, minLog := 16, maxLog := 16, prefetch := false }]

/-- The size of BAR2 is one that the function's BAR may take (R509). -/
def bar2Fits (f : Nat) (g : BitVec 3) : Bool :=
  (barsOf f).any (fun b => decide (b.bar = 2 ∧ b.minLog ≤ 30 + g.toNat ∧ 30 + g.toNat ≤ b.maxLog))

/-- PCIE_CONFIG_WRITE (R518, R509, R500): Bus Master Enable, with which what waited is written; the size of BAR2; VF Enable in the
PF, whose clearing resets the VFs; the MSI-X enable and masks; the AER status, whose bits clear when written with 1 (log 24,
PRESUMED PCI Express). -/
def effPcieConfigWrite (fn : Fin 6) (w : ConfigWrite) (s : State) : State :=
  if fn = 5 then s
  else
    match w with
    | .busMaster on => (s.modFn fn.val (fun x => { x with bme := on })).flushFn fn.val
    | .bar2Size g => if bar2Fits fn.val g then s.modFn fn.val (fun x => { x with b2Log := g }) else s
    | .msixEnable on => s.modFn fn.val (fun x => { x with msixOn := on })
    | .msixMask on => s.modFn fn.val (fun x => { x with msixMask := on })
    | .msixVector n on =>
      let bit := BitVec.ofNat 64 (2 ^ n.toNat)
      s.modFn fn.val (fun x => { x with msixMasked := if on then x.msixMasked ||| bit else x.msixMasked &&& ~~~bit })
    | .aerClear val => s.modFn fn.val (fun x => { x with aer := x.aer &&& ~~~val })
    | .vfEnable on =>
      if fn ≠ 0 then s
      else
        let s1 : State := { s with host := { s.host with vfOn := on } }
        if on then s1 else [1, 2, 3, 4].foldl State.resetFn s1
/-- PCIE_CONFIG_WRITE. -/
def execPcieConfigWrite (fn : Fin 6) (w : ConfigWrite) (s : State) : Host.Outcome State Fault Refusal :=
  .next (effPcieConfigWrite fn w s)

/-- The widths of the host link (R500, R574). -/
def linkWidths : List Nat := [1, 2, 4, 8]

/-- A state of the host link that R500 and R574 allow: down, or a rate, a width, and a width under L0p, which is narrower in flit
mode only. -/
def linkLegal (l : HostLink) : Bool :=
  decide (l = { speed := 0, width := 0, l0p := 0, flit := false }) ||
    (decide (1 ≤ l.speed.toNat ∧ l.speed.toNat ≤ 7) && linkWidths.contains l.width.toNat && linkWidths.contains l.l0p.toNat &&
      decide (l.l0p.toNat ≤ l.width.toNat) && (l.flit || decide (l.l0p = l.width)))

/-- The bit of the AER uncorrectable error status that an IDE check failure sets (log 24). -/
def aerIdeFailed : Word := 0x10000000

/-- An IDE stream fails its integrity check (R520): the stream is no longer secure and AER reports it; no event is posted. -/
def State.ideFails (s : State) (x : IdeStream) : State :=
  match x with
  | .link =>
    ({ s with host := { s.host with linkKey := none } } : State).modFn 0 (fun y => { y with aer := y.aer ||| aerIdeFailed })
  | .selective v =>
    if v.toNat < 4 then s.modFn (v.toNat + 1) (fun y => { y with ideKey := none, aer := y.aer ||| aerIdeFailed }) else s

/-- PCIE_LINK_STATE_CHANGE (R500, R520, R574): the link state that HI_LINK reports; a link that is down carries no secure
stream. -/
def effPcieLinkStateChange (st : HostLink) (ideFail : List IdeStream) (s : State) : State :=
  let t := ideFail.foldl State.ideFails s
  if !linkLegal st then t
  else
    let u : State := { t with host := { t.host with link := st } }
    if st.speed = 0 then u.dropIde else u
/-- PCIE_LINK_STATE_CHANGE. -/
def execPcieLinkStateChange (st : HostLink) (s : State) (ideFail : List IdeStream := []) : Host.Outcome State Fault Refusal :=
  .next (effPcieLinkStateChange st ideFail s)

end Sys2Proof.Machine
end

