-- ==== Sys2Proof/Machine/MeterCmds.lean ====
section
/-!
DEFINITION. The power-entry stage and the sealed energy meter (15 R847 to R876).
-/
namespace Sys2Proof.Machine

/-! ### Readings (R860 to R864) -/

/-- Key number of the meter. -/
def meterKey : Nat := 6

/-- Meter time (R858): it counts while the meter is powered. -/
def State.meterSeconds (s : State) : Nat := s.module_.meter.since + s.time / 1000000000

/-- METER_SECONDS of a reading: a periodic one is latched at its multiple of 900 s (R861, R862). -/
def State.readingSeconds (s : State) (kind : Nat) : Nat :=
  if kind = 1 then s.meterSeconds / 900 * 900 else s.meterSeconds

/-- The 128 bytes of a reading (R860). -/
def State.readingBytes (s : State) (kind cause tail : Nat) (energy interval : DWord) : List Byte :=
  let m := s.module_.meter
  let front := Sys2Proof.Machine.block 64 [(0, 4, 0x4D454B53), (4, 2, 1), (6, 1, kind), (7, 1, m.flags), (8, 4, m.seq), (12, 4, m.fw.toNat),
    (16, 8, s.readingSeconds kind), (24, 8, energy.toNat), (32, 2, s.module_.entry.mv / 10), (34, 2, s.module_.entry.ma),
    (40, 8, interval.toNat), (48, 1, cause), (56, 8, tail)]
  front ++ signed meterKey front

/-- The start energy of an open stamp. -/
def Meter.stampOf (m : Meter) (job : DWord) : Option DWord := (m.stamps.find? (fun e => e.1 == job)).map (fun e => e.2)

/-- INTERVAL_MWH of a reading (R860). -/
def Meter.interval (m : Meter) (kind : Nat) (job energy : DWord) : DWord :=
  if kind = 1 then energy - m.periodic
  else if kind = 4 then energy - (m.stampOf job).getD energy
  else 0

/-- The EM_ block is refreshed from the meter (R875). -/
def State.refreshEm (s : State) : State :=
  if s.quill.running ∧ s.module_.meter.answering then
    let m := s.module_.meter
    s.modEm (fun e =>
      { e with present := true, intact := m.intact, fault := m.fault, outRange := m.outRange, entryCause := m.entryCause
               openStamps := m.stamps.length, energy := m.energy, mv := s.module_.entry.mv, ma := s.module_.entry.ma
               seq := BitVec.ofNat 32 (m.seq - 1), fw := m.fw, seconds := BitVec.ofNat 64 s.meterSeconds })
  else s

/-- The meter takes a reading: the energy since the last is a free value (log 7); it is logged in slot SEQ mod 4,096; the first
slot written again is a wrap, which event 0x0080 KIND 7 reports (R862 to R864, R873). `tail` is the JOB_ID or DEVICE_TIME. -/
def State.takeReading (s : State) (kind cause : Nat) (tail : DWord) : State :=
  let m := s.module_.meter
  let energy := m.energy + s.freeNext
  let bytes := s.readingBytes kind cause tail.toNat energy (m.interval kind tail energy)
  let wraps := decide (4096 ≤ m.seq) && !m.wrapped
  let s1 := s.draw.modMeter (fun x =>
    { x with energy := energy, seq := x.seq + 1, log := x.log.set (x.seq % 4096) bytes, wrapped := x.wrapped || wraps
             periodic := if kind = 1 then energy else x.periodic, strayed := if kind = 1 then x.outRange else x.strayed
             stamps := if kind = 3 then x.stamps ++ [(tail, energy)]
               else if kind = 4 then x.stamps.filter (fun e => e.1 != tail)
               else x.stamps
             entryCause := if kind = 6 then cause else x.entryCause, entryOffNew := x.entryOffNew || decide (kind = 6) })
  (if wraps ∧ s1.quill.running then s1.postMeter 7 else s1).refreshEm

/-- Post event 0x0080 where the Quill runs. -/
def State.tellMeter (s : State) (kind : Nat) : State := if s.quill.running then s.postMeter kind else s

/-! ### The power-entry stage (R847 to R850, R865) -/

/-- Whether the meter is powered: the input is between 40 and 66 V (R856). -/
def State.meterPowered (s : State) : Bool := decide (40000 ≤ s.module_.entry.mv ∧ s.module_.entry.mv ≤ 66000)

/-- The number of the power-good pin. -/
def powerGood : Nat := 1

/-- The input takes a value. -/
def State.setInput (s : State) (mv : Nat) : State := s.modEntry (fun e => { e with mv := mv })

/-- The meter marks the input out of range (R847, R873). -/
def State.inputOut (s : State) (mv : Nat) : State :=
  let was := s.module_.meter.outRange
  let s1 := (s.setInput mv).modMeter (fun m => { m with outRange := true, strayed := true })
  if was then s1 else s1.tellMeter 2

/-- Output off (R849, R865): the meter logs a KIND 6 reading; every domain loses its power. -/
def State.outputOff (s : State) (cause : Nat) : State :=
  let s1 := s.takeReading 6 cause 0
  let t := (s1.modMeter (fun m => { m with since := s1.meterSeconds })).powerless
  (t.modEntry (fun e => { e with on := false, peak := false })).emit (.pin powerGood false)

/-- INPUT_RISE (R847, R850, R865): at or above 50 V for 10 ms while the stage is off; after an overvoltage, once at or below
62 V. Power-good is asserted, device time starts at 0 (R779), start-up begins at step 1. -/
def effInputRise (mv : BitVec 17) (s : State) : State :=
  let e := s.module_.entry
  if !e.on && !e.latched && decide (50000 ≤ mv.toNat) && (!e.excess || decide (mv.toNat ≤ 62000)) then
    let since := if s.meterPowered then s.meterSeconds else s.module_.meter.since
    let inRange := decide (mv.toNat ≤ 62000)
    let s1 := (s.powerless.modEntry (fun e => { e with on := true, excess := false, mv := mv.toNat })).modMeter (fun m =>
      { m with since := since, outRange := !inRange, strayed := m.strayed || !inRange })
    (s1.takeReading 5 0 0).emit (.pin powerGood true)
  else s
/-- INPUT_RISE. -/
def execInputRise (mv : BitVec 17) (s : State) : Host.Outcome State Fault Refusal := .next (effInputRise mv s)

/-- INPUT_LOW_WARN (R847): below 50 V but at or above 47 V: the device keeps running. -/
def effInputLowWarn (mv : BitVec 17) (s : State) : State :=
  if 47000 ≤ mv.toNat ∧ mv.toNat < 50000 then s.inputOut mv.toNat else s
/-- INPUT_LOW_WARN. -/
def execInputLowWarn (mv : BitVec 17) (s : State) : Host.Outcome State Fault Refusal := .next (effInputLowWarn mv s)

/-- INPUT_UNDERVOLTAGE_OFF (R847, R865): below 47 V for 100 µs; below 40 V the meter logs that too. -/
def effInputUndervoltageOff (mv : BitVec 17) (s : State) : State :=
  if s.module_.entry.on ∧ mv.toNat < 47000 then
    let s1 := (s.inputOut mv.toNat).outputOff 1
    if mv.toNat < 40000 then s1.takeReading 6 4 0 else s1
  else s
/-- INPUT_UNDERVOLTAGE_OFF. -/
def execInputUndervoltageOff (mv : BitVec 17) (s : State) : Host.Outcome State Fault Refusal :=
  .next (effInputUndervoltageOff mv s)

/-- INPUT_OVERVOLTAGE_OFF (R847): above 63 V for 100 µs. -/
def effInputOvervoltageOff (mv : BitVec 17) (s : State) : State :=
  if s.module_.entry.on ∧ 63000 < mv.toNat then
    ((s.inputOut mv.toNat).modEntry (fun e => { e with excess := true })).outputOff 2
  else s
/-- INPUT_OVERVOLTAGE_OFF. -/
def execInputOvervoltageOff (mv : BitVec 17) (s : State) : Host.Outcome State Fault Refusal :=
  .next (effInputOvervoltageOff mv s)

/-- OVERCURRENT_LATCH (R847): above 36 A for 5 µs, or above 30 A for 20 ms: off and latched. -/
def effOvercurrentLatch (ma : BitVec 17) (s : State) : State :=
  if s.module_.entry.on ∧ 30000 < ma.toNat then (s.modEntry (fun e => { e with latched := true, ma := ma.toNat })).outputOff 3 else s
/-- OVERCURRENT_LATCH. -/
def execOvercurrentLatch (ma : BitVec 17) (s : State) : Host.Outcome State Fault Refusal := .next (effOvercurrentLatch ma s)

/-- LATCH_CLEAR (R847, R865): the input has been below 20 V for 1 s. An input that falls below 40 V while the stage is off is
logged. -/
def effLatchClear (mv : BitVec 17) (s : State) : State :=
  if mv.toNat < 20000 ∧ !s.module_.entry.on then
    let s1 := if s.meterPowered then (s.takeReading 6 4 0).modMeter (fun m => { m with since := s.meterSeconds }) else s
    s1.modEntry (fun e => { e with latched := false, mv := mv.toNat })
  else s
/-- LATCH_CLEAR. -/
def execLatchClear (mv : BitVec 17) (s : State) : Host.Outcome State Fault Refusal := .next (effLatchClear mv s)

/-- The regions whose generators run stretch some cycles, each counted (R777, R848). -/
def State.stretchAll (s : State) (cycles : Nat) : State :=
  ((List.range 8).filter (fun r => (s.region r).running)).foldl (fun t r =>
    t.modRegion r (fun x => { x with stretch := satAdd x.stretch cycles })) s

/-- PEAK_LIMIT (R847, R848, R852): the averages over 100 µs: above 30 A or 1,500 W every region stretches every cycle, until
below 28 A and 1,450 W. `cycles` were stretched in it. -/
def effPeakLimit (ma watts cycles : Half) (s : State) : State :=
  if s.module_.entry.on then
    let peak := decide (30000 < ma.toNat ∨ 1500 < watts.toNat) ||
      (s.module_.entry.peak && !decide (ma.toNat < 28000 ∧ watts.toNat < 1450))
    let s1 := s.modEntry (fun e => { e with peak := peak, ma := ma.toNat })
    if peak then s1.stretchAll cycles.toNat else s1
  else s
/-- PEAK_LIMIT. -/
def execPeakLimit (ma : BitVec 16) (watts : Half) (cycles : Half) (s : State) : Host.Outcome State Fault Refusal :=
  .next (effPeakLimit ma watts cycles s)

/-- INPUT_RETURN_TO_RANGE (R873): to 50 to 62 V. -/
def effInputReturnToRange (mv : BitVec 17) (s : State) : State :=
  if 50000 ≤ mv.toNat ∧ mv.toNat ≤ 62000 ∧ s.module_.meter.outRange then
    ((s.setInput mv.toNat).modMeter (fun m => { m with outRange := false })).tellMeter 3
  else s
/-- INPUT_RETURN_TO_RANGE. -/
def execInputReturnToRange (mv : BitVec 17) (s : State) : Host.Outcome State Fault Refusal := .next (effInputReturnToRange mv s)

/-- INPUT_ABOVE_RANGE (R873): above 62 V, at most 63 V. -/
def effInputAboveRange (mv : BitVec 17) (s : State) : State :=
  if 62000 < mv.toNat ∧ mv.toNat ≤ 63000 then s.inputOut mv.toNat else s
/-- INPUT_ABOVE_RANGE. -/
def execInputAboveRange (mv : BitVec 17) (s : State) : Host.Outcome State Fault Refusal := .next (effInputAboveRange mv s)

/-! ### The meter of itself (R861, R869 to R873, R875) -/

/-- METER_PERIODIC_READING (R861): the averages over the last second; event KIND 1. -/
def effMeterPeriodicReading (mv : BitVec 17) (ma : BitVec 16) (s : State) : State :=
  if 40000 ≤ mv.toNat ∧ mv.toNat ≤ 66000 then
    ((s.modEntry (fun e => { e with mv := mv.toNat, ma := ma.toNat })).takeReading 1 0 0).tellMeter 1
  else s
/-- METER_PERIODIC_READING. -/
def execMeterPeriodicReading (mv : BitVec 17) (ma : BitVec 16) (s : State) : Host.Outcome State Fault Refusal :=
  .next (effMeterPeriodicReading mv ma s)

/-- METER_SEAL_OPEN (R869). -/
def effMeterSealOpen (s : State) : State := ((s.modMeter (fun m => { m with intact := false })).takeReading 8 0 0).tellMeter 4
/-- METER_SEAL_OPEN. -/
def execMeterSealOpen (s : State) : Host.Outcome State Fault Refusal := .next (effMeterSealOpen s)

/-- METER_RESEAL (R869): a re-seal command whose signature verifies. -/
def effMeterReseal (ok : Bool) (s : State) : State :=
  if ok ∧ !s.module_.meter.intact then ((s.modMeter (fun m => { m with intact := true })).takeReading 7 0 0).tellMeter 4 else s
/-- METER_RESEAL. -/
def execMeterReseal (ok : Bool) (s : State) : Host.Outcome State Fault Refusal := .next (effMeterReseal ok s)

/-- METER_FW_UPDATE (R870): only while the seal is open; a package that fails its check changes nothing. -/
def effMeterFwUpdate (version : Word) (ok : Bool) (s : State) : State :=
  if ok ∧ !s.module_.meter.intact then ((s.modMeter (fun m => { m with fw := version })).takeReading 9 0 0).tellMeter 4 else s
/-- METER_FW_UPDATE. -/
def execMeterFwUpdate (version : Word) (ok : Bool) (s : State) : Host.Outcome State Fault Refusal :=
  .next (effMeterFwUpdate version ok s)

/-- METER_SELF_FAULT (R872). -/
def effMeterSelfFault (s : State) : State := ((s.modMeter (fun m => { m with fault := true })).takeReading 10 0 0).tellMeter 4
/-- METER_SELF_FAULT. -/
def execMeterSelfFault (s : State) : Host.Outcome State Fault Refusal := .next (effMeterSelfFault s)

/-- METER_NO_ANSWER (R873, R875). -/
def effMeterNoAnswer (s : State) : State :=
  if s.module_.meter.answering then
    ((s.modMeter (fun m => { m with answering := false })).modEm (fun e => { e with present := false })).tellMeter 5
  else s
/-- METER_NO_ANSWER. -/
def execMeterNoAnswer (s : State) : Host.Outcome State Fault Refusal := .next (effMeterNoAnswer s)

/-- EM_REFRESH (R873, R875): the meter answers the Quill, again where it had not. -/
def effEmRefresh (s : State) : State :=
  if s.quill.running then
    let was := s.module_.meter.answering
    let s1 := (s.modMeter (fun m => { m with answering := true })).refreshEm
    if was then s1 else s1.postMeter 6
  else s
/-- EM_REFRESH. -/
def execEmRefresh (s : State) : Host.Outcome State Fault Refusal := .next (effEmRefresh s)

/-! ### METER_READ, METER_STAMP (R866 to R868) -/

/-- EM_STATUS bits [31:24] (R875). -/
def State.meterState (s : State) : Nat :=
  let m := s.module_.meter
  (if m.answering then 128 else 0) + (if m.intact then 64 else 0) + (if m.fault then 32 else 0) + (if m.outRange then 16 else 0) +
    m.entryCause % 16

/-- The newest committed readings, newest first, at most n. -/
def Meter.recent (m : Meter) (n : Nat) : List (List Byte) :=
  (List.range (min n (min 4096 m.seq))).map (fun i => m.log.get [] ((m.seq - 1 - i) % 4096))

/-- The reply of METER_READ (R868). -/
def State.meterReply (s : State) : List Byte :=
  let m := s.module_.meter
  let used := min 4096 m.seq
  let l := m.recent 96
  Sys2Proof.Machine.block 32 [(0, 2, 1), (2, 1, l.length), (3, 1, s.meterState), (4, 4, used), (8, 8, m.seq - used)] ++ m.newest ++ l.flatten

/-- METER_READ (R868): a KIND 2 reading, then committed records; TIMEOUT where the meter does not answer. A buffer too small
leaves the meter untouched (R544, R553). -/
def effMeterRead (h : Hdr) (r : Reply) (s : State) : State :=
  s.hostCmd h ((anySpec 0x0801 true true true).on (replyArgs r)) (replyOk h r) (fun s =>
    let n := 160 + 128 * min 96 (s.module_.meter.seq + 1)
    if !s.module_.meter.answering then s.complete h 0x0801 .timeout 0
    else if r.len.toNat < n then s.complete h 0x0801 .badParam n
    else
      let t := s.takeReading 2 0 (BitVec.ofNat 64 s.time)
      t.reply h 0x0801 r t.meterReply)
/-- METER_READ. -/
def execMeterRead (h : Hdr) (r : Reply) (s : State) : Host.Outcome State Fault Refusal := .next (effMeterRead h r s)

/-- What METER_STAMP is refused with (R867). -/
def State.stampRefusal (s : State) (close : Bool) (job : DWord) : Option Status :=
  let m := s.module_.meter
  let opened := (m.stampOf job).isSome
  if (!close && opened) || (close && !opened) then some .wrongState
  else if !close && decide (16 ≤ m.stamps.length) then some .noResource
  else if !m.answering then some .timeout
  else none

/-- METER_STAMP (R866, R867). -/
def State.meterStamp (s : State) (h : Hdr) (r : Reply) (job : DWord) (close : Bool) : State :=
  s.hostCmd h ((anySpec 0x0802 false true true).on (replyArgs r ++ [(32, 8, job.toNat), (40, 1, if close then 1 else 0)])) (replyOk h r && decide (job ≠ 0)) (fun s =>
    match s.stampRefusal close job with
    | some st => s.complete h 0x0802 st 0
    | none =>
      if r.len.toNat < 128 then s.complete h 0x0802 .badParam 128
      else
        let t := s.takeReading (if close then 4 else 3) 0 job
        t.reply h 0x0802 r t.module_.meter.newest)
/-- METER_STAMP_START: EDGE 0. -/
def effMeterStampStart (h : Hdr) (r : Reply) (jobId : DWord) (s : State) : State := s.meterStamp h r jobId false
/-- METER_STAMP_START. -/
def execMeterStampStart (h : Hdr) (r : Reply) (jobId : DWord) (s : State) : Host.Outcome State Fault Refusal :=
  .next (effMeterStampStart h r jobId s)
/-- METER_STAMP_END: EDGE 1. -/
def effMeterStampEnd (h : Hdr) (r : Reply) (jobId : DWord) (s : State) : State := s.meterStamp h r jobId true
/-- METER_STAMP_END. -/
def execMeterStampEnd (h : Hdr) (r : Reply) (jobId : DWord) (s : State) : Host.Outcome State Fault Refusal :=
  .next (effMeterStampEnd h r jobId s)

end Sys2Proof.Machine
end

