-- ==== Sys2Proof/Machine/Contexts.lean ====
section
/-!
DEFINITION. The host commands of contexts (09 R556): scrolls (04 R243, 08 R446), starts and stops (11 R722, R723), checkpoints
and restores (R668, R880), reconfiguration (05 R288), variants (04 R233), watermarks (10 R629).
-/
namespace Sys2Proof.Machine

/-! ### Scrolls -/

/-- LOAD_SCROLL (R243 stage 1, R446, R554): LENGTH 0 unloads; else an extent is taken and the read begins. -/
def effLoadScroll (h : Hdr) (hostAddr len : DWord) (s : State) : State :=
  s.hostCmd h ((ctxSpec 0x0201 true).on [(16, 8, hostAddr.toNat), (24, 8, len.toNat)]) (decide (hostAddr.toNat % 64 = 0)) (fun s =>
    let c := s.hdrCtx h
    if (s.ctx c).lc.life ≠ .off then s.complete h 0x0201 .wrongState 0
    else if len = 0 then (s.unload c).complete h 0x0201 .ok 0
    else
      match s.findExtent (ctxPart c) (units64 len.toNat) none with
      | none => s.complete h 0x0201 .noResource 0
      | some b =>
        (s.addJob h 0x0201 (.loadScroll h hostAddr len) (b * 65536)).emit (.hostRead h.fn.val hostAddr.toNat len.toNat))
/-- LOAD_SCROLL. -/
def execLoadScroll (h : Hdr) (hostAddr len : DWord) (s : State) : Host.Outcome State Fault Refusal :=
  .next (effLoadScroll h hostAddr len s)

/-- Stages 3 and 4 of a load (R243). -/
def State.loadRefusal (s : State) (c : Nat) (sc : Scroll) : Option Status :=
  let p := ctxPart c
  if sc.mode ≠ s.dev.mode.toNat then some .wrongState
  else if sc.target ≠ p then some .badParam
  else if (List.range 4).any (fun i => decide (4 * p + i ≠ c) && (match (s.ctx (4 * p + i)).scroll with
      | some x => decide (x.margin ≠ sc.margin)
      | none => false)) then some .wrongState
  else none

/-- SCROLL_READ_COMPLETE (R243, R446): the scroll is checked; on OK it replaces the previous one, and RESULT holds digest
bytes 0 to 5. A read that fails completes with ABORTED. -/
def effScrollReadComplete (job : Nat) (bytes : Option (List Byte)) (s : State) : State :=
  match s.job job with
  | some j =>
    match j.cmd with
    | .loadScroll h _ len =>
      let c := s.hdrCtx h
      match bytes with
      | none => s.finish job .aborted 0
      | some b =>
        if (s.ctx c).lc.life ≠ .off then s.finish job .wrongState 0
        else
          match parseScroll b len.toNat s.dev.gradeL with
          | none => s.finish job .badParam 0
          | some sc =>
            match s.loadRefusal c sc with
            | some st => s.finish job st 0
            | none =>
              let s1 := (s.unload c).modCtx c (fun x => { x with scroll := some { sc with base := j.value } })
              ((s1.refreshMargin (ctxPart c)).write j.value b false).finish job .ok (sc.digest.toNat % 2 ^ 48)
    | _ => s
  | none => s
/-- SCROLL_READ_COMPLETE. -/
def execScrollReadComplete (job : Nat) (bytes : Option (List Byte)) (s : State) : Host.Outcome State Fault Refusal :=
  .next (effScrollReadComplete job bytes s)

/-! ### Starts and stops -/

/-- Cancel a held disable, which completes with ABORTED (R723). -/
def State.cancelHeld (s : State) (c : Nat) : State :=
  match (s.ctx c).lc.held with
  | some (.disable j) => (s.finish j .aborted 0).modLife c (fun l => { l with held := none })
  | some (.enable j) => (s.finish j .aborted 0).modLife c (fun l => { l with held := none })
  | none => s

/-- Whether an enable, or a disable, is held on a context. -/
def CtxLife.holdsEnable (l : CtxLife) : Bool := match l.held with | some (.enable _) => true | _ => false
/-- Whether a disable is held on a context. -/
def CtxLife.holdsDisable (l : CtxLife) : Bool := match l.held with | some (.disable _) => true | _ => false

/-- Whether a firmware commit is in progress (R832). -/
def State.committing (s : State) : Bool := s.module_.ident.committing.isSome

/-- START_CONTEXT as an enable (R723). -/
def State.enableContext (s : State) (h : Hdr) (cmd : Instr) : State :=
  let c := s.hdrCtx h
  let l := (s.ctx c).lc
  if s.committing then s.complete h 0x0202 .busy 0
  else if l.holdsEnable then s.complete h 0x0202 .busy 0
  else
    let s1 := s.cancelHeld c
    let id := s1.host.nextJob
    match l.life with
    | .on => s1.complete h 0x0202 .ok (s1.startResult c)
    | .starting => (s1.addJob h 0x0202 cmd 0).modLife c (fun x => { x with starts := x.starts ++ [id] })
    | .stopping => (s1.deferJob h 0x0202 cmd 0).modLife c (fun x => { x with held := some (.enable id) })
    | .off => ((s1.addJob h 0x0202 cmd 0).startJob id).refreshPw (ctxPart c)

/-- START_CONTEXT (R556, R723, R832). -/
def effStartContext (h : Hdr) (watermark : BitVec 256) (clock from_ : Byte) (bulkSize hostBase hostLimit : Word)
    (lines : List LineFind) (s : State) : State :=
  s.hostCmd h ((ctxSpec 0x0202 true).on [(16, 32, watermark.toNat), (48, 1, clock.toNat), (49, 1, from_.toNat),
    (52, 4, bulkSize.toNat), (56, 4, hostBase.toNat), (60, 4, hostLimit.toNat)])
    (decide (clock.toNat ≤ 12 ∧ from_.toNat ≤ 1 ∧ hostBase.toNat < 2 ^ 24 ∧ hostBase.toNat + hostLimit.toNat ≤ 2 ^ 24))
    (fun s => s.startReading (s.hdrCtx h) (s.startReads (s.hdrCtx h) (decide (from_ = 1))) lines (fun s =>
      s.enableContext h (.startContext h watermark clock from_ bulkSize hostBase hostLimit)))
/-- START_CONTEXT. -/
def execStartContext (h : Hdr) (watermark : BitVec 256) (clock from_ : Byte) (bulkSize hostBase hostLimit : Word) (s : State)
    (lines : List LineFind := []) : Host.Outcome State Fault Refusal :=
  .next (effStartContext h watermark clock from_ bulkSize hostBase hostLimit lines s)

/-- Another frozen context of a partition (R755). -/
def State.frozenIn (s : State) (p : Nat) : Option Nat := (s.liveContexts p).find? (fun c => (s.ctx c).run.frozen)

/-- A frozen context stops at once (R759): its partition goes on from the edge, unless another context is frozen. -/
def State.stopFrozen (s : State) (c : Nat) : State :=
  let p := ctxPart c
  let s1 := s.stopContext c
  match s1.frozenIn p with
  | some d => s1.modPart p (fun x => { x with ckptPause := some d })
  | none => s1.edgeTail p

/-- STOP_CONTEXT as a disable (R723): `quiet` for FORM 1. -/
def State.disableContext (s : State) (h : Hdr) (cmd : Instr) (quiet : Bool) : State :=
  let c := s.hdrCtx h
  let l := (s.ctx c).lc
  let id := s.host.nextJob
  let append := fun (t : State) => t.modLife c (fun x => { x with stopEdge := x.stopEdge ++ [id] })
  if l.holdsDisable then s.complete h 0x0203 .busy 0
  else
    match l.life with
    | .off => s.complete h 0x0203 .ok 0
    | .starting => (s.deferJob h 0x0203 cmd 0).modLife c (fun x => { x with held := some (.disable id) })
    | .stopping => append ((s.addJob h 0x0203 cmd 0).cancelHeld c)
    | .on =>
      if quiet then
        if (s.ctx c).run.frozen then s.complete h 0x0203 .wrongState 0
        else if l.stopQuiet.isSome then s.complete h 0x0203 .busy 0
        else (s.addJob h 0x0203 cmd 0).modLife c (fun x => { x with stopQuiet := some id })
      else
        let s1 := append (s.addJob h 0x0203 cmd 0)
        if (s.ctx c).run.frozen then s1.stopFrozen c else s1.modLife c (fun x => { x with life := .stopping })

/-- STOP_CONTEXT_AT_EDGE (R556, R723, R759). -/
def effStopContextAtEdge (h : Hdr) (s : State) : State :=
  s.hostCmd h ((ctxSpec 0x0203 false).on [(16, 1, 0)]) true (fun s => s.disableContext h (.stopContextAtEdge h) false)
/-- STOP_CONTEXT_AT_EDGE. -/
def execStopContextAtEdge (h : Hdr) (s : State) : Host.Outcome State Fault Refusal := .next (effStopContextAtEdge h s)

/-- STOP_CONTEXT_AT_QUIET (R556, R668, R723, R759). -/
def effStopContextAtQuiet (h : Hdr) (s : State) : State :=
  s.hostCmd h ((ctxSpec 0x0203 false).on [(16, 1, 1)]) true (fun s => s.disableContext h (.stopContextAtQuiet h) true)
/-- STOP_CONTEXT_AT_QUIET. -/
def execStopContextAtQuiet (h : Hdr) (s : State) : Host.Outcome State Fault Refusal := .next (effStopContextAtQuiet h s)

/-! ### Checkpoints and restores -/

/-- Whether a CHECKPOINT of context c is in progress (R668). -/
def State.checkpointing (s : State) (c : Nat) : Bool :=
  s.host.jobs.any (fun e => match e.2.cmd with
    | .checkpoint h _ _ _ _ _ _ => decide (s.hdrCtx h = c)
    | _ => false)

/-- CHECKPOINT (R668, R554, R556, R670): it waits for a quiet point. -/
def effCheckpoint (h : Hdr) (mirror sm4 : Byte) (peerDevice : Half) (peerWindow : Byte) (hostAddr hostLen : DWord) (s : State) :
    State :=
  s.hostCmd h ((ctxSpec 0x0204 true).on [(16, 1, mirror.toNat), (17, 1, sm4.toNat), (18, 2, peerDevice.toNat),
    (20, 1, peerWindow.toNat), (24, 8, hostAddr.toNat), (32, 8, hostLen.toNat)])
    (decide (mirror.toNat ≤ 2 ∧ sm4.toNat ≤ 1 ∧ peerWindow.toNat ≤ 63) &&
      (decide (mirror ≠ 2) || decide (peerDevice.toNat < 4096)) && (decide (mirror ≠ 1) || decide (hostAddr.toNat % 65536 = 0)))
    (fun s =>
      let c := s.hdrCtx h
      match (s.ctx c).scroll with
      | none => s.complete h 0x0204 .wrongState 0
      | some sc =>
        if (s.ctx c).lc.life ≠ .on ∨ (s.quietPoints c).isEmpty then s.complete h 0x0204 .wrongState 0
        else if s.checkpointing c then s.complete h 0x0204 .busy 0
        else if mirror = 1 ∧ hostLen.toNat < sc.parts * mirrorPart then s.complete h 0x0204 .badParam 0
        else
          let k : CkptCmd :=
            { job := s.host.nextJob, mirror := mirror.toNat, sm4 := decide (sm4 = 1), peerDevice := peerDevice
              peerWindow := peerWindow.toNat, hostAddr := hostAddr, hostLen := hostLen }
          (s.deferJob h 0x0204 (.checkpoint h mirror sm4 peerDevice peerWindow hostAddr hostLen) 0).modLife c (fun l =>
            { l with ckpt := some k }))
/-- CHECKPOINT. -/
def execCheckpoint (h : Hdr) (mirror sm4 : Byte) (peerDevice : Half) (peerWindow : Byte) (hostAddr hostLen : DWord)
    (s : State) : Host.Outcome State Fault Refusal :=
  .next (effCheckpoint h mirror sm4 peerDevice peerWindow hostAddr hostLen s)

/-- RESTORE from the checkpoint areas (R880): the image is named. -/
def State.nameImage (s : State) (h : Hdr) (c : Nat) (sc : Scroll) (sequence : DWord) : State :=
  let seq := if sequence = 0 then s.newestImage c else some sequence.toNat
  match seq.bind (fun q => (s.imageFor c q sc.digest).map (fun _ => q)) with
  | some q => (s.modLife c (fun l => { l with named := some (BitVec.ofNat 64 q) })).complete h 0x0205 .ok (q % 2 ^ 48)
  | none => s.complete h 0x0205 .wrongState 0

/-- RESTORE (R880, R554). -/
def effRestore (h : Hdr) (source_ : Byte) (hostAddr sequence : DWord) (s : State) : State :=
  s.hostCmd h ((ctxSpec 0x0205 true).on [(16, 1, source_.toNat), (24, 8, hostAddr.toNat), (32, 8, sequence.toNat)])
    (decide (source_.toNat ≤ 1) && (decide (source_ = 0) || decide (hostAddr.toNat % 65536 = 0)))
    (fun s =>
      let c := s.hdrCtx h
      match (s.ctx c).scroll with
      | none => s.complete h 0x0205 .wrongState 0
      | some sc =>
        if (s.ctx c).lc.life ≠ .off ∨ (s.ctx c).lc.restartDue then s.complete h 0x0205 .wrongState 0
        else if source_ = 0 then s.nameImage h c sc sequence
        else
          ((s.addJob h 0x0205 (.restore h source_ hostAddr sequence) 0).emit
            (.hostRead h.fn.val hostAddr.toNat (sc.parts * mirrorPart))))
/-- RESTORE. -/
def execRestore (h : Hdr) (source_ : Byte) (hostAddr sequence : DWord) (s : State) : Host.Outcome State Fault Refusal :=
  .next (effRestore h source_ hostAddr sequence s)

/-- Part i of a host mirror, and whether it is encrypted (R670, R841). -/
def mirrorPartOf (b : List Byte) (i : Nat) : List Byte := (b.drop (i * mirrorPart)).take mirrorPart
/-- Whether the MAC of an encrypted part verifies (R842). -/
def macOk (b : List Byte) : Bool :=
  decide (fld b 96 1 ≠ 1) || decide (fld b 64 32 = (Config.hmac mirrorMac (b.drop 4096)).toNat)
/-- A mirrored part in clear, its header as R471 lays it out. -/
def openedPart (b : List Byte) : List Byte :=
  if fld b 96 1 = 1 then
    (b.take 64 ++ List.replicate 33 (0 : Byte) ++ (b.drop 97).take (4096 - 97)) ++
      (List.range (b.length / 4096 - 1)).flatMap (fun i =>
        Config.sm4Open (mirrorKey (i + 1)) ((b.drop (4096 * (i + 1))).take 4096))
  else b

/-- Why the parts of a host mirror are not taken (R880): a MAC, another SCROLL, or an inconsistency. -/
def mirrorRefusal (parts : List (List Byte)) (c : Nat) (sc : Scroll) (sequence : DWord) : Option Status :=
  let seq := fld (parts.getD 0 []) 8 8
  if parts.any (fun b => !macOk b) then some .authFail
  else if parts.any (fun b => decide (b.length = mirrorPart) && decide (fld b 32 32 ≠ sc.digest.toNat)) then some .wrongState
  else if parts.zipIdx.any (fun e =>
      let b := e.1
      decide (b.length ≠ mirrorPart ∨ fld b 0 4 ≠ 0x50434B53 ∨ fld b 4 1 ≠ ctxNo c ∨ fld b 5 1 ≠ e.2 ∨ fld b 6 1 ≠ sc.parts ∨
        fld b 8 8 ≠ seq)) then some .badParam
  else if sequence ≠ 0 ∧ sequence.toNat ≠ seq then some .badParam
  else none

/-- A mirrored part is written into an image slot with its blots, uncommitted (R880). -/
def Store.writePart (m : Store) (a : Nat) (b : List Byte) : Store :=
  let m1 := ((m.zeroRange a partBytes).write a (b.take partBytes) false).uncommit a
  (b.drop partBytes).zipIdx.foldl (fun (m : Store) e =>
    if e.1 = 0 then m
    else (List.range 8).foldl (fun (m : Store) j =>
      if e.1.getLsbD j then { m with blots := Units.add m.blots (a / 32 + 8 * e.2 + j) } else m) m) m1

/-- RESTORE_MIRROR_COPY_DONE (R880, R842): the mirror is checked, written into free image slots, committed and named. -/
def effRestoreMirrorCopyDone (job : Nat) (image : Option (List Byte)) (s : State) : State :=
  match s.job job with
  | some j =>
    match j.cmd with
    | .restore h _ _ sequence =>
      let c := s.hdrCtx h
      match (s.ctx c).scroll with
      | none => s.finish job .wrongState 0
      | some sc =>
        let slots := (s.newSlots c sc).getD []
        let spoil := fun (t : State) => { t with store := slots.foldl (fun (m : Store) a => m.uncommit a) t.store }
        if (s.ctx c).lc.life ≠ .off ∨ (s.ctx c).lc.restartDue then s.finish job .wrongState 0
        else if (s.newSlots c sc).isNone then s.finish job .noResource 0
        else
          match image with
          | none => (spoil s).finish job .aborted 0
          | some b =>
            let parts := (List.range sc.parts).map (mirrorPartOf b)
            match mirrorRefusal parts c sc sequence with
            | some .authFail => s.finish job .authFail 0
            | some st => (spoil s).finish job st 0
            | none =>
              let seq := fld (parts.getD 0 []) 8 8
              let m1 := (slots.zip parts).foldl (fun (m : Store) e => m.writePart e.1 (openedPart e.2)) s.store
              let m2 := slots.foldl (fun (m : Store) a => m.write (a + 4092) (toLe commitWord 4) false) m1
              (({ s with store := m2 } : State).modLife c (fun l => { l with named := some (BitVec.ofNat 64 seq) })).finish job
                .ok (seq % 2 ^ 48)
    | _ => s
  | none => s
/-- RESTORE_MIRROR_COPY_DONE. -/
def execRestoreMirrorCopyDone (job : Nat) (image : Option (List Byte)) (s : State) : Host.Outcome State Fault Refusal :=
  .next (effRestoreMirrorCopyDone job image s)

/-! ### Reconfiguration and variants -/

/-- Whether a layout supplies ruling r at each of its routers and CONFIG_ID i for each of its cores (R288). -/
def reconfKnown (sc : Scroll) (l r i : Nat) : Bool :=
  (routersOf sc.sections l).all (fun k => (rulingSec sc.sections l k r).isSome) &&
    (rolesOf sc.sections l).all (fun e => (configOf sc.sections l e.1 e.2 i).isSome)

/-- RECONFIGURE in either form (R288). -/
def State.reconfigure (s : State) (h : Hdr) (cmd : Instr) (discard : Bool) (ruling configId : Byte) (stroke : DWord) : State :=
  let c := s.hdrCtx h
  let p := ctxPart c
  match (s.ctx c).scroll with
  | none => s.complete h 0x0206 .wrongState 0
  | some sc =>
    if (s.ctx c).lc.life ≠ .on ∨ (s.liveContexts p).length ≠ 1 then s.complete h 0x0206 .wrongState 0
    else if (s.part p).epoch.reconf.isSome || (s.ctx c).lc.work.isSome then s.complete h 0x0206 .busy 0
    else if !reconfKnown sc (s.ctx c).run.layout ruling.toNat configId.toNat then s.complete h 0x0206 .badParam 0
    else if stroke ≠ 0 ∧ stroke.toNat < (s.ctxStroke c).toNat + 2 then s.complete h 0x0206 .wrongState 0
    else
      let r : Reconf :=
        { discard := discard, context := c, ruling := ruling.toNat, configId := BitVec.ofNat 4 configId.toNat, stroke := stroke
          evaluated := 0, job := s.host.nextJob }
      (s.addJob h 0x0206 cmd 0).modEpoch p (fun e => { e with reconf := some r })

/-- RULING and CONFIG_ID in range (R556). -/
def reconfOk (ruling configId : Byte) : Bool := decide (ruling.toNat ≤ 3 ∧ configId.toNat ≤ 15)

/-- RECONFIGURE_DRAIN (R288, R290). -/
def effReconfigureDrain (h : Hdr) (ruling configId : Byte) (stroke : DWord) (s : State) : State :=
  s.hostCmd h ((ctxSpec 0x0206 true).on [(16, 1, 0), (17, 1, ruling.toNat), (18, 1, configId.toNat), (24, 8, stroke.toNat)])
    (reconfOk ruling configId) (fun s =>
    s.reconfigure h (.reconfigureDrain h ruling configId stroke) false ruling configId stroke)
/-- RECONFIGURE_DRAIN. -/
def execReconfigureDrain (h : Hdr) (ruling configId : Byte) (stroke : DWord) (s : State) : Host.Outcome State Fault Refusal :=
  .next (effReconfigureDrain h ruling configId stroke s)

/-- RECONFIGURE_DISCARD (R288, R289). -/
def effReconfigureDiscard (h : Hdr) (ruling configId : Byte) (stroke : DWord) (s : State) : State :=
  s.hostCmd h ((ctxSpec 0x0206 true).on [(16, 1, 1), (17, 1, ruling.toNat), (18, 1, configId.toNat), (24, 8, stroke.toNat)])
    (reconfOk ruling configId) (fun s =>
    s.reconfigure h (.reconfigureDiscard h ruling configId stroke) true ruling configId stroke)
/-- RECONFIGURE_DISCARD. -/
def execReconfigureDiscard (h : Hdr) (ruling configId : Byte) (stroke : DWord) (s : State) : Host.Outcome State Fault Refusal :=
  .next (effReconfigureDiscard h ruling configId stroke s)

/-- SELECT_VARIANT (R232, R233): names a layout for the next start or restart; 0xFF names none. -/
def effSelectVariant (h : Hdr) (index : Byte) (s : State) : State :=
  s.hostCmd h ((ctxSpec 0x0207 true).on [(16, 1, index.toNat)]) (decide (index.toNat ≤ 7 ∨ index = 0xFF)) (fun s =>
    let c := s.hdrCtx h
    if index = 0xFF then (s.modRun c (fun r => { r with variant := none })).complete h 0x0207 .ok 0
    else
      match (s.ctx c).scroll with
      | none => s.complete h 0x0207 .wrongState 0
      | some sc =>
        if s.fitsAt (ctxPart c) sc index.toNat then
          (s.modRun c (fun r => { r with variant := some index.toNat })).complete h 0x0207 .ok 0
        else s.complete h 0x0207 .wrongState 0)
/-- SELECT_VARIANT. -/
def execSelectVariant (h : Hdr) (index : Byte) (s : State) : Host.Outcome State Fault Refusal :=
  .next (effSelectVariant h index s)

/-- GET_WATERMARK (R629, R630, R739): CONTEXT 0xFF for the current one, else the one a start of that context needs. -/
def effGetWatermark (h : Hdr) (r : Reply) (s : State) : State :=
  s.hostCmd h ((anySpec 0x0103 true true false).on (replyArgs r)) (replyOk h r) (fun s =>
    let c := if h.context = 0xFF then none else some (s.hdrCtx h)
    s.reply h 0x0103 r (toLe (s.watermark (s.hdrPart h) c).toNat 32))
/-- GET_WATERMARK. -/
def execGetWatermark (h : Hdr) (r : Reply) (s : State) : Host.Outcome State Fault Refusal := .next (effGetWatermark h r s)

end Sys2Proof.Machine
end

