-- ==== Sys2Proof/Machine/Ports.lean ====
section
/-!
DEFINITION. The ports of the fabric unit (10 R584 to R604, R632, R633, R636, R641, R642): training, link up and link down,
lanes, peers, expectations; PORT_CONTROL and LANE_CLEAR.
-/
namespace Sys2Proof.Machine

/-! ### Events and charges (R641, R642, R715, R718) -/

/-- SOURCE of an event of a port (R642). -/
def State.portSource (s : State) (f lane : Nat) : Nat := source 4 0 0 (s.partNamed (f / 4)) (f * 2 ^ 11 + lane * 2 ^ 8)

/-- Lower the score of a port (R718). -/
def State.chargePort (s : State) (f n : Nat) : State :=
  s.modHealth (fun h =>
    { h with portScore := h.portScore.set f (h.portScore.get 1000 f - n), portDrop := h.portDrop.set f s.time })

/-- The causes that count against the port (R641). -/
def chargedCauses : List Nat := [1, 2, 3, 4, 5, 7, 13]

/-- A link down counts against its port; the eighth within 10 minutes takes the port out of service (R641, R715, R718). -/
def State.chargeDown (s : State) (f cause : Nat) : State :=
  if chargedCauses.contains cause then
    let l := s.inWindow (s.port f).downs 10 ++ [s.time]
    let s1 := (s.modPort f (fun p => { p with downs := l })).chargePort f 50
    if 8 ≤ l.length ∧ s.quill.health.portOut.getLsbD f = false then
      let s2 := (s1.modHealth (fun h => { h with portOut := h.portOut ||| BitVec.ofNat 16 (2 ^ f) })).modPort f (fun p =>
        { p with st := .off })
      s2.serviceChange 2 f 0 2 (s2.quill.health.portScore.get 1000 f) 4
    else s1
  else s

/-! ### Fabric time: the source (R636, R638) -/

/-- Whether a stratum and port are better than others: the lower stratum, then the lower port. -/
def betterSource (a b : Nat × Nat) : Bool := decide (a.1 < b.1 ∨ (a.1 = b.1 ∧ a.2 < b.2))

/-- The source that R636 selects: stratum and port of the best peer. -/
def State.bestSource (s : State) : Option (Nat × Nat) :=
  (List.range 16).foldl (fun best f =>
    let p := s.port f
    match p.block with
    | some b =>
      if p.st = .active ∧ b.stratum ≠ 0xFF then
        match best with
        | some x => if betterSource (b.stratum.toNat, f) x then some (b.stratum.toNat, f) else best
        | none => some (b.stratum.toNat, f)
      else best
    | none => best) none

/-- Select the time source (R636). A source of stratum 0xFE gives 0xFE, since 0xFF says that there is none (DESIGN CHOICE, log
140). A grandmaster has stratum 0 and is always locked (R638); a device without a source holds
its own time with stratum 0xFF. A new source starts unlocked. -/
def State.selectSource (s : State) : State :=
  if s.fabric.cfg.timeRole then s.modFabCfg (fun c => { c with stratum := 0, locked := true })
  else
    match s.bestSource with
    | none => s.modFabCfg (fun c => { c with stratum := 0xFF, locked := false, streak := 0, source := 0, slew := 0 })
    | some (st, f) =>
      s.modFabCfg (fun c =>
        let same := decide (c.stratum ≠ 0xFF ∧ c.source.toNat = f)
        { c with stratum := BitVec.ofNat 8 (min (st + 1) 0xFE), source := BitVec.ofNat 4 f
                 locked := same && c.locked, streak := if same then c.streak else 0 })

/-- The time source is lost where port f was it (R638). -/
def State.sourceLost (s : State) (f : Nat) : State :=
  if s.fabric.cfg.stratum ≠ 0xFF ∧ s.fabric.cfg.source.toNat = f ∧ s.fabric.cfg.timeRole = false then
    (s.modFabCfg (fun c => { c with locked := false, streak := 0, stratum := 0xFF })).selectSource
  else s

/-! ### Watermarks of peers (R632, R633) -/

/-- Three milliseconds in ns. -/
def silenceNs : Nat := 3000000

/-- Whether the expectation of a port is not met: 1 differs, 2 no block within 3 ms, 0 met or none held. -/
def State.mismatchReason (s : State) (f : Nat) (silent : Bool) : Nat :=
  let p := s.port f
  if p.expect = 0 then 0
  else
    match p.block with
    | none => 2
    | some b => if silent || decide (b.time + silenceNs ≤ s.time) then 2 else if b.watermark ≠ p.expect then 1 else 0

/-- MISMATCH of a port follows its expectation; a change posts event 0x0044 (R633). -/
def State.evalMismatch (s : State) (f : Nat) (silent : Bool) : State :=
  let p := s.port f
  let why := s.mismatchReason f silent
  let now := decide (why ≠ 0)
  if now = p.mismatch then s
  else
    let wm := match p.block with
      | some b => b.watermark.toNat
      | none => 0
    (s.modPort f (fun x => { x with mismatch := now })).post 0x0044 1 (s.portSource f 0)
      [(16, 1, f), (17, 1, if now then 1 else 0), (18, 1, why), (20, 2, p.peerDevice.toNat), (24, 8, wm)] none

/-! ### Link down (R595, R596, R757) -/

/-- A port that carries no traffic, in a state and with the cause of it: nothing of its link layer stays. -/
def Port.down (p : Port) (dst : PortSt) (cause : Nat) : Port :=
  { p with st := dst, laneMap := 0, width := 0, stalled := false, lastCause := BitVec.ofNat 8 cause, usable := 0, link := .reset
           fecTimes := [], replayTimes := [], lanes := p.lanes.map (fun e => (e.1, { e.2 with inUse := false })) }

/-- The partner of lock-step is lost (R757): every compared context freezes at its next edge. -/
def State.partnerLost (s : State) : State :=
  (List.range 16).foldl (fun t c =>
    if (t.ctx c).run.compared && !(t.ctx c).run.freezeAtEdge && !(t.ctx c).run.frozen then
      (t.postDivergence c 4 0 (t.lsCtx c).lastCompared).modRun c (fun r => { r with freezeAtEdge := true })
    else t) s

/-- A flit that waited for a credit when its port left ACTIVE is routed again (R606; DESIGN CHOICE, log 139). -/
def State.routeAgain (s : State) (x : FabricFlit) : State :=
  match s.fate x.dst with
  | .self => s
  | .out p d => s.transmit p d x
  | .noRoute => s.dropNoRoute
  | .noPort => s.dropOther

/-- A port leaves ACTIVE or RETRAIN for a state that is neither (R595): event 0x0040 with the flits lost, those of the replay
buffer, which the peer has not acknowledged; the time source and the lock-step partner that it carried are lost. -/
def State.linkDown (s : State) (f cause : Nat) (dst : PortSt) : State :=
  let x := s.port f
  let lost := x.link.replay.length
  let s0 := s.modPort f (fun p => { p.down dst cause with lost := satAdd p.lost lost })
  let s1 := x.link.wait.foldl State.routeAgain s0
  let s2 := s1.post 0x0040 1 (s.portSource f 0)
    [(16, 1, f), (17, 1, cause), (18, 1, x.width), (20, 2, x.peerDevice.toNat), (24, 4, lost)] none
  let s3 := (s2.chargeDown f cause).sourceLost f
  if s.quill.ls.state = 2 ∧ s.quill.ls.port.toNat = f then s3.partnerLost else s3

/-- A port leaves whatever it does for DETECT or OFF (R590, R604, R585). -/
def State.portTo (s : State) (f cause : Nat) (dst : PortSt) : State :=
  match (s.port f).st with
  | .active => s.linkDown f cause dst
  | .retrain => s.linkDown f cause dst
  | _ => s.modPort f (fun p => p.down dst cause)

/-! ### Lanes (R591, R597, R598) -/

/-- Lane l of a port. -/
def Port.lane (p : Port) (l : Nat) : Lane := p.lanes.get Lane.reset l
/-- Update a lane. -/
def State.modLane (s : State) (f l : Nat) (g : Lane → Lane) : State :=
  s.modPort f (fun p => { p with lanes := p.lanes.set l (g (p.lane l)) })

/-- The lanes of a set that are not retired. -/
def Port.goodLanes (p : Port) (m : BitVec 5) : List Nat := (List.range 5).filter (fun l => m.getLsbD l && !(p.lane l).retired)

/-- The lanes and the width a port runs at (R591); none with fewer than 2 usable lanes. -/
def laneChoice (l : List Nat) (peerNarrow : Bool) : Option (List Nat) :=
  if 4 ≤ l.length ∧ peerNarrow = false then some (l.take 4) else if 2 ≤ l.length then some (l.take 2) else none

/-- A set of lanes as bits. -/
def laneBits (l : List Nat) : BitVec 5 := BitVec.ofNat 5 (l.foldl (fun a i => a + 2 ^ i) 0)

/-- A port takes lanes into use. -/
def Port.useLanes (p : Port) (l : List Nat) : Port :=
  { p with laneMap := laneBits l, width := l.length
           lanes := (List.range 5).foldl (fun t i => t.set i { p.lane i with inUse := l.contains i }) p.lanes }

/-- Sixty seconds in ns. -/
def minuteNs : Nat := 60000000000

/-- A counted retrain of a lane (R597); more than 5 within 60 s retire it (R598). -/
def State.countRetrain (s : State) (f l : Nat) : State :=
  let x := (s.port f).lane l
  let recent := x.counted.filter (fun t => decide (s.time < t + minuteNs)) ++ [s.time]
  let s1 := s.modLane f l (fun y => { y with counted := recent, retrains := satInc y.retrains })
  if 5 < recent.length ∧ x.retired = false then
    let s2 := s1.modLane f l (fun y => { y with retired := true })
    let width := ((laneChoice ((s2.port f).goodLanes (s2.port f).usable) false).getD []).length
    let s3 := s2.post 0x0042 1 (s.portSource f l) [(16, 1, f), (17, 1, l), (18, 1, recent.length), (19, 1, width)] none
    (s3.moraineAppend 7 [(16, 1, f), (17, 1, l), (18, 1, recent.length)]).chargePort f 100
  else s1

/-- An ACTIVE port enters RETRAIN (R593); the time source that it carried is lost (R638). Its link layer stays as it is
(R594). -/
def State.enterRetrain (s : State) (f cause : Nat) : State :=
  (s.modPort f (fun p => { p with st := .retrain, lastCause := BitVec.ofNat 8 cause, fecTimes := [], replayTimes := [] })).sourceLost f

/-! ### Becoming ACTIVE (R592, R595, R600 to R603) -/

/-- Why a peer's block ends training: it holds this device's ID (R603), or offers no common version (R592). -/
def State.exchangeRefusal (s : State) (b : List Byte) : Option Nat :=
  if fld b 4 2 = s.dev.fbId.toNat then some 8 else if fld b 2 1 % 2 = 0 then some 6 else none

/-- The identity a block states (R600). -/
def blockPeer (b : List Byte) : PeerId := { device := BitVec.ofNat 16 (fld b 4 2), digest := BitVec.ofNat 256 (fld b 8 32) }

/-- A block is the last one received on a port. -/
def State.takeBlock (s : State) (f : Nat) (b : List Byte) : State :=
  let x : LastBlock :=
    { watermark := BitVec.ofNat 256 (fld b 40 32), time := s.time, tx := BitVec.ofNat 64 (fld b 72 8)
      stratum := BitVec.ofNat 8 (fld b 96 1) }
  s.modPort f (fun p => { p with block := some x })

/-- Event 0x0041 (R642). -/
def State.postUp (s : State) (f : Nat) (b : List Byte) : State :=
  let p := s.port f
  s.post 0x0041 0 (s.portSource f 0)
    [(16, 1, f), (17, 1, p.width), (18, 1, p.laneMap.toNat), (19, 1, 0x10), (20, 2, p.peerDevice.toNat),
     (22, 2, fld b 6 2), (24, 8, fld b 8 8)] none

/-- Event 0x0043 where the record holds another identity (R601). -/
def State.postPeer (s : State) (f : Nat) (old : Option PeerId) (b : List Byte) : State :=
  match old with
  | some o =>
    if o = blockPeer b then s
    else s.post 0x0043 0 (s.portSource f 0)
      [(16, 1, f), (18, 2, o.device.toNat), (20, 2, fld b 4 2), (24, 8, fld b 8 8)] none
  | none => s

/-- A port is ACTIVE with the peer of a block. -/
def State.activate (s : State) (f : Nat) (b : List Byte) : State :=
  (s.modPort f (fun p =>
    { p with st := .active, version := 0x10, peer := some (blockPeer b), peerDevice := BitVec.ofNat 16 (fld b 4 2)
             peerPort := BitVec.ofNat 16 (fld b 6 2), trainings := satInc p.trainings })).takeNext f |>.takeBlock f b

/-- What follows an entry into ACTIVE: what waited leaves (R594), the expectation and the time source are evaluated. -/
def State.settlePort (s : State) (f : Nat) : State := ((s.drainLink f).evalMismatch f false).selectSource

/-! ### Training rows -/

/-- PORT_DETECT_POLL (R584, R590, R604): light on the laser input, an ID, and light and signal on two lanes lead to
EQUALISE. -/
def effPortDetectPoll (f : Fin 16) (laser : Bool) (light : BitVec 5) (s : State) : State :=
  if (s.port f).st ≠ .detect then s
  else
    let e := BitVec.ofNat 4 (2 ^ (f.val / 4))
    let s1 := s.modFabCnt (fun c => { c with laser := if laser then c.laser ||| e else c.laser &&& ~~~e })
    if laser = false then s1.modPort f (fun p => { p with lastCause := 13 })
    else if s.dev.fbId ≠ 0xFFFF ∧ 2 ≤ ((List.range 5).filter (fun l => light.getLsbD l)).length then
      s1.modPort f (fun p => { p with st := .equalise })
    else s1
/-- PORT_DETECT_POLL. -/
def execPortDetectPoll (f : Fin 16) (laser : Bool) (light : BitVec 5) (s : State) : Host.Outcome State Fault Refusal :=
  .next (effPortDetectPoll f laser light s)

/-- EQUALISE_DONE (R590, R591): fewer than two usable lanes end the training with cause 5. -/
def effEqualiseDone (f : Fin 16) (locked : BitVec 5) (s : State) : State :=
  if (s.port f).st ≠ .equalise then s
  else if 2 ≤ ((s.port f).goodLanes locked).length then s.modPort f (fun p => { p with st := .align, usable := locked })
  else s.portTo f 5 .detect
/-- EQUALISE_DONE. -/
def execEqualiseDone (f : Fin 16) (locked : BitVec 5) (s : State) : Host.Outcome State Fault Refusal :=
  .next (effEqualiseDone f locked s)

/-- ALIGN_DONE (R591). -/
def effAlignDone (f : Fin 16) (aligned : BitVec 5) (peerNarrow : Bool) (s : State) : State :=
  let p := s.port f
  if p.st ≠ .align then s
  else
    match laneChoice (p.goodLanes (p.usable &&& aligned)) peerNarrow with
    | some l => s.modPort f (fun x => { x.useLanes l with st := .exchange, usable := x.usable &&& aligned })
    | none => s.portTo f 5 .detect
/-- ALIGN_DONE. -/
def execAlignDone (f : Fin 16) (aligned : BitVec 5) (peerNarrow : Bool) (s : State) : Host.Outcome State Fault Refusal :=
  .next (effAlignDone f aligned peerNarrow s)

/-- EXCHANGE_DONE (R592, R595, R600, R601, R603). -/
def effExchangeDone (f : Fin 16) (block : List Byte) (s : State) : State :=
  let p := s.port f
  if p.st ≠ .exchange then s
  else
    match s.exchangeRefusal block with
    | some cause => s.portTo f cause .detect
    | none => (((s.activate f block).postUp f block).postPeer f p.peer block).settlePort f
/-- EXCHANGE_DONE. -/
def execExchangeDone (f : Fin 16) (block : List Byte) (s : State) : Host.Outcome State Fault Refusal :=
  .next (effExchangeDone f block s)

/-- TRAINING_TIMEOUT (R590): the phase ends in DETECT; a RETRAIN that ends so is a link down with the cause that began it,
loss of lock for one asked for. -/
def effTrainingTimeout (f : Fin 16) (s : State) : State :=
  match (s.port f).st with
  | .equalise => s.portTo f 2 .detect
  | .align => s.portTo f 5 .detect
  | .exchange => s.portTo f 7 .detect
  | .retrain => s.portTo f (if (s.port f).lastCause = 0 then 2 else (s.port f).lastCause.toNat) .detect
  | _ => s
/-- TRAINING_TIMEOUT. -/
def execTrainingTimeout (f : Fin 16) (s : State) : Host.Outcome State Fault Refusal := .next (effTrainingTimeout f s)

/-- LANE_LOCK_LOSS (R593, R597): of any lane of the port, against which the retrain counts. -/
def effLaneLockLoss (f : Fin 16) (lane : BitVec 3) (s : State) : State :=
  let p := s.port f
  if p.st = .active ∧ lane.toNat < 5 then (s.countRetrain f lane.toNat).enterRetrain f 2 else s
/-- LANE_LOCK_LOSS. -/
def execLaneLockLoss (f : Fin 16) (lane : BitVec 3) (s : State) : Host.Outcome State Fault Refusal :=
  .next (effLaneLockLoss f lane s)

/-- A RETRAIN finds another peer (R602): the replay buffer is discarded and counted, and events 0x0040 with cause 9, 0x0041
and 0x0043 follow. -/
def State.peerChanged (s : State) (f : Nat) (lanes : List Nat) (b : List Byte) : State :=
  let p := s.port f
  let lost := p.link.replay.length
  let s1 := s.post 0x0040 1 (s.portSource f 0)
    [(16, 1, f), (17, 1, 9), (18, 1, p.width), (20, 2, p.peerDevice.toNat), (24, 4, lost)] none
  let s2 := s1.modPort f (fun x =>
    { x.useLanes lanes with lost := satAdd x.lost lost, link := { Link.reset with wait := x.link.wait }, lastCause := 9 })
  (((s2.activate f b).postUp f b).postPeer f p.peer b).settlePort f

/-- RETRAIN_DONE (R590 to R594, R602, R603): the same peer keeps the link as it was. -/
def effRetrainDone (f : Fin 16) (passed : BitVec 5) (peerNarrow : Bool) (block : List Byte) (s : State) : State :=
  let p := s.port f
  if p.st ≠ .retrain then s
  else
    match laneChoice (p.goodLanes passed) peerNarrow with
    | none => s.portTo f 5 .detect
    | some l =>
      match s.exchangeRefusal block with
      | some cause => s.portTo f cause .detect
      | none =>
        let s1 := s.modPort f (fun x => { x with usable := passed })
        if p.peer = some (blockPeer block) then ((s1.modPort f (fun x => x.useLanes l)).activate f block).settlePort f
        else s1.peerChanged f l block
/-- RETRAIN_DONE. -/
def execRetrainDone (f : Fin 16) (passed : BitVec 5) (peerNarrow : Bool) (block : List Byte) (s : State) :
    Host.Outcome State Fault Refusal := .next (effRetrainDone f passed peerNarrow block s)

/-- FLIT_CRC_FAIL (R588, R593, R597): the flit and every later one is discarded until the sender replays, and the replay is
counted; more than 16 uncorrectable codewords in 1 ms, or 1,000 replays in
1 s, retrain the port. `lane` carried more than half of the corrected symbols of the last 1 ms. -/
def effFlitCrcFail (f : Fin 16) (lane : Option (BitVec 3)) (uncorrectable : Bool) (s : State) : State :=
  let p := s.port f
  if p.st ≠ .active then s
  else
    let fec := p.fecTimes.filter (fun t => decide (s.time < t + 1000000)) ++ (if uncorrectable then [s.time] else [])
    let rep := p.replayTimes.filter (fun t => decide (s.time < t + 1000000000)) ++ [s.time]
    let s1 := s.modPort f (fun x =>
      { x with replays := satInc x.replays, uncorr := if uncorrectable then satInc x.uncorr else x.uncorr
               fecTimes := fec, replayTimes := rep, link := { x.link with discard := true } })
    let cause := if 16 < fec.length then 3 else if 1000 < rep.length then 4 else 0
    if cause = 0 then s1
    else
      let s2 := match lane with
        | some l => if l.toNat < 5 then s1.countRetrain f l.toNat else s1
        | none => s1
      s2.enterRetrain f cause
/-- FLIT_CRC_FAIL. -/
def execFlitCrcFail (f : Fin 16) (lane : Option (BitVec 3)) (uncorrectable : Bool) (s : State) :
    Host.Outcome State Fault Refusal := .next (effFlitCrcFail f lane uncorrectable s)

/-- CREDIT_STALL_TIMEOUT (R589): a lane has had no credit for 100 ms. -/
def effCreditStallTimeout (f : Fin 16) (vl : BitVec 3) (s : State) : State :=
  if (s.port f).st = .active ∧ vl.toNat ≤ 1 ∧ (s.port f).link.credits vl.toNat = 0 then s.modPort f (fun p => { p with stalled := true }) else s
/-- CREDIT_STALL_TIMEOUT. -/
def execCreditStallTimeout (f : Fin 16) (vl : BitVec 3) (s : State) : Host.Outcome State Fault Refusal :=
  .next (effCreditStallTimeout f vl s)

/-! ### The device ID and expectations (R604, R632) -/

/-- Whether any context runs. -/
def State.anyRuns (s : State) : Bool := s.ctxs.any (fun e => decide (e.2.lc.life ≠ .off))

/-- FB_ID_WRITE (R604, R646): from the PF. -/
def effFbIdWrite (val : Word) (s : State) : State :=
  let id := val.setWidth 16
  if (4096 ≤ id.toNat ∧ id ≠ 0xFFFF) ∨ s.anyRuns then s
  else
    let s1 : State := { s with dev := { s.dev with fbId := id } }
    (List.range 16).foldl (fun t f =>
      match (t.port f).st with
      | .off => t
      | .detect => t
      | _ => t.portTo f 12 .detect) s1
/-- FB_ID_WRITE. -/
def execFbIdWrite (val : Word) (s : State) : Host.Outcome State Fault Refusal := .next (effFbIdWrite val s)

/-- Replace 32-bit word n of a 256-bit value. -/
def setWord32 (x : BitVec 256) (n : Nat) (v : Word) : BitVec 256 :=
  (x &&& ~~~((0xFFFFFFFF : BitVec 256) <<< (32 * n))) ||| (v.setWidth 256 <<< (32 * n))

/-- FB_PORT_EXPECT_WRITE (R632, R633): evaluated against the last block received. -/
def effFbPortExpectWrite (f : Fin 16) (n : BitVec 3) (val : Word) (s : State) : State :=
  (s.modPort f (fun p => { p with expect := setWord32 p.expect n.toNat val })).evalMismatch f false
/-- FB_PORT_EXPECT_WRITE. -/
def execFbPortExpectWrite (f : Fin 16) (n : BitVec 3) (val : Word) (s : State) : Host.Outcome State Fault Refusal :=
  .next (effFbPortExpectWrite f n val s)

/-! ### PORT_CONTROL and LANE_CLEAR (R590, R593, R599, R714, R722) -/

/-- A command on a port: PORT from 0 to 15, `arg` its byte 17; BUSY while the partition whose quarter holds the port is STARTING or STOPPING (R724). -/
def State.portCmd (s : State) (h : Hdr) (op : Nat) (port : Byte) (arg : Nat) (ok work : Bool) (body : Nat → State → State) :
    State :=
  s.hostCmd h ((pfOnly op false .any).on [(16, 1, port.toNat), (17, 1, arg)]) (decide (port.toNat ≤ 15) && ok) (fun s =>
    let l := (s.qpart (s.partNamed (port.toNat / 4))).life
    if work && s.quill.health.portOut.getLsbD port.toNat then s.complete h op .outOfService 0
    else if l = .starting ∨ l = .stopping then s.complete h op .busy 0
    else body port.toNat s)

/-- PORT_DISABLE (R590, R722). -/
def effPortDisable (h : Hdr) (port : Byte) (s : State) : State :=
  s.portCmd h 0x0404 port 0 true false (fun f s =>
    (if (s.port f).st = .off then s else s.portTo f 10 .off).complete h 0x0404 .ok 0)
/-- PORT_DISABLE. -/
def execPortDisable (h : Hdr) (port : Byte) (s : State) : Host.Outcome State Fault Refusal := .next (effPortDisable h port s)

/-- PORT_ENABLE (R585, R590, R722): a port whose domain is off stays OFF. -/
def effPortEnable (h : Hdr) (port : Byte) (s : State) : State :=
  s.portCmd h 0x0404 port 1 true true (fun f s =>
    if (s.port f).st ≠ .off then s.complete h 0x0404 .ok 0
    else if s.domOn (54 + f / 4) then (s.modPort f (fun p => { p with st := .detect })).complete h 0x0404 .ok 0
    else s.complete h 0x0404 .wrongState 0)
/-- PORT_ENABLE. -/
def execPortEnable (h : Hdr) (port : Byte) (s : State) : Host.Outcome State Fault Refusal := .next (effPortEnable h port s)

/-- PORT_RETRAIN (R593): of an ACTIVE port. -/
def effPortRetrain (h : Hdr) (port : Byte) (s : State) : State :=
  s.portCmd h 0x0404 port 2 true true (fun f s =>
    if (s.port f).st = .active then (s.enterRetrain f 0).complete h 0x0404 .ok 0 else s.complete h 0x0404 .wrongState 0)
/-- PORT_RETRAIN. -/
def execPortRetrain (h : Hdr) (port : Byte) (s : State) : Host.Outcome State Fault Refusal := .next (effPortRetrain h port s)

/-- LANE_CLEAR (R599): LANE 0 to 4, or 0xFF for all. -/
def effLaneClear (h : Hdr) (port lane : Byte) (s : State) : State :=
  s.portCmd h 0x0405 port lane.toNat (decide (lane.toNat ≤ 4 ∨ lane = 0xFF)) false (fun f s =>
    let lanes := if lane = 0xFF then List.range 5 else [lane.toNat]
    let s1 := lanes.foldl (fun t l =>
      (t.modLane f l (fun x => { x with retired := false, counted := [], retrains := 0 })).moraineAppend 8
        [(16, 1, f), (17, 1, l)]) s
    (if (s.port f).st = .active then s1.enterRetrain f 0 else s1).complete h 0x0405 .ok 0)
/-- LANE_CLEAR. -/
def execLaneClear (h : Hdr) (port lane : Byte) (s : State) : Host.Outcome State Fault Refusal :=
  .next (effLaneClear h port lane s)

end Sys2Proof.Machine
end

