-- ==== Sys2Proof/Machine/Flags.lean ====
section
/-!
DEFINITION. The flag computations of the engines (02 R94, R126, R127): the tile flag word of a drain and the
flags of a vector operation.
-/
namespace Sys2Proof.Machine

/-- The seven tile flags of one drained accumulator (R94), in the bit order of CO_ME_FLAGS (R126): INEXACT,
OVERFLOW, SPECIAL, DRAIN_OVF, TINY, BLOT, INVALID. -/
def tileFlags (a : Acc) (d : Drained) : BitVec 7 :=
  (if a.inexact then 1#7 else 0) ||| (if a.overflow then 2#7 else 0) |||
    (if a.special = .none then 0 else 4#7) ||| (if d.ovf then 8#7 else 0) ||| (if d.tiny then 16#7 else 0) |||
    (if a.blot then 32#7 else 0) ||| (if d.invalid then 64#7 else 0)

/-- The result of one lane of a vector operation with what R127 accumulates. -/
structure LaneResult where
  bits : Word
  inexact : Bool
  excess : Bool
  under : Bool
  invalid : Bool
  divZero : Bool
  deriving DecidableEq, Repr

/-- A lane result with no flag. -/
def LaneResult.plain (w : Word) : LaneResult :=
  { bits := w, inexact := false, excess := false, under := false, invalid := false, divZero := false }

/-- The six flags of CO_VE_FLAGS (R127): INEXACT, OVERFLOW, UNDERFLOW, INVALID, DIV_ZERO, BLOT. -/
def LaneResult.flags (r : LaneResult) (blot : Bool) : BitVec 6 :=
  (if r.inexact then 1#6 else 0) ||| (if r.excess then 2#6 else 0) ||| (if r.under then 4#6 else 0) |||
    (if r.invalid then 8#6 else 0) ||| (if r.divZero then 16#6 else 0) ||| (if blot then 32#6 else 0)

/-- A rounded value as a lane result: INVALID also where a NaN came of operands that are not NaN (R127). -/
def Rounded.lane (r : Rounded) (nanMade : Bool) : LaneResult :=
  { bits := BitVec.ofNat 32 r.bits, inexact := r.inexact, excess := r.excess, under := r.tiny,
    invalid := r.invalid || nanMade, divZero := false }

end Sys2Proof.Machine
end

