-- ==== Sys2Proof/Machine/Matrix.lean ====
section
/-!
DEFINITION. The matrix engine's instructions (02 R52 to R98, R110, R118, R881; 03 R143 to R146): MMA, the MMA that waits
for its bank, DRAIN, ACC_SAVE and ACC_LOAD.
-/
namespace Sys2Proof.Machine

/-- Whether N + K would exceed 2^32 - 1 in an accumulator (R75). -/
def CoreEng.tooMany (e : CoreEng) (bank k i : Nat) : Bool :=
  decide (2 ^ 32 - 1 < (e.acc.get Acc.clear (bank * 512 + i)).n.toNat + k)

/-- The engine error an MMA raises when it starts (R65, R66, R75, R82, R145), with the row it concerns (R121), or its
formats where it raises none. FORMAT_PAIR goes before K_RANGE (R145); where several of the others hold the order K_RANGE,
ANCHOR_MISMATCH, TERM_COUNT, then a hardware error, is the model's (DESIGN CHOICE, log 97). -/
def CoreEng.mmaCheck (e : CoreEng) (x : MmaArgs) (clr : Bool) (bank : Nat) (field : Int) :
    (EngErrKind × Nat) ⊕ (OpFmt × OpFmt) :=
  match opFmt x.fa, opFmt x.fb with
  | some fa, some fb =>
    if !pairOk fa fb then .inl (.formatPair, 0)
    else if x.k % 32 ≠ 0 ∨ x.k < 32 ∨ 65536 < x.k then .inl (.kRange, 0)
    else if !clr && decide (mmaAnchor field fa ≠ e.anchor.get 0 bank) then .inl (.anchorMismatch, 0)
    else if clr then .inr (fa, fb)
    else match (List.range 512).find? (e.tooMany bank x.k) with
      | some i => .inl (.termCount, i / 16)
      | none => .inr (fa, fb)
  | _, _ => .inl (.formatPair, 0)

/-- DETAIL of an ME error (R121): bank in [5], row in [4:0]. -/
def meDetail (bank row : Nat) : Nat := bank * 32 + row

/-- A hardware error the engine meets (R118). -/
def meFaultKind : MeFault → Option (EngErrKind × Nat)
  | .none => Option.none
  | .residue r => some (.residue, r.toNat)
  | .accParity r => some (.accParity, r.toNat)

/-- What the drift unit notes of an MMA (R671, R672): bank and operand ranges, where it has CLR and K ≤ 2,048. -/
def MmaArgs.trace (x : MmaArgs) (fa fb : OpFmt) (clr : Bool) (bank : Nat) : Option MmaTrace :=
  if clr ∧ x.k ≤ 2048 then
    some { bank := bank, ranges := [(x.aAddr, 32 * rowPitch x.k fa), (x.bAddr, 16 * rowPitch x.k fb)] ++
      (if fa.mx then [(x.aScale, x.k)] else []) ++ (if fb.mx then [(x.bScale, (x.k / 2 + 31) / 32 * 32)] else []) }
  else none

/-- An MMA starts in cycle t (R85, R881): the engine error its rules raise, or the hardware error it meets, or it latches
its anchor (R81), occupies the ME (R110) and reads its operands block by block, which gives its bank its terms. -/
def State.startMma (s : State) (n t : Nat) (x : MmaArgs) (clr : Bool) (bank : Nat) (field : Int) (hw : MeFault)
    (ls : List (Nat × Ecc)) : State :=
  let s1 := (s.meSettle n).lsEccs n t ls
  match (s1.core n).eng.mmaCheck x clr bank field with
  | .inl (k, row) => s1.engineError n k (meDetail bank row)
  | .inr (fa, fb) =>
    match meFaultKind hw with
    | some (k, row) => s1.engineError n k (meDetail bank row)
    | none =>
      let anchor := mmaAnchor field fa
      (s1.modEng n (fun e =>
        { e with anchor := if clr then e.anchor.set bank anchor else e.anchor
                 meFree := s1.after n t (x.k / 32 * blockCycles fa fb)
                 sampled := e.sampled <|> x.trace fa fb clr bank })).modLocal n (fun l =>
        { l with run := some (.mma t x clr bank anchor) })

/-- The core errors of an MMA at issue (R143, R146, R164). The extent of an operand is judged where its format
and K are among those of R65 and R66. -/
def mmaErrs (r : CoreRegs) (rb : Nat) : List CoreError :=
  if rb = 0 ∨ 60 < rb then [CoreErrKind.illegalInstr.err]
  else
    let x := mmaArgs (r.s rb) (r.s (rb + 1)) (r.s (rb + 2)) (r.s (rb + 3))
    let fa := opFmt x.fa
    let fb := opFmt x.fb
    let good := decide (x.k % 32 = 0) && decide (x.k ≤ 65536)
    let len (f : Option OpFmt) (rows : Nat) : Nat :=
      match f with
      | some g => if good then rows * rowPitch x.k g else 1
      | none => 1
    let mx (f : Option OpFmt) : Bool := match f with | some g => g.mx | none => false
    rangeErrs x.aAddr (len fa 32) 32 ++ rangeErrs x.bAddr (len fb 16) 32 ++
      (if mx fa ∧ good then rangeErrs x.aScale (32 * (x.k / 32)) 32 else []) ++
      (if mx fb ∧ good then rangeErrs x.bScale (16 * (x.k / 32)) 32 else []) ++
      r.blotErr ([rb, rb + 1] ++ (if mx fa || mx fb then [rb + 2] else [])) 0

/-- A bank as a number. -/
def bankNo (b : Bool) : Nat := if b then 1 else 0

/-- MMA (R65, R85, R143): in a free section an MMA whose bank has a last read to come waits at issue
(MMA_DELAYED_START); in a ruled section that wait is a RULED_STALL (R149). -/
def effMma (a : Issue) (clr bank : Bool) (anchor : BitVec 10) (rb : BitVec 6) (hw : MeFault)
    (ls : List (Nat × Ecc)) (s : State) : State :=
  let n := a.core.val
  let c := s.core n
  let b := bankNo bank
  let r := rb.toNat
  let last := c.eng.bankRead.get 0 b
  let plan : Plan := { reads := [r, r + 1, r + 2, r + 3], vreads := [], unit := .me, errs := mmaErrs c.regs r }
  let waits := decide (s.issueAt n plan ≤ last ∧ 0 < last)
  s.issue a (if waits ∧ c.ctl.st = .ruled then { plan with errs := plan.errs ++ [CoreErrKind.ruledStall.err] } else plan)
    (fun t u =>
    let g := (u.core n).regs
    if waits then
      let w : PendingMma :=
        { clr := clr, bank := b, anchor := anchor.toInt, r0 := g.s r, r1 := g.s (r + 1), r2 := g.s (r + 2),
          r3 := g.s (r + 3) }
      (u.advance n t 1).modEng n (fun e => { e with pendingMma := some w })
    else
      (u.startMma n t (mmaArgs (g.s r) (g.s (r + 1)) (g.s (r + 2)) (g.s (r + 3))) clr b anchor.toInt hw ls).advance
        n t 1)
/-- MMA. -/
def execMma (a : Issue) (clr bank : Bool) (anchor : BitVec 10) (rb : BitVec 6) (hw : MeFault)
    (ls : List (Nat × Ecc)) (s : State) : Host.Outcome State Fault Refusal :=
  .next (effMma a clr bank anchor rb hw ls s)

/-- The cycle in which an MMA that waits for its bank issues (R85, R110): the one after the bank's last read, at least that in
which the ME takes its next operation and the first of the stroke in progress. -/
def State.mmaCycle (s : State) (n : Nat) (m : PendingMma) : Nat :=
  let last := (s.core n).eng.bankRead.get 0 m.bank
  max (max (s.after n last 1) (s.core n).eng.meFree) ((s.part (s.partOf (kOf n))).stroke.count.toNat * 256)

/-- MMA_DELAYED_START (R85, R183, R881): the MMA that waits for its bank issues in the cycle after the last read; nothing
where none waits, the partition pauses, or that cycle lies in a later stroke. -/
def effMmaDelayedStart (core : Fin 1536) (hw : MeFault) (ls : List (Nat × Ecc)) (s : State) : State :=
  let n := core.val
  match (s.core n).eng.pendingMma with
  | none => s
  | some m =>
    let t := s.mmaCycle n m
    if (s.part (s.partOf (kOf n))).paused || !s.cycleDue n t then s
    else
      let s0 := s.coreRun n (t - 1)
      if s0.runsOn n then
        s0.meets n t [] (fun t u =>
          ((u.modEng n (fun e => { e with pendingMma := none })).startMma n t (mmaArgs m.r0 m.r1 m.r2 m.r3) m.clr m.bank
            m.anchor hw ls).modCtl n (fun c => { c with cyc := max c.cyc (s.after n t 1) }))
      else s0
/-- MMA_DELAYED_START. -/
def execMmaDelayedStart (core : Fin 1536) (hw : MeFault) (ls : List (Nat × Ecc)) (s : State) :
    Host.Outcome State Fault Refusal := .next (effMmaDelayedStart core hw ls s)

/-- The errors of the local store operand of a D-format instruction (R146, R164). -/
def dErrs (r : CoreRegs) (reg len align : Nat) : List CoreError :=
  rangeErrs (r.s reg).toNat len align ++ r.blotErr [reg] 0

/-- One row of a drain from the engine as the row's cycle finds it: 16 elements, the flags, the blots (R86, R113). -/
def drainRow (e : CoreEng) (bank row : Nat) (d : DrainFmt) : List (Drained × Acc) :=
  (List.range 16).map (fun j =>
    let a := e.accAt bank row j
    (a.drain (e.anchor.get 0 bank) d, a.afterRead))

/-- The two rows that a drain reads in cycle d after its issue t (R110). -/
def State.drainPair (s : State) (n t bank d : Nat) (f : DrainFmt) : List (Drained × Acc) :=
  let e := s.meAt n (s.after n t d)
  drainRow e bank (2 * d) f ++ drainRow e bank (2 * d + 1) f

/-- The destination units of some outputs, each blotted if it holds a blotted output (R113). -/
def drainUnits (f : DrainFmt) (outs : List (Drained × Acc)) : List (List Byte × Bool) :=
  let per := 32 / f.bytes
  (List.range (outs.length / per)).map (fun g =>
    let part := (outs.drop (g * per)).take per
    (part.flatMap (fun x => toLe x.1.bits f.bytes), part.any (fun x => x.2.blot)))

/-- A drain writes the rows it has read in the cycles before `upTo` of its 16, seven cycles after it read them (R110). -/
def State.drainWrites (s : State) (n t bank addr : Nat) (f : DrainFmt) (ds : List Nat) : State :=
  ds.foldl (fun u d =>
    u.lsPutUnits n (s.after n t (d + 7)) 5 (addr + d * 32 * f.bytes) (drainUnits f (s.drainPair n t bank d f))) s

/-- Whether row pair d of a drain that issued in cycle t sees the bank as it is once the ME's work is done. -/
def State.seesFinal (s : State) (n t d : Nat) : Bool :=
  match (s.core n).ls.run with
  | some (.load t0 _ _) => decide (s.after n t0 133 < s.after n t d)
  | _ => true

/-- The accumulators after a drain has read S (R76): those of the rows that `last` marks. -/
def readBank (e : CoreEng) (bank : Nat) (last : Nat → Bool) : Tbl Acc :=
  (List.range 512).foldl (fun t i =>
    if last (i / 32) then t.set (bank * 512 + i) (t.get Acc.clear (bank * 512 + i)).afterRead else t) e.acc

/-- The tile flags of a drain (R94): the OR over its outputs. -/
def State.drainFlags (s : State) (n t bank : Nat) (f : DrainFmt) : BitVec 7 :=
  (List.range 16).foldl (fun g d => (s.drainPair n t bank d f).foldl (fun g x => g ||| tileFlags x.2 x.1) g) 0

/-- The whole drain of a bank from cycle t on (R86 to R94, R110): its writes, the accumulators after S is read (R76), the
flags (R126). -/
def State.drainBank (s : State) (n t bank addr : Nat) (f : DrainFmt) : State :=
  let flags := s.drainFlags n t bank f
  let e := s.meFinal n
  (s.drainWrites n t bank addr f (List.range 16)).modCore n (fun c =>
    { c with eng := { e with acc := readBank e bank (s.seesFinal n t), meFlags := e.meFlags ||| flags }
             ls := { c.ls with run := none } })

/-- An ME operation that issued in cycle t and meets a parity error on row r as it reads it in its cycle d: what it has
written by then stands, it writes nothing further (R118). -/
def State.meParity (s : State) (n t bank d : Nat) (k : EngErrKind) (row : Nat) (writes : List Nat → State) : State :=
  let stop := s.after n t d
  (writes ((List.range 128).filter (fun i => decide (i < d ∧ s.after n t (i + 7) ≤ stop)))).engineError n k
    (meDetail bank row)

/-- DRAIN (R86 to R94, R110): converts a bank to DFMT at rs1, and a tile flag word at rs2 unless that is s0. The flag word
is written with the last rows, and where it lies in the destination it stands (DESIGN CHOICE, log 98). -/
def effDrain (a : Issue) (bank : Bool) (dfmt : BitVec 4) (rs1 rs2 : BitVec 6) (hw : MeFault) (s : State) : State :=
  let n := a.core.val
  let r := (s.core n).regs
  let b := bankNo bank
  let flagErrs :=
    if rs2 = 0 then [] else lsErrs (r.s rs2.toNat).toNat 4 ++ r.blotErr [rs2.toNat] 0
  let errs := match drainFmt dfmt.toNat with
    | none => [CoreErrKind.illegalInstr.err]
    | some d => dErrs r rs1.toNat (512 * d.bytes) 32 ++ flagErrs
  s.issue a { reads := regs [rs1, rs2], vreads := [], unit := .me, errs := errs } (fun t u0 =>
    let u := u0.lsTick n t
    let g := (u.core n).regs
    let addr := (g.s rs1.toNat).toNat
    match meFaultKind hw, drainFmt dfmt.toNat with
    | some (k, row), f =>
      u.meParity n t b (row / 2) k row (fun ds => match f with | some d => u.drainWrites n t b addr d ds | none => u)
    | none, none => u
    | none, some d =>
      let x := u.drainBank n t b addr d
      let w := if rs2 = 0 then x
        else x.lsPut n (u.after n t 22) 6 (g.s rs2.toNat).toNat (toLe (u.drainFlags n t b d).toNat 4) false
      (w.modEng n (fun e => { e with meFree := u.after n t 16,
                                     bankRead := e.bankRead.set b (u.after n t 15) })).advance n t 1)
/-- DRAIN. -/
def execDrain (a : Issue) (bank : Bool) (dfmt : BitVec 4) (rs1 rs2 : BitVec 6) (hw : MeFault) (s : State) :
    Host.Outcome State Fault Refusal := .next (effDrain a bank dfmt rs1 rs2 hw s)

/-- ACC_SAVE writes the records that it reads in some of its cycles, seven cycles after it read them (R96, R110). -/
def State.saveWrites (s : State) (n t bank addr : Nat) (ms : List Nat) : State :=
  ms.foldl (fun u m =>
    let e := s.meAt n (s.after n t m)
    u.lsPutUnits n (s.after n t (m + 7)) 5 (addr + 128 * m) ((List.range 4).map (fun i =>
      let x := e.acc.get Acc.clear (bank * 512 + 4 * m + i)
      (x.image (e.anchor.get 0 bank), x.blot)))) s

/-- ACC_SAVE (R95, R96, R110): each accumulator of a bank as a 32-byte record, its unit blotted with it. -/
def effAccSave (a : Issue) (bank : Bool) (rs1 : BitVec 6) (hw : MeFault) (s : State) : State :=
  let n := a.core.val
  let r := (s.core n).regs
  let b := bankNo bank
  s.issue a { reads := regs [rs1], vreads := [], unit := .me, errs := dErrs r rs1.toNat 0x4000 32 } (fun t u0 =>
    let u := u0.lsTick n t
    let addr := ((u.core n).regs.s rs1.toNat).toNat
    match meFaultKind hw with
    | some (k, row) => u.meParity n t b (4 * row) k row (u.saveWrites n t b addr)
    | none =>
      (((u.saveWrites n t b addr (List.range 128)).meSettle n).modEng n (fun e =>
        { e with meFree := u.after n t 128, bankRead := e.bankRead.set b (u.after n t 127) })).advance n t 1)
/-- ACC_SAVE. -/
def execAccSave (a : Issue) (bank : Bool) (rs1 : BitVec 6) (hw : MeFault) (s : State) :
    Host.Outcome State Fault Refusal := .next (effAccSave a bank rs1 hw s)

/-- ACC_LOAD (R95 to R98, R110): loads a bank from records that it reads four a cycle; an ANCHOR out of range or records
that disagree raise ACC_IMAGE in the cycle in which the record is read (`State.judgeLoad`). -/
def effAccLoad (a : Issue) (bank : Bool) (rs1 : BitVec 6) (ls : List (Nat × Ecc)) (s : State) : State :=
  let n := a.core.val
  let r := (s.core n).regs
  let b := bankNo bank
  s.issue a { reads := regs [rs1], vreads := [], unit := .me, errs := dErrs r rs1.toNat 0x4000 32 } (fun t u0 =>
    let u := (u0.meSettle n).lsEccs n t ls
    let x : MeRun := .load t b ((u.core n).regs.s rs1.toNat).toNat
    ((u.modLocal n (fun l => { l with run := some x })).modEng n (fun e => { e with meFree := u.after n t 128 })).advance n t 1)
/-- ACC_LOAD. -/
def execAccLoad (a : Issue) (bank : Bool) (rs1 : BitVec 6) (ls : List (Nat × Ecc)) (s : State) :
    Host.Outcome State Fault Refusal := .next (effAccLoad a bank rs1 ls s)

end Sys2Proof.Machine
end

