-- ==== Sys2Proof/Machine/Healing.lean ====
section
/-!
DEFINITION. Drift check (11 R671 to R675), firn patrol (R676 to R680), the hang watches (R703, R704), summaries (04 R188;
05 R299; 06 R335; 10 R643; 11 R656), the hourly score (R717, R718).
-/
namespace Sys2Proof.Machine

/-! ### Drift check -/

/-- Drift state of cluster k. -/
def State.driftOf (s : State) (k : Nat) : Drift := s.quill.drift.get Drift.reset k
/-- Update the drift state of cluster k. -/
def State.modDrift (s : State) (k : Nat) (f : Drift → Drift) : State :=
  s.modQuill (fun q => { q with drift := q.drift.set k (f (q.drift.get Drift.reset k)) })

/-- Event 0x0050 (R674, R675, R725). -/
def State.postDrift (s : State) (k outcome sev : Nat) (d : DriftSample) : State :=
  s.post 0x0050 sev (source 2 k (jOf d.live) 0 0)
    [(16, 1, outcome), (17, 1, d.logical), (18, 1, jOf d.live), (19, 1, jOf d.spareA),
     (20, 1, match d.spareB with | some n => jOf n | none => 0xFF), (21, 1, ctxNo d.ctx),
     (24, 4, (s.part (s.partOf k)).stroke.count.toNat % 2 ^ 32), (28, 4, d.crc.toNat % 2 ^ 32)] (some (s.partOf k))

/-- Event 0x0050 with OUTCOME 0 or 4: no sample, so only the outcome, the stroke and no second spare (R675). -/
def State.postDriftState (s : State) (k outcome : Nat) : State :=
  s.post 0x0050 0 (source 2 k 0 0 0)
    [(16, 1, outcome), (20, 1, 0xFF), (24, 4, (s.part (s.partOf k)).stroke.count.toNat % 2 ^ 32)] (some (s.partOf k))

/-- The signature of a bank (R672): the drift CRC over its ACC_SAVE image. -/
def CoreEng.signature (e : CoreEng) (bank : Nat) : DWord :=
  driftCrc ((List.range 512).flatMap (fun i => (e.acc.get Acc.clear (bank * 512 + i)).image (e.anchor.get 0 bank)))

/-- Copy operand ranges of a core's local store, as `v` holds it, into a spare's, at the offsets at which the same MMA reads
them (R672). -/
def Store.copyOperands (m v : Store) (src dst : Nat) (ranges : List (Nat × Nat)) : Store :=
  ranges.foldl (fun (m : Store) r => m.copyFrom v (lsBase src + r.1) (lsBase dst + r.1) r.2) m

/-- The next logical core is chosen (R671): what it issued before its period does not count. -/
def State.nextDrift (s : State) (k l : Nat) : State :=
  let nl := (l + 1) % s.dev.gradeL
  let s1 := s.modDrift k (fun x => { x with next := nl })
  match s1.physCore k nl with
  | some n => s1.modEng n (fun e => { e with sampled := none })
  | none => s1

/-- A sample of core n is taken (R672, R673): signature of the live bank, operands to up to two spares, whose patterns are
abandoned. -/
def State.takeSample (s : State) (k l n c : Nat) (t : MmaTrace) (spares : List Nat) : State :=
  let crc := (s.meFinal n).signature t.bank
  let use := spares.take 2
  let v := s.lsFinal n
  let s1 : State := { s with store := use.foldl (fun (m : Store) x => m.copyOperands v n x t.ranges) s.store }
  let s2 := use.foldl (fun u x => (u.modCare x (fun y => { y with pattern := none, retest := false })).modCore x (fun y =>
    { y with ctl := { y.ctl with st := .idle, patrol := false }, ls := .reset })) s1
  (s2.modDrift k (fun x =>
    { x with sample := some { live := n, logical := l, ctx := c, crc := crc, spareA := use.getD 0 0, spareB := use[1]? } })).modQuill
      (fun q => { q with samples := satInc q.samples })

/-- DRIFT_SAMPLE (R671 to R673, R675): at the end of a sampling period of cluster k; nothing while its partition pauses
or while a comparison is open. -/
def effDriftSample (k : Fin 48) (s : State) : State :=
  let p := s.partOf k
  let d := s.driftOf k
  if (s.onContexts p).isEmpty || (s.part p).ckptPause.isSome || d.sample.isSome then s
  else
    let spares := s.sparesOf k
    if spares.isEmpty then
      if d.suspended then s else (s.postDriftState k 0).modDrift k (fun x => { x with suspended := true })
    else
      let s1 := if d.suspended then (s.postDriftState k 4).modDrift k (fun x => { x with suspended := false }) else s
      let l := d.next
      let live := (s1.physCore k l).bind (fun n =>
        ((s1.core n).ctl.context.filter (fun c => decide ((s1.ctx c).lc.life = .on))).bind (fun c =>
          (s1.core n).eng.sampled.map (fun t => (n, c, t))))
      match live with
      | some (n, c, t) => (s1.takeSample k l n c t spares).nextDrift k l
      | none => (s1.modQuill (fun q => { q with skipped := satInc q.skipped })).nextDrift k l
/-- DRIFT_SAMPLE. -/
def execDriftSample (k : Fin 48) (s : State) : Host.Outcome State Fault Refusal := .next (effDriftSample k s)

/-- The comparison of cluster k ends: an image that waited for it is committed once it waits for none, or never (R666);
a context that stops after it stops at the next edge. -/
def State.driftEnded (s : State) (k : Nat) (agree : Bool) : State :=
  ((List.range 16).filter (fun c => (s.ctx c).lc.work.any (fun w => w.waits.contains k))).foldl (fun t c =>
    match (t.ctx c).lc.work with
    | some w =>
      let w1 := { w with waits := w.waits.filter (fun x => x != k), spoiled := w.spoiled || !agree }
      let t1 := t.modLife c (fun l => { l with work := some w1 })
      if !w.written then t1
      else if w1.spoiled then t1.modLife c (fun l => { l with work := none })
      else if w1.waits.isEmpty then
        let t2 := t1.commitCheckpoint c w1
        if (t2.ctx c).lc.stopQuiet.isSome then t2.modLife c (fun l => { l with life := .stopping }) else t2
      else t1
    | none => t) s

/-- The outcome of a mismatch (R674): 1 live faulty, 2 spare faulty, 3 unresolved. -/
def driftOutcome (d : DriftSample) (a b : DWord) : Nat :=
  if d.spareB.isNone then 3 else if b = a then 1 else if b = d.crc then 2 else 3

/-- A context killed by a drift comparison (R674): SOURCE has level 2. -/
def State.driftKill (s : State) (k c : Nat) : State :=
  if (s.ctx c).lc.life = .off then s else s.kill c 2 (source 2 k 0 (s.partOf k) 0) []

/-- A full pass is owed before a core is used again. -/
def State.oweTest (s : State) (n : Nat) : State := s.modCare n (fun x => { x with tested := false, testDue := true, next := 0 })

/-- A full pass is owed before any of these cores is used again. -/
def State.oweAll (s : State) (l : List Nat) : State := l.foldl State.oweTest s

/-- DRIFT_COMPARE (R674): the spares' signatures against the live one; `eccA` and `eccB` are what the spares' reads of their
operands find, by unit (R135, R175). -/
def effDriftCompare (k : Fin 48) (runA runB : DWord) (eccA eccB : List (Nat × Ecc)) (s : State) : State :=
  match (s.driftOf k).sample with
  | none => s
  | some d =>
    let s0 := s.lsEccs d.spareA (s.issueBase d.spareA) eccA
    let s0 := match d.spareB with
      | some n => s0.lsEccs n (s0.issueBase n) eccB
      | none => s0
    let s1 := s0.modDrift k (fun x => { x with sample := none })
    if runA = d.crc then s1.driftEnded k true
    else
      let o := driftOutcome d runA runB
      let s2 := (s1.modQuill (fun q => { q with mismatches := satInc q.mismatches })).postDrift k o (if o = 2 then 1 else 2) d
      let s3 := if o = 1 then (s2.fenceAs d.live 2 2).driftKill k d.ctx
        else if o = 2 then s2.fenceAs d.spareA 2 2
        else
          let t := (s2.driftKill k d.ctx).scoreDrop 40
          t.oweAll ([d.live, d.spareA] ++ d.spareB.toList)
      s3.driftEnded k false
/-- DRIFT_COMPARE. -/
def execDriftCompare (k : Fin 48) (runA runB : DWord) (s : State) (eccA eccB : List (Nat × Ecc) := []) :
    Host.Outcome State Fault Refusal := .next (effDriftCompare k runA runB eccA eccB s)

/-! ### Firn patrol -/

/-- The patterns of a full pass, in order (R678): built-in ones, then those of the loaded packs. -/
def State.patternCount (s : State) : Nat := s.quill.packs.foldl (fun a k => a + k.patterns) Config.patrolCount

/-- Pattern i of a full pass: none for a built-in one, else its pack and its number there. -/
def packPattern (packs : List Pack) (i : Nat) : Option (Pack × Nat) :=
  match packs with
  | [] => none
  | k :: r => if i < k.patterns then some (k, i) else packPattern r (i - k.patterns)

/-- The pack pattern that number i of a full pass names, none for a built-in one. -/
def State.packAt (s : State) (i : Nat) : Option (Pack × Nat) :=
  if i < Config.patrolCount then none else packPattern s.quill.packs (i - Config.patrolCount)

/-- Whether a pattern may run at the region's clock setting (R677): built-in ones at 1,200, 1,400, 1,600 and 1,800 MHz,
those of a pack as SETTINGS says; none in a half at 1:2 (R748). -/
def State.patternPermitted (s : State) (k i : Nat) : Bool :=
  let n := (s.region (regionOf k)).setting
  let slow := decide (s.dev.mode = 0) && slowHalf (s.part 0).stroke.seamRatio.toNat k
  !slow && (match s.packAt i with
    | none => decide (n = 0 ∨ n = 4 ∨ n = 8 ∨ n = 12)
    | some (p, _) => decide (fld p.bytes 18 2 / 2 ^ n % 2 = 1))

/-- Whether patrol tests spares of cluster k now (R676). -/
def State.patrolRuns (s : State) (k : Nat) : Bool :=
  let p := s.partOf k
  let m := s.patrolMode p
  decide (m = 0) || (decide (m = 1) && (s.liveContexts p).isEmpty)

/-- A core that can be tested (R676, R684): not fenced, with no role, its domain on. -/
def State.testable (s : State) (n : Nat) : Bool :=
  !(s.core n).ctl.fenced && (s.roleOf (kOf n) (jOf n)).isNone && s.domOn (kOf n) && (s.core n).ctl.context.isNone

/-- The images of a pattern are written into a spare (R132, R678), which runs from ENTRY in a free section. -/
def State.loadPattern (s : State) (n i : Nat) : State :=
  let start (t : State) (instr data : List Byte) (entry : BitVec 12) : State :=
    let cyc := (t.part (t.partOf (kOf n))).stroke.count.toNat * 256
    (t.modCore n (fun x =>
      { x with regs := { x.regs with istore := istoreOf instr }
               ctl := { x.ctl with
                 st := .free, patrol := true, pc := entry, pastEnd := false, cyc := cyc, skew := none, sready := []
                 vready := [], blockedOn := none, entry := none, hold := none }
               ls := .reset })).write (lsBase n) data false
  match s.packAt i with
  | none => start s (Config.patrolInstr i) (Config.patrolLocal i) (Config.patrolEntry i)
  | some (p, j) =>
    let b := p.bytes
    let o := 64 + 64 * j
    start s ((b.drop (fld b o 8)).take (4 * fld b (o + 8) 2)) ((b.drop (fld b (o + 16) 8)).take (fld b (o + 24) 4))
      (BitVec.ofNat 12 (fld b (o + 10) 2))

/-- PATROL_PATTERN_START (R676 to R678): the next pattern of the full pass runs on a spare. -/
def effPatrolPatternStart (core : Fin 1536) (s : State) : State :=
  let c := s.care core
  let k := kOf core
  if s.testable core && c.pattern.isNone && s.patrolRuns k && decide (c.next < s.patternCount) && s.patternPermitted k c.next &&
      (s.driftOf k).sample.isNone then
    (s.modCare core (fun x => { x with pattern := some x.next })).loadPattern core c.next
  else s
/-- PATROL_PATTERN_START. -/
def execPatrolPatternStart (core : Fin 1536) (s : State) : Host.Outcome State Fault Refusal := .next (effPatrolPatternStart core s)

/-- Event 0x0051 (R679, R725). -/
def State.postFirn (s : State) (n i result : Nat) (crc : DWord) : State :=
  s.post 0x0051 1 (source 1 (kOf n) (jOf n) 0 0)
    [(16, 1, if (s.packAt i).isSome then 1 else 0), (17, 1, result),
     (20, 4, match s.packAt i with | some (_, j) => j | none => i), (24, 8, crc.toNat)] none

/-- Pattern i of a full pass has passed (R678 to R680): a pass of all of them makes the spare tested where none failed. -/
def State.patternPassed (s : State) (n i : Nat) : State :=
  let s1 := ((s.judgeLoad n).lsSettle n).modCtl n (fun x => { x with st := .idle, patrol := false })
  if i + 1 < s.patternCount then s1.modCare n (fun x => { x with pattern := none, retest := false, next := i + 1 })
  else
    (s1.modCare n (fun x =>
      { x with pattern := none, retest := false, next := 0, failed := false, testDue := false, lastPass := s.time
               tested := x.tested || !x.failed })).modQuill (fun q => { q with passes := satInc q.passes })

/-- PATROL_PATTERN_END (R679, R680, R684): a pattern is judged; after a failure it runs once more. `ecc` is what the reads of its
result find, by unit (R135, R175). -/
def effPatrolPatternEnd (core : Fin 1536) (pass : Bool) (crc : DWord) (ecc : List (Nat × Ecc)) (s : State) : State :=
  let n := core.val
  match (s.care n).pattern with
  | none => s
  | some i =>
    let s := s.lsEccs n (s.issueBase n) ecc
    if pass then
      if (s.care n).retest then
        let s1 := (s.postFirn n i 3 crc).moraineAppend 3
          [(16, 1, kOf n), (17, 1, jOf n), (20, 4, match s.packAt i with | some (_, j) => j | none => i),
           (24, 4, match s.packAt i with | some (p, _) => p.id.toNat | none => 0)]
        ((s1.scoreDrop 10).modCare n (fun x => { x with marginal := true })).patternPassed n i
      else s.patternPassed n i
    else
      let s1 := s.modQuill (fun q => { q with fails := satInc q.fails })
      if (s.care n).retest then
        ((s1.fenceCore n 3).postFirn n i 2 crc).modCare n (fun x =>
          { x with pattern := none, retest := false, tested := false, testDue := false })
      else ((s1.postFirn n i 1 crc).modCare n (fun x => { x with retest := true, failed := true })).loadPattern n i
/-- PATROL_PATTERN_END. -/
def execPatrolPatternEnd (core : Fin 1536) (pass : Bool) (crc : DWord) (s : State) (ecc : List (Nat × Ecc) := []) :
    Host.Outcome State Fault Refusal := .next (effPatrolPatternEnd core pass crc ecc s)

/-! ### Hang watches (R703, R704) -/

/-- Whether the hang watch runs on partition p: a context runs, no checkpoint pauses it, nothing is frozen, no replay. -/
def State.watched (s : State) (p : Nat) : Bool :=
  !(s.onContexts p).isEmpty && (s.part p).ckptPause.isNone && decide ((s.qpart p).replay ≠ 1)

/-- Whether a hold is pending in partition p (R212, R754). -/
def State.holdPending (s : State) (p : Nat) : Bool := (s.part p).stroke.holdSince.isSome

/-- Milliseconds since a device time. -/
def State.msSince (s : State) (t : Nat) : Nat := (s.time - t) / 1000000

/-- STROKE_WATCH_EXPIRY (R703, R704): no stroke for STROKE_WATCH_MS with no hold pending. -/
def effStrokeWatchExpiry (p : Fin 4) (cal : List XCal) (s : State) : State :=
  if s.watched p && !s.holdPending p then
    s.hang p 1 (max s.quill.health.strokeWatchMs.toNat (s.msSince (s.qpart p).lastStrokeTime)) cal
  else s
/-- STROKE_WATCH_EXPIRY. -/
def execStrokeWatchExpiry (p : Fin 4) (cal : List XCal) (s : State) : Host.Outcome State Fault Refusal :=
  .next (effStrokeWatchExpiry p cal s)

/-- HOLD_WATCH_EXPIRY (R703, R704): a hold pending for HOLD_WATCH_S. -/
def effHoldWatchExpiry (p : Fin 4) (cal : List XCal) (s : State) : State :=
  if s.watched p && s.holdPending p then
    s.hang p 2 (max (s.quill.health.holdWatchS.toNat * 1000) (s.msSince ((s.part p).stroke.holdSince.getD s.time))) cal
  else s
/-- HOLD_WATCH_EXPIRY. -/
def execHoldWatchExpiry (p : Fin 4) (cal : List XCal) (s : State) : Host.Outcome State Fault Refusal :=
  .next (effHoldWatchExpiry p cal s)

/-! ### Summaries -/

/-- Whether an event is enabled in some mask (R548). -/
def State.eventEnabled (s : State) (code sev : Nat) (p : Option Nat) : Bool :=
  (s.fn 0).passes code sev || (s.fn 5).passes code sev ||
    (match p with
      | some q => decide (s.dev.mode = 2) && decide (code ∈ vfEvents) && (s.fn (q + 1)).passes code sev
      | none => false)

/-- Whether a limit of one event per `ns` allows another now. -/
def State.spaced (s : State) (last : Option Nat) (ns : Nat) : Bool :=
  match last with
  | some t => decide (t + ns ≤ s.time)
  | none => true

/-- A millisecond in ns. -/
def msNs : Nat := 1000000

/-- STROKE_OVERRUN_SUMMARY (R188). -/
def effStrokeOverrunSummary (p : Fin 4) (s : State) : State :=
  let x := (s.part p).stroke
  let r := (s.part p).rep.overrun
  let a := x.ovrMargin.toNat
  let b := x.ovrEmpty.toNat
  let c := x.ovrFull.toNat
  let d := x.holdCnt.toNat
  let o := (s.part p).rep.carry
  if s.spaced r.time msNs && (decide ((a, b, c, d) ≠ (r.a, r.b, r.c, r.d)) || decide (o ≠ .none)) then
    (s.post 0x0030 0 (source 3 0 0 p 0)
      [(16, 4, a - r.a + o.a), (20, 4, b - r.b + o.b), (24, 4, c - r.c + o.c), (28, 4, d - r.d + o.d)] (some p)).modReports
      p (fun y => { y with overrun := { time := some s.time, a := a, b := b, c := c, d := d }, carry := .none })
  else s
/-- STROKE_OVERRUN_SUMMARY. -/
def execStrokeOverrunSummary (p : Fin 4) (s : State) : Host.Outcome State Fault Refusal := .next (effStrokeOverrunSummary p s)

/-- STALE_TOKEN_EVENT (R299). -/
def effStaleTokenEvent (p : Fin 4) (s : State) : State :=
  let x := (s.part p).rep
  let e := (s.part p).epoch
  if s.spaced x.stale.time msNs && s.eventEnabled 0x0061 0 (some p) && x.staleMoved then
    (s.post 0x0061 0 (source 3 0 0 p 0)
      [(16, 4, x.cfgTotal - x.stale.a), (20, 4, x.roleTotal - x.stale.b), (24, 1, e.epoch.toNat), (25, 1, e.configId.toNat)]
      (some p)).modReports p (fun y =>
        { y with stale := { time := some s.time, a := x.cfgTotal, b := x.roleTotal, c := 0, d := 0 }, staleMoved := false })
  else s
/-- STALE_TOKEN_EVENT. -/
def execStaleTokenEvent (p : Fin 4) (s : State) : Host.Outcome State Fault Refusal := .next (effStaleTokenEvent p s)

/-- ORPHAN_SEND_EVENT (R335). -/
def effOrphanSendEvent (p : Fin 4) (s : State) : State :=
  let x := (s.part p).rep
  if s.spaced x.orphan.time msNs && s.eventEnabled 0x0062 0 (some p) &&
      decide ((x.sendTotal, x.recvTotal) ≠ (x.orphan.a, x.orphan.b)) then
    let who := match x.firstOrphan with
      | some o => [(24, 1, o.lcluster.toNat), (25, 1, o.sender.toNat), (26, 1, o.dcluster.toNat), (27, 1, o.dest.toNat)]
      | none => [(24, 1, 0xFF), (26, 1, 0xFF)]
    (s.post 0x0062 0 (source 3 0 0 p 0) ([(16, 4, x.sendTotal - x.orphan.a), (20, 4, x.recvTotal - x.orphan.b)] ++ who)
      (some p)).modReports p (fun y =>
        { y with orphan := { time := some s.time, a := x.sendTotal, b := x.recvTotal, c := 0, d := 0 }, firstOrphan := none })
  else s
/-- ORPHAN_SEND_EVENT. -/
def execOrphanSendEvent (p : Fin 4) (s : State) : Host.Outcome State Fault Refusal := .next (effOrphanSendEvent p s)

/-- WINDOW_DROP_EVENT (R643). -/
def effWindowDropEvent (s : State) : State :=
  let c := s.fabric.cnt
  let a := c.winDrop.toNat
  let b := s.inkDrops (List.range 48) + c.dropEvent.c
  if s.spaced c.dropEvent.time msNs && s.eventEnabled 0x0063 0 none && decide ((a, b) ≠ (c.dropEvent.a, c.dropEvent.b)) then
    let who := match c.dropFirst with
      | some (src, w, cause) => [(24, 2, src.toNat), (26, 1, w), (27, 1, cause)]
      | none => []
    (s.post 0x0063 0 (source 4 0 0 0 0) ([(16, 4, a - c.dropEvent.a), (20, 4, b - c.dropEvent.b)] ++ who) none).modFabCnt (fun y =>
      { y with dropEvent := { time := some s.time, a := a, b := s.inkDrops (List.range 48), c := 0, d := 0 }, dropFirst := none })
  else s
/-- WINDOW_DROP_EVENT. -/
def execWindowDropEvent (s : State) : Host.Outcome State Fault Refusal := .next (effWindowDropEvent s)

/-- Event 0x0001 for partition p where it has a delta (R656, R725). -/
def State.correctedEvent (s : State) (p : Nat) : State :=
  let x := s.quill.corrected.get Corrected.reset p
  if s.spaced x.last 1000000000 && s.eventEnabled 0x0001 1 none &&
      decide (0 < x.local_ + x.inkwell + x.bulk + x.ruling + x.fabric) then
    (s.post 0x0001 1 (source 3 0 0 p 0)
      [(16, 4, min x.local_ (2 ^ 32 - 1)), (20, 4, min x.inkwell (2 ^ 32 - 1)), (24, 4, min x.bulk (2 ^ 32 - 1)),
       (28, 2, min x.ruling (2 ^ 16 - 1)), (30, 2, min x.fabric (2 ^ 16 - 1))] none).modCorrected p (fun _ =>
        { Corrected.reset with last := some s.time })
  else s

/-- CORRECTED_ERROR_EVENT (R656): each partition that has a delta. -/
def effCorrectedErrorEvent (s : State) : State := (List.range 4).foldl State.correctedEvent s
/-- CORRECTED_ERROR_EVENT. -/
def execCorrectedErrorEvent (s : State) : Host.Outcome State Fault Refusal := .next (effCorrectedErrorEvent s)

/-! ### The hour (R717, R718) -/

/-- An hour in ns. -/
def hourNs : Nat := 3600 * 1000000000

/-- HEALTH_HOURLY (R717, R718): scores without a decrease in the hour rise by 5, and are saved. -/
def effHealthHourly (s : State) : State :=
  let s1 := if s.quill.health.lastDrop + hourNs ≤ s.time then s.scoreRise 5 else s
  let s2 := s1.modHealth (fun h =>
    { h with portScore := h.portScore.map (fun e =>
        if h.portDrop.get 0 e.1 + hourNs ≤ s.time then (e.1, min 1000 (e.2 + 5)) else e) })
  s2.saveHealth
/-- HEALTH_HOURLY. -/
def execHealthHourly (s : State) : Host.Outcome State Fault Refusal := .next (effHealthHourly s)

end Sys2Proof.Machine
end

