-- ==== Sys2Proof/Machine/Trials.lean ====
section
/-!
DEFINITION. Tests on command: RUN_BIST (13 R812 to R814), pattern packs (11 R682, R683), suspect replay (11 R708 to R710).
-/
namespace Sys2Proof.Machine

/-! ### RUN_BIST -/

/-- SCOPE of a RUN_BIST command. -/
def bistScope (c : Instr) : Option Nat :=
  match c with
  | .bistLogic _ => some 0
  | .bistInkwellMarch _ => some 1
  | .bistLpddrQuick _ => some 2
  | .bistLpddrFull _ => some 3
  | _ => none

/-- A condition of R807 fails: the reference is absent, or the generators run from holdover. -/
def State.testsBarred (s : State) : Bool := !s.module_.clock.present || s.module_.clock.holdover

/-- The bulk contents of the partition's quarter ranges are lost, its slots close, its scrolls are unloaded (R813). -/
def State.loseQuarters (s : State) (p : Nat) : State :=
  let m := (s.quartersOf p).foldl (fun (m : Store) q => m.zeroRange (quarterBase q) quarterSize) s.store
  let slots := s.bulk.slots.map (fun e => if s.slotPart e.1 = p then (e.1, Slot.reset) else e)
  let pend := s.bulk.pendPages.filter (fun e => decide (partOfQuarter s.dev.mode (e.1 / 262144) ≠ p))
  let t : State := { s with store := m, bulk := { s.bulk with slots := slots, pendPages := pend } }
  ((List.range 4).foldl (fun u i => u.modCtx (4 * p + i) (fun x =>
    { x with scroll := none
             lc := { x.lc with named := none, runImages := [], restartDue := false }
             run := { x.run with bulkPlaced := false, layoutValid := false } })) t).refreshMargin p

/-- What a scope destroys (R813). -/
def State.bistLoses (s : State) (p scope : Nat) : State :=
  if scope = 0 then s.clearPartition p true []
  else if scope = 1 then
    { s with store := (s.clustersOf p).foldl (fun (m : Store) k => m.zeroRange (inkBase k) inkSize) s.store }
  else s.loseQuarters p

/-- RUN_BIST (R774, R812): the test begins with the regions at 1,000 MHz, or WRONG_STATE with nothing changed. -/
def State.runBist (s : State) (h : Hdr) (scope : Nat) (cmd : Instr) : State :=
  s.hostCmd h { pfOnly 0x0501 true .one with work := true, args := [(16, 1, scope)] } true (fun s =>
    let p := s.hdrPart h
    let busy := (List.range 4).any (fun i => decide ((s.ctx (4 * p + i)).lc.life ≠ .off) || (s.ctx (4 * p + i)).lc.restartDue)
    if (s.qpart p).life ≠ .on ∨ busy ∨ s.testsBarred then s.complete h 0x0501 .wrongState 0
    else if s.bistRuns p then s.complete h 0x0501 .busy 0
    else ((s.deferJob h 0x0501 cmd scope).bistLoses p scope).relock p 13)

/-- BIST_LOGIC: SCOPE 0. -/
def effBistLogic (h : Hdr) (s : State) : State := s.runBist h 0 (.bistLogic h)
/-- BIST_LOGIC. -/
def execBistLogic (h : Hdr) (s : State) : Host.Outcome State Fault Refusal := .next (effBistLogic h s)
/-- BIST_INKWELL_MARCH: SCOPE 1. -/
def effBistInkwellMarch (h : Hdr) (s : State) : State := s.runBist h 1 (.bistInkwellMarch h)
/-- BIST_INKWELL_MARCH. -/
def execBistInkwellMarch (h : Hdr) (s : State) : Host.Outcome State Fault Refusal := .next (effBistInkwellMarch h s)
/-- BIST_LPDDR_QUICK: SCOPE 2. -/
def effBistLpddrQuick (h : Hdr) (s : State) : State := s.runBist h 2 (.bistLpddrQuick h)
/-- BIST_LPDDR_QUICK. -/
def execBistLpddrQuick (h : Hdr) (s : State) : Host.Outcome State Fault Refusal := .next (effBistLpddrQuick h s)
/-- BIST_LPDDR_FULL: SCOPE 3. -/
def effBistLpddrFull (h : Hdr) (s : State) : State := s.runBist h 3 (.bistLpddrFull h)
/-- BIST_LPDDR_FULL. -/
def execBistLpddrFull (h : Hdr) (s : State) : Host.Outcome State Fault Refusal := .next (effBistLpddrFull h s)

/-- Cores and routers that are fenced. -/
def State.fences (s : State) : Nat :=
  (s.cores.filter (fun e => e.2.ctl.fenced)).length + (s.clusters.filter (fun e => e.2.router.fenced)).length

/-- RESULT of a test (R814). -/
def bistResult (fences rows ranges bad crossings : Nat) : Nat :=
  min 255 fences + 2 ^ 8 * min 255 rows + 2 ^ 16 * min 65535 ranges + 2 ^ 32 * bad + 2 ^ 40 * min 255 crossings

/-- A finding that is not repairable takes partition p out of service (R814). CAUSE of the event has no value for it: a free
value (log 21). -/
def State.bistOut (s : State) (p : Nat) : State :=
  if (s.qpart p).out then s
  else
    let s1 := (s.draw.modQPart p (fun q => { q with out := true })).serviceChange 1 p 0 2 s.quill.health.score
      (s.freeNext.toNat % 256)
    (s1.coresOfPart p).foldl (fun t n => t.modCtl n (fun x => { x with st := .off })) s1

/-- BIST_DONE (R809, R814): the findings are handled, crossings are calibrated after a logic test, RESULT counts them. -/
def effBistDone (job : Nat) (found : List BistFinding) (cal : List XCal) (s : State) : State :=
  match s.job job with
  | none => s
  | some j =>
    match bistScope j.cmd with
    | none => s
    | some scope =>
      let p := s.hdrPart j.hdr
      let mine := if scope = 0 then cal.filter (fun x => decide (s.partOf x.k.val = p)) else []
      let failed := mine.filter (fun x => match s.crossingClass x.k.val x.port.toNat with
        | some c => decide (c < x.cal.toNat)
        | none => false)
      let rows := found.filter (fun f => match f with
        | .inkwellRow _ _ _ _ spare => spare
        | _ => false)
      let s1 := mine.foldl State.calibrate (found.foldl State.handleFinding s)
      let bad := found.any BistFinding.fatal
      let s2 := if bad then s1.bistOut p else s1
      (s2.finish job .ok (bistResult (s1.fences - s.fences) rows.length (s1.bulk.bad.length - s.bulk.bad.length)
        (if bad then 1 else 0) failed.length)).refreshPw p
/-- BIST_DONE. -/
def execBistDone (job : Nat) (found : List BistFinding) (cal : List XCal) (s : State) : Host.Outcome State Fault Refusal :=
  .next (effBistDone job found cal s)

/-- A condition of R807 ceases to hold (R814): the partitions under test are reset without counting, the commands complete
with ABORTED. -/
def State.abortBists (s : State) (cal : List XCal) : State :=
  (s.host.jobs.filter (fun e => (bistScope e.2.cmd).isSome)).foldl (fun t e =>
    ((t.resetPartition (s.hdrPart e.2.hdr) cal).finish e.1 .aborted 0).refreshPw (s.hdrPart e.2.hdr)) s

/-! ### Pattern packs -/

/-- One pattern of a pack: its images lie in the pack, the stores take them (R682). -/
def patternOk (b : List Byte) (i : Nat) : Bool :=
  let o := 64 + 64 * i
  let n := b.length
  let f := fun x w => fld b (o + x) w
  decide (f 0 8 + 4 * f 8 2 ≤ n ∧ f 8 2 ≤ 4096 ∧ f 10 2 < 4096 ∧ f 16 8 + f 24 4 ≤ n ∧ f 24 4 ≤ lsSize ∧ f 28 4 + f 32 4 ≤ lsSize)

/-- The fields of a pack are in range (R682). -/
def packOk (b : List Byte) : Bool :=
  let c := fld b 16 2
  decide (fld b 0 4 = 0x50464B53 ∧ fld b 4 2 = 1 ∧ fld b 6 1 = 1 ∧ fld b 7 1 = 0xA1 ∧ fld b 8 4 ≠ 0 ∧ 1 ≤ c ∧ c ≤ 1024) &&
    decide (fld b 24 8 = b.length ∧ 64 + 64 * c + 64 ≤ b.length) && (List.range c).all (patternOk b)

/-- Put a pack in the place of an older one with its PACK_ID, or behind the others. -/
def placePack (l : List Pack) (p : Pack) : List Pack :=
  if l.any (fun x => x.id == p.id) then l.map (fun x => if x.id = p.id then p else x) else l ++ [p]

/-- The record INDEX of a pack: its place among the loaded ones. -/
def packIndex (l : List Pack) (id : Word) : Nat := (l.takeWhile (fun x => x.id != id)).length

/-- LOAD_FIRN_PATTERNS (R554, R683). -/
def effLoadFirnPatterns (h : Hdr) (hostAddr : DWord) (len : Word) (pack : Option (List Byte)) (s : State) : State :=
  s.hostCmd h ((pfOnly 0x0503 false .any).on [(16, 8, hostAddr.toNat), (24, 4, len.toNat)]) (decide (hostAddr.toNat % 4 = 0)) (fun s =>
    if 4 * 1048576 < len.toNat then s.complete h 0x0503 .badParam 0
    else
      match pack with
      | none => s.complete h 0x0503 .aborted 0
      | some bytes =>
        let b := fitTo len.toNat bytes
        let front := b.take (b.length - 64)
        let p : Pack := { id := BitVec.ofNat 32 (fld b 8 4), version := BitVec.ofNat 32 (fld b 12 4), patterns := fld b 16 2, bytes := b }
        let sigOk := match s.module_.ident.enrolled 1 with
          | some k => verified k front (b.drop (b.length - 64))
          | none => false
        if !packOk b then s.complete h 0x0503 .badParam 0
        else if !sigOk then s.complete h 0x0503 .authFail 0
        else if s.quill.packs.any (fun x => decide (x.id = p.id ∧ p.version.toNat ≤ x.version.toNat)) then
          s.complete h 0x0503 .wrongState 0
        else if 4 ≤ (s.quill.packs.filter (fun x => x.id != p.id)).length then s.complete h 0x0503 .noResource 0
        else
          let l := placePack s.quill.packs p
          let s1 := (s.modQuill (fun q => { q with packs := l })).writeRec 5 (packIndex l p.id) 0 0 b
          (s1.moraineAppend 12 [(16, 4, p.id.toNat), (20, 4, p.version.toNat)]).complete h 0x0503 .ok 0)
/-- LOAD_FIRN_PATTERNS. -/
def execLoadFirnPatterns (h : Hdr) (hostAddr : DWord) (len : Word) (pack : Option (List Byte)) (s : State) :
    Host.Outcome State Fault Refusal :=
  .next (effLoadFirnPatterns h hostAddr len pack s)

/-! ### Suspect replay (R708 to R710) -/

/-- A suspect starts alone (R708): from its newest committed image, or from its scroll's images; none where it cannot start. It
posts no event 0x0013, whether another layout is selected or none is found (R236; DESIGN CHOICE, log 128). -/
def State.startSuspect (s : State) (c : Nat) : Option State :=
  let p := ctxPart c
  match (s.ctx c).scroll with
  | none => none
  | some sc =>
    match s.selectLayout c sc with
    | none => none
    | some l =>
      let rec_ := (sc.layout l).getD []
      if s.layoutPowered p (mappedClusters rec_ sc.clusters) then
        let t := s.takeLayout c l
        let image := (t.newestImage c).bind (fun q => (t.imageFor c q sc.digest).map (fun parts => (q, parts)))
        let quiet := image.bind (fun m => quietRec sc l (t.store.word (m.2.getD 0 0 + 24)))
        let clock := (s.ctx c).run.clockNamed
        match image, quiet with
        | some m, some q => some (t.bringUp c sc rec_ l (.image m.1 m.2 q.1 q.2) clock false)
        | _, _ => some (t.bringUp c sc rec_ l .fresh clock true)
      else none

/-- The replay of partition p ends (R709): `guilty` is 0xFF where no suspect hung. -/
def State.endReplay (s : State) (p guilty : Nat) : State :=
  let q := s.qpart p
  let s1 := s.modQPart p (fun q => { q with replay := 2, replayJob := none, replayCtx := none, suspects := 0 })
  match q.replayJob with
  | some j => s1.finish j .ok (guilty + 2 ^ 8 * q.replayRun)
  | none => s1

/-- The suspects from context number i on run, lowest first; where none can start any more the replay ends. -/
def State.replayFrom (fuel : Nat) (s : State) (p i : Nat) : State :=
  match fuel with
  | 0 => s.endReplay p 0xFF
  | f + 1 =>
    if 4 ≤ i then s.endReplay p 0xFF
    else if (s.qpart p).suspects.getLsbD i then
      match s.startSuspect (4 * p + i) with
      | some t => t.modQPart p (fun q => { q with replayCtx := some i, replayRun := q.replayRun + 1, lastStrokeTime := s.time })
      | none => State.replayFrom f s p (i + 1)
    else State.replayFrom f s p (i + 1)

/-- REPLAY_SUSPECTS (R708). -/
def effReplaySuspects (h : Hdr) (s : State) : State :=
  s.hostCmd h { pfOnly 0x0504 false .one with work := true } true (fun s =>
    let p := s.hdrPart h
    let q := s.qpart p
    if q.suspects = 0 ∨ q.replay = 1 ∨ !(s.liveContexts p).isEmpty then s.complete h 0x0504 .wrongState 0
    else
      let job := s.host.nextJob
      ((s.deferJob h 0x0504 (.replaySuspects h) 0).modQPart p (fun q =>
        { q with replay := 1, replayJob := some job, replayCtx := none, replayRun := 0 })).replayFrom 5 p 0)
/-- REPLAY_SUSPECTS. -/
def execReplaySuspects (h : Hdr) (s : State) : Host.Outcome State Fault Refusal := .next (effReplaySuspects h s)

/-- A suspect that has run is OFF and does not restart (R709). -/
def State.suspectOff (s : State) (c : Nat) : State :=
  (if (s.ctx c).lc.life = .off then s else s.stopContext c).modLife c (fun l => { l with restartDue := false })

/-- SUSPECT_RUN_END (R709, R710): a suspect hangs, stops, or has run for 10 s. -/
def effSuspectRunEnd (p : Fin 4) (hung : Bool) (cal : List XCal) (s : State) : State :=
  let q := s.qpart p
  match q.replayCtx with
  | none => s
  | some i =>
    if q.replay ≠ 1 then s
    else if hung then
      let stroke := (s.part p).stroke.count.toNat % 2 ^ 32
      let s1 := (s.resetPartition p cal).post 0x0020 3 (source 3 0 0 p 0)
        [(16, 1, 3), (17, 1, i), (18, 1, q.suspects.toNat), (20, 4, stroke), (24, 4, s.msSince q.lastStrokeTime)] (some p)
      let s2 := (List.range 4).foldl (fun t n => if q.suspects.getLsbD n then t.suspectOff (4 * p + n) else t) s1
      s2.endReplay p i
    else (s.suspectOff (4 * p + i)).replayFrom 5 p (i + 1)
/-- SUSPECT_RUN_END. -/
def execSuspectRunEnd (p : Fin 4) (hung : Bool) (cal : List XCal) (s : State) : Host.Outcome State Fault Refusal :=
  .next (effSuspectRunEnd p hung cal s)

end Sys2Proof.Machine
end

