-- ==== Sys2Proof/Machine/PowerCmds.lean ====
section
/-!
DEFINITION. POWER_STATE, DOMAIN_CONTROL, RESET_PARTITION, SET_POWER_CAP (13 R787 to R799; 11 R707, R722, R723), and what
happens of itself to domains and supplies (R653, R792, R796, R807).
-/
namespace Sys2Proof.Machine

/-! ### Fabric domains and the device level (R585, R791, R792) -/

/-- The ports of quarter q. -/
def quarterPorts (q : Nat) : List Nat := (List.range 4).map (fun i => 4 * q + i)

/-- The fabric domain of quarter q goes off: its ports are OFF with cause 11 (R585, R797). -/
def State.fabricDown (s : State) (q : Nat) : State :=
  ((quarterPorts q).foldl (fun t f => if (t.port f).st = .off then t else t.portTo f 11 .off) (s.domainDown (54 + q))).checkCentral

/-- The fabric domain of quarter q comes on: its ports go to DETECT (R796). -/
def State.fabricUp (s : State) (q : Nat) : State :=
  if s.domOn (54 + q) then s else (s.domainUp (54 + q)).portsToDetect (quarterPorts q)

/-- Device-level Retain (2) or Dormant (3): the fabric domains go off, their state is kept (R791). -/
def State.enterLow (s : State) (low : Nat) : State :=
  let s1 := if s.module_.power.low = 0 then s.modPower (fun w => { w with fabricWas := w.on.extractLsb' 54 4 }) else s
  (List.range 4).foldl State.fabricDown (s1.modPower (fun w => { w with low := low }))

/-- The device leaves Retain or Dormant: the fabric domains return to what they were (R791). -/
def State.leaveLow (s : State) : State :=
  if s.module_.power.low = 0 then s
  else
    let was := s.module_.power.fabricWas
    ((List.range 4).filter (fun q => was.getLsbD q)).foldl State.fabricUp (s.modPower (fun w => { w with low := 0 }))

/-! ### POWER_STATE (R722, R723, R788 to R791) -/

/-- Job `id` no longer waits for partition p. -/
def State.partDone (s : State) (p id : Nat) : State := s.modQPart p (fun q => { q with jobs := q.jobs.filter (fun j => j != id) })

/-- The command that partition p holds is cancelled (R723). -/
def State.cancelPart (s : State) (p : Nat) : State :=
  let t := s.modQPart p (fun q => { q with held := none })
  match (s.qpart p).held with
  | some (.enable j) => t.finish j .aborted 0
  | some (.disable j) => t.finish j .aborted 0
  | none => s

/-- A partition that is ON goes off (R790): frozen contexts stop at once, running ones at their next edge; with none left it
is OFF. -/
def State.disablePart (s : State) (p target : Nat) : State :=
  let s1 := (s.modQPart p (fun q => { q with life := .stopping, target := target })).checkCentral
  let s2 := (s1.liveContexts p).foldl (fun t c => if (t.ctx c).run.frozen then t.stopFrozen c else t) s1
  if (s2.qpart p).life = .stopping ∧ (s2.liveContexts p).isEmpty then (s2.partOff p).partHeld p else s2

/-- The preference of partition p (R788). -/
def State.setPref (s : State) (p state : Nat) : State :=
  s.modPower (fun w => { w with prefIdle := if state = 1 then w.prefIdle ||| BitVec.ofNat 4 (2 ^ p) else w.prefIdle &&& ~~~BitVec.ofNat 4 (2 ^ p) })

/-- The enable of partition p by job `id`, which waits for it (R723). -/
def State.enableOne (s : State) (id p state : Nat) (cal : List XCal) : State :=
  let s1 := match (s.qpart p).held with
    | some (.disable _) => s.cancelPart p
    | _ => s
  let s2 := s1.setPref p state
  match (s2.qpart p).life with
  | .off =>
    let t := s2.enablePart p cal
    if (t.qpart p).life = .on then t.partDone p id else t
  | .starting => s2
  | .on => (s2.partDone p id).refreshPw p
  | .stopping => (s2.partDone p id).modQPart p (fun q => { q with held := some (.enable id) })

/-- The disable of partition p by job `id`, which waits for it (R723). -/
def State.disableOne (s : State) (id p state : Nat) : State :=
  let s1 := match (s.qpart p).held with
    | some (.enable _) => s.cancelPart p
    | _ => s
  match (s1.qpart p).life with
  | .off => s1.partDone p id
  | .starting => (s1.partDone p id).modQPart p (fun q => { q with held := some (.disable id), target := state })
  | .on => s1.disablePart p state
  | .stopping => s1

/-- Whether a command is BUSY on partition p (R723). -/
def State.partBusy (s : State) (p state : Nat) : Bool :=
  match (s.qpart p).held with
  | some (.enable _) => decide (state < 2)
  | some (.disable _) => decide (2 ≤ state)
  | none => false

/-- Whether a command is held by partition p (R723). -/
def State.partHolds (s : State) (p state : Nat) : Bool :=
  if state < 2 then decide ((s.qpart p).life = .stopping) && (s.qpart p).held.isNone
  else decide ((s.qpart p).life = .starting) && (s.qpart p).held.isNone

/-- POWER_STATE in the safe state (R811): with cause 1 or 2, STATE 0 for the device runs start-up again from step 3. -/
def State.powerSafe (s : State) (h : Hdr) (state : Nat) (cmd : Instr) : State :=
  let c := s.module_.power.safeCause
  if h.partition = 0xFF ∧ state = 0 ∧ (c = 1 ∨ c = 2) then
    ((s.addJob h 0x0601 cmd 0).modPower (fun w => { w with step := 2, safeCause := 0, startJob := some s.host.nextJob })).modQuill
      (fun q => { q with running := false })
  else s.complete h 0x0601 .wrongState 0

/-- POWER_STATE (R788 to R791). -/
def State.powerState (s : State) (h : Hdr) (state : Nat) (cmd : Instr) (cal : List XCal) : State :=
  s.hostCmd h ((anySpec 0x0601 false true true).on [(16, 1, state)]) true (fun s =>
    let ps := s.namedParts h
    if s.inSafe then s.powerSafe h state cmd
    else if ps.any (fun p => s.partBusy p state) then s.complete h 0x0601 .busy 0
    else
      let id := s.host.nextJob
      let s1 := if ps.any (fun p => s.partHolds p state) then s.deferJob h 0x0601 cmd 0 else s.addJob h 0x0601 cmd 0
      let s2 := ps.foldl (fun t p => t.modQPart p (fun q => { q with jobs := q.jobs ++ [id] })) s1
      let s3 := if state < 2 then ps.foldl (fun t p => t.enableOne id p state cal) s2.leaveLow
        else
          let t := if h.partition = 0xFF then s2.enterLow state else s2
          ps.foldl (fun t p => t.disableOne id p state) t
      s3.settleJobs [id])

/-- POWER_STATE_RUN. -/
def effPowerStateRun (h : Hdr) (cal : List XCal) (s : State) : State := s.powerState h 0 (.powerStateRun h cal) cal
/-- POWER_STATE_RUN. -/
def execPowerStateRun (h : Hdr) (cal : List XCal) (s : State) : Host.Outcome State Fault Refusal := .next (effPowerStateRun h cal s)
/-- POWER_STATE_IDLE. -/
def effPowerStateIdle (h : Hdr) (cal : List XCal) (s : State) : State := s.powerState h 1 (.powerStateIdle h cal) cal
/-- POWER_STATE_IDLE. -/
def execPowerStateIdle (h : Hdr) (cal : List XCal) (s : State) : Host.Outcome State Fault Refusal := .next (effPowerStateIdle h cal s)
/-- POWER_STATE_RETAIN. -/
def effPowerStateRetain (h : Hdr) (s : State) : State := s.powerState h 2 (.powerStateRetain h) []
/-- POWER_STATE_RETAIN. -/
def execPowerStateRetain (h : Hdr) (s : State) : Host.Outcome State Fault Refusal := .next (effPowerStateRetain h s)
/-- POWER_STATE_DORMANT. -/
def effPowerStateDormant (h : Hdr) (s : State) : State := s.powerState h 3 (.powerStateDormant h) []
/-- POWER_STATE_DORMANT. -/
def execPowerStateDormant (h : Hdr) (s : State) : Host.Outcome State Fault Refusal := .next (effPowerStateDormant h s)

/-- DORMANT_HOST_INTERFACE_OFF (R791, R792): in device-level Dormant, once the completion is written, PD58 and PD59 go off:
the host link is down, the host's queues are lost, a staged image too. -/
def effDormantHostInterfaceOff (s : State) : State :=
  let off := (List.range 4).all (fun p => decide ((s.qpart p).life = .off))
  let waits := s.host.jobs.any (fun e => match e.2.cmd with
    | .powerStateDormant _ => true
    | _ => false)
  if s.module_.power.low = 3 ∧ off ∧ !waits ∧ s.domOn 58 then
    let s1 := (List.range 5).foldl (fun t f => t.modFn f (fun x => { Fn.reset with nonce := x.nonce })) s
    let s2 : State := { s1 with
      host := { s1.host with link := { speed := 0, width := 0, l0p := 0, flit := false }, linkKey := none
                             jobs := s1.host.jobs.map (fun e => (e.1, { e.2 with silent := e.2.silent || decide (e.2.hdr.fn ≠ 5) })) } }
    (((s2.modPower (fun w => { w with on := w.on &&& ~~~BitVec.ofNat 60 (3 * 2 ^ 58) })).modQuill (fun q =>
      { q with running := false })).modIdent (fun d => { d with staged := none }))
  else s
/-- DORMANT_HOST_INTERFACE_OFF. -/
def execDormantHostInterfaceOff (s : State) : Host.Outcome State Fault Refusal := .next (effDormantHostInterfaceOff s)

/-! ### DOMAIN_CONTROL (R45, R795 to R797) -/

/-- The partitions that contain domain n. -/
def State.domainParts (s : State) (n : Nat) : List Nat :=
  if n < 48 then [s.partOf n]
  else if n < 50 then (partitionsOf s.dev.mode).filter (fun p => (s.netsOf p).contains n)
  else if n < 54 then [partOfQuarter s.dev.mode (n - 50)]
  else if n < 58 then [partOfQuarter s.dev.mode (n - 54)]
  else []

/-- A domain is switched on or off by itself: an off of a cluster domain is to retention. -/
def State.switchDomain (s : State) (n : Nat) (on : Bool) : State :=
  if n < 48 then (if on then s.clusterUp n else s.clusterDown n true)
  else if n < 50 then (if on then s.domainUp n else s.netDown n)
  else if n < 54 then (if on then s.controllersUp (n - 50) else s.controllersDown (n - 50))
  else if n < 58 then (if on then s.fabricUp (n - 54) else s.fabricDown (n - 54))
  else s

/-- Whether R797 or R45 forbids a switch. -/
def State.switchBarred (s : State) (n : Nat) (on : Bool) : Bool :=
  if on then decide (n < 48) && !s.domOn (48 + colOf n / 4)
  else
    let used := decide (n < 54) && (s.domainParts n).any (fun p => (List.range 4).any (fun i =>
      decide ((s.ctx (4 * p + i)).lc.life ≠ .off) || (s.ctx (4 * p + i)).lc.restartDue))
    used || (decide (48 ≤ n ∧ n < 50) && (List.range 48).any (fun k => decide (48 + colOf k / 4 = n) && s.domOn k))

/-- The DOMAIN_CONTROL commands in progress on domain n: `on` or off, carried out (1) or held (0). -/
def State.domainJobs (s : State) (n : Nat) (on : Bool) (phase : Nat) : List Nat :=
  (s.host.jobs.filter (fun e => decide (e.2.value = phase) && (match e.2.cmd with
    | .domainOn _ d => on && decide (d.toNat = n)
    | .domainOff _ d => !on && decide (d.toNat = n)
    | _ => false))).map (fun e => e.1)

/-- A domain moves through OFF, STARTING, ON and STOPPING (R722): it ramps while a command on it is in progress. -/
def State.domainLife (s : State) (n : Nat) : Life :=
  if !(s.domainJobs n true 1).isEmpty then .starting
  else if !(s.domainJobs n false 1).isEmpty then .stopping
  else if s.domOn n then .on else .off

/-- DOMAIN_CONTROL (R723, R797): the command ends once the ramp does. -/
def State.domainControl (s : State) (h : Hdr) (n : Nat) (on : Bool) (cmd : Instr) : State :=
  s.hostCmd h ((pfOnly 0x0602 false .any).on [(16, 1, n), (17, 1, if on then 1 else 0)]) (decide (n < 58)) (fun s =>
    let life := s.domainLife n
    let heldSame := s.domainJobs n on 0
    let heldOther := s.domainJobs n (!on) 0
    let target := if on then Life.on else Life.off
    let source_ := if on then Life.off else Life.on
    let counter := if on then Life.stopping else Life.starting
    if (s.domainParts n).any (fun p => decide ((s.qpart p).life = .starting ∨ (s.qpart p).life = .stopping)) then
      s.complete h 0x0602 .busy 0
    else if !heldSame.isEmpty then s.complete h 0x0602 .busy 0
    else if !heldOther.isEmpty then (s.finishAll heldOther .aborted 0).addJob h 0x0602 cmd 1
    else if life = target then s.complete h 0x0602 .ok 0
    else if life = counter then s.deferJob h 0x0602 cmd 0
    else if life = source_ then
      if s.switchBarred n on then s.complete h 0x0602 .wrongState 0
      else if on then s.addJob h 0x0602 cmd 1
      else (s.addJob h 0x0602 cmd 1).switchDomain n false
    else s.addJob h 0x0602 cmd 1)

/-- DOMAIN_ON. -/
def effDomainOn (h : Hdr) (domain : Byte) (s : State) : State := s.domainControl h domain.toNat true (.domainOn h domain)
/-- DOMAIN_ON. -/
def execDomainOn (h : Hdr) (domain : Byte) (s : State) : Host.Outcome State Fault Refusal := .next (effDomainOn h domain s)
/-- DOMAIN_OFF. -/
def effDomainOff (h : Hdr) (domain : Byte) (s : State) : State := s.domainControl h domain.toNat false (.domainOff h domain)
/-- DOMAIN_OFF. -/
def execDomainOff (h : Hdr) (domain : Byte) (s : State) : Host.Outcome State Fault Refusal := .next (effDomainOff h domain s)

/-- A held command on domain n is carried out (R723). -/
def State.carryDomain (s : State) (n : Nat) (on : Bool) : State :=
  (s.domainJobs n on 0).foldl (fun t j =>
    if t.switchBarred n on then t.finish j .wrongState 0
    else
      let u : State := { t with host := { t.host with jobs := t.host.jobs.map (fun e => if e.1 = j then (e.1, { e.2 with value := 1 }) else e) } }
      if on then u else u.switchDomain n false) s

/-- DOMAIN_RAMP_DONE (R722, R723, R795, R796): the domain that ramps reaches ON or OFF; its commands end, held ones are
carried out. -/
def effDomainRampDone (domain : BitVec 6) (s : State) : State :=
  let n := domain.toNat
  match s.domainLife n with
  | .starting => ((s.switchDomain n true).finishAll (s.domainJobs n true 1) .ok 0).carryDomain n false
  | .stopping => (s.finishAll (s.domainJobs n false 1) .ok 0).carryDomain n true
  | .on => s
  | .off => s
/-- DOMAIN_RAMP_DONE. -/
def execDomainRampDone (domain : BitVec 6) (s : State) : Host.Outcome State Fault Refusal := .next (effDomainRampDone domain s)

/-! ### RESET_PARTITION, SET_POWER_CAP -/

/-- RESET_PARTITION (R707): DEFERRED, the reset, OK. -/
def effResetPartition (h : Hdr) (cal : List XCal) (s : State) : State :=
  s.hostCmd h { opcode := 0x0603, vf := true, bc := true, safe := false, part := .one, context := false, work := true } true (fun s =>
    let p := s.hdrPart h
    let l := (s.qpart p).life
    if l = .starting ∨ l = .stopping then s.complete h 0x0603 .busy 0
    else (((s.deferJob h 0x0603 (.resetPartition h cal) 0).resetPartition p cal).refreshPw p).finish s.host.nextJob .ok 0)
/-- RESET_PARTITION. -/
def execResetPartition (h : Hdr) (cal : List XCal) (s : State) : Host.Outcome State Fault Refusal := .next (effResetPartition h cal s)

/-- SET_POWER_CAP (R563, R799). -/
def effSetPowerCap (h : Hdr) (capW : Half) (s : State) : State :=
  s.hostCmd h ((anySpec 0x0604 false true true).on [(16, 2, capW.toNat)]) (decide (capW = 0 ∨ (300 ≤ capW.toNat ∧ capW.toNat ≤ 1350))) (fun s =>
    (s.modPower (fun w => if h.fn = 5 then { w with bcW := capW } else { w with hostW := capW })).complete h 0x0604 .ok 0)
/-- SET_POWER_CAP. -/
def execSetPowerCap (h : Hdr) (capW : Half) (s : State) : Host.Outcome State Fault Refusal := .next (effSetPowerCap h capW s)

/-! ### Supplies -/

/-- DOMAIN_SUPPLY_FAILURE (R653, R724): of a cluster that a running context uses, a partition fault with CAUSE 5; of another,
the domain is lost. -/
def effDomainSupplyFailure (k : Fin 48) (cal : List XCal) (s : State) : State :=
  if s.domOn k.val then
    match s.ctxOfCluster k.val with
    | some c => if (s.ctx c).lc.life = .off then s.clusterDown k.val false else s.partFault (ctxPart c) 5 0 cal
    | none => s.clusterDown k.val false
  else s
/-- DOMAIN_SUPPLY_FAILURE. -/
def execDomainSupplyFailure (k : Fin 48) (cal : List XCal) (s : State) : Host.Outcome State Fault Refusal :=
  .next (effDomainSupplyFailure k cal s)

/-- Whether start-up is in its tests (R807). -/
def State.inTests (s : State) : Bool := decide (2 ≤ s.module_.power.step ∧ s.module_.power.step ≤ 4)

/-- SUPPLY_OUT_OF_TOLERANCE (R677, R807, R814): start-up goes to the safe state, a running test is aborted; beyond 3 percent
the region's patterns are abandoned. -/
def effSupplyOutOfTolerance (r : Fin 8) (wide : Bool) (cal : List XCal) (s : State) : State :=
  if s.inTests then (s.enterSafe 1 0).endStartJob
  else
    let s1 := s.abortBists cal
    if wide then
      (s1.quill.care.filter (fun e => e.2.pattern.isSome && decide (regionOf (kOf e.1) = r.val))).foldl (fun t e =>
        (t.modCare e.1 (fun x => { x with pattern := none, retest := false })).modCtl e.1 (fun x =>
          { x with st := .idle, patrol := false })) s1
    else s1
/-- SUPPLY_OUT_OF_TOLERANCE. -/
def execSupplyOutOfTolerance (r : Fin 8) (wide : Bool) (cal : List XCal) (s : State) : Host.Outcome State Fault Refusal :=
  .next (effSupplyOutOfTolerance r wide cal s)

end Sys2Proof.Machine
end

