-- ==== Sys2Proof/Machine/Thermal.lean ====
section
/-!
DEFINITION. The reference (13 R783 to R786), the power cap (R799 to R803), thermal limits (R804, R805).
-/
namespace Sys2Proof.Machine

/-! ### The reference -/

/-- A length of time as a saturating number. -/
def cut16 (n : Nat) : Half := BitVec.ofNat 16 (min n 0xFFFF)

/-- REFERENCE_LOSS (R783 to R785): generators and time base switch to the holdover oscillator; a running test is aborted
(R814), start-up in its tests goes to the safe state (R807). -/
def effReferenceLoss (cause : Byte) (us : Word) (cal : List XCal) (s : State) : State :=
  if s.module_.clock.holdover ∨ !s.module_.entry.on then s
  else
    let s1 := s.modClock (fun c => { c with present := false, holdover := true, losses := satInc c.losses, lossAt := s.time })
    let s2 := s1.post 0x0031 1 (source 3 0 0 0 0) [(16, 1, cause.toNat), (20, 4, us.toNat)] none
    if s2.inTests then (s2.enterSafe 2 0).endStartJob else s2.abortBists cal
/-- REFERENCE_LOSS. -/
def execReferenceLoss (cause : Byte) (us : Word) (cal : List XCal) (s : State) : Host.Outcome State Fault Refusal :=
  .next (effReferenceLoss cause us cal s)

/-- REFERENCE_RESTORED (R786). -/
def effReferenceRestored (ppb : Word) (s : State) : State :=
  let c := s.module_.clock
  if c.holdover then
    let ns := s.time - c.lossAt
    (s.modClock (fun c => { c with present := true, holdover := false, lastMs := cut16 (ns / 1000000) })).post 0x0032 0
      (source 3 0 0 0 0) [(16, 8, ns / 1000), (24, 4, ppb.toNat)] none
  else s
/-- REFERENCE_RESTORED. -/
def execReferenceRestored (ppb : Word) (s : State) : Host.Outcome State Fault Refusal := .next (effReferenceRestored ppb s)

/-! ### The power cap -/

/-- D after one comparison (R800). -/
def nextDelay (d watts cap : Nat) : Nat :=
  if cap < watts then min 256 (d + 8) else if watts * 100 < cap * 97 then d - 8 else d

/-- The seam ratio code that slows a half (R217). -/
def slowCode (east : Bool) : Nat := if east then 2 else 1

/-- One second in ns. -/
def secondNs : Nat := 1000000000

/-- In whole mode, D at 256 for 1 s asks for 1:2 in the hotter half, D at 0 for 10 s after it for 1:1 (R803). -/
def State.capSeamStep (s : State) : State :=
  let w := s.module_.power
  if s.dev.mode ≠ 0 then s
  else if !w.capSeam && w.maxSince.any (fun t => decide (t + secondNs ≤ s.time)) then
    let east := decide ((w.hottestOf (sensorsOf false)).2.toInt < (w.hottestOf (sensorsOf true)).2.toInt)
    (s.modPower (fun w => { w with capSeam := true })).seamRequest 0 (slowCode east)
  else if w.capSeam && w.zeroSince.any (fun t => decide (t + 10 * secondNs ≤ s.time)) then
    (s.modPower (fun w => { w with capSeam := false })).seamRequest 0 0
  else s

/-- POWER_CAP_TICK (R799 to R803): PW_INPUT is compared with the effective cap. -/
def effPowerCapTick (watts : Half) (s : State) : State :=
  if s.quill.running then
    let s1 := s.modPower (fun w =>
      let d := nextDelay w.delay watts.toNat w.effective
      { w with watts := watts, delay := d
               maxSince := if d = 256 then some (w.maxSince.getD s.time) else none
               zeroSince := if d = 0 then some (w.zeroSince.getD s.time) else none })
    s1.capSeamStep
  else s
/-- POWER_CAP_TICK. -/
def execPowerCapTick (watts : Half) (s : State) : Host.Outcome State Fault Refusal := .next (effPowerCapTick watts s)

/-! ### Thermal limits -/

/-- The level of a temperature in 0.1 °C (R804). -/
def thermLevel (t : Int) : Nat :=
  if 1250 ≤ t then 4 else if 1100 ≤ t then 3 else if 1000 ≤ t then 2 else if 950 ≤ t then 1 else 0

/-- The number of a sensor: clusters 0 to 47, 48 the seam bridge, 49 the host spine. -/
def thermIndex (x : ThermSensor) : Nat :=
  match x with
  | .cluster k => k.val
  | .seam => 48
  | .spine => 49

/-- The level of a half. -/
def Power.levelOf (w : Power) (east : Bool) : Nat := if east then w.east else w.west

/-- A level takes a value; throttle is counted from its beginning. -/
def State.setLevel (s : State) (east : Bool) (n : Nat) : State :=
  s.modPower (fun w =>
    let i := if east then 1 else 0
    let since := if n = 2 ∨ n = 3 then
        (if w.throttleSince.any (fun e => decide (e.1 = i)) then w.throttleSince else w.throttleSince.set i s.time)
      else w.throttleSince.filter (fun e => decide (e.1 ≠ i))
    if east then { w with east := n, throttleSince := since } else { w with west := n, throttleSince := since })

/-- The cluster domains of partition p go off for a thermal emergency: it is reset without counting (R805) and stays STARTING
until they may come on; one that was going off is OFF. -/
def State.emergencyPart (s : State) (p : Nat) : State :=
  let s1 := s.resetPartition p []
  if (s1.qpart p).life = .stopping then (s1.partOff p).partHeld p
  else (((s1.clustersOf p).foldl (fun t k => t.clusterDown k false) s1).modQPart p (fun q => { q with life := .starting })).refreshPw p

/-- A thermal emergency in a half (R804): event 0x00B0 with severity 3; every partition with a cluster in the half is reset and
its cluster domains are held off. -/
def State.emergency (s : State) (east : Bool) : State :=
  let ps := (partitionsOf s.dev.mode).filter (fun p => (s.clustersOf p).any (fun k => decide (4 ≤ colOf k) == east))
  let on := ps.filter (fun p => decide ((s.qpart p).life = .on ∨ (s.qpart p).life = .stopping))
  let s1 := s.modPower (fun w => { w with held := w.held ||| (if east then 2 else 1) })
  on.foldl State.emergencyPart (s1.postThermal 3 east (on.foldl (fun a p => a + 2 ^ p) 0))

/-- A thermal trip (R804, R808): every domain but AON is off; bulk memory is lost with its slots, images and scrolls. -/
def State.trip (s : State) : State :=
  let t := s.deviceReset
  let west := decide (4 ≤ thermLevel ((s.module_.power.hottestOf (sensorsOf false)).2.toInt))
  let east := decide (4 ≤ thermLevel ((s.module_.power.hottestOf (sensorsOf true)).2.toInt))
  ((List.range 4).foldl State.refreshMargin ({ t with store := .reset, bulk := .reset, ctxs := [] } : State)).modPower (fun w =>
    { w with step := 0, tripped := true, west := if west then 4 else w.west, east := if east then 4 else w.east })

/-- A half after a sample: a change of level posts event 0x00B0, a rise to emergency acts (R804, R805). -/
def State.levelStep (s : State) (east : Bool) : State :=
  let w := s.module_.power
  let n := thermLevel (w.hottestOf (sensorsOf east)).2.toInt
  if n = w.levelOf east then s
  else
    let s1 := s.setLevel east n
    if n = 3 then s1.emergency east else s1.postThermal n east 0

/-- THERMAL_SAMPLE (R804, R818): the sample is kept; the levels of both halves follow. While a trip holds the domains off only
the sample is kept. -/
def effThermalSample (sensor : ThermSensor) (temp : BitVec 16) (s : State) : State :=
  if !s.module_.entry.on then s
  else
    let s1 := s.modPower (fun w => { w with temps := w.temps.set (thermIndex sensor) temp })
    let hot := s1.module_.power.hottestOf (List.range 50)
    let s2 := s1.modPower (fun w => { w with hottest := hot.2, hotCluster := if hot.1 < 48 then BitVec.ofNat 6 hot.1 else 63 })
    if s2.module_.power.tripped then s2
    else if 1250 ≤ temp.toInt then s2.trip
    else (s2.levelStep false).levelStep true
/-- THERMAL_SAMPLE. -/
def execThermalSample (sensor : ThermSensor) (temp : BitVec 16) (s : State) : Host.Outcome State Fault Refusal :=
  .next (effThermalSample sensor temp s)

/-- Every sensor of a half reads below a temperature. -/
def Power.allBelow (w : Power) (east : Bool) (t : Int) : Bool := (sensorsOf east).all (fun i => decide ((w.temps.get 0 i).toInt < t))

/-- A half in throttle for 1 s in whole mode asks for 1:2 there (R804). -/
def State.throttleSeam (s : State) (east : Bool) : State :=
  let w := s.module_.power
  let since := w.throttleSince.find? (fun e => decide (e.1 = (if east then 1 else 0)))
  if s.dev.mode = 0 ∧ 2 ≤ w.levelOf east ∧ since.any (fun e => decide (e.2 + secondNs ≤ s.time)) then s.seamRequest 0 (slowCode east)
  else s

/-- THERMAL_THROTTLE_STEP (R804): every 100 ms the cut grows by 50 W while a half is above the throttle level, and falls by
50 W once every sensor of both reads below 97 °C. -/
def effThermalThrottleStep (s : State) : State :=
  let w := s.module_.power
  let cut :=
    if 2 ≤ w.west ∨ 2 ≤ w.east then min 1350 (w.cut + 50)
    else if w.allBelow false 970 && w.allBelow true 970 then w.cut - 50
    else w.cut
  ((s.modPower (fun w => { w with cut := cut })).throttleSeam false).throttleSeam true
/-- THERMAL_THROTTLE_STEP. -/
def execThermalThrottleStep (s : State) : Host.Outcome State Fault Refusal := .next (effThermalThrottleStep s)

/-- A partition that nothing holds any more comes ON; the commands that waited end, a held disable is carried out (R723). -/
def State.releasePart (s : State) (cal : List XCal) (p : Nat) : State :=
  if (s.qpart p).life = .starting ∧ !s.heatHeld p then
    let jobs := (s.qpart p).jobs
    let s1 := ((s.modQPart p (fun q => { q with jobs := [] })).partOn p cal).settleJobs jobs
    match (s1.qpart p).held with
    | some (.disable j) =>
      let state := (s1.qpart p).target
      ((s1.modQPart p (fun q => { q with held := none, jobs := [j] })).disablePart p state).settleJobs [j]
    | _ => s1
  else s

/-- THERMAL_HOLD_RELEASE (R804): every sensor of the half has read below 90 °C for 10 s. -/
def effThermalHoldRelease (east : Bool) (cal : List XCal) (s : State) : State :=
  let w := s.module_.power
  let bit : BitVec 2 := if east then 2 else 1
  if (w.held &&& bit) ≠ 0 ∧ w.allBelow east 900 then
    (partitionsOf s.dev.mode).foldl (fun t p => t.releasePart cal p) (s.modPower (fun w => { w with held := w.held &&& ~~~bit }))
  else s
/-- THERMAL_HOLD_RELEASE. -/
def execThermalHoldRelease (east : Bool) (cal : List XCal) (s : State) : Host.Outcome State Fault Refusal :=
  .next (effThermalHoldRelease east cal s)

end Sys2Proof.Machine
end

