-- ==== Sys2Proof/Machine/BcCmds.lean ====
section
/-!
DEFINITION. The management path of the board controller (09 R566 to R570), DOE, SPDM and IDE (09 R519, R520; 14 R826), the
end of recovery (14 R830).
-/
namespace Sys2Proof.Machine

/-! ### Command packets over MCTP (R568, R569) -/

/-- The reply buffer of the board controller: BUF_LEN bounds the reply (R568). -/
def bcReply (b : List Byte) : Reply := { addr := 0, len := BitVec.ofNat 32 (fld b 8 4), ok := true }

/-- Carry out a command packet of the board controller; `b` gives packet bytes 16 and up. A command without a mark in column
BC is refused (R507). -/
def State.bcCommand (s : State) (h : Hdr) (op : Nat) (b : List Byte) (cal : List XCal) : State :=
  let x := fun i n => fld b (i - 16) n
  let y := fun i => BitVec.ofNat 8 (x i 1)
  let r := bcReply b
  if op = 0x0001 then effHello h (y 16) (y 17) (y 18) s
  else if op = 0x0002 then effGetInfo h r s
  else if op = 0x0004 then effSetEventMask h (BitVec.ofNat 256 (x 16 32)) s
  else if op = 0x0103 then effGetWatermark h r s
  else if op = 0x0104 then effSetThresholds h b s
  else if op = 0x0502 then effGetMoraine h r (y 28) s
  else if op = 0x0505 then effGetHealth h r s
  else if op = 0x0506 then effReturnToService h (y 16) (y 17) s
  else if op = 0x0601 then
    (if x 16 1 = 0 then effPowerStateRun h cal s
     else if x 16 1 = 1 then effPowerStateIdle h cal s
     else if x 16 1 = 2 then effPowerStateRetain h s
     else effPowerStateDormant h s)
  else if op = 0x0603 then effResetPartition h cal s
  else if op = 0x0604 then effSetPowerCap h (BitVec.ofNat 16 (x 16 2)) s
  else if op = 0x0701 then effAttest h r (BitVec.ofNat 256 (x 32 32)) s
  else if op = 0x0704 then effRecordRead h r (BitVec.ofNat 16 (x 28 2)) (BitVec.ofNat 16 (x 30 2)) s
  else if op = 0x0801 then effMeterRead h r s
  else if op = 0x0802 then
    (if x 40 1 = 0 then effMeterStampStart h r (BitVec.ofNat 64 (x 32 8)) s
     else effMeterStampEnd h r (BitVec.ofNat 64 (x 32 8)) s)
  else s.hostCmd h { anySpec op true false true with vf := false } true (fun s => s.complete h op .notPermitted 0)

/-- The partition that a command of the board controller needs ON (R569, R792): the one it names, but for POWER_STATE. -/
def State.bcNeeds (s : State) (h : Hdr) (op : Nat) : Option Nat :=
  if op ≠ 0x0601 ∧ h.partition.toNat ≤ 3 then some (s.hdrPart h) else none

/-- In Dormant, the partition that the command needs is enabled first (R569, R792). -/
def State.wakeFor (s : State) (h : Hdr) (op : Nat) (cal : List XCal) : State :=
  match s.bcNeeds h op with
  | some p => if (s.qpart p).life = .off then (s.leaveLow).enablePart p cal else s
  | none => s

/-- Run a request of the board controller (R568): its length is 64 bytes and those of its block; then the checks of R540. -/
def State.bcRequest (s : State) (msg : List Byte) (dormant : Bool) (cal : List XCal) : State :=
  let h := pktHdr 5 0 msg
  let op := fld msg 0 2
  let want := if h.indirect then 64 + fld msg 24 4 else 64
  let s1 : State := { s with host := { s.host with bc := { s.host.bc with tags := s.host.bc.tags + 1 } } }
  if msg.length ≠ want then s1.refusePacket h op .badParam
  else
    match s1.packetRefusal h msg with
    | some st => s1.refusePacket h op st
    | none => (if dormant then s1.wakeFor h op cal else s1).bcCommand h op (if h.indirect then msg.drop 64 else msg.drop 16) cal

/-- MCTP_COMMAND_REQUEST (R568, R569): at most four are outstanding, a fifth is not taken (log 22). In Dormant the Quill is
powered first; where its firmware waits for recovery the command is held. -/
def effMctpCommandRequest (msg : List Byte) (cal : List XCal) (s : State) : State :=
  if 4 ≤ s.host.bc.tags then s
  else if s.quill.running then s.bcRequest msg false cal
  else if s.module_.power.low = 3 ∧ !s.domOn 58 then
    let t := s.wakeQuill
    if t.quill.running then t.bcRequest msg true cal else t.modPower (fun w => { w with wake := some msg })
  else s
/-- MCTP_COMMAND_REQUEST. -/
def execMctpCommandRequest (msg : List Byte) (cal : List XCal) (s : State) : Host.Outcome State Fault Refusal :=
  .next (effMctpCommandRequest msg cal s)

/-! ### Recovery (R569, R582, R830) -/

/-- A command that AON holds is passed on once the Quill runs (R569). -/
def State.passHeld (s : State) : State :=
  match s.module_.power.wake with
  | some msg => if s.quill.running then (s.modPower (fun w => { w with wake := none })).bcRequest msg true [] else s
  | none => s

/-- The first n bytes of the recovery window. -/
def State.windowBytes (s : State) (n : Nat) : List Byte := (List.range n).map (fun i => Memory.read s.host.window i)

/-- An image that runs after recovery: start-up goes on from step 3, or the Quill starts (R830). -/
def State.afterRecovery (s : State) : State :=
  if s.module_.power.step < 2 then s.modPower (fun w => { w with step := 2 })
  else if s.quill.restarting then s.restartDone
  else s.quillStarts

/-- RECOVERY_GO (R582, R830): the window's first LENGTH bytes are checked; a valid image runs, and a
command of the board controller that waited for it is passed on (R569). -/
def effRecoveryGo (s : State) : State :=
  if s.booted then s
  else
    let n := s.host.recoveryLen.toNat
    let b := s.windowBytes (min n 0x800000)
    if n ≤ 0x800000 ∧ imageLength b ≤ n ∧ imageValid b then ((s.bootImage b true).afterRecovery).passHeld
    else s.modIdent (fun d => { d with recoveryFails := satInc d.recoveryFails })
/-- RECOVERY_GO. -/
def execRecoveryGo (s : State) : Host.Outcome State Fault Refusal := .next (effRecoveryGo s)

/-! ### MCTP control, addresses (R566, R567, R570) -/

/-- The answer to an MCTP control request (log 23: DSP0236): completion code and data. -/
def controlAnswer (eid : Byte) (cmd : Nat) : List Byte :=
  if cmd = 1 then [0, 0, eid, 0]
  else if cmd = 2 then [0, eid, 0, 0]
  else if cmd = 4 then [0, 1, 0xF1, 0xF3, 0xF1, 0]
  else if cmd = 5 then [0, 3, 0x05, 0x06, 0x7E]
  else [5]

/-- MCTP_CONTROL_MESSAGE (R567, log 23): an answer to each request; Set Endpoint ID sets the endpoint ID. -/
def effMctpControlMessage (msg : List Byte) (s : State) : State :=
  let cmd := fld msg 1 1
  let s1 : State := if cmd = 1 then
      { s with host := { s.host with bc := { s.host.bc with eid := BitVec.ofNat 8 (fld msg 3 1) } } }
    else s
  s1.emit (.bcMessage ([0x00, BitVec.ofNat 8 (fld msg 0 1 % 32), BitVec.ofNat 8 cmd] ++ controlAnswer s1.host.bc.eid cmd))
/-- MCTP_CONTROL_MESSAGE. -/
def execMctpControlMessage (msg : List Byte) (s : State) : Host.Outcome State Fault Refusal := .next (effMctpControlMessage msg s)

/-- The static address of the target, for SETDASA (R566). -/
def i3cStatic : BitVec 7 := 0x3A

/-- I3C_ADDRESS_ASSIGN (R566, R570): by ENTDAA, or by SETDASA to the static address, the target has a dynamic address; the
records held for the board controller are sent and the alert signal ends. A SETDASA to another address is not the target's. -/
def effI3cAddressAssign (addr : BitVec 7) (static_ : Option (BitVec 7)) (s : State) : State :=
  if static_.any (fun a => a != i3cStatic) then s
  else
  let held := s.host.bc.held
  let s1 : State := { s with host := { s.host with bc := { s.host.bc with address := addr, assigned := true, held := [], alert := false } } }
  held.foldl (fun t r => t.emit (.bcMessage r)) s1
/-- I3C_ADDRESS_ASSIGN. -/
def execI3cAddressAssign (addr : BitVec 7) (s : State) (static_ : Option (BitVec 7) := none) : Host.Outcome State Fault Refusal :=
  .next (effI3cAddressAssign addr static_ s)

/-! ### DOE, SPDM, IDE (R519, R520, R826) -/

/-- The data object types of the PF's mailbox (R519), with the vendor ID and types of PCI-SIG (log 23): Discovery, CMA-SPDM,
Secured CMA-SPDM; the index of the next, 0 after the last. -/
def doeProtocol (index : Nat) : List Byte :=
  if index ≤ 2 then [0x01, 0x00, BitVec.ofNat 8 index, if index = 2 then 0 else BitVec.ofNat 8 (index + 1)]
  else [0xFF, 0xFF, 0, 0]

/-- DOE_DISCOVERY (R519): the PF has the one mailbox. -/
def effDoeDiscovery (fn : Fin 6) (index : Byte) (s : State) : State :=
  if fn = 0 then s.emit (.doe 0 ([0x01, 0x00, 0x00, 0x00, 3, 0, 0, 0] ++ doeProtocol index.toNat)) else s
/-- DOE_DISCOVERY. -/
def execDoeDiscovery (fn : Fin 6) (index : Byte) (s : State) : Host.Outcome State Fault Refusal :=
  .next (effDoeDiscovery fn index s)

/-- Whether a channel carries SPDM: the PF's mailbox and MCTP do (R519, R567); secured messages only within the board
controller's session. -/
def State.spdmValid (s : State) (c : SpdmChannel) : Bool :=
  match c with
  | .doe fn => fn == 0
  | .mctp => true
  | .secured => decide ((s.fn 5).spdm = .session)

/-- The function whose session a channel keeps. -/
def spdmOwner (c : SpdmChannel) : Nat :=
  match c with
  | .doe fn => fn.val
  | .mctp => 5
  | .secured => 5

/-- Send an SPDM message. -/
def State.answerSpdm (s : State) (c : SpdmChannel) (b : List Byte) : State :=
  match c with
  | .doe fn => s.emit (.doe fn.val b)
  | .mctp => s.emit (.bcMessage (0x05 :: b))
  | .secured => s.emit (.bcMessage (0x06 :: b))

/-- The algorithms that the responder offers (R519), and no others, as one-hot fields of the negotiation (log 23: SPDM 1.3):
signature SM2_P256, hash SM3_256, key exchange SM2_P256, AEAD of AES-256-GCM and SM4_GCM. -/
structure SpdmOffer where
  asym : Nat
  hash : Nat
  dhe : Nat
  aead : Nat
  deriving DecidableEq, Repr

/-- What the device offers. -/
def spdmOffer : SpdmOffer := { asym := 2 ^ 9, hash := 2 ^ 6, dhe := 2 ^ 6, aead := 2 ^ 1 + 2 ^ 3 }

/-- The mask of an algorithm structure of a type in a NEGOTIATE_ALGORITHMS request: DHE 2, AEAD 3. -/
def spdmAlg (msg : List Byte) (type : Nat) : Nat :=
  ((List.range (fld msg 2 1)).map (fun i => (fld msg (32 + 4 * i) 1, fld msg (34 + 4 * i) 2))).foldl (fun a e =>
    if e.1 = type then e.2 else a) 0

/-- Whether a NEGOTIATE_ALGORITHMS request asks for an algorithm of each kind that the device offers (R519). -/
def spdmAgrees (msg : List Byte) : Bool :=
  decide (fld msg 8 4 &&& spdmOffer.asym ≠ 0 ∧ fld msg 12 4 &&& spdmOffer.hash ≠ 0 ∧
    spdmAlg msg 2 &&& spdmOffer.dhe ≠ 0 ∧ spdmAlg msg 3 &&& spdmOffer.aead ≠ 0)

/-- The phase that follows a request (SPDM 1.3, log 23): GET_VERSION starts afresh, GET_CAPABILITIES, NEGOTIATE_ALGORITHMS,
KEY_EXCHANGE and FINISH in turn, END_SESSION; none for a request that is not in its turn or that agrees on no algorithm. -/
def SpdmPhase.next (p : SpdmPhase) (msg : List Byte) : Option SpdmPhase :=
  let code := fld msg 1 1
  if code = 0x84 then some .version
  else if code = 0xE1 then (if p = .version then some .capabilities else none)
  else if code = 0xE3 then (if p = .capabilities ∧ spdmAgrees msg then some .algorithms else none)
  else if code = 0xE4 then (if p = .algorithms then some .exchange else none)
  else if code = 0xE5 then (if p = .exchange then some .session else none)
  else if code = 0xEC then (if p = .session then some .algorithms else none)
  else if p = .start ∨ p = .version ∨ p = .capabilities then none
  else some p

/-- SPDM_REQUEST (R519): a request in its turn is answered as SPDM answers it (log 8) and moves the negotiation on; another gets
an error response (log 23). -/
def effSpdmRequest (ch : SpdmChannel) (msg : List Byte) (s : State) : State :=
  if s.spdmValid ch && s.quill.running then
    match (s.fn (spdmOwner ch)).spdm.next msg with
    | some q => (s.draw.modFn (spdmOwner ch) (fun x => { x with spdm := q })).answerSpdm ch (Config.spdmAnswer s.free msg)
    | none => s.answerSpdm ch [0x13, 0x7F, 0x04, 0x00]
  else s
/-- SPDM_REQUEST. -/
def execSpdmRequest (ch : SpdmChannel) (msg : List Byte) (s : State) : Host.Outcome State Fault Refusal :=
  .next (effSpdmRequest ch msg s)

/-- The DMTF value type of a measurement (R826; log 23: the codes of SPDM). -/
def spdmType (i : Nat) : Byte :=
  if i = 1 then 0 else if i = 2 then 1 else if i = 3 ∨ i = 9 then 2 else 3

/-- A measurement block (R826). -/
def State.spdmBlock (s : State) (i : Nat) : List Byte :=
  [BitVec.ofNat 8 i, 1, 35, 0, spdmType i, 32, 0] ++ toLe (s.spdmMeasurement i).toNat 32

/-- The measurement response before its signature: header, blocks, nonce, no opaque data. -/
def State.spdmResponse (s : State) (op : Nat) (nonce : List Byte) : List Byte :=
  let blocks := if op = 0 then [] else if op = 0xFF then (List.range 9).map (fun i => s.spdmBlock (i + 1)) else [s.spdmBlock op]
  let rec_ := blocks.flatten
  [0x13, 0x60, if op = 0 then 9 else 0, 0, BitVec.ofNat 8 blocks.length] ++ toLe rec_.length 3 ++ rec_ ++ nonce ++ [0, 0]

/-- SPDM_GET_MEASUREMENTS (R826, R827): the count, one block or all of them; signed with the alias key over request nonce and
response where the request carries a nonce (log 23). The responder's nonce is a free value. -/
def effSpdmGetMeasurements (ch : SpdmChannel) (op : Byte) (nonce : Option (BitVec 256)) (s : State) : State :=
  if s.spdmValid ch && s.quill.running then
    if op.toNat ≤ 9 ∨ op = 0xFF then
      let own := (List.range 4).flatMap (fun i => toLe (Config.freeWord (s.free + i)).toNat 8)
      let b := s.spdmResponse op.toNat own
      let sig := match nonce with
        | some n => signed (aliasKey s.module_.ident.measurement) (toLe n.toNat 32 ++ b)
        | none => []
      (s.draw.draw.draw.draw).answerSpdm ch (b ++ sig)
    else s.answerSpdm ch [0x13, 0x7F, 0x01, 0x00]
  else s
/-- SPDM_GET_MEASUREMENTS. -/
def execSpdmGetMeasurements (ch : SpdmChannel) (op : Byte) (nonce : Option (BitVec 256)) (s : State) :
    Host.Outcome State Fault Refusal :=
  .next (effSpdmGetMeasurements ch op nonce s)

/-- The key of an IDE stream is set, or the stream stops (R520). -/
def State.setIde (s : State) (x : IdeStream) (key : Option (BitVec 256)) : State :=
  match x with
  | .link => { s with host := { s.host with linkKey := key } }
  | .selective v => if v.toNat < 4 then s.modFn (v.toNat + 1) (fun y => { y with ideKey := key }) else s

/-- IDE_KM_KEY_SETUP (R520): within the PF's secured session a stream takes a key and becomes secure, or is stopped. -/
def effIdeKmKeySetup (fn : Fin 6) (stream : IdeStream) (ok : Bool) (key : BitVec 256) (stop : Bool) (s : State) : State :=
  if fn = 0 ∧ (s.fn 0).spdm = .session ∧ ok then s.setIde stream (if stop then none else some key) else s
/-- IDE_KM_KEY_SETUP. -/
def execIdeKmKeySetup (fn : Fin 6) (stream : IdeStream) (ok : Bool) (s : State) (key : BitVec 256 := 0) (stop : Bool := false) :
    Host.Outcome State Fault Refusal := .next (effIdeKmKeySetup fn stream ok key stop s)

end Sys2Proof.Machine
end

