-- ==== Sys2Proof/Machine/Deadlock.lean ====
section
/-!
DEFINITION. Deadlock among blocked sends (06 R336 to R341): the edges, the cluster detector, the Quill's readings, what
the device does with a cycle.
-/
namespace Sys2Proof.Machine

/-- The channel of a blocked SEND (R336), none for a core that is not blocked on one. -/
def Core.blockedChan (c : Core) : Option Nat :=
  match c.ctl.blockedOn with
  | some (.send ch _) => some ch
  | _ => none

/-- The core whose full queue the blocked SEND of core n waits for (R336, R340). -/
def State.blockEdge (s : State) (n : Nat) : Option Nat :=
  let c := s.core n
  match c.blockedChan with
  | none => none
  | some ch =>
    let w := c.qs.fdest.get 0 ch
    if fdestKind w then none
    else
      match (c.physCluster (fdestCluster w)).bind (fun k => s.physCore k (fdestCore w)) with
      | none => none
      | some d => if ((s.core d).qs.queue (fdestIndex w % 8)).length = 16 then some d else none

/-- The blocked-send edge of core n (R336): that of a core that is BLOCKED. -/
def State.edge (s : State) (n : Nat) : Option Nat := if (s.core n).ctl.st = .blocked then s.blockEdge n else none

/-- Follow edges from a core until one returns (R337): the cycle, empty where there is none. `next` gives the edges. -/
def followEdges (next : Nat → Option Nat) (fuel n : Nat) (path : List Nat) : List Nat :=
  match fuel with
  | 0 => []
  | f + 1 =>
    if path.contains n then path.dropWhile (fun x => x != n)
    else
      match next n with
      | none => []
      | some d => followEdges next f d (path ++ [n])

/-- The first cycle among some cores. -/
def firstCycle (next : Nat → Option Nat) (starts : List Nat) : List Nat :=
  ((starts.map (fun n => followEdges next 1537 n [])).find? (fun l => !l.isEmpty)).getD []

/-- Every cycle among some cores, each once for each core that leads to it. -/
def allCycles (next : Nat → Option Nat) (starts : List Nat) : List (List Nat) :=
  (starts.map (fun n => followEdges next 1537 n [])).filter (fun l => !l.isEmpty)

/-- The logical name of a core, to order and list it by (R340). -/
def State.logicalKey (s : State) (n : Nat) : Nat := (s.core n).ctl.lcluster.toNat * 256 + (s.core n).ctl.lcore.toNat

/-- A cycle turned so that it starts with its lowest logical core (R340). -/
def State.fromLowest (s : State) (l : List Nat) : List Nat :=
  match l with
  | [] => []
  | a :: r =>
    let m := r.foldl (fun m n => if s.logicalKey n < s.logicalKey m then n else m) a
    l.dropWhile (fun x => x != m) ++ l.takeWhile (fun x => x != m)

/-- DEADLOCK_SCAN (R337): the detector of cluster k samples the edges that stay in the cluster. -/
def effDeadlockScan (k : Fin 48) (s : State) : State :=
  let next := fun n => (s.edge n).filter (fun d => decide (kOf d = k.val))
  let cyc := s.fromLowest (firstCycle next (coresOf k))
  s.modQuill (fun q => { q with scan := q.scan.set k cyc })
/-- DEADLOCK_SCAN. -/
def execDeadlockScan (k : Fin 48) (s : State) : Host.Outcome State Fault Refusal := .next (effDeadlockScan k s)

/-- The two readings of the Quill for a partition are held at these keys: the cycles last seen, the cycles declared. -/
def seenKey (p : Nat) : Nat := p
/-- The key of the declared cycles. -/
def declaredKey (p : Nat) : Nat := 4 + p

/-- Whether the cores of a cycle lie in more than one cluster. -/
def spansClusters (l : List Nat) : Bool := l.any (fun n => decide (kOf n ≠ kOf (l.headD 0)))

/-- The cycles of edges that span clusters among the cores of partition p (R338), each once. -/
def State.wideCycles (s : State) (p : Nat) : List (List Nat) :=
  (((allCycles s.edge (s.coresOfPart p)).map s.fromLowest).filter spansClusters).eraseDups

/-- QUILL_DEADLOCK_POLL (R338): the cycles that span clusters and that two successive readings show are declared. -/
def effQuillDeadlockPoll (p : Fin 4) (s : State) : State :=
  let wide := s.wideCycles p
  let again := wide.filter (fun c => (s.quill.deadlock.get [] (seenKey p)).contains c)
  s.modQuill (fun q =>
    let old := q.deadlock.get [] (declaredKey p)
    let found := old ++ again.filter (fun c => !old.contains c)
    { q with deadlock := (q.deadlock.set (seenKey p) wide).set (declaredKey p) found })
/-- QUILL_DEADLOCK_POLL. -/
def execQuillDeadlockPoll (p : Fin 4) (s : State) : Host.Outcome State Fault Refusal :=
  .next (effQuillDeadlockPoll p s)

/-- Act on a cycle (R339, R340): freeze its cores, post event 0x0060, kill the context. -/
def State.breakDeadlock (s : State) (cyc : List Nat) (byQuill : Bool) : State :=
  match cyc with
  | [] => s
  | a :: _ =>
    match (s.core a).ctl.context with
    | none => s
    | some c =>
      let p := ctxPart c
      let src := if byQuill then source 3 0 0 p 0 else source 2 (kOf a) (jOf a) 0 0
      let entry (i : Nat) : Nat × Nat × Nat :=
        (20 + 2 * i, 2, match cyc[i]? with
          | some n => (s.core n).ctl.lcluster.toNat * 256 + (s.core n).ctl.lcore.toNat % 32 * 8 +
              ((s.core n).blockedChan).getD 0
          | none => 0xFFFF)
      let s1 := cyc.foldl (fun t n => t.modCtl n (fun x => { x with st := .frozen })) s
      let s2 := s1.post 0x0060 2 src
        ([(16, 1, cyc.length), (17, 1, (if byQuill then 1 else 0) + (if 6 < cyc.length then 2 else 0)), (18, 1, ctxNo c)] ++
          (List.range 6).map entry) (some p)
      s2.kill c (if byQuill then 3 else 2) src []

/-- DEADLOCK_DETECTED (R337 to R340, R382): the detector, or the Quill, acts on the cycle it found; nothing where it found
none. -/
def effDeadlockDetected (w : DeadlockWhere) (s : State) : State :=
  match w with
  | .cluster k =>
    let cyc := s.quill.scan.get [] k
    if cyc.isEmpty then s
    else
      let s1 := (s.modQuill (fun q => { q with scan := q.scan.set k [] })).modCluster k (fun c =>
        { c with dlockDetected := satInc c.dlockDetected, dlockLast := BitVec.ofNat 6 cyc.length })
      s1.breakDeadlock cyc false
  | .quill p =>
    let l := s.quill.deadlock.get [] (declaredKey p)
    let cyc := l.headD []
    (s.modQuill (fun q =>
      let seen := (q.deadlock.get [] (seenKey p)).filter (fun c => c != cyc)
      { q with deadlock := (q.deadlock.set (declaredKey p) (l.drop 1)).set (seenKey p) seen })).breakDeadlock cyc true
/-- DEADLOCK_DETECTED. -/
def execDeadlockDetected (w : DeadlockWhere) (s : State) : Host.Outcome State Fault Refusal :=
  .next (effDeadlockDetected w s)

end Sys2Proof.Machine
end

