-- ==== Sys2Proof/Machine/FabricRx.lean ====
section
/-!
DEFINITION. What reaches and leaves the fabric unit (10 R586 to R587, R606 to R622, R626, R631 to R643): flits received,
link control blocks and fabric time, remote writes from the dies' edges, lost messages, margin telemetry.
-/
namespace Sys2Proof.Machine

/-! ### Flits received (R586, R587, R606, R750) -/

/-- A command reads a central table of the fabric unit (R641): a corrected error is counted, for P0 (R656), an uncorrectable one is
a device fault with CAUSE 1 (R654). -/
def State.centralRead (s : State) (tbl : Ecc) (body : State → State) : State :=
  match tbl with
  | .ok => body s
  | .corrected => body (s.modCorrected 0 (fun c => { c with fabric := c.fabric + 1 }))
  | .uncorrectable => s.devFault 1

/-- Whether a port is the lock-step port of a paired device (R750). -/
def State.lsOwns (s : State) (f : Nat) : Bool := decide (s.quill.ls.state = 2) && decide (s.quill.ls.port.toNat = f)

/-- Whether a flit is addressed to this device. -/
def State.isMine (s : State) (x : FabricFlit) : Bool := decide (x.dst = s.dev.fbId ∧ x.dst.toNat < 4096)

/-- A flit of a kind for this device, received in order on an ACTIVE port (R588); on the lock-step port it is discarded
(R750). -/
def State.takeMsg (s : State) (f : Nat) (kind : Nat) (x : FabricFlit) (body : State → State) : State :=
  if (s.port f).st = .active ∧ x.kind.toNat = kind ∧ s.isMine x then
    s.receiveFlit f x (fun t => if s.lsOwns f then t.dropOther.oweCredit f x else body t)
  else s

/-- Count a forwarded flit (R646). -/
def State.countForward (s : State) : State := s.modFabCnt (fun c => { c with forwarded := satInc c.forwarded })

/-- A flit that is not for this device is forwarded (R606): one hop less, or dropped and counted. -/
def State.forward (s : State) (x : FabricFlit) : State :=
  if x.hops = 0 then s.modFabCnt (fun c => { c with hops := satInc c.hops })
  else
    match s.fate x.dst with
    | .self => s
    | .out p d => (s.transmit p d { x with hops := x.hops - 1 }).countForward
    | .noRoute => s.dropNoRoute
    | .noPort => s.dropOther

/-- A received flit that is not for this device, of a KIND from 1 to 3 or reserved (R587, R606, R750). -/
def State.forwardFlit (s : State) (f : Nat) (x : FabricFlit) : State :=
  if 6 ≤ x.kind.toNat then s.dropOther else if s.lsOwns f then s.dropOther.oweCredit f x else (s.forward x).oweCredit f x

/-- FLIT_FORWARD (R587, R606, R750): a flit that is not for this device, or of a reserved KIND. An idle flit brings its trailer
alone, and takes no SEQ (DESIGN CHOICE, log 139); one of KIND 4 or 5 ends here. -/
def effFlitForward (f : Fin 16) (flit : FabricFlit) (tbl : Ecc) (s : State) : State :=
  let k := flit.kind.toNat
  if (s.port f).st ≠ .active then s
  else if k = 0 then s.takeTrailer f flit
  else if k = 4 ∨ k = 5 then s.receiveFlit f flit id
  else if k ≤ 3 ∧ s.isMine flit then s
  else s.centralRead tbl (fun t => t.receiveFlit f flit (fun u => u.forwardFlit f flit))
/-- FLIT_FORWARD. -/
def execFlitForward (f : Fin 16) (flit : FabricFlit) (s : State) (tbl : Ecc := .ok) : Host.Outcome State Fault Refusal :=
  .next (effFlitForward f flit tbl s)

/-- FABRIC_WRITE_RECEIVE (R613 to R617): a write whose landing buffer is full is held, and returns no credit. -/
def effFabricWriteReceive (f : Fin 16) (flit : FabricFlit) (tbl : Ecc) (s : State) : State :=
  s.takeMsg f.val 1 flit (fun t => t.centralRead tbl (fun u => u.writeArrives f.val flit))
/-- FABRIC_WRITE_RECEIVE. -/
def execFabricWriteReceive (f : Fin 16) (flit : FabricFlit) (s : State) (tbl : Ecc := .ok) : Host.Outcome State Fault Refusal :=
  .next (effFabricWriteReceive f flit tbl s)

/-- FABRIC_ADD_RECEIVE (R586, R621). -/
def effFabricAddReceive (f : Fin 16) (flit : FabricFlit) (tbl : Ecc) (s : State) : State :=
  s.takeMsg f.val 2 flit (fun t =>
    t.centralRead tbl (fun u => (u.addDevice (flitCounter flit) ((flitUnit flit 0).setWidth 32)).oweCredit f flit))
/-- FABRIC_ADD_RECEIVE. -/
def execFabricAddReceive (f : Fin 16) (flit : FabricFlit) (s : State) (tbl : Ecc := .ok) : Host.Outcome State Fault Refusal :=
  .next (effFabricAddReceive f flit tbl s)

/-- The TRACK values that a receipt lists (R586): its words that are not zero, since no message has TRACK 0. -/
def receiptWords (x : FabricFlit) : List Nat :=
  (((x.data.take 15).flatMap (fun u => (List.range 8).map (fun i => (u.extractLsb' (32 * i) 32).toNat)))).filter (fun w =>
    decide (w ≠ 0))

/-- RECEIPT_RECEIVE (R586, R622, R626 to R628). -/
def effReceiptReceive (f : Fin 16) (flit : FabricFlit) (s : State) : State :=
  s.takeMsg f.val 3 flit (fun t =>
    ((receiptWords flit).foldl (fun (u : State) w => u.receipt (w % 2 ^ 26) (decide (2 ^ 31 ≤ w))) t).oweCredit f flit)
/-- RECEIPT_RECEIVE. -/
def execReceiptReceive (f : Fin 16) (flit : FabricFlit) (s : State) : Host.Outcome State Fault Refusal :=
  .next (effReceiptReceive f flit s)

/-! ### Link control blocks and fabric time (R631 to R638) -/

/-- A signed 32-bit value that saturates (R646). -/
def sat32 (v : Int) : Word := BitVec.ofInt 32 (max (-2147483648) (min 2147483647 v))

/-- The offset to the source that a block shows (R637): receipt, T_TX, T_ECHO, T_HELD in ns. -/
def timeOffset (rx tx echo held : Nat) : Int := ((rx : Int) - echo - held) / 2 + tx - rx

/-- The time in ns in which a follower may correct its time by 1 ns: 50 parts per million (R637). -/
def slewNs : Nat := 20000

/-- Correct the device time by an offset (R637): by rate from now on; by a step at the first lock. -/
def State.correctTime (s : State) (off : Int) : State :=
  if !s.fabric.cfg.everLocked && decide (10000 < off.natAbs) && !s.anyRuns then
    ({ s with time := ((s.time : Int) + off).toNat } : State).modFabCfg (fun c => { c with slew := 0 })
  else s.modFabCfg (fun c => { c with slew := off, slewAt := s.time })

/-- A period of the 100 MHz reference passes (R779): device time counts ns, and a correction that is due makes it count 1 ns more
or less, never oftener than R637 allows. -/
def State.advanceTime (s : State) : State :=
  let c := s.fabric.cfg
  let t := s.time + 10
  if c.slew = 0 ∨ t < c.slewAt + slewNs then { s with time := t }
  else
    ({ s with time := if 0 < c.slew then t + 1 else t - 1 } : State).modFabCfg (fun c =>
      { c with slew := if 0 < c.slew then c.slew - 1 else c.slew + 1, slewAt := t })

/-- A block from the time source (R637, R638): the offset is recorded, three successive ones within 100 ns lock. -/
def State.followSource (s : State) (off : Int) : State :=
  let s1 := s.correctTime off
  s1.modFabCfg (fun c =>
    let n := if off.natAbs ≤ 100 then min 3 (c.streak + 1) else 0
    { c with offset := sat32 off, streak := n, locked := c.locked || decide (n = 3)
             everLocked := c.everLocked || decide (n = 3) })

/-- What a block on port f does to fabric time (R636 to R638). -/
def State.blockTime (s : State) (f : Nat) (b : List Byte) : State :=
  let s1 := s.selectSource
  let c := s1.fabric.cfg
  if c.timeRole = false ∧ c.stratum ≠ 0xFF ∧ c.source.toNat = f ∧ fld b 80 8 ≠ 0 then
    s1.followSource (timeOffset s.time (fld b 72 8) (fld b 80 8) (fld b 88 8))
  else s1

/-- LINK_CONTROL_BLOCK_RECEIVE (R631, R632, R636 to R638): of an ACTIVE port. -/
def effLinkControlBlockReceive (f : Fin 16) (block : List Byte) (s : State) : State :=
  if (s.port f).st ≠ .active then s
  else (((s.takeNext f).takeBlock f block).evalMismatch f false).blockTime f block
/-- LINK_CONTROL_BLOCK_RECEIVE. -/
def execLinkControlBlockReceive (f : Fin 16) (block : List Byte) (s : State) : Host.Outcome State Fault Refusal :=
  .next (effLinkControlBlockReceive f block s)

/-- The block that port f sends (R631). -/
def State.controlBlock (s : State) (f : Nat) : List Byte :=
  let echo := match (s.port f).block with
    | some b => (b.tx.toNat, s.time - b.time)
    | none => (0, 0)
  Sys2Proof.Machine.block 128
    [(0, 2, 1), (2, 1, 1), (3, 1, s.serviceCode), (4, 2, s.dev.fbId.toNat), (6, 2, f),
     (8, 32, (Config.sm3 (Config.cert 2 0)).toNat), (40, 32, (s.watermark (s.partNamed (f / 4)) none).toNat),
     (72, 8, s.time), (80, 8, echo.1), (88, 8, echo.2), (96, 1, s.fabric.cfg.stratum.toNat)]

/-- LINK_CONTROL_BLOCK_SEND (R631): of a port in ACTIVE, in EXCHANGE, or in RETRAIN, which runs EXCHANGE (R590). -/
def effLinkControlBlockSend (f : Fin 16) (s : State) : State :=
  if (s.port f).st = .active ∨ (s.port f).st = .exchange ∨ (s.port f).st = .retrain then
    s.sendLink f 4 (s.controlBlock f.val) (.control f.val (s.controlBlock f.val))
  else s
/-- LINK_CONTROL_BLOCK_SEND. -/
def execLinkControlBlockSend (f : Fin 16) (s : State) : Host.Outcome State Fault Refusal := .next (effLinkControlBlockSend f s)

/-- WATERMARK_SILENCE (R632, R633): no block has arrived on the port in the last 3 ms. -/
def effWatermarkSilence (f : Fin 16) (s : State) : State := s.evalMismatch f true
/-- WATERMARK_SILENCE. -/
def execWatermarkSilence (f : Fin 16) (s : State) : Host.Outcome State Fault Refusal := .next (effWatermarkSilence f s)

/-- TIME_SOURCE_TIMEOUT (R638): no block has arrived on the source port for 10 ms; its peer's stratum no longer counts. -/
def effTimeSourceTimeout (s : State) : State :=
  let c := s.fabric.cfg
  if c.timeRole ∨ c.stratum = 0xFF then s
  else
    let f := c.source.toNat
    (s.modPort f (fun p => { p with block := p.block.map (fun b => { b with stratum := 0xFF }) })).sourceLost f
/-- TIME_SOURCE_TIMEOUT. -/
def execTimeSourceTimeout (s : State) : Host.Outcome State Fault Refusal := .next (effTimeSourceTimeout s)

/-! ### Remote writes from the edges (R606 to R609) -/

/-- Put a flit of an edge slice into the write being assembled at a port. -/
def State.edgeFlit (s : State) (f slice : Nat) (x : Flit) : State :=
  s.modPort f (fun p => { p with assembly := p.assembly.set slice (p.assembly.get [] slice ++ [x]) })

/-- The core whose TE emitted a remote write, with the number it gave it (R620): the first of the partition that lists the
header. -/
def State.farWriter (s : State) (p : Nat) (hd : BitVec 256) : Option (Nat × Nat) :=
  (s.coresOfPart p).findSome? (fun n =>
    ((s.core n).te.farWrites.find? (fun e => decide (e.2 = hd))).map (fun e => (n, e.1)))

/-- The first entry of a list with a number goes. -/
def dropFar (l : List (Nat × BitVec 256)) (id : Nat) : List (Nat × BitVec 256) := l.filter (fun e => decide (e.1 ≠ id))

/-- A complete remote write leaves as a write message (R606, R608, R622); a reserved KIND is dropped and counted. -/
def State.sendRemote (s : State) (p : Nat) (l : List Flit) : State :=
  match l with
  | [] => s
  | hd :: units =>
    let h := hd.data.toNat
    let w := s.farWriter p hd.data
    let s1 := match w with
      | some (n, id) => s.modTe n (fun t => { t with farWrites := dropFar t.farWrites id })
      | none => s
    let o := match w with
      | some (n, id) => Origin.te n id
      | none => Origin.te 1536 0
    if h / 2 ^ 253 ≠ 0 then
      match w with
      | some (n, id) => s1.dropNoRoute.releaseAdds n id
      | none => s1.dropNoRoute
    else s1.sendWrite (BitVec.ofNat 16 (h / 2 ^ 237)) (h / 2 ^ 231 % 64) (h / 2 ^ 194 % 2 ^ 34) units o

/-- Data flits that a write's header announces (R608). -/
def remoteCount (l : List Flit) : Nat :=
  match l with
  | [] => 0
  | hd :: _ => hd.data.toNat / 2 ^ 228 % 8 + 1

/-- Whether a write to this device's own ID finds its landing buffer full (R609, R614): the port then takes nothing. -/
def State.remoteHeld (s : State) (l : List Flit) : Bool :=
  match l with
  | [] => false
  | hd :: units =>
    let h := hd.data.toNat
    let x := s.newFlit 1 (BitVec.ofNat 16 (h / 2 ^ 237))
      (h / 2 ^ 231 % 64 * 2 ^ 74 + (units.length - 1) * 2 ^ 70 + h / 2 ^ 199 % 2 ^ 29 * 2 ^ 26) []
    decide (h / 2 ^ 253 = 0) && s.isMine x && (s.windowRefuses x).isNone && !s.landRoom x

/-- Whether the send queue of the port by which a remote write leaves has room (R609). -/
def State.sendRoom (s : State) (l : List Flit) : Bool :=
  match l with
  | [] => true
  | hd :: _ =>
    match s.fate (BitVec.ofNat 16 (hd.data.toNat / 2 ^ 237)) with
    | .out p _ => (s.port p).link.wait.isEmpty || decide ((s.port p).link.wait.length < Config.sendRoom)
    | _ => true

/-- EDGE_REMOTE_WRITE (R606 to R609): a flit of a remote write crosses the edge to port f, and the message leaves once its
data is there; nothing crosses while the send queue has no room. -/
def effEdgeRemoteWrite (f : Fin 16) (src : RulingSlot) (parity : Option ParityHit) (tbl : Ecc) (s : State) : State :=
  let k := portCluster f.val
  if !s.domOn (54 + f.val / 4) then s
  else
    match s.move (placeOf src) (fun a =>
        let b := Place.ofKey a.place
        decide (b.k = k ∧ 14 ≤ b.port ∧ edgePort k b.port = some f.val)) parity with
    | none => s
    | some (x, a, s1) =>
      let slice := (Place.ofKey a.place).slice
      let s2 := s1.edgeFlit f.val slice x
      let l := (s2.port f).assembly.get [] slice
      if l.length ≤ remoteCount l then s2
      else if s2.remoteHeld l || !s2.sendRoom l then s
      else s2.centralRead tbl (fun t => (t.modPort f (fun p => { p with assembly := p.assembly.set slice [] })).sendRemote (s.partOf k) l)
/-- EDGE_REMOTE_WRITE. -/
def execEdgeRemoteWrite (f : Fin 16) (src : RulingSlot) (parity : Option ParityHit) (s : State) (tbl : Ecc := .ok) :
    Host.Outcome State Fault Refusal := .next (effEdgeRemoteWrite f src parity tbl s)

/-! ### Lost messages (R622) -/

/-- Kill a context that runs for a fault of the fabric (R622, R627): SOURCE has the partition and the port where the event is
tied to one (R642). -/
def State.killFabric (s : State) (c : Nat) (port : Option Nat) (payload : List (Nat × Nat × Nat)) : State :=
  if (s.ctx c).lc.life = .off then s
  else s.kill c 4 (match port with | some f => s.portSource f 0 | none => source 4 0 0 0 0) payload

/-- A ring sets FAULT and stops, and its context is killed (R622, R627). -/
def State.ringFault (s : State) (r : Nat) (payload : List (Nat × Nat × Nat)) : State :=
  let x := s.ring r
  (s.modRing r (fun y => { y with fault := true, work := none })).killFabric (4 * x.part + x.ctx) none payload

/-- A RADD that waited for a lost message is discarded, and its core's context killed (R622). -/
def State.loseAdds (s : State) (n id port track : Nat) : State :=
  let waits := fun (a : HeldAdd) => decide (a.core = n) && a.waits.contains id
  if s.fabric.adds.any waits then
    let s1 : State := { s with fabric := { s.fabric with adds := s.fabric.adds.filter (fun a => !waits a) } }
    match (s.core n).ctl.context with
    | some c => s1.killFabric c (some port) [(16, 4, track)]
    | none => s1
  else s

/-- What a lost message does to one that waited for its receipt (R622). -/
def State.lostFor (s : State) (t : Tracked) : State :=
  match t.origin with
  | .te n id => s.loseAdds n id t.port t.track
  | .ring r => s.ringFault r [(16, 4, t.track)]
  | .mirror j => s.finish j .aborted 0

/-- RECEIPT_TIMEOUT (R622): the message with TRACK `entry` counts as lost. -/
def effReceiptTimeout (entry : Nat) (s : State) : State :=
  let mine := s.fabric.tracked.filter (fun t => t.track == entry)
  if mine.isEmpty then s
  else
    let s1 : State := { s with fabric := { s.fabric with tracked := s.fabric.tracked.filter (fun x => x.track != entry) } }
    mine.foldl State.lostFor (s1.modFabCnt (fun c => { c with rcptLost := satInc c.rcptLost }))
/-- RECEIPT_TIMEOUT. -/
def execReceiptTimeout (entry : Nat) (s : State) : Host.Outcome State Fault Refusal := .next (effReceiptTimeout entry s)

/-! ### Margin telemetry (R640, R641, R717, R718, R778) -/

/-- Evaluate a quantity and index against its threshold (R640): a change posts event 0x0045, a crossing is charged. -/
def State.margin (s : State) (quantity index : Nat) (value threshold : Int) (crossed : Bool) (ports : List Nat) : State :=
  let key := quantity * 65536 + index
  if threshold = 0 ∨ crossed = s.fabric.cnt.crossed.contains key then s
  else
    let s1 := s.modFabCnt (fun c => { c with crossed := if crossed then setAdd c.crossed key else setDel c.crossed key })
    let src := match ports with
      | [f] => s.portSource f (if quantity = 1 then index % 5 else 0)
      | _ => source 4 0 0 0 0
    let s2 := s1.post 0x0045 0 src
      [(16, 1, quantity), (17, 1, if crossed then 1 else 0), (18, 2, index), (20, 4, (BitVec.ofInt 32 value).toNat),
       (24, 4, (BitVec.ofInt 32 threshold).toNat)] none
    if !crossed then s2
    else if 5 ≤ quantity then s2.scoreDrop 2
    else ports.foldl (fun t f => t.chargePort f 10) s2

/-- MARGIN_TELEMETRY (R584, R640, R778): a reading of a second is stored and evaluated; where there is no reading (0x8000, no
bias) no threshold applies. The average supply of a region's second (R817) is a free value (log 100). -/
def effMarginTelemetry (sample : MarginSample) (s : State) : State :=
  let c := s.fabric.cnt
  match sample with
  | .rxPower f lane val =>
    if 5 ≤ lane.toNat then s
    else
      let s1 := s.modLane f lane.toNat (fun x => { x with rxPower := val })
      if val = 0x8000 then s1
      else s1.margin 1 (5 * f.val + lane.toNat) val.toInt c.rxLow.toInt (decide (val.toInt < c.rxLow.toInt)) [f.val]
  | .laserBias oe val =>
    let s1 := s.modFabCnt (fun x => { x with bias := x.bias.set oe.toNat val })
    if val = 0xFFFF then s1
    else s1.margin 2 oe.toNat val.toNat c.biasHigh.toNat (decide (c.biasHigh.toNat < val.toNat))
      ((List.range 4).map (fun i => 4 * oe.toNat + i))
  | .fec f ber corr =>
    let n : Nat := corr.foldl (fun (a : Nat) x => a + x.toNat) 0
    let s1 := (List.range 5).foldl (fun t l => t.modLane f l (fun x => { x with corr := satAdd x.corr (corr.getD l 0).toNat }))
      (s.modPort f (fun p => { p with ber := ber }))
    (s1.margin 3 f.val ber.toNat c.berLow.toNat (decide (ber.toNat < c.berLow.toNat)) [f.val]).margin 4 f.val n
      c.corrHigh.toNat (decide (c.corrHigh.toNat < n)) [f.val]
  | .die r val =>
    let s1 := s.modRegion r (fun x => { x with margin := val })
    if val = 0x8000 then s1
    else (s1.draw.modRegion r (fun x => { x with supply := s.freeNext.setWidth 16 })).margin 5 r.val val.toInt c.droopLow.toInt (decide (val.toInt < c.droopLow.toInt)) []
  | .dieSlack k val =>
    let s1 := s.modClock (fun x => { x with slack := x.slack.set k val })
    if val = 0x8000 then s1
    else s1.margin 6 k.val val.toInt c.slackLow.toInt (decide (val.toInt < c.slackLow.toInt)) []
/-- MARGIN_TELEMETRY. -/
def execMarginTelemetry (sample : MarginSample) (s : State) : Host.Outcome State Fault Refusal :=
  .next (effMarginTelemetry sample s)

end Sys2Proof.Machine
end

