-- ==== Sys2Proof/Machine/HostMemory.lean ====
section
/-!
DEFINITION. The host's access to device memory and sync counters (09 R510 to R515, R559 to R561; 01 R47, R50, R51).
-/
namespace Sys2Proof.Machine

/-- Bytes split at unit boundaries: index, address and bytes of each piece. -/
def unitPieces (fuel i a : Nat) (bs : List Byte) : List (Nat × Nat × List Byte) :=
  match fuel with
  | 0 => []
  | f + 1 =>
    if bs.isEmpty then []
    else
      let n := 32 - a % 32
      (i, a, bs.take n) :: unitPieces f (i + n) (a + n) (bs.drop n)

/-- Write one piece into an inkwell on the service side (R417, R420): bytes that a core-side write of the same cycle writes
too are lost and the unit keeps its blot. -/
def State.servicePiece (s : State) (k : Nat) (lost : List Nat) (blot : Bool) (x : Nat × Nat × List Byte) : State :=
  let bs := x.2.2
  let a := x.2.1
  if (List.range bs.length).any (fun j => lost.contains (x.1 + j)) then
    { s with store := { s.store with mem := bs.zipIdx.foldl (fun r e =>
        if lost.contains (x.1 + e.2) then r else Memory.write r (a + e.2) e.1) s.store.mem } }
  else
    let m := s.store.writeUnit a bs blot
    { s with store := if (s.cluster k).ink.checking && decide (bs.length = 32) then { m with fills := Units.add m.fills (a / 32) }
                      else m }

/-- The service accesses of a host transfer, of 64 bytes each (R397), that lose bytes (R417). -/
def lostLines (a len : Nat) (lost : List Nat) : Nat :=
  (((lost.filter (fun i => decide (i < len))).map (fun i => (a + i) / 64)).dedup).length

/-- The host writes bytes into a store (R451, R456, R514, R417): service side of an inkwell, TE port of a local store. A unit
into which a poisoned byte goes takes the blot. -/
def State.devWrite (s : State) (m : DevMem) (a : Nat) (bs : List Byte) (poison : Nat → Bool) (lost : List Nat) : State :=
  let pieces := unitPieces (bs.length / 32 + 2) 0 a bs
  let blot (x : Nat × Nat × List Byte) : Bool := (List.range x.2.2.length).any (fun j => poison (x.1 + j))
  match m with
  | .ink k =>
    (pieces.foldl (fun t x => t.servicePiece k lost (blot x) x) s).countCollide k (lostLines a bs.length lost)
  | _ => pieces.foldl (fun t x => t.write x.2.1 x.2.2 (blot x)) (s.devSettle m)

/-! ### BAR2 (R511 to R515) -/

/-- Count a refused BAR access (R510, R50). -/
def State.barRejected (s : State) (f : Nat) : State := s.modFn f (fun x => { x with barReject := satInc x.barReject })

/-- BAR0_REJECT (R510): an access that is not aligned or not of 32 bits; a read completes with Unsupported Request. -/
def effBar0Reject (fn : Fin 6) (isRead : Bool) (s : State) : State :=
  if fn = 5 then s
  else
    let s1 := s.barRejected fn.val
    if isRead then s1.emit (.barData fn.val none false) else s1
/-- BAR0_REJECT. -/
def execBar0Reject (fn : Fin 6) (isRead : Bool) (s : State) : Host.Outcome State Fault Refusal := .next (effBar0Reject fn isRead s)

/-- The device physical address of a BAR2 offset (R511, R577): the bits of HI_B2_BASE below the size count as zero. -/
def State.bar2Addr (s : State) (f off : Nat) : Nat :=
  let x := s.fn f
  let g := 2 ^ x.b2Log.toNat
  x.b2Base.toNat / g * g * gib + off

/-- The store that a BAR2 access of a function reaches (R512, R513). -/
def State.bar2Target (s : State) (f a n : Nat) : Option DevMem :=
  (s.devMem a n).filter (fun m =>
    decide (f = 0) || (decide (s.dev.mode = 2) && decide (s.devPart m a n = some (f - 1))))

/-- A BAR2 read is answered with the bytes stored and whether any is blotted. -/
def State.answerBar (s : State) (m : DevMem) (fn a len : Nat) : State :=
  s.emit (.barData fn (some ((s.devStore m).bytes a len)) ((s.devStore m).blotRange a len))

/-- BAR2_READ (R511 to R514, R422 to R424, R452, R455): blotted data is returned poisoned. -/
def effBar2Read (fn : Fin 6) (off : BitVec 40) (len : Nat) (errs : List (DWord × Ecc)) (split : List DWord)
    (lines : List LineFind) (s : State) : State :=
  if fn = 5 then s
  else
    let a := s.bar2Addr fn.val off.toNat
    match s.bar2Target fn.val a len with
    | none => (s.barRejected fn.val).emit (.barData fn.val none false)
    | some m =>
      match s.devReady m a len lines with
      | none => s
      | some t => ((t.devFinds m a len errs lines).devSplits m a len split).answerBar m fn.val a len
/-- BAR2_READ. -/
def execBar2Read (fn : Fin 6) (off : BitVec 40) (len : Nat) (errs : List (DWord × Ecc)) (s : State) (split : List DWord := [])
    (lines : List LineFind := []) : Host.Outcome State Fault Refusal := .next (effBar2Read fn off len errs split lines s)

/-- The addresses of a range whose line a host write reads first: those of a unit it writes in part (R451). -/
def partialUnit (a n x : Nat) : Bool :=
  (decide (a % 32 ≠ 0) && decide (x / 64 = a / 64)) || (decide ((a + n) % 32 ≠ 0) && decide (x / 64 = (a + n) / 64))

/-- What the reads and accesses of a host write find (R423, R424, R451): in bulk memory the read of a unit written in part,
in an inkwell every access. -/
def State.devWriteEcc (s : State) (m : DevMem) (a n : Nat) (l : List (DWord × Ecc)) (lines : List LineFind) : State :=
  match m with
  | .bulk => s.devFinds m a n (l.filter (fun e => partialUnit a n e.1.toNat)) (lines.filter (fun e => partialUnit a n e.addr.toNat))
  | .ink _ => s.devEccs m a n l
  | .loc _ => s

/-- BAR2_WRITE (R511 to R514, R451): a write outside backed memory is dropped and counted. -/
def effBar2Write (fn : Fin 6) (off : BitVec 40) (bytes : List Byte) (poisoned : Bool) (errs : List (DWord × Ecc))
    (lost : List Nat) (lines : List LineFind) (s : State) : State :=
  if fn = 5 ∨ bytes = [] then s
  else
    let a := s.bar2Addr fn.val off.toNat
    match s.bar2Target fn.val a bytes.length with
    | none => s.barRejected fn.val
    | some m =>
      match s.devReady m a bytes.length lines with
      | none => s
      | some t => (t.devWriteEcc m a bytes.length errs lines).devWrite m a bytes (fun _ => poisoned) lost
/-- BAR2_WRITE. -/
def execBar2Write (fn : Fin 6) (off : BitVec 40) (bytes : List Byte) (poisoned : Bool) (errs : List (DWord × Ecc))
    (lost : List Nat) (s : State) (lines : List LineFind := []) : Host.Outcome State Fault Refusal :=
  .next (effBar2Write fn off bytes poisoned errs lost lines s)

/-! ### DMA (R559, R560) -/

/-- The store of a DMA range (R560); a VF reaches its own partition only (R506). -/
def State.dmaTarget (s : State) (h : Hdr) (a n : Nat) : Option DevMem :=
  (s.devMem a n).filter (fun m =>
    (s.devPart m a n).isSome && (decide (h.fn = 0) || decide (s.devPart m a n = some (h.fn.val - 1))))

/-- DMA (R559, R560): the range is checked, then the transfer runs. -/
def effDma (h : Hdr) (hostAddr devAddr : DWord) (len : Word) (dir : Byte) (s : State) : State :=
  s.hostCmd h { anySpec 0x0301 true false false with
      work := true, args := [(16, 8, hostAddr.toNat), (24, 8, devAddr.toNat), (32, 4, len.toNat), (36, 1, dir.toNat)] }
    (decide (hostAddr.toNat % 4 = 0 ∧ devAddr.toNat % 4 = 0 ∧ 4 ≤ len.toNat ∧ len.toNat % 4 = 0 ∧ dir.toNat ≤ 1)) (fun s =>
      match s.dmaTarget h devAddr.toNat len.toNat with
      | none => s.complete h 0x0301 .badParam 0
      | some _ =>
        let s1 := s.addJob h 0x0301 (.dma h hostAddr devAddr len dir) 0
        if dir = 0 then s1.emit (.hostRead h.fn.val hostAddr.toNat len.toNat) else s1)
/-- DMA. -/
def execDma (h : Hdr) (hostAddr devAddr : DWord) (len : Word) (dir : Byte) (s : State) : Host.Outcome State Fault Refusal :=
  .next (effDma h hostAddr devAddr len dir s)

/-- Bytes before the first blotted unit of a range (R455). -/
def Store.cleanBytes (m : Store) (a n : Nat) : Nat :=
  match (List.range ((a + n - 1) / 32 + 1 - a / 32)).find? (fun i => Units.has m.blots (a / 32 + i)) with
  | some i => min n ((a / 32 + i) * 32 - a)
  | none => n

/-- The data of a DMA to the device arrives (R451, R456, R560); less than asked for ends it with ABORTED and the bytes
moved. -/
def State.dmaIn (s : State) (job : Nat) (m : DevMem) (a n : Nat) (bs : List Byte) (poison lost : List Nat) : State :=
  let b := bs.take n
  (s.devWrite m a b poison.contains lost).finish job (if b.length < n then .aborted else .ok) b.length

/-- The data of a DMA to the host leaves (R455, R560): it stops before the first blotted unit. -/
def State.dmaOut (s : State) (job f h : Nat) (m : DevMem) (a n : Nat) : State :=
  let k := (s.devStore m).cleanBytes a n
  let s1 := if k = 0 then s else s.toHost f h ((s.devStore m).bytes a k)
  s1.finish job (if k < n then .aborted else .ok) k

/-- DMA_TRANSFER_DONE (R559, R560, R455). -/
def effDmaTransferDone (job : Nat) (data : Option (List Byte)) (poison : List Nat) (errs : List (DWord × Ecc))
    (split : List DWord) (lost : List Nat) (lines : List LineFind) (s : State) : State :=
  match s.job job with
  | some j =>
    match j.cmd with
    | .dma h hostAddr devAddr len dir =>
      let a := devAddr.toNat
      let n := len.toNat
      match data, s.dmaTarget h a n with
      | some bs, some m =>
        match s.devReady m a n lines with
        | none => s
        | some t =>
          if dir = 0 then (t.devWriteEcc m a n errs lines).dmaIn job m a n bs poison lost
          else ((t.devFinds m a n errs lines).devSplits m a n split).dmaOut job h.fn.val hostAddr.toNat m a n
      | _, _ => s.finish job .aborted 0
    | _ => s
  | none => s
/-- DMA_TRANSFER_DONE. -/
def execDmaTransferDone (job : Nat) (data : Option (List Byte)) (errs : List (DWord × Ecc)) (lost : List Nat) (s : State)
    (poison : List Nat := []) (split : List DWord := []) (lines : List LineFind := []) : Host.Outcome State Fault Refusal :=
  .next (effDmaTransferDone job data poison errs split lost lines s)

/-! ### SYNC_OP (R559, R561, R363) -/

/-- SCOPE, CLUSTER and INDEX in range (R559). -/
def syncArgsOk (h : Hdr) (scope cluster : Byte) (index : Half) : Bool :=
  let x := scope.toNat
  decide (x ≤ 2) && decide (index.toNat ≤ (if x = 2 then 4095 else 255)) && (decide (x ≠ 0) || decide (cluster.toNat < 48)) &&
    (decide (x ≠ 1) || decide (h.partition.toNat ≤ 3 ∧ h.context.toNat ≤ 3))

/-- The counter a SYNC_OP names: a status where a VF names a cluster of another partition, or where the logical cluster is not
mapped by the context's layout. -/
def State.syncTarget (s : State) (h : Hdr) (scope cluster : Byte) (index : Half) : Status ⊕ Counter :=
  if scope = 2 then .inr (.device index.toNat)
  else if scope = 0 then
    if h.fn ≠ 0 ∧ s.partOf cluster.toNat ≠ h.fn.val - 1 then .inl .badParam else .inr (.cluster cluster.toNat index.toNat)
  else
    match (s.ctxClusters (s.hdrCtx h)).find? (fun e => decide (e.1 = cluster.toNat)) with
    | some e => if (s.ctx (s.hdrCtx h)).run.layoutValid then .inr (.cluster e.2 index.toNat) else .inl .wrongState
    | none => .inl .wrongState

/-- SYNC_OP with its checks; `op` is OP, `args` its fields beyond the counter's name, `body` acts on the counter. -/
def State.syncCmd (s : State) (h : Hdr) (op : Nat) (scope cluster : Byte) (index : Half) (args : List (Nat × Nat × Nat))
    (body : Counter → State → State) : State :=
  s.hostCmd h { anySpec 0x0307 true false false with
      work := true
      args := [(16, 1, op), (17, 1, scope.toNat), (18, 1, cluster.toNat), (20, 2, index.toNat)] ++ args } (syncArgsOk h scope cluster index) (fun s =>
    match s.syncTarget h scope cluster index with
    | .inl st => s.complete h 0x0307 st 0
    | .inr c => body c s)

/-- SYNC_OP_SET (R561, R363): RESULT is the counter's value when the command took effect. -/
def effSyncOpSet (h : Hdr) (scope cluster : Byte) (index : Half) (val : Word) (s : State) : State :=
  s.syncCmd h 0 scope cluster index [(24, 4, val.toNat)] (fun c s =>
    let s1 := s.syncApply c true val
    s1.complete h 0x0307 .ok (s1.counter c).toNat)
/-- SYNC_OP_SET. -/
def execSyncOpSet (h : Hdr) (scope cluster : Byte) (index : Half) (val : Word) (s : State) : Host.Outcome State Fault Refusal :=
  .next (effSyncOpSet h scope cluster index val s)

/-- SYNC_OP_ADD (R561, R363). -/
def effSyncOpAdd (h : Hdr) (scope cluster : Byte) (index : Half) (val : Word) (s : State) : State :=
  s.syncCmd h 1 scope cluster index [(24, 4, val.toNat)] (fun c s =>
    let s1 := s.syncApply c false val
    s1.complete h 0x0307 .ok (s1.counter c).toNat)
/-- SYNC_OP_ADD. -/
def execSyncOpAdd (h : Hdr) (scope cluster : Byte) (index : Half) (val : Word) (s : State) : Host.Outcome State Fault Refusal :=
  .next (effSyncOpAdd h scope cluster index val s)

/-- SYNC_OP_READ (R561). -/
def effSyncOpRead (h : Hdr) (scope cluster : Byte) (index : Half) (s : State) : State :=
  s.syncCmd h 2 scope cluster index [] (fun c s => s.complete h 0x0307 .ok (s.counter c).toNat)
/-- SYNC_OP_READ. -/
def execSyncOpRead (h : Hdr) (scope cluster : Byte) (index : Half) (s : State) : Host.Outcome State Fault Refusal :=
  .next (effSyncOpRead h scope cluster index s)

/-- SYNC_OP_WAIT_GE (R561): OK where the condition holds, TIMEOUT where TIMEOUT_MS is 0, else it waits. -/
def effSyncOpWaitGe (h : Hdr) (scope cluster : Byte) (index : Half) (val timeoutMs : Word) (s : State) : State :=
  s.syncCmd h 3 scope cluster index [(24, 4, val.toNat), (28, 4, timeoutMs.toNat)] (fun c s =>
    let v := s.counter c
    if reached v val then s.complete h 0x0307 .ok v.toNat
    else if timeoutMs = 0 then s.complete h 0x0307 .timeout v.toNat
    else s.addJob h 0x0307 (.syncOpWaitGe h scope cluster index val timeoutMs) 0)
/-- SYNC_OP_WAIT_GE. -/
def execSyncOpWaitGe (h : Hdr) (scope cluster : Byte) (index : Half) (val timeoutMs : Word) (s : State) :
    Host.Outcome State Fault Refusal := .next (effSyncOpWaitGe h scope cluster index val timeoutMs s)

/-- SYNC_OP_WAIT_END (R561): the condition holds, or the time has passed; RESULT is the last value observed. -/
def effSyncOpWaitEnd (job : Nat) (s : State) : State :=
  match s.job job with
  | some j =>
    match j.cmd with
    | .syncOpWaitGe h scope cluster index val _ =>
      match s.syncTarget h scope cluster index with
      | .inl st => s.finish job st 0
      | .inr c => s.finish job (if reached (s.counter c) val then .ok else .timeout) (s.counter c).toNat
    | _ => s
  | none => s
/-- SYNC_OP_WAIT_END. -/
def execSyncOpWaitEnd (job : Nat) (s : State) : Host.Outcome State Fault Refusal := .next (effSyncOpWaitEnd job s)

end Sys2Proof.Machine
end

