-- ==== Sys2Proof/Machine/LockstepCmds.lean ====
section
/-!
DEFINITION. Lock-step pairing and digests (12 R749 to R761): LOCKSTEP_PAIR, LOCKSTEP_RELEASE and the digests a peer sends.
-/
namespace Sys2Proof.Machine

/-- Update the lock-step state of the device. -/
def State.modLock (s : State) (f : LockStep → LockStep) : State := s.modQuill (fun q => { q with ls := f q.ls })

/-- A digest that names no context (R753): TYPE 4 or 5. -/
def lsPlain (type : Nat) : List Byte := lsDigest 0 0 type 0 0 0 []

/-- Ten seconds in ns. -/
def tenSeconds : Nat := 10000000000

/-- The pairing is complete (R749): the command completes with OK. -/
def State.lsPaired (s : State) : State :=
  let s1 := s.modLock (fun l => { l with state := 2, job := none, ctxs := [], asked := [] })
  match s.quill.ls.job with
  | some j => s1.finish j .ok 0
  | none => s1

/-- The pairing ends (R760): compared contexts go on uncompared, frozen ones stay frozen, the port returns to routing. -/
def State.lsUnpair (s : State) : State :=
  let s1 := (List.range 16).foldl (fun (t : State) c =>
    if (t.ctx c).run.compared then t.modRun c (fun r => { r with compared := false }) else t) s
  s1.modLock (fun l => { l with state := 0, port := 0, peer := 0xFFFF, job := none, ctxs := [], asked := [] })

/-- Why LOCKSTEP_PAIR does not begin (R749), after its ranges. -/
def State.pairRefusal (s : State) (port : Byte) (peer : Half) : Option Status :=
  let p := s.port port.toNat
  if s.quill.ls.state ≠ 0 then some .busy
  else if s.anyRuns then some .wrongState
  else if p.st ≠ .active ∨ p.peer.map (fun i => i.device) ≠ some peer then some .wrongState
  else none

/-- LOCKSTEP_PAIR (R749, R540 check 6): the request is sent; a peer that asked within the last 10 s is paired at once. -/
def effLockstepPair (h : Hdr) (port : Byte) (peer : Half) (s : State) : State :=
  s.hostCmd h ((pfOnly 0x0901 false .any).on [(16, 1, port.toNat), (18, 2, peer.toNat)]) (decide (port.toNat ≤ 15 ∧ peer.toNat < 4096)) (fun s =>
    if s.quill.health.portOut.getLsbD port.toNat then s.complete h 0x0901 .outOfService 0
    else match s.pairRefusal port peer with
    | some st => s.complete h 0x0901 st 0
    | none =>
      let job := s.host.nextJob
      let s1 := (s.deferJob h 0x0901 (.lockstepPair h port peer) 0).modLock (fun l =>
        { l with state := 1, port := BitVec.ofNat 4 port.toNat, peer := peer, job := some job })
      let s2 := s1.sendLs (lsPlain 4)
      match s.quill.ls.asked.find? (fun e => decide (e.1 = port.toNat ∧ s.time < e.2 + tenSeconds)) with
      | some _ => s2.lsPaired
      | none => s2)
/-- LOCKSTEP_PAIR. -/
def execLockstepPair (h : Hdr) (port : Byte) (peer : Half) (s : State) : Host.Outcome State Fault Refusal :=
  .next (effLockstepPair h port peer s)

/-- LOCKSTEP_PAIR_TIMEOUT (R749): no matching request within 10 s. -/
def effLockstepPairTimeout (job : Nat) (s : State) : State :=
  if s.quill.ls.state = 1 ∧ s.quill.ls.job = some job then s.lsUnpair.finish job .timeout 0 else s
/-- LOCKSTEP_PAIR_TIMEOUT. -/
def execLockstepPairTimeout (job : Nat) (s : State) : Host.Outcome State Fault Refusal := .next (effLockstepPairTimeout job s)

/-- LOCKSTEP_RELEASE (R760). -/
def effLockstepRelease (h : Hdr) (s : State) : State :=
  s.hostCmd h (pfOnly 0x0902 false .any) true (fun s =>
    if s.quill.ls.state ≠ 2 then s.complete h 0x0902 .wrongState 0
    else ((s.sendLs (lsPlain 5)).lsUnpair).complete h 0x0902 .ok 0)
/-- LOCKSTEP_RELEASE. -/
def execLockstepRelease (h : Hdr) (s : State) : Host.Outcome State Fault Refusal := .next (effLockstepRelease h s)

/-- The digest of a stroke that a payload states (R753). -/
def lsRead (d : List Byte) : LsDigest :=
  { index := BitVec.ofNat 64 (fld d 8 8), tdc := BitVec.ofNat 64 (fld d 16 8)
    crcs := ((List.range 48).map (fun c => (c, BitVec.ofNat 64 (fld d (56 + 8 * c) 8)))).filter (fun e => decide (e.2 ≠ 0)) }

/-- A pair request on a port (R749). -/
def State.lsAsked (s : State) (f : Nat) : State :=
  if s.quill.ls.state = 1 ∧ s.quill.ls.port.toNat = f then s.lsPaired
  else if s.quill.ls.state = 0 then s.modLock (fun l => { l with asked := l.asked.set f s.time })
  else s

/-- The peer's context has stopped (R757): comparison ends after its last index; at once where that is compared. -/
def State.lsStopped (s : State) (c last : Nat) : State :=
  let x := s.lsCtx c
  if x.peer.isEmpty && decide (last ≤ x.lastCompared) then
    (s.modRun c (fun r => { r with compared := false })).modLs c (fun _ => LsCtx.reset)
  else s.modLs c (fun y => { y with endsAfter := some last })

/-- A digest of context c from the peer (R751, R754 to R757). -/
def State.lsFrom (s : State) (c type : Nat) (d : List Byte) : State :=
  if type = 0 then (s.modLs c (fun x => { x with theirs := some (BitVec.ofNat 256 (fld d 24 32)) })).lsMatch c
  else if !(s.ctx c).run.compared then s
  else if type = 1 then
    (s.modLs c (fun x => { x with peer := x.peer ++ [lsRead d], reported := fld d 8 8 + 1 })).lsCompareAll c
  else if type = 2 then s.lsStopped c (fld d 8 8)
  else s.partnerLost

/-- LOCKSTEP_DIGEST_RECEIVE (R749 to R757, R760): on an ACTIVE port; digests of contexts count on the lock-step port of a
paired device only. -/
def effLockstepDigestReceive (f : Fin 16) (dg : List Byte) (s : State) : State :=
  let type := fld dg 4 1
  if (s.port f).st ≠ .active then s
  else
    let s1 := s.takeNext f
    if type = 4 then s1.lsAsked f
    else if !s1.lsOwns f then s1
    else if type = 5 then s1.lsUnpair
    else if type ≤ 3 ∧ fld dg 2 1 ≤ 3 ∧ fld dg 3 1 ≤ 3 then s1.lsFrom (4 * fld dg 2 1 + fld dg 3 1) type dg
    else s1
/-- LOCKSTEP_DIGEST_RECEIVE. -/
def execLockstepDigestReceive (f : Fin 16) (dg : List Byte) (s : State) : Host.Outcome State Fault Refusal :=
  .next (effLockstepDigestReceive f dg s)

end Sys2Proof.Machine
end

