-- ==== Sys2Proof/Machine/Rings.lean ====
section
/-!
DEFINITION. Fabric DMA rings, windows and routes (10 R605, R610 to R612, R625 to R627, R649, R650).
-/
namespace Sys2Proof.Machine

/-! ### Rings -/

/-- The fields of a ring descriptor (R625). -/
structure RingDesc where
  src : Nat
  device : Nat
  window : Nat
  flags : Byte
  length : Nat
  off : Nat
  doneRemote : Nat
  doneLocal : Nat
  deriving DecidableEq, Repr

/-- Read a descriptor's 32 bytes. -/
def ringDesc (b : List Byte) : RingDesc :=
  { src := fld b 0 8, device := fld b 8 2, window := fld b 10 1, flags := BitVec.ofNat 8 (fld b 11 1), length := fld b 12 4
    off := fld b 16 8, doneRemote := fld b 24 2, doneLocal := fld b 26 2 }

/-- Whether every field of a descriptor is one R625 allows, its reserved bits zero. -/
def ringDescOk (b : List Byte) (d : RingDesc) : Bool :=
  decide (d.src % 32 = 0 ∧ d.device < 4096 ∧ d.window < 64 ∧ d.flags.toNat < 4 ∧ d.length ≠ 0 ∧ d.length % 32 = 0 ∧
    d.off % 32 = 0 ∧ d.doneRemote < 4096 ∧ d.doneLocal < 4096 ∧ fld b 28 4 = 0)

/-- Send one message of a ring and wait for its receipt; ring and origin first, then destination, window, offset, units. -/
def State.ringSend (s : State) (r : Nat) (d : RingDesc) (base i n : Nat) : State :=
  let units := (List.range n).map (fun u =>
    let a := base + d.src + 480 * i + 32 * u
    ({ data := BitVec.ofNat 256 (leNat (s.store.bytes a 32)), blot := false } : Flit))
  let t := s.nextTrackNo
  (s.modRing r (fun x => { x with work := x.work.map (fun w => { w with waits := w.waits ++ [t] }) })).sendWrite
    (BitVec.ofNat 16 d.device) d.window (d.off + 480 * i) units (.ring r)

/-- Send the first n bytes of a descriptor's source in messages of up to 15 units (R586, R626). -/
def State.ringSendAll (s : State) (r : Nat) (d : RingDesc) (base n : Nat) : State :=
  (List.range ((n + 479) / 480)).foldl (fun t i => t.ringSend r d base i (min 15 ((n - 480 * i) / 32))) s

/-- A ring carries out a descriptor (R626, R627): the messages leave; a blotted source unit stops the ring before it leaves.
TRACK 0 stands for the descriptor itself until every message has left. -/
def State.ringRun (s : State) (r : Nat) (d : RingDesc) (base : Nat) : State :=
  let w : RingWork :=
    { device := d.device, flags := d.flags, doneRemote := d.doneRemote, doneLocal := d.doneLocal, waits := [0] }
  let s1 := s.modRing r (fun x => { x with work := some w })
  let k := s1.store.cleanBytes (base + d.src) d.length
  let s2 := s1.ringSendAll r d base k
  if k < d.length then s2.ringFault r []
  else
    (s2.modRing r (fun x => { x with work := x.work.map (fun y => { y with waits := y.waits.filter (fun t => t != 0) }) })).ringDone r

/-- Whether a ring has a descriptor to process (R626). -/
def State.ringReady (s : State) (r : Nat) : Bool :=
  let x := s.ring r
  x.enable && !x.fault && x.work.isNone && decide (0 < (s.counter (.device x.tail) - x.head).toInt)

/-- RING_DESCRIPTOR_START (R626, R627, R641): `errs` and `lines` are what the reads of bulk memory find, which come after the
requests before them (R459), `tbl` what those of the unit's own state find. -/
def effRingDescriptorStart (r : BitVec 6) (errs : List (DWord × Ecc)) (lines : List LineFind) (tbl : Ecc) (s : State) : State :=
  if !s.ringReady r.toNat then s
  else s.centralRead tbl (fun s =>
    let x := s.ring r.toNat
    let c := (s.ctx (4 * x.part + x.ctx)).run
    let base := c.bulkBase * 65536
    let size := c.bulkSize * 65536
    let o := x.base.toNat * 65536 + x.head.toNat % 2 ^ x.log2 * 32
    if size < o + 32 then s.ringFault r.toNat []
    else
      match s.devReady .bulk (base + o) 32 lines with
      | none => s
      | some s0 =>
        let s1 := s0.devFinds .bulk (base + o) 32 errs lines
        let b := s1.store.bytes (base + o) 32
        let d := ringDesc b
        if !ringDescOk b d || decide (size < d.src + d.length) || s1.store.blotAt (base + o) then s1.ringFault r.toNat []
        else match s1.devReady .bulk (base + d.src) d.length lines with
          | none => s
          | some s2 => (s2.devFinds .bulk (base + d.src) d.length errs lines).ringRun r.toNat d base)
/-- RING_DESCRIPTOR_START. -/
def execRingDescriptorStart (r : BitVec 6) (errs : List (DWord × Ecc)) (s : State) (lines : List LineFind := [])
    (tbl : Ecc := .ok) : Host.Outcome State Fault Refusal := .next (effRingDescriptorStart r errs lines tbl s)

/-- FB_RING_ENABLE (R625, R649, R650): a write of FB_RING_CFGr by the PF. An enabled ring takes ENABLE only; enabling sets HEAD to
0 and clears FAULT; a LOG2_SIZE out of range leaves the ring disabled with FAULT set. -/
def effFbRingEnable (r : BitVec 6) (val : Word) (s : State) : State :=
  if 60 ≤ r.toNat then s
  else
    let on := val.getLsbD 31
    let v := val.toNat
    s.modRing r.toNat (fun x =>
      if x.enable then { x with enable := on }
      else
        let log2 := v / 2 ^ 22 % 16
        let y := { x with ctx := v / 2 ^ 28 % 4, part := v / 2 ^ 26 % 4, log2 := log2, tail := v % 4096 }
        if !on then y
        else if 4 ≤ log2 ∧ log2 ≤ 12 then { y with enable := true, fault := false, head := 0, work := none }
        else { y with fault := true, head := 0, work := none })
/-- FB_RING_ENABLE. -/
def execFbRingEnable (r : BitVec 6) (val : Word) (s : State) : Host.Outcome State Fault Refusal :=
  .next (effFbRingEnable r val s)

/-! ### Routes -/

/-- SET_ROUTE (R605). -/
def effSetRoute (h : Hdr) (dest : Half) (entry : Word) (s : State) : State :=
  s.hostCmd h ((pfOnly 0x0403 false .any).on [(16, 2, dest.toNat), (20, 4, entry.toNat)]) (decide (dest.toNat < 4096 ∧ entry.toNat % 2 ^ 21 = 0)) (fun s =>
    ({ s with fabric := { s.fabric with routes := s.fabric.routes.set dest.toNat entry } } : State).complete h 0x0403 .ok 0)
/-- SET_ROUTE. -/
def execSetRoute (h : Hdr) (dest : Half) (entry : Word) (s : State) : Host.Outcome State Fault Refusal :=
  .next (effSetRoute h dest entry s)

/-! ### Windows -/

/-- The window that a descriptor describes (R610), of a context of partition p. -/
def winOf (d : List Byte) (p c : Nat) (cluster : Nat) : Window :=
  { Window.reset with
    opened := true, target := fld d 1 1, part := p, ctx := c, peer := BitVec.ofNat 16 (fld d 2 2), lcluster := fld d 4 1
    cluster := cluster, entryPort := fld d 5 1, entrySlice := fld d 6 1, queue := fld d 7 1, base := fld d 8 8
    length := fld d 16 8 }

/-- Fields of a descriptor that do not depend on the state (R610). -/
def winFieldsOk (d : List Byte) : Bool :=
  let target := fld d 1 1
  let base := fld d 8 8
  let len := fld d 16 8
  decide (fld d 0 1 < 64 ∧ target ≤ 2 ∧ fld d 2 2 < 4096 ∧ base % 32 = 0) &&
    (if target = 0 then decide (fld d 5 1 < 16 ∧ fld d 6 1 ≤ 1 ∧ len % 32 = 0 ∧ base + len ≤ inkSize)
     else if target = 1 then decide (len % 32 = 0 ∧ len ≤ 2 ^ 34)
     else decide (fld d 7 1 < 64 ∧ base = 0 ∧ len ≠ 0 ∧ len % 32 = 0))

/-- The physical cluster of a descriptor's logical cluster under the context's layout. -/
def State.winCluster (s : State) (c : Nat) (d : List Byte) : Option Nat :=
  if (s.ctx c).run.layoutValid then ((s.ctxClusters c).find? (fun e => decide (e.1 = fld d 4 1))).map (fun e => e.2) else none

/-- Why OPEN_WINDOW does not open its window (R611), in the order of the checks. -/
def State.openRefusal (s : State) (c : Nat) (d : List Byte) : Option Status :=
  let target := fld d 1 1
  let w := s.window (fld d 0 1)
  let q := fld d 7 1
  let life := (s.ctx c).lc.life
  let on := decide (life = .on ∨ life = .stopping)
  let far := decide (target = 0) && decide (s.partOf (portCluster (fld d 5 1)) ≠ ctxPart c)
  let unmapped := decide (target = 0) && on && (s.winCluster c d).isNone
  let big := decide (target = 1) && decide ((s.ctx c).run.bulkSize * 65536 < fld d 8 8 + fld d 16 8)
  let taken := decide (target = 2) &&
    (decide ((s.fabric.dcq.cfg q).mode = 0) || decide (s.fabric.dcq.owner.get 16 q ≠ c))
  if far || unmapped || (on && big) then some .badParam
  else if !on then some .wrongState
  else if w.opened || w.closing then some .wrongState
  else if taken then some .wrongState
  else none

/-- OPEN_WINDOW (R610, R611): the window opens at once, with nothing landed. -/
def effOpenWindow (h : Hdr) (desc : List Byte) (s : State) : State :=
  s.hostCmd h { pfOnly 0x0401 false .one with context := true, args := [(16, 48, leNat (fitTo 48 desc))] } (winFieldsOk desc) (fun s =>
    let c := s.hdrCtx h
    match s.openRefusal c desc with
    | some st => s.complete h 0x0401 st 0
    | none =>
      (s.modWindow (fld desc 0 1) (fun _ => winOf desc (ctxPart c) (ctxNo c) ((s.winCluster c desc).getD 0))).complete h
        0x0401 .ok 0)
/-- OPEN_WINDOW. -/
def execOpenWindow (h : Hdr) (desc : List Byte) (s : State) : Host.Outcome State Fault Refusal :=
  .next (effOpenWindow h desc s)

/-- CLOSE_WINDOW (R612, R429): the close takes effect, and the command completes, at the edge of the owner's partition. -/
def effCloseWindow (h : Hdr) (w : Byte) (s : State) : State :=
  s.hostCmd h ((pfOnly 0x0402 false .any).on [(16, 1, w.toNat)]) (decide (w.toNat < 64)) (fun s =>
    let x := s.window w.toNat
    if !x.opened || x.closing then s.complete h 0x0402 .wrongState 0
    else (s.modWindow w.toNat (fun y => { y with closing := true })).addJob h 0x0402 (.closeWindow h w) 0)
/-- CLOSE_WINDOW. -/
def execCloseWindow (h : Hdr) (w : Byte) (s : State) : Host.Outcome State Fault Refusal := .next (effCloseWindow h w s)

end Sys2Proof.Machine
end

