-- ==== Sys2Proof/Machine/Registers.lean ====
section
/-!
DEFINITION. What every register of the register space reads as: the word at a BAR0 offset, from the state (03 R169 to R177; 04
R245 to R255; 05 R300 to R310; 06 R369 to R382; 07 R430 to R436; 08 R487 to R498; 09 R572 to R582; 10 R644 to R649; 11 R727
to R731; 12 R764 to R768; 13 R816 to R818; 14 R843, R844; 15 R874, R875). Offsets that no table assigns read as zero.
-/
namespace Sys2Proof.Machine

/-- A register from its fields: position of the lowest bit and value. -/
def regWord (l : List (Nat × Nat)) : Word := BitVec.ofNat 32 (l.foldl (fun a e => a + e.2 * 2 ^ e.1) 0)

/-- A flag as a number. -/
def flagOf (b : Bool) : Nat := if b then 1 else 0

/-- Four bytes of a map as a register, entry 4 n lowest. -/
def fourOf (t : Tbl Byte) (n : Nat) : Word :=
  regWord ((List.range 4).map (fun i => (8 * i, (t.get 0xFF (4 * n + i)).toNat)))

/-- The number of a register in a run of registers of 4 bytes that begins at `base`, where offset x lies in it. -/
def slotIn (x base count : Nat) : Option Nat := if base ≤ x ∧ x < base + 4 * count ∧ x % 4 = 0 then some ((x - base) / 4) else none

/-- The number of a block of `size` bytes and the offset in it, where offset x lies in a run of blocks that begins at `base`. -/
def blockIn (x base size count : Nat) : Option (Nat × Nat) :=
  if base ≤ x ∧ x < base + size * count then some ((x - base) / size, (x - base) % size) else none

/-- Low and high word of a 64-bit value. -/
def loWord (x : DWord) : Word := x.setWidth 32
/-- High word of a 64-bit value. -/
def hiWord (x : DWord) : Word := (x >>> 32).setWidth 32

/-! ### CO_ (R122 to R127, R169 to R177, R300 to R306, R369 to R376) -/

/-- CO_STATUS (R171). -/
def Core.status (c : Core) : Word :=
  regWord [(8, (c.ctl.context.map ctxNo).getD 0xFF), (5, flagOf c.ctl.patrol), (4, flagOf c.ctl.fenced),
    (3, flagOf (decide (c.ctl.lcore = 0xFF))), (0, c.ctl.st.code)]

/-- CO_STEER_STATn (R302). -/
def CoreSteer.stat (x : CoreSteer) (u : Nat) : Word :=
  regWord ((List.range 4).map (fun i => (16 + 4 * i, (x.buf.get [] (4 * u + i)).length)) ++
    [(8, (x.lastOrdinal.get 0 u).toNat), (1, flagOf (x.clamp.get false u)), (0, flagOf (decide ((x.cfg.get 0 u).toNat / 2 ^ 29 ≠ 0)))])

/-- The steering registers (R300 to R306). -/
def CoreSteer.reg (x : CoreSteer) (o : Nat) : Word :=
  match slotIn o 0x200 4, slotIn o 0x210 4 with
  | some n, _ => x.cfg.get 0 n
  | none, some n => x.stat n
  | none, none =>
    if o = 0x220 then x.err.read
    else if o = 0x224 then regWord [(8, x.configId.toNat), (0, x.roleEpoch.toNat)]
    else if o = 0x228 then regWord ((List.range 4).map (fun i => (8 * i, (x.chanRepoch.get 0 i).toNat)))
    else if o = 0x22C then regWord ((List.range 4).map (fun i => (8 * i, (x.chanRepoch.get 0 (4 + i)).toNat)))
    else if o = 0x230 then regWord [(16, x.roleCnt.toNat), (0, x.cfgCnt.toNat)]
    else if o = 0x234 then regWord [(20, x.noneSel.toNat), (8, x.mergeDrop.toNat), (0, x.unusedIn.toNat)]
    else 0

/-- A cycle after every cycle of a stroke counter of 64 bits: a host read sees every entry that has been delivered. -/
def afterAll : Nat := 2 ^ 72

/-- The queue registers (R369 to R375). -/
def CoreQueues.reg (x : CoreQueues) (o : Nat) : Word :=
  match slotIn o 0x100 8, slotIn o 0x120 8, slotIn o 0x160 8 with
  | some n, _, _ => x.qstat n afterAll
  | none, some n, _ => x.echanWord n
  | none, none, some n => x.fdest.get 0 n
  | none, none, none =>
    if o = 0x140 then x.qsum afterAll
    else if o = 0x144 then
      regWord [(20, x.echanFree.toNat), (17, x.lastSel.toNat), (16, flagOf x.rotate), (0, x.qmode.toNat)]
    else if o = 0x180 then regWord [(16, x.recvDrop.toNat), (0, x.sendDrop.toNat)]
    else 0

/-- CO_BLOCK (R376) of core n; a core that froze while it was blocked still shows its edge (R340, log 105). -/
def State.coBlock (s : State) (n : Nat) : Word :=
  let c := s.core n
  match c.blockedChan with
  | some ch =>
    if c.ctl.st = .blocked ∨ c.ctl.st = .frozen then
      let w := c.qs.fdest.get 0 ch
      regWord [(31, 1), (30, flagOf (s.blockEdge n).isSome), (24, ch), (16, fdestCluster w), (8, fdestCore w), (0, fdestIndex w % 8)]
    else 0
  | none => 0

/-- The block of a core (R169): offset o of core n. -/
def State.coreReg (s : State) (n o : Nat) : Word :=
  let c := s.core n
  match slotIn o 0x40 16 with
  | some i => fourOf c.errs.cmap i
  | none =>
    if o = 0x00 then
      regWord [(24, c.ctl.lcluster.toNat), (16, c.ctl.lcore.toNat), (8, kOf n), (0, jOf n)]
    else if o = 0x04 then c.status
    else if o = 0x08 then c.ctl.pc.setWidth 32
    else if o = 0x10 then c.errs.err.read
    else if o = 0x14 then c.errs.err.pc
    else if o = 0x18 then loWord c.errs.err.addr
    else if o = 0x1C then
      regWord [(24, c.errs.lsUncorr.toNat), (16, c.errs.lsCorr.toNat), (8, c.errs.isUncorr.toNat), (0, c.errs.isCorr.toNat)]
    else if o = 0x80 then c.errs.bulkBase
    else if o = 0x84 then c.errs.bulkLimit
    else if o = 0x88 then c.errs.hostBase
    else if o = 0x8C then c.errs.hostLimit
    else if o = 0x184 then s.coBlock n
    else if o < 0x200 then c.qs.reg o
    else if o < 0x300 then c.steer.reg o
    else if o = 0x400 then c.eng.err.read
    else if o = 0x404 then regWord [(16, c.eng.parityCnt.toNat), (0, c.eng.residueCnt.toNat)]
    else if o = 0x408 then c.eng.meFlags.setWidth 32
    else if o = 0x40C then c.eng.veFlags.setWidth 32
    else 0

/-! ### NW_ and CL_ (R245 to R255, R307 to R310, R377 to R382, R430 to R436) -/

/-- The ruling that a switch which awaits an edge will activate at router k (R198, R200, R201, R247): the Quill's, for a
restart or a RECONFIGURE, before a successor under R200 (log 109). -/
def State.pendingSwitch (s : State) (k : Nat) : Option Nat :=
  let r := (s.cluster k).router
  match r.pending, (s.part (s.partOf k)).epoch.reconf with
  | some w, _ => some w.ruling
  | none, some x => if (s.lastRouters x.context).contains k then some x.ruling else r.successor
  | none, none => r.successor

/-- The block of the router of cluster k (R246 to R250). -/
def State.routerReg (s : State) (k o : Nat) : Word :=
  let r := (s.cluster k).router
  let xcal := fun (b : Nat) => regWord ((List.range 8).map (fun i => (4 * i, (r.xcal.get 0 (b + i)).toNat)))
  if o = 0x00 then regWord [(11, regionOf k), (9, quarterOf k), (8, colOf k / 4), (0, k)]
  else if o = 0x04 then
    regWord ((List.range 4).map (fun n => (8 + n, flagOf (r.rulings.any (fun e => e.1 == n)))) ++
      [(5, flagOf (s.pendingSwitch k).isSome), (2, (s.pendingSwitch k).getD 0), (0, r.active)])
  else if o = 0x10 then xcal 0
  else if o = 0x14 then xcal 8
  else if o = 0x20 then r.err.read
  else if o = 0x24 then regWord [(24, r.ruleCorr.toNat), (16, r.ruleUncorr.toNat), (0, r.linkParity.toNat)]
  else 0

/-- The stroke block of partition p (R251 to R255). -/
def State.strokeReg (s : State) (p o : Nat) : Word :=
  let x := (s.part p).stroke
  if o = 0x00 then loWord x.count
  else if o = 0x04 then x.hiCapture
  else if o = 0x08 then
    regWord [(10, x.seamReq.toNat), (9, flagOf x.seamDeferred), (7, x.seamRatio.toNat), (0, x.margin.toNat)]
  else if o = 0x10 then x.ovrMargin
  else if o = 0x14 then x.ovrEmpty
  else if o = 0x18 then x.ovrFull
  else if o = 0x1C then x.holdCnt
  else if o = 0x20 then
    match x.holdSince with
    | some t => regWord [(31, 1), (16, min 255 (s.holdRequests p).length), (0, min 0xFFFF ((s.time - t) / 1000000))]
    | none => 0
  else if o = 0x28 then regWord [(16, x.switches.toNat), (3, flagOf x.noLayout), (0, x.layout.toNat)]
  else 0

/-- The epoch block of partition p (R307 to R310). -/
def State.epochReg (s : State) (p o : Nat) : Word :=
  let x := (s.part p).epoch
  if o = 0x00 then regWord [(8, x.configId.toNat), (0, x.epoch.toNat)]
  else if o = 0x04 then
    match x.reconf with
    | some r =>
      regWord [(31, 1), (30, flagOf r.discard), (28, r.ruling), (24, r.configId.toNat), (0, min 1024 r.evaluated)]
    | none => 0
  else if o = 0x08 then x.staleCfg
  else if o = 0x0C then x.staleRole
  else if o = 0x10 then x.reconfDrop
  else 0

/-- Whether a counter has a waiter (R362): a core blocked in WAIT_GE on it or a pending hold request that names it. -/
def State.waited (s : State) (c : Counter) : Bool :=
  decide (s.waiterMask c ≠ 0)

/-- CL_CQ_STATn and FB_DCQ_STATn (R380). -/
def Combining.stat (x : Combining) (n : Nat) : Word :=
  let a := (x.cfgA.get 0 n).toNat
  let done := fun (p : Nat) => decide (a / 2 ^ 30 ≠ 0 ∧ (x.pieces.get CqPiece.empty (8 * n + p)).arrivals = a % 65536)
  regWord [(16, (x.releases.get 0 n).toNat), (8, bits8 done), (0, (x.flags.get 0 n).toNat)]

/-- The sync block of cluster k (R377 to R382). -/
def State.syncReg (s : State) (k o : Nat) : Word :=
  let x := s.cluster k
  match slotIn o 0 256, slotIn o 0x400 8, slotIn o 0x500 32, slotIn o 0x580 16 with
  | some n, _, _, _ => x.sync.get 0 n
  | none, some n, _, _ => regWord ((List.range 32).map (fun b => (b, flagOf (s.waited (.cluster k (32 * n + b))))))
  | none, none, some n, _ => if n % 2 = 0 then x.cq.cfgA.get 0 (n / 2) else x.cq.cfgB.get 0 (n / 2)
  | none, none, none, some n => x.cq.stat n
  | none, none, none, none =>
    if o = 0x5C0 then x.cq.err.read
    else if o = 0x5C4 then regWord [(16, x.dlockDetected.toNat), (0, x.dlockLast.toNat)]
    else 0

/-- The inkwell block of cluster k (R430 to R436). -/
def State.inkReg (s : State) (k o : Nat) : Word :=
  let x := (s.cluster k).ink
  match slotIn o 0x10 8 with
  | some n => fourOf x.cmap n
  | none =>
    if o = 0x00 then regWord [(1, flagOf x.scrub), (0, flagOf x.checking)]
    else if o = 0x40 then x.err.read
    else if o = 0x44 then loWord x.err.addr
    else if o = 0x48 then x.chkErr.read
    else if o = 0x4C then loWord x.chkErr.addr
    else if o = 0x50 then regWord [(16, x.corr.toNat), (0, x.uncorr.toNat)]
    else if o = 0x54 then regWord [(21, x.passes.toNat), (0, x.position.toNat)]
    else if o = 0x58 then regWord [(16, x.winDrop.toNat), (8, x.collide.toNat), (0, x.streamDrop.toNat)]
    else 0

/-! ### MC_ and SQ_ (R487 to R498) -/

/-- The block of memory controller m (R488 to R494). -/
def State.mcReg (s : State) (m o : Nat) : Word :=
  let x := s.mcOf m
  if o = 0x00 then
    regWord [(12, flagOf (decide (rowOf (mcCluster m) ≠ 0))), (10, m / 4), (4, mcCluster m), (0, m)]
  else if o = 0x04 then regWord [(3, s.dev.mode.toNat), (2, 1), (0, x.rate.toNat)]
  else if o = 0x08 then regWord [(3, flagOf (decide (x.held ≠ 0))), (0, x.st.code)]
  else if o = 0x10 then regWord [(16, x.corr.toNat), (0, x.uncorr.toNat)]
  else if o = 0x14 then regWord [(16, x.readCorr.toNat), (0, x.writeErr.toNat)]
  else if o = 0x18 then x.err.read
  else if o = 0x1C then loWord x.err.addr
  else if o = 0x20 then hiWord x.err.addr &&& 0x1FF
  else if o = 0x24 then regWord [(24, x.passes.toNat), (0, x.scrubLine / 128)]
  else if o = 0x28 then regWord [(16, x.slow.toNat), (0, x.maxNs.toNat)]
  else 0

/-- The pending pages of quarter range q (R477). -/
def State.poolPending (s : State) (q : Nat) : List Nat :=
  (s.bulk.pendPages.filter (fun e => decide (e.1 / 262144 = q))).map (fun e => e.1)

/-- The free pages of quarter range q (R476): neither counted, pending nor bad. -/
def State.poolFree (s : State) (q : Nat) : Nat :=
  let a := countAddr (q * 262144)
  let used := (s.store.mem.filter (fun x => decide (a ≤ x.1 ∧ x.1 < a + 262144))).map (fun x => x.1 - a)
  let b := pageAddr (q * 262144) / 65536
  let bad := (s.bulk.bad.filter (fun r => decide (b ≤ r ∧ r < b + 262144))).map (fun r => r - b)
  262144 - (used ++ (s.poolPending q).map (fun n => n % 262144) ++ bad).eraseDups.length

/-- The sequence block (R495 to R498). -/
def State.sqReg (s : State) (o : Nat) : Word :=
  match slotIn o 0x10 8, blockIn o 0x1000 0x20 32 with
  | some n, _ =>
    if n % 2 = 0 then BitVec.ofNat 32 (s.poolFree (n / 2)) else BitVec.ofNat 32 (s.poolPending (n / 2)).length
  | none, some (n, r) =>
    if r = 0x00 then s.sqState n
    else if r = 0x04 then s.sqPos n
    else if r = 0x08 then s.sqPages n
    else if r = 0x0C then s.sqTier n
    else if r = 0x10 then regWord [(16, (s.slot n).copies.toNat), (0, (s.slot n).commands.toNat)]
    else 0
  | none, none => 0

/-! ### HI_ (R572 to R582) -/

/-- HI_LINK (R574). -/
def HostIf.linkWord (h : HostIf) : Word :=
  regWord [(28, h.link.speed.toNat), (24, h.link.width.toNat), (20, h.link.l0p.toNat), (19, flagOf h.link.flit),
    (18, flagOf h.linkKey.isSome), (15, (h.fns.filter (fun e => e.2.ideKey.isSome)).length)]

/-- The registers of queue pair q (R577, R580, R581). -/
def Qp.reg (q : Qp) (r : Nat) : Word :=
  if r = 0x00 then loWord q.sqBase
  else if r = 0x04 then hiWord q.sqBase
  else if r = 0x08 then loWord q.cqBase
  else if r = 0x0C then hiWord q.cqBase
  else if r = 0x10 then
    regWord [(31, flagOf q.enable), (25, q.vector.toNat), (24, flagOf q.irqEn), (12, q.sqSize - 1), (0, q.cqSize - 1)]
  else if r = 0x14 then regWord [(31, flagOf q.active), (30, flagOf q.fault), (16, q.sqHead), (0, q.cqTail)]
  else 0

/-- HI_EVR_CFG (R578). -/
def Ring.cfgWord (r : Ring) : Word :=
  regWord [(31, flagOf r.enable), (25, r.vector.toNat), (24, flagOf r.irqEn), (0, r.size - 1)]
/-- HI_EVR_STATUS (R579): HELD shows at most 63. -/
def Ring.statusWord (r : Ring) : Word :=
  regWord [(31, flagOf r.active), (30, flagOf r.lost), (24, min 63 r.held.length), (0, r.lostCnt.toNat)]

/-- The block of function f, at the offsets of BAR0 (R572 to R581). -/
def State.hostReg (s : State) (f o : Nat) : Word :=
  let x := s.fn f
  match blockIn o 0x1000 0x20 (pairsOf f) with
  | some (n, r) => (s.qp f n).reg r
  | none =>
    if o = 0x00 then regWord [(24, 1), (16, 0xA1), (8, s.dev.gradeL), (0, f)]
    else if o = 0x04 then (if f = 0 then s.host.linkWord else 0)
    else if o = 0x08 then
      regWord [(31, flagOf s.quill.running), (30, flagOf s.inSafe), (29, flagOf s.module_.ident.recoveryAt.isSome),
        (28, flagOf (decide (s.quill.health.service = 2)))]
    else if o = 0x0C then regWord [(24, x.badDoorbell.toNat), (16, x.hostFail.toNat), (0, x.barReject.toNat)]
    else if o = 0x10 then loWord x.aptBase
    else if o = 0x14 then hiWord x.aptBase
    else if o = 0x18 then x.b2Base.setWidth 32
    else if o = 0x20 then loWord x.ring.base
    else if o = 0x24 then hiWord x.ring.base
    else if o = 0x28 then x.ring.cfgWord
    else if o = 0x2C then x.ring.statusWord
    else 0

/-- HI_RECOVERY (R582). -/
def State.recoveryWord (s : State) : Word :=
  regWord [(31, flagOf s.module_.ident.recoveryAt.isSome), (0, s.host.recoveryLen.toNat)]

/-! ### FB_ (R644 to R649) -/

/-- The three registers of a lane (R645) at the device time. -/
def Lane.reg (l : Lane) (now r : Nat) : Word :=
  if r = 0 then
    regWord [(31, flagOf l.retired), (30, flagOf l.inUse),
      (16, min 255 (l.counted.filter (fun t => decide (now < t + 60 * secondNs))).length), (0, l.retrains.toNat)]
  else if r = 4 then l.rxPower.setWidth 32
  else if r = 8 then l.corr
  else 0

/-- The block of port f (R645). -/
def State.portReg (s : State) (f o : Nat) : Word :=
  let x := s.port f
  let part := fun (v : BitVec 256) (n : Nat) => v.extractLsb' (32 * n) 32
  match slotIn o 0x20 8, slotIn o 0x40 8, blockIn o 0x60 16 5 with
  | some n, _, _ => (x.block.map (fun b => part b.watermark n)).getD 0
  | none, some n, _ => part x.expect n
  | none, none, some (l, r) => (x.lanes.get Lane.reset l).reg s.time r
  | none, none, none =>
    if o = 0x00 then regWord [(0, flagOf x.gate)]
    else if o = 0x04 then
      regWord [(29, x.st.code), (24, x.laneMap.toNat), (22, if x.width = 4 then 2 else if x.width = 2 then 1 else 0),
        (21, flagOf x.mismatch), (20, flagOf x.stalled), (8, x.lastCause.toNat), (0, x.version.toNat)]
    else if o = 0x08 then regWord [(16, x.peerDevice.toNat), (0, x.peerPort.toNat)]
    else if o = 0x0C then regWord [(16, x.replays.toNat), (0, x.trainings.toNat)]
    else if o = 0x10 then x.lost
    else if o = 0x14 then regWord [(16, x.uncorr.toNat), (0, x.ber.toNat)]
    else 0

/-- FB_WIN_STATUSn (R646). -/
def Window.status (w : Window) : Word :=
  regWord [(31, flagOf w.opened), (30, flagOf w.closing), (28, w.target), (26, w.part), (24, w.ctx), (0, w.peer.toNat)]

/-- The registers of ring r (R649). -/
def RingSt.reg (x : RingSt) (r : Nat) : Word :=
  if r = 0 then
    regWord [(31, flagOf x.enable), (30, flagOf x.fault), (28, x.ctx), (26, x.part), (22, x.log2), (0, x.tail)]
  else if r = 4 then x.base
  else if r = 8 then x.head
  else 0

/-- The device's own registers (R646): FB_ID to FB_THR_DIE. -/
def State.fabDevReg (s : State) (o : Nat) : Word :=
  let g := s.fabric.cfg
  let c := s.fabric.cnt
  match slotIn o 0x20 4 with
  | some n => regWord [(31, flagOf (c.laser.getLsbD n)), (0, (c.bias.get 0xFFFF n).toNat)]
  | none =>
    if o = 0x00 then s.dev.fbId.setWidth 32
    else if o = 0x04 then regWord [(16, g.receiptMs.toNat), (13, flagOf g.timeRole), (0, g.maxHops.toNat)]
    else if o = 0x08 then regWord [(31, flagOf g.locked), (8, g.stratum.toNat), (0, g.source.toNat)]
    else if o = 0x0C then g.offset
    else if o = 0x10 then c.forwarded
    else if o = 0x14 then regWord [(16, c.noRoute.toNat), (8, c.hops.toNat), (0, c.other.toNat)]
    else if o = 0x18 then c.winDrop
    else if o = 0x1C then c.rcptLost
    else if o = 0x40 then regWord [(16, c.rxLow.toNat), (0, c.biasHigh.toNat)]
    else if o = 0x44 then regWord [(24, c.berLow.toNat), (0, c.corrHigh.toNat)]
    else if o = 0x48 then regWord [(16, c.droopLow.toNat), (0, c.slackLow.toNat)]
    else 0

/-- The device block of the fabric (R644, R646 to R649). -/
def State.fabReg (s : State) (o : Nat) : Word :=
  let x := s.fabric
  match slotIn o 0x100 64, slotIn o 0x200 64, slotIn o 0x1000 128, slotIn o 0x1200 64, blockIn o 0x2000 0x10 64 with
  | some n, _, _, _, _ => (s.window n).status
  | none, some n, _, _, _ => (s.window n).landed
  | none, none, some n, _, _ => if n % 2 = 0 then x.dcq.cfgA.get 0 (n / 2) else x.dcq.cfgB.get 0 (n / 2)
  | none, none, none, some n, _ => x.dcq.stat n
  | none, none, none, none, some (n, r) => (s.ring n).reg r
  | none, none, none, none, none => if o = 0x1300 then x.dcq.err.read else s.fabDevReg o

/-! ### QL_ (R727 to R731, R764 to R768) -/

/-- QL_CTX_CTL and QL_CTX_STAT (R730) of context c. -/
def State.ctxReg (s : State) (c : Nat) (stat : Bool) : Word :=
  let l := (s.ctx c).lc
  if stat then
    regWord [(29, l.life.code), (28, flagOf l.held.isSome), (27, flagOf l.restartExhausted), (25, min 3 l.kills),
      (24, flagOf (s.checkpointDue c || l.work.isSome)), (20, l.killLevel % 16), (0, l.missed.toNat)]
  else regWord [(31, flagOf l.autoRestart), (0, l.periodMs.toNat)]

/-- QL_PART_STATp (R729). -/
def State.partStat (s : State) (p : Nat) : Word :=
  let q := s.qpart p
  regWord [(29, q.life.code), (28, flagOf q.held.isSome), (27, flagOf q.out),
    (22, min 15 (s.inWindow q.resets s.quill.health.partMinutes).length), (18, q.suspects.toNat), (16, q.replay % 4)]

/-- The patrol mode of every partition, 3 where they differ (R731). -/
def State.patrolWord (s : State) : Nat :=
  let l := (partitionsOf s.dev.mode).map s.patrolMode
  if l.all (fun m => decide (m = s.patrolMode 0)) then s.patrolMode 0 else 3

/-- The QL_ block (R727 to R731). -/
def State.qlReg (s : State) (o : Nat) : Word :=
  let q := s.quill
  let x := q.health
  match slotIn o 0x20 4, slotIn o 0x40 12, slotIn o 0x100 32 with
  | some p, _, _ => s.partStat p
  | none, some i, _ => regWord ((List.range 4).map (fun n => (8 * n, s.spareCode (4 * i + n))))
  | none, none, some n => s.ctxReg (n / 2) (decide (n % 2 = 1))
  | none, none, none =>
    if o = 0x00 then
      regWord ([(30, s.serviceCode), (16, x.score)] ++ (List.range 4).map (fun p => (8 + p, flagOf (s.qpart p).out)))
    else if o = 0x04 then x.portOut.setWidth 32
    else if o = 0x08 then regWord [(24, min 255 (s.lately x.mgmtResets)), (16, x.misses.toNat), (0, x.mgmtCount.toNat)]
    else if o = 0x0C then regWord [(16, x.strokeWatchMs.toNat), (0, x.holdWatchS.toNat)]
    else if o = 0x10 then regWord [(28, x.partResets), (21, x.partMinutes), (17, x.devResetMax), (10, x.devMinutes)]
    else if o = 0x200 then
      regWord [(16, min 0xFFFF q.samples.toNat), (8, min 0xFF q.mismatches.toNat), (1, q.skipped.toNat),
        (0, flagOf ((partitionsOf s.dev.mode).any s.driftHigh))]
    else if o = 0x204 then regWord [(16, min 0xFFFF q.passes.toNat), (8, min 0xFF q.fails.toNat), (0, s.patrolWord)]
    else if o = 0x208 then regWord [(31, flagOf q.full), (30, flagOf q.truncated), (16, q.moraine.length)]
    else 0

/-- QL_MODEp (R766): a quarter reports the partition it belongs to. -/
def State.modeWord (s : State) (quarter : Nat) : Word :=
  let p := partOfQuarter s.dev.mode quarter
  let m := s.modes p
  regWord [(14, m.patrolSet.toNat), (12, s.patrolMode p), (11, flagOf m.driftHigh), (10, flagOf (s.driftHigh p)),
    (3, flagOf m.checking), (2, flagOf m.detFast)]

/-- QL_CTX_MODE (R767). -/
def State.ctxMode (s : State) (c : Nat) : Word :=
  let r := (s.ctx c).run
  let lag := if r.compared then min 64 (r.lsIndex - (s.lsCtx c).reported) else 0
  regWord [(28, r.clock), (27, flagOf r.compared), (26, flagOf r.frozen), (8, lag)]

/-- The mode block (R764 to R768). -/
def State.modeReg (s : State) (o : Nat) : Word :=
  let l := s.quill.ls
  match slotIn o 0x10 4, blockIn o 0x40 16 16 with
  | some p, _ => s.modeWord p
  | none, some (c, r) =>
    let x := (s.ctx c).run
    if r = 0 then loWord x.tdc else if r = 4 then x.tdcHi else if r = 8 then x.inexact else if r = 12 then s.ctxMode c else 0
  | none, none =>
    if o = 0x00 then
      regWord [(30, s.dev.mode.toNat), (27, l.state), (23, l.port.toNat), (0, l.peer.toNat)]
    else if o = 0x200 then l.waits
    else 0

/-! ### CK_, PW_, ID_, EM_ (R816 to R818, R843, R844, R874, R875) -/

/-- The CK_ block (R817). -/
def State.ckReg (s : State) (o : Nat) : Word :=
  let c := s.module_.clock
  match blockIn o 0x40 16 8, slotIn o 0x100 48 with
  | some (r, i), _ =>
    let x := s.region r
    if i = 0 then regWord [(28, x.setting), (27, flagOf x.running), (26, flagOf x.gated), (25, flagOf (s.halfRate (if r < 4 then 0 else 4)))]
    else if i = 4 then x.stretch
    else if i = 8 then regWord [(16, x.supply.toNat), (0, x.margin.toNat)]
    else 0
  | none, some k => (c.slack.get 0x8000 k).setWidth 32
  | none, none =>
    if o = 0x00 then
      regWord [(31, flagOf c.present), (30, flagOf c.holdover), (16, c.losses.toNat), (0, c.lastMs.toNat)]
    else if o = 0x08 then BitVec.ofNat 32 s.time
    else if o = 0x0C then c.timeHi
    else 0

/-- The PW_ block (R818). -/
def State.pwReg (s : State) (o : Nat) : Word :=
  let w := s.module_.power
  let own := fun (q : Nat) => partOfQuarter s.dev.mode q
  match slotIn o 0x40 4 with
  | some q => w.capDelay.get 0 (own q)
  | none =>
    if o = 0x00 then
      regWord ((List.range 4).map (fun q => (8 + q, flagOf (w.prefIdle.getLsbD (own q)))) ++
        (List.range 4).map (fun q => (2 * q, w.states.get 1 (own q))))
    else if o = 0x04 then regWord [(28, w.step), (24, w.safeCause), (0, w.durationMs.toNat)]
    else if o = 0x08 then regWord [(16, w.hostW.toNat), (0, w.bcW.toNat)]
    else if o = 0x0C then regWord [(16, w.effective), (0, w.delay)]
    else if o = 0x10 then w.watts.setWidth 32
    else if o = 0x14 then
      regWord [(16, w.hottest.toNat), (10, w.hotCluster.toNat), (2, min 3 w.west), (0, min 3 w.east)]
    else if o = 0x18 then w.on.extractLsb' 0 32
    else if o = 0x1C then (w.on.extractLsb' 32 28).setWidth 32
    else if o = 0x20 then w.ret.extractLsb' 0 32
    else if o = 0x24 then (w.ret.extractLsb' 32 16).setWidth 32
    else 0

/-- The ID_ block (R844). -/
def State.idReg (s : State) (o : Nat) : Word :=
  let d := s.module_.ident
  match slotIn o 0x20 8 with
  | some n => d.measurement.extractLsb' (32 * n) 32
  | none =>
    if o = 0x00 then
      regWord [(31, flagOf d.recovered), (30, flagOf d.staged.isSome), (29, flagOf d.committing.isSome), (28, flagOf d.opFallback),
        (16, d.composition.toNat), (8, d.recoveryFails.toNat)]
    else if o = 0x04 then loWord d.version
    else if o = 0x08 then hiWord d.version
    else if o = 0x0C then s.dev.boot
    else if o = 0x10 then regWord [(24, d.torn.toNat), (16, d.badSig.toNat), (0, min 0xFFFF ((bankSize - d.used) / 1024))]
    else 0

/-- The EM_ block (R875). -/
def State.emReg (s : State) (o : Nat) : Word :=
  let e := s.module_.em
  match slotIn o 0x80 32 with
  | some n =>
    let b := s.module_.meter.log.get [] e.slot.toNat
    if b.isEmpty then 0xFFFFFFFF else BitVec.ofNat 32 (fld b (4 * n) 4)
  | none =>
    if o = 0x00 then
      regWord [(31, flagOf e.present), (30, flagOf e.intact), (29, flagOf e.fault), (28, flagOf e.outRange),
        (24, e.entryCause % 16), (16, e.openStamps)]
    else if o = 0x04 then loWord e.energy
    else if o = 0x08 then e.energyHi
    else if o = 0x0C then regWord [(16, min 0xFFFF (e.mv / 10)), (0, min 0xFFFF e.ma)]
    else if o = 0x10 then e.seq
    else if o = 0x14 then e.fw
    else if o = 0x18 then loWord e.seconds
    else if o = 0x1C then e.timeHi
    else if o = 0x20 then e.slot.setWidth 32
    else 0

/-! ### The register space (R47, R509) -/

/-- The word that a block of the device holds: BAR0 offset 0x0080_0000 and up. -/
def State.blockReg (s : State) (x : Nat) : Word :=
  match blockIn x 0x00800000 0x1000 48, blockIn x 0x00840000 0x1000 48, blockIn x 0x00880000 0x1000 4,
      blockIn x 0x00890000 0x1000 4, blockIn x 0x008C0000 0x1000 48 with
  | some (k, o), _, _, _, _ => s.routerReg k o
  | none, some (k, o), _, _, _ => s.syncReg k o
  | none, none, some (p, o), _, _ => s.strokeReg p o
  | none, none, none, some (p, o), _ => s.epochReg p o
  | none, none, none, none, some (k, o) => s.inkReg k o
  | none, none, none, none, none =>
    match blockIn x 0x00900000 0x1000 16, blockIn x 0x00920000 0x1000 16 with
    | some (m, o), _ => s.mcReg m o
    | none, some (f, o) => s.portReg f o
    | none, none =>
      let o := x % 0x10000
      match x / 0x10000 with
      | 0x91 => s.sqReg o
      | 0x93 => s.fabReg o
      | 0x94 => if o % 4 = 0 ∧ o < 0x4000 then s.fabric.sync.get 0 (o / 4) else 0
      | 0x95 => if o % 4 = 0 ∧ o < 0x4000 then s.fabric.routes.get 0 (o / 4) else 0
      | 0x96 => s.qlReg o
      | 0x97 => s.modeReg o
      | 0x98 => s.ckReg o
      | 0x99 => s.pwReg o
      | 0x9A => s.idReg o
      | 0x9B => s.emReg o
      | _ => 0

/-- The word at a BAR0 offset of function f (R509): a VF sees its own block alone. A register that captures on a read is
read by its own command. -/
def State.readReg (s : State) (f x : Nat) : Word :=
  if x < 0x10000 then s.hostReg f x
  else if f ≠ 0 then 0
  else
    match blockIn x 0x01000000 0x1000 1536 with
    | some (n, o) => s.coreReg n o
    | none => s.blockReg x

/-- The word at a BAR4 offset of function f (R516, R582): doorbells read zero; HI_RECOVERY and the recovery window answer in the
PF alone, the window with its bytes while it is open and with zero while it is closed. -/
def State.readBar4 (s : State) (f x : Nat) : Word :=
  if f ≠ 0 then 0
  else if x = 0x800 then s.recoveryWord
  else if s.module_.ident.recoveryAt.isSome ∧ 0x800000 ≤ x ∧ x + 4 ≤ 0x1000000 then
    BitVec.ofNat 32 (fld ((List.range 4).map (fun i => Memory.read s.host.window (x - 0x800000 + i))) 0 4)
  else 0

end Sys2Proof.Machine
end

