-- ==== Sys2Proof/Machine/RegisterCmds.lean ====
section
/-!
DEFINITION. Writes of registers (00 R10; 09 R509, R516, R522, R564, R577, R582; the W1C fields of 02, 03, 04, 05, 06, 07, 08 and
10; 10 R634, R636, R640, R650; 11 R730; 15 R876), the reads that capture a high half (R251, R767, R817, R875), DEBUG_DUMP (12
R762, R763).
-/
namespace Sys2Proof.Machine

/-! ### Reads that capture (R251, R767, R817, R875) -/

/-- A read of BAR0 by the PF returns a register (R509). -/
def State.answerRead (s : State) (w : Word) : State := s.emit (.barData 0 (some (toLe w.toNat 4)) false)

/-- NW_STROKE_LO_READ (R251). -/
def effNwStrokeLoRead (p : Fin 4) (s : State) : State :=
  (s.modStroke p.val (fun x => { x with hiCapture := hiWord x.count })).answerRead (s.strokeReg p.val 0)
/-- NW_STROKE_LO_READ. -/
def execNwStrokeLoRead (p : Fin 4) (s : State) : Host.Outcome State Fault Refusal := .next (effNwStrokeLoRead p s)

/-- QL_TDC_LO_READ (R767). -/
def effQlTdcLoRead (c : Fin 16) (s : State) : State :=
  (s.modRun c.val (fun r => { r with tdcHi := hiWord r.tdc })).answerRead (s.modeReg (0x40 + 16 * c.val))
/-- QL_TDC_LO_READ. -/
def execQlTdcLoRead (c : Fin 16) (s : State) : Host.Outcome State Fault Refusal := .next (effQlTdcLoRead c s)

/-- CK_TIME_LO_READ (R817). -/
def effCkTimeLoRead (s : State) : State :=
  (s.modClock (fun c => { c with timeHi := hiWord (BitVec.ofNat 64 s.time) })).answerRead (s.ckReg 0x08)
/-- CK_TIME_LO_READ. -/
def execCkTimeLoRead (s : State) : Host.Outcome State Fault Refusal := .next (effCkTimeLoRead s)

/-- EM_ENERGY_LO_READ (R875). -/
def effEmEnergyLoRead (s : State) : State :=
  (s.modEm (fun e => { e with energyHi := hiWord e.energy })).answerRead (s.emReg 0x04)
/-- EM_ENERGY_LO_READ. -/
def execEmEnergyLoRead (s : State) : Host.Outcome State Fault Refusal := .next (effEmEnergyLoRead s)

/-- EM_TIME_LO_READ (R875). -/
def effEmTimeLoRead (s : State) : State :=
  (s.modEm (fun e => { e with timeHi := hiWord e.seconds })).answerRead (s.emReg 0x18)
/-- EM_TIME_LO_READ. -/
def execEmTimeLoRead (s : State) : Host.Outcome State Fault Refusal := .next (effEmTimeLoRead s)

/-- EM_LOG_INDEX_WRITE (R876): the PF selects the log slot that the block shows. -/
def effEmLogIndexWrite (val : Word) (s : State) : State := s.modEm (fun e => { e with slot := val.setWidth 12 })
/-- EM_LOG_INDEX_WRITE. -/
def execEmLogIndexWrite (val : Word) (s : State) : Host.Outcome State Fault Refusal := .next (effEmLogIndexWrite val s)

/-! ### Writes of a function's own block (R522, R577 to R580) -/

/-- Replace the low word, with the bits that a mask leaves. -/
def setLoWord (x : DWord) (v mask : Word) : DWord := (hiWord x ++ (v &&& mask))
/-- Replace the high word. -/
def setHiWord (x : DWord) (v : Word) : DWord := (v ++ loWord x)

/-- A write of a queue pair's register r: a base register of an active pair ignores it (R522, R577). -/
def State.writePair (s : State) (fn : Fin 6) (n r : Nat) (v : Word) : State :=
  let set := fun (g : Qp → Qp) => if (s.qp fn.val n).active then s else s.modQp fn.val n g
  if r = 0x00 then set (fun q => { q with sqBase := setLoWord q.sqBase v 0xFFFFF000 })
  else if r = 0x04 then set (fun q => { q with sqBase := setHiWord q.sqBase v })
  else if r = 0x08 then set (fun q => { q with cqBase := setLoWord q.cqBase v 0xFFFFF000 })
  else if r = 0x0C then set (fun q => { q with cqBase := setHiWord q.cqBase v })
  else if r = 0x10 then
    if v.getLsbD 31 then effQpEnable fn (BitVec.ofNat 8 n) v s else effQpDisable fn (BitVec.ofNat 8 n) v s
  else s

/-- An event ring's base is written only while the ring is disabled (R577). -/
def State.modEvRing (s : State) (f : Nat) (g : Ring → Ring) : State :=
  if (s.fn f).ring.active then s else s.modFn f (fun x => { x with ring := g x.ring })

/-- A write of a register of a function's own block outside its queue pairs (R572, R577 to R580). -/
def State.writeFnReg (s : State) (fn : Fin 6) (o : Nat) (v : Word) : State :=
  if o = 0x10 then s.modFn fn.val (fun x => { x with aptBase := setLoWord x.aptBase v 0xFFFF0000 })
  else if o = 0x14 then s.modFn fn.val (fun x => { x with aptBase := setHiWord x.aptBase v })
  else if o = 0x18 then s.modFn fn.val (fun x => { x with b2Base := v.setWidth 18 })
  else if o = 0x20 then s.modEvRing fn.val (fun r => { r with base := setLoWord r.base v 0xFFFFF000 })
  else if o = 0x24 then s.modEvRing fn.val (fun r => { r with base := setHiWord r.base v })
  else if o = 0x28 then effEventRingEnable fn v s
  else if o = 0x2C then effEventLostClear fn v s
  else s

/-- A write of a function's own block (R572, R577 to R580). -/
def State.writeHost (s : State) (fn : Fin 6) (o : Nat) (v : Word) : State :=
  match blockIn o 0x1000 0x20 (pairsOf fn.val) with
  | some (n, r) => s.writePair fn n r v
  | none => s.writeFnReg fn o v

/-! ### W1C fields (R10, R123, R126, R127, R173, R249, R302, R303, R381, R433, R434, R492, R648) -/

/-- A write of core n's block: its error registers, its flags, CLAMP. -/
def State.writeCore (s : State) (n o : Nat) (v : Word) : State :=
  match slotIn o 0x210 4 with
  | some u => if v.getLsbD 1 then s.modSteer n (fun x => { x with clamp := x.clamp.set u false }) else s
  | none =>
    if o = 0x10 then s.modErrs n (fun e => { e with err := e.err.write v })
    else if o = 0x220 then s.modSteer n (fun x => { x with err := x.err.write v })
    else if o = 0x400 then s.modEng n (fun e => { e with err := e.err.write v })
    else if o = 0x408 then s.modEng n (fun e => { e with meFlags := e.meFlags &&& ~~~(v.setWidth 7) })
    else if o = 0x40C then s.modEng n (fun e => { e with veFlags := e.veFlags &&& ~~~(v.setWidth 6) })
    else s

/-- A write of the inkwell block of cluster k. -/
def State.writeInk (s : State) (k o : Nat) (v : Word) : State :=
  if o = 0x40 then s.modInk k (fun x => { x with err := x.err.write v })
  else if o = 0x48 then s.modInk k (fun x => { x with chkErr := x.chkErr.write v })
  else s

/-! ### The fabric and the Quill (R634, R636, R640, R646, R649, R650, R730) -/

/-- A write of the device's own registers (R646, R650). -/
def State.writeFabDev (s : State) (o : Nat) (v : Word) : State :=
  if o = 0x00 then effFbIdWrite v s
  else if o = 0x04 then
    (s.modFabCfg (fun c =>
      let role := v.getLsbD 13
      { c with receiptMs := v.extractLsb' 16 8, timeRole := role, maxHops := v.extractLsb' 0 6
               locked := c.locked && (role || !c.timeRole)
               stratum := if c.timeRole && !role then 0xFF else c.stratum })).selectSource
  else if o = 0x40 then s.modFabCnt (fun c => { c with rxLow := v.extractLsb' 16 16, biasHigh := v.extractLsb' 0 16 })
  else if o = 0x44 then s.modFabCnt (fun c => { c with berLow := v.extractLsb' 24 8, corrHigh := v.extractLsb' 0 24 })
  else if o = 0x48 then s.modFabCnt (fun c => { c with droopLow := v.extractLsb' 16 16, slackLow := v.extractLsb' 0 16 })
  else s

/-- A write of ring r's registers: FB_RING_BASEr takes no write while ENABLE is set (R649, R650). -/
def State.writeRing (s : State) (r o : Nat) (v : Word) : State :=
  if 60 ≤ r then s
  else if o = 0 then effFbRingEnable (BitVec.ofNat 6 r) v s
  else if o = 4 ∧ (s.ring r).enable = false then s.modRing r (fun x => { x with base := v })
  else s

/-- A write of the fabric's device block; `sets` as at `writeReg`. -/
def State.writeFab (s : State) (o : Nat) (v sets : Word) : State :=
  match blockIn o 0x2000 0x10 64 with
  | some (r, i) => s.writeRing r i v
  | none =>
    if o = 0x1300 then
      { s with fabric := { s.fabric with dcq := { s.fabric.dcq with err := s.fabric.dcq.err.write (v &&& ~~~sets) } } }
    else s.writeFabDev o v

/-- A write of port f's block: GATE and the expectation (R632, R634). -/
def State.writePort (s : State) (f : Fin 16) (o : Nat) (v : Word) : State :=
  match slotIn o 0x40 8 with
  | some n => effFbPortExpectWrite f (BitVec.ofNat 3 n) v s
  | none => if o = 0 then s.modPort f.val (fun p => { p with gate := v.getLsbD 0 }) else s

/-- A write of QL_CTX_CTL (R730). -/
def State.writeCtl (s : State) (o : Nat) (v : Word) : State :=
  match slotIn o 0x100 32 with
  | some n =>
    if n % 2 = 0 then s.modLife (n / 2) (fun l => { l with autoRestart := v.getLsbD 31, periodMs := v.extractLsb' 0 16 }) else s
  | none => s

/-- A write of the blocks from BAR0 offset 0x0080_0000 up; in the W1C registers of a router, a sync block, an inkwell, a memory
controller and the fabric a bit of `sets` stays set (R128, R381, R433, R492; log 115). -/
def State.writeBlock (s : State) (x : Nat) (v sets : Word) : State :=
  match blockIn x 0x00800000 0x1000 48, blockIn x 0x00840000 0x1000 48, blockIn x 0x008C0000 0x1000 48,
      blockIn x 0x00900000 0x1000 16, blockIn x 0x00920000 0x1000 16 with
  | some (k, o), _, _, _, _ => if o = 0x20 then s.modRouter k (fun r => { r with err := r.err.write (v &&& ~~~sets) }) else s
  | none, some (k, o), _, _, _ =>
    if o = 0x5C0 then s.modCluster k (fun c => { c with cq := { c.cq with err := c.cq.err.write (v &&& ~~~sets) } }) else s
  | none, none, some (k, o), _, _ => s.writeInk k o (v &&& ~~~sets)
  | none, none, none, some (m, o), _ => if o = 0x18 then s.modMc m (fun c => { c with err := c.err.write (v &&& ~~~sets) }) else s
  | none, none, none, none, some (f, o) => s.writePort (Fin.ofNat 16 f) o v
  | none, none, none, none, none =>
    let o := x % 0x10000
    match x / 0x10000 with
    | 0x93 => s.writeFab o v sets
    | 0x96 => s.writeCtl o v
    | 0x9B => if o = 0x20 then effEmLogIndexWrite v s else s
    | _ => s

/-- A write in BAR0 (R509, R510): one that is not aligned is dropped and counted; a VF reaches its own block alone. A bit of
`sets` is one that an engine or an access sets in the cycle of the write: writing 1 leaves it set (R128, R433; log 115). -/
def State.writeReg (s : State) (fn : Fin 6) (x : Nat) (v sets : Word) : State :=
  if x % 4 ≠ 0 then s.barRejected fn.val
  else if x < 0x10000 then s.writeHost fn x v
  else if fn ≠ 0 then s
  else
    match blockIn x 0x01000000 0x1000 1536 with
    | some (n, o) => s.writeCore n o (v &&& ~~~sets)
    | none => s.writeBlock x v sets

/-- A write of HI_RECOVERY (R582): LENGTH, then GO. -/
def State.writeRecovery (s : State) (v : Word) : State :=
  let s1 : State := { s with host := { s.host with recoveryLen := v.extractLsb' 0 24 } }
  if v.getLsbD 30 then effRecoveryGo s1 else s1

/-- A write in BAR4 (R516): doorbells, HI_RECOVERY and, while it is open, the recovery window of the PF. -/
def State.writeBar4 (s : State) (fn : Fin 6) (x : Nat) (v : Word) : State :=
  match slotIn x 0 128 with
  | some n =>
    if n % 2 = 0 then effSqTailDoorbell fn (BitVec.ofNat 8 (n / 2)) v s else effCqHeadDoorbell fn (BitVec.ofNat 8 (n / 2)) v s
  | none =>
    if x = 0x400 then effEventRingHeadDoorbell fn v s
    else if fn = 0 ∧ x = 0x800 then s.writeRecovery v
    else if fn = 0 ∧ 0x800000 ≤ x ∧ x + 4 ≤ 0x1000000 ∧ s.module_.ident.recoveryAt.isSome then
      { s with host := { s.host with window := Memory.writeBytes s.host.window (x - 0x800000) (toLe v.toNat 4) } }
    else s

/-- REGISTER_WRITE (R10): a write to a register; a register with a row of its own has that row's effect. Every other field
ignores it. -/
def effRegisterWrite (fn : Fin 6) (bar4 : Bool) (off : BitVec 25) (val sets : Word) (s : State) : State :=
  if fn = 5 then s else if bar4 then s.writeBar4 fn off.toNat val else s.writeReg fn off.toNat val sets
/-- REGISTER_WRITE. -/
def execRegisterWrite (fn : Fin 6) (bar4 : Bool) (off : BitVec 25) (val : Word) (s : State) (sets : Word := 0) :
    Host.Outcome State Fault Refusal := .next (effRegisterWrite fn bar4 off val sets s)

/-! ### DEBUG_DUMP (R762, R763) -/

/-- n bytes of bits. -/
def bitBytes (n : Nat) (f : Nat → Bool) : List Byte :=
  (List.range n).map (fun i => BitVec.ofNat 8 (bits8 (fun j => f (8 * i + j))))

/-- A ruling as an image (R199); one that is not loaded is a header with PORT_MASK 0 (R763). -/
def Router.rulingImage (r : Router) (n : Nat) : List Byte :=
  match r.rulings.find? (fun e => e.1 == n) with
  | none => block 16 []
  | some (_, u) =>
    block 16 [(0, 2, u.portMask.toNat), (2, 1, u.next.toNat), (4, 4, u.repeatStrokes.toNat)] ++
      ((List.range 16).filter (fun o => u.portMask.getLsbD o)).flatMap (fun o =>
        (List.range 1024).flatMap (fun i => toLe (u.entries.get 0 (o * 1024 + i)).toNat 4))

/-- The record of core n (R763 WHAT 1). -/
def State.coreRecord (s : State) (n : Nat) : List Byte :=
  let c := s.core n
  let word := fun (w : Word) => toLe w.toNat 4
  let bank := fun (b : Nat) => (List.range 512).flatMap (fun i =>
    (c.eng.acc.get Acc.clear (b * 512 + i)).image (c.eng.anchor.get 0 b))
  let m := s.lsFinal n
  word c.status ++ word (c.ctl.pc.setWidth 32) ++ word c.errs.err.read ++ word c.eng.err.read ++
    (List.range 64).flatMap (fun i => word (c.regs.s i)) ++ bitBytes 8 c.regs.sb ++
    (List.range 1024).flatMap (fun i => word (c.regs.v (i / 32) (i % 32))) ++ bitBytes 128 (fun i => c.regs.vb (i / 32) (i % 32)) ++
    bank 0 ++ bank 1 ++ m.bytes (lsBase n) lsSize ++ bitBytes 1024 (fun i => m.blotAt (lsBase n + 32 * i))

/-- Whether a dump reads an address (R763). -/
def dumpReads (what k : Nat) (m : DevMem) (_a : Nat) : Bool :=
  match m with
  | .ink i => decide (what = 2 ∧ i = k)
  | .loc n => decide (what = 1 ∧ kOf n = k)
  | .bulk => false

/-- The body of a dump (R763). Of a cluster whose domain is off or in retention it holds what the storage holds (DESIGN CHOICE,
log 112: R51 speaks of the host and the transfer engines). -/
def State.dumpBody (s : State) (what k : Nat) : List Byte :=
  if what = 0 then (List.range 4).flatMap (s.cluster k).router.rulingImage
  else if what = 1 then (coresOf k).flatMap s.coreRecord
  else
    let m := (s.inkSettle k).store
    m.bytes (inkBase k) inkSize ++ bitBytes 0x60000 (fun i => m.blotAt (inkBase k + 32 * i))

/-- The header of a dump (R762). -/
def State.dumpHeader (s : State) (what k body : Nat) : List Byte :=
  let p := s.partOf k
  Sys2Proof.Machine.block 32 [(0, 2, 1), (2, 1, what), (3, 1, k),
    (4, 1, flagOf ((s.liveContexts p).any (fun c => (s.ctx c).run.frozen))), (8, 8, (s.part p).stroke.count.toNat), (16, 8, body)]

/-- DEBUG_DUMP (R762): core state and an inkwell only while no context that is not frozen runs on the partition; `find` and
`split` are what the Quill's reads find (R135, R424, R433). -/
def effDebugDump (h : Hdr) (r : Reply) (what cluster : Byte) (find : List (DWord × Ecc)) (split : List DWord) (s : State) :
    State :=
  let k := cluster.toNat
  let own := decide (h.fn = 0 ∨ h.fn = 5) || decide (quarterOf k = h.fn.val - 1)
  s.hostCmd h ((anySpec 0x0903 true false true).on (replyArgs r ++ [(28, 1, what.toNat), (29, 1, k)])) (decide (what.toNat ≤ 2 ∧ k < 48) && own && replyOk h r) (fun s =>
    if what ≠ 0 ∧ (s.liveContexts (s.partOf k)).any (fun c => !(s.ctx c).run.frozen) then s.complete h 0x0903 .wrongState 0
    else
      let t := s.quillFinds (dumpReads what.toNat k) find split
      let body := t.dumpBody what.toNat k
      t.reply h 0x0903 r (t.dumpHeader what.toNat k body.length ++ body))
/-- DEBUG_DUMP. -/
def execDebugDump (h : Hdr) (r : Reply) (what cluster : Byte) (s : State) (find : List (DWord × Ecc) := []) (split : List DWord := []) :
    Host.Outcome State Fault Refusal := .next (effDebugDump h r what cluster find split s)

end Sys2Proof.Machine
end

