-- ==== Sys2Proof/Machine/Scalar.lean ====
section
/-!
DEFINITION. The scalar instructions (03 R142, R147, R148, R150 to R159): arithmetic, moves, loads, stores,
branches, sections and HALT.
-/
namespace Sys2Proof.Machine

/-- ILLEGAL (R141, R142): always raises ILLEGAL_INSTR. -/
def effIllegal (a : Issue) (s : State) : State :=
  s.issue a { reads := [], vreads := [], unit := .scalar, errs := [CoreErrKind.illegalInstr.err] }
    (fun _ t => t)
/-- ILLEGAL. -/
def execIllegal (a : Issue) (s : State) : Host.Outcome State Fault Refusal := .next (effIllegal a s)

/-- The value of ALU operation FN (R142), none for a reserved FN. -/
def aluValue (fn : Byte) (a b : Word) : Option Word :=
  match fn.toNat with
  | 0x00 => some (a + b)
  | 0x01 => some (a - b)
  | 0x02 => some (a &&& b)
  | 0x03 => some (a ||| b)
  | 0x04 => some (a ^^^ b)
  | 0x05 => some (a <<< (b.toNat % 32))
  | 0x06 => some (a >>> (b.toNat % 32))
  | 0x07 => some (a.sshiftRight (b.toNat % 32))
  | 0x08 => some (a * b)
  | 0x09 => some (BitVec.ofNat 32 (a.toNat * b.toNat / 2 ^ 32))
  | 0x0A => some (if a.slt b then 1 else 0)
  | 0x0B => some (if a.ult b then 1 else 0)
  | 0x0C => some (if a.slt b then a else b)
  | 0x0D => some (if a.slt b then b else a)
  | _ => none

/-- Latency of an ALU operation (R148): 3 for MUL and MULHU, else 1. -/
def aluLat (fn : Byte) : Nat := if fn = 0x08 ∨ fn = 0x09 then 3 else 1

/-- A scalar operation that reads registers and writes rd (R138, R148), with the errors its encoding raises. -/
def scalarOp (a : Issue) (rd : BitVec 6) (srcs : List (BitVec 6)) (lat : Nat) (errs : List CoreError)
    (f : CoreRegs → Word) (s : State) : State :=
  s.issue a { reads := regs srcs, vreads := [], unit := .scalar, errs := errs } (fun t u =>
    let r := (u.core a.core).regs
    (u.putS a.core t lat rd.toNat (f r) ((regs srcs).any r.sb)).advance a.core t 1)

/-- ALU (R142): rd = rs1 op rs2; a reserved FN raises ILLEGAL_INSTR (R141). -/
def effAlu (a : Issue) (rd rs1 rs2 : BitVec 6) (fn : Byte) (s : State) : State :=
  scalarOp a rd [rs1, rs2] (aluLat fn) (if (aluValue fn 0 0).isNone then [CoreErrKind.illegalInstr.err] else [])
    (fun r => (aluValue fn (r.s rs1.toNat) (r.s rs2.toNat)).getD 0) s
/-- ALU. -/
def execAlu (a : Issue) (rd rs1 rs2 : BitVec 6) (fn : Byte) (s : State) :
    Host.Outcome State Fault Refusal := .next (effAlu a rd rs1 rs2 fn s)

/-- ADDI (R142): rd = rs1 + imm14. -/
def effAddi (a : Issue) (rd rs1 : BitVec 6) (imm : BitVec 14) (s : State) : State :=
  scalarOp a rd [rs1] 1 [] (fun r => r.s rs1.toNat + imm14 imm) s
/-- ADDI. -/
def execAddi (a : Issue) (rd rs1 : BitVec 6) (imm : BitVec 14) (s : State) :
    Host.Outcome State Fault Refusal := .next (effAddi a rd rs1 imm s)

/-- ANDI (R142): rd = rs1 AND imm14, sign-extended. -/
def effAndi (a : Issue) (rd rs1 : BitVec 6) (imm : BitVec 14) (s : State) : State :=
  scalarOp a rd [rs1] 1 [] (fun r => r.s rs1.toNat &&& imm14 imm) s
/-- ANDI. -/
def execAndi (a : Issue) (rd rs1 : BitVec 6) (imm : BitVec 14) (s : State) :
    Host.Outcome State Fault Refusal := .next (effAndi a rd rs1 imm s)

/-- ORI (R142): rd = rs1 OR imm14, sign-extended. -/
def effOri (a : Issue) (rd rs1 : BitVec 6) (imm : BitVec 14) (s : State) : State :=
  scalarOp a rd [rs1] 1 [] (fun r => r.s rs1.toNat ||| imm14 imm) s
/-- ORI. -/
def execOri (a : Issue) (rd rs1 : BitVec 6) (imm : BitVec 14) (s : State) :
    Host.Outcome State Fault Refusal := .next (effOri a rd rs1 imm s)

/-- The value of SHI (R142): the form in imm14 [13:12], the shift in imm14 [4:0]; form 0b11 is reserved. -/
def shiValue (imm : BitVec 14) (a : Word) : Option Word :=
  let n := imm.toNat % 32
  match imm.toNat / 2 ^ 12 with
  | 0 => some (a <<< n)
  | 1 => some (a >>> n)
  | 2 => some (a.sshiftRight n)
  | _ => none

/-- SHI (R142); the reserved form raises ILLEGAL_INSTR (R141, log 12). -/
def effShi (a : Issue) (rd rs1 : BitVec 6) (imm : BitVec 14) (s : State) : State :=
  scalarOp a rd [rs1] 1 (if (shiValue imm 0).isNone then [CoreErrKind.illegalInstr.err] else [])
    (fun r => (shiValue imm (r.s rs1.toNat)).getD 0) s
/-- SHI. -/
def execShi (a : Issue) (rd rs1 : BitVec 6) (imm : BitVec 14) (s : State) :
    Host.Outcome State Fault Refusal := .next (effShi a rd rs1 imm s)

/-- LUI (R142): rd = imm20 << 12. -/
def effLui (a : Issue) (rd : BitVec 6) (imm : BitVec 20) (s : State) : State :=
  scalarOp a rd [] 1 [] (fun _ => imm.setWidth 32 <<< 12) s
/-- LUI. -/
def execLui (a : Issue) (rd : BitVec 6) (imm : BitVec 20) (s : State) :
    Host.Outcome State Fault Refusal := .next (effLui a rd imm s)

/-- Whether the cycle of core n within the stroke is fixed (R147): in a ruled section; in a free section from SECT FREE on
(R155), or from the first RDSYS that read it, by the spacings of R148, until the core waits for an event outside it. -/
def State.cycleFixed (s : State) (n : Nat) : Bool :=
  let c := (s.core n).ctl
  decide (c.st = .ruled) || (c.skew.isSome && decide (s.issueBase n = c.cyc))

/-- The cycle within the stroke that RDSYS code 2 returns (R147); where it is not fixed it is a free value below the
length of a stroke (log 13). -/
def State.sysCycle (s : State) (n t : Nat) : Nat :=
  let c := (s.core n).ctl
  if c.st = .ruled then t % 256
  else if s.cycleFixed n then (t % 256 + c.skew.getD 0) % s.strokeLen (kOf n)
  else s.freeNext.toNat % s.strokeLen (kOf n)

/-- A cycle that was not fixed has been read as x: from now on it is (R148). -/
def State.fixCycle (s : State) (n t x : Nat) : State :=
  if s.cycleFixed n then s
  else
    let len := s.strokeLen (kOf n)
    s.draw.modCtl n (fun c => { c with skew := some ((x + len - t % 256 % len) % len) })

/-- The system values of RDSYS (R147). -/
def State.sysValue (s : State) (n t code : Nat) : Word :=
  let c := s.core n
  let x := c.ctl.context.getD 0
  match code with
  | 0 => (s.ctxStroke x).setWidth 32
  | 1 => (s.ctxStroke x >>> 32).setWidth 32
  | 2 => BitVec.ofNat 32 (s.sysCycle n t)
  | 3 => c.ctl.lcluster.setWidth 32
  | 4 => c.ctl.lcore.setWidth 32
  | 5 => BitVec.ofNat 32 (ctxNo x)
  | 6 => BitVec.ofNat 32 s.dev.gradeL
  | 7 => s.dev.fbId.setWidth 32
  | _ => c.steer.roleEpoch.setWidth 32

/-- RDSYS (R147): rd = system value imm14 [3:0]; codes 9 to 15 raise ILLEGAL_INSTR. A read of a cycle that is not
fixed draws a free value. -/
def effRdsys (a : Issue) (rd : BitVec 6) (imm : BitVec 14) (s : State) : State :=
  let code := imm.toNat % 16
  s.issue a { reads := [], vreads := [], unit := .scalar,
              errs := if 9 ≤ code then [CoreErrKind.illegalInstr.err] else [] } (fun t u =>
    let v := u.sysValue a.core t code
    let u1 := if code = 2 then u.fixCycle a.core t (u.sysCycle a.core t) else u
    (u1.putS a.core t 1 rd.toNat v false).advance a.core t 1)
/-- RDSYS. -/
def execRdsys (a : Issue) (rd : BitVec 6) (imm : BitVec 14) (s : State) :
    Host.Outcome State Fault Refusal := .next (effRdsys a rd imm s)

/-- LDW (R142, R138, R146, R148): rd = the local store word at rs1 + imm14 as cycle issue + 1 finds it, blotted with its
unit. -/
def effLdw (a : Issue) (rd rs1 : BitVec 6) (imm : BitVec 14) (ls : Ecc) (s : State) : State :=
  let r := (s.core a.core).regs
  let x := r.lsAddr rs1 imm
  s.issue a { reads := regs [rs1], vreads := [], unit := .scalar,
              errs := lsErrs x 4 ++ r.blotErr (regs [rs1]) 0 } (fun t u =>
    let c := u.after a.core t 1
    let u1 := u.lsEcc a.core c x ls
    (u1.putS a.core t 3 rd.toNat (u1.lsWord a.core c x) (u1.lsBlot a.core c x 4)).advance a.core t 1)
/-- LDW. -/
def execLdw (a : Issue) (rd rs1 : BitVec 6) (imm : BitVec 14) (ls : Ecc) (s : State) :
    Host.Outcome State Fault Refusal := .next (effLdw a rd rs1 imm ls s)

/-- STW (R142, R138, R146, R148): the local store word at rs1 + imm14 = rd, written in cycle issue + 1; a blotted register
blots the unit under R116. -/
def effStw (a : Issue) (rd rs1 : BitVec 6) (imm : BitVec 14) (s : State) : State :=
  let r := (s.core a.core).regs
  let x := r.lsAddr rs1 imm
  s.issue a { reads := regs [rs1, rd], vreads := [], unit := .scalar,
              errs := lsErrs x 4 ++ r.blotErr (regs [rs1]) 0 } (fun t u =>
    let q := (u.core a.core).regs
    ((u.lsTick a.core t).lsStore a.core t 1 1 x (toLe (q.s rd.toNat).toNat 4) (q.sb rd.toNat)).advance a.core t 1)
/-- STW. -/
def execStw (a : Issue) (rd rs1 : BitVec 6) (imm : BitVec 14) (s : State) :
    Host.Outcome State Fault Refusal := .next (effStw a rd rs1 imm s)

/-- A conditional branch (R142, R148, R164): taken, the next instruction issues 3 cycles later. -/
def branchOp (a : Issue) (rs1 rs2 : BitVec 6) (target : BitVec 12) (cond : Word → Word → Bool) (s : State) :
    State :=
  let r := (s.core a.core).regs
  s.issue a { reads := regs [rs1, rs2], vreads := [], unit := .scalar,
              errs := r.blotErr (regs [rs1, rs2]) 1 } (fun t u =>
    let q := (u.core a.core).regs
    if cond (q.s rs1.toNat) (q.s rs2.toNat) then u.goto a.core t 3 target else u.advance a.core t 1)

/-- BEQ (R142). -/
def effBeq (a : Issue) (rs1 rs2 : BitVec 6) (target : BitVec 12) (s : State) : State :=
  branchOp a rs1 rs2 target (fun x y => x == y) s
/-- BEQ. -/
def execBeq (a : Issue) (rs1 rs2 : BitVec 6) (target : BitVec 12) (s : State) :
    Host.Outcome State Fault Refusal := .next (effBeq a rs1 rs2 target s)

/-- BNE (R142). -/
def effBne (a : Issue) (rs1 rs2 : BitVec 6) (target : BitVec 12) (s : State) : State :=
  branchOp a rs1 rs2 target (fun x y => x != y) s
/-- BNE. -/
def execBne (a : Issue) (rs1 rs2 : BitVec 6) (target : BitVec 12) (s : State) :
    Host.Outcome State Fault Refusal := .next (effBne a rs1 rs2 target s)

/-- BLT (R142): signed. -/
def effBlt (a : Issue) (rs1 rs2 : BitVec 6) (target : BitVec 12) (s : State) : State :=
  branchOp a rs1 rs2 target (fun x y => x.slt y) s
/-- BLT. -/
def execBlt (a : Issue) (rs1 rs2 : BitVec 6) (target : BitVec 12) (s : State) :
    Host.Outcome State Fault Refusal := .next (effBlt a rs1 rs2 target s)

/-- BGE (R142): signed. -/
def effBge (a : Issue) (rs1 rs2 : BitVec 6) (target : BitVec 12) (s : State) : State :=
  branchOp a rs1 rs2 target (fun x y => !x.slt y) s
/-- BGE. -/
def execBge (a : Issue) (rs1 rs2 : BitVec 6) (target : BitVec 12) (s : State) :
    Host.Outcome State Fault Refusal := .next (effBge a rs1 rs2 target s)

/-- JMP (R142): branch to target; rs1 receives the index of the next instruction. -/
def effJmp (a : Issue) (rs1 : BitVec 6) (target : BitVec 12) (s : State) : State :=
  s.issue a { reads := [], vreads := [], unit := .scalar, errs := [] } (fun t u =>
    let link := BitVec.ofNat 32 ((u.core a.core).ctl.pc.toNat + 1)
    (u.putS a.core t 1 rs1.toNat link false).goto a.core t 3 target)
/-- JMP. -/
def execJmp (a : Issue) (rs1 : BitVec 6) (target : BitVec 12) (s : State) :
    Host.Outcome State Fault Refusal := .next (effJmp a rs1 target s)

/-- JR (R142, R164): branch to rs2 [11:0]. -/
def effJr (a : Issue) (rs2 : BitVec 6) (s : State) : State :=
  let r := (s.core a.core).regs
  s.issue a { reads := regs [rs2], vreads := [], unit := .scalar, errs := r.blotErr (regs [rs2]) 0 } (fun t u =>
    u.goto a.core t 3 (((u.core a.core).regs.s rs2.toNat).setWidth 12))
/-- JR. -/
def execJr (a : Issue) (rs2 : BitVec 6) (s : State) : Host.Outcome State Fault Refusal := .next (effJr a rs2 s)

/-- LOOP (R142, R148, R164): rs1 = rs1 - 1; branch to target if the new value is not 0 (log 14: for s0 the value
computed decides). -/
def effLoop (a : Issue) (rs1 : BitVec 6) (target : BitVec 12) (s : State) : State :=
  let r := (s.core a.core).regs
  s.issue a { reads := regs [rs1], vreads := [], unit := .scalar, errs := r.blotErr (regs [rs1]) 1 } (fun t u =>
    let v := (u.core a.core).regs.s rs1.toNat - 1
    let u1 := u.putS a.core t 1 rs1.toNat v false
    if v ≠ 0 then u1.goto a.core t 1 target else u1.advance a.core t 1)
/-- LOOP. -/
def execLoop (a : Issue) (rs1 : BitVec 6) (target : BitVec 12) (s : State) :
    Host.Outcome State Fault Refusal := .next (effLoop a rs1 target s)

/-! ### Sections (R150 to R156) -/

/-- ILLEGAL_INSTR of a SECT whose OFFSET is 128 or more in a half at 1:2 (R142). -/
def State.offsetErrs (s : State) (n : Nat) (offset : Byte) : List CoreError :=
  if s.halfRate (kOf n) ∧ 128 ≤ offset.toNat then [CoreErrKind.illegalInstr.err] else []

/-- End issue until an entry cycle (R151 to R153): WAIT_ENTRY, with the next instruction as the one that
issues. -/
def State.waitEntry (s : State) (n t fn : Nat) (e : EntryWait) (h : Option HoldReq) : State :=
  (s.advance n t 1).modCtl n (fun c => { c with st := .waitEntry, entry := some e, hold := h, sectFn := fn })

/-- SECT RULED_NEXT (R151): the next instruction issues in cycle OFFSET of the next stroke. -/
def effSectRuledNext (a : Issue) (offset : Byte) (s : State) : State :=
  s.issue a { reads := [], vreads := [], unit := .scalar, errs := s.offsetErrs a.core offset } (fun t u =>
    u.waitEntry a.core t 0 (.next offset.toNat) none)
/-- SECT RULED_NEXT. -/
def execSectRuledNext (a : Issue) (offset : Byte) (s : State) : Host.Outcome State Fault Refusal :=
  .next (effSectRuledNext a offset s)

/-- SECT RULED_AT (R152): cycle OFFSET of the stroke whose context stroke counter [31:0] equals rb; LATE_ENTRY
where rb minus the counter, signed, is zero or negative. -/
def effSectRuledAt (a : Issue) (rb : BitVec 6) (offset : Byte) (s : State) : State :=
  let c := s.core a.core
  let v := c.regs.s rb.toNat
  let now := (s.ctxStroke (c.ctl.context.getD 0)).setWidth 32
  s.issue a { reads := regs [rb], vreads := [], unit := .scalar,
              errs := s.offsetErrs a.core offset ++ c.regs.blotErr (regs [rb]) 2 ++
                (if (v - now).toInt ≤ 0 then [CoreErrKind.lateEntry.err 1] else []) } (fun t u =>
    u.waitEntry a.core t 1 (.atStroke v offset.toNat) none)
/-- SECT RULED_AT. -/
def execSectRuledAt (a : Issue) (rb : BitVec 6) (offset : Byte) (s : State) :
    Host.Outcome State Fault Refusal := .next (effSectRuledAt a rb offset s)

/-- SECT RULED_HOLD (R153, R357): requests a stroke hold until counter ra reaches rb. -/
def effSectRuledHold (a : Issue) (ra rb : BitVec 6) (offset : Byte) (s : State) : State :=
  let c := s.core a.core
  let id := c.regs.s ra.toNat
  s.issue a { reads := regs [ra, rb], vreads := [], unit := .scalar,
              errs := s.offsetErrs a.core offset ++ c.regs.blotErr (regs [ra, rb]) 2 ++
                s.counterErrs a.core id } (fun t u =>
    u.waitEntry a.core t 2 (.hold offset.toNat)
      ((u.counterOf a.core id).map (fun x => { counter := x, value := c.regs.s rb.toNat })))
/-- SECT RULED_HOLD. -/
def execSectRuledHold (a : Issue) (ra rb : BitVec 6) (offset : Byte) (s : State) :
    Host.Outcome State Fault Refusal := .next (effSectRuledHold a ra rb offset s)

/-- SECT FREE (R155): ends a ruled section; the next instruction issues in the following cycle. -/
def effSectFree (a : Issue) (offset : Byte) (s : State) : State :=
  s.issue a { reads := [], vreads := [], unit := .scalar, errs := s.offsetErrs a.core offset } (fun t u =>
    (u.advance a.core t 1).modCtl a.core (fun c =>
      { c with st := .free, skew := if c.st = .ruled then some 0 else c.skew }))
/-- SECT FREE. -/
def execSectFree (a : Issue) (offset : Byte) (s : State) : Host.Outcome State Fault Refusal :=
  .next (effSectFree a offset s)

/-- HALT (R159, R329, R331): the program ends; the core's inbound queues close, their entries are discarded, and
the producer of each free queue is sent a closure notice. -/
def effHalt (a : Issue) (s : State) : State :=
  s.issue a { reads := [], vreads := [], unit := .scalar, errs := [] } (fun t u =>
    ((u.advance a.core t 1).modCtl a.core (fun c => { c with st := .halted })).haltQueues a.core)
/-- HALT. -/
def execHalt (a : Issue) (s : State) : Host.Outcome State Fault Refusal := .next (effHalt a s)

end Sys2Proof.Machine
end

