-- ==== Sys2Proof/Machine/SeqCommands.lean ====
section
/-!
DEFINITION. The host commands of sequence slots (09 R559; 08 R472, R483 to R486; 11 R722 to R724).
-/
namespace Sys2Proof.Machine

/-- A slot number names a slot of the partition of the command (R472). -/
def State.slotNamed (s : State) (h : Hdr) (n : Byte) : Bool :=
  decide (n.toNat < 32) && decide (s.slotPart n.toNat = s.hdrPart h)

/-- A slot command with its checks: the slots named are the partition's (R484), and the partition is neither STARTING nor
STOPPING (R724). -/
def State.slotCmd (s : State) (h : Hdr) (op : Nat) (ctx : Bool) (slots : List Byte) (args : List (Nat × Nat × Nat)) (ok : Bool)
    (body : State → State) : State :=
  s.hostCmd h { opcode := op, vf := true, bc := false, safe := false, part := .one, context := ctx, work := false, args := args }
    (ok && slots.all (fun n => s.slotNamed h n)) (fun s =>
      let l := (s.qpart (s.hdrPart h)).life
      if l = .starting ∨ l = .stopping then s.complete h op .busy 0 else body s)

/-- POSITION is in range (R484, R498): a value beyond the largest position is BAD_PARAM whatever the slots' states are. -/
def posOk (pos : Word) : Bool := decide (pos.toNat ≤ 4194304)

/-- Whether a checkpoint of context c is being written (R486). -/
def State.writingImage (s : State) (c : Nat) : Bool := (s.ctx c).lc.work.isSome

/-- Complete with the position of a slot (R559). -/
def State.slotReply (s : State) (h : Hdr) (op n : Nat) : State := s.complete h op .ok (s.slot n).pos

/-- End a slot command from the host (R484): BAD_PARAM for a value out of range, WRONG_STATE otherwise. -/
def State.slotEnd (s : State) (h : Hdr) (op n : Nat) (res : SlotRefusal ⊕ State) : State :=
  match res with
  | .inl .range => s.complete h op .badParam 0
  | .inl .state => s.complete h op .wrongState 0
  | .inl .rule => s.complete h op .wrongState 0
  | .inr t => t.slotReply h op n

/-- SEQ_OPEN (R483, R486; R723: a slot that is open stays as it is). -/
def effSeqOpen (h : Hdr) (slot log2 tier : Byte) (base pages : Half) (s : State) : State :=
  s.slotCmd h 0x0302 true [slot] [(16, 1, slot.toNat), (17, 1, log2.toNat), (18, 1, tier.toNat), (20, 2, base.toNat),
      (22, 2, pages.toNat)]
    (decide (6 ≤ log2.toNat ∧ log2.toNat ≤ 14 ∧ tier.toNat < 48 ∧ base.toNat ≤ 1535 ∧ base.toNat + pages.toNat ≤ 1536))
    (fun s =>
      let n := slot.toNat
      let c := s.hdrCtx h
      if s.writingImage c || (s.slot n).faulted then s.complete h 0x0302 .wrongState 0
      else if (s.slot n).open_ then s.slotReply h 0x0302 n
      else
        ((({ s with store := s.store.zeroRange (tableBase n) tableSize } : State).modSlot n (fun _ =>
          { Slot.reset with open_ := true, ctx := c, log2 := log2.toNat, tierCluster := tier, tierBase := base.toNat
                            tierPages := pages.toNat })).slotReply h 0x0302 n))
/-- SEQ_OPEN. -/
def execSeqOpen (h : Hdr) (slot log2 tier : Byte) (base pages : Half) (s : State) : Host.Outcome State Fault Refusal :=
  .next (effSeqOpen h slot log2 tier base pages s)

/-- SEQ_FORK (R483, R484); RESULT is the child's position; `tbl` is what the read of the parent's table finds (R473). -/
def effSeqFork (h : Hdr) (parent child : Byte) (pos : Word) (tbl : List (BitVec 22 × Ecc)) (lines : List LineFind) (s : State) : State :=
  s.slotCmd h 0x0303 false [parent, child] [(16, 1, parent.toNat), (17, 1, child.toNat), (20, 4, pos.toNat)] (posOk pos) (fun s =>
    let c := (s.slot parent.toNat).ctx
    let t := s.readTable c parent.toNat tbl lines
    t.slotEnd h 0x0303 child.toNat (t.forkSlot c parent.toNat child.toNat pos.toNat))
/-- SEQ_FORK. -/
def execSeqFork (h : Hdr) (parent child : Byte) (pos : Word) (s : State) (tbl : List (BitVec 22 × Ecc) := [])
    (lines : List LineFind := []) : Host.Outcome State Fault Refusal := .next (effSeqFork h parent child pos tbl lines s)

/-- SEQ_REWIND (R483, R484); `tbl` is what the read of the slot's table finds (R473). -/
def effSeqRewind (h : Hdr) (slot : Byte) (pos : Word) (tbl : List (BitVec 22 × Ecc)) (lines : List LineFind) (s : State) : State :=
  s.slotCmd h 0x0304 false [slot] [(16, 1, slot.toNat), (20, 4, pos.toNat)] (posOk pos) (fun s =>
    let c := (s.slot slot.toNat).ctx
    let t := s.readTable c slot.toNat tbl lines
    t.slotEnd h 0x0304 slot.toNat (t.rewindSlot c slot.toNat pos.toNat))
/-- SEQ_REWIND. -/
def execSeqRewind (h : Hdr) (slot : Byte) (pos : Word) (s : State) (tbl : List (BitVec 22 × Ecc) := [])
    (lines : List LineFind := []) : Host.Outcome State Fault Refusal := .next (effSeqRewind h slot pos tbl lines s)

/-- SEQ_ACCEPT (R483, R484); `tbl` and `ctbl` are what the reads of the two tables find (R473). -/
def effSeqAccept (h : Hdr) (parent child : Byte) (tbl ctbl : List (BitVec 22 × Ecc)) (lines : List LineFind)
    (s : State) : State :=
  s.slotCmd h 0x0305 false [parent, child] [(16, 1, parent.toNat), (17, 1, child.toNat)] true (fun s =>
    let c := (s.slot parent.toNat).ctx
    let t := (s.readTable c parent.toNat tbl lines).readTable c child.toNat ctbl lines
    t.slotEnd h 0x0305 parent.toNat (t.acceptSlot c parent.toNat child.toNat))
/-- SEQ_ACCEPT. -/
def execSeqAccept (h : Hdr) (parent child : Byte) (s : State) (tbl ctbl : List (BitVec 22 × Ecc) := [])
    (lines : List LineFind := []) : Host.Outcome State Fault Refusal := .next (effSeqAccept h parent child tbl ctbl lines s)

/-- SEQ_CLOSE (R483, R486; R723: a slot that is closed stays closed); `tbl` is what the read of the slot's table finds
(R449, R450). -/
def effSeqClose (h : Hdr) (slot : Byte) (tbl : List (BitVec 22 × Ecc)) (lines : List LineFind) (s : State) : State :=
  s.slotCmd h 0x0306 false [slot] [(16, 1, slot.toNat)] true (fun s =>
    let n := slot.toNat
    let x := s.slot n
    if !x.open_ && !x.faulted then s.slotReply h 0x0306 n
    else if s.writingImage x.ctx then s.complete h 0x0306 .wrongState 0
    else ((s.readTable x.ctx n tbl lines).closeSlot n).slotReply h 0x0306 n)
/-- SEQ_CLOSE. -/
def execSeqClose (h : Hdr) (slot : Byte) (s : State) (tbl : List (BitVec 22 × Ecc) := [])
    (lines : List LineFind := []) : Host.Outcome State Fault Refusal := .next (effSeqClose h slot tbl lines s)

end Sys2Proof.Machine
end

