-- ==== Sys2Proof/Machine/Transcendental.lean ====
section
/-!
DEFINITION. The transcendental unit (02 R107 to R109): each result is the exact value rounded once. A value that
is not a fraction is enclosed between two fixed-point numbers; where both round to the same encoding, that is the
correctly rounded result.
-/
namespace Sys2Proof.Machine

/-- The functions of VTR (R142). -/
inductive TrFn where
  | exp2 | exp | log2 | ln | rcp | rsqrt | sqrt | sinPi | cosPi | tanh | sigmoid | erf
  deriving DecidableEq, Repr

/-- The function of FN [4:0], none for a reserved one (R142). -/
def trFn (fn : Nat) : Option TrFn :=
  match fn with
  | 0 => some .exp2 | 1 => some .exp | 2 => some .log2 | 3 => some .ln | 4 => some .rcp | 5 => some .rsqrt
  | 6 => some .sqrt | 7 => some .sinPi | 8 => some .cosPi | 9 => some .tanh | 10 => some .sigmoid
  | 11 => some .erf | _ => none

/-- The number of a function. -/
def TrFn.code : TrFn → Nat
  | .exp2 => 0 | .exp => 1 | .log2 => 2 | .ln => 3 | .rcp => 4 | .rsqrt => 5 | .sqrt => 6 | .sinPi => 7
  | .cosPi => 8 | .tanh => 9 | .sigmoid => 10 | .erf => 11

/-! ### Fixed point: an integer x stands for x / 2^640 -/

/-- Fraction bits. -/
def fxP : Nat := 640
/-- One. -/
def fxOne : Nat := 2 ^ fxP
/-- Every series here has at most 700 steps, each wrong by less than one unit, grown by less than 2^60: the error
stays below 2^100 units. -/
def fxErr : Int := 2 ^ 100

/-- m * 2^e in fixed point, rounded down. -/
def fxOf (m : Nat) (e : Int) : Nat :=
  let n := e + fxP
  if 0 ≤ n then m * 2 ^ n.toNat else m / 2 ^ (-n).toNat

/-- Sum of y^k / k! from term k. -/
def fxExpFrom (fuel k term y acc : Nat) : Nat :=
  match fuel with
  | 0 => acc
  | f + 1 => fxExpFrom f (k + 1) (term * y / fxOne / (k + 1)) y (acc + term)

/-- e^y for 0 ≤ y < 1. -/
def fxExp (y : Nat) : Nat := fxExpFrom 160 0 fxOne y 0

/-- Sum of z^(2k + 1) / (2k + 1). -/
def fxAtanhFrom (fuel k pow z2 acc : Nat) : Nat :=
  match fuel with
  | 0 => acc
  | f + 1 => fxAtanhFrom f (k + 2) (pow * z2 / fxOne) z2 (acc + pow / k)

/-- ln f for 1 ≤ f < 2. -/
def fxLn (f : Nat) : Nat :=
  let z := (f - fxOne) * fxOne / (f + fxOne)
  2 * fxAtanhFrom 220 1 z (z * z / fxOne) 0

/-- ln 2. -/
def fxLn2 : Nat :=
  let z := fxOne / 3
  2 * fxAtanhFrom 220 1 z (z * z / fxOne) 0

/-- Sum of (-1)^k / (n^(2k + 1) (2k + 1)). -/
def fxAtanInvFrom (fuel k pow n2 : Nat) (neg : Bool) (acc : Int) : Int :=
  match fuel with
  | 0 => acc
  | f + 1 =>
    let t : Int := (pow / k : Nat)
    fxAtanInvFrom f (k + 2) (pow / n2) n2 (!neg) (if neg then acc - t else acc + t)

/-- Pi. -/
def fxPi : Nat :=
  (16 * fxAtanInvFrom 150 1 (fxOne / 5) 25 false 0 - 4 * fxAtanInvFrom 60 1 (fxOne / 239) 57121 false 0).toNat

/-- Sum of (-1)^k t^(2k + 1) / (2k + 1)!. -/
def fxSinFrom (fuel k term t2 : Nat) (neg : Bool) (acc : Int) : Int :=
  match fuel with
  | 0 => acc
  | f + 1 =>
    fxSinFrom f (k + 2) (term * t2 / fxOne / ((k + 1) * (k + 2))) t2 (!neg)
      (if neg then acc - (term : Int) else acc + (term : Int))

/-- sin (pi r) for 0 ≤ r ≤ 1/2. -/
def fxSinPi (r : Nat) : Nat :=
  let t := fxPi * r / fxOne
  (fxSinFrom 100 1 t (t * t / fxOne) false 0).toNat

/-- Sum of (-1)^k x^(2k + 1) / (k! (2k + 1)). -/
def fxErfFrom (fuel k term x2 : Nat) (neg : Bool) (acc : Int) : Int :=
  match fuel with
  | 0 => acc
  | f + 1 =>
    let t : Int := (term / (2 * k + 1) : Nat)
    fxErfFrom f (k + 1) (term * x2 / fxOne / (k + 1)) x2 (!neg) (if neg then acc - t else acc + t)

/-- erf x for 0 ≤ x ≤ 6. -/
def fxErf (x : Nat) : Nat :=
  let y := fxErfFrom 700 0 x (x * x / fxOne) false 0
  (2 * y).toNat * fxOne / Nat.sqrt (fxPi * fxOne)

/-! ### The functions on a finite operand m * 2^e that no special case covers -/

/-- What a function gives: an exact value, or an enclosure (sign, lower and upper bound of the magnitude, each
times 2^shift in fixed point). -/
inductive TrVal where
  | exact (v : FpVal)
  | between (neg : Bool) (lo hi : Nat) (shift : Int)
  deriving DecidableEq, Repr

/-- An enclosure round an approximation. -/
def trNear (neg : Bool) (x : Nat) (shift : Int) : TrVal :=
  .between neg (((x : Int) - fxErr).toNat) (((x : Int) + fxErr).toNat) shift

/-- A magnitude far below every nonzero encoding, or far above every finite one. -/
def trTiny : TrVal := .between false 1 2 (-400)
/-- Far above every finite value. -/
def trHuge : TrVal := .between false fxOne (2 * fxOne) 400
/-- Just below 1. -/
def trBelowOne (neg : Bool) : TrVal := .between neg (fxOne - fxOne / 2 ^ 40) (fxOne - 1) 0

/-- The signed fixed-point value of an operand. -/
def fxSigned (neg : Bool) (m : Nat) (e : Int) : Int := if neg then -(fxOf m e : Int) else (fxOf m e : Int)

/-- 2^x (R107). -/
def trExp2 (neg : Bool) (m : Nat) (e : Int) : TrVal :=
  if magLt 200 0 m e then (if neg then trTiny else trHuge)
  else
    let x := fxSigned neg m e
    let n := x / (fxOne : Int)
    let r := (x % (fxOne : Int)).toNat
    if r = 0 then .exact (.fin false 1 n) else trNear false (fxExp (r * fxLn2 / fxOne)) n

/-- e^x for |x| ≤ 1000 as a fixed-point number in [1, 2) and a shift. -/
def fxExpSplit (x : Int) : Nat × Int :=
  let n := x / (fxLn2 : Int)
  (fxExp ((x % (fxLn2 : Int)).toNat), n)

/-- e^x (R107). -/
def trExp (neg : Bool) (m : Nat) (e : Int) : TrVal :=
  if magLt 200 0 m e then (if neg then trTiny else trHuge)
  else
    let y := fxExpSplit (fxSigned neg m e)
    trNear false y.1 y.2

/-- log2 x or ln x for x > 0 (R107). -/
def trLog (base2 : Bool) (m : Nat) (e : Int) : TrVal :=
  let l := Nat.log2 m
  let n : Int := e + l
  let f := m * 2 ^ (fxP - l)
  if f = fxOne ∧ (base2 ∨ n = 0) then .exact (.fin (decide (n < 0)) n.natAbs 0)
  else
    let x : Int :=
      if base2 then n * fxOne + ((fxLn f * fxOne / fxLn2 : Nat) : Int) else n * fxLn2 + (fxLn f : Int)
    trNear (decide (x < 0)) x.natAbs 0

/-- A fraction a / b as an enclosure, exact where b divides. -/
def trQuot (neg : Bool) (a b : Nat) (shift : Int) : TrVal :=
  let q := a * fxOne / b
  if a * fxOne % b = 0 then .exact (.fin neg q (shift - fxP)) else .between neg q (q + 1) shift

/-- A square root of a * 2^(2 * shift), exact where a is a square. -/
def trRoot (a : Nat) (shift : Int) : TrVal :=
  let q := Nat.sqrt (a * fxOne * fxOne)
  if q * q = a * fxOne * fxOne then .exact (.fin false q (shift - fxP)) else .between false q (q + 1) shift

/-- m * 2^e with an even exponent. -/
def evenExp (m : Nat) (e : Int) : Nat × Int := if e % 2 = 0 then (m, e / 2) else (2 * m, (e - 1) / 2)

/-- 1 / sqrt x for x > 0: a square root is exact only for a power of 4. -/
def trRsqrt (m : Nat) (e : Int) : TrVal :=
  let x := evenExp m e
  let q := Nat.sqrt x.1
  if q * q = x.1 then trQuot false 1 q (-x.2)
  else
    let r := Nat.sqrt (fxOne * fxOne / x.1)
    .between false r (r + 1) (-x.2)

/-- sin (pi x) for x not a multiple of 1/2 (R107): x modulo 2 in quarter turns. -/
def trSin (neg : Bool) (x : Nat) : TrVal :=
  let r := x % (2 * fxOne)
  let neg2 := neg != decide (fxOne ≤ r)
  let h := r % fxOne
  let y := if 2 * h ≤ fxOne then h else fxOne - h
  trNear neg2 (fxSinPi y) 0

/-- SIN_PI (R107, R108). -/
def trSinPi (neg : Bool) (m : Nat) (e : Int) : TrVal :=
  let x := fxOf m e
  let r := x % (2 * fxOne)
  if r % fxOne = 0 then .exact (.fin neg 0 0)
  else if 2 * r % fxOne = 0 then .exact (.fin (neg != decide (fxOne < r)) 1 0)
  else trSin neg x

/-- COS_PI (R107, R108): cos (pi x) = sin (pi (x + 1/2)). -/
def trCosPi (m : Nat) (e : Int) : TrVal :=
  let x := fxOf m e
  let r := x % (2 * fxOne)
  if r % fxOne = 0 then .exact (.fin (decide (r = fxOne)) 1 0)
  else if 2 * r % fxOne = 0 then .exact (.fin false 0 0)
  else trSin false (x + fxOne / 2)

/-- TANH (R107): 1 - 2 / (e^(2 |x|) + 1), with the sign of x. -/
def trTanh (neg : Bool) (m : Nat) (e : Int) : TrVal :=
  if magLt 30 0 m e then trBelowOne neg
  else
    let y := fxExpSplit (2 * (fxOf m e : Int))
    let z := y.1 * 2 ^ y.2.toNat
    trNear neg ((z - fxOne) * fxOne / (z + fxOne)) 0

/-- SIGMOID (R107): 1 / (1 + e^-x), for x < 0 as e^x / (1 + e^x). -/
def trSigmoid (neg : Bool) (m : Nat) (e : Int) : TrVal :=
  if magLt 200 0 m e then (if neg then trTiny else trBelowOne false)
  else
    let y := fxExpSplit (fxOf m e : Int)
    let z := y.1 * 2 ^ y.2.toNat
    trNear false ((if neg then fxOne else z) * fxOne / (fxOne + z)) 0

/-- ERF (R107). -/
def trErf (neg : Bool) (m : Nat) (e : Int) : TrVal :=
  if magLt 6 0 m e then trBelowOne neg else trNear neg (fxErf (fxOf m e)) 0

/-- A function on a finite operand that the special cases of R108 leave. -/
def TrFn.value (f : TrFn) (neg : Bool) (m : Nat) (e : Int) : TrVal :=
  match f with
  | .exp2 => trExp2 neg m e
  | .exp => trExp neg m e
  | .log2 => trLog true m e
  | .ln => trLog false m e
  | .rcp => trQuot neg 1 m (-e)
  | .rsqrt => trRsqrt m e
  | .sqrt => trRoot (evenExp m e).1 (evenExp m e).2
  | .sinPi => trSinPi neg m e
  | .cosPi => trCosPi m e
  | .tanh => trTanh neg m e
  | .sigmoid => trSigmoid neg m e
  | .erf => trErf neg m e

/-! ### Special operands and rounding -/

/-- A special result of R108: the value, INVALID, DIV_ZERO. -/
structure TrSpecial where
  value : FpVal
  invalid : Bool
  divZero : Bool
  deriving DecidableEq, Repr

/-- A special result without a flag. -/
def trPlain (v : FpVal) : Option TrSpecial := some { value := v, invalid := false, divZero := false }
/-- NaN with INVALID. -/
def trInvalid : Option TrSpecial := some { value := .nan, invalid := true, divZero := false }
/-- An infinity with DIV_ZERO. -/
def trDivZero (neg : Bool) : Option TrSpecial := some { value := .inf neg, invalid := false, divZero := true }

/-- The table of special operands (R108); infinities in the first group, zeros in the second, negative operands in
the third. -/
def TrFn.special (f : TrFn) (x : FpVal) : Option TrSpecial :=
  let one : FpVal := .fin false 1 0
  match f, x with
  | _, .nan => trPlain .nan
  | .exp2, .inf n => trPlain (if n then .fin false 0 0 else .inf false)
  | .exp, .inf n => trPlain (if n then .fin false 0 0 else .inf false)
  | .log2, .inf n => if n then trInvalid else trPlain (.inf false)
  | .ln, .inf n => if n then trInvalid else trPlain (.inf false)
  | .rcp, .inf n => trPlain (.fin n 0 0)
  | .rsqrt, .inf n => if n then trInvalid else trPlain (.fin false 0 0)
  | .sqrt, .inf n => if n then trInvalid else trPlain (.inf false)
  | .sinPi, .inf _ => trInvalid
  | .cosPi, .inf _ => trInvalid
  | .tanh, .inf n => trPlain (.fin n 1 0)
  | .erf, .inf n => trPlain (.fin n 1 0)
  | .sigmoid, .inf n => trPlain (if n then .fin false 0 0 else one)
  | .exp2, .fin _ 0 _ => trPlain one
  | .exp, .fin _ 0 _ => trPlain one
  | .log2, .fin _ 0 _ => trDivZero true
  | .ln, .fin _ 0 _ => trDivZero true
  | .rcp, .fin n 0 _ => trDivZero n
  | .rsqrt, .fin n 0 _ => trDivZero n
  | .sqrt, .fin n 0 _ => trPlain (.fin n 0 0)
  | .sinPi, .fin n 0 _ => trPlain (.fin n 0 0)
  | .cosPi, .fin _ 0 _ => trPlain one
  | .tanh, .fin n 0 _ => trPlain (.fin n 0 0)
  | .erf, .fin n 0 _ => trPlain (.fin n 0 0)
  | .sigmoid, .fin _ 0 _ => trPlain (.fin false 1 (-1))
  | .log2, .fin true _ _ => trInvalid
  | .ln, .fin true _ _ => trInvalid
  | .rsqrt, .fin true _ _ => trInvalid
  | .sqrt, .fin true _ _ => trInvalid
  | _, _ => none

/-- The destination format (R107). -/
def trDst (toBf16 : Bool) : Fmt := if toBf16 then bf16 else fp32

/-- Round an enclosed value: where both bounds agree, that is the correctly rounded result; else the value is the
open one of log 10. -/
def TrFn.finish (f : TrFn) (w : Word) (toBf16 : Bool) (v : TrVal) : LaneResult :=
  match v with
  | .exact x => ((trDst toBf16).result x).lane false
  | .between neg lo hi shift =>
    let a := (trDst toBf16).round neg lo (shift - fxP) false
    let b := (trDst toBf16).round neg hi (shift - fxP) false
    if a.bits = b.bits ∧ a.excess = b.excess ∧ a.tiny = b.tiny then { a.lane false with inexact := true }
    else
      let g := Config.transcendentalFlags f.code w toBf16
      { bits := Config.transcendental f.code w toBf16, inexact := g.getLsbD 0, excess := g.getLsbD 1,
        under := g.getLsbD 2, invalid := false, divZero := false }

/-- One lane of VTR (R107 to R109). -/
def TrFn.lane (f : TrFn) (w : Word) (toBf16 : Bool) : LaneResult :=
  match f.special (laneVal w) with
  | some x =>
    { ((trDst toBf16).result x.value).lane false with invalid := x.invalid, divZero := x.divZero }
  | none =>
    match laneVal w with
    | .fin neg m e => f.finish w toBf16 (f.value neg m e)
    | _ => f.finish w toBf16 (.exact .nan)

end Sys2Proof.Machine
end

