-- ==== Sys2Proof/Machine/Vector.lean ====
section
/-!
DEFINITION. The vector engine (02 R99 to R110, R114, R115, R118, R127, R877; 03 R142, R144 to R146): VLD, VST, VFP,
VINT, VCVT, MXQ, VRED, VTR and VMOV.
-/
namespace Sys2Proof.Machine

/-- The result of a vector operation: lanes with their flags, and the blot of each lane. -/
structure VResult where
  lanes : List LaneResult
  blots : List Bool
  flags : BitVec 6
  deriving DecidableEq, Repr

/-- A result from lanes: the flags of R127 are those of every lane. -/
def VResult.ofLanes (f : Nat → LaneResult) (b : Nat → Bool) : VResult :=
  let lanes := (List.range 32).map f
  let blots := (List.range 32).map b
  { lanes := lanes, blots := blots,
    flags := (List.range 32).foldl (fun g l => g ||| (f l).flags (b l)) (0 : BitVec 6) }

/-- Whether any lane of a vector register is blotted (R114). -/
def CoreRegs.anyVb (r : CoreRegs) (v : Nat) : Bool := (List.range 32).any (r.vb v)

/-- The lanes of a vector register with their blots. -/
def CoreRegs.lanes (r : CoreRegs) (v : Nat) : List (Word × Bool) := (List.range 32).map (fun l => (r.v v l, r.vb v l))

/-- A write of vector register vd that an instruction of cycle t makes and that can still be stopped (R110, R165); those made by
cycle t can not any more. -/
def CoreLs.noteV (l : CoreLs) (r : CoreRegs) (t ready vd : Nat) : CoreLs :=
  { l with vwrites := l.vwrites.filter (fun w => decide (t + 1 < w.ready)) ++
      [{ ready := ready, reg := vd, before := r.lanes vd }] }

/-- Write a vector result: lanes and blots, CO_VE_FLAGS, when the register can be read (R110, R115, R127). Each operation has
its own latency of R110, so that of a VTR and a shorter operation behind it the later one's register can be read first; R52's
completion in order is that of the operations' effects (DESIGN CHOICE, log 120). -/
def State.putV (s : State) (n t lat vd : Nat) (r : VResult) : State :=
  s.modCore n (fun c =>
    { c with regs := c.regs.setLanes vd (fun l => (r.lanes.getD l (LaneResult.plain 0)).bits)
                       (fun l => r.blots.getD l false)
             ctl := { c.ctl with vready := c.ctl.vready.set vd (s.after n t lat) }
             eng := { c.eng with veFlags := c.eng.veFlags ||| r.flags }
             ls := c.ls.noteV c.regs t (s.after n t lat) vd })

/-- The VE accepts its next operation `occ` cycles after t (R53, R110). -/
def State.occupyVe (s : State) (n t : Nat) (u : Unit_) (occ : Nat) : State :=
  s.modEng n (fun e =>
    { e with veFree := s.after n t occ, vtFree := if u = .vt then s.after n t occ else e.vtFree })

/-- Issue a vector operation that reads vector registers `vs`: a parity error on one of them is VREG_PARITY
(R118, R121), which ends the operation without a write. -/
def State.issueV (s : State) (a : Issue) (vs : List Nat) (u : Unit_) (occ : Nat) (rs : List Nat)
    (errs : List CoreError) (par : Option (BitVec 5)) (effect : Nat → State → State) : State :=
  let n := a.core.val
  s.issue a { reads := rs, vreads := vs, unit := u, errs := errs } (fun t w =>
    match par with
    | some v =>
      if v.toNat ∈ vs then w.engineError n .vregParity v.toNat
      else ((effect t w).occupyVe n t u occ).advance n t 1
    | none => ((effect t w).occupyVe n t u occ).advance n t 1)

/-- A lane-wise vector operation (R114). -/
def vecOp (a : Issue) (vd : Nat) (vs : List Nat) (u : Unit_) (occ lat : Nat) (ok : Bool)
    (par : Option (BitVec 5)) (f : CoreRegs → VResult) (s : State) : State :=
  s.issueV a vs u occ [] (if ok then [] else [CoreErrKind.illegalInstr.err]) par (fun t w =>
    w.putV a.core t lat vd (f (w.core a.core).regs))

/-- A 128-byte local store operand at rs1 + imm14 (R146, R164). -/
def vecMemErrs (r : CoreRegs) (rs1 : BitVec 6) (imm : BitVec 14) : List CoreError :=
  lsErrs (r.lsAddr rs1 imm) 128 ++ r.blotErr [rs1.toNat] 0

/-- VLD (R142, R148, R877): vd = 128 bytes at rs1 + imm14 as cycle issue + 1 finds them, the blot of each lane that of its
unit; a blotted lane sets BLOT (R127). -/
def effVld (a : Issue) (vd : BitVec 5) (rs1 : BitVec 6) (imm : BitVec 14) (ls : List (Nat × Ecc)) (s : State) :
    State :=
  let n := a.core.val
  s.issueV a [] .ve 1 (regs [rs1]) (vecMemErrs (s.core n).regs rs1 imm) none (fun t w0 =>
    let c1 := w0.after n t 1
    let w := w0.lsEccs n c1 ls
    let addr := (w.core n).regs.lsAddr rs1 imm
    let blot (l : Nat) : Bool := w.lsBlot n c1 (addr + 4 * l) 4
    w.modCore n (fun c =>
      { c with regs := c.regs.setLanes vd.toNat (fun l => w.lsWord n c1 (addr + 4 * l)) blot
               eng := { c.eng with veFlags := c.eng.veFlags ||| (if (List.range 32).any blot then 0x20 else 0) }
               ctl := { c.ctl with vready := c.ctl.vready.set vd.toNat (w.after n t 4) }
               ls := c.ls.noteV c.regs t (w.after n t 4) vd.toNat }))
/-- VLD. -/
def execVld (a : Issue) (vd : BitVec 5) (rs1 : BitVec 6) (imm : BitVec 14) (ls : List (Nat × Ecc)) (s : State) :
    Host.Outcome State Fault Refusal := .next (effVld a vd rs1 imm ls s)

/-- VST (R142, R148, R877): 128 bytes at rs1 + imm14 = vs, written in cycle issue + 2; a unit is blotted if a lane written
to it is (R116). -/
def effVst (a : Issue) (vs : BitVec 5) (rs1 : BitVec 6) (imm : BitVec 14) (par : Option (BitVec 5)) (s : State) :
    State :=
  let n := a.core.val
  s.issueV a [vs.toNat] .ve 1 (regs [rs1]) (vecMemErrs (s.core n).regs rs1 imm) par (fun t w =>
    let r := (w.core n).regs
    let addr := r.lsAddr rs1 imm
    (List.range 4).foldl (fun (u : State) g =>
      let ls := (List.range 8).map (fun i => 8 * g + i)
      u.lsStore n t 2 4 (addr + 32 * g) (ls.flatMap (fun l => toLe (r.v vs.toNat l).toNat 4))
        (ls.any (r.vb vs.toNat))) (w.lsTick n t))
/-- VST. -/
def execVst (a : Issue) (vs : BitVec 5) (rs1 : BitVec 6) (imm : BitVec 14) (par : Option (BitVec 5))
    (s : State) : Host.Outcome State Fault Refusal := .next (effVst a vs rs1 imm par s)

/-- The operations of VFP (R142). -/
inductive VfpFn where
  | fma | add | sub | mul | min | max
  deriving DecidableEq, Repr

/-- The operation of FN [4:0], none for a reserved one (R142). -/
def vfpFn (fn : Nat) : Option VfpFn :=
  match fn with
  | 0 => some .fma | 1 => some .add | 2 => some .sub | 3 => some .mul | 4 => some .min | 5 => some .max
  | _ => none

/-- MIN (R101). -/
def fpMin (a b : FpVal) : FpVal := if a.isNan || b.isNan then .nan else if b.lt a then b else a
/-- MAX (R101). -/
def fpMax (a b : FpVal) : FpVal := if a.isNan || b.isNan then .nan else if a.lt b then b else a

/-- The exact result of a VFP operation (R100, R101). -/
def VfpFn.exact (f : VfpFn) (a b c : FpVal) : FpVal :=
  match f with
  | .fma => (a.mul b).add c
  | .add => a.add b
  | .sub => a.add b.neg
  | .mul => a.mul b
  | .min => fpMin a b
  | .max => fpMax a b

/-- One lane of a VFP operation (R99 to R102, R877): the exact result rounded once to the destination. -/
def VfpFn.lane (f : VfpFn) (a b c : FpVal) (toBf16 : Bool) : LaneResult :=
  let v := f.exact a b c
  let src := a.isNan || b.isNan || (decide (f = .fma) && c.isNan)
  ((trDst toBf16).result v).lane (v.isNan && !src)

/-- The source registers of a VFP operation: FMA alone reads vc. -/
def VfpFn.sources (f : VfpFn) (va vb vc : Nat) : List Nat := if f = .fma then [va, vb, vc] else [va, vb]

/-- VFP (R99 to R102). -/
def effVfp (a : Issue) (vd va vb vc : BitVec 5) (fn : BitVec 6) (par : Option (BitVec 5)) (s : State) : State :=
  let op := vfpFn (fn.toNat % 32)
  let f := op.getD .fma
  let vs := f.sources va.toNat vb.toNat vc.toNat
  vecOp a vd.toNat vs .ve 1 4 op.isSome par (fun r =>
    VResult.ofLanes (fun l => f.lane (laneVal (r.v va.toNat l)) (laneVal (r.v vb.toNat l))
        (laneVal (r.v vc.toNat l)) (fn.getLsbD 5))
      (fun l => vs.any (fun v => r.vb v l))) s
/-- VFP. -/
def execVfp (a : Issue) (vd va vb vc : BitVec 5) (fn : BitVec 6) (par : Option (BitVec 5)) (s : State) :
    Host.Outcome State Fault Refusal := .next (effVfp a vd va vb vc fn par s)

/-- One lane of VINT (R103): ADD, SUB and MUL wrap; ADDS and SUBS saturate, which sets OVERFLOW (R127). -/
def vintLane (fn : Nat) (a b : Word) : Option LaneResult :=
  let sat (x : Int) : LaneResult :=
    let c := clampInt32 x
    { LaneResult.plain (BitVec.ofInt 32 c.1) with excess := c.2 }
  match fn with
  | 0 => some (LaneResult.plain (a + b))
  | 1 => some (LaneResult.plain (a - b))
  | 2 => some (LaneResult.plain (a * b))
  | 3 => some (sat (a.toInt + b.toInt))
  | 4 => some (sat (a.toInt - b.toInt))
  | _ => none

/-- VINT (R103); `vc` is not read. -/
def effVint (a : Issue) (vd va vb _vc : BitVec 5) (fn : BitVec 6) (par : Option (BitVec 5)) (s : State) : State :=
  let vs := [va.toNat, vb.toNat]
  vecOp a vd.toNat vs .ve 1 4 (vintLane fn.toNat 0 0).isSome par (fun r =>
    VResult.ofLanes
      (fun l => (vintLane fn.toNat (r.v va.toNat l) (r.v vb.toNat l)).getD (LaneResult.plain 0))
      (fun l => vs.any (fun v => r.vb v l))) s
/-- VINT. -/
def execVint (a : Issue) (vd va vb vc : BitVec 5) (fn : BitVec 6) (par : Option (BitVec 5)) (s : State) :
    Host.Outcome State Fault Refusal := .next (effVint a vd va vb vc fn par s)

/-- One lane of VCVT to a destination code (R105, R144, R877): code 0x9 reads BF16 from bits [15:0]. -/
def vcvtLane (code : Nat) (w : Word) : Option LaneResult :=
  match code with
  | 0x0 => some ((e4m3.convert (laneVal w)).lane false)
  | 0x1 => some ((e5m2.convert (laneVal w)).lane false)
  | 0x8 => some ((bf16.convert (laneVal w)).lane false)
  | 0x9 => some ((fp32.convert (bf16Val w.toNat)).lane false)
  | 0xA => some ((toInt32 (laneVal w)).lane false)
  | _ => none

/-- VCVT (R105, R145, R877), FN [4] clear: a code it does not permit, or FN [5] set, raises ILLEGAL_INSTR. -/
def effVcvt (a : Issue) (vd va _vb _vc : BitVec 5) (fn : BitVec 6) (par : Option (BitVec 5)) (s : State) : State :=
  let code := fn.toNat % 16
  let ok := (vcvtLane code 0).isSome && decide (fn.toNat < 16)
  vecOp a vd.toNat [va.toNat] .ve 1 4 ok par (fun r =>
    VResult.ofLanes (fun l => (vcvtLane code (r.v va.toNat l)).getD (LaneResult.plain 0))
      (fun l => r.vb va.toNat l)) s
/-- VCVT. -/
def execVcvt (a : Issue) (vd va vb vc : BitVec 5) (fn : BitVec 6) (par : Option (BitVec 5)) (s : State) :
    Host.Outcome State Fault Refusal := .next (effVcvt a vd va vb vc fn par s)

/-- The element type of an MXQ code (R144). -/
def mxqFmt (code : Nat) : Option Fmt :=
  match code with
  | 2 => some e4m3 | 3 => some e5m2 | 4 => some e3m2 | 5 => some e2m3 | 6 => some e2m1
  | _ => none

/-- emax of an element type (R106). -/
def mxqEmax (f : Fmt) : Int :=
  match f.decode f.maxBits with
  | .fin _ m e => e + (Nat.log2 m : Int)
  | _ => 0

/-- floor (log2 |x|) of a nonzero finite value. -/
def FpVal.ilog : FpVal → Option Int
  | .fin _ m e => if m = 0 then none else some (e + (Nat.log2 m : Int))
  | _ => none

/-- An MX block: scale byte, elements, flags (R106). -/
structure MxBlock where
  scale : Nat
  elems : List Nat
  flags : BitVec 6
  deriving DecidableEq, Repr

/-- MXQ of 32 values (R106, steps 1 to 4). -/
def mxqBlock (f : Fmt) (xs : List FpVal) : MxBlock :=
  let finite := xs.all (fun v => match v with | .fin _ _ _ => true | _ => false)
  if !finite then { scale := 0xFF, elems := List.replicate 32 0, flags := 8 }
  else match (xs.filterMap FpVal.ilog).max? with
    | none => { scale := 0, elems := List.replicate 32 0, flags := 0 }
    | some top =>
      let x := max (-127) (min 127 (top - mxqEmax f))
      let rs := xs.map (fun v => match v with
        | .fin neg m e => f.convert (.fin neg m (e - x))
        | w => f.convert w)
      { scale := (x + 127).toNat, elems := rs.map (fun r => r.bits),
        flags := rs.foldl (fun g r => g ||| (r.lane false).flags false) 0 }

/-- The elements packed as R63 packs them, as a number in the byte order of R877. -/
def packElems (w : Nat) (l : List Nat) : Nat :=
  match l with
  | [] => 0
  | x :: r => x + 2 ^ w * packElems w r

/-- The 32 lanes of an MXQ result (R106 step 5). -/
def MxBlock.lane (b : MxBlock) (w l : Nat) : Word :=
  if l = 31 then BitVec.ofNat 32 b.scale else BitVec.ofNat 32 (packElems w b.elems / 2 ^ (32 * l))

/-- MXQ (R106, R114, R145): VCVT with FN [4] set. -/
def effMxq (a : Issue) (vd va _vb _vc : BitVec 5) (fmt : BitVec 4) (fnHi : Bool) (par : Option (BitVec 5))
    (s : State) : State :=
  let f := mxqFmt fmt.toNat
  let g := f.getD e4m3
  vecOp a vd.toNat [va.toNat] .ve 1 6 (f.isSome && !fnHi) par (fun r =>
    let b := mxqBlock g ((List.range 32).map (fun l => laneVal (r.v va.toNat l)))
    let blot := r.anyVb va.toNat
    let v := VResult.ofLanes (fun l => LaneResult.plain (b.lane g.width l)) (fun _ => blot)
    { v with flags := v.flags ||| b.flags }) s
/-- MXQ. -/
def execMxq (a : Issue) (vd va vb vc : BitVec 5) (fmt : BitVec 4) (fnHi : Bool) (par : Option (BitVec 5))
    (s : State) : Host.Outcome State Fault Refusal := .next (effMxq a vd va vb vc fmt fnHi par s)

/-- One level of the reduction tree (R104): element 2i with 2i + 1. -/
def redLevel (f : VfpFn) (l : List LaneResult) : List LaneResult :=
  match l with
  | a :: b :: r => f.lane (laneVal a.bits) (laneVal b.bits) .nan false :: redLevel f r
  | l => l

/-- The five levels of a reduction: the result and the flags of every addition. -/
def redTree (f : VfpFn) (levels : Nat) (l : List LaneResult) (flags : BitVec 6) : Word × BitVec 6 :=
  match levels with
  | 0 => ((l.getD 0 (LaneResult.plain 0)).bits, flags)
  | k + 1 =>
    let m := redLevel f l
    redTree f k m (m.foldl (fun g r => g ||| r.flags false) flags)

/-- The operation of VRED FN (R142). -/
def vredFn (fn : Nat) : Option VfpFn :=
  match fn with
  | 0 => some .add | 1 => some .max | 2 => some .min
  | _ => none

/-- VRED (R104, R114): the result goes to every lane of vd. -/
def effVred (a : Issue) (vd va _vb _vc : BitVec 5) (fn : BitVec 6) (par : Option (BitVec 5)) (s : State) : State :=
  let op := vredFn fn.toNat
  vecOp a vd.toNat [va.toNat] .ve 1 9 op.isSome par (fun r =>
    let x := redTree (op.getD .add) 5 ((List.range 32).map (fun l => LaneResult.plain (r.v va.toNat l))) 0
    let v := VResult.ofLanes (fun _ => LaneResult.plain x.1) (fun _ => r.anyVb va.toNat)
    { v with flags := v.flags ||| x.2 }) s
/-- VRED. -/
def execVred (a : Issue) (vd va vb vc : BitVec 5) (fn : BitVec 6) (par : Option (BitVec 5)) (s : State) :
    Host.Outcome State Fault Refusal := .next (effVred a vd va vb vc fn par s)

/-- VTR (R107 to R110). -/
def effVtr (a : Issue) (vd va _vb _vc : BitVec 5) (fn : BitVec 6) (par : Option (BitVec 5)) (s : State) : State :=
  let op := trFn (fn.toNat % 32)
  vecOp a vd.toNat [va.toNat] .vt 4 24 op.isSome par (fun r =>
    VResult.ofLanes (fun l => (op.getD .exp2).lane (r.v va.toNat l) (fn.getLsbD 5))
      (fun l => r.vb va.toNat l)) s
/-- VTR. -/
def execVtr (a : Issue) (vd va vb vc : BitVec 5) (fn : BitVec 6) (par : Option (BitVec 5)) (s : State) :
    Host.Outcome State Fault Refusal := .next (effVtr a vd va vb vc fn par s)

/-- VMOV (R142): FN 0 broadcasts s[va] to every lane of vd, FN 1 moves lane vb of va to s[vd]; the blot moves with
the value. -/
def effVmov (a : Issue) (vd va vb _vc : BitVec 5) (fn : BitVec 6) (par : Option (BitVec 5)) (s : State) : State :=
  let n := a.core.val
  if fn = 1 then
    s.issueV a [va.toNat] .ve 1 [] [] par (fun t w =>
      let r := (w.core n).regs
      w.putS n t 4 vd.toNat (r.v va.toNat vb.toNat) (r.vb va.toNat vb.toNat))
  else
    s.issueV a [] .ve 1 [va.toNat] (if fn = 0 then [] else [CoreErrKind.illegalInstr.err]) par (fun t w =>
      let r := (w.core n).regs
      w.putV n t 4 vd.toNat
        (VResult.ofLanes (fun _ => LaneResult.plain (r.s va.toNat)) (fun _ => r.sb va.toNat)))
/-- VMOV. -/
def execVmov (a : Issue) (vd va vb vc : BitVec 5) (fn : BitVec 6) (par : Option (BitVec 5)) (s : State) :
    Host.Outcome State Fault Refusal := .next (effVmov a vd va vb vc fn par s)

end Sys2Proof.Machine
end

