-- ==== Sys2Proof/Machine/Dispatch.lean ====
section
/-!
DEFINITION. The dispatch of the commands: one arm per constructor.
-/
namespace Sys2Proof.Machine

/-- The effect of a command on everything but the queue. -/
def exec (i : Instr) (s : State) : Host.Outcome State Fault Refusal :=
  match i with
  | .illegal at_ => Sys2Proof.Machine.execIllegal at_ s
  | .alu at_ rd rs1 rs2 fn => Sys2Proof.Machine.execAlu at_ rd rs1 rs2 fn s
  | .addi at_ rd rs1 imm => Sys2Proof.Machine.execAddi at_ rd rs1 imm s
  | .andi at_ rd rs1 imm => Sys2Proof.Machine.execAndi at_ rd rs1 imm s
  | .ori at_ rd rs1 imm => Sys2Proof.Machine.execOri at_ rd rs1 imm s
  | .shi at_ rd rs1 imm => Sys2Proof.Machine.execShi at_ rd rs1 imm s
  | .lui at_ rd imm => Sys2Proof.Machine.execLui at_ rd imm s
  | .rdsys at_ rd imm => Sys2Proof.Machine.execRdsys at_ rd imm s
  | .ldw at_ rd rs1 imm ls => Sys2Proof.Machine.execLdw at_ rd rs1 imm ls s
  | .stw at_ rd rs1 imm => Sys2Proof.Machine.execStw at_ rd rs1 imm s
  | .beq at_ rs1 rs2 target => Sys2Proof.Machine.execBeq at_ rs1 rs2 target s
  | .bne at_ rs1 rs2 target => Sys2Proof.Machine.execBne at_ rs1 rs2 target s
  | .blt at_ rs1 rs2 target => Sys2Proof.Machine.execBlt at_ rs1 rs2 target s
  | .bge at_ rs1 rs2 target => Sys2Proof.Machine.execBge at_ rs1 rs2 target s
  | .jmp at_ rs1 target => Sys2Proof.Machine.execJmp at_ rs1 target s
  | .jr at_ rs2 => Sys2Proof.Machine.execJr at_ rs2 s
  | .loop at_ rs1 target => Sys2Proof.Machine.execLoop at_ rs1 target s
  | .sectRuledNext at_ offset => Sys2Proof.Machine.execSectRuledNext at_ offset s
  | .sectRuledAt at_ rb offset => Sys2Proof.Machine.execSectRuledAt at_ rb offset s
  | .sectRuledHold at_ ra rb offset => Sys2Proof.Machine.execSectRuledHold at_ ra rb offset s
  | .sectFree at_ offset => Sys2Proof.Machine.execSectFree at_ offset s
  | .halt at_ => Sys2Proof.Machine.execHalt at_ s
  | .mma at_ clr bank anchor rb hw ls => Sys2Proof.Machine.execMma at_ clr bank anchor rb hw ls s
  | .mmaDelayedStart core hw ls => Sys2Proof.Machine.execMmaDelayedStart core hw ls s
  | .drain at_ bank dfmt rs1 rs2 hw => Sys2Proof.Machine.execDrain at_ bank dfmt rs1 rs2 hw s
  | .accSave at_ bank rs1 hw => Sys2Proof.Machine.execAccSave at_ bank rs1 hw s
  | .accLoad at_ bank rs1 ls => Sys2Proof.Machine.execAccLoad at_ bank rs1 ls s
  | .vld at_ vd rs1 imm ls => Sys2Proof.Machine.execVld at_ vd rs1 imm ls s
  | .vst at_ vs rs1 imm par => Sys2Proof.Machine.execVst at_ vs rs1 imm par s
  | .vfp at_ vd va vb vc fn par => Sys2Proof.Machine.execVfp at_ vd va vb vc fn par s
  | .vint at_ vd va vb vc fn par => Sys2Proof.Machine.execVint at_ vd va vb vc fn par s
  | .vcvt at_ vd va vb vc fn par => Sys2Proof.Machine.execVcvt at_ vd va vb vc fn par s
  | .mxq at_ vd va vb vc fmt fnHi par => Sys2Proof.Machine.execMxq at_ vd va vb vc fmt fnHi par s
  | .vred at_ vd va vb vc fn par => Sys2Proof.Machine.execVred at_ vd va vb vc fn par s
  | .vtr at_ vd va vb vc fn par => Sys2Proof.Machine.execVtr at_ vd va vb vc fn par s
  | .vmov at_ vd va vb vc fn par => Sys2Proof.Machine.execVmov at_ vd va vb vc fn par s
  | .xfer at_ ra ls => Sys2Proof.Machine.execXfer at_ ra s ls
  | .xferAccess core src dst split => Sys2Proof.Machine.execXferAccess core src dst split s
  | .send at_ ra rb n => Sys2Proof.Machine.execSend at_ ra rb n s
  | .recv at_ ra rb q n => Sys2Proof.Machine.execRecv at_ ra rb q n s
  | .recvWake core => Sys2Proof.Machine.execRecvWake core s
  | .select at_ ra rb => Sys2Proof.Machine.execSelect at_ ra rb s
  | .selectSelection core => Sys2Proof.Machine.execSelectSelection core s
  | .qstat at_ ra q fn off => Sys2Proof.Machine.execQstat at_ ra q fn off s
  | .steer at_ ra unit => Sys2Proof.Machine.execSteer at_ ra unit s
  | .syncSet at_ ra rb => Sys2Proof.Machine.execSyncSet at_ ra rb s
  | .syncAdd at_ ra rb => Sys2Proof.Machine.execSyncAdd at_ ra rb s
  | .syncWaitGe at_ ra rb => Sys2Proof.Machine.execSyncWaitGe at_ ra rb s
  | .waitGeWake core => Sys2Proof.Machine.execWaitGeWake core s
  | .syncRadd at_ ra rb => Sys2Proof.Machine.execSyncRadd at_ ra rb s
  | .landwait at_ ra rb => Sys2Proof.Machine.execLandwait at_ ra rb s
  | .landwaitWake core => Sys2Proof.Machine.execLandwaitWake core s
  | .strokeEdge p overrun rules cal => Sys2Proof.Machine.execStrokeEdge p overrun rules cal s
  | .holdRelease p => Sys2Proof.Machine.execHoldRelease p s
  | .crossingEmptyStall p => Sys2Proof.Machine.execCrossingEmptyStall p s
  | .crossingFullStall p => Sys2Proof.Machine.execCrossingFullStall p s
  | .crossingResume p => Sys2Proof.Machine.execCrossingResume p s
  | .droopStretch r cycles => Sys2Proof.Machine.execDroopStretch r cycles s
  | .tokenDelivery src dst parity => Sys2Proof.Machine.execTokenDelivery src dst parity s
  | .steerInputDelivery src dst parity => Sys2Proof.Machine.execSteerInputDelivery src dst parity s
  | .steerFire core unit par => Sys2Proof.Machine.execSteerFire core unit par s
  | .freeTokenArrival core chan => Sys2Proof.Machine.execFreeTokenArrival core chan s
  | .creditReturn core chan => Sys2Proof.Machine.execCreditReturn core chan s
  | .closureNotice core chan => Sys2Proof.Machine.execClosureNotice core chan s
  | .deadlockScan k => Sys2Proof.Machine.execDeadlockScan k s
  | .deadlockDetected where_ => Sys2Proof.Machine.execDeadlockDetected where_ s
  | .quillDeadlockPoll p => Sys2Proof.Machine.execQuillDeadlockPoll p s
  | .contributionArrival src => Sys2Proof.Machine.execContributionArrival src s
  | .combiningRelease q => Sys2Proof.Machine.execCombiningRelease q s
  | .mgmtSyncOp => Sys2Proof.Machine.execMgmtSyncOp s
  | .landingSlotWrite k ecc collide => Sys2Proof.Machine.execLandingSlotWrite k ecc collide s
  | .scrubAccess k ecc split => Sys2Proof.Machine.execScrubAccess k ecc split s
  | .mcRequest m src ecc linkEcc tblEcc lines => Sys2Proof.Machine.execMcRequest m src ecc linkEcc tblEcc s lines
  | .mcReadDataReturn m slice slot dst parity => Sys2Proof.Machine.execMcReadDataReturn m slice slot dst parity s
  | .positionWrite m lines => Sys2Proof.Machine.execPositionWrite m s lines
  | .slotCmdFork m tbl lines => Sys2Proof.Machine.execSlotCmdFork m s tbl lines
  | .slotCmdRewind m tbl lines => Sys2Proof.Machine.execSlotCmdRewind m s tbl lines
  | .slotCmdAccept m tbl child lines => Sys2Proof.Machine.execSlotCmdAccept m s tbl child lines
  | .mcRefresh m => Sys2Proof.Machine.execMcRefresh m s
  | .mcWckCheck m chan begin_ lines => Sys2Proof.Machine.execMcWckCheck m chan begin_ s lines
  | .mcLinkPoll m errors => Sys2Proof.Machine.execMcLinkPoll m errors s
  | .mcScrubRead m ecc linkEcc => Sys2Proof.Machine.execMcScrubRead m ecc s linkEcc
  | .sqTailDoorbell fn n val => Sys2Proof.Machine.execSqTailDoorbell fn n val s
  | .cqHeadDoorbell fn n val => Sys2Proof.Machine.execCqHeadDoorbell fn n val s
  | .eventRingHeadDoorbell fn val => Sys2Proof.Machine.execEventRingHeadDoorbell fn val s
  | .commandFetch fn n pkt written => Sys2Proof.Machine.execCommandFetch fn n pkt s written
  | .qpEnable fn n val => Sys2Proof.Machine.execQpEnable fn n val s
  | .qpDisable fn n val => Sys2Proof.Machine.execQpDisable fn n val s
  | .qpDeactivate fn n => Sys2Proof.Machine.execQpDeactivate fn n s
  | .eventRingEnable fn val => Sys2Proof.Machine.execEventRingEnable fn val s
  | .eventLostClear fn val => Sys2Proof.Machine.execEventLostClear fn val s
  | .deferredCompletion job => Sys2Proof.Machine.execDeferredCompletion job s
  | .msixMessage fn vector => Sys2Proof.Machine.execMsixMessage fn vector s
  | .bar0Reject fn isRead => Sys2Proof.Machine.execBar0Reject fn isRead s
  | .bar2Read fn off len errs split lines => Sys2Proof.Machine.execBar2Read fn off len errs s split lines
  | .bar2Write fn off bytes poisoned errs lost lines => Sys2Proof.Machine.execBar2Write fn off bytes poisoned errs lost s lines
  | .hostFunctionReset kind => Sys2Proof.Machine.execHostFunctionReset kind s
  | .d3hotEntry fn => Sys2Proof.Machine.execD3hotEntry fn s
  | .d0Return fn => Sys2Proof.Machine.execD0Return fn s
  | .registerWrite fn bar4 off val sets => Sys2Proof.Machine.execRegisterWrite fn bar4 off val s sets
  | .nwStrokeLoRead p => Sys2Proof.Machine.execNwStrokeLoRead p s
  | .qlTdcLoRead c => Sys2Proof.Machine.execQlTdcLoRead c s
  | .ckTimeLoRead => Sys2Proof.Machine.execCkTimeLoRead s
  | .emEnergyLoRead => Sys2Proof.Machine.execEmEnergyLoRead s
  | .emTimeLoRead => Sys2Proof.Machine.execEmTimeLoRead s
  | .emLogIndexWrite val => Sys2Proof.Machine.execEmLogIndexWrite val s
  | .fbIdWrite val => Sys2Proof.Machine.execFbIdWrite val s
  | .fbPortExpectWrite f n val => Sys2Proof.Machine.execFbPortExpectWrite f n val s
  | .fbRingEnable r val => Sys2Proof.Machine.execFbRingEnable r val s
  | .hello h majorMin majorMax minorMax => Sys2Proof.Machine.execHello h majorMin majorMax minorMax s
  | .getInfo h r => Sys2Proof.Machine.execGetInfo h r s
  | .getDistances h r mode => Sys2Proof.Machine.execGetDistances h r mode s
  | .setEventMask h mask => Sys2Proof.Machine.execSetEventMask h mask s
  | .setPartitionMode h mode => Sys2Proof.Machine.execSetPartitionMode h mode s
  | .setModes h det checking seam patrol drift => Sys2Proof.Machine.execSetModes h det checking seam patrol drift s
  | .getWatermark h r => Sys2Proof.Machine.execGetWatermark h r s
  | .setThresholds h block => Sys2Proof.Machine.execSetThresholds h block s
  | .loadScroll h hostAddr len => Sys2Proof.Machine.execLoadScroll h hostAddr len s
  | .scrollReadComplete job bytes => Sys2Proof.Machine.execScrollReadComplete job bytes s
  | .startContext h watermark clock from_ bulkSize hostBase hostLimit lines => Sys2Proof.Machine.execStartContext h watermark clock from_ bulkSize hostBase hostLimit s lines
  | .stopContextAtEdge h => Sys2Proof.Machine.execStopContextAtEdge h s
  | .stopContextAtQuiet h => Sys2Proof.Machine.execStopContextAtQuiet h s
  | .checkpoint h mirror sm4 peerDevice peerWindow hostAddr hostLen => Sys2Proof.Machine.execCheckpoint h mirror sm4 peerDevice peerWindow hostAddr hostLen s
  | .checkpointTimeout job => Sys2Proof.Machine.execCheckpointTimeout job s
  | .restore h source hostAddr sequence => Sys2Proof.Machine.execRestore h source hostAddr sequence s
  | .reconfigureDrain h ruling configId stroke => Sys2Proof.Machine.execReconfigureDrain h ruling configId stroke s
  | .reconfigureDiscard h ruling configId stroke => Sys2Proof.Machine.execReconfigureDiscard h ruling configId stroke s
  | .selectVariant h index => Sys2Proof.Machine.execSelectVariant h index s
  | .dma h hostAddr devAddr len dir => Sys2Proof.Machine.execDma h hostAddr devAddr len dir s
  | .dmaTransferDone job data errs lost poison split lines => Sys2Proof.Machine.execDmaTransferDone job data errs lost s poison split lines
  | .seqOpen h slot log2 tier base pages => Sys2Proof.Machine.execSeqOpen h slot log2 tier base pages s
  | .seqFork h parent child pos tbl lines => Sys2Proof.Machine.execSeqFork h parent child pos s tbl lines
  | .seqRewind h slot pos tbl lines => Sys2Proof.Machine.execSeqRewind h slot pos s tbl lines
  | .seqAccept h parent child tbl ctbl lines => Sys2Proof.Machine.execSeqAccept h parent child s tbl ctbl lines
  | .seqClose h slot tbl lines => Sys2Proof.Machine.execSeqClose h slot s tbl lines
  | .syncOpSet h scope cluster index val => Sys2Proof.Machine.execSyncOpSet h scope cluster index val s
  | .syncOpAdd h scope cluster index val => Sys2Proof.Machine.execSyncOpAdd h scope cluster index val s
  | .syncOpRead h scope cluster index => Sys2Proof.Machine.execSyncOpRead h scope cluster index s
  | .syncOpWaitGe h scope cluster index val timeoutMs => Sys2Proof.Machine.execSyncOpWaitGe h scope cluster index val timeoutMs s
  | .syncOpWaitEnd job => Sys2Proof.Machine.execSyncOpWaitEnd job s
  | .openWindow h desc => Sys2Proof.Machine.execOpenWindow h desc s
  | .closeWindow h w => Sys2Proof.Machine.execCloseWindow h w s
  | .setRoute h dest entry => Sys2Proof.Machine.execSetRoute h dest entry s
  | .portDisable h port => Sys2Proof.Machine.execPortDisable h port s
  | .portEnable h port => Sys2Proof.Machine.execPortEnable h port s
  | .portRetrain h port => Sys2Proof.Machine.execPortRetrain h port s
  | .laneClear h port lane => Sys2Proof.Machine.execLaneClear h port lane s
  | .bistLogic h => Sys2Proof.Machine.execBistLogic h s
  | .bistInkwellMarch h => Sys2Proof.Machine.execBistInkwellMarch h s
  | .bistLpddrQuick h => Sys2Proof.Machine.execBistLpddrQuick h s
  | .bistLpddrFull h => Sys2Proof.Machine.execBistLpddrFull h s
  | .bistDone job found cal => Sys2Proof.Machine.execBistDone job found cal s
  | .getMoraine h r portion => Sys2Proof.Machine.execGetMoraine h r portion s
  | .loadFirnPatterns h hostAddr len pack => Sys2Proof.Machine.execLoadFirnPatterns h hostAddr len pack s
  | .replaySuspects h => Sys2Proof.Machine.execReplaySuspects h s
  | .suspectRunEnd p hung cal => Sys2Proof.Machine.execSuspectRunEnd p hung cal s
  | .getHealth h r => Sys2Proof.Machine.execGetHealth h r s
  | .returnToService h kind index => Sys2Proof.Machine.execReturnToService h kind index s
  | .powerStateRun h cal => Sys2Proof.Machine.execPowerStateRun h cal s
  | .powerStateIdle h cal => Sys2Proof.Machine.execPowerStateIdle h cal s
  | .powerStateRetain h => Sys2Proof.Machine.execPowerStateRetain h s
  | .powerStateDormant h => Sys2Proof.Machine.execPowerStateDormant h s
  | .domainOn h domain => Sys2Proof.Machine.execDomainOn h domain s
  | .domainOff h domain => Sys2Proof.Machine.execDomainOff h domain s
  | .domainRampDone domain => Sys2Proof.Machine.execDomainRampDone domain s
  | .resetPartition h cal => Sys2Proof.Machine.execResetPartition h cal s
  | .setPowerCap h capW => Sys2Proof.Machine.execSetPowerCap h capW s
  | .attest h r nonce => Sys2Proof.Machine.execAttest h r nonce s
  | .fwStage h hostAddr len image => Sys2Proof.Machine.execFwStage h hostAddr len image s
  | .fwCommit h => Sys2Proof.Machine.execFwCommit h s
  | .fwCommitReset => Sys2Proof.Machine.execFwCommitReset s
  | .recordRead h r rtype index => Sys2Proof.Machine.execRecordRead h r rtype index s
  | .meterRead h r => Sys2Proof.Machine.execMeterRead h r s
  | .meterStampStart h r jobId => Sys2Proof.Machine.execMeterStampStart h r jobId s
  | .meterStampEnd h r jobId => Sys2Proof.Machine.execMeterStampEnd h r jobId s
  | .lockstepPair h port peer => Sys2Proof.Machine.execLockstepPair h port peer s
  | .lockstepPairTimeout job => Sys2Proof.Machine.execLockstepPairTimeout job s
  | .lockstepRelease h => Sys2Proof.Machine.execLockstepRelease h s
  | .debugDump h r what cluster find split => Sys2Proof.Machine.execDebugDump h r what cluster s find split
  | .mctpCommandRequest msg cal => Sys2Proof.Machine.execMctpCommandRequest msg cal s
  | .mctpControlMessage msg => Sys2Proof.Machine.execMctpControlMessage msg s
  | .i3cAddressAssign addr static_ => Sys2Proof.Machine.execI3cAddressAssign addr s static_
  | .doeDiscovery fn index => Sys2Proof.Machine.execDoeDiscovery fn index s
  | .spdmRequest ch msg => Sys2Proof.Machine.execSpdmRequest ch msg s
  | .spdmGetMeasurements ch op nonce => Sys2Proof.Machine.execSpdmGetMeasurements ch op nonce s
  | .ideKmKeySetup fn stream ok key stop => Sys2Proof.Machine.execIdeKmKeySetup fn stream ok s key stop
  | .portDetectPoll f laser light => Sys2Proof.Machine.execPortDetectPoll f laser light s
  | .equaliseDone f locked => Sys2Proof.Machine.execEqualiseDone f locked s
  | .alignDone f aligned peerNarrow => Sys2Proof.Machine.execAlignDone f aligned peerNarrow s
  | .exchangeDone f block => Sys2Proof.Machine.execExchangeDone f block s
  | .trainingTimeout f => Sys2Proof.Machine.execTrainingTimeout f s
  | .laneLockLoss f lane => Sys2Proof.Machine.execLaneLockLoss f lane s
  | .retrainDone f passed peerNarrow block => Sys2Proof.Machine.execRetrainDone f passed peerNarrow block s
  | .flitCrcFail f lane uncorrectable => Sys2Proof.Machine.execFlitCrcFail f lane uncorrectable s
  | .flitForward f flit tbl => Sys2Proof.Machine.execFlitForward f flit s tbl
  | .fabricWriteReceive f flit tbl => Sys2Proof.Machine.execFabricWriteReceive f flit s tbl
  | .fabricAddReceive f flit tbl => Sys2Proof.Machine.execFabricAddReceive f flit s tbl
  | .receiptReceive f flit => Sys2Proof.Machine.execReceiptReceive f flit s
  | .linkControlBlockReceive f block => Sys2Proof.Machine.execLinkControlBlockReceive f block s
  | .lockstepDigestReceive f dg => Sys2Proof.Machine.execLockstepDigestReceive f dg s
  | .linkControlBlockSend f => Sys2Proof.Machine.execLinkControlBlockSend f s
  | .watermarkSilence f => Sys2Proof.Machine.execWatermarkSilence f s
  | .creditStallTimeout f vl => Sys2Proof.Machine.execCreditStallTimeout f vl s
  | .receiptTimeout entry => Sys2Proof.Machine.execReceiptTimeout entry s
  | .timeSourceTimeout => Sys2Proof.Machine.execTimeSourceTimeout s
  | .marginTelemetry sample => Sys2Proof.Machine.execMarginTelemetry sample s
  | .edgeRemoteWrite f src parity tbl => Sys2Proof.Machine.execEdgeRemoteWrite f src parity s tbl
  | .ringDescriptorStart r errs lines tbl => Sys2Proof.Machine.execRingDescriptorStart r errs s lines tbl
  | .strokeOverrunSummary p => Sys2Proof.Machine.execStrokeOverrunSummary p s
  | .staleTokenEvent p => Sys2Proof.Machine.execStaleTokenEvent p s
  | .orphanSendEvent p => Sys2Proof.Machine.execOrphanSendEvent p s
  | .windowDropEvent => Sys2Proof.Machine.execWindowDropEvent s
  | .correctedErrorEvent => Sys2Proof.Machine.execCorrectedErrorEvent s
  | .heartbeatMiss => Sys2Proof.Machine.execHeartbeatMiss s
  | .quillRestartDone => Sys2Proof.Machine.execQuillRestartDone s
  | .strokeWatchExpiry p cal => Sys2Proof.Machine.execStrokeWatchExpiry p cal s
  | .holdWatchExpiry p cal => Sys2Proof.Machine.execHoldWatchExpiry p cal s
  | .driftSample k => Sys2Proof.Machine.execDriftSample k s
  | .driftCompare k runA runB eccA eccB => Sys2Proof.Machine.execDriftCompare k runA runB s eccA eccB
  | .patrolPatternStart core => Sys2Proof.Machine.execPatrolPatternStart core s
  | .patrolPatternEnd core pass crc ecc => Sys2Proof.Machine.execPatrolPatternEnd core pass crc s ecc
  | .coreRemap core => Sys2Proof.Machine.execCoreRemap core s
  | .contextRestart c lines => Sys2Proof.Machine.execContextRestart c s lines
  | .checkpointCommit c find split => Sys2Proof.Machine.execCheckpointCommit c s find split
  | .checkpointMirrorDone job ok => Sys2Proof.Machine.execCheckpointMirrorDone job ok s
  | .healthHourly => Sys2Proof.Machine.execHealthHourly s
  | .referenceLoss cause us cal => Sys2Proof.Machine.execReferenceLoss cause us cal s
  | .referenceRestored ppb => Sys2Proof.Machine.execReferenceRestored ppb s
  | .powerCapTick watts => Sys2Proof.Machine.execPowerCapTick watts s
  | .thermalSample sensor temp => Sys2Proof.Machine.execThermalSample sensor temp s
  | .thermalThrottleStep => Sys2Proof.Machine.execThermalThrottleStep s
  | .thermalHoldRelease east cal => Sys2Proof.Machine.execThermalHoldRelease east cal s
  | .startup boot => Sys2Proof.Machine.execStartup boot s
  | .recoveryGo => Sys2Proof.Machine.execRecoveryGo s
  | .recoveryTimeout => Sys2Proof.Machine.execRecoveryTimeout s
  | .inputRise mv => Sys2Proof.Machine.execInputRise mv s
  | .inputLowWarn mv => Sys2Proof.Machine.execInputLowWarn mv s
  | .inputUndervoltageOff mv => Sys2Proof.Machine.execInputUndervoltageOff mv s
  | .inputOvervoltageOff mv => Sys2Proof.Machine.execInputOvervoltageOff mv s
  | .overcurrentLatch ma => Sys2Proof.Machine.execOvercurrentLatch ma s
  | .latchClear mv => Sys2Proof.Machine.execLatchClear mv s
  | .peakLimit ma watts cycles => Sys2Proof.Machine.execPeakLimit ma watts cycles s
  | .meterPeriodicReading mv ma => Sys2Proof.Machine.execMeterPeriodicReading mv ma s
  | .meterSealOpen => Sys2Proof.Machine.execMeterSealOpen s
  | .meterReseal ok => Sys2Proof.Machine.execMeterReseal ok s
  | .meterFwUpdate version ok => Sys2Proof.Machine.execMeterFwUpdate version ok s
  | .meterSelfFault => Sys2Proof.Machine.execMeterSelfFault s
  | .meterNoAnswer => Sys2Proof.Machine.execMeterNoAnswer s
  | .emRefresh => Sys2Proof.Machine.execEmRefresh s
  | .inputReturnToRange mv => Sys2Proof.Machine.execInputReturnToRange mv s
  | .inputAboveRange mv => Sys2Proof.Machine.execInputAboveRange mv s
  | .domainSupplyFailure k cal => Sys2Proof.Machine.execDomainSupplyFailure k cal s
  | .supplyOutOfTolerance r wide cal => Sys2Proof.Machine.execSupplyOutOfTolerance r wide cal s
  | .dormantHostInterfaceOff => Sys2Proof.Machine.execDormantHostInterfaceOff s
  | .fwCommitWriteDone => Sys2Proof.Machine.execFwCommitWriteDone s
  | .restoreMirrorCopyDone job image => Sys2Proof.Machine.execRestoreMirrorCopyDone job image s
  | .hostReadCompletion core data poisoned => Sys2Proof.Machine.execHostReadCompletion core data poisoned s
  | .pcieConfigWrite fn w => Sys2Proof.Machine.execPcieConfigWrite fn w s
  | .pcieLinkStateChange st ideFail => Sys2Proof.Machine.execPcieLinkStateChange st s ideFail

end Sys2Proof.Machine
end

