-- ==== Sys2Proof/Machine/Areas.lean ====
section
/-!
DEFINITION. The areas of the state, one for each of its fields, what it means that they stay as they are, and which of them each
command can change.
-/
namespace Sys2Proof.Machine

/-- The areas of the state: one for each field of `State`. -/
inductive Area where
  | pending | cores | clusters | parts | ctxs | store | bulk | host | dev | quill | fabric | module_ | net | time | out | free
  deriving DecidableEq, Repr

/-- An area is the same in two states. -/
def Area.same (a : Area) (s t : State) : Prop :=
  match a with
  | .pending => t.pending = s.pending
  | .cores => t.cores = s.cores
  | .clusters => t.clusters = s.clusters
  | .parts => t.parts = s.parts
  | .ctxs => t.ctxs = s.ctxs
  | .store => t.store = s.store
  | .bulk => t.bulk = s.bulk
  | .host => t.host = s.host
  | .dev => t.dev = s.dev
  | .quill => t.quill = s.quill
  | .fabric => t.fabric = s.fabric
  | .module_ => t.module_ = s.module_
  | .net => t.net = s.net
  | .time => t.time = s.time
  | .out => t.out = s.out
  | .free => t.free = s.free

/-- Every area but those listed is the same. -/
def keepsBut (l : List Area) (s t : State) : Prop := ∀ a : Area, a ∉ l → a.same s t

/-- The areas of the state that a command can change: whatever else it finds, the others stay as they are. -/
def touches (c : Instr) : List Area :=
  match c with
  | .illegal .. | .alu .. | .addi .. | .andi .. | .ori .. | .shi .. | .lui .. | .ldw .. | .stw .. | .beq .. | .bne ..
  | .blt .. | .bge .. | .jmp .. | .jr .. | .loop .. | .sectRuledNext .. | .sectRuledAt .. | .sectRuledHold .. | .sectFree ..
  | .halt .. | .mma .. | .mmaDelayedStart .. | .drain .. | .accSave .. | .accLoad .. | .vld .. | .vst .. | .vfp ..
  | .vint .. | .vcvt .. | .mxq .. | .vred .. | .vtr .. | .vmov .. | .xfer .. | .xferAccess .. | .send .. | .recv ..
  | .recvWake .. | .select .. | .selectSelection .. | .qstat .. | .steer .. | .syncSet .. | .syncAdd .. | .syncWaitGe ..
  | .syncRadd .. | .landwait .. | .steerFire .. | .freeTokenArrival .. =>
    [.cores, .clusters, .parts, .ctxs, .store, .host, .quill, .fabric, .module_, .net, .out]
  | .rdsys .. =>
    [.cores, .clusters, .parts, .ctxs, .store, .host, .quill, .fabric, .module_, .net, .out, .free]
  | .waitGeWake .. | .landwaitWake .. =>
    [.cores]
  | .strokeEdge .. | .holdRelease .. | .tokenDelivery .. | .steerInputDelivery .. | .contributionArrival .. | .mcRequest ..
  | .startContext .. | .stopContextAtEdge .. | .stopContextAtQuiet .. | .bistLogic .. | .bistInkwellMarch ..
  | .bistLpddrQuick .. | .bistLpddrFull .. | .replaySuspects .. | .suspectRunEnd .. | .powerStateRun .. | .powerStateIdle ..
  | .powerStateRetain .. | .powerStateDormant .. | .resetPartition .. | .strokeWatchExpiry .. | .holdWatchExpiry ..
  | .contextRestart .. | .checkpointCommit .. | .referenceLoss .. | .thermalHoldRelease .. | .domainSupplyFailure ..
  | .supplyOutOfTolerance .. =>
    [.cores, .clusters, .parts, .ctxs, .store, .bulk, .host, .quill, .fabric, .module_, .net, .out]
  | .crossingEmptyStall .. | .crossingFullStall .. =>
    [.parts]
  | .crossingResume .. | .creditReturn .. | .closureNotice .. =>
    [.cores, .parts, .net]
  | .droopStretch .. | .emLogIndexWrite .. | .peakLimit .. =>
    [.module_]
  | .deadlockScan .. | .quillDeadlockPoll .. =>
    [.quill]
  | .deadlockDetected .. | .combiningRelease .. =>
    [.cores, .clusters, .parts, .ctxs, .store, .host, .quill, .fabric, .module_, .out]
  | .mgmtSyncOp .. =>
    [.clusters, .fabric, .net]
  | .landingSlotWrite .. =>
    [.cores, .clusters, .store, .quill, .fabric]
  | .scrubAccess .. =>
    [.clusters, .store, .quill]
  | .mcReadDataReturn .. | .positionWrite .. | .slotCmdFork .. | .slotCmdRewind .. | .slotCmdAccept .. | .mcWckCheck ..
  | .bar2Read .. | .bar2Write .. | .dmaTransferDone .. | .domainOn .. | .domainOff .. | .domainRampDone ..
  | .driftCompare .. =>
    [.cores, .clusters, .parts, .ctxs, .store, .bulk, .host, .quill, .fabric, .module_, .out]
  | .mcRefresh .. | .mcLinkPoll .. =>
    [.bulk]
  | .mcScrubRead .. | .seqFork .. | .seqRewind .. | .seqAccept .. | .seqClose .. =>
    [.store, .bulk, .host, .quill, .module_, .out]
  | .sqTailDoorbell .. | .cqHeadDoorbell .. | .qpEnable .. | .qpDisable .. | .qpDeactivate .. | .eventLostClear ..
  | .d3hotEntry .. | .ideKmKeySetup .. | .pcieLinkStateChange .. =>
    [.host]
  | .eventRingHeadDoorbell .. | .eventRingEnable .. | .deferredCompletion .. | .msixMessage .. | .bar0Reject ..
  | .d0Return .. | .getInfo .. | .getDistances .. | .setEventMask .. | .getWatermark .. | .dma .. | .syncOpRead ..
  | .syncOpWaitGe .. | .syncOpWaitEnd .. | .getMoraine .. | .getHealth .. | .attest .. | .recordRead ..
  | .mctpControlMessage .. | .i3cAddressAssign .. | .checkpointMirrorDone .. =>
    [.host, .out]
  | .commandFetch .. | .hello .. | .spdmRequest .. =>
    [.host, .out, .free]
  | .hostFunctionReset .. =>
    [.ctxs, .host, .quill, .module_]
  | .registerWrite .. =>
    [.cores, .clusters, .parts, .ctxs, .store, .bulk, .host, .dev, .quill, .fabric, .module_, .net, .out, .free]
  | .nwStrokeLoRead .. =>
    [.parts, .out]
  | .qlTdcLoRead .. =>
    [.ctxs, .out]
  | .ckTimeLoRead | .emEnergyLoRead | .emTimeLoRead =>
    [.module_, .out]
  | .fbIdWrite .. =>
    [.ctxs, .host, .dev, .quill, .fabric, .module_, .out]
  | .fbPortExpectWrite .. | .laneClear .. | .laneLockLoss .. | .flitCrcFail .. | .watermarkSilence .. | .windowDropEvent =>
    [.host, .quill, .fabric, .module_, .out]
  | .fbRingEnable .. | .portDetectPoll .. | .creditStallTimeout .. | .timeSourceTimeout =>
    [.fabric]
  | .setPartitionMode .. =>
    [.clusters, .parts, .ctxs, .store, .bulk, .host, .dev, .quill, .module_, .out]
  | .setModes .. =>
    [.clusters, .parts, .store, .host, .quill, .out]
  | .setThresholds .. | .meterRead .. | .meterStampStart .. | .meterStampEnd .. | .latchClear .. | .meterPeriodicReading ..
  | .meterSealOpen | .meterReseal .. | .meterFwUpdate .. | .meterSelfFault =>
    [.host, .quill, .module_, .out, .free]
  | .loadScroll .. =>
    [.parts, .ctxs, .host, .out]
  | .scrollReadComplete .. =>
    [.parts, .ctxs, .store, .host, .out]
  | .checkpoint .. | .checkpointTimeout .. | .restore .. | .selectVariant .. | .pcieConfigWrite .. =>
    [.ctxs, .host, .out]
  | .reconfigureDrain .. | .reconfigureDiscard .. =>
    [.parts, .host, .out]
  | .seqOpen .. =>
    [.store, .bulk, .host, .out]
  | .syncOpSet .. | .syncOpAdd .. | .receiptReceive .. =>
    [.clusters, .host, .fabric, .out]
  | .openWindow .. | .closeWindow .. | .setRoute .. | .portEnable .. | .portRetrain .. =>
    [.host, .fabric, .out]
  | .portDisable .. | .equaliseDone .. | .alignDone .. | .exchangeDone .. | .trainingTimeout .. | .retrainDone ..
  | .lockstepDigestReceive .. =>
    [.ctxs, .host, .quill, .fabric, .module_, .out]
  | .bistDone .. =>
    [.cores, .clusters, .parts, .ctxs, .store, .bulk, .host, .quill, .fabric, .module_, .out, .free]
  | .loadFirnPatterns .. | .correctedErrorEvent | .quillRestartDone | .healthHourly .. | .referenceRestored ..
  | .inputLowWarn .. | .meterNoAnswer | .emRefresh | .inputReturnToRange .. | .inputAboveRange .. =>
    [.host, .quill, .module_, .out]
  | .returnToService .. =>
    [.cores, .host, .quill, .fabric, .module_, .out]
  | .setPowerCap .. | .fwStage .. | .fwCommit .. | .fwCommitWriteDone =>
    [.host, .module_, .out]
  | .fwCommitReset | .flitForward .. | .fabricWriteReceive .. | .fabricAddReceive .. | .edgeRemoteWrite ..
  | .ringDescriptorStart .. | .heartbeatMiss | .thermalSample .. | .recoveryTimeout .. | .inputRise ..
  | .inputUndervoltageOff .. | .inputOvervoltageOff .. | .overcurrentLatch .. =>
    [.cores, .clusters, .parts, .ctxs, .store, .bulk, .host, .dev, .quill, .fabric, .module_, .net, .time, .out, .free]
  | .lockstepPair .. =>
    [.host, .quill, .fabric, .out]
  | .lockstepPairTimeout .. =>
    [.ctxs, .host, .quill, .out]
  | .lockstepRelease .. =>
    [.ctxs, .host, .quill, .fabric, .out]
  | .debugDump .. =>
    [.cores, .clusters, .store, .bulk, .host, .quill, .module_, .out]
  | .mctpCommandRequest .. | .recoveryGo =>
    [.cores, .clusters, .parts, .ctxs, .store, .bulk, .host, .quill, .fabric, .module_, .net, .out, .free]
  | .doeDiscovery .. =>
    [.out]
  | .spdmGetMeasurements .. =>
    [.out, .free]
  | .linkControlBlockReceive .. =>
    [.host, .quill, .fabric, .module_, .time, .out]
  | .linkControlBlockSend .. =>
    [.fabric, .out]
  | .receiptTimeout .. | .patrolPatternEnd .. =>
    [.cores, .parts, .ctxs, .store, .host, .quill, .fabric, .module_, .out]
  | .marginTelemetry .. =>
    [.host, .quill, .fabric, .module_, .out, .free]
  | .strokeOverrunSummary .. | .staleTokenEvent .. | .orphanSendEvent .. =>
    [.parts, .host, .quill, .module_, .out]
  | .driftSample .. =>
    [.cores, .store, .host, .quill, .module_, .out]
  | .patrolPatternStart .. =>
    [.cores, .store, .quill]
  | .coreRemap .. =>
    [.cores, .clusters, .host, .quill, .module_, .out]
  | .powerCapTick .. | .thermalThrottleStep =>
    [.parts, .module_]
  | .startup .. =>
    [.cores, .clusters, .parts, .ctxs, .store, .bulk, .host, .dev, .quill, .fabric, .module_, .out]
  | .dormantHostInterfaceOff =>
    [.host, .quill, .module_]
  | .restoreMirrorCopyDone .. =>
    [.ctxs, .store, .host, .out]
  | .hostReadCompletion .. =>
    [.bulk, .host]

end Sys2Proof.Machine
end

