-- ==== Sys2Proof/Safety.lean ====
section
/-!
DEFINITION. What counts as a safe run (every step answers a next state, the storage stays in its canonical form), and the words
in which statements about commands are put: the areas of the state, a core that is clear to issue, what a core instruction
leaves as it was, a host command that is admitted and its completion.
-/
namespace Sys2Proof.Machine

/-- The outcome is a next state. -/
def goesOn (o : Host.Outcome State Fault Refusal) : Bool :=
  match o with
  | .next _ => true
  | .fault _ => false
  | .refused _ => false

/-- A list of unit numbers rises strictly. -/
def risingFrom (lo : Nat) (l : List Nat) : Bool :=
  match l with
  | [] => true
  | u :: r => decide (lo ≤ u) && risingFrom (u + 1) r

/-- The storage is canonical: memory, blots and FILL bits each in their one form. -/
def Store.wf (m : Store) : Bool := Memory.wf m.mem && risingFrom 0 m.blots && risingFrom 0 m.fills

/-! ### Core instructions -/

/-- What an instruction asks of issue: sources and engine, no error of its own. -/
def needs (reads vreads : List Nat) (u : Unit_) : Plan := { reads := reads, vreads := vreads, unit := u, errs := [] }

/-- The cycle in which an instruction with these needs issues (R148, R149). -/
def issueCycle (s : State) (n : Nat) (p : Plan) : Nat := (s.core n).readyAt p (s.issueBase n)

/-- Nothing of core n's own happens by cycle t: no ACC_LOAD finds a bad anchor (R97, R98), no descriptor has been read (R148),
nothing enters a channel, a queue or a pairing buffer (R269, R277, R318, R406). -/
def quietBy (s : State) (n t : Nat) : Bool :=
  match s.nextOwn n with
  | some e => decide (t < e.1)
  | none => true

/-- A core issues its next instruction now, with no error that every instruction can raise: it runs and does not pause, the cycle
of the issue has come (R183), nothing of its own happens by then and no access of its
transfer errs in that cycle (R148, R166), the fetch and the register read find nothing (R136, R165), it has not run past instruction 4,095 (R165), and in a ruled section every source and the engine are ready (R149). -/
def clearToIssue (s : State) (a : Issue) (p : Plan) : Bool :=
  s.canIssue a.core && s.cycleDue a.core (issueCycle s a.core p) && quietBy s a.core (issueCycle s a.core p) &&
  (s.accessErrs a.core (issueCycle s a.core p)).isEmpty && decide (a.fetch = .ok) && !a.sregParity && !(s.core a.core).ctl.pastEnd &&
  (decide ((s.core a.core).ctl.st ≠ .ruled) || decide (issueCycle s a.core p ≤ s.issueBase a.core))

/-- Nothing but core n changed, and of core n only registers and control. -/
def onlyCore (s t : State) (n : Nat) : Prop :=
  keepsBut [.cores] s t ∧ (∀ m, m ≠ n → t.core m = s.core m) ∧ (t.core n).eng = (s.core n).eng ∧
  (t.core n).errs = (s.core n).errs ∧ (t.core n).steer = (s.core n).steer ∧ (t.core n).qs = (s.core n).qs ∧
  (t.core n).te = (s.core n).te ∧ (t.core n).ls = (s.core n).ls

/-- Of core n's control, only the instruction index, the cycle of the next issue and the cycles from which registers can be used
changed. -/
def goesTo (s t : State) (n : Nat) (pc : BitVec 12) : Prop :=
  ∃ cyc past sready, (t.core n).ctl =
    { (s.core n).ctl with pc := pc, cyc := cyc, pastEnd := past, sready := sready }

/-- The scalar registers of core n with register r written (s0 discards the write, R131). -/
def writesS (s t : State) (n r : Nat) (v : Word) (b : Bool) : Prop :=
  (∀ q, (t.core n).regs.s q = if q = r ∧ r ≠ 0 then v else (s.core n).regs.s q) ∧
  (∀ q, (t.core n).regs.sb q = if q = r ∧ r ≠ 0 then b else (s.core n).regs.sb q) ∧
  (t.core n).regs.vreg = (s.core n).regs.vreg ∧ (t.core n).regs.vblot = (s.core n).regs.vblot ∧
  (t.core n).regs.istore = (s.core n).regs.istore

/-- An instruction whose one effect is on core n: a register, and the next instruction. -/
def scalarEffect (s t : State) (n r : Nat) (v : Word) (b : Bool) (pc : BitVec 12) : Prop :=
  onlyCore s t n ∧ writesS s t n r v b ∧ goesTo s t n pc

/-- The same with no register written. -/
def branchEffect (s t : State) (n : Nat) (pc : BitVec 12) : Prop :=
  onlyCore s t n ∧ (t.core n).regs = (s.core n).regs ∧ goesTo s t n pc

/-- The next instruction index. -/
def nextPc (s : State) (n : Nat) : BitVec 12 := (s.core n).ctl.pc + 1

/-- The ALU operations of R142 by FN, on two operands. -/
def aluTable (x y : Word) : List (Byte × Word) :=
  [(0, x + y), (1, x - y), (2, x &&& y), (3, x ||| y), (4, x ^^^ y), (5, x <<< (y.toNat % 32)), (6, x >>> (y.toNat % 32)),
   (7, x.sshiftRight (y.toNat % 32)), (8, x * y), (9, BitVec.ofNat 32 (x.toNat * y.toNat / 2 ^ 32)),
   (10, if x.toInt < y.toInt then 1 else 0), (11, if x.toNat < y.toNat then 1 else 0),
   (12, if x.toInt < y.toInt then x else y), (13, if x.toInt < y.toInt then y else x)]

/-- The forms of SHI (R142), on an operand and a shift of less than 32. -/
def shiTable (x : Word) (n : Nat) : List (Nat × Word) := [(0, x <<< n), (1, x >>> n), (2, x.sshiftRight n)]

/-- Nothing but core n changed, and of core n nothing outside its registers, control and engines. -/
def onlyEngines (s t : State) (n : Nat) : Prop :=
  keepsBut [.cores] s t ∧ (∀ m, m ≠ n → t.core m = s.core m) ∧ (t.core n).errs = (s.core n).errs ∧
  (t.core n).steer = (s.core n).steer ∧ (t.core n).qs = (s.core n).qs ∧ (t.core n).te = (s.core n).te

/-- Of core n's control, only the instruction index and the cycles of issue and of results changed. -/
def goesOnAt (s t : State) (n : Nat) (pc : BitVec 12) : Prop :=
  ∃ cyc past vready, (t.core n).ctl = { (s.core n).ctl with pc := pc, cyc := cyc, pastEnd := past, vready := vready }

/-- A vector operation of core n: register vd takes a value and a blot in each of its 32 lanes, CO_VE_FLAGS takes further flags,
the engine is occupied, the write is noted until it is made, and no other register changes. -/
def vectorEffect (s t : State) (n vd : Nat) (val : Nat → Word) (blot : Nat → Bool) (flags : BitVec 6) : Prop :=
  onlyEngines s t n ∧ (∃ w, (t.core n).ls = { (s.core n).ls with vwrites := w }) ∧ goesOnAt s t n ((s.core n).ctl.pc + 1) ∧
  (t.core n).regs.sreg = (s.core n).regs.sreg ∧ (t.core n).regs.sblot = (s.core n).regs.sblot ∧
  (t.core n).regs.istore = (s.core n).regs.istore ∧
  (∀ v l, l < 32 → (t.core n).regs.v v l = if v = vd then val l else (s.core n).regs.v v l) ∧
  (∀ v l, l < 32 → (t.core n).regs.vb v l = if v = vd then blot l else (s.core n).regs.vb v l) ∧
  ∃ ve vt, (t.core n).eng =
    { (s.core n).eng with veFlags := (s.core n).eng.veFlags ||| flags, veFree := ve, vtFree := vt }

/-- The flags of 32 lanes together (R127). -/
def laneFlags (f : Nat → LaneResult) (b : Nat → Bool) : BitVec 6 :=
  (List.range 32).foldl (fun g l => g ||| (f l).flags (b l)) 0

/-- The integer operations of VINT by FN (R103), one lane. -/
def vintTable (a b : Word) : List (Nat × Word × Bool) :=
  let sat (x : Int) : Word × Bool :=
    (BitVec.ofInt 32 (max (-2147483648) (min 2147483647 x)), decide (x < -2147483648 ∨ 2147483647 < x))
  [(0, a + b, false), (1, a - b, false), (2, a * b, false), (3, sat (a.toInt + b.toInt)), (4, sat (a.toInt - b.toInt))]

/-! ### Messages under way -/

/-- A credit on its way to a free channel of core n. -/
def isCredit (n ch : Nat) (m : NetMsg) : Bool :=
  match m with
  | .credit c h _ => c == n && h == ch
  | _ => false

/-- A closure notice on its way to a free channel of core n. -/
def isNotice (n ch : Nat) (m : NetMsg) : Bool :=
  match m with
  | .notice c h => c == n && h == ch
  | _ => false

/-- A token of a free channel of core n, to a combining queue or not. -/
def isFreeToken (n ch : Nat) (combining : Bool) (m : NetMsg) : Bool :=
  match m with
  | .freeTok c h fd _ => c == n && h == ch && (fdestKind fd == combining)
  | _ => false

/-- A host command with no entry left over from a reset may start in s while the Quill runs (R533, R534, R565, R575); `w` is s with
the command's queue entry taken, on which the command acts. -/
abbrev startsIn (s : State) (h : Hdr) (c : CmdSpec) (w : State) : Prop :=
  s.quill.running = true ∧ s.leftFor h c = none ∧ s.mayStart h c = true ∧ w = s.claim h c

end Sys2Proof.Machine
end

