-- ==== Sys2Proof/Certificates/Slice0/Obligations.lean ====
section
/-!
DEFINITION. The statements.
-/
open Sys2Proof Sys2Proof.Machine

/-- ALU, ADDI, ANDI, ORI, SHI and LUI write their result to rd and nothing else -/
def Obligations.ScalarResults : Prop :=
  ∀ (s : State) (a : Issue) (rd rs1 rs2 : BitVec 6) (imm : BitVec 14) (big : BitVec 20) (fn : Byte) (v : Word),
    let n := a.core.val
    let x := (s.core n).regs.s rs1.toNat
    let y := (s.core n).regs.s rs2.toNat
    let bx := (s.core n).regs.sb rs1.toNat
    let b2 := bx || (s.core n).regs.sb rs2.toNat
    let i := imm.signExtend 32
    (clearToIssue s a (needs [rs1.toNat, rs2.toNat] [] .scalar) = true → (fn, v) ∈ aluTable x y →
      ∃ t, exec (.alu a rd rs1 rs2 fn) s = .next t ∧ scalarEffect s t n rd.toNat v b2 (nextPc s n)) ∧
    (clearToIssue s a (needs [rs1.toNat] [] .scalar) = true →
      (∃ t, exec (.addi a rd rs1 imm) s = .next t ∧ scalarEffect s t n rd.toNat (x + i) bx (nextPc s n)) ∧
      (∃ t, exec (.andi a rd rs1 imm) s = .next t ∧ scalarEffect s t n rd.toNat (x &&& i) bx (nextPc s n)) ∧
      (∃ t, exec (.ori a rd rs1 imm) s = .next t ∧ scalarEffect s t n rd.toNat (x ||| i) bx (nextPc s n)) ∧
      ((imm.toNat / 4096, v) ∈ shiTable x (imm.toNat % 32) →
        ∃ t, exec (.shi a rd rs1 imm) s = .next t ∧ scalarEffect s t n rd.toNat v bx (nextPc s n))) ∧
    (clearToIssue s a (needs [] [] .scalar) = true →
      ∃ t, exec (.lui a rd big) s = .next t ∧
        scalarEffect s t n rd.toNat (big.setWidth 32 <<< 12) false (nextPc s n))

/-- LDW reads the local store word at rs1 + imm14 -/
def Obligations.LoadWordResult : Prop :=
  ∀ (s : State) (a : Issue) (rd rs1 : BitVec 6) (imm : BitVec 14) (ls : Ecc),
    let n := a.core.val
    let ad := ((s.core n).regs.s rs1.toNat + imm.signExtend 32).toNat
    let c := s.after n (issueCycle s n (needs [rs1.toNat] [] .scalar)) 1
    let u := s.lsEcc n c ad ls
    let m := u.lsView n c
    clearToIssue s a (needs [rs1.toNat] [] .scalar) = true → (s.core n).regs.sb rs1.toNat = false →
    ad < 0x40000 → ad % 4 = 0 →
      ∃ t, exec (.ldw a rd rs1 imm ls) s = .next t ∧
        scalarEffect u t n rd.toNat (m.word (lsBase n + ad)) (m.blotRange (lsBase n + ad) 4) (nextPc u n) ∧
        (ls = .ok → u = s)

/-- STW writes four bytes of its own local store in cycle issue + 1, and nothing else -/
def Obligations.StoreWordFrame : Prop :=
  ∀ (s : State) (a : Issue) (rd rs1 : BitVec 6) (imm : BitVec 14),
    let n := a.core.val
    let ad := ((s.core n).regs.s rs1.toNat + imm.signExtend 32).toNat
    let v := (s.core n).regs.s rd.toNat
    let p := needs [rs1.toNat, rd.toNat] [] .scalar
    let c := s.after n (issueCycle s n p) 1
    clearToIssue s a p = true →
    (s.core n).regs.sb rs1.toNat = false →
    ad < 0x40000 →
    ad % 4 = 0 →
    ∃ t, exec (.stw a rd rs1 imm) s = .next t ∧ (t.core n).regs = (s.core n).regs ∧ goesTo s t n (nextPc s n) ∧
      (∀ m, m ≠ n → t.core m = s.core m) ∧ (t.core n).eng = (s.core n).eng ∧ (t.core n).te = (s.core n).te ∧
      t.store.fills = s.store.fills ∧ keepsBut [.cores, .store] s t ∧
      { cycle := c, port := 1, addr := ad, bytes := toLe v.toNat 4, blot := (s.core n).regs.sb rd.toNat } ∈ (t.core n).ls.flight ∧
      ((∀ w ∈ (s.core n).ls.flight, w.cycle < c) →
        (∀ b, (t.lsFinal n).byte b = if lsBase n + ad ≤ b ∧ b < lsBase n + ad + 4
          then BitVec.ofNat 8 (v.toNat >>> (8 * (b - (lsBase n + ad)))) else (s.lsFinal n).byte b) ∧
        (∀ b, (t.lsFinal n).blotAt b = ((s.lsFinal n).blotAt b ||
          ((s.core n).regs.sb rd.toNat && decide (b / 32 = (lsBase n + ad) / 32)))))

/-- BEQ, BNE, BLT, BGE, JMP, JR and LOOP go where R142 says and change no other register -/
def Obligations.BranchResults : Prop :=
  ∀ (s : State) (a : Issue) (rs1 rs2 : BitVec 6) (target : BitVec 12),
    let n := a.core.val
    let x := (s.core n).regs.s rs1.toNat
    let y := (s.core n).regs.s rs2.toNat
    (clearToIssue s a (needs [rs1.toNat, rs2.toNat] [] .scalar) = true →
      (s.core n).regs.sb rs1.toNat = false ∧ (s.core n).regs.sb rs2.toNat = false →
      (∃ t, exec (.beq a rs1 rs2 target) s = .next t ∧ branchEffect s t n (if x = y then target else nextPc s n)) ∧
      (∃ t, exec (.bne a rs1 rs2 target) s = .next t ∧ branchEffect s t n (if x = y then nextPc s n else target)) ∧
      (∃ t, exec (.blt a rs1 rs2 target) s = .next t ∧
        branchEffect s t n (if x.toInt < y.toInt then target else nextPc s n)) ∧
      (∃ t, exec (.bge a rs1 rs2 target) s = .next t ∧
        branchEffect s t n (if x.toInt < y.toInt then nextPc s n else target))) ∧
    (clearToIssue s a (needs [] [] .scalar) = true →
      ∃ t, exec (.jmp a rs1 target) s = .next t ∧
        scalarEffect s t n rs1.toNat (BitVec.ofNat 32 ((s.core n).ctl.pc.toNat + 1)) false target) ∧
    (clearToIssue s a (needs [rs2.toNat] [] .scalar) = true → (s.core n).regs.sb rs2.toNat = false →
      ∃ t, exec (.jr a rs2) s = .next t ∧ branchEffect s t n (y.setWidth 12)) ∧
    (clearToIssue s a (needs [rs1.toNat] [] .scalar) = true → (s.core n).regs.sb rs1.toNat = false →
      ∃ t, exec (.loop a rs1 target) s = .next t ∧
        scalarEffect s t n rs1.toNat (x - 1) false (if x = 1 then nextPc s n else target))

/-- RDSYS writes the system value of its code to rd -/
def Obligations.RdsysResult : Prop :=
  (∀ (s : State) (a : Issue) (rd : BitVec 6) (imm : BitVec 14) (x : Nat) (v : Word),
    let n := a.core.val
    clearToIssue s a (needs [] [] .scalar) = true →
    (s.core n).ctl.context = some x →
    (imm.toNat % 16, v) ∈ [(0, (s.ctxStroke x).setWidth 32), (1, (s.ctxStroke x >>> 32).setWidth 32),
      (3, (s.core n).ctl.lcluster.setWidth 32), (4, (s.core n).ctl.lcore.setWidth 32), (5, BitVec.ofNat 32 (x % 4)),
      (6, BitVec.ofNat 32 s.dev.gradeL), (7, s.dev.fbId.setWidth 32), (8, (s.core n).steer.roleEpoch.setWidth 32)] →
    ∃ t, exec (.rdsys a rd imm) s = .next t ∧ scalarEffect s t n rd.toNat v false (nextPc s n)) ∧
  (∀ (s : State) (a : Issue) (rd : BitVec 6) (imm : BitVec 14),
    let n := a.core.val
    clearToIssue s a (needs [] [] .scalar) = true →
    (s.core n).ctl.st = .ruled →
    imm.toNat % 16 = 2 →
    ∃ t, exec (.rdsys a rd imm) s = .next t ∧
      scalarEffect s t n rd.toNat (BitVec.ofNat 32 (issueCycle s n (needs [] [] .scalar) % 256)) false (nextPc s n)) ∧
  (∀ (s : State) (a : Issue) (rd : BitVec 6) (imm : BitVec 14),
    let n := a.core.val
    clearToIssue s a (needs [] [] .scalar) = true →
    (s.core n).ctl.st = .free →
    imm.toNat % 16 = 2 →
    (s.core n).ctl.skew.isSome = false ∨ s.issueBase n ≠ (s.core n).ctl.cyc →
    ∃ t x, exec (.rdsys a rd imm) s = .next t ∧ t.free = s.free + 1 ∧ x = s.freeNext.toNat % s.strokeLen (kOf n) ∧
      (t.core n).ctl.skew.isSome = true ∧
      scalarEffect (s.fixCycle n (issueCycle s n (needs [] [] .scalar)) x) t n rd.toNat (BitVec.ofNat 32 x) false (nextPc s n)) ∧
  (∀ (s : State) (a : Issue) (rd : BitVec 6) (imm : BitVec 14) (k : Nat),
    let n := a.core.val
    clearToIssue s a (needs [] [] .scalar) = true →
    (s.core n).ctl.st = .free →
    imm.toNat % 16 = 2 →
    (s.core n).ctl.skew = some k →
    s.issueBase n = (s.core n).ctl.cyc →
    ∃ t, exec (.rdsys a rd imm) s = .next t ∧
      scalarEffect s t n rd.toNat
        (BitVec.ofNat 32 ((issueCycle s n (needs [] [] .scalar) % 256 + k) % s.strokeLen (kOf n))) false (nextPc s n)) ∧
  (∀ (s : State) (a : Issue) (rd : BitVec 6) (imm : BitVec 14),
    let n := a.core.val
    clearToIssue s a (needs [] [] .scalar) = true →
    (s.core n).ctl.st = .free →
    9 ≤ imm.toNat % 16 →
    let t := issueCycle s n (needs [] [] .scalar)
    exec (.rdsys a rd imm) s = .next ((s.coreErrorIn n t CoreErrKind.illegalInstr.err).spent n t))

/-- SECT ends issue until its entry, or ends the ruled section -/
def Obligations.SectionResults : Prop :=
  (∀ (s : State) (a : Issue) (off : Byte),
    let n := a.core.val
    clearToIssue s a (needs [] [] .scalar) = true →
    s.halfRate (kOf n) = false ∨ off.toNat < 128 →
    (∃ t cyc past, exec (.sectRuledNext a off) s = .next t ∧ onlyCore s t n ∧ (t.core n).regs = (s.core n).regs ∧
      (t.core n).ctl = { (s.core n).ctl with pc := nextPc s n, cyc := cyc, pastEnd := past, st := .waitEntry,
                                             entry := some (.next off.toNat), hold := none, sectFn := 0 }) ∧
    (∃ t cyc past, exec (.sectFree a off) s = .next t ∧ onlyCore s t n ∧ (t.core n).regs = (s.core n).regs ∧
      (t.core n).ctl = { (s.core n).ctl with pc := nextPc s n, cyc := cyc, pastEnd := past, st := .free,
                                             skew := if (s.core n).ctl.st = .ruled then some 0 else (s.core n).ctl.skew })) ∧
  (∀ (s : State) (a : Issue) (rb : BitVec 6) (off : Byte),
    let n := a.core.val
    let now := (s.ctxStroke ((s.core n).ctl.context.getD 0)).setWidth 32
    let v := (s.core n).regs.s rb.toNat
    clearToIssue s a (needs [rb.toNat] [] .scalar) = true →
    s.halfRate (kOf n) = false ∨ off.toNat < 128 →
    (s.core n).regs.sb rb.toNat = false →
    0 < (v - now).toInt →
    ∃ t cyc past, exec (.sectRuledAt a rb off) s = .next t ∧ onlyCore s t n ∧ (t.core n).regs = (s.core n).regs ∧
      (t.core n).ctl = { (s.core n).ctl with pc := nextPc s n, cyc := cyc, pastEnd := past, st := .waitEntry,
                                             entry := some (.atStroke v off.toNat), hold := none, sectFn := 1 }) ∧
  (∀ (s : State) (a : Issue) (ra rb : BitVec 6) (off : Byte) (x : Counter),
    let n := a.core.val
    clearToIssue s a (needs [ra.toNat, rb.toNat] [] .scalar) = true →
    s.halfRate (kOf n) = false ∨ off.toNat < 128 →
    (s.core n).regs.sb ra.toNat = false ∧ (s.core n).regs.sb rb.toNat = false →
    s.counterOf n ((s.core n).regs.s ra.toNat) = some x →
    ∃ t cyc past, exec (.sectRuledHold a ra rb off) s = .next t ∧ onlyCore s t n ∧ (t.core n).regs = (s.core n).regs ∧
      (t.core n).ctl = { (s.core n).ctl with
        pc := nextPc s n, cyc := cyc, pastEnd := past, st := .waitEntry, entry := some (.hold off.toNat),
        hold := some { counter := x, value := (s.core n).regs.s rb.toNat }, sectFn := 2 })

/-- HALT ends the program, closes the inbound queues and notifies the producers -/
def Obligations.HaltResult : Prop :=
  (∀ (s : State) (a : Issue),
    let n := a.core.val
    clearToIssue s a (needs [] [] .scalar) = true →
    ∃ t, exec (.halt a) s = .next t ∧ (t.core n).regs = (s.core n).regs ∧ (t.core n).ctl.st = .halted ∧
      (t.core n).ctl.pc = nextPc s n ∧ (t.core n).qs = { (s.core n).qs with inq := [], haltClosed := true } ∧
      (∀ m, m ≠ n → t.core m = s.core m) ∧ keepsBut [.cores, .net] s t) ∧
  (∀ (s : State) (n : Nat),
    let t := s.haltQueues n
    t.net = s.net ++ (List.range 8).filterMap (fun q =>
        if (s.core n).qs.mode q = 2 then (s.producer n q).map (fun e => NetMsg.notice e.1 e.2) else none) ∧
      t.core n = { s.core n with qs := { (s.core n).qs with inq := [], haltClosed := true } } ∧
      (∀ m, m ≠ n → t.core m = s.core m) ∧ keepsBut [.cores, .net] s t)

/-- ILLEGAL raises ILLEGAL_INSTR; a core error freezes the core, undoes what its engines had not written and records itself -/
def Obligations.IllegalAndCoreErrors : Prop :=
  (∀ (s : State) (a : Issue),
    let n := a.core.val
    clearToIssue s a (needs [] [] .scalar) = true →
    (s.core n).ctl.st = .free →
    let t := issueCycle s n (needs [] [] .scalar)
    exec (.illegal a) s = .next ((s.coreErrorIn n t CoreErrKind.illegalInstr.err).spent n t)) ∧
  (∀ (s : State) (n c : Nat) (e : CoreError),
    let t := s.coreErrorIn n c e
    let pc := e.pc.getD (s.core n).ctl.pc
    3 ≤ e.kind.code →
    (s.core n).failedIn c = false →
    (t.core n).ctl.st = .frozen ∧ (t.core n).ctl.pc = (s.core n).ctl.pc ∧
      (t.core n).regs.sreg = (s.core n).regs.sreg ∧ (t.core n).regs.sblot = (s.core n).regs.sblot ∧
      (t.core n).regs.istore = (s.core n).regs.istore ∧
      (∀ v l, l < 32 → (∀ w ∈ (s.core n).ls.vwrites, w.reg = v → w.ready ≤ c + 1) →
        (t.core n).regs.v v l = (s.core n).regs.v v l ∧ (t.core n).regs.vb v l = (s.core n).regs.vb v l) ∧
      (t.core n).te.xfer = none ∧ (t.core n).eng.pendingMma = none ∧
      (∀ d ∈ (t.core n).due, d.cycle ≤ c) ∧
      (t.core n).errs = { (s.core n).errs with cycle := c, was := (s.core n).ctl.st, err :=
        if (s.core n).errs.err.valid then { (s.core n).errs.err with multi := true }
        else { valid := true, multi := (s.core n).errs.err.multi,
               fields := BitVec.ofNat 32 (e.kind.code * 2 ^ 26 + (e.detail % 256) * 2 ^ 18),
               addr := BitVec.ofNat 64 (e.addr.toNat % 2 ^ 32), pc := BitVec.ofNat 32 pc.toNat } }) ∧
  (∀ (s : State) (n c : Nat) (e : CoreError),
    let t := s.coreErrorIn n c e
    let pc := e.pc.getD (s.core n).ctl.pc
    let old := (s.core n).errs.err
    3 ≤ e.kind.code →
    (s.core n).failedIn c = true →
    keepsBut [.cores] s t ∧ (∀ m, m ≠ n → t.core m = s.core m) ∧
      t.core n = { s.core n with errs := { (s.core n).errs with err :=
        if e.kind.code < old.fields.toNat / 2 ^ 26 % 16 then
          { valid := true, multi := true, fields := BitVec.ofNat 32 (e.kind.code * 2 ^ 26 + (e.detail % 256) * 2 ^ 18),
            addr := BitVec.ofNat 64 (e.addr.toNat % 2 ^ 32), pc := BitVec.ofNat 32 pc.toNat }
        else { old with multi := true } } })

/-- VINT adds, subtracts and multiplies modulo 2^32, and saturates in ADDS and SUBS -/
def Obligations.VintResult : Prop :=
  ∀ (s : State) (a : Issue) (vd va vb vc : BitVec 5) (fn : BitVec 6),
    let n := a.core.val
    let r := (s.core n).regs
    let lane := fun l => (vintTable (r.v va.toNat l) (r.v vb.toNat l)).getD fn.toNat (0, 0, false)
    let blot := fun l => r.vb va.toNat l || r.vb vb.toNat l
    clearToIssue s a (needs [] [va.toNat, vb.toNat] .ve) = true →
    fn.toNat ≤ 4 →
    ∃ t, exec (.vint a vd va vb vc fn none) s = .next t ∧ vectorEffect s t n vd.toNat (fun l => (lane l).2.1) blot
      (laneFlags (fun l => { LaneResult.plain (lane l).2.1 with excess := (lane l).2.2 }) blot)

/-- VFP, VCVT, MXQ, VRED, VTR and VMOV write every lane of vd, their flags and nothing else -/
def Obligations.VectorResults : Prop :=
  (∀ (s : State) (a : Issue) (vd va vb vc : BitVec 5) (fn : BitVec 6) (f : VfpFn),
    let n := a.core.val
    let r := (s.core n).regs
    let lane := fun l => f.lane (laneVal (r.v va.toNat l)) (laneVal (r.v vb.toNat l)) (laneVal (r.v vc.toNat l)) (fn.getLsbD 5)
    let blot := fun l => (f.sources va.toNat vb.toNat vc.toNat).any (fun v => r.vb v l)
    clearToIssue s a (needs [] (f.sources va.toNat vb.toNat vc.toNat) .ve) = true →
    vfpFn (fn.toNat % 32) = some f →
    ∃ t, exec (.vfp a vd va vb vc fn none) s = .next t ∧ vectorEffect s t n vd.toNat
      (fun l => (lane l).bits)
      (blot)
      (laneFlags lane blot)) ∧
  (∀ (s : State) (a : Issue) (vd va vb vc : BitVec 5) (fn : BitVec 6),
    let n := a.core.val
    let r := (s.core n).regs
    let lane := fun l => (vcvtLane fn.toNat (r.v va.toNat l)).getD (LaneResult.plain 0)
    clearToIssue s a (needs [] [va.toNat] .ve) = true →
    fn.toNat ∈ [0, 1, 8, 9, 10] →
    ∃ t, exec (.vcvt a vd va vb vc fn none) s = .next t ∧ vectorEffect s t n vd.toNat
      (fun l => (lane l).bits)
      (fun l => r.vb va.toNat l)
      (laneFlags lane (fun l => r.vb va.toNat l))) ∧
  (∀ (s : State) (a : Issue) (vd va vb vc : BitVec 5) (fmt : BitVec 4) (g : Fmt),
    let n := a.core.val
    let r := (s.core n).regs
    let b := mxqBlock g ((List.range 32).map (fun l => laneVal (r.v va.toNat l)))
    clearToIssue s a (needs [] [va.toNat] .ve) = true →
    mxqFmt fmt.toNat = some g →
    ∃ t, exec (.mxq a vd va vb vc fmt false none) s = .next t ∧ vectorEffect s t n vd.toNat
      (fun l => b.lane g.width l)
      (fun _ => (List.range 32).any (r.vb va.toNat))
      (b.flags ||| (if (List.range 32).any (r.vb va.toNat) then 32 else 0))) ∧
  (∀ (s : State) (a : Issue) (vd va vb vc : BitVec 5) (fn : BitVec 6) (f : VfpFn),
    let n := a.core.val
    let r := (s.core n).regs
    let x := redTree f 5 ((List.range 32).map (fun l => LaneResult.plain (r.v va.toNat l))) 0
    clearToIssue s a (needs [] [va.toNat] .ve) = true →
    (fn.toNat, f) ∈ [(0, VfpFn.add), (1, VfpFn.max), (2, VfpFn.min)] →
    ∃ t, exec (.vred a vd va vb vc fn none) s = .next t ∧ vectorEffect s t n vd.toNat
      (fun _ => x.1)
      (fun _ => (List.range 32).any (r.vb va.toNat))
      (x.2 ||| (if (List.range 32).any (r.vb va.toNat) then 32 else 0))) ∧
  (∀ (s : State) (a : Issue) (vd va vb vc : BitVec 5) (fn : BitVec 6) (f : TrFn),
    let n := a.core.val
    let r := (s.core n).regs
    let lane := fun l => f.lane (r.v va.toNat l) (fn.getLsbD 5)
    clearToIssue s a (needs [] [va.toNat] .vt) = true →
    trFn (fn.toNat % 32) = some f →
    ∃ t, exec (.vtr a vd va vb vc fn none) s = .next t ∧ vectorEffect s t n vd.toNat
      (fun l => (lane l).bits)
      (fun l => r.vb va.toNat l)
      (laneFlags lane (fun l => r.vb va.toNat l))) ∧
  (∀ (s : State) (a : Issue) (vd va vb vc : BitVec 5),
    let n := a.core.val
    let r := (s.core n).regs
    clearToIssue s a (needs [va.toNat] [] .ve) = true →
    ∃ t, exec (.vmov a vd va vb vc 0 none) s = .next t ∧ vectorEffect s t n vd.toNat (fun _ => r.s va.toNat)
      (fun _ => r.sb va.toNat) (if r.sb va.toNat then 32 else 0)) ∧
  (∀ (s : State) (a : Issue) (vd va vb vc : BitVec 5),
    let n := a.core.val
    let r := (s.core n).regs
    clearToIssue s a (needs [] [va.toNat] .ve) = true →
    ∃ t, exec (.vmov a vd va vb vc 1 none) s = .next t ∧ onlyEngines s t n ∧
      writesS s t n vd.toNat (r.v va.toNat vb.toNat) (r.vb va.toNat vb.toNat) ∧
      (∃ ve vt, (t.core n).eng = { (s.core n).eng with veFree := ve, vtFree := vt }) ∧
      (t.core n).ls = (s.core n).ls ∧ goesTo s t n (nextPc s n))

/-- VLD loads 32 words of the own local store, VST stores them -/
def Obligations.VectorMemoryResults : Prop :=
  (∀ (s : State) (a : Issue) (vd : BitVec 5) (rs1 : BitVec 6) (imm : BitVec 14) (ls : List (Nat × Ecc)),
    let n := a.core.val
    let ad := ((s.core n).regs.s rs1.toNat + imm.signExtend 32).toNat
    let c := s.after n (issueCycle s n (needs [rs1.toNat] [] .ve)) 1
    let u := s.lsEccs n c ls
    let m := u.lsView n c
    clearToIssue s a (needs [rs1.toNat] [] .ve) = true →
    (s.core n).regs.sb rs1.toNat = false →
    ad < 0x40000 →
    ad % 128 = 0 →
    ∃ t, exec (.vld a vd rs1 imm ls) s = .next t ∧ vectorEffect u t n vd.toNat
      (fun l => m.word (lsBase n + ad + 4 * l)) (fun l => m.blotAt (lsBase n + ad + 4 * l))
      (if (List.range 32).any (fun l => m.blotAt (lsBase n + ad + 4 * l)) then 0x20 else 0)) ∧
  (∀ (s : State) (a : Issue) (vs : BitVec 5) (rs1 : BitVec 6) (imm : BitVec 14),
    let n := a.core.val
    let r := (s.core n).regs
    let ad := (r.s rs1.toNat + imm.signExtend 32).toNat
    clearToIssue s a (needs [rs1.toNat] [vs.toNat] .ve) = true →
    r.sb rs1.toNat = false →
    ad < 0x40000 →
    ad % 128 = 0 →
    ∃ t, exec (.vst a vs rs1 imm none) s = .next t ∧ (t.core n).regs = r ∧ (∀ m, m ≠ n → t.core m = s.core m) ∧
      t.store.fills = s.store.fills ∧ goesTo s t n (nextPc s n) ∧ keepsBut [.cores, .store] s t ∧
      ((∀ w ∈ (s.core n).ls.flight, w.cycle < s.after n (issueCycle s n (needs [rs1.toNat] [vs.toNat] .ve)) 2) →
        (∀ x, (t.lsFinal n).byte x = if lsBase n + ad ≤ x ∧ x < lsBase n + ad + 128
          then BitVec.ofNat 8 ((r.v vs.toNat ((x - (lsBase n + ad)) / 4)).toNat >>> (8 * ((x - (lsBase n + ad)) % 4)))
          else (s.lsFinal n).byte x) ∧
        (∀ x, (t.lsFinal n).blotAt x = if lsBase n + ad ≤ x ∧ x < lsBase n + ad + 128
          then (List.range 8).any (fun i => r.vb vs.toNat (8 * ((x - (lsBase n + ad)) / 32) + i))
          else (s.lsFinal n).blotAt x)))

/-- MMA adds its K terms to every accumulator of its bank, cleared first with CLR -/
def Obligations.MmaResult : Prop :=
  (∀ (s : State) (a : Issue) (clr bank : Bool) (anchor : BitVec 10) (rb : BitVec 6) (fa fb : OpFmt) (ls : List (Nat × Ecc)),
    let n := a.core.val
    let r := (s.core n).regs
    let b := bankNo bank
    let x := mmaArgs (r.s rb.toNat) (r.s (rb.toNat + 1)) (r.s (rb.toNat + 2)) (r.s (rb.toNat + 3))
    let t0 := issueCycle s n (needs [rb.toNat, rb.toNat + 1, rb.toNat + 2, rb.toNat + 3] [] .me)
    let sideA : Side := { base := lsBase n + x.aAddr, scale := lsBase n + x.aScale, fmt := fa, k := x.k }
    let sideB : Side := { base := lsBase n + x.bAddr, scale := lsBase n + x.bScale, fmt := fb, k := x.k }
    let e := s.meFinal n
    let p := blockCycles fa fb
    let g := mmaAnchor anchor.toInt fa
    let u := (s.meSettle n).lsEccs n t0 ls
    clearToIssue s a (needs [rb.toNat, rb.toNat + 1, rb.toNat + 2, rb.toNat + 3] [] .me) = true →
    mmaErrs r rb.toNat = [] →
    (s.core n).eng.bankRead.get 0 b = 0 ∨ (s.core n).eng.bankRead.get 0 b < t0 →
    e.mmaCheck x clr b anchor.toInt = .inr (fa, fb) →
    ∃ t, exec (.mma a clr bank anchor rb .none ls) s = .next t ∧
      (∀ c i j, i < 32 → j < 16 → (t.meFinal n).accAt c i j =
        if c = b then accumulate (fun q => u.lsView n (s.after n t0 (q * p))) sideA sideB x.k g i j
          (if clr then Acc.clear else e.accAt c i j)
        else e.accAt c i j) ∧
      (t.meFinal n).anchor = (if clr then e.anchor.set b g else e.anchor) ∧ (t.meFinal n).meFlags = e.meFlags ∧
      (t.meFinal n).bankRead = e.bankRead ∧ (t.meFinal n).err = e.err ∧ (t.meFinal n).meFree = s.after n t0 (x.k / 32 * p) ∧
      (t.core n).regs = r ∧ onlyEngines u t n ∧ goesTo u t n (nextPc u n)) ∧
  (∀ (s : State) (a : Issue) (clr bank : Bool) (anchor : BitVec 10) (rb : BitVec 6) (hw : MeFault) (ls : List (Nat × Ecc)),
    let n := a.core.val
    let r := (s.core n).regs
    let b := bankNo bank
    let w : PendingMma := { clr := clr, bank := b, anchor := anchor.toInt, r0 := r.s rb.toNat, r1 := r.s (rb.toNat + 1),
                            r2 := r.s (rb.toNat + 2), r3 := r.s (rb.toNat + 3) }
    let p := needs [rb.toNat, rb.toNat + 1, rb.toNat + 2, rb.toNat + 3] [] .me
    clearToIssue s a p = true →
    mmaErrs r rb.toNat = [] →
    (s.core n).ctl.st = .free →
    0 < (s.core n).eng.bankRead.get 0 b ∧ issueCycle s n p ≤ (s.core n).eng.bankRead.get 0 b →
    ∃ t, exec (.mma a clr bank anchor rb hw ls) s = .next t ∧ (t.core n).regs = r ∧ onlyEngines s t n ∧ goesTo s t n (nextPc s n) ∧
      (t.core n).eng = { (s.core n).eng with pendingMma := some w } ∧ (t.core n).ls = (s.core n).ls)

/-- DRAIN, ACC_SAVE, ACC_LOAD and the delayed start of an MMA -/
def Obligations.BankReadResults : Prop :=
  (∀ (s : State) (a : Issue) (bank : Bool) (dfmt : BitVec 4) (rs1 rs2 : BitVec 6) (d : DrainFmt),
    let n := a.core.val
    let r := (s.core n).regs
    let b := bankNo bank
    let t := issueCycle s n (needs [rs1.toNat, rs2.toNat] [] .me)
    let ad := (r.s rs1.toNat).toNat
    let fl := (r.s rs2.toNat).toNat
    let u := s.lsTick n t
    let x := u.drainBank n t b ad d
    let y := if rs2 = 0 then x else x.lsPut n (u.after n t 22) 6 fl (toLe (u.drainFlags n t b d).toNat 4) false
    let z := (y.modEng n (fun e => { e with meFree := u.after n t 16, bankRead := e.bankRead.set b (u.after n t 15) })).advance n t 1
    clearToIssue s a (needs [rs1.toNat, rs2.toNat] [] .me) = true →
    drainFmt dfmt.toNat = some d →
    ad % 32 = 0 ∧ ad + 512 * d.bytes ≤ 0x40000 ∧ r.sb rs1.toNat = false →
    rs2 = 0 ∨ (fl % 4 = 0 ∧ fl < 0x40000 ∧ r.sb rs2.toNat = false) →
    exec (.drain a bank dfmt rs1 rs2 .none) s = .next z ∧
      ∀ i, ¬(lsBase n + ad ≤ i ∧ i < lsBase n + ad + 512 * d.bytes) → ¬(rs2 ≠ 0 ∧ lsBase n + fl ≤ i ∧ i < lsBase n + fl + 4) →
        (z.lsFinal n).byte i = (s.lsFinal n).byte i) ∧
  (∀ (s : State) (a : Issue) (bank : Bool) (rs1 : BitVec 6),
    let n := a.core.val
    let r := (s.core n).regs
    let b := bankNo bank
    let t := issueCycle s n (needs [rs1.toNat] [] .me)
    let ad := (r.s rs1.toNat).toNat
    let u := s.lsTick n t
    let z := (((u.saveWrites n t b ad (List.range 128)).meSettle n).modEng n (fun e =>
      { e with meFree := u.after n t 128, bankRead := e.bankRead.set b (u.after n t 127) })).advance n t 1
    clearToIssue s a (needs [rs1.toNat] [] .me) = true →
    ad % 32 = 0 ∧ ad + 0x4000 ≤ 0x40000 ∧ r.sb rs1.toNat = false →
    exec (.accSave a bank rs1 .none) s = .next z ∧
      ∀ i, ¬(lsBase n + ad ≤ i ∧ i < lsBase n + ad + 0x4000) → (z.lsFinal n).byte i = (s.lsFinal n).byte i) ∧
  (∀ (s : State) (a : Issue) (bank : Bool) (rs1 : BitVec 6) (ls : List (Nat × Ecc)),
    let n := a.core.val
    let r := (s.core n).regs
    let b := bankNo bank
    let ad := lsBase n + (r.s rs1.toNat).toNat
    let t0 := issueCycle s n (needs [rs1.toNat] [] .me)
    let u := (s.meSettle n).lsEccs n t0 ls
    let v := fun d => u.lsView n (s.after n t0 d)
    let anchor := (v 0).recAnchor ad
    clearToIssue s a (needs [rs1.toNat] [] .me) = true →
    (r.s rs1.toNat).toNat % 32 = 0 ∧ (r.s rs1.toNat).toNat + 0x4000 ≤ 0x40000 ∧ r.sb rs1.toNat = false →
    -512 ≤ anchor ∧ anchor ≤ 511 →
    (∀ i, i < 512 → (v (i / 4)).recAnchor (ad + 32 * i) = anchor) →
    ∃ t, exec (.accLoad a bank rs1 ls) s = .next t ∧
      (∀ c i j, i < 32 → j < 16 → (t.meFinal n).accAt c i j =
        if c = b then (v ((i * 16 + j) / 4)).recAcc (ad + 32 * (i * 16 + j)) else (s.meFinal n).accAt c i j) ∧
      (t.meFinal n).anchor = (s.meFinal n).anchor.set b anchor ∧ (t.core n).regs = r ∧ onlyEngines u t n ∧
      goesTo u t n (nextPc u n)) ∧
  (∀ (s : State) (n : Fin 1536) (hw : MeFault) (ls : List (Nat × Ecc)) (m : PendingMma),
    let last := (s.core n).eng.bankRead.get 0 m.bank
    let t := max (max (s.after n last 1) (s.core n).eng.meFree) ((s.part (s.partOf (kOf n))).stroke.count.toNat * 256)
    (s.core n).eng.pendingMma = some m →
    (s.part (s.partOf (kOf n))).paused = false →
    s.cycleDue n t = true →
    quietBy s n t = true →
    s.accessErrs n t = [] →
    s.runsOn n = true →
    exec (.mmaDelayedStart n hw ls) s = .next ((((s.modEng n (fun e => { e with pendingMma := none })).startMma n t
      (mmaArgs m.r0 m.r1 m.r2 m.r3) m.clr m.bank m.anchor hw ls)).modCtl n (fun c => { c with cyc := max c.cyc (s.after n t 1) }))) ∧
  (∀ (s : State) (n : Fin 1536) (hw : MeFault) (ls : List (Nat × Ecc)),
    (s.core n).eng.pendingMma = none ∨ (s.part (s.partOf (kOf n))).paused = true →
    exec (.mmaDelayedStart n hw ls) s = .next s) ∧
  (∀ (s : State) (n : Nat) (x : LoadFault),
    let t := s.judgeLoad n
    s.loadFault n = some x →
    (t.core n).ls.run = none ∧ (t.core n).eng.acc = (s.core n).eng.acc ∧ (t.core n).eng.anchor = (s.core n).eng.anchor ∧
      (t.core n).eng.err = (s.core n).eng.err.record (BitVec.ofNat 32 (8 * 2 ^ 23 + (x.bank * 32 + x.row) % 256 * 2 ^ 15)) 0 0)

/-- A record that ACC_SAVE writes is the record that ACC_LOAD reads -/
def Obligations.AccumulatorRecord : Prop :=
  ∀ (m : Store) (x : Nat) (a : Acc) (anchor : Int), x % 32 = 0 → -512 ≤ anchor → anchor ≤ 511 →
    (∀ i, i < 32 → m.byte (x + i) = (a.image anchor).getD i 0) → m.blotAt x = a.blot →
    m.recAcc x = a ∧ m.recAnchor x = anchor

/-- SET, ADD and WAIT_GE act on the counter the ID names, directly on the own cluster and over the network elsewhere -/
def Obligations.SyncCounterOps : Prop :=
  (∀ (s : State) (a : Issue) (ra rb : BitVec 6),
    let n := a.core.val
    let r := (s.core n).regs
    let id := r.s ra.toNat
    let c := Counter.cluster (kOf n) (id.toNat % 256)
    let t := issueCycle s n (needs [ra.toNat, rb.toNat] [] .scalar)
    clearToIssue s a (needs [ra.toNat, rb.toNat] [] .scalar) = true →
    r.sb ra.toNat = false ∧ r.sb rb.toNat = false →
    id.toNat / 2 ^ 30 = 0 →
    s.syncOwed n c = false →
    exec (.syncSet a ra rb) s =
      .next ((s.syncByCore (kOf n) (id.toNat % 256) (s.core n).ctl.lcore.toNat (s.after n t 2) true (r.s rb.toNat)).advance n t 1) ∧
    exec (.syncAdd a ra rb) s =
      .next ((s.syncByCore (kOf n) (id.toNat % 256) (s.core n).ctl.lcore.toNat (s.after n t 2) false (r.s rb.toNat)).advance n t 1)) ∧
  (∀ (s : State) (a : Issue) (ra rb : BitVec 6) (c : Counter),
    let n := a.core.val
    let r := (s.core n).regs
    let id := r.s ra.toNat
    let t := issueCycle s n (needs [ra.toNat, rb.toNat] [] .scalar)
    clearToIssue s a (needs [ra.toNat, rb.toNat] [] .scalar) = true →
    r.sb ra.toNat = false ∧ r.sb rb.toNat = false →
    id.toNat / 2 ^ 30 ≠ 0 ∨ s.syncOwed n c = true →
    s.counterOf n id = some c →
    exec (.syncSet a ra rb) s = .next ((s.sendNet (.syncOp (some n) c true (r.s rb.toNat))).advance n t 1) ∧
    exec (.syncAdd a ra rb) s = .next ((s.sendNet (.syncOp (some n) c false (r.s rb.toNat))).advance n t 1)) ∧
  (∀ (s : State) (a : Issue) (ra rb : BitVec 6) (c : Counter),
    let n := a.core.val
    let r := (s.core n).regs
    let t := issueCycle s n (needs [ra.toNat, rb.toNat] [] .scalar)
    let v := r.s rb.toNat
    clearToIssue s a (needs [ra.toNat, rb.toNat] [] .scalar) = true →
    r.sb ra.toNat = false ∧ r.sb rb.toNat = false →
    s.counterOf n (r.s ra.toNat) = some c →
    (s.core n).ctl.st = .free →
    exec (.syncWaitGe a ra rb) s = .next (if 0 ≤ (s.counterAt c (s.after n t 2) - v).toInt ∧ s.syncOwed n c = false then s.advance n t 3
      else (s.advance n t 3).block n (.waitGe c v))) ∧
  (∀ (s : State) (n : Fin 1536) (c : Counter) (v : Word),
    (s.core n).ctl.blockedOn = some (.waitGe c v) →
    s.waiting n = true →
    0 ≤ (s.counter c - v).toInt →
    s.syncOwed n c = false →
    exec (.waitGeWake n) s = .next (match s.changedAfter c 0 with
      | some d => s.modCtl n (fun y => { y with
          st := .free, blockedOn := none, cyc := max (s.core n).ctl.cyc (s.after n d 3), skew := none })
      | none => s.unblock n 3)) ∧
  (∀ (s : State) (l m : List NetMsg) (o : Option Nat) (c : Counter) (b : Bool) (v : Word),
    s.net = l ++ .syncOp o c b v :: m →
    takeSync l = none →
    ∃ t, exec .mgmtSyncOp s = .next t ∧ t.net = l ++ m ∧
      (∀ d, t.counter d = if d = c then (if b then v else s.counter c + v) else s.counter d) ∧
      (∀ k, { t.cluster k with sync := [], marks := [] } = { s.cluster k with sync := [], marks := [] }) ∧
      { t.fabric with sync := [] } = { s.fabric with sync := [] } ∧ keepsBut [.net, .clusters, .fabric] s t) ∧
  (∀ (s : State) (k i l1 l2 cyc : Nat) (u v w : Word),
    let x := Counter.cluster k i
    let none_ : SyncMark := { cycle := cyc + 1, start := 0, set := none, far := none, added := 0, shown := 0 }
    ((s.cluster k).marks.get none_ i).cycle ≠ cyc →
    ((s.syncByCore k i l1 cyc true v).syncByCore k i l2 cyc true w).counter x = (if l2 < l1 then v else w) ∧
    ((s.syncByCore k i l1 cyc false v).syncByCore k i l2 cyc true w).counter x = w + v ∧
    ((s.syncByCore k i l1 cyc true v).syncByCore k i l2 cyc false w).counter x = v + w ∧
    ((s.syncByCore k i l1 cyc false v).syncByCore k i l2 cyc false w).counter x = s.counter x + (v + w) ∧
    (((s.syncByCore k i l1 cyc false v).syncApply x true w).syncByCore k i l2 cyc false u).counter x = w + (v + u) ∧
    (∀ y, y < cyc → (s.syncByCore k i l1 cyc true v).counterAt x y = s.counter x) ∧
    (s.syncByCore k i l1 cyc true v).counterAt x cyc = v ∧
    (s.syncByCore k i l1 cyc true v).counter x = v ∧ (s.syncByCore k i l1 cyc false v).counter x = s.counter x + v) ∧
  (∀ (s : State) (c d : Counter) (v : Word),
    (s.setCounter c v).counter d = if d = c then v else s.counter d)

/-- LANDWAIT waits on the landing count of an open window, RADD adds to a counter of a peer after earlier remote writes -/
def Obligations.LandwaitAndRadd : Prop :=
  (∀ (s : State) (a : Issue) (ra rb : BitVec 6),
    let n := a.core.val
    let r := (s.core n).regs
    let w := (r.s ra.toNat).toNat % 64
    let t := issueCycle s n (needs [ra.toNat, rb.toNat] [] .scalar)
    let v := r.s rb.toNat
    clearToIssue s a (needs [ra.toNat, rb.toNat] [] .scalar) = true →
    r.sb ra.toNat = false ∧ r.sb rb.toNat = false →
    (s.core n).ctl.st = .free →
    (s.window w).opened = true →
    (s.core n).ctl.context = some (4 * (s.window w).part + (s.window w).ctx) →
    exec (.landwait a ra rb) s = .next (if 0 ≤ ((s.window w).landed - v).toInt then s.advance n t 3
      else (s.advance n t 3).block n (.landwait w v))) ∧
  (∀ (s : State) (n : Fin 1536) (w : Nat) (v : Word),
    (s.core n).ctl.blockedOn = some (.landwait w v) →
    s.waiting n = true →
    0 ≤ ((s.window w).landed - v).toInt →
    exec (.landwaitWake n) s = .next (s.unblock n 3)) ∧
  (∀ (s : State) (a : Issue) (ra rb : BitVec 6),
    let n := a.core.val
    let r := (s.core n).regs
    let id := r.s ra.toNat
    let t := issueCycle s n (needs [ra.toNat, rb.toNat] [] .scalar)
    clearToIssue s a (needs [ra.toNat, rb.toNat] [] .scalar) = true →
    r.sb ra.toNat = false ∧ r.sb rb.toNat = false →
    id.toNat / 2 ^ 30 = 3 →
    s.openWrites n = [] →
    exec (.syncRadd a ra rb) s = .next ((s.sendAdd (BitVec.ofNat 16 (id.toNat / 2 ^ 14)) (id.toNat % 4096) (r.s rb.toNat)).advance n t 1)) ∧
  (∀ (s : State) (a : Issue) (ra rb : BitVec 6),
    let n := a.core.val
    let r := (s.core n).regs
    let id := r.s ra.toNat
    let t := issueCycle s n (needs [ra.toNat, rb.toNat] [] .scalar)
    let held : HeldAdd := { core := n, device := id.toNat / 2 ^ 14 % 2 ^ 16, counter := id.toNat % 4096, value := r.s rb.toNat,
                            waits := s.openWrites n }
    clearToIssue s a (needs [ra.toNat, rb.toNat] [] .scalar) = true →
    r.sb ra.toNat = false ∧ r.sb rb.toNat = false →
    id.toNat / 2 ^ 30 = 3 →
    s.openWrites n ≠ [] →
    (s.fabric.adds.filter (fun x => decide (x.core = n))).length < 16 →
    exec (.syncRadd a ra rb) s = .next (({ s with fabric := { s.fabric with adds := s.fabric.adds ++ [held] } } : State).advance n t 1)) ∧
  (∀ (s : State) (a : Issue) (ra rb : BitVec 6),
    let n := a.core.val
    let r := (s.core n).regs
    let id := r.s ra.toNat
    let t := issueCycle s n (needs [ra.toNat, rb.toNat] [] .scalar)
    clearToIssue s a (needs [ra.toNat, rb.toNat] [] .scalar) = true →
    r.sb ra.toNat = false ∧ r.sb rb.toNat = false →
    (s.core n).ctl.st = .free →
    id.toNat / 2 ^ 30 ≠ 3 →
    s.openWrites n = [] →
    exec (.syncRadd a ra rb) s =
      .next ((s.coreErrorIn n t { kind := .address, detail := 0, addr := id.setWidth 64 }).spent n t))

/-- XFER has its descriptor read, the TE takes its transfer, each access moves 64 bytes, host reads return through their controller -/
def Obligations.TransferResults : Prop :=
  (∀ (s : State) (a : Issue) (ra : BitVec 6) (ls : List (Nat × Ecc)),
    let n := a.core.val
    let t := issueCycle s n (needs [ra.toNat] [] .te)
    let x := ((s.core n).regs.s ra.toNat).toNat
    let u := ls.foldl (fun (w : State) e => w.lsEcc n (w.after n t (1 + e.1 % 4)) (x + 8 * (e.1 % 4)) e.2) s
    clearToIssue s a (needs [ra.toNat] [] .te) = true →
    (s.core n).te.xfer = none ∧ (s.core n).te.desc = none →
    x % 32 = 0 ∧ x < 0x40000 ∧ (s.core n).regs.sb ra.toNat = false →
    exec (.xfer a ra ls) s = .next
      ((u.modTe n (fun e => { e with desc := some { addr := x, issued := t, pc := (s.core n).ctl.pc } })).advance n t 1)) ∧
  (∀ (s : State) (n : Fin 1536) (d : DescRead) (x : Xfer) (src dst : List (Nat × Ecc)) (split : List Nat),
    (s.core n).te.desc = some d →
    s.descPlan n d = ([], some x) →
    (s.part (s.partOf (kOf n))).paused = false →
    s.cycleDue n (s.descEnd n d) = true →
    (s.core n).ls.run = none ∧ (s.core n).due = [] →
    exec (.xferAccess n src dst split) s = exec (.xferAccess n src dst split) (s.modTe n (fun e => { e with desc := none, xfer := some x }))) ∧
  (∀ (s : State) (n : Fin 1536) (x : Xfer) (src dst : List (Nat × Ecc)) (split : List Nat),
    let c := s.xferCycle n x
    let u := s.inkSee (kOf n) c
    (s.core n).te.desc = none ∧ (s.core n).te.xfer = some x →
    s.xferWaits n x = false →
    quietBy s n (s.xferCycle n x) = true →
    x.far = true →
    exec (.xferAccess n src dst split) s = .next ((u.xferRequest n c x).xferStep n c x)) ∧
  (∀ (s : State) (n : Fin 1536) (x : Xfer) (src dst : List (Nat × Ecc)) (split : List Nat),
    let c := s.xferCycle n x
    let offs := wordOffs false x.offs.1.toNat
    let u := (s.inkSee (kOf n) c).lsFind n c offs src
    let ws := (u.lsView n c).gather (lsBase n) offs
    (s.core n).te.desc = none ∧ (s.core n).te.xfer = some x →
    s.xferWaits n x = false →
    quietBy s n (s.xferCycle n x) = true →
    x.srcKind = .local_ →
    x.dstKind = .stream →
    (∀ e, u.xferErr n x ws = some e → exec (.xferAccess n src dst split) s = .next (u.coreErrorIn n c e)) ∧
    (u.xferErr n x ws = none → exec (.xferAccess n src dst split) s = .next
      ((u.putFlits n (u.after n c 2) x [wordsFlit (ws.take 8), wordsFlit (ws.drop 8)]).xferStep n c x))) ∧
  (∀ (s : State) (n ch c : Nat) (fs : List Flit) (pc : BitVec 12),
    let u := s.takeChan n true ch c
    let old := (u.core n).te.chan.get [] ch
    let t := s.flitsEnter n ch c fs pc
    old.length + fs.length ≤ 16 →
    (t.core n).te.chan.get [] ch = old ++ fs.map (fun f => { f with cycle := c }) ∧
      (∀ d, d ≠ ch → (t.core n).te.chan.get [] d = (u.core n).te.chan.get [] d) ∧
      (∀ m, m ≠ n → t.core m = u.core m) ∧ (t.core n).errs = (u.core n).errs ∧ keepsBut [.cores] u t) ∧
  (∀ (s : State) (n t : Nat) (x : Xfer),
    (s.core n).te.xfer.isSome = true →
    ((s.xferStep n t x).core n).te.xfer = (if x.i < x.countI then some { x with i := x.i + 1, cycle := s.after n t 1 }
      else if x.o < x.countO then some { x with i := 0, o := x.o + 1, cycle := s.after n t 1 } else none) ∧
    (∀ m, m ≠ n → (s.xferStep n t x).core m = s.core m) ∧ keepsBut [.cores] s (s.xferStep n t x)) ∧
  (∀ (s : State) (n : Fin 1536) (a b : List McRead) (r : McRead) (f : Nat) (d : List Byte) (p : Bool),
    let m := homeOf (kOf n)
    let flit := fun (d : List Byte) (p : Bool) => ({ data := BitVec.ofNat 256 (leNat (d.take 32)), blot := p } : Flit)
    (s.mcOf m).reads = a ++ r :: b →
    r.host = some (n.val, f) →
    (∀ x ∈ a, ∀ h, x.host = some h → h.1 ≠ n.val) →
    (∃ t, exec (.hostReadCompletion n (some d) p) s = .next t ∧
      t.mcOf m = { s.mcOf m with reads := a ++ { r with lo := flit d p, hi := flit (d.drop 32) p, host := none } :: b } ∧
      (∀ i, i ≠ m → t.mcOf i = s.mcOf i) ∧ keepsBut [.bulk] s t) ∧
    (∃ t, exec (.hostReadCompletion n none p) s = .next t ∧
      t.mcOf m = { s.mcOf m with reads := a ++ { r with lo := flit [] true, hi := flit [] true, host := none } :: b } ∧
      (∀ i, i ≠ m → t.mcOf i = s.mcOf i) ∧ (t.fn f).hostFail = satInc (s.fn f).hostFail ∧ keepsBut [.bulk, .host] s t))

/-- SEND, RECV, SELECT and QSTAT move tokens between registers, queues and channels, or wait -/
def Obligations.MessageResults : Prop :=
  (∀ (s : State) (a : Issue) (ra rb : BitVec 6) (k : BitVec 2),
    let n := a.core.val
    let ch := ((s.core n).regs.s rb.toNat).toNat % 8
    let t := issueCycle s n (needs ((s.core n).regs.sendReads ra.toNat rb.toNat k.toNat) [] .scalar)
    clearToIssue s a (needs ((s.core n).regs.sendReads ra.toNat rb.toNat k.toNat) [] .scalar) = true →
    (s.core n).qs.isFree ch = false →
    exec (.send a ra rb k) s = .next ((s.advance n t 1).addDue n (s.after n t 2) 16 (.send ch ((s.core n).regs.sendToken ra.toNat rb.toNat k.toNat) (s.core n).ctl.pc))) ∧
  (∀ (s : State) (n ch c : Nat) (x : Token) (pc : BitVec 12),
    let u := s.takeChan n false ch c
    let old := (u.core n).qs.chan ch
    let t := s.sendEnter n ch c x pc
    (old.length < 8 → (t.core n).qs = { (u.core n).qs with echan := (u.core n).qs.echan.set ch (old ++ [{ x with
        cepoch := u.epochOf (kOf n), repoch := (u.core n).steer.chanRepoch.get 0 ch, sent := c }]) } ∧
      (∀ m, m ≠ n → t.core m = u.core m) ∧ (t.core n).errs = (u.core n).errs ∧ keepsBut [.cores] u t) ∧
    (8 ≤ old.length → t = u.coreErrorIn n c { kind := .ruledOverflow, detail := 8 + ch, addr := 0, pc := some pc })) ∧
  (∀ (s : State) (a : Issue) (ra rb : BitVec 6) (k : BitVec 2),
    let n := a.core.val
    let ch := ((s.core n).regs.s rb.toNat).toNat % 8
    let t := issueCycle s n (needs ((s.core n).regs.sendReads ra.toNat rb.toNat k.toNat) [] .scalar)
    let u := s.advance n t 1
    let x := ((s.core n).regs.sendToken ra.toNat rb.toNat k.toNat)
    clearToIssue s a (needs ((s.core n).regs.sendReads ra.toNat rb.toNat k.toNat) [] .scalar) = true →
    (s.core n).ctl.st = .free →
    (s.core n).qs.isFree ch = true →
    quietBy u n (t + 2) = true →
    exec (.send a ra rb k) s = .next (if (s.core n).qs.noticed ch then u.countOrphan n ch
      else if fdestKind ((s.core n).qs.fdest.get 0 ch) then u.addDue n (s.after n t 2) 16 (.leave ch x)
      else if 0 < (s.core n).qs.credit.get 0 ch then
        (u.modQs n (fun q => { q with credit := q.credit.set ch (q.credit.get 0 ch - 1) })).addDue n (s.after n t 2) 16 (.leave ch x)
      else u.block n (.send ch x))) ∧
  (∀ (s : State) (a : Issue) (ra rb : BitVec 6) (q : BitVec 3) (k : BitVec 2),
    let n := a.core.val
    let t := issueCycle s n (needs [] [] .scalar)
    let l := (s.core n).qs.visible q.toNat t
    clearToIssue s a (needs [] [] .scalar) = true →
    (s.core n).ctl.st = .free ∨ (s.core n).qs.mode q.toNat ≠ 2 →
    exec (.recv a ra rb q k) s = .next (if l ≠ [] then (s.advance n t 1).take n t ra.toNat rb.toNat q.toNat k.toNat
      else if (s.core n).ctl.st = .ruled then
        ((s.advance n t 1).coreRun n (s.after n t 1)).coreErrorIn n (s.after n t 1)
          { kind := .ruledEmpty, detail := q.toNat, addr := 0, pc := some (s.core n).ctl.pc }
      else (s.advance n t 1).block n (.recv q.toNat ra.toNat rb.toNat k.toNat))) ∧
  (∀ (s : State) (n : Fin 1536) (q ra rb k : Nat) (x : Token) (r : List Token),
    let t := max ((s.core n).ctl.cyc - 1) x.sent
    (s.core n).ctl.blockedOn = some (.recv q ra rb k) →
    s.waiting n = true →
    (s.core n).qs.queue q = x :: r →
    quietBy s n x.sent = true →
    s.cycleDue n x.sent = true →
    exec (.recvWake n) s = .next ((s.resumeAt n (s.after n t 1)).take n t ra rb q k)) ∧
  (∀ (s : State) (a : Issue) (ra rb : BitVec 6),
    let n := a.core.val
    let t := issueCycle s n (needs [rb.toNat] [] .scalar)
    clearToIssue s a (needs [rb.toNat] [] .scalar) = true →
    (s.core n).ctl.st = .free →
    exec (.select a ra rb) s = .next ((s.advance n t 1).block n (.select ra.toNat (((s.core n).regs.s rb.toNat).setWidth 8)))) ∧
  (∀ (s : State) (n : Fin 1536) (ra q t : Nat) (mask : Byte),
    let c := s.core n
    let u := (s.resumeAt n (s.after n t 2)).putS n t 1 ra (BitVec.ofNat 32 q) false
    c.ctl.blockedOn = some (.select ra mask) →
    s.waiting n = true →
    c.qs.selectCycle mask c.ctl.cyc = some t →
    quietBy s n t = true →
    s.cycleDue n t = true →
    c.qs.selects mask t = some q →
    (c.qs.rotate = false → exec (.selectSelection n) s = .next u) ∧
    (∀ x, c.qs.rotate = true → c.ctl.context = some x → exec (.selectSelection n) s = .next
      (if 2 ≤ (c.qs.readySet mask t).length
       then (u.modQs n (fun y => { y with lastSel := BitVec.ofNat 3 q })).modRun x (fun r => { r with tdc := satInc r.tdc })
       else u.modQs n (fun y => { y with lastSel := BitVec.ofNat 3 q })))) ∧
  (∀ (c : CoreQueues) (mask : Byte) (x q : Nat),
    c.selects mask x = some q →
    (q < 8 ∧ (mask = 0 ∨ mask.getLsbD q = true) ∧ c.visible q (x - 1) ≠ []) ∧
    (c.rotate = false → ∀ p, p < q → ¬ ((mask = 0 ∨ mask.getLsbD p = true) ∧ c.visible p (x - 1) ≠ []))) ∧
  (∀ (s : State) (a : Issue) (ra : BitVec 6) (q fn : BitVec 3) (off : BitVec 6),
    let n := a.core.val
    let t := issueCycle s n (needs [] [] .scalar)
    let w := if fn = 1 then s.takeChan n false q.toNat t else s
    let c := (w.core n).qs
    let v := if fn = 0 then c.qstat q.toNat t else if fn = 1 then c.echanWord q.toNat else c.qsum t
    let u := if fn = 1 ∧ off.getLsbD 0 = true then
        w.modQs n (fun x => { x with closed := x.closed.set q.toNat false, orphans := x.orphans.set q.toNat 0 }) else w
    clearToIssue s a (needs [] [] .scalar) = true →
    fn.toNat ≤ 2 →
    exec (.qstat a ra q fn off) s = .next ((u.putS n t 2 ra.toNat v false).advance n t 1))

/-- A step takes the command at the front of the queue and runs it on the state with the queue's rest -/
def Obligations.StepTakesFrontCommand : Prop :=
  ∀ (c : Instr) (q : List Instr) (s : State), step (s.withPending (c :: q)) = exec c (s.withPending q)

/-- On an empty queue a step idles: device time advances by 10 ns, less or more by 1 ns where it is corrected (the model's choice, log 1) -/
def Obligations.IdleStep : Prop :=
  ∀ s : State, s.pending = [] →
    (s.fabric.cfg.slew = 0 → step s = .next { s with time := s.time + 10 }) ∧
    ∃ t, step s = .next t ∧ keepsBut [.time, .fabric] s t ∧ s.time + 9 ≤ t.time ∧ t.time ≤ s.time + 11 ∧
      { t.fabric with cfg := { t.fabric.cfg with slew := 0, slewAt := 0 } } =
        { s.fabric with cfg := { s.fabric.cfg with slew := 0, slewAt := 0 } }

/-- No command stops the machine: exec answers a next state for every command and every state -/
def Obligations.EveryCommandGoesOn : Prop :=
  ∀ (c : Instr) (s : State), ∃ t, exec c s = .next t

/-- Every command keeps the queue and every area of the state but those listed for it -/
def Obligations.CommandFrames : Prop :=
  ∀ (c : Instr) (s t : State), exec c s = .next t → keepsBut (touches c) s t

/-- Every step keeps the settings legal: one of three modes, an FB_ID below 4,096 or 0xFFFF, the grade unchanged -/
def Obligations.DeviceSettingsKept : Prop :=
  ∀ s t : State, s.dev.mode ≠ 3 → (s.dev.fbId.toNat < 4096 ∨ s.dev.fbId = 0xFFFF) → step s = .next t →
    t.dev.mode ≠ 3 ∧ (t.dev.fbId.toNat < 4096 ∨ t.dev.fbId = 0xFFFF) ∧ t.dev.gradeL = s.dev.gradeL

/-- After reset the mode is quarters, FB_ID is 0xFFFF, and the settings are legal -/
def Obligations.DeviceSettingsAtReset : Prop :=
  State.reset.dev.mode = 2 ∧ State.reset.dev.fbId = 0xFFFF ∧ State.reset.dev.mode ≠ 3 ∧
    (State.reset.dev.fbId.toNat < 4096 ∨ State.reset.dev.fbId = 0xFFFF)

/-- Every step keeps the storage in its canonical form -/
def Obligations.StorageCanonical : Prop :=
  ∀ s t : State, s.store.wf = true → step s = .next t → t.store.wf = true

/-- After reset the storage is canonical and lists nothing (the model's choice, log 3) -/
def Obligations.StorageAtReset : Prop :=
  State.reset.store.wf = true ∧ (∀ a, State.reset.store.byte a = 0) ∧ (∀ a, State.reset.store.blotAt a = false) ∧
    State.reset.store.fills = [] ∧ State.reset.pending = []

/-- Register s0 reads as zero with its blot clear and discards writes -/
def Obligations.ZeroRegister : Prop :=
  (∀ (r : CoreRegs) (k q : Nat) (v : Word) (b : Bool),
    r.s 0 = 0 ∧ r.sb 0 = false ∧ r.setS 0 v b = r ∧
    (k ≠ 0 → (r.setS k v b).s q = if q = k then v else r.s q) ∧ (k ≠ 0 → (r.setS k v b).sb q = if q = k then b else r.sb q)) ∧
  (∀ (s : State) (a : Issue) (rs1 : BitVec 6) (imm : BitVec 14),
    clearToIssue s a (needs [rs1.toNat] [] .scalar) = true →
    ∃ t, exec (.addi a 0 rs1 imm) s = .next t ∧ (t.core a.core).regs = (s.core a.core).regs)

/-- A write within a 32-byte unit leaves it blotted exactly as the blot rule says -/
def Obligations.UnitWrite : Prop :=
  ∀ (m : Store) (a : Nat) (bs : List Byte) (blot : Bool),
    a % 32 + bs.length ≤ 32 →
    let t := m.writeUnit a bs blot
    t.blotAt a = (blot || (m.blotAt a && decide (bs.length < 32))) ∧
    (∀ b, b / 32 ≠ a / 32 → t.blotAt b = m.blotAt b ∧ t.byte b = m.byte b) ∧
    (∀ i, i < bs.length → t.byte (a + i) = bs.getD i 0) ∧
    (∀ b, b < a ∨ a + bs.length ≤ b → t.byte b = m.byte b) ∧ t.fills = m.fills

/-- A first-error register keeps the first error, counts further ones in MULTI, and clears on a write of 1 -/
def Obligations.FirstErrorRegisters : Prop :=
  ∀ (r : ErrReg) (f : Word) (a : DWord) (p v : Word),
    (r.valid = false → r.record f a p = { valid := true, multi := r.multi, fields := f, addr := a, pc := p }) ∧
    (r.valid = true → r.record f a p = { r with multi := true }) ∧
    (r.write v).valid = (r.valid && !v.getLsbD 31) ∧ (r.write v).multi = (r.multi && !v.getLsbD 30) ∧
    (v.getLsbD 31 = true → (r.write v).fields = 0 ∧ (r.write v).addr = 0 ∧ (r.write v).pc = 0) ∧
    (v.getLsbD 31 = false → (r.write v).fields = r.fields ∧ (r.write v).addr = r.addr ∧ (r.write v).pc = r.pc) ∧
    (r.fields.toNat < 2 ^ 30 → r.read.getLsbD 31 = r.valid ∧ r.read.getLsbD 30 = r.multi ∧ r.read.setWidth 30 = r.fields.setWidth 30)

/-- A final completion is 16 bytes at the CQ tail with the phase, and the tail advances -/
def Obligations.CompletionWritten : Prop :=
  (∀ (s : State) (h : Hdr) (op job : Nat) (st : Status) (res : Nat),
    let f := h.fn.val
    let q := s.qp f h.sq.toNat
    let t := s.completeJob h op job st res []
    let q2 := t.qp f h.sq.toNat
    h.fn ≠ 5 →
    h.notify = false →
    q.active = true →
    q.halted = false →
    q.cqSize ≠ 0 →
    (s.fn f).d3 = false ∧ (s.fn f).bme = true →
    t.out = s.out ++ [.completion f h.sq.toNat q.cqTail (block 16 [(0, 4, h.tag.toNat), (4, 2, h.sq.toNat), (6, 2, q.sqHead),
        (8, 1, st.code), (9, 1, if q.phase then 1 else 0), (10, 6, res)]) (q.cqBase.toNat + 16 * q.cqTail)] ∧
      q2 = { q with fetched := q.fetched.filter (fun e => decide (e.job ≠ some job)), cqTail := (q.cqTail + 1) % q.cqSize,
                    phase := q.phase != decide ((q.cqTail + 1) % q.cqSize = 0) } ∧
      (∀ n, n ≠ h.sq.toNat → t.qp f n = s.qp f n) ∧ (∀ g, g ≠ f → t.fn g = s.fn g) ∧
      (t.fn f).msixDue = (if q.irqEn then setAdd (s.fn f).msixDue q.vector.toNat else (s.fn f).msixDue) ∧
      (t.fn f).ring = (s.fn f).ring ∧ keepsBut [.host, .out] s t) ∧
  (∀ (s : State) (h : Hdr) (st : Status) (res : Nat) (note : Option Nat),
    let f := h.fn.val
    let q := s.qp f h.sq.toNat
    h.fn ≠ 5 →
    q.active = false ∨ q.halted = true →
    s.writeCqWith h st res [] note = s) ∧
  (∀ (s : State) (h : Hdr) (st : Status) (res : Nat) (note : Option Nat),
    let f := h.fn.val
    let q := s.qp f h.sq.toNat
    h.fn ≠ 5 →
    q.active = true →
    q.halted = false →
    q.cqSize ≠ 0 →
    (s.fn f).d3 = true ∨ (s.fn f).bme = false →
    let b := block 16 [(0, 4, h.tag.toNat), (4, 2, h.sq.toNat), (6, 2, 0), (8, 1, st.code), (9, 1, 0), (10, 6, res)]
    s.writeCqWith h st res [] note =
      s.modFn f (fun x => { x with parked := x.parked ++ [{ pair := h.sq.toNat, bytes := b, note := note }] })) ∧
  (∀ (s : State) (fn : Fin 6) (n : Byte) (p : Option (List Byte)),
    n.toNat < pairsOf fn.val →
    (s.qp fn.val n.toNat).active = true →
    exec (.commandFetch fn n p false) s = .next ((s.modQp fn.val n.toNat (fun q => { q with fault := true, halted := true })).modFn fn.val
      (fun x => { x with hostFail := satInc x.hostFail })))

/-- An event record reaches the ring with its phase, is held or lost where there is no room, and respects the mask -/
def Obligations.EventDelivery : Prop :=
  (∀ (s : State) (f : Nat) (r : List Byte),
    let x := s.fn f
    let t := s.toRing f r
    x.ringRoom = true →
    x.ring.held = [] →
    t.out = s.out ++ [.event f x.ring.tail (r.set 3 (if x.ring.phase then 1 else 0)) (x.ring.base.toNat + 32 * x.ring.tail)] ∧
      (t.fn f).ring = { x.ring with tail := (x.ring.tail + 1) % x.ring.size,
                                    phase := x.ring.phase != decide ((x.ring.tail + 1) % x.ring.size = 0) } ∧
      (∀ g, g ≠ f → t.fn g = s.fn g) ∧ keepsBut [.host, .out] s t) ∧
  (∀ (s : State) (f : Nat) (r : List Byte),
    let x := s.fn f
    x.ringRoom = false ∨ x.ring.held ≠ [] →
    s.toRing f r = if 3 ≤ recSeverity r ∧ x.ring.held.length < 64
      then s.modFn f (fun y => { y with ring := { y.ring with held := y.ring.held ++ [r] } })
      else s.modFn f (fun y => { y with ring := { y.ring with lost := true, lostCnt := satInc y.ring.lostCnt } })) ∧
  (∀ (x : Fn) (code sev : Nat),
    x.passes code sev = true ↔ (2 ≤ sev ∨ x.mask.getLsbD code = true))

/-- STEER writes a control entry, a pairing buffer takes a token, and a complete set fires with the outputs of its mode -/
def Obligations.SteeringResults : Prop :=
  (∀ (s : State) (a : Issue) (ra : BitVec 6) (u : BitVec 2),
    let n := a.core.val
    let v := (s.core n).regs.s ra.toNat
    let t := issueCycle s n (needs [ra.toNat] [] .scalar)
    clearToIssue s a (needs [ra.toNat] [] .scalar) = true →
    (s.core n).regs.sb ra.toNat = false →
    exec (.steer a ra u) s = .next
      ((s.advance n t 1).addDue n (s.after n t 2) 16 (.ctl u.toNat (controlToken (v.extractLsb' 8 8) (v.setWidth 8))))) ∧
  (∀ (s : State) (n u cyc : Nat) (t : Token),
    let cfg := s.steerCfg n u
    let d : Due := { cycle := cyc, rank := 16, what := .ctl u t }
    (steerMode cfg = 0 ∨ steerCsrc cfg = false → s.dueStep n d = s.modSteer n (fun c => { c with unusedIn := satInc c.unusedIn })) ∧
    (steerMode cfg ≠ 0 → steerCsrc cfg = true → s.dueStep n d = s.steerWrite n u 0 cyc t)) ∧
  (∀ (s : State) (n u i cyc : Nat) (t : Token),
    let c := (s.core n).steer
    let b := c.pair u i
    (∀ x ∈ b, x.ordinal ≠ t.ordinal) →
    b.length < 8 →
    let w := s.steerWrite n u i cyc t
    let d := (w.core n).steer
    (d.pair u i = b ++ [t] ∧ (∀ m, m ≠ 4 * u + i → d.buf.get [] m = c.buf.get [] m) ∧ (∀ m, m ≠ n → w.core m = s.core m) ∧
      keepsBut [.cores] s w ∧ (w.core n).qs = (s.core n).qs) ∧
    (d.ready = c.ready ∨ d.complete u (steerMode (s.steerCfg n u)) i t.ordinal = true ∧
      d.ready = c.ready ++ [{ cycle := cyc, unit := u, input := i, ordinal := t.ordinal, backEdge := decide (steerMode (s.steerCfg n u) = 4 ∧ i = 2) }])) ∧
  (∀ (s : State) (n u i cyc : Nat) (t : Token),
    let b := (s.core n).steer.pair u i
    (b.any (fun x => x.ordinal == t.ordinal) = true → s.steerWrite n u i cyc t = s.pairingOverflow n u i cyc 2 t.ordinal) ∧
    (b.any (fun x => x.ordinal == t.ordinal) = false → 8 ≤ b.length → s.steerWrite n u i cyc t = s.pairingOverflow n u i cyc 1 t.ordinal)) ∧
  (∀ (s : State) (core : Fin 1536) (unit : BitVec 2) (r : ReadySet) (rest : List ReadySet),
    let n := core.val
    let u := unit.toNat
    let q := s.fireTick n u
    let c := q.core n
    let w := q.steerCfg n u
    let tok := fun i => ((c.steer.pair u i).find? (fun t => t.ordinal == r.ordinal)).getD noToken
    let z := fireResult w r.backEdge r.ordinal tok
    let f := q.fireCycle n u r
    let q1 := q.modSteer n (fun x => { x with ready := rest, fireFrom := x.fireFrom.set u (q.after n f 1), lastOrdinal := x.lastOrdinal.set u r.ordinal, buf := (setMembers (steerMode w) r.input).foldl (fun (b : Tbl (List Token)) i => b.set (4 * u + i) ((b.get [] (4 * u + i)).filter (fun t => t.ordinal != r.ordinal))) x.buf })
    (s.core n).steers = true ∧ (s.part (s.partOf (kOf n))).paused = false →
    c.steers = true ∧ takeReady u c.steer.ready = some (r, rest) →
    q.cycleDue n f = true →
    (r.backEdge = true ∨ (tok 0).blot = false ∨ (tok 0).void = true →
      exec (.steerFire core unit false) s = .next (z.outs.foldl (fun t o => t.addDue n (q.after n f 2) (4 * u + o.1) (.out u o.1 w o.2))
        (q1.modSteer n (fun x => { x with noneSel := satAdd x.noneSel z.noneSel, mergeDrop := satAdd x.mergeDrop z.mergeDrop
                                          clamp := if z.clamp then x.clamp.set u true else x.clamp })))) ∧
    (r.backEdge = false → (tok 0).blot = true → (tok 0).void = false →
      exec (.steerFire core unit false) s = .next (q1.coreErrorIn n f { kind := .blotConsumed, detail := 1, addr := 0 }))) ∧
  (∀ (s : State) (n u m cyc : Nat) (w : Word) (t : Token),
    let d : Due := { cycle := cyc, rank := 4 * u + m, what := .out u m w t }
    let b := steerBind w m
    let v := s.takeChan n false b.2 cyc
    let old := (v.core n).qs.chan b.2
    let q := (s.core n).qs.queue b.2
    (b.1 = false → (s.core n).qs.isFree b.2 = false → 8 ≤ old.length → s.dueStep n d = v.pairingOverflow n u m cyc 3 t.ordinal) ∧
    (b.1 = false → (s.core n).qs.isFree b.2 = false → old.length < 8 → ((s.dueStep n d).core n).qs.chan b.2 =
      old ++ [{ t with cepoch := v.epochOf (kOf n), repoch := (v.core n).steer.chanRepoch.get 0 b.2, sent := cyc }] ∧ keepsBut [.cores] v (s.dueStep n d)) ∧
    (b.1 = false → (s.core n).qs.isFree b.2 = true → s.dueStep n d = (if (s.core n).qs.canSend b.2 then s.leaveFree n b.2 t else s.pairingOverflow n u m cyc 3 t.ordinal)) ∧
    (b.1 = true → (s.core n).qs.isClosed b.2 = false → 16 ≤ q.length → s.dueStep n d = s.pairingOverflow n u m cyc 4 t.ordinal) ∧
    (b.1 = true → (s.core n).qs.isClosed b.2 = false → q.length < 16 → ((s.dueStep n d).core n).qs.queue b.2 = ({ t with
      cepoch := s.epochOf (kOf n), repoch := (s.core n).steer.roleEpoch, sent := cyc, rank := 4 + 4 * u + m } : Token).into q)) ∧
  (∀ (w : Word) (ord : Byte) (tok : Nat → Token) (v : Nat),
    steerMode w = 1 →
    (tok 0).void = false ∧ (tok 1).void = false →
    v = (tok 0).payload.toNat % 256 % 8 →
    let f := fireResult w false ord tok
    (∀ m t, (m, t) ∈ f.outs ↔ m < 4 ∧ steerOut w m = true ∧ t = (if m = v then tok 1 else voidOut (tok 1).ordinal (tok 1).last 0)) ∧
    f.noneSel = (if v < 4 ∧ steerOut w v = true then 0 else 1) ∧ f.mergeDrop = 0 ∧ f.clamp = false)

/-- A credit, a closure notice and a free token arrive in order, and each does what it carries -/
def Obligations.ChannelMessages : Prop :=
  (∀ (s : State) (n : Fin 1536) (ch : BitVec 3) (e : Byte) (pre post : List NetMsg),
    let u : State := { s with net := pre ++ post }
    let k := n.val
    s.net = pre ++ .credit n ch.toNat e :: post →
    (∀ m ∈ pre, isCredit n ch.toNat m = false) →
    (e ≠ s.epochOf (kOf k) → exec (.creditReturn n ch) s = .next u) ∧
    (e = s.epochOf (kOf k) → (s.core k).ctl.blockedOn = none → exec (.creditReturn n ch) s = .next (u.modQs k (fun c =>
      { c with credit := c.credit.set ch.toNat (min 16 (c.credit.get 0 ch.toNat + 1)) }))) ∧
    (∀ tok, e = s.epochOf (kOf k) → (s.core k).ctl.blockedOn = some (.send ch.toNat tok) → s.waiting k = true →
      exec (.creditReturn n ch) s = .next (((u.modQs k (fun c =>
        { c with credit := c.credit.set ch.toNat (min 16 (c.credit.get 0 ch.toNat + 1)) })).unblock k 2).leaveFree k ch.toNat tok))) ∧
  (∀ (s : State) (n : Fin 1536) (ch : BitVec 3) (pre post : List NetMsg),
    let u : State := { s with net := pre ++ post }
    let k := n.val
    let v := u.modQs k (fun c => { c with notice := c.notice.set ch.toNat true })
    s.net = pre ++ .notice n ch.toNat :: post →
    (∀ m ∈ pre, isNotice n ch.toNat m = false) →
    ((s.core k).ctl.blockedOn = none → exec (.closureNotice n ch) s = .next v) ∧
    (∀ tok, (s.core k).ctl.blockedOn = some (.send ch.toNat tok) → s.waiting k = true →
      exec (.closureNotice n ch) s = .next ((v.unblock k 2).countOrphan k ch.toNat))) ∧
  (∀ (s : State) (n : Fin 1536) (ch : BitVec 3) (fd : Word) (tok : Token) (pre post : List NetMsg) (d : Nat),
    let k := n.val
    (s.sendDue k ch.toNat).net = pre ++ .freeTok n ch.toNat fd tok :: post →
    fdestKind fd = false →
    (∀ m ∈ pre, isFreeToken n ch.toNat false m = false) →
    ((s.sendDue k ch.toNat).part ((s.sendDue k ch.toNat).partOf (kOf k))).paused = false →
    (((s.sendDue k ch.toNat).core k).physCluster (fdestCluster fd)).bind (fun j => (s.sendDue k ch.toNat).physCore j (fdestCore fd)) = some d →
    exec (.freeTokenArrival n ch) s = .next (({ s.sendDue k ch.toNat with net := pre ++ post } : State).deliver d (fdestIndex fd % 8) ((s.sendDue k ch.toNat).coreNow d) 21 tok false)) ∧
  (∀ (s : State) (n q cyc rank : Nat) (t : Token) (ruled : Bool),
    let c := (s.core n).qs
    t.cepoch = s.epochOf (kOf n) ∧ t.repoch = (s.core n).steer.roleEpoch →
    c.isClosed q = false →
    ruled = false ∨ c.mode q ≠ 2 →
    (c.queue q).length < 16 →
    let u := s.deliver n q cyc rank t ruled
    ((u.core n).qs.queue q = ({ t with sent := cyc, rank := rank } : Token).into (c.queue q) ∧ ∀ p, p ≠ q → (u.core n).qs.queue p = c.queue p) ∧ (∀ m, m ≠ n → u.core m = s.core m) ∧
      (u.core n).qs.credit = c.credit ∧ (u.core n).regs = (s.core n).regs ∧ (u.core n).ctl = (s.core n).ctl ∧ keepsBut [.cores] s u)

/-- A ruled flit goes from its source entry to what its LOCAL entry names; contributions and releases likewise -/
def Obligations.RuledDeliveries : Prop :=
  (∀ (s : State) (src dst : RulingSlot) (h : Option ParityHit) (f : Flit) (a : Arrival) (u : State),
    let test := fun (x : Arrival) => x.isAt (placeOf dst) && decide (entryDstKind x.entry < 2)
    dst.port = 0 →
    s.move (placeOf src) test h = some (f, a, u) →
    exec (.tokenDelivery src dst h) s = .next (u.arriveLocal a f)) ∧
  (∀ (s : State) (src dst : RulingSlot) (h : Option ParityHit) (f : Flit) (a : Arrival) (u : State),
    let test := fun (x : Arrival) => x.isAt (placeOf dst) && decide (entryDstKind x.entry = 2)
    dst.port = 0 →
    s.move (placeOf src) test h = some (f, a, u) →
    exec (.steerInputDelivery src dst h) s = .next (u.arriveLocal a f)) ∧
  (∀ (s : State) (src dst : RulingSlot) (h : Option ParityHit) (f : Flit) (a : Arrival) (u : State),
    let test := fun (x : Arrival) => x.isAt (placeOf dst) && decide (entryDstKind x.entry = 3)
    dst.port = 0 →
    s.move (placeOf src) test h = some (f, a, u) →
    exec (.contributionArrival (.ruled src dst h)) s = .next (u.arriveLocal a f)) ∧
  (∀ (s : State) (a : Arrival) (f : Flit) (n : Nat),
    let b := Place.ofKey a.place
    let i := entryDstIndex a.entry
    let t := s.after (32 * b.k) a.cycle 4
    b.k < 48 →
    s.physCore b.k (entryDstCore a.entry) = some n →
    (entryDstKind a.entry = 0 → s.arriveLocal a f = s.deliver n (i % 8) t b.slice f.token true) ∧
    (entryDstKind a.entry = 1 → s.arriveLocal a f = s.landFlit n (i % 8) { f with cycle := t }) ∧
    (entryDstKind a.entry = 2 → s.arriveLocal a f = s.steerDeliver n (i / 4) (i % 4) t f.token) ∧
    (entryDstKind a.entry = 3 → ∃ c : Fin 48, c.val = b.k ∧ s.arriveLocal a f = s.contribute (.cluster c (BitVec.ofNat 4 i)) t b.slice f.token)) ∧
  (∀ (s : State) (src : Place) (test : Arrival → Bool) (h : Option ParityHit) (f : Flit) (a : Arrival) (u : State),
    s.move src test h = some (f, a, u) →
    (s.part (s.partOf src.k)).paused = false ∧
    ∃ v, (v = s ∨ s.reach src.k src.key test h = none ∧ v = s.takeAt src) ∧
      ∃ pre x post, (v.cluster src.k).router.flying = pre ++ x :: post ∧ src.key ∈ x.origins ∧ a ∈ x.due ∧ test a = true ∧
        (let y : Flight := { x with due := x.due.erase a }
         let left := if y.due.isEmpty && y.next.isEmpty && y.lost.isEmpty then [] else [y]
         f.data = x.flit.data ∧ (h = none → f = x.flit) ∧ (h ≠ none → f.blot = true) ∧
         u = (v.modRouter src.k (fun r => { r with flying := pre ++ (left ++ post) })).linkHit src.k src.key h)) ∧
  (∀ (s : State) (n : Nat) (te : Bool) (ch : Nat) (p : Place) (f : Flit) (r : List Flit),
    let w := s.wayOf p
    let k := p.k
    let c := s.slotCycle p
    (s.core n).flits te ch = f :: r →
    (c < f.cycle ∨ s.hasTaken p = true → s.takeFlit n te ch p = s) ∧
    (f.cycle ≤ c → s.hasTaken p = false → ((s.takeFlit n te ch p).core n) = (s.core n).dropFlit te ch ∧
      (∀ m, m ≠ n → (s.takeFlit n te ch p).core m = s.core m) ∧
      (((s.takeFlit n te ch p).cluster k).router.flying = (s.cluster k).router.flying ++
        [{ origins := [p.key], sent := c, flit := f, due := w.due, next := w.next, lost := w.lost }]) ∧
      (s.takeFlit n te ch p).hasTaken p = true ∧
      (w.lost.length = 0 ∨ (s.part (s.partOf k)).epoch.firstStroke = false → (s.takeFlit n te ch p).parts = s.parts) ∧
      (w.lost.length ≠ 0 → (s.part (s.partOf k)).epoch.firstStroke = true → (s.takeFlit n te ch p).parts =
        (s.modEpoch (s.partOf k) (fun e => { e with reconfDrop := satAdd e.reconfDrop w.lost.length })).parts) ∧
      keepsBut [.cores, .clusters, .parts] s (s.takeFlit n te ch p))) ∧
  (∀ (s : State) (src dst : RulingSlot) (h : Option ParityHit),
    let p := placeOf src
    let lost := fun (t : State) => (t.cluster p.k).router.flying.any (fun x => x.origins.contains p.key && !x.lost.isEmpty)
    let s1 := if lost s = true then s else s.takeAt p
    s.deliverAt src dst (fun k => decide (k < 2)) h = none →
    (s.part (s.partOf p.k)).paused = false →
    (lost s1 = true → exec (.tokenDelivery src dst h) s = .next (s1.linkHit p.k p.key h)) ∧
    (lost s1 = false → exec (.tokenDelivery src dst h) s = .next s1)) ∧
  (∀ (s : State) (n : Fin 1536) (ch : BitVec 3) (fd : Word) (tok : Token) (post : List NetMsg) (k : Fin 48),
    let v := s.sendDue n.val ch.toNat
    let q : CombiningQueue := .cluster k (BitVec.ofNat 4 (fdestIndex fd))
    v.net = .freeTok n ch.toNat fd tok :: post →
    fdestKind fd = true →
    (v.part (v.partOf (kOf n))).paused = false →
    (v.core n).physCluster (fdestCluster fd) = some k.val →
    exec (.contributionArrival (.freeChan n ch)) s = .next (({ v with net := post } : State).contribute q (({ v with net := post } : State).cqNow q) 4 tok)) ∧
  (∀ (s : State) (q : CombiningQueue) (r : CqResult) (rest : List CqResult) (d : Nat),
    let i := cqIdx q
    let g := (s.cqOf q).cfg i
    let u := s.modCq q (fun c => { c with results := c.results.set i rest })
    (s.cqOf q).results.get [] i = r :: rest →
    s.cqDest q = some d →
    (s.part (s.partOf (kOf d))).paused = false →
    s.cycleDue d r.cycle = true →
    (u.epochTest d r.tok ≠ .pass → exec (.combiningRelease q) s = .next (u.dropStale d (u.epochTest d r.tok))) ∧
    (u.epochTest d r.tok = .pass → (s.core d).qs.isClosed g.queue = true → exec (.combiningRelease q) s = .next (u.countRecvDrop d)) ∧
    (u.epochTest d r.tok = .pass → (s.core d).qs.isClosed g.queue = false → ((s.core d).qs.queue g.queue).length < 16 →
      exec (.combiningRelease q) s = .next (u.enqueue d g.queue r.cycle 20 r.tok)) ∧
    (u.epochTest d r.tok = .pass → (s.core d).qs.isClosed g.queue = false → 16 ≤ ((s.core d).qs.queue g.queue).length →
      exec (.combiningRelease q) s = .next (u.cqFault q 4 r.piece)))

/-- A cycle of blocked sends is found, read twice by the Quill, and broken -/
def Obligations.DeadlockResults : Prop :=
  (∀ (s : State) (k : Fin 48),
    let cyc := s.fromLowest (firstCycle (fun n => (s.edge n).filter (fun d => decide (kOf d = k.val))) (coresOf k))
    exec (.deadlockScan k) s = .next (s.modQuill (fun q => { q with scan := q.scan.set k cyc })) ∧
    (∀ n, n ∈ cyc → ∃ d, d ∈ cyc ∧ s.edge n = some d ∧ kOf d = k.val)) ∧
  (∀ (s : State) (p : Fin 4),
    ∃ u, exec (.quillDeadlockPoll p) s = .next u ∧ keepsBut [.quill] s u ∧
    (∀ cyc, cyc ∈ u.quill.deadlock.get [] (seenKey p) ↔ cyc ∈ s.wideCycles p) ∧
    (∀ cyc, cyc ∈ u.quill.deadlock.get [] (declaredKey p) ↔ (cyc ∈ s.quill.deadlock.get [] (declaredKey p) ∨
      (cyc ∈ s.wideCycles p ∧ cyc ∈ s.quill.deadlock.get [] (seenKey p)))) ∧
    (∀ cyc, cyc ∈ s.wideCycles p ↔ (spansClusters cyc = true ∧ ∃ n, n ∈ s.coresOfPart p ∧
      followEdges s.edge 1537 n [] ≠ [] ∧ cyc = s.fromLowest (followEdges s.edge 1537 n [])))) ∧
  (∀ (s : State) (k : Fin 48),
    let cyc := s.quill.scan.get [] k
    cyc ≠ [] →
    exec (.deadlockDetected (.cluster k)) s = .next (((s.modQuill (fun q => { q with scan := q.scan.set k [] })).modCluster k (fun c =>
        { c with dlockDetected := satInc c.dlockDetected, dlockLast := BitVec.ofNat 6 cyc.length })).breakDeadlock cyc false)) ∧
  (∀ (s : State) (p : Fin 4) (cyc : List Nat) (r : List (List Nat)),
    let q := s.quill
    q.deadlock.get [] (declaredKey p) = cyc :: r →
    exec (.deadlockDetected (.quill p)) s = .next ((s.modQuill (fun q =>
      { q with deadlock := (q.deadlock.set (declaredKey p) r).set (seenKey p) ((q.deadlock.get [] (seenKey p)).filter (· != cyc)) })).breakDeadlock cyc true)) ∧
  (∀ (s : State) (a : Nat) (r : List Nat) (c : Nat) (q : Bool),
    (s.core a).ctl.context = some c →
    ∃ u src args, s.breakDeadlock (a :: r) q = (u.post 0x0060 2 src args (some (ctxPart c))).kill c (if q = true then 3 else 2) src [] ∧
      (∀ n, n ∈ a :: r → (u.core n).ctl.st = .frozen) ∧ (∀ n, n ∉ a :: r → u.core n = s.core n) ∧ keepsBut [.cores] s u)

/-- An edge occurs or is held; a crossing stall pauses the partition and is counted; a droop stretches cycles -/
def Obligations.StrokeResults : Prop :=
  (∀ (s : State) (p : Fin 4) (o : Bool) (rules : List RuleEcc) (cal : List XCal),
    s.strokesRun p = true →
    (∀ e ∈ rules, s.partOf e.k.val ≠ p.val) →
    exec (.strokeEdge p o rules cal) s = .next ((((if o = true then
      (s.modStroke p (fun x => { x with ovrMargin := satInc x.ovrMargin })).markLoss p else s).countDelay p).sendDigests p).tryEdge p true)) ∧
  (∀ (s : State) (p : Fin 4) (o : Bool) (e : RuleEcc) (cal : List XCal),
    let u := s.ruleEcc e
    s.strokesRun p = true →
    s.partOf e.k.val = p.val →
    e.uncorrectable = true →
    exec (.strokeEdge p o [e] cal) s = .next ((u.ruleFence e.k).partFault p 1 (u.cluster e.k).router.err.read.toNat cal)) ∧
  (∀ (s : State) (p : Fin 4),
    (s.part p).stroke.holdSince.isSome = true →
    (s.part p).stroke.stall = none →
    (s.part p).ckptPause = none →
    exec (.holdRelease p) s = .next (s.tryEdge p false)) ∧
  (∀ (s : State) (p : Nat),
    let v := s.modPart p (fun x => { x with lagHold := none })
    s.lagging p = none →
    (v.holdsMet p = true → ∀ first, s.tryEdge p first = v.strokeEdge p) ∧
    (v.holdsMet p = false → s.tryEdge p false = v ∧ s.tryEdge p true =
      (v.modStroke p (fun x => { x with holdCnt := satInc x.holdCnt, holdSince := some v.time })).markLoss p)) ∧
  (∀ (s : State) (p : Fin 4),
    s.strokesRun p = true →
    exec (.crossingEmptyStall p) s =
      .next (s.modStroke p (fun x => { x with stall := some .empty, ovrEmpty := satInc x.ovrEmpty, loss := true })) ∧
    exec (.crossingFullStall p) s =
      .next (s.modStroke p (fun x => { x with stall := some .full, ovrFull := satInc x.ovrFull, loss := true }))) ∧
  (∀ (s : State) (p : Fin 4) (r : Fin 8) (c : BitVec 8),
    exec (.crossingResume p) s = .next ((s.modStroke p (fun x => { x with stall := none })).resumeSends p) ∧
    ((∀ n ∈ s.coresOfPart p, ∀ ch tok, (s.core n).ctl.blockedOn ≠ some (.send ch tok)) →
      exec (.crossingResume p) s = .next (s.modStroke p (fun x => { x with stall := none }))) ∧
    ((s.region r).running = false → exec (.droopStretch r c) s = .next s) ∧
    ((s.region r).running = true → ∃ t, exec (.droopStretch r c) s = .next t ∧
      t.region r = { s.region r with stretch := satAdd (s.region r).stretch c.toNat } ∧
      (∀ q, q ≠ r.val → t.region q = s.region q) ∧ keepsBut [.module_] s t)) ∧
  (∀ (s : State) (p : Nat),
    (∀ c ∈ s.liveContexts p, (s.ctx c).lc.life ≠ .starting) →
    let t := s.countStroke p
    (t.part p).stroke.count = (s.part p).stroke.count + 1 ∧ (t.part p).stroke.loss = false ∧
    (∀ r, r < 8 → partOfQuarter s.dev.mode (r / 2) = p → (t.region r).ledger = s.time) ∧
    (∀ c, (t.ctx c).run.lsIndex = if c ∈ s.onContexts p then (s.ctx c).run.lsIndex + 1 else (s.ctx c).run.lsIndex))

/-- A landing slot writes the next flits of the landing in progress; a core write of the same cycle prevails; scrub walks the inkwell -/
def Obligations.InkwellService : Prop :=
  (∀ (s : State) (k : Fin 48) (ecc : List (Nat × Ecc)) (col : BitVec 64) (l : Landing) (m : Nat),
    let v := s.inkSettle k
    let h := landFields l.header
    let fs := v.streamOf l.core l.stream
    let off := h.off + 32 * l.done
    let u := (v.dropStream l.core l.stream (m + 1)).inkFind k ((slotWords off).take (8 * (m + 1))) 2 0 ecc
    let t := (fs.take (m + 1)).zipIdx.foldl (fun t e => t.landOne k h (off + 32 * e.2) e.1 (col.extractLsb' (32 * e.2) 32)) u
    let hit := (List.range (m + 1)).any (fun i => u.landAdmits k h (off + 32 * i) && decide (col.extractLsb' (32 * i) 32 ≠ 0))
    (s.part (s.partOf k)).ckptPause = none →
    s.domOn k = true →
    s.liveContexts (s.partOf k) ≠ [] →
    (v.cluster k).ink.landing = some l →
    slotFlits fs.length (h.count - l.done) off = m + 1 →
    exec (.landingSlotWrite k ecc col) s = .next ((if hit = true then t.countCollide k 1 else t).landingAdvance k (m + 1))) ∧
  (∀ (s : State) (k off : Nat) (h : LandHeader) (f : Flit) (hit : BitVec 32),
    let a := inkBase k + off
    let t := s.landOne k h off f hit
    s.landOutside k h = false →
    h.isRemote = false →
    off % 32 = 0 →
    (s.cluster k).ink.checking = false →
    (∀ i, i < 32 → t.store.byte (a + i) = if hit.getLsbD i = true then s.store.byte (a + i) else (toLe f.data.toNat 32).getD i 0) ∧
    (∀ b, b < a ∨ a + 32 ≤ b → t.store.byte b = s.store.byte b ∧ t.store.blotAt b = s.store.blotAt b) ∧
    t.store.blotAt a = (if hit = 0 then f.blot else s.store.blotAt a) ∧
    keepsBut [.store] s t) ∧
  (∀ (s : State) (k off : Nat) (h : LandHeader) (f : Flit) (hit : BitVec 32),
    s.landOutside k h = true ∨ (h.isRemote = true ∧ s.windowAdmits k h off = false) →
    s.landOne k h off f hit = s.modInk k (fun x => { x with winDrop := satAdd x.winDrop 1 })) ∧
  (∀ (s : State) (k : Fin 48) (ecc : List (Nat × Ecc)) (sp : List Nat),
    let i := (s.cluster k).ink
    let n := i.position.toNat
    let u := ((s.inkSettle k).inkFind k (slotWords (n * 64)) 3 0 ecc).inkSplits k (slotWords (n * 64)) sp
    i.scrub = true →
    s.domOn k = true →
    exec (.scrubAccess k ecc sp) s = .next (u.modInk k (fun x =>
      if 1572864 ≤ x.position.toNat + 1 then { x with position := 0, passes := satInc x.passes } else { x with position := x.position + 1 })) ∧
    (u.cluster k).ink.position = i.position)

/-- A memory controller serves its requests in order, returns read data, and carries out position writes and slot commands -/
def Obligations.ControllerResults : Prop :=
  (∀ (s : State) (m : Fin 16) (a : RulingSlot) (h : Option ParityHit) (e l t : Ecc) (ls : List LineFind) (f : Flit) (b : Arrival) (u : State),
    let fm : Finds := { first := some (e, l, t), lines := ls }
    (s.mcOf m).st = .ready →
    s.move (placeOf a) (fun x => decide ((Place.ofKey x.place).port = 13 ∧ (Place.ofKey x.place).k = mcCluster m)) h = some (f, b, u) →
    exec (.mcRequest m (.edge a h) e l t ls) s = .next ((u.mcArrive m (Place.ofKey b.place).slice f).serveAll m fm)) ∧
  (∀ (s : State) (m : Fin 16) (e l t : Ecc) (ls : List LineFind) (q : McSpine) (rest : List McSpine),
    let fm : Finds := { first := some (e, l, t), lines := ls }
    let x : McPending := { request := { data := 0, blot := false }, data := [], unit := some q, since := s.time, no := s.bulk.arrivals }
    (s.mcOf m).st = .ready →
    (s.mcOf m).spine = q :: rest →
    exec (.mcRequest m .spine e l t ls) s = .next (((s.modMc m (fun x => { x with spine := rest })).mcQueue m { data := 0, blot := false } [] (some q)).serveAll m fm) ∧
    (((s.modMc m (fun x => { x with spine := rest })).mcQueue m { data := 0, blot := false } [] (some q)).mcOf m).pending = (s.mcOf m).pending ++ [x] ∧
    (∀ v g, State.serve v m x g = (v.write q.addr (toLe q.unit.toNat 32) q.blot).bulkUnitDone q.message) ∧
    (∀ v n x r, (State.mcOf v m).pending = x :: r → x.special = false → v.mcHolds m x = false → v.mcWaits m x = false →
      v.serveFront (n + 1) m fm = ((v.modMc m (fun y => { y with pending := r })).serve m x fm).serveFront n m { first := none, lines := ls }) ∧
    (∀ v n x r, (State.mcOf v m).pending = x :: r → x.special = true ∨ v.mcHolds m x = true ∨ v.mcWaits m x = true → v.serveFront n m fm = v)) ∧
  (∀ (s : State) (m : Nat) (q : McPending) (n : Nat),
    let r := requestOf q.request
    q.unit = none →
    r.host = false →
    s.requestCore m r = some n →
    r.kind = 5 →
    (s.mcWaits m q = true ↔ ∃ m2, m2 < 16 ∧ m2 ≠ m ∧ ∃ x, x ∈ (s.mcOf m2).pending ∧ x.no < q.no ∧ x.unit = none ∧ (requestOf x.request).host = false ∧
      ((requestOf x.request).kind = 2 ∨ (requestOf x.request).kind = 3) ∧ s.requestCore m2 (requestOf x.request) = some n)) ∧
  (∀ (s : State) (m : Nat) (q : McPending) (f : Finds),
    let r := requestOf q.request
    let line := r.addr / 64 * 64
    q.unit = none →
    r.host = false →
    r.kind < 2 →
    s.bulkServed m (s.requestCtx m r) line = true →
    (r.kind = 1 → s.serve m q f = s.mcWrite line q.data) ∧
    (r.kind = 0 → f.line line = (.ok, .ok) → s.serve m q f = s.modMc m (fun x => { x with reads := x.reads ++
      [{ slice := r.rslice, since := q.since, lo := s.unitFlit line, hi := s.unitFlit (line + 32), loSent := false }] }))) ∧
  (∀ (s : State) (m : Fin 16) (sl : Bool) (slot : Byte) (dst : RulingSlot) (h : Option ParityHit),
    let p : Place := ⟨mcCluster m, 13, if sl = true then 1 else 0, slot.toNat⟩
    let tst := fun (a : Arrival) => a.isAt (placeOf dst)
    let v := s.takeRead m sl p
    (s.part (s.partOf p.k)).paused = false →
    dst.port = 0 →
    (∀ f a u, s.reach p.k (edgeKey p) tst h = some (f, a, u) → exec (.mcReadDataReturn m sl slot dst h) s = .next (u.arriveLocal a f)) ∧
    (s.reach p.k (edgeKey p) tst h = none →
      (∀ f a u, v.reach p.k (edgeKey p) tst h = some (f, a, u) → exec (.mcReadDataReturn m sl slot dst h) s = .next (u.arriveLocal a f)) ∧
      (v.reach p.k (edgeKey p) tst h = none → exec (.mcReadDataReturn m sl slot dst h) s = .next
        (if (v.cluster p.k).router.flying.any (fun x => x.origins.contains (edgeKey p) && !x.lost.isEmpty) = true then v.linkHit p.k (edgeKey p) h else v))) ∧
    ((s.cluster p.k).router.taken.contains (edgeKey p) = true → v = s) ∧
    (∀ f u, (s.cluster p.k).router.taken.contains (edgeKey p) = false → s.popMcRead m sl = some (f, u) →
      v = u.launch p.k [edgeKey p] (s.slotCycle p) f (s.wayFrom p))) ∧
  (∀ (r : McRead) (rest : List McRead),
    (r.host = none → r.loSent = false → popRead r.slice (r :: rest) = some ((r.lo, r), { r with loSent := true } :: rest)) ∧
    (r.host = none → r.loSent = true → popRead r.slice (r :: rest) = some ((r.hi, r), rest)) ∧
    (r.host ≠ none → popRead r.slice (r :: rest) = none) ∧
    (∀ sl, sl ≠ r.slice → popRead sl (r :: rest) = (popRead sl rest).map (fun e => (e.1, r :: e.2)))) ∧
  (∀ (s : State) (m : Fin 16) (ls : List LineFind) (q : McPending) (rest : List McPending),
    let r := requestOf q.request
    let u := s.modMc m (fun x => { x with pending := rest })
    let c := u.requestCtx m r
    (s.mcOf m).pending = q :: rest →
    (s.mcOf m).st = .ready →
    q.unit = none →
    r.host = false →
    r.kind = 4 →
    q.request.blot = false →
    (u.slotOpen r.slot c = false → exec (.positionWrite m ls) s = .next ((u.requestFault m 4 r).serveEvery (.of ls))) ∧
    (u.slotOpen r.slot c = true → (r.pos < (u.slot r.slot).pos ∨ 4194304 < r.pos) →
      exec (.positionWrite m ls) s = .next ((u.requestFault m 5 r).serveEvery (.of ls))) ∧
    (u.slotOpen r.slot c = true → (u.slot r.slot).pos ≤ r.pos → r.pos ≤ 4194304 →
      exec (.positionWrite m ls) s = .next ((u.modSlot r.slot (fun x => { x with pos := r.pos })).serveEvery (.of ls)))) ∧
  (∀ (s : State) (m : Fin 16) (q : McPending) (rest : List McPending) (tbl child : List (BitVec 22 × Ecc)) (ls : List LineFind),
    let r := requestOf q.request
    let u := s.modMc m (fun x => { x with pending := rest })
    let c := u.requestCtx m r
    let v := u.readTable c r.slot tbl ls
    let w := v.readTable c r.other child ls
    (s.mcOf m).pending = q :: rest →
    (s.mcOf m).st = .ready →
    q.unit = none →
    r.host = false →
    r.kind = 5 →
    s.mcWaits m q = false →
    (r.op = 3 → exec (.slotCmdFork m tbl ls) s = .next ((v.slotCommand m r (v.forkSlot c r.slot r.other r.pos)).serveEvery (.of ls))) ∧
    (r.op = 4 → exec (.slotCmdRewind m tbl ls) s = .next ((v.slotCommand m r (v.rewindSlot c r.slot r.pos)).serveEvery (.of ls))) ∧
    (r.op = 5 → exec (.slotCmdAccept m tbl child ls) s = .next ((w.slotCommand m r (w.acceptSlot c r.slot r.other)).serveEvery (.of ls))) ∧
    u.readTable c r.slot [] [] = u) ∧
  (∀ (s v : State) (m : Nat) (r : Request) (e : SlotRefusal),
    s.slotCommand m r (.inr v) = ((v.notBusy r.slot).notBusy r.other).addDevice r.done 1 ∧
    s.slotCommand m r (.inl e) = ((s.notBusy r.slot).notBusy r.other).requestFault m (if e = .state then 4 else 5) r) ∧
  (∀ (s v : State) (c n p : Nat),
    s.rewindSlot c n p = .inr v →
    s.slotOpen n c = true ∧ p ≤ (s.slot n).pos ∧ (s.sharesTier n = true → (s.slot n).tierPos ≤ p) ∧ (v.slot n).pos = p ∧ (v.slot n).busy = false ∧
      (v.slot n).commands = satInc (s.slot n).commands ∧ (∀ k, k ≠ n → v.slot k = s.slot k)) ∧
  (∀ (s : State) (m : Fin 16) (ch : BitVec 2) (n : Byte) (ls : List LineFind),
    (s.mcOf m).st = .ready →
    exec (.mcRefresh m) s = .next (s.modMc m (fun x => { x with refreshes := x.refreshes + 1 })) ∧
    exec (.mcWckCheck m ch true ls) s = .next (s.modMc m (fun x => { x with held := x.held ||| BitVec.ofNat 4 (2 ^ ch.toNat) })) ∧
    exec (.mcWckCheck m ch false ls) s = .next ((s.modMc m (fun x => { x with held := x.held &&& ~~~BitVec.ofNat 4 (2 ^ ch.toNat) })).serveAll m (.of ls)) ∧
    exec (.mcLinkPoll m n) s = .next (s.modMc m (fun x => { x with writeErr := satAdd x.writeErr n.toNat })) ∧
    ((s.mcOf m).held.getLsbD (s.chanAt (s.packageLine m (s.mcOf m).scrubLine)) = true → exec (.mcScrubRead m .ok .ok) s = .next s) ∧
    ((s.mcOf m).held.getLsbD (s.chanAt (s.packageLine m (s.mcOf m).scrubLine)) = false → exec (.mcScrubRead m .ok .ok) s = .next (s.modMc m (fun x =>
      if packageLines ≤ (s.mcOf m).scrubLine + 1 then { x with scrubLine := 0, passes := satInc x.passes, passCorr := [] }
      else { x with scrubLine := (s.mcOf m).scrubLine + 1 }))))

/-- Doorbells move the pointers of an active queue or are counted as bad; the enables start and stop pairs and rings -/
def Obligations.QueueRegisters : Prop :=
  (∀ (s : State) (fn : Fin 6) (n : Byte) (v : Word),
    let f := fn.val
    let q := s.qp f n.toNat
    let x := v.toNat % 4096
    n.toNat < pairsOf f →
    (q.active = true → x < q.sqSize → exec (.sqTailDoorbell fn n v) s = .next (s.modQp f n.toNat (fun q => { q with sqTail := x }))) ∧
    (q.active = true → x < q.cqSize → exec (.cqHeadDoorbell fn n v) s = .next (s.modQp f n.toNat (fun q => { q with cqHead := x }))) ∧
    ((q.active = false ∨ q.sqSize ≤ x) →
      exec (.sqTailDoorbell fn n v) s = .next (s.modFn f (fun y => { y with badDoorbell := satInc y.badDoorbell }))) ∧
    ((q.active = false ∨ q.cqSize ≤ x) →
      exec (.cqHeadDoorbell fn n v) s = .next (s.modFn f (fun y => { y with badDoorbell := satInc y.badDoorbell })))) ∧
  (∀ (s : State) (fn : Fin 6) (v : Word),
    let f := fn.val
    let r := (s.fn f).ring
    let x := v.toNat % 65536
    fn ≠ 5 →
    (r.active = true → x < r.size → exec (.eventRingHeadDoorbell fn v) s =
      .next ((s.modFn f (fun y => { y with ring := { y.ring with head := x } })).flushRing f)) ∧
    ((r.active = false ∨ r.size ≤ x) →
      exec (.eventRingHeadDoorbell fn v) s = .next (s.modFn f (fun y => { y with badDoorbell := satInc y.badDoorbell })))) ∧
  (∀ (s : State) (fn : Fin 6) (n : Byte) (v : Word),
    let f := fn.val
    let q := s.qp f n.toNat
    let sq := (v.extractLsb' 12 12).toNat + 1
    let cq := (v.extractLsb' 0 12).toNat + 1
    n.toNat < pairsOf f →
    ∃ t, exec (.qpEnable fn n v) s = .next t ∧ keepsBut [.host] s t ∧ (∀ m, m ≠ n.toNat → t.qp f m = s.qp f m) ∧
      (q.active = true → t.qp f n.toNat = { q with enable := true, fault := false, halted := q.enable && q.halted, irqEn := v.getLsbD 24, vector := v.extractLsb' 25 6 }) ∧
      (q.active = false → t.qp f n.toNat =
        { q with enable := true, fault := decide (sq < 2 ∨ cq < 4), active := decide (2 ≤ sq ∧ 4 ≤ cq), irqEn := v.getLsbD 24,
                 vector := v.extractLsb' 25 6, sqSize := sq, cqSize := cq, sqHead := 0, sqTail := 0, cqHead := 0, cqTail := 0,
                 phase := true, fetched := [], halted := q.enable && q.halted })) ∧
  (∀ (s : State) (fn : Fin 6) (n : Byte) (v : Word),
    let f := fn.val
    let q := s.qp f n.toNat
    n.toNat < pairsOf f →
    q.active = true →
    exec (.qpDisable fn n v) s = .next (s.modQp f n.toNat (fun q =>
        { q with enable := false, irqEn := v.getLsbD 24, vector := v.extractLsb' 25 6 })) ∧
    (q.enable = false → q.fetched = [] → (∀ e ∈ (s.fn f).parked, e.pair ≠ n.toNat) →
      exec (.qpDeactivate fn n) s = .next (s.modQp f n.toNat (fun q => { q with active := false }))) ∧
    ((q.enable = true ∨ q.fetched ≠ []) → exec (.qpDeactivate fn n) s = .next s)) ∧
  (∀ (s : State) (fn : Fin 6) (v : Word),
    let f := fn.val
    let r := (s.fn f).ring
    let size := v.toNat % 65536 + 1
    fn ≠ 5 →
    r.held = [] →
    ∃ t, exec (.eventRingEnable fn v) s = .next t ∧ keepsBut [.host] s t ∧ (∀ g, g ≠ f → t.fn g = s.fn g) ∧
      (r.active = true → (t.fn f).ring = { r with enable := v.getLsbD 31, active := v.getLsbD 31, irqEn := v.getLsbD 24, vector := v.extractLsb' 25 6 }) ∧
      (r.active = false → (t.fn f).ring = { r with enable := v.getLsbD 31, active := v.getLsbD 31 && decide (16 ≤ size),
                                                   irqEn := v.getLsbD 24, vector := v.extractLsb' 25 6, size := size,
                                                   head := 0, tail := 0, phase := true })) ∧
  (∀ (s : State) (fn : Fin 6) (v : Word),
    fn ≠ 5 →
    exec (.eventLostClear fn v) s = .next (if v.getLsbD 30 = true then
      s.modFn fn.val (fun x => { x with ring := { x.ring with lost := false, lostCnt := 0 } }) else s))

/-- A fetch moves the head or faults the pair; messages, resets and D-states act on the function they name -/
def Obligations.FetchAndInterrupts : Prop :=
  (∀ (s : State) (fn : Fin 6) (n : Byte) (p : List Byte),
    let f := fn.val
    let q := s.qp f n.toNat
    let k := pktHdr fn n p
    let op := fld p 0 2
    let out := (s.pairFails f n.toNat)
    let u := (s.fetched f n.toNat p none).readBlock k p
    let v := (s.fetched f n.toNat p (some s.host.nextJob)).readBlock k p
    n.toNat < pairsOf f →
    s.mayFetch f n.toNat = true →
    exec (.commandFetch fn n none true) s = .next out ∧
    (s.packetRefusal k p = none → exec (.commandFetch fn n (some p) true) s = .next u) ∧
    (∀ st, s.packetRefusal k p = some st → k.ordered = false ∨ s.sqClear k = true →
      exec (.commandFetch fn n (some p) true) s = .next (
        let t := (if st = .aborted then v.countHostFail f else v).complete k op st 0
        if op = 0x0104 then t.newNonce f else t)) ∧
    (s.packetRefusal k p ≠ none → k.ordered = true → s.sqClear k = false → exec (.commandFetch fn n (some p) true) s = .next s) ∧
    (∀ x, q.active = true → exec (.commandFetch fn n x false) s = .next out) ∧
    (out.qp f n.toNat = { q with fault := true, halted := true } ∧ (out.fn f).hostFail = satInc (s.fn f).hostFail) ∧
    (u.qp f n.toNat = { q with sqHead := (q.sqHead + 1) % q.sqSize, fetched := q.fetched ++ [{ packet := p, job := none }] }) ∧
    (s.fetched f n.toNat p none).out = s.out ++ [.hostRead f (q.sqBase.toNat + 64 * q.sqHead) 64]) ∧
  (∀ (s : State) (h : Hdr) (c : CmdSpec),
    let l := (s.qp h.fn.val h.sq.toNat).fetched
    let asks := fun (e : Fetched) => e.waits h = true ∧ spells h c e.packet = true
    (h.fn = 5 → s.mayStart h c = true) ∧
    (h.fn ≠ 5 → (∃ e, e ∈ l ∧ e.waits h = true) → (s.mayStart h c = true ↔ (∃ e, e ∈ l ∧ asks e) ∧
      (h.ordered = true → (∀ e ∈ (s.fn h.fn.val).parked, e.pair ≠ h.sq.toNat) ∧ ∃ e, l.head? = some e ∧ asks e))) ∧
    (h.fn ≠ 5 → (∀ e, e ∈ l → e.waits h = false) → (s.mayStart h c = true ↔ h.ordered = false ∨ s.sqClear h = true)) ∧
    (∀ ok body, s.quill.running = false → s.hostCmd h c ok body = s) ∧
    (∀ ok body, s.leftFor h c = none → s.mayStart h c = false → s.hostCmd h c ok body = s) ∧
    (∀ ok body st, s.quill.running = true → s.leftFor h c = none → s.mayStart h c = true → (s.claim h c).refuses h c ok = some st →
      s.hostCmd h c ok body = ((s.claim h c).complete h c.opcode st 0).unclaim h s.host.nextJob) ∧
    (∀ ok body, s.quill.running = true → s.leftFor h c = none → s.mayStart h c = true → (s.claim h c).refuses h c ok = none →
      s.hostCmd h c ok body = (body (s.claim h c)).unclaim h s.host.nextJob)) ∧
  (∀ (s : State) (h : Hdr) (c : CmdSpec) (ok : Bool) (body : State → State) (x : Left),
    let f := h.fn.val
    let v := (s.fn f).version
    let q := s.qp f h.sq.toNat
    let s1 := (s.modFn f (fun y => { y with left := y.left.erase x, version := x.version })).modQp f h.sq.toNat (fun _ => Qp.reset)
    let t := (s1.checked h c ok body).silence s.host.nextJob
    s.quill.running = true →
    s.leftFor h c = some x →
    s.hostCmd h c ok body = (t.modFn f (fun y => { y with version := if c.opcode = 1 then y.version else v })).modQp f h.sq.toNat (fun _ => q) ∧
    (x ∈ (s.fn f).left ∧ x.sq = h.sq.toNat ∧ spells h c x.packet = true) ∧
    (∀ i j, (i, j) ∈ t.host.jobs → s.host.nextJob ≤ i → j.silent = true)) ∧
  (∀ (s : State) (f n : Nat),
    s.mayFetch f n = true →
    let q := s.qp f n
    s.quill.running = true ∧ q.enable = true ∧ q.active = true ∧ q.halted = false ∧ (s.fn f).d3 = false ∧ (s.fn f).bme = true ∧ q.sqHead ≠ q.sqTail ∧
      2 * (q.inFlight + 1) + (q.cqTail + q.cqSize - q.cqHead) % q.cqSize < q.cqSize) ∧
  (∀ (s : State) (i : Nat) (j : Job),
    s.job i = some j →
    j.silent = false →
    (j.deferred = true → exec (.deferredCompletion i) s = .next s) ∧
    (j.deferred = false → exec (.deferredCompletion i) s = .next
      (({ s with host := { s.host with jobs := s.host.jobs.set i { j with deferred := true } } } : State).writeCq j.hdr .deferred 0))) ∧
  (∀ (s : State) (fn : Fin 6) (v : BitVec 6),
    let x := s.fn fn.val
    x.msixDue.contains v.toNat = true →
    (x.d3 = false ∧ x.bme = true ∧ x.msixOn = true ∧ x.msixMask = false ∧ x.msixMasked.getLsbD v.toNat = false →
      exec (.msixMessage fn v) s =
        .next ((s.modFn fn.val (fun y => { y with msixDue := setDel y.msixDue v.toNat })).emit (.msix fn.val v.toNat))) ∧
    (x.d3 = true ∨ x.bme = false ∨ x.msixOn = false ∨ x.msixMask = true ∨ x.msixMasked.getLsbD v.toNat = true →
      exec (.msixMessage fn v) s = .next s)) ∧
  (∀ (s : State) (fn : Fin 6),
    let f := fn.val
    fn ≠ 5 →
    (∃ t, exec (.hostFunctionReset (.flr fn)) s = .next t ∧ t.fn f = { Fn.reset with
        nonce := (s.fn f).nonce, spdm := (s.fn f).spdm, ideKey := (s.fn f).ideKey, aer := (s.fn f).aer, left := (s.fn f).unstarted } ∧
      (∀ g, g ≠ f → t.fn g = s.fn g) ∧ keepsBut [.host, .ctxs] s t) ∧
    exec (.hostFunctionReset .hot) s = .next ((((((s.resetFn 0).resetFn 1).resetFn 2).resetFn 3).resetFn 4).dropIde) ∧
    exec (.d3hotEntry fn) s = .next (s.modFn f (fun x => { x with d3 := true })) ∧
    ((s.fn f).d3 = true → exec (.d0Return fn) s = .next ((s.modFn f (fun y => { y with d3 := false })).flushFn f)) ∧
    (∀ t : State, (t.fn f).d3 = true ∨ (t.fn f).bme = false → t.flushFn f = t) ∧
    (∀ t : State, (t.fn f).d3 = false → (t.fn f).bme = true → (t.fn f).parkedData = [] → (t.fn f).parked = [] →
      t.flushFn f = (t.modFn f (fun y => { y with parked := [], parkedData := [] })).flushRing f)) ∧
  (∀ (s : State) (fn : Fin 6) (b : Bool) (g : BitVec 3) (v : BitVec 6) (a : Word) (l : HostLink),
    let f := fn.val
    fn ≠ 5 →
    linkLegal l = true ∧ l.speed ≠ 0 →
    exec (.pcieConfigWrite fn (.busMaster b)) s = .next ((s.modFn f (fun x => { x with bme := b })).flushFn f) ∧
    (g.toNat ≤ (if fn = 0 then 6 else 4) → exec (.pcieConfigWrite fn (.bar2Size g)) s = .next (s.modFn f (fun x => { x with b2Log := g }))) ∧
    ((if fn = 0 then 6 else 4) < g.toNat → exec (.pcieConfigWrite fn (.bar2Size g)) s = .next s) ∧
    exec (.pcieConfigWrite fn (.msixEnable b)) s = .next (s.modFn f (fun x => { x with msixOn := b })) ∧
    exec (.pcieConfigWrite fn (.msixMask b)) s = .next (s.modFn f (fun x => { x with msixMask := b })) ∧
    exec (.pcieConfigWrite fn (.msixVector v true)) s = .next (s.modFn f (fun x => { x with msixMasked := x.msixMasked ||| BitVec.ofNat 64 (2 ^ v.toNat) })) ∧
    exec (.pcieConfigWrite fn (.aerClear a)) s = .next (s.modFn f (fun x => { x with aer := x.aer &&& ~~~a })) ∧
    exec (.pcieConfigWrite 0 (.vfEnable true)) s = .next { s with host := { s.host with vfOn := true } } ∧
    exec (.pcieLinkStateChange l []) s = .next { s with host := { s.host with link := l } })

/-- BAR2 accesses and DMA reach backed device memory, carry blots, and are refused elsewhere -/
def Obligations.HostAccessResults : Prop :=
  (∀ (s : State) (fn : Fin 6),
    fn ≠ 5 →
    exec (.bar0Reject fn false) s = .next (s.modFn fn.val (fun x => { x with barReject := satInc x.barReject })) ∧
    exec (.bar0Reject fn true) s =
      .next ((s.modFn fn.val (fun x => { x with barReject := satInc x.barReject })).emit (.barData fn.val none false))) ∧
  (∀ (s : State) (fn : Fin 6) (off : BitVec 40) (len : Nat) (e : List (DWord × Ecc)) (sp : List DWord) (ls : List LineFind),
    let a := s.bar2Addr fn.val off.toNat
    fn ≠ 5 →
    (∀ m t, s.bar2Target fn.val a len = some m → s.devReady m a len ls = some t → ∃ u, u = (t.devFinds m a len e ls).devSplits m a len sp ∧
      exec (.bar2Read fn off len e sp ls) s =
        .next (u.emit (.barData fn.val (some ((u.devStore m).bytes a len)) ((u.devStore m).blotRange a len)))) ∧
    (∀ m, s.bar2Target fn.val a len = some m → s.devReady m a len ls = none → exec (.bar2Read fn off len e sp ls) s = .next s) ∧
    (s.bar2Target fn.val a len = none → exec (.bar2Read fn off len e sp ls) s =
      .next ((s.modFn fn.val (fun x => { x with barReject := satInc x.barReject })).emit (.barData fn.val none false)))) ∧
  (∀ (s : State) (fn : Fin 6) (off : BitVec 40) (bs : List Byte) (p : Bool) (e : List (DWord × Ecc)) (lost : List Nat) (ls : List LineFind),
    let a := s.bar2Addr fn.val off.toNat
    let n := bs.length
    fn ≠ 5 →
    bs ≠ [] →
    (∀ m t, s.bar2Target fn.val a n = some m → s.devReady m a n ls = some t → exec (.bar2Write fn off bs p e lost ls) s =
      .next ((t.devWriteEcc m a n e ls).devWrite m a bs (fun _ => p) lost)) ∧
    (∀ t, s.bar2Target fn.val a n = some .bulk → s.devReady .bulk a n [] = some t → exec (.bar2Write fn off bs p [] lost []) s = .next (t.write a bs p)) ∧
    (∀ m, s.bar2Target fn.val a n = some m → s.devReady m a n ls = none → exec (.bar2Write fn off bs p e lost ls) s = .next s) ∧
    (s.bar2Target fn.val a n = none → exec (.bar2Write fn off bs p e lost ls) s =
      .next (s.modFn fn.val (fun x => { x with barReject := satInc x.barReject })))) ∧
  (∀ (s sx : State) (h : Hdr) (ha da : DWord) (len : Word) (dir : Byte),
    startsIn s h ({ anySpec 0x0301 true false false with work := true, args := [(16, 8, ha.toNat), (24, 8, da.toNat), (32, 4, len.toNat), (36, 1, dir.toNat)] }) sx →
    sx.refuses h ({ anySpec 0x0301 true false false with work := true, args := [(16, 8, ha.toNat), (24, 8, da.toNat), (32, 4, len.toNat), (36, 1, dir.toNat)] }) (decide (ha.toNat % 4 = 0 ∧ da.toNat % 4 = 0 ∧ 4 ≤ len.toNat ∧ len.toNat % 4 = 0 ∧ dir.toNat ≤ 1)) = none →
    (sx.dmaTarget h da.toNat len.toNat = none → exec (.dma h ha da len dir) s = .next (((sx.complete h 0x0301 .badParam 0)).unclaim h s.host.nextJob)) ∧
    ((sx.dmaTarget h da.toNat len.toNat).isSome = true → ∃ u, u = sx.addJob h 0x0301 (.dma h ha da len dir) 0 ∧
      exec (.dma h ha da len dir) s = .next (((if dir = 0 then u.emit (.hostRead h.fn.val ha.toNat len.toNat) else u)).unclaim h s.host.nextJob))) ∧
  (∀ (s : State) (i : Nat) (j : Job) (h : Hdr) (ha da : DWord) (len : Word) (dir : Byte) (m : DevMem) (po lost : List Nat) (e : List (DWord × Ecc)) (sp : List DWord) (ls : List LineFind) (t : State),
    let a := da.toNat
    let n := len.toNat
    let u := (t.devFinds m a n e ls).devSplits m a n sp
    let k := (u.devStore m).cleanBytes a n
    s.job i = some j →
    j.cmd = .dma h ha da len dir →
    s.dmaTarget h a n = some m →
    s.devReady m a n ls = some t →
    (∀ bs, dir = 0 → exec (.dmaTransferDone i (some bs) e lost po sp ls) s =
      .next (((t.devWriteEcc m a n e ls).devWrite m a (bs.take n) po.contains lost).finish i (if bs.length < n then .aborted else .ok) (min n bs.length))) ∧
    (∀ bs, dir ≠ 0 → exec (.dmaTransferDone i (some bs) e lost po sp ls) s = .next ((if k = 0 then u
      else u.toHost h.fn.val ha.toNat ((u.devStore m).bytes a k)).finish i (if k < n then .aborted else .ok) k)) ∧
    exec (.dmaTransferDone i none e lost po sp ls) s = .next (s.finish i .aborted 0)) ∧
  (∀ (s : State) (m : Nat) (r : Request) (data : List Flit) (since n : Nat),
    let c := s.requestCtx m r
    let f := (s.ctx c).run.fn
    let a := s.hostAddr n c (r.addr % 2 ^ 40)
    s.requestCore m r = some n →
    homeOf (kOf n) = m →
    (s.hostCut c = false → r.toHost = true → s.serveHost m r data since = s.emit (.hostWrite f a (data.flatMap Flit.bytes))) ∧
    (s.hostCut c = false → r.toHost = false → s.serveHost m r data since =
      (s.modMc m (fun x => { x with reads := x.reads ++ [{ slice := r.rslice, since := since, lo := { data := 0, blot := false }, hi := { data := 0, blot := false }, loSent := false, host := some (n, f) }] })).emit (.hostRead f a 64)) ∧
    (s.hostCut c = true → r.toHost = true → s.serveHost m r data since = s.countHostFail f) ∧
    (s.hostCut c = true → r.toHost = false → s.serveHost m r data since = (s.countHostFail f).queueHost m r.rslice since [] true))

/-- SYNC_OP sets, adds to, reads and waits on the counter it names, with the value in RESULT -/
def Obligations.SyncOpResults : Prop :=
  (∀ (s sx : State) (h : Hdr) (sc cl : Byte) (ix : Half) (v : Word) (c : Counter),
    let x := sx.counter c
    startsIn s h ({ anySpec 0x0307 true false false with work := true, args := [(16, 1, 0), (17, 1, sc.toNat), (18, 1, cl.toNat), (20, 2, ix.toNat)] ++ [(24, 4, v.toNat)] }) sx →
    sx.refuses h ({ anySpec 0x0307 true false false with work := true, args := [(16, 1, 0), (17, 1, sc.toNat), (18, 1, cl.toNat), (20, 2, ix.toNat)] ++ [(24, 4, v.toNat)] }) (syncArgsOk h sc cl ix) = none →
    sx.syncTarget h sc cl ix = .inr c →
    exec (.syncOpSet h sc cl ix v) s = .next ((((sx.syncApply c true v).complete h 0x0307 .ok v.toNat)).unclaim h s.host.nextJob)) ∧
  (∀ (s sx : State) (h : Hdr) (sc cl : Byte) (ix : Half) (v : Word) (st : Status),
    startsIn s h ({ anySpec 0x0307 true false false with work := true, args := [(16, 1, 0), (17, 1, sc.toNat), (18, 1, cl.toNat), (20, 2, ix.toNat)] ++ [(24, 4, v.toNat)] }) sx →
    sx.refuses h ({ anySpec 0x0307 true false false with work := true, args := [(16, 1, 0), (17, 1, sc.toNat), (18, 1, cl.toNat), (20, 2, ix.toNat)] ++ [(24, 4, v.toNat)] }) (syncArgsOk h sc cl ix) = none →
    sx.syncTarget h sc cl ix = .inl st →
    exec (.syncOpSet h sc cl ix v) s = .next (((sx.complete h 0x0307 st 0)).unclaim h s.host.nextJob)) ∧
  (∀ (s sx : State) (h : Hdr) (sc cl : Byte) (ix : Half) (v : Word) (c : Counter),
    let x := sx.counter c
    startsIn s h ({ anySpec 0x0307 true false false with work := true, args := [(16, 1, 1), (17, 1, sc.toNat), (18, 1, cl.toNat), (20, 2, ix.toNat)] ++ [(24, 4, v.toNat)] }) sx →
    sx.refuses h ({ anySpec 0x0307 true false false with work := true, args := [(16, 1, 1), (17, 1, sc.toNat), (18, 1, cl.toNat), (20, 2, ix.toNat)] ++ [(24, 4, v.toNat)] }) (syncArgsOk h sc cl ix) = none →
    sx.syncTarget h sc cl ix = .inr c →
    exec (.syncOpAdd h sc cl ix v) s = .next ((((sx.syncApply c false v).complete h 0x0307 .ok (x + v).toNat)).unclaim h s.host.nextJob)) ∧
  (∀ (s sx : State) (h : Hdr) (sc cl : Byte) (ix : Half) (v : Word) (st : Status),
    startsIn s h ({ anySpec 0x0307 true false false with work := true, args := [(16, 1, 1), (17, 1, sc.toNat), (18, 1, cl.toNat), (20, 2, ix.toNat)] ++ [(24, 4, v.toNat)] }) sx →
    sx.refuses h ({ anySpec 0x0307 true false false with work := true, args := [(16, 1, 1), (17, 1, sc.toNat), (18, 1, cl.toNat), (20, 2, ix.toNat)] ++ [(24, 4, v.toNat)] }) (syncArgsOk h sc cl ix) = none →
    sx.syncTarget h sc cl ix = .inl st →
    exec (.syncOpAdd h sc cl ix v) s = .next (((sx.complete h 0x0307 st 0)).unclaim h s.host.nextJob)) ∧
  (∀ (s sx : State) (h : Hdr) (sc cl : Byte) (ix : Half) (c : Counter),
    let x := sx.counter c
    startsIn s h ({ anySpec 0x0307 true false false with work := true, args := [(16, 1, 2), (17, 1, sc.toNat), (18, 1, cl.toNat), (20, 2, ix.toNat)] ++ [] }) sx →
    sx.refuses h ({ anySpec 0x0307 true false false with work := true, args := [(16, 1, 2), (17, 1, sc.toNat), (18, 1, cl.toNat), (20, 2, ix.toNat)] ++ [] }) (syncArgsOk h sc cl ix) = none →
    sx.syncTarget h sc cl ix = .inr c →
    exec (.syncOpRead h sc cl ix) s = .next (((sx.complete h 0x0307 .ok x.toNat)).unclaim h s.host.nextJob)) ∧
  (∀ (s sx : State) (h : Hdr) (sc cl : Byte) (ix : Half) (st : Status),
    startsIn s h ({ anySpec 0x0307 true false false with work := true, args := [(16, 1, 2), (17, 1, sc.toNat), (18, 1, cl.toNat), (20, 2, ix.toNat)] ++ [] }) sx →
    sx.refuses h ({ anySpec 0x0307 true false false with work := true, args := [(16, 1, 2), (17, 1, sc.toNat), (18, 1, cl.toNat), (20, 2, ix.toNat)] ++ [] }) (syncArgsOk h sc cl ix) = none →
    sx.syncTarget h sc cl ix = .inl st →
    exec (.syncOpRead h sc cl ix) s = .next (((sx.complete h 0x0307 st 0)).unclaim h s.host.nextJob)) ∧
  (∀ (s sx : State) (h : Hdr) (sc cl : Byte) (ix : Half) (v : Word) (t : Word) (c : Counter),
    let x := sx.counter c
    startsIn s h ({ anySpec 0x0307 true false false with work := true, args := [(16, 1, 3), (17, 1, sc.toNat), (18, 1, cl.toNat), (20, 2, ix.toNat)] ++ [(24, 4, v.toNat), (28, 4, t.toNat)] }) sx →
    sx.refuses h ({ anySpec 0x0307 true false false with work := true, args := [(16, 1, 3), (17, 1, sc.toNat), (18, 1, cl.toNat), (20, 2, ix.toNat)] ++ [(24, 4, v.toNat), (28, 4, t.toNat)] }) (syncArgsOk h sc cl ix) = none →
    sx.syncTarget h sc cl ix = .inr c →
    exec (.syncOpWaitGe h sc cl ix v t) s = .next (((if 0 ≤ (x - v).toInt then sx.complete h 0x0307 .ok x.toNat else if t = 0 then sx.complete h 0x0307 .timeout x.toNat else sx.addJob h 0x0307 (.syncOpWaitGe h sc cl ix v t) 0)).unclaim h s.host.nextJob)) ∧
  (∀ (s sx : State) (h : Hdr) (sc cl : Byte) (ix : Half) (v : Word) (t : Word) (st : Status),
    startsIn s h ({ anySpec 0x0307 true false false with work := true, args := [(16, 1, 3), (17, 1, sc.toNat), (18, 1, cl.toNat), (20, 2, ix.toNat)] ++ [(24, 4, v.toNat), (28, 4, t.toNat)] }) sx →
    sx.refuses h ({ anySpec 0x0307 true false false with work := true, args := [(16, 1, 3), (17, 1, sc.toNat), (18, 1, cl.toNat), (20, 2, ix.toNat)] ++ [(24, 4, v.toNat), (28, 4, t.toNat)] }) (syncArgsOk h sc cl ix) = none →
    sx.syncTarget h sc cl ix = .inl st →
    exec (.syncOpWaitGe h sc cl ix v t) s = .next (((sx.complete h 0x0307 st 0)).unclaim h s.host.nextJob)) ∧
  (∀ (s : State) (i : Nat) (j : Job) (h : Hdr) (sc cl : Byte) (ix : Half) (v t : Word) (c : Counter),
    let x := s.counter c
    s.job i = some j →
    j.cmd = .syncOpWaitGe h sc cl ix v t →
    s.syncTarget h sc cl ix = .inr c →
    exec (.syncOpWaitEnd i) s = .next (s.finish i (if 0 ≤ (x - v).toInt then .ok else .timeout) x.toNat))

/-- A host command passes the checks of R540 in order before anything else; the first that fails gives its status and no effect -/
def Obligations.AdmissionChecks : Prop :=
  (∀ (s : State) (h : Hdr) (c : CmdSpec) (ok : Bool) (body : State → State),
    (∀ w, startsIn s h c w →
      (w.refuses h c ok = none → s.hostCmd h c ok body = (body w).unclaim h s.host.nextJob) ∧
      (∀ st, w.refuses h c ok = some st → s.hostCmd h c ok body = (w.complete h c.opcode st 0).unclaim h s.host.nextJob)) ∧
    (s.quill.running = false → s.hostCmd h c ok body = s) ∧
    (∀ j, keepsBut [.host] s (s.claim h c) ∧ keepsBut [.host] s (s.unclaim h j) ∧ (s.host.nextJob ≠ j → s.unclaim h j = s))) ∧
  (∀ (s : State) (h : Hdr) (c : CmdSpec) (ok : Bool),
    let v := decide (c.opcode = 1) || ((s.fn h.fn.val).version && decide (h.minor = 0))
    (v = false → s.refuses h c ok = some .badVersion) ∧
    (v = true → s.permits h c = false → s.refuses h c ok = some .notPermitted) ∧
    (v = true → s.permits h c = true → (hdrInRange h c && ok) = false → s.refuses h c ok = some .badParam) ∧
    (v = true → s.permits h c = true → (hdrInRange h c && ok) = true → s.inSafe = true → c.safe = false → s.refuses h c ok = some .wrongState) ∧
    (v = true → s.permits h c = true → (hdrInRange h c && ok) = true → (s.inSafe && !c.safe) = false → s.outOfService h c = true →
      s.refuses h c ok = some .outOfService) ∧
    (v = true → s.permits h c = true → (hdrInRange h c && ok) = true → (s.inSafe && !c.safe) = false → s.outOfService h c = false →
      s.refuses h c ok = if s.enclosingMoves h c = true then some .busy else none)) ∧
  (∀ (s : State) (h : Hdr) (c : CmdSpec),
    (h.fn = 0 → s.permits h c = true) ∧ (h.fn = 5 → s.permits h c = c.bc) ∧
    (h.fn ≠ 0 → h.fn ≠ 5 → s.permits h c = true → c.vf = true ∧ (h.partition.toNat = h.fn.val - 1 ∨ h.partition = 0xFF)) ∧
    (h.fn ≠ 0 → h.fn ≠ 5 → s.dev.mode ≠ 2 → s.permits h c = true → c.opcode = 1 ∨ c.opcode = 2 ∨ c.opcode = 4))

/-- A register write reaches the field of that address with its rule, is dropped where misaligned, and ignored elsewhere -/
def Obligations.RegisterWrites : Prop :=
  (∀ (s : State) (n : Fin 1536) (v sets : Word),
    let w := fun (o : Nat) => exec (.registerWrite 0 false (BitVec.ofNat 25 (0x01000000 + 0x1000 * n.val + o)) v sets) s
    let x := v &&& ~~~sets
    w 0x10 = .next (s.modErrs n (fun e => { e with err := e.err.write x })) ∧
    w 0x220 = .next (s.modSteer n (fun y => { y with err := y.err.write x })) ∧
    w 0x400 = .next (s.modEng n (fun e => { e with err := e.err.write x })) ∧
    w 0x408 = .next (s.modEng n (fun e => { e with meFlags := e.meFlags &&& ~~~(x.setWidth 7) })) ∧
    w 0x40C = .next (s.modEng n (fun e => { e with veFlags := e.veFlags &&& ~~~(x.setWidth 6) }))) ∧
  (∀ (s : State) (k : Fin 48) (m : Fin 16) (v sets : Word),
    let w := fun (o : Nat) => exec (.registerWrite 0 false (BitVec.ofNat 25 o) v sets) s
    let x := v &&& ~~~sets
    w (0x00800020 + 0x1000 * k.val) = .next (s.modRouter k (fun r => { r with err := r.err.write x })) ∧
    w (0x008405C0 + 0x1000 * k.val) = .next (s.modCluster k (fun c => { c with cq := { c.cq with err := c.cq.err.write x } })) ∧
    w (0x008C0040 + 0x1000 * k.val) = .next (s.modInk k (fun y => { y with err := y.err.write x })) ∧
    w (0x008C0048 + 0x1000 * k.val) = .next (s.modInk k (fun y => { y with chkErr := y.chkErr.write x })) ∧
    w (0x00900018 + 0x1000 * m.val) = .next (s.modMc m (fun c => { c with err := c.err.write x })) ∧
    w 0x009B0020 = exec (.emLogIndexWrite v) s ∧
    exec (.emLogIndexWrite v) s = .next (s.modEm (fun e => { e with slot := v.setWidth 12 }))) ∧
  (∀ (s : State) (fn : Fin 6) (off : BitVec 25) (v sets : Word),
    (fn = 5 → ∀ b, exec (.registerWrite fn b off v sets) s = .next s) ∧
    (fn ≠ 5 → off.toNat % 4 ≠ 0 → exec (.registerWrite fn false off v sets) s =
      .next (s.modFn fn.val (fun x => { x with barReject := satInc x.barReject }))) ∧
    (fn ≠ 0 → off.toNat % 4 = 0 → 0x10000 ≤ off.toNat → exec (.registerWrite fn false off v sets) s = .next s)) ∧
  (∀ (s : State) (fn : Fin 6) (n : Fin 64) (v sets : Word),
    fn ≠ 5 →
    exec (.registerWrite fn true (BitVec.ofNat 25 (8 * n.val)) v sets) s = exec (.sqTailDoorbell fn (BitVec.ofNat 8 n.val) v) s ∧
    exec (.registerWrite fn true (BitVec.ofNat 25 (8 * n.val + 4)) v sets) s = exec (.cqHeadDoorbell fn (BitVec.ofNat 8 n.val) v) s ∧
    exec (.registerWrite fn true 0x400 v sets) s = exec (.eventRingHeadDoorbell fn v) s ∧
    (v.getLsbD 30 = false → exec (.registerWrite 0 true 0x800 v sets) s =
      .next { s with host := { s.host with recoveryLen := v.extractLsb' 0 24 } }))

/-- A read of a low word answers it and captures the high word of the same value -/
def Obligations.CapturingReads : Prop :=
  (∀ (s : State) (p : Fin 4),
    let x := (s.part p).stroke
    ∃ t, exec (.nwStrokeLoRead p) s = .next t ∧ t.out = s.out ++ [.barData 0 (some (toLe (x.count.setWidth 32).toNat 4)) false] ∧
      (t.part p).stroke = { x with hiCapture := (t.part p).stroke.hiCapture } ∧
      (t.part p).stroke.hiCapture ++ x.count.setWidth 32 = x.count ∧ (∀ q, q ≠ p.val → t.part q = s.part q) ∧ keepsBut [.parts, .out] s t) ∧
  (∀ (s : State) (c : Fin 16),
    let x := (s.ctx c).run
    ∃ t, exec (.qlTdcLoRead c) s = .next t ∧ t.out = s.out ++ [.barData 0 (some (toLe (x.tdc.setWidth 32).toNat 4)) false] ∧
      (t.ctx c).run = { x with tdcHi := (t.ctx c).run.tdcHi } ∧ (t.ctx c).run.tdcHi ++ x.tdc.setWidth 32 = x.tdc ∧
      (∀ d, d ≠ c.val → t.ctx d = s.ctx d) ∧ keepsBut [.ctxs, .out] s t) ∧
  (∀ (s : State),
    let d := BitVec.ofNat 64 s.time
    let e := s.module_.em
    (∃ t, exec .ckTimeLoRead s = .next t ∧ t.out = s.out ++ [.barData 0 (some (toLe (s.time % 2 ^ 32) 4)) false] ∧
      t.module_ = { s.module_ with clock := { s.module_.clock with timeHi := t.module_.clock.timeHi } } ∧
      t.module_.clock.timeHi ++ d.setWidth 32 = d ∧ keepsBut [.module_, .out] s t) ∧
    (∃ t, exec .emEnergyLoRead s = .next t ∧ t.out = s.out ++ [.barData 0 (some (toLe (e.energy.setWidth 32).toNat 4)) false] ∧
      t.module_ = { s.module_ with em := { e with energyHi := t.module_.em.energyHi } } ∧
      t.module_.em.energyHi ++ e.energy.setWidth 32 = e.energy ∧ keepsBut [.module_, .out] s t) ∧
    (∃ t, exec .emTimeLoRead s = .next t ∧ t.out = s.out ++ [.barData 0 (some (toLe (e.seconds.setWidth 32).toNat 4)) false] ∧
      t.module_ = { s.module_ with em := { e with timeHi := t.module_.em.timeHi } } ∧
      t.module_.em.timeHi ++ e.seconds.setWidth 32 = e.seconds ∧ keepsBut [.module_, .out] s t)) ∧
  (∀ (s sx : State) (h : Hdr) (r : Reply) (wh k : Byte) (fi : List (DWord × Ecc)) (sp : List DWord),
    let n := k.toNat
    let t := sx.quillFinds (dumpReads wh.toNat n) fi sp
    let d := t.dumpBody wh.toNat n
    startsIn s h ((anySpec 0x0903 true false true).on (replyArgs r ++ [(28, 1, wh.toNat), (29, 1, k.toNat)])) sx →
    sx.refuses h ((anySpec 0x0903 true false true).on (replyArgs r ++ [(28, 1, wh.toNat), (29, 1, k.toNat)])) (decide (wh.toNat ≤ 2 ∧ k.toNat < 48) && (decide (h.fn = 0 ∨ h.fn = 5) || decide (quarterOf k.toNat = h.fn.val - 1)) && replyOk h r) = none →
    (wh ≠ 0 → (∃ c ∈ sx.liveContexts (sx.partOf n), (sx.ctx c).run.frozen = false) →
      exec (.debugDump h r wh k fi sp) s = .next (((sx.complete h 0x0903 .wrongState 0)).unclaim h s.host.nextJob)) ∧
    ((wh = 0 ∨ ∀ c ∈ sx.liveContexts (sx.partOf n), (sx.ctx c).run.frozen = true) →
      exec (.debugDump h r wh k fi sp) s = .next (((t.reply h 0x0903 r (t.dumpHeader wh.toNat n d.length ++ d))).unclaim h s.host.nextJob)))

/-- A port trains from DETECT to ACTIVE, retrains, and falls back with the cause the rule names -/
def Obligations.PortTraining : Prop :=
  (∀ (s : State) (f : Fin 16) (light : BitVec 5),
    let e := BitVec.ofNat 4 (2 ^ (f.val / 4))
    let on := s.modFabCnt (fun c => { c with laser := c.laser ||| e })
    (s.port f).st = .detect →
    (s.dev.fbId ≠ 0xFFFF → 2 ≤ ((List.range 5).filter (fun l => light.getLsbD l)).length →
      exec (.portDetectPoll f true light) s = .next (on.modPort f (fun p => { p with st := .equalise }))) ∧
    ((s.dev.fbId = 0xFFFF ∨ ((List.range 5).filter (fun l => light.getLsbD l)).length < 2) →
      exec (.portDetectPoll f true light) s = .next on) ∧
    exec (.portDetectPoll f false light) s =
      .next ((s.modFabCnt (fun c => { c with laser := c.laser &&& ~~~e })).modPort f (fun p => { p with lastCause := 13 }))) ∧
  (∀ (s : State) (f : Fin 16) (l : BitVec 5) (nar : Bool),
    let p := s.port f
    (p.st = .equalise → exec (.equaliseDone f l) s = .next (if 2 ≤ (p.goodLanes l).length
      then s.modPort f (fun p => { p with st := .align, usable := l }) else s.portTo f 5 .detect)) ∧
    (p.st = .align → ∀ w, laneChoice (p.goodLanes (p.usable &&& l)) nar = some w → exec (.alignDone f l nar) s =
      .next (s.modPort f (fun x => { x.useLanes w with st := .exchange, usable := x.usable &&& l }))) ∧
    (p.st = .align → laneChoice (p.goodLanes (p.usable &&& l)) nar = none → exec (.alignDone f l nar) s = .next (s.portTo f 5 .detect))) ∧
  (∀ (l : List Nat) (nar : Bool),
    l.length ≤ 5 →
    laneChoice l nar = if l.length < 2 then none else some (l.take (if 4 ≤ l.length ∧ nar = false then 4 else 2))) ∧
  (∀ (s : State) (f : Fin 16) (b : List Byte),
    let own := decide (fld b 4 2 = s.dev.fbId.toNat)
    let u := (((s.activate f b).postUp f b).postPeer f (s.port f).peer b).settlePort f
    (s.port f).st = .exchange →
    (own = true → exec (.exchangeDone f b) s = .next (s.portTo f 8 .detect)) ∧
    (own = false → fld b 2 1 % 2 = 0 → exec (.exchangeDone f b) s = .next (s.portTo f 6 .detect)) ∧
    (own = false → fld b 2 1 % 2 = 1 → exec (.exchangeDone f b) s = .next u ∧ ((s.activate f b).port f).st = .active ∧
      ((s.activate f b).port f).peer = some (blockPeer b))) ∧
  (∀ (s : State) (f : Fin 16),
    let st := (s.port f).st
    let c := (s.port f).lastCause
    (st = .equalise → exec (.trainingTimeout f) s = .next (s.portTo f 2 .detect)) ∧
    (st = .align → exec (.trainingTimeout f) s = .next (s.portTo f 5 .detect)) ∧
    (st = .exchange → exec (.trainingTimeout f) s = .next (s.portTo f 7 .detect)) ∧
    (st = .retrain → exec (.trainingTimeout f) s = .next (s.portTo f (if c = 0 then 2 else c.toNat) .detect))) ∧
  (∀ (s : State) (f : Fin 16) (lane : BitVec 3) (vl : BitVec 3),
    (s.port f).st = .active →
    (lane.toNat < 5 → exec (.laneLockLoss f lane) s = .next ((s.countRetrain f lane.toNat).enterRetrain f 2)) ∧
    (vl.toNat ≤ 1 → (s.port f).link.credits vl.toNat = 0 → exec (.creditStallTimeout f vl) s = .next (s.modPort f (fun p => { p with stalled := true }))) ∧
    (vl.toNat ≤ 1 → (s.port f).link.credits vl.toNat ≠ 0 → exec (.creditStallTimeout f vl) s = .next s)) ∧
  (∀ (s : State) (n : Nat) (f : FabricFlit),
    let l := (s.port n).link
    let v := flitLane f
    let r := l.stamp f
    let u := s.sendFlit n f
    l.wait = [] →
    (0 < l.credit.get 64 v ∧ l.replay.length < 256 → (u.port n).link = { l with
        txSeq := l.txSeq + 1, replay := l.replay ++ [r], owed := []
        credit := if flitCredited f then l.credit.set v (l.credit.get 64 v - 1) else l.credit } ∧
      u.out = s.out ++ [.fabric n r] ∧ r.seq = l.txSeq ∧ r.ack = l.rxSeq) ∧
    (l.credit.get 64 v = 0 ∨ 256 ≤ l.replay.length → (u.port n).link = { l with wait := [f] } ∧ u.out = s.out)) ∧
  (∀ (s : State) (n : Nat) (f : FabricFlit) (body : State → State),
    let l := (s.port n).link
    let u := (s.takeSeq n f).takeTrailer n f
    l.wait = [] →
    (l.discard = true ∧ f.seq ≠ l.rxSeq + 1 → s.receiveFlit n f body = s) ∧
    (l.discard = false ∨ f.seq = l.rxSeq + 1 → s.receiveFlit n f body = body u) ∧
    (u.port n).link = { l with rxSeq := f.seq, discard := false, replay := unacked f.ack l.replay
                               credit := (l.credit.set 0 (l.credit.get 64 0 + f.credit0.toNat)).set 1 (l.credit.get 64 1 + f.credit1.toNat) } ∧
    ((u.port n).stalled = ((s.port n).stalled && decide (f.credit0 = 0 ∧ f.credit1 = 0)))) ∧
  (∀ (s : State) (f : Fin 16) (lane : Option (BitVec 3)) (un : Bool),
    let p := s.port f
    let fec := p.fecTimes.filter (fun t => decide (s.time < t + 1000000)) ++ (if un = true then [s.time] else [])
    let rep := p.replayTimes.filter (fun t => decide (s.time < t + 1000000000)) ++ [s.time]
    let u := s.modPort f (fun x => { x with replays := satInc x.replays, uncorr := if un = true then satInc x.uncorr else x.uncorr, fecTimes := fec, replayTimes := rep, link := { x.link with discard := true } })
    p.st = .active →
    let w := match lane with | some l => (if l.toNat < 5 then u.countRetrain f l.toNat else u) | none => u
    exec (.flitCrcFail f lane un) s = .next (if 16 < fec.length then w.enterRetrain f 3 else if 1000 < rep.length then w.enterRetrain f 4 else u)) ∧
  (∀ (s : State) (f : Fin 16) (ps : BitVec 5) (nar : Bool) (b : List Byte),
    let p := s.port f
    let v := s.modPort f (fun x => { x with usable := ps })
    p.st = .retrain →
    (laneChoice (p.goodLanes ps) nar = none → exec (.retrainDone f ps nar b) s = .next (s.portTo f 5 .detect)) ∧
    (∀ w, laneChoice (p.goodLanes ps) nar = some w → s.exchangeRefusal b = none → p.peer = some (blockPeer b) →
      exec (.retrainDone f ps nar b) s = .next (((v.modPort f (fun x => x.useLanes w)).activate f b).settlePort f)) ∧
    (∀ w, laneChoice (p.goodLanes ps) nar = some w → s.exchangeRefusal b = none → p.peer ≠ some (blockPeer b) →
      exec (.retrainDone f ps nar b) s = .next (v.peerChanged f w b)) ∧
    (∀ w c, laneChoice (p.goodLanes ps) nar = some w → s.exchangeRefusal b = some c →
      exec (.retrainDone f ps nar b) s = .next (s.portTo f c .detect)))

/-- PORT_CONTROL, LANE_CLEAR, the device ID and the expected watermarks act on the ports they name -/
def Obligations.PortCommands : Prop :=
  (∀ (s sx : State) (h : Hdr) (port : Byte),
    let f := port.toNat
    let p := sx.port f
    let l := (sx.qpart (sx.partNamed (f / 4))).life
    startsIn s h ((pfOnly 0x0404 false .any).on [(16, 1, port.toNat), (17, 1, 0)]) sx →
    sx.refuses h ((pfOnly 0x0404 false .any).on [(16, 1, port.toNat), (17, 1, 0)]) (decide (port.toNat ≤ 15) && true) = none →
    exec (.portDisable h port) s = .next (((if l = .starting ∨ l = .stopping then sx.complete h 0x0404 .busy 0
      else if p.st = .off then sx.complete h 0x0404 .ok 0 else (sx.portTo f 10 .off).complete h 0x0404 .ok 0)).unclaim h s.host.nextJob)) ∧
  (∀ (s sx : State) (h : Hdr) (port : Byte),
    let f := port.toNat
    let p := sx.port f
    let l := (sx.qpart (sx.partNamed (f / 4))).life
    let out := sx.quill.health.portOut.getLsbD f
    startsIn s h ((pfOnly 0x0404 false .any).on [(16, 1, port.toNat), (17, 1, 1)]) sx →
    sx.refuses h ((pfOnly 0x0404 false .any).on [(16, 1, port.toNat), (17, 1, 1)]) (decide (port.toNat ≤ 15) && true) = none →
    exec (.portEnable h port) s = .next (((if out = true then sx.complete h 0x0404 .outOfService 0
      else if l = .starting ∨ l = .stopping then sx.complete h 0x0404 .busy 0
      else if p.st ≠ .off then sx.complete h 0x0404 .ok 0
      else if sx.domOn (54 + f / 4) = true then (sx.modPort f (fun p => { p with st := .detect })).complete h 0x0404 .ok 0
      else sx.complete h 0x0404 .wrongState 0)).unclaim h s.host.nextJob)) ∧
  (∀ (s sx : State) (h : Hdr) (port : Byte),
    let f := port.toNat
    let p := sx.port f
    let l := (sx.qpart (sx.partNamed (f / 4))).life
    let out := sx.quill.health.portOut.getLsbD f
    startsIn s h ((pfOnly 0x0404 false .any).on [(16, 1, port.toNat), (17, 1, 2)]) sx →
    sx.refuses h ((pfOnly 0x0404 false .any).on [(16, 1, port.toNat), (17, 1, 2)]) (decide (port.toNat ≤ 15) && true) = none →
    exec (.portRetrain h port) s = .next (((if out = true then sx.complete h 0x0404 .outOfService 0
      else if l = .starting ∨ l = .stopping then sx.complete h 0x0404 .busy 0
      else if p.st = .active then (sx.enterRetrain f 0).complete h 0x0404 .ok 0 else sx.complete h 0x0404 .wrongState 0)).unclaim h s.host.nextJob)) ∧
  (∀ (s sx : State) (h : Hdr) (port lane : Byte),
    let f := port.toNat
    let back := fun (t : State) (l : Nat) => (t.modLane f l (fun x => { x with retired := false, counted := [], retrains := 0 })).moraineAppend 8 [(16, 1, f), (17, 1, l)]
    let u := if lane = 0xFF then [0, 1, 2, 3, 4].foldl back sx else back sx lane.toNat
    startsIn s h ((pfOnly 0x0405 false .any).on [(16, 1, port.toNat), (17, 1, lane.toNat)]) sx →
    sx.refuses h ((pfOnly 0x0405 false .any).on [(16, 1, port.toNat), (17, 1, lane.toNat)]) (decide (port.toNat ≤ 15) && (decide (lane.toNat ≤ 4 ∨ lane = 0xFF))) = none →
    (sx.qpart (sx.partNamed (f / 4))).life ≠ .starting ∧ (sx.qpart (sx.partNamed (f / 4))).life ≠ .stopping →
    exec (.laneClear h port lane) s = .next ((((if (sx.port f).st = .active then u.enterRetrain f 0 else u).complete h 0x0405 .ok 0)).unclaim h s.host.nextJob)) ∧
  (∀ (s : State) (v : Word),
    let id := v.setWidth 16
    ((4096 ≤ id.toNat ∧ id ≠ 0xFFFF) ∨ s.anyRuns = true → exec (.fbIdWrite v) s = .next s) ∧
    (¬ (4096 ≤ id.toNat ∧ id ≠ 0xFFFF) → s.anyRuns = false → exec (.fbIdWrite v) s = .next ((List.range 16).foldl (fun t f =>
      if (t.port f).st = .off ∨ (t.port f).st = .detect then t else t.portTo f 12 .detect) { s with dev := { s.dev with fbId := id } }))) ∧
  (∀ (s : State) (f : Fin 16) (n : BitVec 3) (v : Word),
    let u := s.modPort f (fun p => { p with expect := setWord32 p.expect n.toNat v })
    exec (.fbPortExpectWrite f n v) s = .next (u.evalMismatch f false) ∧
    (∀ i, i < 8 → (setWord32 (s.port f).expect n.toNat v).extractLsb' (32 * i) 32 =
      if i = n.toNat then v else (s.port f).expect.extractLsb' (32 * i) 32))

/-- HELLO opens the interface; the information commands answer their blocks; masks and thresholds are set -/
def Obligations.SessionResults : Prop :=
  (∀ (s sx : State) (h : Hdr) (lo hi mn : Byte),
    let f := h.fn.val
    startsIn s h ((anySpec 0x0001 true true true).on [(16, 1, lo.toNat), (17, 1, hi.toNat), (18, 1, mn.toNat)]) sx →
    sx.refuses h ((anySpec 0x0001 true true true).on [(16, 1, lo.toNat), (17, 1, hi.toNat), (18, 1, mn.toNat)]) true = none →
    (2 ≤ sx.outstanding f → exec (.hello h lo hi mn) s = .next (((sx.complete h 0x0001 .busy 0)).unclaim h s.host.nextJob)) ∧
    (sx.outstanding f < 2 → lo.toNat ≤ 1 → 1 ≤ hi.toNat → exec (.hello h lo hi mn) s =
      .next (((((sx.modFn f (fun x => { x with version := true, mask := BitVec.allOnes 256 })).newNonce f).complete h 0x0001 .ok
        (1 + 2 ^ 16 + f * 2 ^ 24))).unclaim h s.host.nextJob)) ∧
    (sx.outstanding f < 2 → (1 < lo.toNat ∨ hi.toNat = 0) → exec (.hello h lo hi mn) s = .next (((sx.complete h 0x0001 .badVersion 1)).unclaim h s.host.nextJob))) ∧
  (∀ (s sx : State) (h : Hdr) (r : Reply),
    startsIn s h ((anySpec 0x0002 true true true).on (replyArgs r)) sx →
    sx.refuses h ((anySpec 0x0002 true true true).on (replyArgs r)) (replyOk h r) = none →
    exec (.getInfo h r) s = .next (((sx.reply h 0x0002 r (sx.infoBlock h.fn.val))).unclaim h s.host.nextJob)) ∧
  (∀ (s sx : State) (h : Hdr) (r : Reply),
    startsIn s h ((anySpec 0x0505 true true true).on (replyArgs r)) sx →
    sx.refuses h ((anySpec 0x0505 true true true).on (replyArgs r)) (replyOk h r) = none →
    exec (.getHealth h r) s = .next (((sx.reply h 0x0505 r sx.healthBlock)).unclaim h s.host.nextJob)) ∧
  (∀ (s sx : State) (h : Hdr) (r : Reply) (m : Byte),
    startsIn s h ((anySpec 0x0003 true false false).on (replyArgs r ++ [(28, 1, m.toNat)])) sx →
    sx.refuses h ((anySpec 0x0003 true false false).on (replyArgs r ++ [(28, 1, m.toNat)])) (replyOk h r && decide (m.toNat ≤ 2 ∨ m = 0xFF)) = none →
    exec (.getDistances h r m) s = .next (((sx.reply h 0x0003 r (distTable (if m = 0xFF then sx.dev.mode else BitVec.ofNat 2 m.toNat)))).unclaim h s.host.nextJob)) ∧
  (∀ (s sx : State) (h : Hdr) (r : Reply) (m : Byte),
    startsIn s h ((anySpec 0x0502 true true true).on (replyArgs r ++ [(28, 1, m.toNat)])) sx →
    sx.refuses h ((anySpec 0x0502 true true true).on (replyArgs r ++ [(28, 1, m.toNat)])) (replyOk h r && decide (m.toNat ≤ 2)) = none →
    exec (.getMoraine h r m) s = .next (((sx.reply h 0x0502 r (sx.moraineReply m.toNat))).unclaim h s.host.nextJob)) ∧
  (∀ (s : State) (h : Hdr) (op : Nat) (r : Reply) (d : List Byte),
    let n := d.length
    (r.len.toNat < n → s.reply h op r d = s.complete h op .badParam n) ∧
    (n ≤ r.len.toNat → h.fn = 5 → s.reply h op r d = s.completeWith h op .ok n d) ∧
    (n ≤ r.len.toNat → h.fn ≠ 5 → r.ok = false → s.reply h op r d = (s.countHostFail h.fn.val).complete h op .aborted 0) ∧
    (n ≤ r.len.toNat → h.fn ≠ 5 → r.ok = true → (s.fn h.fn.val).mute = false →
      s.reply h op r d = (s.emit (.hostWrite h.fn.val r.addr.toNat d)).complete h op .ok n)) ∧
  (∀ (s sx : State) (h : Hdr) (m : BitVec 256),
    startsIn s h ((anySpec 0x0004 true true true).on [(16, 32, m.toNat)]) sx →
    sx.refuses h ((anySpec 0x0004 true true true).on [(16, 32, m.toNat)]) true = none →
    exec (.setEventMask h m) s = .next ((((sx.modFn h.fn.val (fun x => { x with mask := m })).complete h 0x0004 .ok 0)).unclaim h s.host.nextJob)) ∧
  (∀ (s sx : State) (h : Hdr) (b : List Byte),
    let x := fun (o n : Nat) => leNat ((b.drop o).take n)
    let c := (anySpec 0x0104 false true false).on [(16, b.length, leNat b)]
    startsIn s h c sx →
    (∀ st, sx.refuses h c (thresholdsOk b && h.indirect) = some st →
      exec (.setThresholds h b) s = .next (((sx.complete h 0x0104 st 0).unclaim h s.host.nextJob).newNonce h.fn.val)) ∧
    (sx.refuses h c (thresholdsOk b && h.indirect) = none → sx.thresholdsSigned h.fn.val b = false →
      exec (.setThresholds h b) s = .next (((sx.complete h 0x0104 .authFail 0).unclaim h s.host.nextJob).newNonce h.fn.val)) ∧
    (sx.refuses h c (thresholdsOk b && h.indirect) = none → sx.thresholdsSigned h.fn.val b = true →
      exec (.setThresholds h b) s = .next (((((sx.modHealth (fun y =>
        { y with partResets := x 0 1, partMinutes := x 1 1, devResetMax := x 2 1, devMinutes := x 3 1,
                 strokeWatchMs := BitVec.ofNat 16 (x 4 2), holdWatchS := BitVec.ofNat 16 (x 6 2) })).moraineAppend 11
      [(16, 8, leNat (b.take 8))]).complete h 0x0104 .ok 0).unclaim h s.host.nextJob).newNonce h.fn.val)))

/-- RETURN_TO_SERVICE brings back what is out of service; the modes change where the rules allow it -/
def Obligations.ServiceAndModes : Prop :=
  (∀ (s sx : State) (h : Hdr) (k ix : Byte),
    let p := sx.partNamed (ix.toNat % 4)
    let f := ix.toNat % 16
    let back := fun (b : Bool) (t : State) => (if b = true then t.complete h 0x0506 .ok 0 else sx.complete h 0x0506 .wrongState 0)
    startsIn s h ((anySpec 0x0506 false true false).on [(16, 1, k.toNat), (17, 1, ix.toNat)]) sx →
    sx.refuses h ((anySpec 0x0506 false true false).on [(16, 1, k.toNat), (17, 1, ix.toNat)]) (decide (k.toNat ≤ 2 ∧ (k = 1 → ix.toNat ≤ 3) ∧ (k = 2 → ix.toNat ≤ 15))) = none →
    exec (.returnToService h k ix) s = .next (((if k = 0 then back (decide (sx.quill.health.service = 2)) sx.deviceBack
      else if k = 1 then back (sx.qpart p).out (sx.partitionBack p) else back (sx.quill.health.portOut.getLsbD f) (sx.portBack f))).unclaim h s.host.nextJob)) ∧
  (∀ (s sx : State) (h : Hdr) (det ck seam pat drift : Byte),
    let ps := sx.namedParts h
    startsIn s h ((anySpec 0x0102 true false false).on [(16, 1, det.toNat), (17, 1, ck.toNat), (18, 1, seam.toNat), (19, 1, pat.toNat), (20, 1, drift.toNat)]) sx →
    sx.refuses h ((anySpec 0x0102 true false false).on [(16, 1, det.toNat), (17, 1, ck.toNat), (18, 1, seam.toNat), (19, 1, pat.toNat), (20, 1, drift.toNat)]) (modeByteOk det 1 && modeByteOk ck 1 && modeByteOk seam 2 && modeByteOk pat 2 && modeByteOk drift 1) = none →
    exec (.setModes h det ck seam pat drift) s = .next (((if sx.modesRefused ps det ck = true then sx.complete h 0x0102 .wrongState 0
      else (ps.foldl (fun t p => t.applyModes det ck seam pat drift p) sx).complete h 0x0102 .ok 0)).unclaim h s.host.nextJob)) ∧
  (∀ (s sx : State) (h : Hdr) (m : Byte),
    startsIn s h ((pfOnly 0x0101 false .device).on [(16, 1, m.toNat)]) sx →
    sx.refuses h ((pfOnly 0x0101 false .device).on [(16, 1, m.toNat)]) (decide (m.toNat ≤ 2)) = none →
    ((∃ e ∈ sx.ctxs, e.2.scroll.isSome = true) → exec (.setPartitionMode h m) s = .next (((sx.complete h 0x0101 .wrongState 0)).unclaim h s.host.nextJob)) ∧
    ((∀ e ∈ sx.ctxs, e.2.scroll = none) → exec (.setPartitionMode h m) s = .next ((((sx.changeMode (BitVec.ofNat 2 m.toNat)).complete h 0x0101 .ok 0)).unclaim h s.host.nextJob))) ∧
  (∀ (s : State) (m : BitVec 2) (p : Nat),
    m ≠ 3 →
    p < 4 →
    partOfQuarter m p = p →
    let t := s.changeMode m
    t.dev = { s.dev with mode := m } ∧ t.bulk.slots = [] ∧ (∀ a, a < bulkEnd → t.store.byte a = 0 ∧ t.store.blotAt a = false) ∧
    ((t.qpart p).life = .on ↔ ∀ q, q < 4 → partOfQuarter m q = p → (s.qpart (s.partNamed q)).life = .on) ∧
    (t.part p).stroke.seamRatio = 0)

/-- START_CONTEXT and STOP_CONTEXT act by the state of the context they name -/
def Obligations.ContextRuns : Prop :=
  (∀ (s sx : State) (h : Hdr) (wm : BitVec 256) (ck fr : Byte) (bs hb hl : Word) (ls : List LineFind),
    let c := sx.hdrCtx h
    let l := (sx.ctx c).lc
    let cmd := Instr.startContext h wm ck fr bs hb hl
    let s1 := sx.cancelHeld c
    let id := s1.host.nextJob
    startsIn s h ((ctxSpec 0x0202 true).on [(16, 32, wm.toNat), (48, 1, ck.toNat), (49, 1, fr.toNat), (52, 4, bs.toNat), (56, 4, hb.toNat), (60, 4, hl.toNat)]) sx →
    sx.refuses h ((ctxSpec 0x0202 true).on [(16, 32, wm.toNat), (48, 1, ck.toNat), (49, 1, fr.toNat), (52, 4, bs.toNat), (56, 4, hb.toNat), (60, 4, hl.toNat)]) (decide (ck.toNat ≤ 12 ∧ fr.toNat ≤ 1 ∧ hb.toNat < 2 ^ 24 ∧ hb.toNat + hl.toNat ≤ 2 ^ 24)) = none →
    (sx.committing = true ∨ l.holdsEnable = true → exec cmd s = .next (((sx.complete h 0x0202 .busy 0)).unclaim h s.host.nextJob)) ∧
    (sx.committing = false → l.holdsEnable = false →
    (l.life = .on → exec (.startContext h wm ck fr bs hb hl ls) s = .next (((s1.complete h 0x0202 .ok (s1.startResult c))).unclaim h s.host.nextJob)) ∧
    (l.life = .starting → exec (.startContext h wm ck fr bs hb hl ls) s = .next ((((s1.addJob h 0x0202 cmd 0).modLife c (fun x => { x with starts := x.starts ++ [id] }))).unclaim h s.host.nextJob)) ∧
    (l.life = .stopping → exec (.startContext h wm ck fr bs hb hl ls) s = .next ((((s1.deferJob h 0x0202 cmd 0).modLife c (fun x => { x with held := some (.enable id) }))).unclaim h s.host.nextJob)) ∧
    (l.life = .off → exec cmd s = .next (((((s1.addJob h 0x0202 cmd 0).startJob id).refreshPw (ctxPart c))).unclaim h s.host.nextJob)) ∧
    (l.life = .off → exec (.startContext h wm ck fr bs hb hl ls) s = .next (((sx.startReading c (sx.startReads c (decide (fr = 1))) ls
      (fun t => t.enableContext h cmd))).unclaim h s.host.nextJob)))) ∧
  (∀ (s sx : State) (h : Hdr),
    let c := sx.hdrCtx h
    let l := (sx.ctx c).lc
    let id := sx.host.nextJob
    let u := (sx.addJob h 0x0203 (.stopContextAtEdge h) 0)
    startsIn s h ((ctxSpec 0x0203 false).on [(16, 1, 0)]) sx →
    sx.refuses h ((ctxSpec 0x0203 false).on [(16, 1, 0)]) true = none →
    (l.holdsDisable = true → exec (.stopContextAtEdge h) s = .next (((sx.complete h 0x0203 .busy 0)).unclaim h s.host.nextJob)) ∧
    (l.holdsDisable = false → l.life = .off → exec (.stopContextAtEdge h) s = .next (((sx.complete h 0x0203 .ok 0)).unclaim h s.host.nextJob)) ∧
    (l.holdsDisable = false → l.life = .starting →
      exec (.stopContextAtEdge h) s = .next ((((sx.deferJob h 0x0203 (.stopContextAtEdge h) 0).modLife c (fun x => { x with held := some (.disable id) }))).unclaim h s.host.nextJob)) ∧
    (l.holdsDisable = false → l.life = .stopping →
      exec (.stopContextAtEdge h) s = .next ((((u.cancelHeld c).modLife c (fun x => { x with stopEdge := x.stopEdge ++ [id] }))).unclaim h s.host.nextJob)) ∧
    (l.holdsDisable = false → l.life = .on → (sx.ctx c).run.frozen = false →
      exec (.stopContextAtEdge h) s = .next ((((u.modLife c (fun x => { x with stopEdge := x.stopEdge ++ [id] })).modLife c (fun x => { x with life := .stopping }))).unclaim h s.host.nextJob)) ∧
    (l.holdsDisable = false → l.life = .on → (sx.ctx c).run.frozen = true →
      exec (.stopContextAtEdge h) s = .next ((((u.modLife c (fun x => { x with stopEdge := x.stopEdge ++ [id] })).stopFrozen c)).unclaim h s.host.nextJob))) ∧
  (∀ (s sx : State) (h : Hdr),
    let c := sx.hdrCtx h
    let l := (sx.ctx c).lc
    let id := sx.host.nextJob
    let u := (sx.addJob h 0x0203 (.stopContextAtQuiet h) 0)
    startsIn s h ((ctxSpec 0x0203 false).on [(16, 1, 1)]) sx →
    sx.refuses h ((ctxSpec 0x0203 false).on [(16, 1, 1)]) true = none →
    (l.holdsDisable = true → exec (.stopContextAtQuiet h) s = .next (((sx.complete h 0x0203 .busy 0)).unclaim h s.host.nextJob)) ∧
    (l.holdsDisable = false → l.life = .off → exec (.stopContextAtQuiet h) s = .next (((sx.complete h 0x0203 .ok 0)).unclaim h s.host.nextJob)) ∧
    (l.holdsDisable = false → l.life = .starting →
      exec (.stopContextAtQuiet h) s = .next ((((sx.deferJob h 0x0203 (.stopContextAtQuiet h) 0).modLife c (fun x => { x with held := some (.disable id) }))).unclaim h s.host.nextJob)) ∧
    (l.holdsDisable = false → l.life = .stopping →
      exec (.stopContextAtQuiet h) s = .next ((((u.cancelHeld c).modLife c (fun x => { x with stopEdge := x.stopEdge ++ [id] }))).unclaim h s.host.nextJob)) ∧
    (l.holdsDisable = false → l.life = .on →
      ((sx.ctx c).run.frozen = false → l.stopQuiet = none → exec (.stopContextAtQuiet h) s = .next (((u.modLife c (fun x => { x with stopQuiet := some id }))).unclaim h s.host.nextJob)) ∧
      ((sx.ctx c).run.frozen = true → exec (.stopContextAtQuiet h) s = .next (((sx.complete h 0x0203 .wrongState 0)).unclaim h s.host.nextJob)) ∧
      ((sx.ctx c).run.frozen = false → l.stopQuiet ≠ none → exec (.stopContextAtQuiet h) s = .next (((sx.complete h 0x0203 .busy 0)).unclaim h s.host.nextJob))))

/-- Scrolls load and unload, checkpoints and restores are asked for, configurations and layouts are named -/
def Obligations.ContextData : Prop :=
  (∀ (s sx : State) (h : Hdr) (ha len : DWord),
    let c := sx.hdrCtx h
    let l := (sx.ctx c).lc
    startsIn s h ((ctxSpec 0x0201 true).on [(16, 8, ha.toNat), (24, 8, len.toNat)]) sx →
    sx.refuses h ((ctxSpec 0x0201 true).on [(16, 8, ha.toNat), (24, 8, len.toNat)]) (decide (ha.toNat % 64 = 0)) = none →
    (l.life ≠ .off → exec (.loadScroll h ha len) s = .next (((sx.complete h 0x0201 .wrongState 0)).unclaim h s.host.nextJob)) ∧
    (l.life = .off → len = 0 → exec (.loadScroll h ha len) s = .next ((((sx.unload c).complete h 0x0201 .ok 0)).unclaim h s.host.nextJob)) ∧
    (l.life = .off → len ≠ 0 → sx.findExtent (ctxPart c) (units64 len.toNat) none = none →
      exec (.loadScroll h ha len) s = .next (((sx.complete h 0x0201 .noResource 0)).unclaim h s.host.nextJob)) ∧
    (∀ b, l.life = .off → len ≠ 0 → sx.findExtent (ctxPart c) (units64 len.toNat) none = some b → exec (.loadScroll h ha len) s =
      .next ((((sx.addJob h 0x0201 (.loadScroll h ha len) (b * 65536)).emit (.hostRead h.fn.val ha.toNat len.toNat))).unclaim h s.host.nextJob))) ∧
  (∀ (s : State) (i : Nat) (j : Job) (h : Hdr) (ha len : DWord),
    let c := s.hdrCtx h
    let l := (s.ctx c).lc
    s.job i = some j →
    j.cmd = .loadScroll h ha len →
    exec (.scrollReadComplete i none) s = .next (s.finish i .aborted 0) ∧
    (∀ b, l.life ≠ .off → exec (.scrollReadComplete i (some b)) s = .next (s.finish i .wrongState 0)) ∧
    (∀ b, l.life = .off → parseScroll b len.toNat s.dev.gradeL = none → exec (.scrollReadComplete i (some b)) s = .next (s.finish i .badParam 0)) ∧
    (∀ b sc st, l.life = .off → parseScroll b len.toNat s.dev.gradeL = some sc → s.loadRefusal c sc = some st →
      exec (.scrollReadComplete i (some b)) s = .next (s.finish i st 0)) ∧
    (∀ b sc, l.life = .off → parseScroll b len.toNat s.dev.gradeL = some sc → s.loadRefusal c sc = none →
      exec (.scrollReadComplete i (some b)) s = .next ((((((s.unload c).modCtx c (fun x => { x with scroll := some { sc with base := j.value } }))).refreshMargin
        (ctxPart c)).write j.value b false).finish i .ok (sc.digest.toNat % 2 ^ 48)))) ∧
  (∀ (s sx : State) (h : Hdr) (mi sm : Byte) (pd : Half) (pw : Byte) (ha hl : DWord) (sc : Scroll),
    let c := sx.hdrCtx h
    let l := (sx.ctx c).lc
    let k : CkptCmd := { job := sx.host.nextJob, mirror := mi.toNat, sm4 := decide (sm = 1), peerDevice := pd, peerWindow := pw.toNat, hostAddr := ha, hostLen := hl }
    startsIn s h ((ctxSpec 0x0204 true).on [(16, 1, mi.toNat), (17, 1, sm.toNat), (18, 2, pd.toNat), (20, 1, pw.toNat), (24, 8, ha.toNat), (32, 8, hl.toNat)]) sx →
    sx.refuses h ((ctxSpec 0x0204 true).on [(16, 1, mi.toNat), (17, 1, sm.toNat), (18, 2, pd.toNat), (20, 1, pw.toNat), (24, 8, ha.toNat), (32, 8, hl.toNat)]) (decide (mi.toNat ≤ 2 ∧ sm.toNat ≤ 1 ∧ pw.toNat ≤ 63) && (decide (mi ≠ 2) || decide (pd.toNat < 4096)) && (decide (mi ≠ 1) || decide (ha.toNat % 65536 = 0))) = none →
    (sx.ctx c).scroll = some sc →
    l.life = .on →
    sx.quietPoints c ≠ [] →
    (sx.checkpointing c = true → exec (.checkpoint h mi sm pd pw ha hl) s = .next (((sx.complete h 0x0204 .busy 0)).unclaim h s.host.nextJob)) ∧
    (sx.checkpointing c = false → mi = 1 → hl.toNat < sc.parts * mirrorPart →
      exec (.checkpoint h mi sm pd pw ha hl) s = .next (((sx.complete h 0x0204 .badParam 0)).unclaim h s.host.nextJob)) ∧
    (sx.checkpointing c = false → (mi = 1 → sc.parts * mirrorPart ≤ hl.toNat) → exec (.checkpoint h mi sm pd pw ha hl) s =
      .next ((((sx.deferJob h 0x0204 (.checkpoint h mi sm pd pw ha hl) 0).modLife c (fun l => { l with ckpt := some k }))).unclaim h s.host.nextJob))) ∧
  (∀ (s sx : State) (h : Hdr) (src : Byte) (ha sq : DWord) (sc : Scroll),
    let c := sx.hdrCtx h
    let l := (sx.ctx c).lc
    startsIn s h ((ctxSpec 0x0205 true).on [(16, 1, src.toNat), (24, 8, ha.toNat), (32, 8, sq.toNat)]) sx →
    sx.refuses h ((ctxSpec 0x0205 true).on [(16, 1, src.toNat), (24, 8, ha.toNat), (32, 8, sq.toNat)]) (decide (src.toNat ≤ 1) && (decide (src = 0) || decide (ha.toNat % 65536 = 0))) = none →
    (sx.ctx c).scroll = some sc →
    (l.life ≠ .off ∨ l.restartDue = true → exec (.restore h src ha sq) s = .next (((sx.complete h 0x0205 .wrongState 0)).unclaim h s.host.nextJob)) ∧
    (l.life = .off → l.restartDue = false → src = 0 → exec (.restore h src ha sq) s = .next (((sx.nameImage h c sc sq)).unclaim h s.host.nextJob)) ∧
    (l.life = .off → l.restartDue = false → src ≠ 0 → exec (.restore h src ha sq) s = .next ((((sx.addJob h 0x0205 (.restore h src ha sq) 0).emit
      (.hostRead h.fn.val ha.toNat (sc.parts * mirrorPart)))).unclaim h s.host.nextJob))) ∧
  (∀ (s : State) (i : Nat) (j : Job) (h : Hdr) (src : Byte) (ha sq : DWord) (sc : Scroll) (slots : List Nat),
    let c := s.hdrCtx h
    let l := (s.ctx c).lc
    s.job i = some j →
    j.cmd = .restore h src ha sq →
    (s.ctx c).scroll = some sc →
    l.life = .off →
    l.restartDue = false →
    s.newSlots c sc = some slots →
    exec (.restoreMirrorCopyDone i none) s =
      .next (({ s with store := slots.foldl (fun m a => m.uncommit a) s.store } : State).finish i .aborted 0) ∧
    (∀ b, mirrorRefusal ((List.range sc.parts).map (mirrorPartOf b)) c sc sq = some .authFail →
      exec (.restoreMirrorCopyDone i (some b)) s = .next (s.finish i .authFail 0)) ∧
    (∀ b st, st ≠ .authFail → mirrorRefusal ((List.range sc.parts).map (mirrorPartOf b)) c sc sq = some st →
      exec (.restoreMirrorCopyDone i (some b)) s =
        .next (({ s with store := slots.foldl (fun m a => m.uncommit a) s.store } : State).finish i st 0)) ∧
    (∀ b, mirrorRefusal ((List.range sc.parts).map (mirrorPartOf b)) c sc sq = none →
      let parts := (List.range sc.parts).map (mirrorPartOf b)
      let seq := fld (parts.getD 0 []) 8 8
      let m1 := (slots.zip parts).foldl (fun (m : Store) e => m.writePart e.1 (openedPart e.2)) s.store
      let m2 := slots.foldl (fun (m : Store) a => m.write (a + 4092) (toLe commitWord 4) false) m1
      exec (.restoreMirrorCopyDone i (some b)) s = .next ((({ s with store := m2 } : State).modLife c (fun l =>
        { l with named := some (BitVec.ofNat 64 seq) })).finish i .ok (seq % 2 ^ 48)))) ∧
  (∀ (s sx : State) (h : Hdr) (ru ci : Byte) (st : DWord) (sc : Scroll),
    let c := sx.hdrCtx h
    let l := (sx.ctx c).lc
    let p := ctxPart c
    let r : Reconf := { discard := false, context := c, ruling := ru.toNat, configId := BitVec.ofNat 4 ci.toNat, stroke := st, evaluated := 0, job := sx.host.nextJob }
    startsIn s h ((ctxSpec 0x0206 true).on [(16, 1, 0), (17, 1, ru.toNat), (18, 1, ci.toNat), (24, 8, st.toNat)]) sx →
    sx.refuses h ((ctxSpec 0x0206 true).on [(16, 1, 0), (17, 1, ru.toNat), (18, 1, ci.toNat), (24, 8, st.toNat)]) (reconfOk ru ci) = none →
    (sx.ctx c).scroll = some sc →
    l.life = .on →
    (sx.liveContexts p).length = 1 →
    l.work = none →
    reconfKnown sc (sx.ctx c).run.layout ru.toNat ci.toNat = true →
    st = 0 ∨ (sx.ctxStroke c).toNat + 2 ≤ st.toNat →
    ((sx.part p).epoch.reconf.isSome = true → exec (.reconfigureDrain h ru ci st) s = .next (((sx.complete h 0x0206 .busy 0)).unclaim h s.host.nextJob)) ∧
    ((sx.part p).epoch.reconf = none → exec (.reconfigureDrain h ru ci st) s =
      .next ((((sx.addJob h 0x0206 (.reconfigureDrain h ru ci st) 0).modEpoch p (fun e => { e with reconf := some r }))).unclaim h s.host.nextJob))) ∧
  (∀ (s sx : State) (h : Hdr) (ru ci : Byte) (st : DWord) (sc : Scroll),
    let c := sx.hdrCtx h
    let l := (sx.ctx c).lc
    let p := ctxPart c
    let r : Reconf := { discard := true, context := c, ruling := ru.toNat, configId := BitVec.ofNat 4 ci.toNat, stroke := st, evaluated := 0, job := sx.host.nextJob }
    startsIn s h ((ctxSpec 0x0206 true).on [(16, 1, 1), (17, 1, ru.toNat), (18, 1, ci.toNat), (24, 8, st.toNat)]) sx →
    sx.refuses h ((ctxSpec 0x0206 true).on [(16, 1, 1), (17, 1, ru.toNat), (18, 1, ci.toNat), (24, 8, st.toNat)]) (reconfOk ru ci) = none →
    (sx.ctx c).scroll = some sc →
    l.life = .on →
    (sx.liveContexts p).length = 1 →
    l.work = none →
    reconfKnown sc (sx.ctx c).run.layout ru.toNat ci.toNat = true →
    st = 0 ∨ (sx.ctxStroke c).toNat + 2 ≤ st.toNat →
    ((sx.part p).epoch.reconf.isSome = true → exec (.reconfigureDiscard h ru ci st) s = .next (((sx.complete h 0x0206 .busy 0)).unclaim h s.host.nextJob)) ∧
    ((sx.part p).epoch.reconf = none → exec (.reconfigureDiscard h ru ci st) s =
      .next ((((sx.addJob h 0x0206 (.reconfigureDiscard h ru ci st) 0).modEpoch p (fun e => { e with reconf := some r }))).unclaim h s.host.nextJob))) ∧
  (∀ (s sx : State) (h : Hdr) (ix : Byte),
    let c := sx.hdrCtx h
    startsIn s h ((ctxSpec 0x0207 true).on [(16, 1, ix.toNat)]) sx →
    sx.refuses h ((ctxSpec 0x0207 true).on [(16, 1, ix.toNat)]) (decide (ix.toNat ≤ 7 ∨ ix = 0xFF)) = none →
    (ix = 0xFF → exec (.selectVariant h ix) s = .next ((((sx.modRun c (fun r => { r with variant := none })).complete h 0x0207 .ok 0)).unclaim h s.host.nextJob)) ∧
    (∀ sc, ix ≠ 0xFF → (sx.ctx c).scroll = some sc → exec (.selectVariant h ix) s = .next (((if sx.fitsAt (ctxPart c) sc ix.toNat = true
      then (sx.modRun c (fun r => { r with variant := some ix.toNat })).complete h 0x0207 .ok 0 else sx.complete h 0x0207 .wrongState 0)).unclaim h s.host.nextJob)) ∧
    (ix ≠ 0xFF → (sx.ctx c).scroll = none → exec (.selectVariant h ix) s = .next (((sx.complete h 0x0207 .wrongState 0)).unclaim h s.host.nextJob))) ∧
  (∀ (s sx : State) (h : Hdr) (r : Reply),
    startsIn s h ((anySpec 0x0103 true true false).on (replyArgs r)) sx →
    sx.refuses h ((anySpec 0x0103 true true false).on (replyArgs r)) (replyOk h r) = none →
    exec (.getWatermark h r) s = .next (((sx.reply h 0x0103 r (toLe (sx.watermark (sx.hdrPart h) (if h.context = 0xFF then none else some (sx.hdrCtx h))).toNat 32))).unclaim h s.host.nextJob))

/-- A checkpoint that is paused is written and committed; timeouts, mirrors, restarts and remaps end as the rules say -/
def Obligations.CheckpointWork : Prop :=
  (∀ (s : State) (c : Fin 16) (fi : List (DWord × Ecc)) (sp : List DWord) (w : CkptWork) (sc : Scroll),
    let u := (s.quillFinds (s.ckptReads c) fi sp).writeImage c w sc ((sc.layout (s.ctx c).run.layout).getD [])
    let p := ctxPart c.val
    (s.part p).ckptPause = some c.val →
    (s.ctx c).run.frozen = false →
    (s.ctx c).lc.work = some w →
    (s.ctx c).scroll = some sc →
    (w.spoiled = true → exec (.checkpointCommit c fi sp) s = .next (((u.modLife c (fun l => { l with work := none })).unpause c).edgeTail p)) ∧
    (w.spoiled = false → w.waits = [] → exec (.checkpointCommit c fi sp) s = .next (((u.commitCheckpoint c w).rotate c w).endPause c)) ∧
    (w.spoiled = false → w.waits ≠ [] → exec (.checkpointCommit c fi sp) s =
      .next (((u.modLife c (fun l => { l with work := some { w with written := true } })).rotate c w).endPause c))) ∧
  (∀ (s : State) (i : Nat) (j : Job) (h : Hdr),
    let c := 4 * s.partNamed h.partition.toNat + h.context.toNat % 4
    s.job i = some j →
    j.cmd = .stopContextAtQuiet h →
    (s.ctx c).lc.stopQuiet = some i →
    (s.ctx c).lc.work = none →
    exec (.checkpointTimeout i) s = .next ((s.finish i .timeout 0).modLife c (fun l => { l with stopQuiet := none }))) ∧
  (∀ (s : State) (i : Nat) (j : Job) (h : Hdr) (mi sm : Byte) (pd : Half) (pw : Byte) (ha hl : DWord) (k : CkptCmd),
    let c := 4 * s.partNamed h.partition.toNat + h.context.toNat % 4
    s.job i = some j →
    j.cmd = .checkpoint h mi sm pd pw ha hl →
    (s.ctx c).lc.ckpt = some k →
    k.job = i →
    (s.ctx c).lc.work = none →
    exec (.checkpointTimeout i) s = .next ((s.finish i .timeout 0).modLife c (fun l => { l with ckpt := none }))) ∧
  (∀ (s : State) (i : Nat) (j : Job) (h : Hdr) (mi sm : Byte) (pd : Half) (pw : Byte) (ha hl : DWord),
    let c := 4 * s.partNamed h.partition.toNat + h.context.toNat % 4
    s.job i = some j →
    j.cmd = .checkpoint h mi sm pd pw ha hl →
    (s.ctx c).lc.ckpt = none →
    ((∀ t ∈ s.fabric.tracked, t.origin ≠ .mirror i) → exec (.checkpointMirrorDone i true) s = .next (s.finish i .ok j.value)) ∧
    exec (.checkpointMirrorDone i false) s = .next (s.finish i .aborted 0)) ∧
  (∀ (s : State) (c : Fin 16) (n : Fin 1536) (ls : List LineFind),
    exec (.contextRestart c) s = .next (if s.mayRestart c = true then s.restart c (s.restartReason c) else s) ∧
    exec (.contextRestart c ls) s = .next (if s.mayRestart c = true then
      s.startReading c (s.restartReads c) ls (fun t => t.restart c (s.restartReason c)) else s) ∧
    (s.mayRestart c = true → (s.ctx c).lc.restartDue = true ∧ (s.ctx c).lc.life = .off ∧ (s.qpart (ctxPart c)).life = .on ∧
      (s.qpart (ctxPart c)).out = false ∧ s.quill.health.service ≠ 2) ∧
    exec (.coreRemap n) s = .next (if (s.core n).ctl.fenced = true ∧ (∀ d ∈ s.liveContexts (s.partOf (kOf n)), s.mapsCluster d (kOf n) = false) then s.moveRole n 1 else s))

/-- SEQ_OPEN, FORK, REWIND, ACCEPT and CLOSE act on the slots of the partition and complete with a position -/
def Obligations.SequenceCommands : Prop :=
  (∀ (s sx : State) (h : Hdr) (sl lg ti : Byte) (ba pg : Half),
    let n := sl.toNat
    let c := sx.hdrCtx h
    startsIn s h ({ opcode := 0x0302, vf := true, bc := false, safe := false, part := .one, context := true, work := false, args := [(16, 1, sl.toNat), (17, 1, lg.toNat), (18, 1, ti.toNat), (20, 2, ba.toNat), (22, 2, pg.toNat)] }) sx →
    sx.refuses h ({ opcode := 0x0302, vf := true, bc := false, safe := false, part := .one, context := true, work := false, args := [(16, 1, sl.toNat), (17, 1, lg.toNat), (18, 1, ti.toNat), (20, 2, ba.toNat), (22, 2, pg.toNat)] }) ((decide (6 ≤ lg.toNat ∧ lg.toNat ≤ 14 ∧ ti.toNat < 48 ∧ ba.toNat ≤ 1535 ∧ ba.toNat + pg.toNat ≤ 1536)) && [sl].all (fun n => sx.slotNamed h n)) = none →
    (sx.qpart (sx.hdrPart h)).life ≠ .starting ∧ (sx.qpart (sx.hdrPart h)).life ≠ .stopping →
    ((sx.writingImage c = true ∨ (sx.slot n).faulted = true) → exec (.seqOpen h sl lg ti ba pg) s = .next (((sx.complete h 0x0302 .wrongState 0)).unclaim h s.host.nextJob)) ∧
    (sx.writingImage c = false → (sx.slot n).faulted = false → (sx.slot n).open_ = true →
      exec (.seqOpen h sl lg ti ba pg) s = .next (((sx.complete h 0x0302 .ok (sx.slot n).pos)).unclaim h s.host.nextJob)) ∧
    (sx.writingImage c = false → (sx.slot n).faulted = false → (sx.slot n).open_ = false →
      exec (.seqOpen h sl lg ti ba pg) s = .next ((((({ sx with store := sx.store.zeroRange (tableBase n) tableSize } : State).modSlot n (fun _ =>
        { Slot.reset with open_ := true, ctx := c, log2 := lg.toNat, tierCluster := ti, tierBase := ba.toNat, tierPages := pg.toNat })).complete h 0x0302 .ok 0)).unclaim h s.host.nextJob))) ∧
  (∀ (s sx : State) (h : Hdr) (a b : Byte) (p : Word) (tb : List (BitVec 22 × Ecc)) (ls : List LineFind),
    let x := sx.slot a.toNat
    let t := sx.readTable x.ctx a.toNat tb ls
    startsIn s h ({ opcode := 0x0303, vf := true, bc := false, safe := false, part := .one, context := false, work := false, args := [(16, 1, a.toNat), (17, 1, b.toNat), (20, 4, p.toNat)] }) sx →
    sx.refuses h ({ opcode := 0x0303, vf := true, bc := false, safe := false, part := .one, context := false, work := false, args := [(16, 1, a.toNat), (17, 1, b.toNat), (20, 4, p.toNat)] }) (posOk p && [a, b].all (fun n => sx.slotNamed h n)) = none →
    (sx.qpart (sx.hdrPart h)).life ≠ .starting ∧ (sx.qpart (sx.hdrPart h)).life ≠ .stopping →
    exec (.seqFork h a b p tb ls) s = .next (((t.slotEnd h 0x0303 b.toNat (t.forkSlot x.ctx a.toNat b.toNat p.toNat))).unclaim h s.host.nextJob)) ∧
  (∀ (s sx : State) (h : Hdr) (a : Byte) (p : Word) (tb : List (BitVec 22 × Ecc)) (ls : List LineFind),
    let x := sx.slot a.toNat
    let t := sx.readTable x.ctx a.toNat tb ls
    startsIn s h ({ opcode := 0x0304, vf := true, bc := false, safe := false, part := .one, context := false, work := false, args := [(16, 1, a.toNat), (20, 4, p.toNat)] }) sx →
    sx.refuses h ({ opcode := 0x0304, vf := true, bc := false, safe := false, part := .one, context := false, work := false, args := [(16, 1, a.toNat), (20, 4, p.toNat)] }) (posOk p && [a].all (fun n => sx.slotNamed h n)) = none →
    (sx.qpart (sx.hdrPart h)).life ≠ .starting ∧ (sx.qpart (sx.hdrPart h)).life ≠ .stopping →
    exec (.seqRewind h a p tb ls) s = .next (((t.slotEnd h 0x0304 a.toNat (t.rewindSlot x.ctx a.toNat p.toNat))).unclaim h s.host.nextJob)) ∧
  (∀ (s sx : State) (h : Hdr) (a b : Byte) (tb tc : List (BitVec 22 × Ecc)) (ls : List LineFind),
    let x := sx.slot a.toNat
    let t := (sx.readTable x.ctx a.toNat tb ls).readTable x.ctx b.toNat tc ls
    startsIn s h ({ opcode := 0x0305, vf := true, bc := false, safe := false, part := .one, context := false, work := false, args := [(16, 1, a.toNat), (17, 1, b.toNat)] }) sx →
    sx.refuses h ({ opcode := 0x0305, vf := true, bc := false, safe := false, part := .one, context := false, work := false, args := [(16, 1, a.toNat), (17, 1, b.toNat)] }) (true && [a, b].all (fun n => sx.slotNamed h n)) = none →
    (sx.qpart (sx.hdrPart h)).life ≠ .starting ∧ (sx.qpart (sx.hdrPart h)).life ≠ .stopping →
    exec (.seqAccept h a b tb tc ls) s = .next (((t.slotEnd h 0x0305 a.toNat (t.acceptSlot x.ctx a.toNat b.toNat))).unclaim h s.host.nextJob)) ∧
  (∀ (s t : State) (h : Hdr) (op n : Nat),
    s.slotEnd h op n (.inl .range) = s.complete h op .badParam 0 ∧ s.slotEnd h op n (.inl .state) = s.complete h op .wrongState 0 ∧
    s.slotEnd h op n (.inl .rule) = s.complete h op .wrongState 0 ∧
    s.slotEnd h op n (.inr t) = t.complete h op .ok (t.slot n).pos) ∧
  (∀ (s sx : State) (h : Hdr) (sl : Byte) (tb : List (BitVec 22 × Ecc)) (ls : List LineFind),
    let n := sl.toNat
    let x := sx.slot n
    let t := sx.readTable x.ctx n tb ls
    startsIn s h ({ opcode := 0x0306, vf := true, bc := false, safe := false, part := .one, context := false, work := false, args := [(16, 1, sl.toNat)] }) sx →
    sx.refuses h ({ opcode := 0x0306, vf := true, bc := false, safe := false, part := .one, context := false, work := false, args := [(16, 1, sl.toNat)] }) (true && [sl].all (fun n => sx.slotNamed h n)) = none →
    (sx.qpart (sx.hdrPart h)).life ≠ .starting ∧ (sx.qpart (sx.hdrPart h)).life ≠ .stopping →
    (x.open_ = false → x.faulted = false → exec (.seqClose h sl tb ls) s = .next (((sx.complete h 0x0306 .ok x.pos)).unclaim h s.host.nextJob)) ∧
    ((x.open_ = true ∨ x.faulted = true) → sx.writingImage x.ctx = true → exec (.seqClose h sl tb ls) s = .next (((sx.complete h 0x0306 .wrongState 0)).unclaim h s.host.nextJob)) ∧
    ((x.open_ = true ∨ x.faulted = true) → sx.writingImage x.ctx = false → exec (.seqClose h sl tb ls) s =
      .next ((((t.closeSlot n).complete h 0x0306 .ok 0)).unclaim h s.host.nextJob))) ∧
  (∀ (s : State) (n : Nat),
    let t := s.closeSlot n
    (t.slot n).open_ = false ∧ (t.slot n).faulted = false ∧ (t.slot n).pos = 0 ∧ (t.slot n).tierPages = 0 ∧
    (∀ k, k ≠ n → (t.slot k).pos = (s.slot k).pos ∧ (t.slot k).open_ = (s.slot k).open_)) ∧
  (∀ (s v : State) (c a b p : Nat),
    s.forkSlot c a b p = .inr v →
    s.slotOpen a c = true ∧ s.slotClosed b c = true ∧ p ≤ (s.slot a).pos ∧ (v.slot b).pos = p ∧ (v.slot b).open_ = true ∧
      (v.slot b).ctx = (s.slot a).ctx ∧ (v.slot b).log2 = (s.slot a).log2 ∧ (v.slot a).pos = (s.slot a).pos ∧
      (v.slot a).commands = satInc (s.slot a).commands ∧ (∀ k, k ≠ a → k ≠ b → v.slot k = s.slot k))

/-- RUN_BIST, pattern packs and suspect replay run where their conditions hold, and end with what they found -/
def Obligations.TestCommands : Prop :=
  (∀ (s sx : State) (h : Hdr),
    let p := sx.hdrPart h
    let q := sx.qpart p
    let busy := (List.range 4).any (fun i => decide ((sx.ctx (4 * p + i)).lc.life ≠ .off) || (sx.ctx (4 * p + i)).lc.restartDue)
    startsIn s h ({ pfOnly 0x0501 true .one with work := true, args := [(16, 1, 0)] }) sx →
    sx.refuses h ({ pfOnly 0x0501 true .one with work := true, args := [(16, 1, 0)] }) true = none →
    exec (.bistLogic h) s = .next (((if q.life ≠ .on ∨ busy = true ∨ sx.testsBarred = true then sx.complete h 0x0501 .wrongState 0
      else if sx.bistRuns p = true then sx.complete h 0x0501 .busy 0 else ((sx.deferJob h 0x0501 (.bistLogic h) 0).bistLoses p 0).relock p 13)).unclaim h s.host.nextJob)) ∧
  (∀ (s sx : State) (h : Hdr),
    let p := sx.hdrPart h
    let q := sx.qpart p
    let busy := (List.range 4).any (fun i => decide ((sx.ctx (4 * p + i)).lc.life ≠ .off) || (sx.ctx (4 * p + i)).lc.restartDue)
    startsIn s h ({ pfOnly 0x0501 true .one with work := true, args := [(16, 1, 1)] }) sx →
    sx.refuses h ({ pfOnly 0x0501 true .one with work := true, args := [(16, 1, 1)] }) true = none →
    exec (.bistInkwellMarch h) s = .next (((if q.life ≠ .on ∨ busy = true ∨ sx.testsBarred = true then sx.complete h 0x0501 .wrongState 0
      else if sx.bistRuns p = true then sx.complete h 0x0501 .busy 0 else ((sx.deferJob h 0x0501 (.bistInkwellMarch h) 1).bistLoses p 1).relock p 13)).unclaim h s.host.nextJob)) ∧
  (∀ (s sx : State) (h : Hdr),
    let p := sx.hdrPart h
    let q := sx.qpart p
    let busy := (List.range 4).any (fun i => decide ((sx.ctx (4 * p + i)).lc.life ≠ .off) || (sx.ctx (4 * p + i)).lc.restartDue)
    startsIn s h ({ pfOnly 0x0501 true .one with work := true, args := [(16, 1, 2)] }) sx →
    sx.refuses h ({ pfOnly 0x0501 true .one with work := true, args := [(16, 1, 2)] }) true = none →
    exec (.bistLpddrQuick h) s = .next (((if q.life ≠ .on ∨ busy = true ∨ sx.testsBarred = true then sx.complete h 0x0501 .wrongState 0
      else if sx.bistRuns p = true then sx.complete h 0x0501 .busy 0 else ((sx.deferJob h 0x0501 (.bistLpddrQuick h) 2).bistLoses p 2).relock p 13)).unclaim h s.host.nextJob)) ∧
  (∀ (s sx : State) (h : Hdr),
    let p := sx.hdrPart h
    let q := sx.qpart p
    let busy := (List.range 4).any (fun i => decide ((sx.ctx (4 * p + i)).lc.life ≠ .off) || (sx.ctx (4 * p + i)).lc.restartDue)
    startsIn s h ({ pfOnly 0x0501 true .one with work := true, args := [(16, 1, 3)] }) sx →
    sx.refuses h ({ pfOnly 0x0501 true .one with work := true, args := [(16, 1, 3)] }) true = none →
    exec (.bistLpddrFull h) s = .next (((if q.life ≠ .on ∨ busy = true ∨ sx.testsBarred = true then sx.complete h 0x0501 .wrongState 0
      else if sx.bistRuns p = true then sx.complete h 0x0501 .busy 0 else ((sx.deferJob h 0x0501 (.bistLpddrFull h) 3).bistLoses p 3).relock p 13)).unclaim h s.host.nextJob)) ∧
  (∀ (s : State) (i : Nat) (j : Job) (n : Nat) (found : List BistFinding) (cal : List XCal),
    let p := s.hdrPart j.hdr
    let mine := if n = 0 then cal.filter (fun x => decide (s.partOf x.k.val = p)) else []
    let failed := mine.filter (fun x => match s.crossingClass x.k.val x.port.toNat with | some c => decide (c < x.cal.toNat) | none => false)
    let u := mine.foldl State.calibrate (found.foldl State.handleFinding s)
    let bad := found.any BistFinding.fatal
    let rows := found.filter (fun f => match f with | .inkwellRow _ _ _ _ spare => spare | _ => false)
    s.job i = some j →
    bistScope j.cmd = some n →
    exec (.bistDone i found cal) s =
      .next (((if bad = true then u.bistOut p else u).finish i .ok (bistResult (u.fences - s.fences) rows.length (u.bulk.bad.length - s.bulk.bad.length)
        (if bad = true then 1 else 0) failed.length)).refreshPw p)) ∧
  (∀ (s sx : State) (h : Hdr) (ha : DWord) (len : Word),
    let pk := fun (b : List Byte) => ({ id := BitVec.ofNat 32 (fld b 8 4), version := BitVec.ofNat 32 (fld b 12 4), patterns := fld b 16 2, bytes := b } : Pack)
    startsIn s h ((pfOnly 0x0503 false .any).on [(16, 8, ha.toNat), (24, 4, len.toNat)]) sx →
    sx.refuses h ((pfOnly 0x0503 false .any).on [(16, 8, ha.toNat), (24, 4, len.toNat)]) (decide (ha.toNat % 4 = 0)) = none →
    (4 * 1048576 < len.toNat → ∀ x, exec (.loadFirnPatterns h ha len x) s = .next (((sx.complete h 0x0503 .badParam 0)).unclaim h s.host.nextJob)) ∧
    (len.toNat ≤ 4 * 1048576 → exec (.loadFirnPatterns h ha len none) s = .next (((sx.complete h 0x0503 .aborted 0)).unclaim h s.host.nextJob)) ∧
    (∀ b, len.toNat ≤ 4 * 1048576 → b.length = len.toNat → packOk b = false →
      exec (.loadFirnPatterns h ha len (some b)) s = .next (((sx.complete h 0x0503 .badParam 0)).unclaim h s.host.nextJob)) ∧
    (∀ b k, len.toNat ≤ 4 * 1048576 → b.length = len.toNat → packOk b = true → sx.module_.ident.enrolled 1 = some k →
      verified k (b.take (b.length - 64)) (b.drop (b.length - 64)) = true → (∀ x ∈ sx.quill.packs, x.id = (pk b).id → x.version.toNat < (pk b).version.toNat) →
      (sx.quill.packs.filter (fun x => x.id != (pk b).id)).length < 4 → ∃ l, l = placePack sx.quill.packs (pk b) ∧
      exec (.loadFirnPatterns h ha len (some b)) s = .next ((((((sx.modQuill (fun q => { q with packs := l })).writeRec 5
        (packIndex l (pk b).id) 0 0 b).moraineAppend 12 [(16, 4, (pk b).id.toNat), (20, 4, (pk b).version.toNat)]).complete h 0x0503 .ok 0)).unclaim h s.host.nextJob))) ∧
  (∀ (s sx : State) (h : Hdr),
    let p := sx.hdrPart h
    let q := sx.qpart p
    startsIn s h ({ pfOnly 0x0504 false .one with work := true }) sx →
    sx.refuses h ({ pfOnly 0x0504 false .one with work := true }) true = none →
    ((q.suspects = 0 ∨ q.replay = 1 ∨ sx.liveContexts p ≠ []) → exec (.replaySuspects h) s = .next (((sx.complete h 0x0504 .wrongState 0)).unclaim h s.host.nextJob)) ∧
    (q.suspects ≠ 0 → q.replay ≠ 1 → sx.liveContexts p = [] → exec (.replaySuspects h) s = .next (((((sx.deferJob h 0x0504 (.replaySuspects h) 0).modQPart p
      (fun q => { q with replay := 1, replayJob := some sx.host.nextJob, replayCtx := none, replayRun := 0 })).replayFrom 5 p 0)).unclaim h s.host.nextJob))) ∧
  (∀ (s : State) (p : Fin 4) (cal : List XCal) (i : Nat),
    let q := s.qpart p
    let u := (s.resetPartition p cal).post 0x0020 3 (source 3 0 0 p 0) [(16, 1, 3), (17, 1, i), (18, 1, q.suspects.toNat), (20, 4, (s.part p).stroke.count.toNat % 2 ^ 32), (24, 4, s.msSince q.lastStrokeTime)] (some p)
    q.replayCtx = some i →
    q.replay = 1 →
    exec (.suspectRunEnd p false cal) s = .next ((s.suspectOff (4 * p + i)).replayFrom 5 p (i + 1)) ∧
    exec (.suspectRunEnd p true cal) s = .next (((List.range 4).foldl (fun t n => if q.suspects.getLsbD n then t.suspectOff (4 * p + n) else t) u).endReplay p i))

/-- Power states, domains, resets and caps act on what they name by the state it is in -/
def Obligations.PowerCommands : Prop :=
  (∀ (s sx : State) (h : Hdr) (cal : List XCal),
    let ps := sx.namedParts h
    let id := sx.host.nextJob
    let u := ps.foldl (fun t p => t.modQPart p (fun q => { q with jobs := q.jobs ++ [id] }))
      (if ps.any (fun p => sx.partHolds p 0) = true then sx.deferJob h 0x0601 (.powerStateRun h cal) 0 else sx.addJob h 0x0601 (.powerStateRun h cal) 0)
    startsIn s h ((anySpec 0x0601 false true true).on [(16, 1, 0)]) sx →
    sx.refuses h ((anySpec 0x0601 false true true).on [(16, 1, 0)]) true = none →
    sx.inSafe = false →
    (∀ p ∈ ps, (sx.qpart p).held = none) →
    exec (.powerStateRun h cal) s = .next ((((ps.foldl (fun t p => t.enableOne id p 0 cal) u.leaveLow).settleJobs [id])).unclaim h s.host.nextJob)) ∧
  (∀ (s sx : State) (h : Hdr) (cal : List XCal),
    let ps := sx.namedParts h
    let id := sx.host.nextJob
    let u := ps.foldl (fun t p => t.modQPart p (fun q => { q with jobs := q.jobs ++ [id] }))
      (if ps.any (fun p => sx.partHolds p 1) = true then sx.deferJob h 0x0601 (.powerStateIdle h cal) 0 else sx.addJob h 0x0601 (.powerStateIdle h cal) 0)
    startsIn s h ((anySpec 0x0601 false true true).on [(16, 1, 1)]) sx →
    sx.refuses h ((anySpec 0x0601 false true true).on [(16, 1, 1)]) true = none →
    sx.inSafe = false →
    (∀ p ∈ ps, (sx.qpart p).held = none) →
    exec (.powerStateIdle h cal) s = .next ((((ps.foldl (fun t p => t.enableOne id p 1 cal) u.leaveLow).settleJobs [id])).unclaim h s.host.nextJob)) ∧
  (∀ (s sx : State) (h : Hdr),
    let ps := sx.namedParts h
    let id := sx.host.nextJob
    let u := ps.foldl (fun t p => t.modQPart p (fun q => { q with jobs := q.jobs ++ [id] }))
      (if ps.any (fun p => sx.partHolds p 2) = true then sx.deferJob h 0x0601 (.powerStateRetain h) 0 else sx.addJob h 0x0601 (.powerStateRetain h) 0)
    startsIn s h ((anySpec 0x0601 false true true).on [(16, 1, 2)]) sx →
    sx.refuses h ((anySpec 0x0601 false true true).on [(16, 1, 2)]) true = none →
    sx.inSafe = false →
    (∀ p ∈ ps, (sx.qpart p).held = none) →
    exec (.powerStateRetain h) s = .next ((((ps.foldl (fun t p => t.disableOne id p 2) (if h.partition = 0xFF then u.enterLow 2 else u)).settleJobs [id])).unclaim h s.host.nextJob)) ∧
  (∀ (s sx : State) (h : Hdr),
    let ps := sx.namedParts h
    let id := sx.host.nextJob
    let u := ps.foldl (fun t p => t.modQPart p (fun q => { q with jobs := q.jobs ++ [id] }))
      (if ps.any (fun p => sx.partHolds p 3) = true then sx.deferJob h 0x0601 (.powerStateDormant h) 0 else sx.addJob h 0x0601 (.powerStateDormant h) 0)
    startsIn s h ((anySpec 0x0601 false true true).on [(16, 1, 3)]) sx →
    sx.refuses h ((anySpec 0x0601 false true true).on [(16, 1, 3)]) true = none →
    sx.inSafe = false →
    (∀ p ∈ ps, (sx.qpart p).held = none) →
    exec (.powerStateDormant h) s = .next ((((ps.foldl (fun t p => t.disableOne id p 3) (if h.partition = 0xFF then u.enterLow 3 else u)).settleJobs [id])).unclaim h s.host.nextJob)) ∧
  (∀ (s sx : State) (h : Hdr) (d : Byte) (b : Bool),
    let n := d.toNat
    let cmd := if b = true then Instr.domainOn h d else Instr.domainOff h d
    let same := sx.domainJobs n b 0
    let other := sx.domainJobs n (!b) 0
    startsIn s h ((pfOnly 0x0602 false .any).on [(16, 1, d.toNat), (17, 1, if b = true then 1 else 0)]) sx →
    sx.refuses h ((pfOnly 0x0602 false .any).on [(16, 1, d.toNat), (17, 1, if b = true then 1 else 0)]) (decide (d.toNat < 58)) = none →
    (∀ p ∈ sx.domainParts n, (sx.qpart p).life ≠ .starting ∧ (sx.qpart p).life ≠ .stopping) →
    (same ≠ [] → exec cmd s = .next (((sx.complete h 0x0602 .busy 0)).unclaim h s.host.nextJob)) ∧
    (same = [] → other ≠ [] → exec cmd s = .next ((((sx.finishAll other .aborted 0).addJob h 0x0602 cmd 1)).unclaim h s.host.nextJob)) ∧
    (same = [] → other = [] →
      (sx.domainLife n = (if b = true then .on else .off) → exec cmd s = .next (((sx.complete h 0x0602 .ok 0)).unclaim h s.host.nextJob)) ∧
      (sx.domainLife n = (if b = true then .stopping else .starting) → exec cmd s = .next (((sx.deferJob h 0x0602 cmd 0)).unclaim h s.host.nextJob)) ∧
      (sx.domainLife n = (if b = true then .starting else .stopping) → exec cmd s = .next (((sx.addJob h 0x0602 cmd 1)).unclaim h s.host.nextJob)) ∧
      (sx.domainLife n = (if b = true then .off else .on) → exec cmd s =
        .next (((if sx.switchBarred n b = true then sx.complete h 0x0602 .wrongState 0
          else if b = true then sx.addJob h 0x0602 cmd 1 else (sx.addJob h 0x0602 cmd 1).switchDomain n false)).unclaim h s.host.nextJob)))) ∧
  (∀ (s : State) (d : BitVec 6),
    let n := d.toNat
    (s.domainJobs n true 1 ≠ [] → exec (.domainRampDone d) s =
      .next (((s.switchDomain n true).finishAll (s.domainJobs n true 1) .ok 0).carryDomain n false)) ∧
    (s.domainJobs n true 1 = [] → s.domainJobs n false 1 ≠ [] → exec (.domainRampDone d) s =
      .next ((s.finishAll (s.domainJobs n false 1) .ok 0).carryDomain n true)) ∧
    (s.domainJobs n true 1 = [] → s.domainJobs n false 1 = [] → exec (.domainRampDone d) s = .next s)) ∧
  (∀ (s sx : State) (h : Hdr) (cal : List XCal),
    let p := sx.hdrPart h
    startsIn s h ({ opcode := 0x0603, vf := true, bc := true, safe := false, part := .one, context := false, work := true }) sx →
    sx.refuses h ({ opcode := 0x0603, vf := true, bc := true, safe := false, part := .one, context := false, work := true }) true = none →
    (sx.qpart p).life ≠ .starting ∧ (sx.qpart p).life ≠ .stopping →
    exec (.resetPartition h cal) s = .next ((((((sx.deferJob h 0x0603 (.resetPartition h cal) 0).resetPartition p cal).refreshPw p).finish sx.host.nextJob .ok 0)).unclaim h s.host.nextJob)) ∧
  (∀ (s sx : State) (h : Hdr) (w : Half),
    startsIn s h ((anySpec 0x0604 false true true).on [(16, 2, w.toNat)]) sx →
    sx.refuses h ((anySpec 0x0604 false true true).on [(16, 2, w.toNat)]) (decide (w = 0 ∨ (300 ≤ w.toNat ∧ w.toNat ≤ 1350))) = none →
    (h.fn = 5 → exec (.setPowerCap h w) s = .next ((((sx.modPower (fun x => { x with bcW := w })).complete h 0x0604 .ok 0)).unclaim h s.host.nextJob)) ∧
    (h.fn ≠ 5 → exec (.setPowerCap h w) s = .next ((((sx.modPower (fun x => { x with hostW := w })).complete h 0x0604 .ok 0)).unclaim h s.host.nextJob))) ∧
  (∀ (s : State),
    s.module_.power.low = 3 →
    s.domOn 58 = true →
    (∀ p, p < 4 → (s.qpart p).life = .off) →
    s.host.jobs.all (fun e => match e.2.cmd with | .powerStateDormant _ => false | _ => true) = true →
    ∃ t, exec .dormantHostInterfaceOff s = .next t ∧ t.quill.running = false ∧ t.domOn 58 = false ∧ t.domOn 59 = false ∧ t.module_.ident.staged = none ∧
      (∀ f, f < 5 → t.fn f = { Fn.reset with nonce := (s.fn f).nonce }) ∧ t.host.link.width = 0) ∧
  (∀ (s : State) (k : Fin 48) (cal : List XCal) (r : Fin 8),
    s.domOn k.val = true →
    s.inTests = false →
    (∀ c, s.ctxOfCluster k = some c → (s.ctx c).lc.life ≠ .off → exec (.domainSupplyFailure k cal) s = .next (s.partFault (ctxPart c) 5 0 cal)) ∧
    (s.ctxOfCluster k = none → exec (.domainSupplyFailure k cal) s = .next (s.clusterDown k.val false)) ∧
    exec (.supplyOutOfTolerance r false cal) s = .next (s.abortBists cal)) ∧
  (∀ (s : State) (cause : Byte) (us ppb : Word) (cal : List XCal),
    let u := (s.modClock (fun c => { c with present := false, holdover := true, losses := satInc c.losses, lossAt := s.time })).post 0x0031 1 (source 3 0 0 0 0) [(16, 1, cause.toNat), (20, 4, us.toNat)] none
    let ns := s.time - s.module_.clock.lossAt
    s.module_.entry.on = true →
    (s.module_.clock.holdover = false → exec (.referenceLoss cause us cal) s = .next (if u.inTests = true then (u.enterSafe 2 0).endStartJob else u.abortBists cal)) ∧
    (s.module_.clock.holdover = true → exec (.referenceLoss cause us cal) s = .next s ∧
      exec (.referenceRestored ppb) s = .next ((s.modClock (fun c => { c with present := true, holdover := false, lastMs := cut16 (ns / 1000000) })).post 0x0032 0
        (source 3 0 0 0 0) [(16, 8, ns / 1000), (24, 4, ppb.toNat)] none)) ∧
    (s.module_.clock.holdover = false → exec (.referenceRestored ppb) s = .next s)) ∧
  (∀ (s : State) (w : Half),
    let u := s.modPower (fun x => { x with watts := w, delay := nextDelay x.delay w.toNat x.effective, maxSince := if nextDelay x.delay w.toNat x.effective = 256 then some (x.maxSince.getD s.time) else none, zeroSince := if nextDelay x.delay w.toNat x.effective = 0 then some (x.zeroSince.getD s.time) else none })
    s.quill.running = true →
    exec (.powerCapTick w) s = .next u.capSeamStep ∧
    (∀ d a cap : Nat, nextDelay d a cap = if cap < a then min 256 (d + 8) else if a * 100 < cap * 97 then d - 8 else d)) ∧
  (∀ (s : State) (x : ThermSensor) (t : BitVec 16),
    let u := s.modPower (fun w => { w with temps := w.temps.set (thermIndex x) t })
    let hot := u.module_.power.hottestOf (List.range 50)
    let v := u.modPower (fun w => { w with hottest := hot.2, hotCluster := if hot.1 < 48 then BitVec.ofNat 6 hot.1 else 63 })
    s.module_.entry.on = true →
    (s.module_.power.tripped = true → exec (.thermalSample x t) s = .next v) ∧
    (s.module_.power.tripped = false → 1250 ≤ t.toInt → exec (.thermalSample x t) s = .next v.trip) ∧
    (s.module_.power.tripped = false → t.toInt < 1250 → exec (.thermalSample x t) s = .next ((v.levelStep false).levelStep true)) ∧
    (∀ (y : State) (e : Bool), let n := thermLevel (y.module_.power.hottestOf (sensorsOf e)).2.toInt
      (n = y.module_.power.levelOf e → y.levelStep e = y) ∧
      (n ≠ y.module_.power.levelOf e → y.levelStep e = if n = 3 then (y.setLevel e n).emergency e else (y.setLevel e n).postThermal n e 0))) ∧
  (∀ (s : State) (e : Bool) (cal : List XCal),
    let w := s.module_.power
    let bit : BitVec 2 := if e = true then 2 else 1
    let cut := if 2 ≤ w.west ∨ 2 ≤ w.east then min 1350 (w.cut + 50) else if w.allBelow false 970 = true ∧ w.allBelow true 970 = true then w.cut - 50 else w.cut
    let may := w.held &&& bit ≠ 0 ∧ w.allBelow e 900 = true
    exec .thermalThrottleStep s = .next (((s.modPower (fun w => { w with cut := cut })).throttleSeam false).throttleSeam true) ∧
    (may → exec (.thermalHoldRelease e cal) s = .next ((partitionsOf s.dev.mode).foldl (fun t p => t.releasePart cal p) (s.modPower (fun w => { w with held := w.held &&& ~~~bit })))) ∧
    (¬may → exec (.thermalHoldRelease e cal) s = .next s))

/-- Reports, staged images, commits and the heartbeat follow their rules; lock-step pairs, times out and is released -/
def Obligations.FirmwareAndLockstep : Prop :=
  (∀ (s sx : State) (h : Hdr) (r : Reply) (nonce : BitVec 256),
    startsIn s h ((anySpec 0x0701 true true true).on (replyArgs r ++ [(32, 32, nonce.toNat)])) sx →
    sx.refuses h ((anySpec 0x0701 true true true).on (replyArgs r ++ [(32, 32, nonce.toNat)])) (replyOk h r) = none →
    exec (.attest h r nonce) s = .next (((sx.reply h 0x0701 r (sx.report nonce))).unclaim h s.host.nextJob)) ∧
  (∀ (s sx : State) (h : Hdr) (r : Reply) (ty ix : Half),
    startsIn s h ((anySpec 0x0704 false true true).on (replyArgs r ++ [(28, 2, ty.toNat), (30, 2, ix.toNat)])) sx →
    sx.refuses h ((anySpec 0x0704 false true true).on (replyArgs r ++ [(28, 2, ty.toNat), (30, 2, ix.toNat)])) (replyOk h r && recordTypes.contains ty.toNat) = none →
    (∀ b, sx.recordBytes ty.toNat ix.toNat = some b → exec (.recordRead h r ty ix) s = .next (((sx.reply h 0x0704 r b)).unclaim h s.host.nextJob)) ∧
    (sx.recordBytes ty.toNat ix.toNat = none → exec (.recordRead h r ty ix) s = .next (((sx.complete h 0x0704 .wrongState 0)).unclaim h s.host.nextJob))) ∧
  (∀ (s sx : State) (h : Hdr) (ha : DWord) (len : Word) (b : List Byte),
    let d := sx.deferJob h 0x0702 (.fwStage h ha len none) 0
    let id := sx.host.nextJob
    b.length = len.toNat →
    startsIn s h ((pfOnly 0x0702 true .any).on [(16, 8, ha.toNat), (24, 4, len.toNat)]) sx →
    sx.refuses h ((pfOnly 0x0702 true .any).on [(16, 8, ha.toNat), (24, 4, len.toNat)]) (decide (ha.toNat % 4 = 0)) = none →
    (sx.stageStatus len.toNat (some b) = .ok → exec (.fwStage h ha len (some b)) s =
      .next ((((d.modIdent (fun x => { x with staged := some (stagedOf b) })).finish id .ok 0)).unclaim h s.host.nextJob) ∧ 512 ≤ len.toNat ∧ len.toNat ≤ 8388608 ∧
      sx.module_.ident.committing = none ∧ imageSigned b = true ∧ sx.svnOk (stagedOf b) = true) ∧
    (∀ st, sx.stageStatus len.toNat (some b) = st → st ≠ .ok → exec (.fwStage h ha len (some b)) s =
      .next ((((d.modIdent (fun x => { x with staged := none })).finish id st 0)).unclaim h s.host.nextJob)) ∧
    (512 ≤ len.toNat → len.toNat ≤ 8388608 → sx.module_.ident.committing = none → exec (.fwStage h ha len none) s =
      .next ((((d.modIdent (fun x => { x with staged := none })).finish id .aborted 0)).unclaim h s.host.nextJob))) ∧
  (∀ (s sx : State) (h : Hdr) (x : Staged),
    let d := sx.deferJob h 0x0703 (.fwCommit h) 0
    let id := sx.host.nextJob
    startsIn s h (pfOnly 0x0703 true .any) sx →
    sx.refuses h (pfOnly 0x0703 true .any) true = none →
    sx.module_.ident.staged = some x →
    sx.module_.ident.committing = none →
    (x.kind = 1 → sx.commitBarred = true → exec (.fwCommit h) s = .next (((sx.complete h 0x0703 .wrongState 0)).unclaim h s.host.nextJob)) ∧
    (x.kind = 1 → sx.commitBarred = false → exec (.fwCommit h) s =
      .next (((d.modIdent (fun y => { y with committing := some id, writing := x.image, flash := none }))).unclaim h s.host.nextJob)) ∧
    (x.kind ≠ 1 → exec (.fwCommit h) s = .next ((((d.writeRec 3 x.keyIndex 1 0 (((x.image.drop 256).take 68) ++ toLe x.svn.toNat 4)).finish id .ok 0)).unclaim h s.host.nextJob))) ∧
  (∀ (s : State) (j : Nat),
    s.module_.ident.committing = some j →
    exec .fwCommitWriteDone s = .next ((s.modIdent (fun d =>
      { d with committing := none, flash := some d.writing, writing := [], resetDue := true })).finish j .ok 0)) ∧
  (∀ (s : State),
    let l := s.inWindow s.quill.health.mgmtResets 10 ++ [s.time]
    let u := (s.modHealth (fun h => { h with misses := 3, mgmtCount := satInc h.mgmtCount, mgmtResets := l })).modIdent (fun d => { d with staged := none, committing := none, writing := [] })
    exec .fwCommitReset s = .next (if s.module_.ident.resetDue = true then s.deviceReset else s) ∧
    (s.quill.running = true → s.module_.ident.committing = none → exec .heartbeatMiss s =
      .next (if 3 ≤ l.length then u.devFault 2 else u.modQuill (fun q => { q with running := false, restarting := true }))) ∧
    (s.quill.restarting = true → s.booted = true → s.bootRom.booted = true → exec .quillRestartDone s = .next s.bootRom.restartDone)) ∧
  (∀ (s sx : State) (h : Hdr) (port : Byte) (peer : Half),
    let u := ((sx.deferJob h 0x0901 (.lockstepPair h port peer) 0).modLock (fun l => { l with state := 1, port := BitVec.ofNat 4 port.toNat, peer := peer, job := some sx.host.nextJob })).sendLs (lsPlain 4)
    let out := sx.quill.health.portOut.getLsbD port.toNat
    startsIn s h ((pfOnly 0x0901 false .any).on [(16, 1, port.toNat), (18, 2, peer.toNat)]) sx →
    sx.refuses h ((pfOnly 0x0901 false .any).on [(16, 1, port.toNat), (18, 2, peer.toNat)]) (decide (port.toNat ≤ 15 ∧ peer.toNat < 4096)) = none →
    (out = true → exec (.lockstepPair h port peer) s = .next (((sx.complete h 0x0901 .outOfService 0)).unclaim h s.host.nextJob)) ∧
    (∀ st, out = false → sx.pairRefusal port peer = some st → exec (.lockstepPair h port peer) s = .next (((sx.complete h 0x0901 st 0)).unclaim h s.host.nextJob)) ∧
    (out = false → sx.pairRefusal port peer = none → (∀ e ∈ sx.quill.ls.asked, e.1 ≠ port.toNat ∨ e.2 + 10000000000 ≤ sx.time) →
      exec (.lockstepPair h port peer) s = .next ((u).unclaim h s.host.nextJob)) ∧
    (out = false → sx.pairRefusal port peer = none → (∃ e ∈ sx.quill.ls.asked, e.1 = port.toNat ∧ sx.time < e.2 + 10000000000) →
      exec (.lockstepPair h port peer) s = .next ((u.lsPaired).unclaim h s.host.nextJob))) ∧
  (∀ (s sx : State) (h : Hdr),
    startsIn s h (pfOnly 0x0902 false .any) sx →
    sx.refuses h (pfOnly 0x0902 false .any) true = none →
    exec (.lockstepRelease h) s = .next (((if sx.quill.ls.state = 2 then ((sx.sendLs (lsPlain 5)).lsUnpair).complete h 0x0902 .ok 0
      else sx.complete h 0x0902 .wrongState 0)).unclaim h s.host.nextJob)) ∧
  (∀ (s : State) (i : Nat),
    s.quill.ls.state = 1 →
    s.quill.ls.job = some i →
    exec (.lockstepPairTimeout i) s = .next (s.lsUnpair.finish i .timeout 0)) ∧
  (∀ (s : State) (f : Fin 16) (d : List Byte),
    let u := s.takeNext f
    let t := fld d 4 1
    let c := 4 * fld d 2 1 + fld d 3 1
    (s.port f).st = .active →
    (t = 4 → exec (.lockstepDigestReceive f d) s = .next (u.lsAsked f)) ∧
    (t ≠ 4 → u.lsOwns f = false → exec (.lockstepDigestReceive f d) s = .next u) ∧
    (t = 5 → u.lsOwns f = true → exec (.lockstepDigestReceive f d) s = .next u.lsUnpair) ∧
    (t ≤ 3 → u.lsOwns f = true → fld d 2 1 ≤ 3 → fld d 3 1 ≤ 3 → exec (.lockstepDigestReceive f d) s = .next (u.lsFrom c t d)))

/-- The power entry goes on and off at its limits, and the meter reads, stamps and reports as its rules say -/
def Obligations.MeterResults : Prop :=
  (∀ (s : State) (mv : BitVec 17),
    let m := s.module_.meter
    let since := if s.meterPowered = true then s.meterSeconds else m.since
    let inRange := decide (mv.toNat ≤ 62000)
    let lit := (s.powerless.modEntry (fun e => { e with on := true, excess := false, mv := mv.toNat })).modMeter (fun x => { x with since := since, outRange := !inRange, strayed := x.strayed || !inRange })
    s.module_.entry.on = false →
    s.module_.entry.latched = false →
    50000 ≤ mv.toNat →
    s.module_.entry.excess = false ∨ mv.toNat ≤ 62000 →
    exec (.inputRise mv) s = .next ((lit.takeReading 5 0 0).emit (.pin powerGood true)) ∧
    (mv.toNat ≤ 62000 → lit.module_.meter.outRange = false) ∧ (62000 < mv.toNat → lit.module_.meter.outRange = true)) ∧
  (∀ (s : State) (mv : BitVec 17),
    (47000 ≤ mv.toNat → mv.toNat < 50000 → exec (.inputLowWarn mv) s = .next (s.inputOut mv.toNat)) ∧
    (62000 < mv.toNat → mv.toNat ≤ 63000 → exec (.inputAboveRange mv) s = .next (s.inputOut mv.toNat)) ∧
    (50000 ≤ mv.toNat → mv.toNat ≤ 62000 → s.module_.meter.outRange = true → exec (.inputReturnToRange mv) s =
      .next (((s.setInput mv.toNat).modMeter (fun m => { m with outRange := false })).tellMeter 3)) ∧
    (mv.toNat < 20000 → s.module_.entry.on = false → ∃ t, exec (.latchClear mv) s = .next t ∧ t.module_.entry.latched = false ∧ t.module_.entry.mv = mv.toNat)) ∧
  (∀ (s : State) (mv ma : BitVec 17),
    s.module_.entry.on = true →
    (mv.toNat < 47000 → exec (.inputUndervoltageOff mv) s = .next (if mv.toNat < 40000 then ((s.inputOut mv.toNat).outputOff 1).takeReading 6 4 0
      else (s.inputOut mv.toNat).outputOff 1)) ∧
    (63000 < mv.toNat → exec (.inputOvervoltageOff mv) s =
      .next (((s.inputOut mv.toNat).modEntry (fun e => { e with excess := true })).outputOff 2)) ∧
    (30000 < ma.toNat → exec (.overcurrentLatch ma) s =
      .next ((s.modEntry (fun e => { e with latched := true, ma := ma.toNat })).outputOff 3))) ∧
  (∀ (s : State) (ma watts cycles : Half),
    s.module_.entry.on = true →
    (30000 < ma.toNat ∨ 1500 < watts.toNat → exec (.peakLimit ma watts cycles) s =
      .next ((s.modEntry (fun e => { e with peak := true, ma := ma.toNat })).stretchAll cycles.toNat)) ∧
    (ma.toNat < 28000 → watts.toNat < 1450 → exec (.peakLimit ma watts cycles) s =
      .next (s.modEntry (fun e => { e with peak := false, ma := ma.toNat }))) ∧
    (ma.toNat ≤ 30000 → watts.toNat ≤ 1500 → (28000 ≤ ma.toNat ∨ 1450 ≤ watts.toNat) → s.module_.entry.peak = true → exec (.peakLimit ma watts cycles) s =
      .next ((s.modEntry (fun e => { e with peak := true, ma := ma.toNat })).stretchAll cycles.toNat)) ∧
    (ma.toNat ≤ 30000 → watts.toNat ≤ 1500 → s.module_.entry.peak = false → exec (.peakLimit ma watts cycles) s =
      .next (s.modEntry (fun e => { e with peak := false, ma := ma.toNat })))) ∧
  (∀ (s : State) (mv : BitVec 17) (ma : Half) (v : Word),
    (40000 ≤ mv.toNat → mv.toNat ≤ 66000 → exec (.meterPeriodicReading mv ma) s =
      .next (((s.modEntry (fun e => { e with mv := mv.toNat, ma := ma.toNat })).takeReading 1 0 0).tellMeter 1)) ∧
    exec .meterSealOpen s = .next (((s.modMeter (fun m => { m with intact := false })).takeReading 8 0 0).tellMeter 4) ∧
    exec .meterSelfFault s = .next (((s.modMeter (fun m => { m with fault := true })).takeReading 10 0 0).tellMeter 4) ∧
    (s.module_.meter.intact = false →
      exec (.meterReseal true) s = .next (((s.modMeter (fun m => { m with intact := true })).takeReading 7 0 0).tellMeter 4) ∧
      exec (.meterFwUpdate v true) s = .next (((s.modMeter (fun m => { m with fw := v })).takeReading 9 0 0).tellMeter 4)) ∧
    exec (.meterReseal false) s = .next s ∧ exec (.meterFwUpdate v false) s = .next s ∧
    (s.module_.meter.intact = true → exec (.meterReseal true) s = .next s ∧ exec (.meterFwUpdate v true) s = .next s)) ∧
  (∀ (s : State),
    (s.module_.meter.answering = true → exec .meterNoAnswer s =
      .next (((s.modMeter (fun m => { m with answering := false })).modEm (fun e => { e with present := false })).tellMeter 5)) ∧
    (s.quill.running = true → s.module_.meter.answering = true → exec .emRefresh s = .next (s.modMeter (fun m => { m with answering := true })).refreshEm) ∧
    (s.quill.running = true → s.module_.meter.answering = false → exec .emRefresh s =
      .next ((s.modMeter (fun m => { m with answering := true })).refreshEm.postMeter 6))) ∧
  (∀ (s sx : State) (h : Hdr) (r : Reply),
    let n := 160 + 128 * min 96 (sx.module_.meter.seq + 1)
    let t := sx.takeReading 2 0 (BitVec.ofNat 64 sx.time)
    startsIn s h ((anySpec 0x0801 true true true).on (replyArgs r)) sx →
    sx.refuses h ((anySpec 0x0801 true true true).on (replyArgs r)) (replyOk h r) = none →
    (sx.module_.meter.answering = false → exec (.meterRead h r) s = .next (((sx.complete h 0x0801 .timeout 0)).unclaim h s.host.nextJob)) ∧
    (sx.module_.meter.answering = true → r.len.toNat < n → exec (.meterRead h r) s = .next (((sx.complete h 0x0801 .badParam n)).unclaim h s.host.nextJob)) ∧
    (sx.module_.meter.answering = true → n ≤ r.len.toNat → exec (.meterRead h r) s = .next (((t.reply h 0x0801 r t.meterReply)).unclaim h s.host.nextJob))) ∧
  (∀ (s sx : State) (h : Hdr) (r : Reply) (job : DWord) (close : Bool),
    let cmd := if close = true then Instr.meterStampEnd h r job else Instr.meterStampStart h r job
    let mt := sx.module_.meter
    startsIn s h ((anySpec 0x0802 false true true).on (replyArgs r ++ [(32, 8, job.toNat), (40, 1, if close = true then 1 else 0)])) sx →
    sx.refuses h ((anySpec 0x0802 false true true).on (replyArgs r ++ [(32, 8, job.toNat), (40, 1, if close = true then 1 else 0)])) (replyOk h r && decide (job ≠ 0)) = none →
    ((mt.stampOf job).isSome ≠ close → exec cmd s = .next (((sx.complete h 0x0802 .wrongState 0)).unclaim h s.host.nextJob)) ∧
    (close = false → mt.stampOf job = none → 16 ≤ mt.stamps.length → exec cmd s = .next (((sx.complete h 0x0802 .noResource 0)).unclaim h s.host.nextJob)) ∧
    ((mt.stampOf job).isSome = close → (close = false → mt.stamps.length < 16) →
      (mt.answering = false → exec cmd s = .next (((sx.complete h 0x0802 .timeout 0)).unclaim h s.host.nextJob)) ∧
      (mt.answering = true → r.len.toNat < 128 → exec cmd s = .next (((sx.complete h 0x0802 .badParam 128)).unclaim h s.host.nextJob)) ∧
      (mt.answering = true → 128 ≤ r.len.toNat → exec cmd s = .next (((let t := sx.takeReading (if close = true then 4 else 3) 0 job
        t.reply h 0x0802 r t.module_.meter.newest)).unclaim h s.host.nextJob))))

/-- The board controller sends commands and control messages; SPDM, DOE and IDE answer; recovery ends -/
def Obligations.BoardController : Prop :=
  (∀ (s : State) (msg : List Byte) (cal : List XCal),
    let hd := pktHdr 5 0 msg
    let op := fld msg 0 2
    let b := msg.drop 16
    let u : State := { s with host := { s.host with bc := { s.host.bc with tags := s.host.bc.tags + 1 } } }
    s.host.bc.tags < 4 →
    s.quill.running = true →
    hd.indirect = false →
    (msg.length ≠ 64 → exec (.mctpCommandRequest msg cal) s = .next (u.refusePacket hd op .badParam)) ∧
    (msg.length = 64 → ∀ st, u.packetRefusal hd msg = some st → exec (.mctpCommandRequest msg cal) s = .next (u.refusePacket hd op st)) ∧
    (msg.length = 64 → u.packetRefusal hd msg = none → ∃ t, exec (.mctpCommandRequest msg cal) s = .next t ∧
      (op = 0x0001 → exec (.hello hd (BitVec.ofNat 8 (fld b 0 1)) (BitVec.ofNat 8 (fld b 1 1)) (BitVec.ofNat 8 (fld b 2 1))) u = .next t) ∧
      (op = 0x0002 → exec (.getInfo hd (bcReply b)) u = .next t) ∧
      (op = 0x0004 → exec (.setEventMask hd (BitVec.ofNat 256 (fld b 0 32))) u = .next t) ∧
      (op = 0x0103 → exec (.getWatermark hd (bcReply b)) u = .next t) ∧
      (op = 0x0104 → exec (.setThresholds hd b) u = .next t) ∧
      (op = 0x0502 → exec (.getMoraine hd (bcReply b) (BitVec.ofNat 8 (fld b 12 1))) u = .next t) ∧
      (op = 0x0505 → exec (.getHealth hd (bcReply b)) u = .next t) ∧
      (op = 0x0506 → exec (.returnToService hd (BitVec.ofNat 8 (fld b 0 1)) (BitVec.ofNat 8 (fld b 1 1))) u = .next t) ∧
      (op = 0x0601 → fld b 0 1 = 0 → exec (.powerStateRun hd cal) u = .next t) ∧
      (op = 0x0601 → fld b 0 1 = 1 → exec (.powerStateIdle hd cal) u = .next t) ∧
      (op = 0x0601 → fld b 0 1 = 2 → exec (.powerStateRetain hd) u = .next t) ∧
      (op = 0x0601 → fld b 0 1 = 3 → exec (.powerStateDormant hd) u = .next t) ∧
      (op = 0x0701 → exec (.attest hd (bcReply b) (BitVec.ofNat 256 (fld b 16 32))) u = .next t) ∧
      (op = 0x0704 → exec (.recordRead hd (bcReply b) (BitVec.ofNat 16 (fld b 12 2)) (BitVec.ofNat 16 (fld b 14 2))) u = .next t) ∧
      (op = 0x0802 → fld b 24 1 = 0 → exec (.meterStampStart hd (bcReply b) (BitVec.ofNat 64 (fld b 16 8))) u = .next t) ∧
      (op = 0x0802 → fld b 24 1 = 1 → exec (.meterStampEnd hd (bcReply b) (BitVec.ofNat 64 (fld b 16 8))) u = .next t) ∧
      (op = 0x0603 → exec (.resetPartition hd cal) u = .next t) ∧
      (op = 0x0604 → exec (.setPowerCap hd (BitVec.ofNat 16 (fld b 0 2))) u = .next t) ∧
      (op = 0x0801 → exec (.meterRead hd (bcReply b)) u = .next t))) ∧
  (∀ (s : State) (msg : List Byte),
    let cmd := fld msg 1 1
    let ans := fun (e : Byte) => [0x00, BitVec.ofNat 8 (fld msg 0 1 % 32), BitVec.ofNat 8 cmd] ++ controlAnswer e cmd
    (cmd = 1 → exec (.mctpControlMessage msg) s = .next (({ s with host := { s.host with bc := { s.host.bc with eid := BitVec.ofNat 8 (fld msg 3 1) } } } : State).emit
      (.bcMessage (ans (BitVec.ofNat 8 (fld msg 3 1)))))) ∧
    (cmd ≠ 1 → exec (.mctpControlMessage msg) s = .next (s.emit (.bcMessage (ans s.host.bc.eid)))) ∧
    (∀ a w, w = none ∨ w = some 0x3A → exec (.i3cAddressAssign a w) s = .next (s.host.bc.held.foldl (fun t r => t.emit (.bcMessage r))
      { s with host := { s.host with bc := { s.host.bc with address := a, assigned := true, held := [], alert := false } } })) ∧
    (∀ a x, x ≠ 0x3A → exec (.i3cAddressAssign a (some x)) s = .next s) ∧
    (∀ i, exec (.doeDiscovery 0 i) s = .next (s.emit (.doe 0 ([0x01, 0x00, 0x00, 0x00, 3, 0, 0, 0] ++ doeProtocol i.toNat))))) ∧
  (∀ (s : State) (ch : SpdmChannel) (msg : List Byte),
    let code := fld msg 1 1
    let o := spdmOwner ch
    let p := (s.fn o).spdm
    ch = .mctp ∨ ch = .doe 0 ∨ (ch = .secured ∧ (s.fn 5).spdm = .session) →
    s.quill.running = true →
    (∀ q, p.next msg = some q → exec (.spdmRequest ch msg) s = .next ((s.draw.modFn o (fun x => { x with spdm := q })).answerSpdm ch (Config.spdmAnswer s.free msg))) ∧
    (p.next msg = none → exec (.spdmRequest ch msg) s = .next (s.answerSpdm ch [0x13, 0x7F, 0x04, 0x00])) ∧
    (code = 0x84 → p.next msg = some .version) ∧
    (code = 0xE1 → p.next msg = if p = .version then some .capabilities else none) ∧
    (code = 0xE3 → p.next msg = if p = .capabilities ∧ spdmAgrees msg = true then some .algorithms else none) ∧
    (code = 0xE4 → p.next msg = if p = .algorithms then some .exchange else none) ∧
    (code = 0xE5 → p.next msg = if p = .exchange then some .session else none) ∧
    (code = 0xEC → p.next msg = if p = .session then some .algorithms else none)) ∧
  (∀ (s : State) (ch : SpdmChannel) (op : Byte) (n : BitVec 256),
    let own := (List.range 4).flatMap (fun i => toLe (Config.freeWord (s.free + i)).toNat 8)
    let b := s.spdmResponse op.toNat own
    let u := s.draw.draw.draw.draw
    ch = .mctp ∨ ch = .doe 0 ∨ (ch = .secured ∧ (s.fn 5).spdm = .session) →
    s.quill.running = true →
    (op.toNat ≤ 9 ∨ op = 0xFF → exec (.spdmGetMeasurements ch op none) s = .next (u.answerSpdm ch b) ∧
      exec (.spdmGetMeasurements ch op (some n)) s = .next (u.answerSpdm ch (b ++ signed (aliasKey s.module_.ident.measurement) (toLe n.toNat 32 ++ b)))) ∧
    (9 < op.toNat → op ≠ 0xFF → ∀ x, exec (.spdmGetMeasurements ch op x) s = .next (s.answerSpdm ch [0x13, 0x7F, 0x01, 0x00]))) ∧
  (∀ (s : State) (v : BitVec 3) (key : BitVec 256),
    (s.fn 0).spdm = .session →
    exec (.ideKmKeySetup 0 .link true key false) s = .next { s with host := { s.host with linkKey := some key } } ∧
    exec (.ideKmKeySetup 0 .link true key true) s = .next { s with host := { s.host with linkKey := none } } ∧
    (v.toNat < 4 → exec (.ideKmKeySetup 0 (.selective v) true key false) s = .next (s.modFn (v.toNat + 1) (fun x => { x with ideKey := some key })) ∧
      exec (.ideKmKeySetup 0 (.selective v) true key true) s = .next (s.modFn (v.toNat + 1) (fun x => { x with ideKey := none })))) ∧
  (∀ (s : State),
    let n := s.host.recoveryLen.toNat
    let b := s.windowBytes n
    s.booted = false →
    (n ≤ 0x800000 → imageLength b ≤ n → imageValid b = true → exec .recoveryGo s = .next (((s.bootImage b true).afterRecovery).passHeld)) ∧
    (n ≤ 0x800000 → (n < imageLength b ∨ imageValid b = false) → exec .recoveryGo s =
      .next (s.modIdent (fun d => { d with recoveryFails := satInc d.recoveryFails }))) ∧
    (0x800000 < n → exec .recoveryGo s = .next (s.modIdent (fun d => { d with recoveryFails := satInc d.recoveryFails })))) ∧
  (∀ (s : State) (bt : BootInput),
    let n := s.dev.boot + 1
    let u := ((({ s with dev := { s.dev with boot := n } } : State).writeRec 7 0 0 0 (toLe n.toNat 4)).modPower (fun w => { w with on := w.on ||| BitVec.ofNat 60 (3 * 2 ^ 58), step := 1 })).bootRom
    (s.canStart = true → s.module_.power.step < 2 → exec (.startup bt) s = .next (if u.booted = true then (u.modPower (fun w => { w with step := 2 })).startSteps bt else u)) ∧
    (s.canStart = true → 2 ≤ s.module_.power.step → exec (.startup bt) s = .next (s.startSteps bt)) ∧
    (s.canStart = true ↔ s.module_.entry.on = true ∧ s.module_.power.step < 7 ∧ s.booted = true ∧
      (s.module_.power.tripped = true → ∀ i, i < 50 → (s.module_.power.temps.get 0 i).toInt < 850)) ∧
    (s.booted = false → exec .recoveryTimeout s = .next ((s.deviceReset.modIdent (fun d => { d with recoveryFails := s.module_.ident.recoveryFails })).enterSafe 5 0)) ∧
    (s.booted = true → exec .recoveryTimeout s = .next s))

/-- Flits, control blocks, margins and rings of the fabric have the effects their rules give -/
def Obligations.FabricReceive : Prop :=
  (∀ (s : State) (body : State → State),
    s.centralRead .ok body = body s ∧ s.centralRead .corrected body = body (s.modCorrected 0 (fun c => { c with fabric := c.fabric + 1 })) ∧
    s.centralRead .uncorrectable body = s.devFault 1) ∧
  (∀ (s : State) (f : Fin 16) (x : FabricFlit) (e : Ecc),
    let k := x.kind.toNat
    let mine := x.dst = s.dev.fbId ∧ x.dst.toNat < 4096
    (s.port f).st = .active →
    (k = 0 → exec (.flitForward f x e) s = .next (s.takeTrailer f x)) ∧
    (k = 4 ∨ k = 5 → exec (.flitForward f x e) s = .next (s.receiveFlit f x id)) ∧
    (1 ≤ k → k ≤ 3 → mine → exec (.flitForward f x e) s = .next s) ∧
    (6 ≤ k → exec (.flitForward f x e) s = .next (s.centralRead e (fun t => t.receiveFlit f x State.dropOther))) ∧
    (1 ≤ k → k ≤ 3 → ¬ mine → exec (.flitForward f x e) s = .next (s.centralRead e (fun t => t.receiveFlit f x
      (fun u => if u.lsOwns f = true then u.dropOther.oweCredit f x else (u.forward x).oweCredit f x)))) ∧
    (∀ u : State, (x.hops = 0 → u.forward x = u.modFabCnt (fun c => { c with hops := satInc c.hops })) ∧
      (x.hops ≠ 0 → u.fate x.dst = .noRoute → u.forward x = u.dropNoRoute) ∧
      (x.hops ≠ 0 → u.fate x.dst = .noPort → u.forward x = u.dropOther) ∧
      (∀ p d, x.hops ≠ 0 → u.fate x.dst = .out p d → u.forward x = (u.transmit p d { x with hops := x.hops - 1 }).countForward))) ∧
  (∀ (s : State) (f : Fin 16) (x : FabricFlit) (e : Ecc),
    (s.port f).st = .active →
    x.kind.toNat = 1 →
    x.dst = s.dev.fbId ∧ x.dst.toNat < 4096 →
    exec (.fabricWriteReceive f x e) s = .next (s.receiveFlit f x (fun t => if s.lsOwns f = true then t.dropOther.oweCredit f x
      else t.centralRead e (fun u => u.writeArrives f x)))) ∧
  (∀ (u : State) (n : Nat) (x : FabricFlit),
    let w := u.window (flitWindow x)
    let q := u.port w.entryPort
    let cred := fun (t : State) => if n < 16 then t.oweCredit n x else t
    (∀ c, u.windowRefuses x = some c → u.writeArrives n x = cred ((u.countWinDrop.modFabCnt (fun y =>
      { y with dropFirst := y.dropFirst <|> some (x.src, flitWindow x, c) })).sendReceipt x.src (flitTrack x) true)) ∧
    (u.windowRefuses x = none → (w.target ≠ 0 ∨ (u.landRoom x = true ∧ q.held = [])) → u.writeArrives n x = cred (u.acceptWrite x)) ∧
    (u.windowRefuses x = none → w.target = 0 → (u.landRoom x = false ∨ q.held ≠ []) → u.writeArrives n x =
      u.modPort w.entryPort (fun p => { p with held := p.held ++ [(n, x)] }))) ∧
  (∀ (s : State) (f : Fin 16) (x : FabricFlit) (e : Ecc),
    (s.port f).st = .active →
    x.kind.toNat = 2 →
    x.dst = s.dev.fbId ∧ x.dst.toNat < 4096 →
    exec (.fabricAddReceive f x e) s = .next (s.receiveFlit f x (fun t => if s.lsOwns f = true then t.dropOther.oweCredit f x
      else t.centralRead e (fun u => (u.addDevice (flitCounter x) ((flitUnit x 0).setWidth 32)).oweCredit f x)))) ∧
  (∀ (s : State) (f : Fin 16) (x : FabricFlit),
    (s.port f).st = .active →
    x.kind.toNat = 3 →
    x.dst = s.dev.fbId ∧ x.dst.toNat < 4096 →
    exec (.receiptReceive f x) s = .next (s.receiveFlit f x (fun t => if s.lsOwns f = true then t.dropOther.oweCredit f x
      else ((receiptWords x).foldl (fun (u : State) w => u.receipt (w % 2 ^ 26) (decide (2 ^ 31 ≤ w))) t).oweCredit f x))) ∧
  (∀ (s : State) (f : Fin 16) (b : List Byte),
    let st := (s.port f).st
    let o := s.sendLink f 4 (s.controlBlock f) (.control f (s.controlBlock f))
    (st = .active → exec (.linkControlBlockReceive f b) s = .next ((((s.takeNext f).takeBlock f b).evalMismatch f false).blockTime f b)) ∧
    (st ≠ .active → exec (.linkControlBlockReceive f b) s = .next s) ∧
    (st = .active ∨ st = .exchange ∨ st = .retrain → exec (.linkControlBlockSend f) s = .next o) ∧
    (decide (s.mismatchReason f true ≠ 0) = (s.port f).mismatch → exec (.watermarkSilence f) s = .next s) ∧
    (decide (s.mismatchReason f true ≠ 0) ≠ (s.port f).mismatch → ∃ t, exec (.watermarkSilence f) s = .next t ∧
      t = (s.modPort f (fun x => { x with mismatch := decide (s.mismatchReason f true ≠ 0) })).post 0x0044 1 (s.portSource f 0) [(16, 1, f), (17, 1, if s.mismatchReason f true ≠ 0 then 1 else 0),
        (18, 1, s.mismatchReason f true), (20, 2, (s.port f).peerDevice.toNat),
        (24, 8, match (s.port f).block with | some x => x.watermark.toNat | none => 0)] none)) ∧
  (∀ (s : State),
    let c := s.fabric.cfg
    let f := c.source.toNat
    c.timeRole = false →
    c.stratum ≠ 0xFF →
    exec .timeSourceTimeout s = .next ((s.modPort f (fun p =>
      { p with block := p.block.map (fun b => { b with stratum := 0xFF }) })).sourceLost f)) ∧
  (∀ (s : State) (n : Nat),
    let mine := s.fabric.tracked.filter (fun t => t.track == n)
    let u := ({ s with fabric := { s.fabric with tracked := s.fabric.tracked.filter (fun x => x.track != n) } } : State).modFabCnt (fun c => { c with rcptLost := satInc c.rcptLost })
    (mine = [] → exec (.receiptTimeout n) s = .next s) ∧ (mine ≠ [] → exec (.receiptTimeout n) s = .next (mine.foldl State.lostFor u)) ∧
    (∀ (v : State) (t : Tracked), (∀ c id, t.origin = .te c id → v.lostFor t = v.loseAdds c id t.port t.track) ∧
      (∀ r, t.origin = .ring r → v.lostFor t = v.ringFault r [(16, 4, t.track)]) ∧
      (∀ j, t.origin = .mirror j → v.lostFor t = v.finish j .aborted 0))) ∧
  (∀ (s : State) (f : Fin 16) (lane : BitVec 3) (oe : BitVec 2) (r : Fin 8) (k : Fin 48) (val ber : Half) (corr : List Word),
    let c := s.fabric.cnt
    let rx := s.modLane f lane.toNat (fun x => { x with rxPower := val })
    let dm := s.modRegion r (fun x => { x with margin := val })
    let sl := s.modClock (fun x => { x with slack := x.slack.set k val })
    let bi := s.modFabCnt (fun x => { x with bias := x.bias.set oe.toNat val })
    let n : Nat := corr.foldl (fun (a : Nat) x => a + x.toNat) 0
    let fe := (List.range 5).foldl (fun t l => t.modLane f l (fun x => { x with corr := satAdd x.corr (corr.getD l 0).toNat })) (s.modPort f (fun p => { p with ber := ber }))
    (lane.toNat < 5 → val = 0x8000 → exec (.marginTelemetry (.rxPower f lane val)) s = .next rx) ∧
    (lane.toNat < 5 → val ≠ 0x8000 → exec (.marginTelemetry (.rxPower f lane val)) s =
      .next (rx.margin 1 (5 * f.val + lane.toNat) val.toInt c.rxLow.toInt (decide (val.toInt < c.rxLow.toInt)) [f.val])) ∧
    (val ≠ 0xFFFF → exec (.marginTelemetry (.laserBias oe val)) s = .next (bi.margin 2 oe.toNat val.toNat c.biasHigh.toNat
      (decide (c.biasHigh.toNat < val.toNat)) ((List.range 4).map (fun i => 4 * oe.toNat + i)))) ∧
    exec (.marginTelemetry (.fec f ber corr)) s = .next ((fe.margin 3 f.val ber.toNat c.berLow.toNat (decide (ber.toNat < c.berLow.toNat)) [f.val]).margin
      4 f.val n c.corrHigh.toNat (decide (c.corrHigh.toNat < n)) [f.val]) ∧
    (val = 0x8000 → exec (.marginTelemetry (.die r val)) s = .next dm ∧ exec (.marginTelemetry (.dieSlack k val)) s = .next sl) ∧
    (val ≠ 0x8000 → exec (.marginTelemetry (.die r val)) s = .next ((dm.draw.modRegion r (fun x => { x with supply := s.freeNext.setWidth 16 })).margin 5 r.val val.toInt c.droopLow.toInt (decide (val.toInt < c.droopLow.toInt)) []) ∧
      exec (.marginTelemetry (.dieSlack k val)) s = .next (sl.margin 6 k.val val.toInt c.slackLow.toInt (decide (val.toInt < c.slackLow.toInt)) []))) ∧
  (∀ (s : State) (f : Fin 16) (src : RulingSlot) (par : Option ParityHit) (e : Ecc) (x : Flit) (a : Arrival) (u : State),
    let k := portCluster f.val
    let sl := (Place.ofKey a.place).slice
    let v := u.edgeFlit f.val sl x
    let l := (v.port f).assembly.get [] sl
    s.domOn (54 + f.val / 4) = true →
    s.move (placeOf src) (fun a => let b := Place.ofKey a.place; decide (b.k = k ∧ 14 ≤ b.port ∧ edgePort k b.port = some f.val)) par = some (x, a, u) →
    (l.length ≤ remoteCount l → exec (.edgeRemoteWrite f src par e) s = .next v) ∧
    (remoteCount l < l.length → (v.remoteHeld l = true ∨ v.sendRoom l = false) → exec (.edgeRemoteWrite f src par e) s = .next s) ∧
    (remoteCount l < l.length → v.remoteHeld l = false → v.sendRoom l = true → exec (.edgeRemoteWrite f src par e) s =
      .next (v.centralRead e (fun t => (t.modPort f (fun p => { p with assembly := p.assembly.set sl [] })).sendRemote (s.partOf k) l)))) ∧
  (∀ (s : State) (r : BitVec 6) (errs : List (DWord × Ecc)) (ls : List LineFind),
    let x := s.ring r.toNat
    let c := (s.ctx (4 * x.part + x.ctx)).run
    let base := c.bulkBase * 65536
    let size := c.bulkSize * 65536
    let o := x.base.toNat * 65536 + x.head.toNat % 2 ^ x.log2 * 32
    s.ringReady r.toNat = true →
    (∀ e, exec (.ringDescriptorStart r errs ls e) s = .next (s.centralRead e (fun t => effRingDescriptorStart r errs ls .ok t))) ∧
    (size < o + 32 → exec (.ringDescriptorStart r errs ls) s = .next (s.ringFault r.toNat [])) ∧
    (o + 32 ≤ size → s.devReady .bulk (base + o) 32 ls = none → exec (.ringDescriptorStart r errs ls) s = .next s) ∧
    (∀ t, o + 32 ≤ size → s.devReady .bulk (base + o) 32 ls = some t →
      let u := t.devFinds .bulk (base + o) 32 errs ls
      let b := u.store.bytes (base + o) 32
      let d := ringDesc b
      ((ringDescOk b d = false ∨ size < d.src + d.length ∨ u.store.blotAt (base + o) = true) →
        exec (.ringDescriptorStart r errs ls) s = .next (u.ringFault r.toNat [])) ∧
      (ringDescOk b d = true → d.src + d.length ≤ size → u.store.blotAt (base + o) = false →
        (u.devReady .bulk (base + d.src) d.length ls = none → exec (.ringDescriptorStart r errs ls) s = .next s) ∧
        (∀ v, u.devReady .bulk (base + d.src) d.length ls = some v → exec (.ringDescriptorStart r errs ls) s =
          .next ((v.devFinds .bulk (base + d.src) d.length errs ls).ringRun r.toNat d base))))) ∧
  (∀ (s : State) (r : BitVec 6) (val : Word),
    let on := val.getLsbD 31
    let v := val.toNat
    let n := v / 2 ^ 22 % 16
    r.toNat < 60 →
    ((s.ring r.toNat).enable = true → exec (.fbRingEnable r val) s = .next (s.modRing r.toNat (fun x => if x.enable then { x with enable := on } else x))) ∧
    ((s.ring r.toNat).enable = false → ∃ t, exec (.fbRingEnable r val) s = .next t ∧
      (on = true → 4 ≤ n → n ≤ 12 → t.ring r.toNat = { s.ring r.toNat with
        ctx := v / 2 ^ 28 % 4, part := v / 2 ^ 26 % 4, log2 := n, tail := v % 4096, enable := true, fault := false, head := 0, work := none }) ∧
      (on = true → (n < 4 ∨ 12 < n) → (t.ring r.toNat).enable = false ∧ (t.ring r.toNat).fault = true) ∧
      (on = false → t.ring r.toNat = { s.ring r.toNat with ctx := v / 2 ^ 28 % 4, part := v / 2 ^ 26 % 4, log2 := n, tail := v % 4096 }))) ∧
  (∀ (s sx : State) (h : Hdr) (dest : Half) (entry : Word),
    startsIn s h ((pfOnly 0x0403 false .any).on [(16, 2, dest.toNat), (20, 4, entry.toNat)]) sx →
    sx.refuses h ((pfOnly 0x0403 false .any).on [(16, 2, dest.toNat), (20, 4, entry.toNat)]) (decide (dest.toNat < 4096 ∧ entry.toNat % 2 ^ 21 = 0)) = none →
    exec (.setRoute h dest entry) s = .next (((({ sx with fabric := { sx.fabric with routes := sx.fabric.routes.set dest.toNat entry } } : State).complete h 0x0403 .ok 0)).unclaim h s.host.nextJob)) ∧
  (∀ (s sx : State) (h : Hdr) (desc : List Byte),
    let c := sx.hdrCtx h
    startsIn s h ({ pfOnly 0x0401 false .one with context := true, args := [(16, 48, leNat (fitTo 48 desc))] }) sx →
    sx.refuses h ({ pfOnly 0x0401 false .one with context := true, args := [(16, 48, leNat (fitTo 48 desc))] }) (winFieldsOk desc) = none →
    (∀ st, sx.openRefusal c desc = some st → exec (.openWindow h desc) s = .next (((sx.complete h 0x0401 st 0)).unclaim h s.host.nextJob)) ∧
    (sx.openRefusal c desc = none → exec (.openWindow h desc) s = .next ((((sx.modWindow (fld desc 0 1)
      (fun _ => winOf desc (ctxPart c) (ctxNo c) ((sx.winCluster c desc).getD 0))).complete h 0x0401 .ok 0)).unclaim h s.host.nextJob))) ∧
  (∀ (s sx : State) (h : Hdr) (w : Byte),
    let x := sx.window w.toNat
    startsIn s h ((pfOnly 0x0402 false .any).on [(16, 1, w.toNat)]) sx →
    sx.refuses h ((pfOnly 0x0402 false .any).on [(16, 1, w.toNat)]) (decide (w.toNat < 64)) = none →
    ((x.opened = false ∨ x.closing = true) → exec (.closeWindow h w) s = .next (((sx.complete h 0x0402 .wrongState 0)).unclaim h s.host.nextJob)) ∧
    (x.opened = true → x.closing = false → exec (.closeWindow h w) s =
      .next ((((sx.modWindow w.toNat (fun y => { y with closing := true })).addJob h 0x0402 (.closeWindow h w) 0)).unclaim h s.host.nextJob)))

/-- Summaries, watches, drift samples, patrol patterns and the hourly score do their work where their conditions hold -/
def Obligations.SelfCare : Prop :=
  (∀ (s : State) (p : Fin 4),
    let x := (s.part p).stroke
    let r := (s.part p).rep.overrun
    let o := (s.part p).rep.carry
    let a := x.ovrMargin.toNat
    let b := x.ovrEmpty.toNat
    let c := x.ovrFull.toNat
    let d := x.holdCnt.toNat
    let due := s.spaced r.time msNs = true ∧ ((a, b, c, d) ≠ (r.a, r.b, r.c, r.d) ∨ o ≠ .none)
    (¬due → exec (.strokeOverrunSummary p) s = .next s) ∧
    (due → exec (.strokeOverrunSummary p) s = .next ((s.post 0x0030 0 (source 3 0 0 p 0)
      [(16, 4, a - r.a + o.a), (20, 4, b - r.b + o.b), (24, 4, c - r.c + o.c), (28, 4, d - r.d + o.d)] (some p)).modReports
      p (fun y => { y with overrun := { time := some s.time, a := a, b := b, c := c, d := d }, carry := .none })))) ∧
  (∀ (s : State) (p : Fin 4),
    let x := (s.part p).rep
    let e := (s.part p).epoch
    let due := s.spaced x.stale.time msNs = true ∧ s.eventEnabled 0x0061 0 (some p.val) = true ∧ x.staleMoved = true
    (¬due → exec (.staleTokenEvent p) s = .next s) ∧
    (due → exec (.staleTokenEvent p) s = .next ((s.post 0x0061 0 (source 3 0 0 p 0)
      [(16, 4, x.cfgTotal - x.stale.a), (20, 4, x.roleTotal - x.stale.b), (24, 1, e.epoch.toNat), (25, 1, e.configId.toNat)] (some p)).modReports p
      (fun y => { y with stale := { time := some s.time, a := x.cfgTotal, b := x.roleTotal, c := 0, d := 0 }, staleMoved := false })))) ∧
  (∀ (s : State) (p : Fin 4),
    let x := (s.part p).rep
    let due := s.spaced x.orphan.time msNs = true ∧ s.eventEnabled 0x0062 0 (some p.val) = true ∧ (x.sendTotal, x.recvTotal) ≠ (x.orphan.a, x.orphan.b)
    let who := match x.firstOrphan with | some o => [(24, 1, o.lcluster.toNat), (25, 1, o.sender.toNat), (26, 1, o.dcluster.toNat), (27, 1, o.dest.toNat)] | none => [(24, 1, 0xFF), (26, 1, 0xFF)]
    (¬due → exec (.orphanSendEvent p) s = .next s) ∧
    (due → exec (.orphanSendEvent p) s = .next ((s.post 0x0062 0 (source 3 0 0 p 0) ([(16, 4, x.sendTotal - x.orphan.a), (20, 4, x.recvTotal - x.orphan.b)] ++ who)
      (some p)).modReports p (fun y => { y with orphan := { time := some s.time, a := x.sendTotal, b := x.recvTotal, c := 0, d := 0 }, firstOrphan := none })))) ∧
  (∀ (s : State),
    let c := s.fabric.cnt
    let a := c.winDrop.toNat
    let w := (List.range 48).foldl (fun t k => t + (s.cluster k).ink.winDrop.toNat) 0
    let b := w + c.dropEvent.c
    let due := s.spaced c.dropEvent.time msNs = true ∧ s.eventEnabled 0x0063 0 none = true ∧ (a, b) ≠ (c.dropEvent.a, c.dropEvent.b)
    let who := match c.dropFirst with | some (src, w, cause) => [(24, 2, src.toNat), (26, 1, w), (27, 1, cause)] | none => []
    (¬due → exec .windowDropEvent s = .next s) ∧
    (due → exec .windowDropEvent s = .next ((s.post 0x0063 0 (source 4 0 0 0 0) ([(16, 4, a - c.dropEvent.a), (20, 4, b - c.dropEvent.b)] ++ who) none).modFabCnt
      (fun y => { y with dropEvent := { time := some s.time, a := a, b := w, c := 0, d := 0 }, dropFirst := none })))) ∧
  (∀ (s : State) (p : Nat),
    let x := s.quill.corrected.get Corrected.reset p
    let due := s.spaced x.last 1000000000 = true ∧ s.eventEnabled 0x0001 1 none = true ∧ 0 < x.local_ + x.inkwell + x.bulk + x.ruling + x.fabric
    exec .correctedErrorEvent s = .next ((((s.correctedEvent 0).correctedEvent 1).correctedEvent 2).correctedEvent 3) ∧
    (¬due → s.correctedEvent p = s) ∧
    (due → s.correctedEvent p = (s.post 0x0001 1 (source 3 0 0 p 0)
      [(16, 4, min x.local_ (2 ^ 32 - 1)), (20, 4, min x.inkwell (2 ^ 32 - 1)), (24, 4, min x.bulk (2 ^ 32 - 1)),
       (28, 2, min x.ruling (2 ^ 16 - 1)), (30, 2, min x.fabric (2 ^ 16 - 1))] none).modCorrected p (fun _ => { Corrected.reset with last := some s.time }))) ∧
  (∀ (s : State) (p : Fin 4) (cal : List XCal),
    let since := (s.part p).stroke.holdSince
    s.onContexts p ≠ [] →
    (s.part p).ckptPause = none →
    (s.qpart p).replay ≠ 1 →
    (since = none → exec (.strokeWatchExpiry p cal) s = .next (s.hang p 1 (max s.quill.health.strokeWatchMs.toNat (s.msSince (s.qpart p).lastStrokeTime)) cal) ∧
      exec (.holdWatchExpiry p cal) s = .next s) ∧
    (∀ t, since = some t → exec (.holdWatchExpiry p cal) s = .next (s.hang p 2 (max (s.quill.health.holdWatchS.toNat * 1000) (s.msSince t)) cal) ∧
      exec (.strokeWatchExpiry p cal) s = .next s)) ∧
  (∀ (s : State) (k : Fin 48),
    let d := s.driftOf k
    let l := d.next
    let u := if d.suspended = true then (s.postDriftState k 4).modDrift k (fun x => { x with suspended := false }) else s
    s.onContexts (s.partOf k) ≠ [] →
    (s.part (s.partOf k)).ckptPause = none →
    d.sample = none →
    (s.sparesOf k = [] → exec (.driftSample k) s =
      .next (if d.suspended = true then s else (s.postDriftState k 0).modDrift k (fun x => { x with suspended := true }))) ∧
    (s.sparesOf k ≠ [] → ∀ n c t, u.physCore k l = some n → (u.core n).ctl.context = some c → (u.ctx c).lc.life = .on → (u.core n).eng.sampled = some t →
      exec (.driftSample k) s = .next ((u.takeSample k l n c t (s.sparesOf k)).nextDrift k l)) ∧
    (s.sparesOf k ≠ [] → ((u.physCore k l = none) ∨ ∃ n, u.physCore k l = some n ∧ ((u.core n).ctl.context = none ∨ (∃ c, (u.core n).ctl.context = some c ∧ (u.ctx c).lc.life ≠ .on) ∨ (u.core n).eng.sampled = none)) →
      exec (.driftSample k) s = .next ((u.modQuill (fun q => { q with skipped := satInc q.skipped })).nextDrift k l))) ∧
  (∀ (s : State) (k : Fin 48) (a b : DWord) (d : DriftSample) (ea eb : List (Nat × Ecc)),
    let s1 := s.lsEccs d.spareA (s.issueBase d.spareA) ea
    let s2 := match d.spareB with | some n => s1.lsEccs n (s1.issueBase n) eb | none => s1
    let u := s2.modDrift k (fun x => { x with sample := none })
    let v := fun (o : Nat) => (u.modQuill (fun q => { q with mismatches := satInc q.mismatches })).postDrift k o (if o = 2 then 1 else 2) d
    let w := ((v 3).driftKill k d.ctx).scoreDrop 40
    (s.driftOf k).sample = some d →
    (a = d.crc → exec (.driftCompare k a b ea eb) s = .next (u.driftEnded k true)) ∧
    (a ≠ d.crc → d.spareB ≠ none → b = a → exec (.driftCompare k a b ea eb) s = .next ((((v 1).fenceAs d.live 2 2).driftKill k d.ctx).driftEnded k false)) ∧
    (a ≠ d.crc → d.spareB ≠ none → b = d.crc → exec (.driftCompare k a b ea eb) s = .next (((v 2).fenceAs d.spareA 2 2).driftEnded k false)) ∧
    (a ≠ d.crc → (d.spareB = none ∨ (b ≠ a ∧ b ≠ d.crc)) →
      exec (.driftCompare k a b ea eb) s = .next ((w.oweAll ([d.live, d.spareA] ++ d.spareB.toList)).driftEnded k false))) ∧
  (∀ (s : State) (n : Fin 1536),
    let x := s.care n
    let k := kOf n.val
    let may := s.testable n = true ∧ x.pattern = none ∧ s.patrolRuns k = true ∧ x.next < s.patternCount ∧ s.patternPermitted k x.next = true ∧ (s.driftOf k).sample = none
    (¬may → exec (.patrolPatternStart n) s = .next s) ∧
    (may → exec (.patrolPatternStart n) s = .next ((s.modCare n (fun y => { y with pattern := some y.next })).loadPattern n x.next))) ∧
  (∀ (s : State) (n : Fin 1536) (crc : DWord) (i : Nat) (e : List (Nat × Ecc)),
    let t := s.lsEccs n.val (s.issueBase n.val) e
    let x := t.care n
    let u := t.modQuill (fun q => { q with fails := satInc q.fails })
    (s.care n.val).pattern = some i →
    (x.retest = false → exec (.patrolPatternEnd n true crc e) s = .next (t.patternPassed n i)) ∧
    (x.retest = true → exec (.patrolPatternEnd n true crc e) s = .next (((((t.postFirn n i 3 crc).moraineAppend 3
      [(16, 1, kOf n.val), (17, 1, jOf n.val), (20, 4, match t.packAt i with | some (_, j) => j | none => i),
       (24, 4, match t.packAt i with | some (p, _) => p.id.toNat | none => 0)]).scoreDrop 10).modCare n (fun y => { y with marginal := true })).patternPassed n i)) ∧
    (x.retest = false → exec (.patrolPatternEnd n false crc e) s =
      .next (((u.postFirn n i 1 crc).modCare n (fun y => { y with retest := true, failed := true })).loadPattern n i)) ∧
    (x.retest = true → exec (.patrolPatternEnd n false crc e) s =
      .next (((u.fenceCore n 3).postFirn n i 2 crc).modCare n (fun y => { y with pattern := none, retest := false, tested := false, testDue := false })))) ∧
  (∀ (s : State),
    let u := if s.quill.health.lastDrop + hourNs ≤ s.time then s.scoreRise 5 else s
    exec .healthHourly s = .next (u.modHealth (fun h => { h with portScore := h.portScore.map (fun e =>
      if h.portDrop.get 0 e.1 + hourNs ≤ s.time then (e.1, min 1000 (e.2 + 5)) else e) })).saveHealth)
end

