-- ==== Sys2Proof/Laws/Frame.lean ====
section
/-!
SUPPORT. Frames: `Only…` names the fields of the state in which two states may differ; a fold or a choice of functions
that keep a field keeps it.
-/
namespace Sys2Proof.Machine

@[simp] theorem foldl_pending {α : Type} (l : List α) (g : State → α → State) (s : State) (h : ∀ t x y, y = g t x → y.pending = t.pending) : (l.foldl g s).pending = s.pending := by
  induction l generalizing s with
  | nil => rfl
  | cons a r ih => rw [List.foldl_cons, ih, h _ _ _ rfl]
@[simp] theorem ite_pending (c : Prop) [Decidable c] (a b : State) : (if c then a else b).pending = if c then a.pending else b.pending := by split <;> rfl
@[simp] theorem foldl_cores {α : Type} (l : List α) (g : State → α → State) (s : State) (h : ∀ t x y, y = g t x → y.cores = t.cores) : (l.foldl g s).cores = s.cores := by
  induction l generalizing s with
  | nil => rfl
  | cons a r ih => rw [List.foldl_cons, ih, h _ _ _ rfl]
@[simp] theorem ite_cores (c : Prop) [Decidable c] (a b : State) : (if c then a else b).cores = if c then a.cores else b.cores := by split <;> rfl
@[simp] theorem foldl_clusters {α : Type} (l : List α) (g : State → α → State) (s : State) (h : ∀ t x y, y = g t x → y.clusters = t.clusters) : (l.foldl g s).clusters = s.clusters := by
  induction l generalizing s with
  | nil => rfl
  | cons a r ih => rw [List.foldl_cons, ih, h _ _ _ rfl]
@[simp] theorem ite_clusters (c : Prop) [Decidable c] (a b : State) : (if c then a else b).clusters = if c then a.clusters else b.clusters := by split <;> rfl
@[simp] theorem foldl_parts {α : Type} (l : List α) (g : State → α → State) (s : State) (h : ∀ t x y, y = g t x → y.parts = t.parts) : (l.foldl g s).parts = s.parts := by
  induction l generalizing s with
  | nil => rfl
  | cons a r ih => rw [List.foldl_cons, ih, h _ _ _ rfl]
@[simp] theorem ite_parts (c : Prop) [Decidable c] (a b : State) : (if c then a else b).parts = if c then a.parts else b.parts := by split <;> rfl
@[simp] theorem foldl_ctxs {α : Type} (l : List α) (g : State → α → State) (s : State) (h : ∀ t x y, y = g t x → y.ctxs = t.ctxs) : (l.foldl g s).ctxs = s.ctxs := by
  induction l generalizing s with
  | nil => rfl
  | cons a r ih => rw [List.foldl_cons, ih, h _ _ _ rfl]
@[simp] theorem ite_ctxs (c : Prop) [Decidable c] (a b : State) : (if c then a else b).ctxs = if c then a.ctxs else b.ctxs := by split <;> rfl
@[simp] theorem foldl_store {α : Type} (l : List α) (g : State → α → State) (s : State) (h : ∀ t x y, y = g t x → y.store = t.store) : (l.foldl g s).store = s.store := by
  induction l generalizing s with
  | nil => rfl
  | cons a r ih => rw [List.foldl_cons, ih, h _ _ _ rfl]
@[simp] theorem ite_store (c : Prop) [Decidable c] (a b : State) : (if c then a else b).store = if c then a.store else b.store := by split <;> rfl
@[simp] theorem foldl_bulk {α : Type} (l : List α) (g : State → α → State) (s : State) (h : ∀ t x y, y = g t x → y.bulk = t.bulk) : (l.foldl g s).bulk = s.bulk := by
  induction l generalizing s with
  | nil => rfl
  | cons a r ih => rw [List.foldl_cons, ih, h _ _ _ rfl]
@[simp] theorem ite_bulk (c : Prop) [Decidable c] (a b : State) : (if c then a else b).bulk = if c then a.bulk else b.bulk := by split <;> rfl
@[simp] theorem foldl_host {α : Type} (l : List α) (g : State → α → State) (s : State) (h : ∀ t x y, y = g t x → y.host = t.host) : (l.foldl g s).host = s.host := by
  induction l generalizing s with
  | nil => rfl
  | cons a r ih => rw [List.foldl_cons, ih, h _ _ _ rfl]
@[simp] theorem ite_host (c : Prop) [Decidable c] (a b : State) : (if c then a else b).host = if c then a.host else b.host := by split <;> rfl
@[simp] theorem foldl_dev {α : Type} (l : List α) (g : State → α → State) (s : State) (h : ∀ t x y, y = g t x → y.dev = t.dev) : (l.foldl g s).dev = s.dev := by
  induction l generalizing s with
  | nil => rfl
  | cons a r ih => rw [List.foldl_cons, ih, h _ _ _ rfl]
@[simp] theorem ite_dev (c : Prop) [Decidable c] (a b : State) : (if c then a else b).dev = if c then a.dev else b.dev := by split <;> rfl
@[simp] theorem foldl_quill {α : Type} (l : List α) (g : State → α → State) (s : State) (h : ∀ t x y, y = g t x → y.quill = t.quill) : (l.foldl g s).quill = s.quill := by
  induction l generalizing s with
  | nil => rfl
  | cons a r ih => rw [List.foldl_cons, ih, h _ _ _ rfl]
@[simp] theorem ite_quill (c : Prop) [Decidable c] (a b : State) : (if c then a else b).quill = if c then a.quill else b.quill := by split <;> rfl
@[simp] theorem foldl_fabric {α : Type} (l : List α) (g : State → α → State) (s : State) (h : ∀ t x y, y = g t x → y.fabric = t.fabric) : (l.foldl g s).fabric = s.fabric := by
  induction l generalizing s with
  | nil => rfl
  | cons a r ih => rw [List.foldl_cons, ih, h _ _ _ rfl]
@[simp] theorem ite_fabric (c : Prop) [Decidable c] (a b : State) : (if c then a else b).fabric = if c then a.fabric else b.fabric := by split <;> rfl
@[simp] theorem foldl_module_ {α : Type} (l : List α) (g : State → α → State) (s : State) (h : ∀ t x y, y = g t x → y.module_ = t.module_) : (l.foldl g s).module_ = s.module_ := by
  induction l generalizing s with
  | nil => rfl
  | cons a r ih => rw [List.foldl_cons, ih, h _ _ _ rfl]
@[simp] theorem ite_module_ (c : Prop) [Decidable c] (a b : State) : (if c then a else b).module_ = if c then a.module_ else b.module_ := by split <;> rfl
@[simp] theorem foldl_net {α : Type} (l : List α) (g : State → α → State) (s : State) (h : ∀ t x y, y = g t x → y.net = t.net) : (l.foldl g s).net = s.net := by
  induction l generalizing s with
  | nil => rfl
  | cons a r ih => rw [List.foldl_cons, ih, h _ _ _ rfl]
@[simp] theorem ite_net (c : Prop) [Decidable c] (a b : State) : (if c then a else b).net = if c then a.net else b.net := by split <;> rfl
@[simp] theorem foldl_time {α : Type} (l : List α) (g : State → α → State) (s : State) (h : ∀ t x y, y = g t x → y.time = t.time) : (l.foldl g s).time = s.time := by
  induction l generalizing s with
  | nil => rfl
  | cons a r ih => rw [List.foldl_cons, ih, h _ _ _ rfl]
@[simp] theorem ite_time (c : Prop) [Decidable c] (a b : State) : (if c then a else b).time = if c then a.time else b.time := by split <;> rfl
@[simp] theorem foldl_out {α : Type} (l : List α) (g : State → α → State) (s : State) (h : ∀ t x y, y = g t x → y.out = t.out) : (l.foldl g s).out = s.out := by
  induction l generalizing s with
  | nil => rfl
  | cons a r ih => rw [List.foldl_cons, ih, h _ _ _ rfl]
@[simp] theorem ite_out (c : Prop) [Decidable c] (a b : State) : (if c then a else b).out = if c then a.out else b.out := by split <;> rfl
@[simp] theorem foldl_free {α : Type} (l : List α) (g : State → α → State) (s : State) (h : ∀ t x y, y = g t x → y.free = t.free) : (l.foldl g s).free = s.free := by
  induction l generalizing s with
  | nil => rfl
  | cons a r ih => rw [List.foldl_cons, ih, h _ _ _ rfl]
@[simp] theorem ite_free (c : Prop) [Decidable c] (a b : State) : (if c then a else b).free = if c then a.free else b.free := by split <;> rfl
@[simp] abbrev OnlyCores (t s : State) : Prop :=
  t.pending = s.pending ∧ t.clusters = s.clusters ∧ t.parts = s.parts ∧ t.ctxs = s.ctxs ∧ t.store = s.store ∧ t.bulk = s.bulk ∧ t.host = s.host ∧ t.dev = s.dev ∧ t.quill = s.quill ∧ t.fabric = s.fabric ∧ t.module_ = s.module_ ∧ t.net = s.net ∧ t.time = s.time ∧ t.out = s.out ∧ t.free = s.free

@[simp] abbrev OnlyClusters (t s : State) : Prop :=
  t.pending = s.pending ∧ t.cores = s.cores ∧ t.parts = s.parts ∧ t.ctxs = s.ctxs ∧ t.store = s.store ∧ t.bulk = s.bulk ∧ t.host = s.host ∧ t.dev = s.dev ∧ t.quill = s.quill ∧ t.fabric = s.fabric ∧ t.module_ = s.module_ ∧ t.net = s.net ∧ t.time = s.time ∧ t.out = s.out ∧ t.free = s.free

@[simp] abbrev OnlyParts (t s : State) : Prop :=
  t.pending = s.pending ∧ t.cores = s.cores ∧ t.clusters = s.clusters ∧ t.ctxs = s.ctxs ∧ t.store = s.store ∧ t.bulk = s.bulk ∧ t.host = s.host ∧ t.dev = s.dev ∧ t.quill = s.quill ∧ t.fabric = s.fabric ∧ t.module_ = s.module_ ∧ t.net = s.net ∧ t.time = s.time ∧ t.out = s.out ∧ t.free = s.free

@[simp] abbrev OnlyCtxs (t s : State) : Prop :=
  t.pending = s.pending ∧ t.cores = s.cores ∧ t.clusters = s.clusters ∧ t.parts = s.parts ∧ t.store = s.store ∧ t.bulk = s.bulk ∧ t.host = s.host ∧ t.dev = s.dev ∧ t.quill = s.quill ∧ t.fabric = s.fabric ∧ t.module_ = s.module_ ∧ t.net = s.net ∧ t.time = s.time ∧ t.out = s.out ∧ t.free = s.free

@[simp] abbrev OnlyHost (t s : State) : Prop :=
  t.pending = s.pending ∧ t.cores = s.cores ∧ t.clusters = s.clusters ∧ t.parts = s.parts ∧ t.ctxs = s.ctxs ∧ t.store = s.store ∧ t.bulk = s.bulk ∧ t.dev = s.dev ∧ t.quill = s.quill ∧ t.fabric = s.fabric ∧ t.module_ = s.module_ ∧ t.net = s.net ∧ t.time = s.time ∧ t.out = s.out ∧ t.free = s.free

@[simp] abbrev OnlyBulk (t s : State) : Prop :=
  t.pending = s.pending ∧ t.cores = s.cores ∧ t.clusters = s.clusters ∧ t.parts = s.parts ∧ t.ctxs = s.ctxs ∧ t.store = s.store ∧ t.host = s.host ∧ t.dev = s.dev ∧ t.quill = s.quill ∧ t.fabric = s.fabric ∧ t.module_ = s.module_ ∧ t.net = s.net ∧ t.time = s.time ∧ t.out = s.out ∧ t.free = s.free

@[simp] abbrev OnlyQuill (t s : State) : Prop :=
  t.pending = s.pending ∧ t.cores = s.cores ∧ t.clusters = s.clusters ∧ t.parts = s.parts ∧ t.ctxs = s.ctxs ∧ t.store = s.store ∧ t.bulk = s.bulk ∧ t.host = s.host ∧ t.dev = s.dev ∧ t.fabric = s.fabric ∧ t.module_ = s.module_ ∧ t.net = s.net ∧ t.time = s.time ∧ t.out = s.out ∧ t.free = s.free

@[simp] abbrev OnlyFabric (t s : State) : Prop :=
  t.pending = s.pending ∧ t.cores = s.cores ∧ t.clusters = s.clusters ∧ t.parts = s.parts ∧ t.ctxs = s.ctxs ∧ t.store = s.store ∧ t.bulk = s.bulk ∧ t.host = s.host ∧ t.dev = s.dev ∧ t.quill = s.quill ∧ t.module_ = s.module_ ∧ t.net = s.net ∧ t.time = s.time ∧ t.out = s.out ∧ t.free = s.free

@[simp] abbrev OnlyModule (t s : State) : Prop :=
  t.pending = s.pending ∧ t.cores = s.cores ∧ t.clusters = s.clusters ∧ t.parts = s.parts ∧ t.ctxs = s.ctxs ∧ t.store = s.store ∧ t.bulk = s.bulk ∧ t.host = s.host ∧ t.dev = s.dev ∧ t.quill = s.quill ∧ t.fabric = s.fabric ∧ t.net = s.net ∧ t.time = s.time ∧ t.out = s.out ∧ t.free = s.free

@[simp] abbrev OnlyNet (t s : State) : Prop :=
  t.pending = s.pending ∧ t.cores = s.cores ∧ t.clusters = s.clusters ∧ t.parts = s.parts ∧ t.ctxs = s.ctxs ∧ t.store = s.store ∧ t.bulk = s.bulk ∧ t.host = s.host ∧ t.dev = s.dev ∧ t.quill = s.quill ∧ t.fabric = s.fabric ∧ t.module_ = s.module_ ∧ t.time = s.time ∧ t.out = s.out ∧ t.free = s.free

@[simp] abbrev OnlyOut (t s : State) : Prop :=
  t.pending = s.pending ∧ t.cores = s.cores ∧ t.clusters = s.clusters ∧ t.parts = s.parts ∧ t.ctxs = s.ctxs ∧ t.store = s.store ∧ t.bulk = s.bulk ∧ t.host = s.host ∧ t.dev = s.dev ∧ t.quill = s.quill ∧ t.fabric = s.fabric ∧ t.module_ = s.module_ ∧ t.net = s.net ∧ t.time = s.time ∧ t.free = s.free

@[simp] abbrev OnlyFree (t s : State) : Prop :=
  t.pending = s.pending ∧ t.cores = s.cores ∧ t.clusters = s.clusters ∧ t.parts = s.parts ∧ t.ctxs = s.ctxs ∧ t.store = s.store ∧ t.bulk = s.bulk ∧ t.host = s.host ∧ t.dev = s.dev ∧ t.quill = s.quill ∧ t.fabric = s.fabric ∧ t.module_ = s.module_ ∧ t.net = s.net ∧ t.time = s.time ∧ t.out = s.out

@[simp] abbrev OnlyStore (t s : State) : Prop :=
  t.pending = s.pending ∧ t.cores = s.cores ∧ t.clusters = s.clusters ∧ t.parts = s.parts ∧ t.ctxs = s.ctxs ∧ t.bulk = s.bulk ∧ t.host = s.host ∧ t.dev = s.dev ∧ t.quill = s.quill ∧ t.fabric = s.fabric ∧ t.module_ = s.module_ ∧ t.net = s.net ∧ t.time = s.time ∧ t.out = s.out ∧ t.free = s.free

@[simp] abbrev OnlyCoresStore (t s : State) : Prop :=
  t.pending = s.pending ∧ t.clusters = s.clusters ∧ t.parts = s.parts ∧ t.ctxs = s.ctxs ∧ t.bulk = s.bulk ∧ t.host = s.host ∧ t.dev = s.dev ∧ t.quill = s.quill ∧ t.fabric = s.fabric ∧ t.module_ = s.module_ ∧ t.net = s.net ∧ t.time = s.time ∧ t.out = s.out ∧ t.free = s.free

@[simp] abbrev OnlyFabricOut (t s : State) : Prop :=
  t.pending = s.pending ∧ t.cores = s.cores ∧ t.clusters = s.clusters ∧ t.parts = s.parts ∧ t.ctxs = s.ctxs ∧ t.store = s.store ∧ t.bulk = s.bulk ∧ t.host = s.host ∧ t.dev = s.dev ∧ t.quill = s.quill ∧ t.module_ = s.module_ ∧ t.net = s.net ∧ t.time = s.time ∧ t.free = s.free

@[simp] abbrev OnlyHostOut (t s : State) : Prop :=
  t.pending = s.pending ∧ t.cores = s.cores ∧ t.clusters = s.clusters ∧ t.parts = s.parts ∧ t.ctxs = s.ctxs ∧ t.store = s.store ∧ t.bulk = s.bulk ∧ t.dev = s.dev ∧ t.quill = s.quill ∧ t.fabric = s.fabric ∧ t.module_ = s.module_ ∧ t.net = s.net ∧ t.time = s.time ∧ t.free = s.free

@[simp] abbrev OnlyHostModuleOut (t s : State) : Prop :=
  t.pending = s.pending ∧ t.cores = s.cores ∧ t.clusters = s.clusters ∧ t.parts = s.parts ∧ t.ctxs = s.ctxs ∧ t.store = s.store ∧ t.bulk = s.bulk ∧ t.dev = s.dev ∧ t.quill = s.quill ∧ t.fabric = s.fabric ∧ t.net = s.net ∧ t.time = s.time ∧ t.free = s.free

@[simp] abbrev OnlyHostQuillModuleOut (t s : State) : Prop :=
  t.pending = s.pending ∧ t.cores = s.cores ∧ t.clusters = s.clusters ∧ t.parts = s.parts ∧ t.ctxs = s.ctxs ∧ t.store = s.store ∧ t.bulk = s.bulk ∧ t.dev = s.dev ∧ t.fabric = s.fabric ∧ t.net = s.net ∧ t.time = s.time ∧ t.free = s.free

@[simp] abbrev OnlyPartsCtxsHostFabricOut (t s : State) : Prop :=
  t.pending = s.pending ∧ t.cores = s.cores ∧ t.clusters = s.clusters ∧ t.store = s.store ∧ t.bulk = s.bulk ∧ t.dev = s.dev ∧ t.quill = s.quill ∧ t.module_ = s.module_ ∧ t.net = s.net ∧ t.time = s.time ∧ t.free = s.free

@[simp] abbrev OnlyCtxsQuillFabricOut (t s : State) : Prop :=
  t.pending = s.pending ∧ t.cores = s.cores ∧ t.clusters = s.clusters ∧ t.parts = s.parts ∧ t.store = s.store ∧ t.bulk = s.bulk ∧ t.host = s.host ∧ t.dev = s.dev ∧ t.module_ = s.module_ ∧ t.net = s.net ∧ t.time = s.time ∧ t.free = s.free

@[simp] abbrev OnlyCoresPartsCtxsStoreHostQuillFabricModuleOut (t s : State) : Prop :=
  t.pending = s.pending ∧ t.clusters = s.clusters ∧ t.bulk = s.bulk ∧ t.dev = s.dev ∧ t.net = s.net ∧ t.time = s.time ∧ t.free = s.free

@[simp] abbrev OnlyClustersHostQuillModuleOut (t s : State) : Prop :=
  t.pending = s.pending ∧ t.cores = s.cores ∧ t.parts = s.parts ∧ t.ctxs = s.ctxs ∧ t.store = s.store ∧ t.bulk = s.bulk ∧ t.dev = s.dev ∧ t.fabric = s.fabric ∧ t.net = s.net ∧ t.time = s.time ∧ t.free = s.free

@[simp] abbrev OnlyClustersParts (t s : State) : Prop :=
  t.pending = s.pending ∧ t.cores = s.cores ∧ t.ctxs = s.ctxs ∧ t.store = s.store ∧ t.bulk = s.bulk ∧ t.host = s.host ∧ t.dev = s.dev ∧ t.quill = s.quill ∧ t.fabric = s.fabric ∧ t.module_ = s.module_ ∧ t.net = s.net ∧ t.time = s.time ∧ t.out = s.out ∧ t.free = s.free

@[simp] abbrev OnlyCoresClustersParts (t s : State) : Prop :=
  t.pending = s.pending ∧ t.ctxs = s.ctxs ∧ t.store = s.store ∧ t.bulk = s.bulk ∧ t.host = s.host ∧ t.dev = s.dev ∧ t.quill = s.quill ∧ t.fabric = s.fabric ∧ t.module_ = s.module_ ∧ t.net = s.net ∧ t.time = s.time ∧ t.out = s.out ∧ t.free = s.free

@[simp] abbrev OnlyCoresParts (t s : State) : Prop :=
  t.pending = s.pending ∧ t.clusters = s.clusters ∧ t.ctxs = s.ctxs ∧ t.store = s.store ∧ t.bulk = s.bulk ∧ t.host = s.host ∧ t.dev = s.dev ∧ t.quill = s.quill ∧ t.fabric = s.fabric ∧ t.module_ = s.module_ ∧ t.net = s.net ∧ t.time = s.time ∧ t.out = s.out ∧ t.free = s.free

@[simp] abbrev OnlyCoresPartsNet (t s : State) : Prop :=
  t.pending = s.pending ∧ t.clusters = s.clusters ∧ t.ctxs = s.ctxs ∧ t.store = s.store ∧ t.bulk = s.bulk ∧ t.host = s.host ∧ t.dev = s.dev ∧ t.quill = s.quill ∧ t.fabric = s.fabric ∧ t.module_ = s.module_ ∧ t.time = s.time ∧ t.out = s.out ∧ t.free = s.free

@[simp] abbrev OnlyCoresNet (t s : State) : Prop :=
  t.pending = s.pending ∧ t.clusters = s.clusters ∧ t.parts = s.parts ∧ t.ctxs = s.ctxs ∧ t.store = s.store ∧ t.bulk = s.bulk ∧ t.host = s.host ∧ t.dev = s.dev ∧ t.quill = s.quill ∧ t.fabric = s.fabric ∧ t.module_ = s.module_ ∧ t.time = s.time ∧ t.out = s.out ∧ t.free = s.free

@[simp] abbrev OnlyCoresClustersPartsCtxsStoreHostQuillFabricModuleNetOut (t s : State) : Prop :=
  t.pending = s.pending ∧ t.bulk = s.bulk ∧ t.dev = s.dev ∧ t.time = s.time ∧ t.free = s.free

@[simp] abbrev OnlyCoresClustersPartsCtxsStoreHostQuillFabricModuleOut (t s : State) : Prop :=
  t.pending = s.pending ∧ t.bulk = s.bulk ∧ t.dev = s.dev ∧ t.net = s.net ∧ t.time = s.time ∧ t.free = s.free

@[simp] abbrev OnlyClustersStore (t s : State) : Prop :=
  t.pending = s.pending ∧ t.cores = s.cores ∧ t.parts = s.parts ∧ t.ctxs = s.ctxs ∧ t.bulk = s.bulk ∧ t.host = s.host ∧ t.dev = s.dev ∧ t.quill = s.quill ∧ t.fabric = s.fabric ∧ t.module_ = s.module_ ∧ t.net = s.net ∧ t.time = s.time ∧ t.out = s.out ∧ t.free = s.free

@[simp] abbrev OnlyCoresQuill (t s : State) : Prop :=
  t.pending = s.pending ∧ t.clusters = s.clusters ∧ t.parts = s.parts ∧ t.ctxs = s.ctxs ∧ t.store = s.store ∧ t.bulk = s.bulk ∧ t.host = s.host ∧ t.dev = s.dev ∧ t.fabric = s.fabric ∧ t.module_ = s.module_ ∧ t.net = s.net ∧ t.time = s.time ∧ t.out = s.out ∧ t.free = s.free

@[simp] abbrev OnlyClustersFabric (t s : State) : Prop :=
  t.pending = s.pending ∧ t.cores = s.cores ∧ t.parts = s.parts ∧ t.ctxs = s.ctxs ∧ t.store = s.store ∧ t.bulk = s.bulk ∧ t.host = s.host ∧ t.dev = s.dev ∧ t.quill = s.quill ∧ t.module_ = s.module_ ∧ t.net = s.net ∧ t.time = s.time ∧ t.out = s.out ∧ t.free = s.free

@[simp] abbrev OnlyClustersFabricNet (t s : State) : Prop :=
  t.pending = s.pending ∧ t.cores = s.cores ∧ t.parts = s.parts ∧ t.ctxs = s.ctxs ∧ t.store = s.store ∧ t.bulk = s.bulk ∧ t.host = s.host ∧ t.dev = s.dev ∧ t.quill = s.quill ∧ t.module_ = s.module_ ∧ t.time = s.time ∧ t.out = s.out ∧ t.free = s.free

@[simp] abbrev OnlyStoreBulk (t s : State) : Prop :=
  t.pending = s.pending ∧ t.cores = s.cores ∧ t.clusters = s.clusters ∧ t.parts = s.parts ∧ t.ctxs = s.ctxs ∧ t.host = s.host ∧ t.dev = s.dev ∧ t.quill = s.quill ∧ t.fabric = s.fabric ∧ t.module_ = s.module_ ∧ t.net = s.net ∧ t.time = s.time ∧ t.out = s.out ∧ t.free = s.free

@[simp] abbrev OnlyBulkHostQuillModuleOut (t s : State) : Prop :=
  t.pending = s.pending ∧ t.cores = s.cores ∧ t.clusters = s.clusters ∧ t.parts = s.parts ∧ t.ctxs = s.ctxs ∧ t.store = s.store ∧ t.dev = s.dev ∧ t.fabric = s.fabric ∧ t.net = s.net ∧ t.time = s.time ∧ t.free = s.free

@[simp] abbrev OnlyStoreBulkHostQuillModuleOut (t s : State) : Prop :=
  t.pending = s.pending ∧ t.cores = s.cores ∧ t.clusters = s.clusters ∧ t.parts = s.parts ∧ t.ctxs = s.ctxs ∧ t.dev = s.dev ∧ t.fabric = s.fabric ∧ t.net = s.net ∧ t.time = s.time ∧ t.free = s.free

@[simp] abbrev OnlyCoresPartsCtxsStoreBulkHostQuillFabricModuleOut (t s : State) : Prop :=
  t.pending = s.pending ∧ t.clusters = s.clusters ∧ t.dev = s.dev ∧ t.net = s.net ∧ t.time = s.time ∧ t.free = s.free

@[simp] abbrev OnlyClustersCtxsFabric (t s : State) : Prop :=
  t.pending = s.pending ∧ t.cores = s.cores ∧ t.parts = s.parts ∧ t.store = s.store ∧ t.bulk = s.bulk ∧ t.host = s.host ∧ t.dev = s.dev ∧ t.quill = s.quill ∧ t.module_ = s.module_ ∧ t.net = s.net ∧ t.time = s.time ∧ t.out = s.out ∧ t.free = s.free

@[simp] abbrev OnlyClustersFabricOut (t s : State) : Prop :=
  t.pending = s.pending ∧ t.cores = s.cores ∧ t.parts = s.parts ∧ t.ctxs = s.ctxs ∧ t.store = s.store ∧ t.bulk = s.bulk ∧ t.host = s.host ∧ t.dev = s.dev ∧ t.quill = s.quill ∧ t.module_ = s.module_ ∧ t.net = s.net ∧ t.time = s.time ∧ t.free = s.free

@[simp] abbrev OnlyClustersHostFabricOut (t s : State) : Prop :=
  t.pending = s.pending ∧ t.cores = s.cores ∧ t.parts = s.parts ∧ t.ctxs = s.ctxs ∧ t.store = s.store ∧ t.bulk = s.bulk ∧ t.dev = s.dev ∧ t.quill = s.quill ∧ t.module_ = s.module_ ∧ t.net = s.net ∧ t.time = s.time ∧ t.free = s.free

@[simp] abbrev OnlyCoresClustersPartsCtxsStoreBulkHostQuillFabricModuleOut (t s : State) : Prop :=
  t.pending = s.pending ∧ t.dev = s.dev ∧ t.net = s.net ∧ t.time = s.time ∧ t.free = s.free

@[simp] abbrev OnlyCoresCtxs (t s : State) : Prop :=
  t.pending = s.pending ∧ t.clusters = s.clusters ∧ t.parts = s.parts ∧ t.store = s.store ∧ t.bulk = s.bulk ∧ t.host = s.host ∧ t.dev = s.dev ∧ t.quill = s.quill ∧ t.fabric = s.fabric ∧ t.module_ = s.module_ ∧ t.net = s.net ∧ t.time = s.time ∧ t.out = s.out ∧ t.free = s.free

@[simp] abbrev OnlyClustersStoreQuill (t s : State) : Prop :=
  t.pending = s.pending ∧ t.cores = s.cores ∧ t.parts = s.parts ∧ t.ctxs = s.ctxs ∧ t.bulk = s.bulk ∧ t.host = s.host ∧ t.dev = s.dev ∧ t.fabric = s.fabric ∧ t.module_ = s.module_ ∧ t.net = s.net ∧ t.time = s.time ∧ t.out = s.out ∧ t.free = s.free

@[simp] abbrev OnlyCoresClustersStore (t s : State) : Prop :=
  t.pending = s.pending ∧ t.parts = s.parts ∧ t.ctxs = s.ctxs ∧ t.bulk = s.bulk ∧ t.host = s.host ∧ t.dev = s.dev ∧ t.quill = s.quill ∧ t.fabric = s.fabric ∧ t.module_ = s.module_ ∧ t.net = s.net ∧ t.time = s.time ∧ t.out = s.out ∧ t.free = s.free

@[simp] abbrev OnlyCoresClustersPartsCtxsStoreBulkHostQuillFabricModuleNetOut (t s : State) : Prop :=
  t.pending = s.pending ∧ t.dev = s.dev ∧ t.time = s.time ∧ t.free = s.free

@[simp] abbrev OnlyPartsCtxs (t s : State) : Prop :=
  t.pending = s.pending ∧ t.cores = s.cores ∧ t.clusters = s.clusters ∧ t.store = s.store ∧ t.bulk = s.bulk ∧ t.host = s.host ∧ t.dev = s.dev ∧ t.quill = s.quill ∧ t.fabric = s.fabric ∧ t.module_ = s.module_ ∧ t.net = s.net ∧ t.time = s.time ∧ t.out = s.out ∧ t.free = s.free

@[simp] abbrev OnlyCoresClustersHostQuillModuleOut (t s : State) : Prop :=
  t.pending = s.pending ∧ t.parts = s.parts ∧ t.ctxs = s.ctxs ∧ t.store = s.store ∧ t.bulk = s.bulk ∧ t.dev = s.dev ∧ t.fabric = s.fabric ∧ t.net = s.net ∧ t.time = s.time ∧ t.free = s.free

@[simp] abbrev OnlyCoresClustersQuill (t s : State) : Prop :=
  t.pending = s.pending ∧ t.parts = s.parts ∧ t.ctxs = s.ctxs ∧ t.store = s.store ∧ t.bulk = s.bulk ∧ t.host = s.host ∧ t.dev = s.dev ∧ t.fabric = s.fabric ∧ t.module_ = s.module_ ∧ t.net = s.net ∧ t.time = s.time ∧ t.out = s.out ∧ t.free = s.free

@[simp] abbrev OnlyCtxsStoreBulk (t s : State) : Prop :=
  t.pending = s.pending ∧ t.cores = s.cores ∧ t.clusters = s.clusters ∧ t.parts = s.parts ∧ t.host = s.host ∧ t.dev = s.dev ∧ t.quill = s.quill ∧ t.fabric = s.fabric ∧ t.module_ = s.module_ ∧ t.net = s.net ∧ t.time = s.time ∧ t.out = s.out ∧ t.free = s.free

@[simp] abbrev OnlyClustersStoreBulk (t s : State) : Prop :=
  t.pending = s.pending ∧ t.cores = s.cores ∧ t.parts = s.parts ∧ t.ctxs = s.ctxs ∧ t.host = s.host ∧ t.dev = s.dev ∧ t.quill = s.quill ∧ t.fabric = s.fabric ∧ t.module_ = s.module_ ∧ t.net = s.net ∧ t.time = s.time ∧ t.out = s.out ∧ t.free = s.free

@[simp] abbrev OnlyCtxsStore (t s : State) : Prop :=
  t.pending = s.pending ∧ t.cores = s.cores ∧ t.clusters = s.clusters ∧ t.parts = s.parts ∧ t.bulk = s.bulk ∧ t.host = s.host ∧ t.dev = s.dev ∧ t.quill = s.quill ∧ t.fabric = s.fabric ∧ t.module_ = s.module_ ∧ t.net = s.net ∧ t.time = s.time ∧ t.out = s.out ∧ t.free = s.free

@[simp] abbrev OnlyCoresClustersPartsStoreBulkFabricNet (t s : State) : Prop :=
  t.pending = s.pending ∧ t.ctxs = s.ctxs ∧ t.host = s.host ∧ t.dev = s.dev ∧ t.quill = s.quill ∧ t.module_ = s.module_ ∧ t.time = s.time ∧ t.out = s.out ∧ t.free = s.free

@[simp] abbrev OnlyCtxsHostQuillModuleOut (t s : State) : Prop :=
  t.pending = s.pending ∧ t.cores = s.cores ∧ t.clusters = s.clusters ∧ t.parts = s.parts ∧ t.store = s.store ∧ t.bulk = s.bulk ∧ t.dev = s.dev ∧ t.fabric = s.fabric ∧ t.net = s.net ∧ t.time = s.time ∧ t.free = s.free

@[simp] abbrev OnlyCtxsHostQuillFabricModuleOut (t s : State) : Prop :=
  t.pending = s.pending ∧ t.cores = s.cores ∧ t.clusters = s.clusters ∧ t.parts = s.parts ∧ t.store = s.store ∧ t.bulk = s.bulk ∧ t.dev = s.dev ∧ t.net = s.net ∧ t.time = s.time ∧ t.free = s.free

@[simp] abbrev OnlyCoresCtxsHostQuillOut (t s : State) : Prop :=
  t.pending = s.pending ∧ t.clusters = s.clusters ∧ t.parts = s.parts ∧ t.store = s.store ∧ t.bulk = s.bulk ∧ t.dev = s.dev ∧ t.fabric = s.fabric ∧ t.module_ = s.module_ ∧ t.net = s.net ∧ t.time = s.time ∧ t.free = s.free

@[simp] abbrev OnlyCoresPartsCtxsStoreBulkHostQuillFabricOut (t s : State) : Prop :=
  t.pending = s.pending ∧ t.clusters = s.clusters ∧ t.dev = s.dev ∧ t.module_ = s.module_ ∧ t.net = s.net ∧ t.time = s.time ∧ t.free = s.free

@[simp] abbrev OnlyCoresClusters (t s : State) : Prop :=
  t.pending = s.pending ∧ t.parts = s.parts ∧ t.ctxs = s.ctxs ∧ t.store = s.store ∧ t.bulk = s.bulk ∧ t.host = s.host ∧ t.dev = s.dev ∧ t.quill = s.quill ∧ t.fabric = s.fabric ∧ t.module_ = s.module_ ∧ t.net = s.net ∧ t.time = s.time ∧ t.out = s.out ∧ t.free = s.free

@[simp] abbrev OnlyClustersStoreFabric (t s : State) : Prop :=
  t.pending = s.pending ∧ t.cores = s.cores ∧ t.parts = s.parts ∧ t.ctxs = s.ctxs ∧ t.bulk = s.bulk ∧ t.host = s.host ∧ t.dev = s.dev ∧ t.quill = s.quill ∧ t.module_ = s.module_ ∧ t.net = s.net ∧ t.time = s.time ∧ t.out = s.out ∧ t.free = s.free

@[simp] abbrev OnlyCoresClustersStoreQuillFabric (t s : State) : Prop :=
  t.pending = s.pending ∧ t.parts = s.parts ∧ t.ctxs = s.ctxs ∧ t.bulk = s.bulk ∧ t.host = s.host ∧ t.dev = s.dev ∧ t.module_ = s.module_ ∧ t.net = s.net ∧ t.time = s.time ∧ t.out = s.out ∧ t.free = s.free

@[simp] abbrev OnlyCoresClustersFabric (t s : State) : Prop :=
  t.pending = s.pending ∧ t.parts = s.parts ∧ t.ctxs = s.ctxs ∧ t.store = s.store ∧ t.bulk = s.bulk ∧ t.host = s.host ∧ t.dev = s.dev ∧ t.quill = s.quill ∧ t.module_ = s.module_ ∧ t.net = s.net ∧ t.time = s.time ∧ t.out = s.out ∧ t.free = s.free

@[simp] abbrev OnlyCoresClustersHostFabricOut (t s : State) : Prop :=
  t.pending = s.pending ∧ t.parts = s.parts ∧ t.ctxs = s.ctxs ∧ t.store = s.store ∧ t.bulk = s.bulk ∧ t.dev = s.dev ∧ t.quill = s.quill ∧ t.module_ = s.module_ ∧ t.net = s.net ∧ t.time = s.time ∧ t.free = s.free

@[simp] abbrev OnlyCoresHostQuillModuleOut (t s : State) : Prop :=
  t.pending = s.pending ∧ t.clusters = s.clusters ∧ t.parts = s.parts ∧ t.ctxs = s.ctxs ∧ t.store = s.store ∧ t.bulk = s.bulk ∧ t.dev = s.dev ∧ t.fabric = s.fabric ∧ t.net = s.net ∧ t.time = s.time ∧ t.free = s.free

@[simp] abbrev OnlyCoresClustersStoreFabricNet (t s : State) : Prop :=
  t.pending = s.pending ∧ t.parts = s.parts ∧ t.ctxs = s.ctxs ∧ t.bulk = s.bulk ∧ t.host = s.host ∧ t.dev = s.dev ∧ t.quill = s.quill ∧ t.module_ = s.module_ ∧ t.time = s.time ∧ t.out = s.out ∧ t.free = s.free

@[simp] abbrev OnlyCoresClustersPartsStoreBulkHostQuillFabricModuleNetOut (t s : State) : Prop :=
  t.pending = s.pending ∧ t.ctxs = s.ctxs ∧ t.dev = s.dev ∧ t.time = s.time ∧ t.free = s.free

@[simp] abbrev OnlyBulkHost (t s : State) : Prop :=
  t.pending = s.pending ∧ t.cores = s.cores ∧ t.clusters = s.clusters ∧ t.parts = s.parts ∧ t.ctxs = s.ctxs ∧ t.store = s.store ∧ t.dev = s.dev ∧ t.quill = s.quill ∧ t.fabric = s.fabric ∧ t.module_ = s.module_ ∧ t.net = s.net ∧ t.time = s.time ∧ t.out = s.out ∧ t.free = s.free

@[simp] abbrev OnlyClustersStoreHostFabricOut (t s : State) : Prop :=
  t.pending = s.pending ∧ t.cores = s.cores ∧ t.parts = s.parts ∧ t.ctxs = s.ctxs ∧ t.bulk = s.bulk ∧ t.dev = s.dev ∧ t.quill = s.quill ∧ t.module_ = s.module_ ∧ t.net = s.net ∧ t.time = s.time ∧ t.free = s.free

@[simp] abbrev OnlyClustersPartsBulk (t s : State) : Prop :=
  t.pending = s.pending ∧ t.cores = s.cores ∧ t.ctxs = s.ctxs ∧ t.store = s.store ∧ t.host = s.host ∧ t.dev = s.dev ∧ t.quill = s.quill ∧ t.fabric = s.fabric ∧ t.module_ = s.module_ ∧ t.net = s.net ∧ t.time = s.time ∧ t.out = s.out ∧ t.free = s.free

@[simp] abbrev OnlyCoresModule (t s : State) : Prop :=
  t.pending = s.pending ∧ t.clusters = s.clusters ∧ t.parts = s.parts ∧ t.ctxs = s.ctxs ∧ t.store = s.store ∧ t.bulk = s.bulk ∧ t.host = s.host ∧ t.dev = s.dev ∧ t.quill = s.quill ∧ t.fabric = s.fabric ∧ t.net = s.net ∧ t.time = s.time ∧ t.out = s.out ∧ t.free = s.free

@[simp] abbrev OnlyCoresStoreQuillModule (t s : State) : Prop :=
  t.pending = s.pending ∧ t.clusters = s.clusters ∧ t.parts = s.parts ∧ t.ctxs = s.ctxs ∧ t.bulk = s.bulk ∧ t.host = s.host ∧ t.dev = s.dev ∧ t.fabric = s.fabric ∧ t.net = s.net ∧ t.time = s.time ∧ t.out = s.out ∧ t.free = s.free

@[simp] abbrev OnlyClustersModule (t s : State) : Prop :=
  t.pending = s.pending ∧ t.cores = s.cores ∧ t.parts = s.parts ∧ t.ctxs = s.ctxs ∧ t.store = s.store ∧ t.bulk = s.bulk ∧ t.host = s.host ∧ t.dev = s.dev ∧ t.quill = s.quill ∧ t.fabric = s.fabric ∧ t.net = s.net ∧ t.time = s.time ∧ t.out = s.out ∧ t.free = s.free

@[simp] abbrev OnlyBulkModule (t s : State) : Prop :=
  t.pending = s.pending ∧ t.cores = s.cores ∧ t.clusters = s.clusters ∧ t.parts = s.parts ∧ t.ctxs = s.ctxs ∧ t.store = s.store ∧ t.host = s.host ∧ t.dev = s.dev ∧ t.quill = s.quill ∧ t.fabric = s.fabric ∧ t.net = s.net ∧ t.time = s.time ∧ t.out = s.out ∧ t.free = s.free

@[simp] abbrev OnlyCoresClustersBulkHostQuillModuleOut (t s : State) : Prop :=
  t.pending = s.pending ∧ t.parts = s.parts ∧ t.ctxs = s.ctxs ∧ t.store = s.store ∧ t.dev = s.dev ∧ t.fabric = s.fabric ∧ t.net = s.net ∧ t.time = s.time ∧ t.free = s.free

@[simp] abbrev OnlyClustersCtxsHostQuillFabricModuleOut (t s : State) : Prop :=
  t.pending = s.pending ∧ t.cores = s.cores ∧ t.parts = s.parts ∧ t.store = s.store ∧ t.bulk = s.bulk ∧ t.dev = s.dev ∧ t.net = s.net ∧ t.time = s.time ∧ t.free = s.free

@[simp] abbrev OnlyPartsCtxsModule (t s : State) : Prop :=
  t.pending = s.pending ∧ t.cores = s.cores ∧ t.clusters = s.clusters ∧ t.store = s.store ∧ t.bulk = s.bulk ∧ t.host = s.host ∧ t.dev = s.dev ∧ t.quill = s.quill ∧ t.fabric = s.fabric ∧ t.net = s.net ∧ t.time = s.time ∧ t.out = s.out ∧ t.free = s.free

@[simp] abbrev OnlyClustersQuill (t s : State) : Prop :=
  t.pending = s.pending ∧ t.cores = s.cores ∧ t.parts = s.parts ∧ t.ctxs = s.ctxs ∧ t.store = s.store ∧ t.bulk = s.bulk ∧ t.host = s.host ∧ t.dev = s.dev ∧ t.fabric = s.fabric ∧ t.module_ = s.module_ ∧ t.net = s.net ∧ t.time = s.time ∧ t.out = s.out ∧ t.free = s.free

@[simp] abbrev OnlyCoresClustersPartsCtxsStore (t s : State) : Prop :=
  t.pending = s.pending ∧ t.bulk = s.bulk ∧ t.host = s.host ∧ t.dev = s.dev ∧ t.quill = s.quill ∧ t.fabric = s.fabric ∧ t.module_ = s.module_ ∧ t.net = s.net ∧ t.time = s.time ∧ t.out = s.out ∧ t.free = s.free

@[simp] abbrev OnlyCoresPartsCtxs (t s : State) : Prop :=
  t.pending = s.pending ∧ t.clusters = s.clusters ∧ t.store = s.store ∧ t.bulk = s.bulk ∧ t.host = s.host ∧ t.dev = s.dev ∧ t.quill = s.quill ∧ t.fabric = s.fabric ∧ t.module_ = s.module_ ∧ t.net = s.net ∧ t.time = s.time ∧ t.out = s.out ∧ t.free = s.free

@[simp] abbrev OnlyClustersPartsFabric (t s : State) : Prop :=
  t.pending = s.pending ∧ t.cores = s.cores ∧ t.ctxs = s.ctxs ∧ t.store = s.store ∧ t.bulk = s.bulk ∧ t.host = s.host ∧ t.dev = s.dev ∧ t.quill = s.quill ∧ t.module_ = s.module_ ∧ t.net = s.net ∧ t.time = s.time ∧ t.out = s.out ∧ t.free = s.free

@[simp] abbrev OnlyCoresClustersPartsStoreNet (t s : State) : Prop :=
  t.pending = s.pending ∧ t.ctxs = s.ctxs ∧ t.bulk = s.bulk ∧ t.host = s.host ∧ t.dev = s.dev ∧ t.quill = s.quill ∧ t.fabric = s.fabric ∧ t.module_ = s.module_ ∧ t.time = s.time ∧ t.out = s.out ∧ t.free = s.free

@[simp] abbrev OnlyCoresClustersPartsCtxsStoreHostFabricNetOut (t s : State) : Prop :=
  t.pending = s.pending ∧ t.bulk = s.bulk ∧ t.dev = s.dev ∧ t.quill = s.quill ∧ t.module_ = s.module_ ∧ t.time = s.time ∧ t.free = s.free

@[simp] abbrev OnlyCoresPartsCtxsHostQuillModuleOut (t s : State) : Prop :=
  t.pending = s.pending ∧ t.clusters = s.clusters ∧ t.store = s.store ∧ t.bulk = s.bulk ∧ t.dev = s.dev ∧ t.fabric = s.fabric ∧ t.net = s.net ∧ t.time = s.time ∧ t.free = s.free

@[simp] abbrev OnlyCoresClustersStoreBulkHostQuillModuleOut (t s : State) : Prop :=
  t.pending = s.pending ∧ t.parts = s.parts ∧ t.ctxs = s.ctxs ∧ t.dev = s.dev ∧ t.fabric = s.fabric ∧ t.net = s.net ∧ t.time = s.time ∧ t.free = s.free

@[simp] abbrev OnlyCoresClustersStoreHostQuillModuleOut (t s : State) : Prop :=
  t.pending = s.pending ∧ t.parts = s.parts ∧ t.ctxs = s.ctxs ∧ t.bulk = s.bulk ∧ t.dev = s.dev ∧ t.fabric = s.fabric ∧ t.net = s.net ∧ t.time = s.time ∧ t.free = s.free

@[simp] abbrev OnlyCoresPartsCtxsStoreQuillFabricOut (t s : State) : Prop :=
  t.pending = s.pending ∧ t.clusters = s.clusters ∧ t.bulk = s.bulk ∧ t.host = s.host ∧ t.dev = s.dev ∧ t.module_ = s.module_ ∧ t.net = s.net ∧ t.time = s.time ∧ t.free = s.free

@[simp] abbrev OnlyCtxsHostOut (t s : State) : Prop :=
  t.pending = s.pending ∧ t.cores = s.cores ∧ t.clusters = s.clusters ∧ t.parts = s.parts ∧ t.store = s.store ∧ t.bulk = s.bulk ∧ t.dev = s.dev ∧ t.quill = s.quill ∧ t.fabric = s.fabric ∧ t.module_ = s.module_ ∧ t.net = s.net ∧ t.time = s.time ∧ t.free = s.free

@[simp] abbrev OnlyHostFree (t s : State) : Prop :=
  t.pending = s.pending ∧ t.cores = s.cores ∧ t.clusters = s.clusters ∧ t.parts = s.parts ∧ t.ctxs = s.ctxs ∧ t.store = s.store ∧ t.bulk = s.bulk ∧ t.dev = s.dev ∧ t.quill = s.quill ∧ t.fabric = s.fabric ∧ t.module_ = s.module_ ∧ t.net = s.net ∧ t.time = s.time ∧ t.out = s.out

@[simp] abbrev OnlyHostModule (t s : State) : Prop :=
  t.pending = s.pending ∧ t.cores = s.cores ∧ t.clusters = s.clusters ∧ t.parts = s.parts ∧ t.ctxs = s.ctxs ∧ t.store = s.store ∧ t.bulk = s.bulk ∧ t.dev = s.dev ∧ t.quill = s.quill ∧ t.fabric = s.fabric ∧ t.net = s.net ∧ t.time = s.time ∧ t.out = s.out ∧ t.free = s.free

@[simp] abbrev OnlyHostQuillModule (t s : State) : Prop :=
  t.pending = s.pending ∧ t.cores = s.cores ∧ t.clusters = s.clusters ∧ t.parts = s.parts ∧ t.ctxs = s.ctxs ∧ t.store = s.store ∧ t.bulk = s.bulk ∧ t.dev = s.dev ∧ t.fabric = s.fabric ∧ t.net = s.net ∧ t.time = s.time ∧ t.out = s.out ∧ t.free = s.free

@[simp] abbrev OnlyQuillModule (t s : State) : Prop :=
  t.pending = s.pending ∧ t.cores = s.cores ∧ t.clusters = s.clusters ∧ t.parts = s.parts ∧ t.ctxs = s.ctxs ∧ t.store = s.store ∧ t.bulk = s.bulk ∧ t.host = s.host ∧ t.dev = s.dev ∧ t.fabric = s.fabric ∧ t.net = s.net ∧ t.time = s.time ∧ t.out = s.out ∧ t.free = s.free

@[simp] abbrev OnlyHostOutFree (t s : State) : Prop :=
  t.pending = s.pending ∧ t.cores = s.cores ∧ t.clusters = s.clusters ∧ t.parts = s.parts ∧ t.ctxs = s.ctxs ∧ t.store = s.store ∧ t.bulk = s.bulk ∧ t.dev = s.dev ∧ t.quill = s.quill ∧ t.fabric = s.fabric ∧ t.module_ = s.module_ ∧ t.net = s.net ∧ t.time = s.time

@[simp] abbrev OnlyCtxsHost (t s : State) : Prop :=
  t.pending = s.pending ∧ t.cores = s.cores ∧ t.clusters = s.clusters ∧ t.parts = s.parts ∧ t.store = s.store ∧ t.bulk = s.bulk ∧ t.dev = s.dev ∧ t.quill = s.quill ∧ t.fabric = s.fabric ∧ t.module_ = s.module_ ∧ t.net = s.net ∧ t.time = s.time ∧ t.out = s.out ∧ t.free = s.free

@[simp] abbrev OnlyCtxsHostQuillModule (t s : State) : Prop :=
  t.pending = s.pending ∧ t.cores = s.cores ∧ t.clusters = s.clusters ∧ t.parts = s.parts ∧ t.store = s.store ∧ t.bulk = s.bulk ∧ t.dev = s.dev ∧ t.fabric = s.fabric ∧ t.net = s.net ∧ t.time = s.time ∧ t.out = s.out ∧ t.free = s.free

@[simp] abbrev OnlyHostQuillModuleOutFree (t s : State) : Prop :=
  t.pending = s.pending ∧ t.cores = s.cores ∧ t.clusters = s.clusters ∧ t.parts = s.parts ∧ t.ctxs = s.ctxs ∧ t.store = s.store ∧ t.bulk = s.bulk ∧ t.dev = s.dev ∧ t.fabric = s.fabric ∧ t.net = s.net ∧ t.time = s.time

@[simp] abbrev OnlyHostQuillFabricModuleOut (t s : State) : Prop :=
  t.pending = s.pending ∧ t.cores = s.cores ∧ t.clusters = s.clusters ∧ t.parts = s.parts ∧ t.ctxs = s.ctxs ∧ t.store = s.store ∧ t.bulk = s.bulk ∧ t.dev = s.dev ∧ t.net = s.net ∧ t.time = s.time ∧ t.free = s.free

@[simp] abbrev OnlyCoresHostQuillFabricModuleOut (t s : State) : Prop :=
  t.pending = s.pending ∧ t.clusters = s.clusters ∧ t.parts = s.parts ∧ t.ctxs = s.ctxs ∧ t.store = s.store ∧ t.bulk = s.bulk ∧ t.dev = s.dev ∧ t.net = s.net ∧ t.time = s.time ∧ t.free = s.free

@[simp] abbrev OnlyClustersPartsStoreQuill (t s : State) : Prop :=
  t.pending = s.pending ∧ t.cores = s.cores ∧ t.ctxs = s.ctxs ∧ t.bulk = s.bulk ∧ t.host = s.host ∧ t.dev = s.dev ∧ t.fabric = s.fabric ∧ t.module_ = s.module_ ∧ t.net = s.net ∧ t.time = s.time ∧ t.out = s.out ∧ t.free = s.free

@[simp] abbrev OnlyClustersPartsStoreHostQuillOut (t s : State) : Prop :=
  t.pending = s.pending ∧ t.cores = s.cores ∧ t.ctxs = s.ctxs ∧ t.bulk = s.bulk ∧ t.dev = s.dev ∧ t.fabric = s.fabric ∧ t.module_ = s.module_ ∧ t.net = s.net ∧ t.time = s.time ∧ t.free = s.free

@[simp] abbrev OnlyClustersPartsCtxsStoreBulkDevQuillModule (t s : State) : Prop :=
  t.pending = s.pending ∧ t.cores = s.cores ∧ t.host = s.host ∧ t.fabric = s.fabric ∧ t.net = s.net ∧ t.time = s.time ∧ t.out = s.out ∧ t.free = s.free

@[simp] abbrev OnlyClustersPartsCtxsStoreBulkHostDevQuillModuleOut (t s : State) : Prop :=
  t.pending = s.pending ∧ t.cores = s.cores ∧ t.fabric = s.fabric ∧ t.net = s.net ∧ t.time = s.time ∧ t.free = s.free

@[simp] abbrev OnlyCoresClustersBulkQuillFabric (t s : State) : Prop :=
  t.pending = s.pending ∧ t.parts = s.parts ∧ t.ctxs = s.ctxs ∧ t.store = s.store ∧ t.host = s.host ∧ t.dev = s.dev ∧ t.module_ = s.module_ ∧ t.net = s.net ∧ t.time = s.time ∧ t.out = s.out ∧ t.free = s.free

@[simp] abbrev OnlyCoresClustersPartsCtxsBulkHostQuillFabricModuleOut (t s : State) : Prop :=
  t.pending = s.pending ∧ t.store = s.store ∧ t.dev = s.dev ∧ t.net = s.net ∧ t.time = s.time ∧ t.free = s.free

@[simp] abbrev OnlyCoresClustersPartsCtxsStoreBulkHostDevQuillFabricModuleOut (t s : State) : Prop :=
  t.pending = s.pending ∧ t.net = s.net ∧ t.time = s.time ∧ t.free = s.free

@[simp] abbrev OnlyCoresStoreQuill (t s : State) : Prop :=
  t.pending = s.pending ∧ t.clusters = s.clusters ∧ t.parts = s.parts ∧ t.ctxs = s.ctxs ∧ t.bulk = s.bulk ∧ t.host = s.host ∧ t.dev = s.dev ∧ t.fabric = s.fabric ∧ t.module_ = s.module_ ∧ t.net = s.net ∧ t.time = s.time ∧ t.out = s.out ∧ t.free = s.free

@[simp] abbrev OnlyCoresStoreHostQuillModuleOut (t s : State) : Prop :=
  t.pending = s.pending ∧ t.clusters = s.clusters ∧ t.parts = s.parts ∧ t.ctxs = s.ctxs ∧ t.bulk = s.bulk ∧ t.dev = s.dev ∧ t.fabric = s.fabric ∧ t.net = s.net ∧ t.time = s.time ∧ t.free = s.free

@[simp] abbrev OnlyPartsHostQuillModuleOut (t s : State) : Prop :=
  t.pending = s.pending ∧ t.cores = s.cores ∧ t.clusters = s.clusters ∧ t.ctxs = s.ctxs ∧ t.store = s.store ∧ t.bulk = s.bulk ∧ t.dev = s.dev ∧ t.fabric = s.fabric ∧ t.net = s.net ∧ t.time = s.time ∧ t.free = s.free

@[simp] abbrev OnlyPartsCtxsStoreBulk (t s : State) : Prop :=
  t.pending = s.pending ∧ t.cores = s.cores ∧ t.clusters = s.clusters ∧ t.host = s.host ∧ t.dev = s.dev ∧ t.quill = s.quill ∧ t.fabric = s.fabric ∧ t.module_ = s.module_ ∧ t.net = s.net ∧ t.time = s.time ∧ t.out = s.out ∧ t.free = s.free

@[simp] abbrev OnlyCoresHostQuillModuleOutFree (t s : State) : Prop :=
  t.pending = s.pending ∧ t.clusters = s.clusters ∧ t.parts = s.parts ∧ t.ctxs = s.ctxs ∧ t.store = s.store ∧ t.bulk = s.bulk ∧ t.dev = s.dev ∧ t.fabric = s.fabric ∧ t.net = s.net ∧ t.time = s.time

@[simp] abbrev OnlyCoresClustersPartsCtxsStoreBulkHostQuillFabricModuleOutFree (t s : State) : Prop :=
  t.pending = s.pending ∧ t.dev = s.dev ∧ t.net = s.net ∧ t.time = s.time

@[simp] abbrev OnlyHostQuillOut (t s : State) : Prop :=
  t.pending = s.pending ∧ t.cores = s.cores ∧ t.clusters = s.clusters ∧ t.parts = s.parts ∧ t.ctxs = s.ctxs ∧ t.store = s.store ∧ t.bulk = s.bulk ∧ t.dev = s.dev ∧ t.fabric = s.fabric ∧ t.module_ = s.module_ ∧ t.net = s.net ∧ t.time = s.time ∧ t.free = s.free

@[simp] abbrev OnlyPartsCtxsHostOut (t s : State) : Prop :=
  t.pending = s.pending ∧ t.cores = s.cores ∧ t.clusters = s.clusters ∧ t.store = s.store ∧ t.bulk = s.bulk ∧ t.dev = s.dev ∧ t.quill = s.quill ∧ t.fabric = s.fabric ∧ t.module_ = s.module_ ∧ t.net = s.net ∧ t.time = s.time ∧ t.free = s.free

@[simp] abbrev OnlyPartsCtxsStoreHostOut (t s : State) : Prop :=
  t.pending = s.pending ∧ t.cores = s.cores ∧ t.clusters = s.clusters ∧ t.bulk = s.bulk ∧ t.dev = s.dev ∧ t.quill = s.quill ∧ t.fabric = s.fabric ∧ t.module_ = s.module_ ∧ t.net = s.net ∧ t.time = s.time ∧ t.free = s.free

@[simp] abbrev OnlyCtxsStoreHostOut (t s : State) : Prop :=
  t.pending = s.pending ∧ t.cores = s.cores ∧ t.clusters = s.clusters ∧ t.parts = s.parts ∧ t.bulk = s.bulk ∧ t.dev = s.dev ∧ t.quill = s.quill ∧ t.fabric = s.fabric ∧ t.module_ = s.module_ ∧ t.net = s.net ∧ t.time = s.time ∧ t.free = s.free

@[simp] abbrev OnlyPartsHostOut (t s : State) : Prop :=
  t.pending = s.pending ∧ t.cores = s.cores ∧ t.clusters = s.clusters ∧ t.ctxs = s.ctxs ∧ t.store = s.store ∧ t.bulk = s.bulk ∧ t.dev = s.dev ∧ t.quill = s.quill ∧ t.fabric = s.fabric ∧ t.module_ = s.module_ ∧ t.net = s.net ∧ t.time = s.time ∧ t.free = s.free

@[simp] abbrev OnlyCtxsHostDevQuillFabricModuleOut (t s : State) : Prop :=
  t.pending = s.pending ∧ t.cores = s.cores ∧ t.clusters = s.clusters ∧ t.parts = s.parts ∧ t.store = s.store ∧ t.bulk = s.bulk ∧ t.net = s.net ∧ t.time = s.time ∧ t.free = s.free

@[simp] abbrev OnlyHostFabricOut (t s : State) : Prop :=
  t.pending = s.pending ∧ t.cores = s.cores ∧ t.clusters = s.clusters ∧ t.parts = s.parts ∧ t.ctxs = s.ctxs ∧ t.store = s.store ∧ t.bulk = s.bulk ∧ t.dev = s.dev ∧ t.quill = s.quill ∧ t.module_ = s.module_ ∧ t.net = s.net ∧ t.time = s.time ∧ t.free = s.free

@[simp] abbrev OnlyFabricModule (t s : State) : Prop :=
  t.pending = s.pending ∧ t.cores = s.cores ∧ t.clusters = s.clusters ∧ t.parts = s.parts ∧ t.ctxs = s.ctxs ∧ t.store = s.store ∧ t.bulk = s.bulk ∧ t.host = s.host ∧ t.dev = s.dev ∧ t.quill = s.quill ∧ t.net = s.net ∧ t.time = s.time ∧ t.out = s.out ∧ t.free = s.free

@[simp] abbrev OnlyPartsModule (t s : State) : Prop :=
  t.pending = s.pending ∧ t.cores = s.cores ∧ t.clusters = s.clusters ∧ t.ctxs = s.ctxs ∧ t.store = s.store ∧ t.bulk = s.bulk ∧ t.host = s.host ∧ t.dev = s.dev ∧ t.quill = s.quill ∧ t.fabric = s.fabric ∧ t.net = s.net ∧ t.time = s.time ∧ t.out = s.out ∧ t.free = s.free

@[simp] abbrev OnlyCoresClustersPartsCtxsStoreBulkHostQuillFabricModuleNetOutFree (t s : State) : Prop :=
  t.pending = s.pending ∧ t.dev = s.dev ∧ t.time = s.time

@[simp] abbrev OnlyCoresClustersBulkHostQuillFabricModuleOut (t s : State) : Prop :=
  t.pending = s.pending ∧ t.parts = s.parts ∧ t.ctxs = s.ctxs ∧ t.store = s.store ∧ t.dev = s.dev ∧ t.net = s.net ∧ t.time = s.time ∧ t.free = s.free

@[simp] abbrev OnlyOutFree (t s : State) : Prop :=
  t.pending = s.pending ∧ t.cores = s.cores ∧ t.clusters = s.clusters ∧ t.parts = s.parts ∧ t.ctxs = s.ctxs ∧ t.store = s.store ∧ t.bulk = s.bulk ∧ t.host = s.host ∧ t.dev = s.dev ∧ t.quill = s.quill ∧ t.fabric = s.fabric ∧ t.module_ = s.module_ ∧ t.net = s.net ∧ t.time = s.time

@[simp] abbrev OnlyFabricTime (t s : State) : Prop :=
  t.pending = s.pending ∧ t.cores = s.cores ∧ t.clusters = s.clusters ∧ t.parts = s.parts ∧ t.ctxs = s.ctxs ∧ t.store = s.store ∧ t.bulk = s.bulk ∧ t.host = s.host ∧ t.dev = s.dev ∧ t.quill = s.quill ∧ t.module_ = s.module_ ∧ t.net = s.net ∧ t.out = s.out ∧ t.free = s.free

@[simp] abbrev OnlyHostQuillFabricModuleTimeOut (t s : State) : Prop :=
  t.pending = s.pending ∧ t.cores = s.cores ∧ t.clusters = s.clusters ∧ t.parts = s.parts ∧ t.ctxs = s.ctxs ∧ t.store = s.store ∧ t.bulk = s.bulk ∧ t.dev = s.dev ∧ t.net = s.net ∧ t.free = s.free

@[simp] abbrev OnlyHostQuillFabricModuleOutFree (t s : State) : Prop :=
  t.pending = s.pending ∧ t.cores = s.cores ∧ t.clusters = s.clusters ∧ t.parts = s.parts ∧ t.ctxs = s.ctxs ∧ t.store = s.store ∧ t.bulk = s.bulk ∧ t.dev = s.dev ∧ t.net = s.net ∧ t.time = s.time

@[simp] abbrev OnlyClustersStoreOut (t s : State) : Prop :=
  t.pending = s.pending ∧ t.cores = s.cores ∧ t.parts = s.parts ∧ t.ctxs = s.ctxs ∧ t.bulk = s.bulk ∧ t.host = s.host ∧ t.dev = s.dev ∧ t.quill = s.quill ∧ t.fabric = s.fabric ∧ t.module_ = s.module_ ∧ t.net = s.net ∧ t.time = s.time ∧ t.free = s.free

@[simp] abbrev OnlyClustersStoreHostOut (t s : State) : Prop :=
  t.pending = s.pending ∧ t.cores = s.cores ∧ t.parts = s.parts ∧ t.ctxs = s.ctxs ∧ t.bulk = s.bulk ∧ t.dev = s.dev ∧ t.quill = s.quill ∧ t.fabric = s.fabric ∧ t.module_ = s.module_ ∧ t.net = s.net ∧ t.time = s.time ∧ t.free = s.free

@[simp] abbrev OnlyCtxsQuill (t s : State) : Prop :=
  t.pending = s.pending ∧ t.cores = s.cores ∧ t.clusters = s.clusters ∧ t.parts = s.parts ∧ t.store = s.store ∧ t.bulk = s.bulk ∧ t.host = s.host ∧ t.dev = s.dev ∧ t.fabric = s.fabric ∧ t.module_ = s.module_ ∧ t.net = s.net ∧ t.time = s.time ∧ t.out = s.out ∧ t.free = s.free

@[simp] abbrev OnlyHostQuillFabricOut (t s : State) : Prop :=
  t.pending = s.pending ∧ t.cores = s.cores ∧ t.clusters = s.clusters ∧ t.parts = s.parts ∧ t.ctxs = s.ctxs ∧ t.store = s.store ∧ t.bulk = s.bulk ∧ t.dev = s.dev ∧ t.module_ = s.module_ ∧ t.net = s.net ∧ t.time = s.time ∧ t.free = s.free

@[simp] abbrev OnlyCtxsHostQuillOut (t s : State) : Prop :=
  t.pending = s.pending ∧ t.cores = s.cores ∧ t.clusters = s.clusters ∧ t.parts = s.parts ∧ t.store = s.store ∧ t.bulk = s.bulk ∧ t.dev = s.dev ∧ t.fabric = s.fabric ∧ t.module_ = s.module_ ∧ t.net = s.net ∧ t.time = s.time ∧ t.free = s.free

@[simp] abbrev OnlyCtxsHostQuillFabricOut (t s : State) : Prop :=
  t.pending = s.pending ∧ t.cores = s.cores ∧ t.clusters = s.clusters ∧ t.parts = s.parts ∧ t.store = s.store ∧ t.bulk = s.bulk ∧ t.dev = s.dev ∧ t.module_ = s.module_ ∧ t.net = s.net ∧ t.time = s.time ∧ t.free = s.free

@[simp] abbrev OnlyPartsOut (t s : State) : Prop :=
  t.pending = s.pending ∧ t.cores = s.cores ∧ t.clusters = s.clusters ∧ t.ctxs = s.ctxs ∧ t.store = s.store ∧ t.bulk = s.bulk ∧ t.host = s.host ∧ t.dev = s.dev ∧ t.quill = s.quill ∧ t.fabric = s.fabric ∧ t.module_ = s.module_ ∧ t.net = s.net ∧ t.time = s.time ∧ t.free = s.free

@[simp] abbrev OnlyCtxsOut (t s : State) : Prop :=
  t.pending = s.pending ∧ t.cores = s.cores ∧ t.clusters = s.clusters ∧ t.parts = s.parts ∧ t.store = s.store ∧ t.bulk = s.bulk ∧ t.host = s.host ∧ t.dev = s.dev ∧ t.quill = s.quill ∧ t.fabric = s.fabric ∧ t.module_ = s.module_ ∧ t.net = s.net ∧ t.time = s.time ∧ t.free = s.free

@[simp] abbrev OnlyModuleOut (t s : State) : Prop :=
  t.pending = s.pending ∧ t.cores = s.cores ∧ t.clusters = s.clusters ∧ t.parts = s.parts ∧ t.ctxs = s.ctxs ∧ t.store = s.store ∧ t.bulk = s.bulk ∧ t.host = s.host ∧ t.dev = s.dev ∧ t.quill = s.quill ∧ t.fabric = s.fabric ∧ t.net = s.net ∧ t.time = s.time ∧ t.free = s.free

@[simp] abbrev OnlyClustersCtxsBulkHostDevQuillFabricModuleOut (t s : State) : Prop :=
  t.pending = s.pending ∧ t.cores = s.cores ∧ t.parts = s.parts ∧ t.store = s.store ∧ t.net = s.net ∧ t.time = s.time ∧ t.free = s.free

@[simp] abbrev OnlyCoresClustersCtxsBulkHostDevQuillFabricModuleOut (t s : State) : Prop :=
  t.pending = s.pending ∧ t.parts = s.parts ∧ t.store = s.store ∧ t.net = s.net ∧ t.time = s.time ∧ t.free = s.free

@[simp] abbrev OnlyCoresClustersPartsCtxsStoreBulkHostDevQuillFabricModuleNetOutFree (t s : State) : Prop :=
  t.pending = s.pending ∧ t.time = s.time

@[simp] abbrev OnlyCoresFree (t s : State) : Prop :=
  t.pending = s.pending ∧ t.clusters = s.clusters ∧ t.parts = s.parts ∧ t.ctxs = s.ctxs ∧ t.store = s.store ∧ t.bulk = s.bulk ∧ t.host = s.host ∧ t.dev = s.dev ∧ t.quill = s.quill ∧ t.fabric = s.fabric ∧ t.module_ = s.module_ ∧ t.net = s.net ∧ t.time = s.time ∧ t.out = s.out

@[simp] abbrev OnlyCoresClustersPartsCtxsStoreHostQuillFabricModuleNetOutFree (t s : State) : Prop :=
  t.pending = s.pending ∧ t.bulk = s.bulk ∧ t.dev = s.dev ∧ t.time = s.time

@[simp] abbrev OnlyStoreBulkHostOut (t s : State) : Prop :=
  t.pending = s.pending ∧ t.cores = s.cores ∧ t.clusters = s.clusters ∧ t.parts = s.parts ∧ t.ctxs = s.ctxs ∧ t.dev = s.dev ∧ t.quill = s.quill ∧ t.fabric = s.fabric ∧ t.module_ = s.module_ ∧ t.net = s.net ∧ t.time = s.time ∧ t.free = s.free

@[simp] abbrev OnlyPending (t s : State) : Prop :=
  t.cores = s.cores ∧ t.clusters = s.clusters ∧ t.parts = s.parts ∧ t.ctxs = s.ctxs ∧ t.store = s.store ∧ t.bulk = s.bulk ∧ t.host = s.host ∧ t.dev = s.dev ∧ t.quill = s.quill ∧ t.fabric = s.fabric ∧ t.module_ = s.module_ ∧ t.net = s.net ∧ t.time = s.time ∧ t.out = s.out ∧ t.free = s.free

end Sys2Proof.Machine
end

