-- ==== Sys2Proof/Laws/Ops.lean ====
section
/-!
SUPPORT. For each function of Machine/Ops.lean that answers a state: the fields it leaves as they were.
-/
namespace Sys2Proof.Machine
@[simp] theorem State.setCore_frame (s : State) (n : Nat) (c : Core) :
    OnlyCores (State.setCore s n c) s := by
  unfold State.setCore
  repeat' split
  all_goals simp [*]

@[simp] theorem State.modCore_frame (s : State) (n : Nat) (f : Core → Core) :
    OnlyCores (State.modCore s n f) s := by
  unfold State.modCore
  repeat' split
  all_goals simp [*]

@[simp] theorem State.modCluster_frame (s : State) (k : Nat) (f : Cluster → Cluster) :
    OnlyClusters (State.modCluster s k f) s := by
  unfold State.modCluster
  repeat' split
  all_goals simp [*]

@[simp] theorem State.modPart_frame (s : State) (p : Nat) (f : Part → Part) :
    OnlyParts (State.modPart s p f) s := by
  unfold State.modPart
  repeat' split
  all_goals simp [*]

@[simp] theorem State.modCtx_frame (s : State) (c : Nat) (f : Ctx → Ctx) :
    OnlyCtxs (State.modCtx s c f) s := by
  unfold State.modCtx
  repeat' split
  all_goals simp [*]

@[simp] theorem State.modLife_frame (s : State) (c : Nat) (f : CtxLife → CtxLife) :
    OnlyCtxs (State.modLife s c f) s := by
  unfold State.modLife
  repeat' split
  all_goals simp [*]

@[simp] theorem State.modRun_frame (s : State) (c : Nat) (f : CtxRun → CtxRun) :
    OnlyCtxs (State.modRun s c f) s := by
  unfold State.modRun
  repeat' split
  all_goals simp [*]

@[simp] theorem State.modFn_frame (s : State) (f : Nat) (g : Fn → Fn) :
    OnlyHost (State.modFn s f g) s := by
  unfold State.modFn
  repeat' split
  all_goals simp [*]

@[simp] theorem State.modQp_frame (s : State) (f n : Nat) (g : Qp → Qp) :
    OnlyHost (State.modQp s f n g) s := by
  unfold State.modQp
  repeat' split
  all_goals simp [*]

@[simp] theorem State.modMc_frame (s : State) (m : Nat) (f : Mc → Mc) :
    OnlyBulk (State.modMc s m f) s := by
  unfold State.modMc
  repeat' split
  all_goals simp [*]

@[simp] theorem State.modSlot_frame (s : State) (n : Nat) (f : Slot → Slot) :
    OnlyBulk (State.modSlot s n f) s := by
  unfold State.modSlot
  repeat' split
  all_goals simp [*]

@[simp] theorem State.modQuill_frame (s : State) (f : Quill → Quill) :
    OnlyQuill (State.modQuill s f) s := by
  unfold State.modQuill
  repeat' split
  all_goals simp [*]

@[simp] theorem State.modQPart_frame (s : State) (p : Nat) (f : QPart → QPart) :
    OnlyQuill (State.modQPart s p f) s := by
  unfold State.modQPart
  repeat' split
  all_goals simp [*]

@[simp] theorem State.modCare_frame (s : State) (n : Nat) (f : CoreCare → CoreCare) :
    OnlyQuill (State.modCare s n f) s := by
  unfold State.modCare
  repeat' split
  all_goals simp [*]

@[simp] theorem State.modCorrected_frame (s : State) (p : Nat) (f : Corrected → Corrected) :
    OnlyQuill (State.modCorrected s p f) s := by
  unfold State.modCorrected
  repeat' split
  all_goals simp [*]

@[simp] theorem State.modCtl_frame (s : State) (n : Nat) (f : CoreCtl → CoreCtl) :
    OnlyCores (State.modCtl s n f) s := by
  unfold State.modCtl
  repeat' split
  all_goals simp [*]

@[simp] theorem State.modRegs_frame (s : State) (n : Nat) (f : CoreRegs → CoreRegs) :
    OnlyCores (State.modRegs s n f) s := by
  unfold State.modRegs
  repeat' split
  all_goals simp [*]

@[simp] theorem State.modEng_frame (s : State) (n : Nat) (f : CoreEng → CoreEng) :
    OnlyCores (State.modEng s n f) s := by
  unfold State.modEng
  repeat' split
  all_goals simp [*]

@[simp] theorem State.modErrs_frame (s : State) (n : Nat) (f : CoreErrs → CoreErrs) :
    OnlyCores (State.modErrs s n f) s := by
  unfold State.modErrs
  repeat' split
  all_goals simp [*]

@[simp] theorem State.modSteer_frame (s : State) (n : Nat) (f : CoreSteer → CoreSteer) :
    OnlyCores (State.modSteer s n f) s := by
  unfold State.modSteer
  repeat' split
  all_goals simp [*]

@[simp] theorem State.modQs_frame (s : State) (n : Nat) (f : CoreQueues → CoreQueues) :
    OnlyCores (State.modQs s n f) s := by
  unfold State.modQs
  repeat' split
  all_goals simp [*]

@[simp] theorem State.modTe_frame (s : State) (n : Nat) (f : CoreTe → CoreTe) :
    OnlyCores (State.modTe s n f) s := by
  unfold State.modTe
  repeat' split
  all_goals simp [*]

@[simp] theorem State.modRouter_frame (s : State) (k : Nat) (f : Router → Router) :
    OnlyClusters (State.modRouter s k f) s := by
  unfold State.modRouter
  repeat' split
  all_goals simp [*]

@[simp] theorem State.modInk_frame (s : State) (k : Nat) (f : Ink → Ink) :
    OnlyClusters (State.modInk s k f) s := by
  unfold State.modInk
  repeat' split
  all_goals simp [*]

@[simp] theorem State.modStroke_frame (s : State) (p : Nat) (f : Stroke → Stroke) :
    OnlyParts (State.modStroke s p f) s := by
  unfold State.modStroke
  repeat' split
  all_goals simp [*]

@[simp] theorem State.modEpoch_frame (s : State) (p : Nat) (f : Epoch → Epoch) :
    OnlyParts (State.modEpoch s p f) s := by
  unfold State.modEpoch
  repeat' split
  all_goals simp [*]

@[simp] theorem State.modReports_frame (s : State) (p : Nat) (f : Reports → Reports) :
    OnlyParts (State.modReports s p f) s := by
  unfold State.modReports
  repeat' split
  all_goals simp [*]

@[simp] theorem State.modPort_frame (s : State) (f : Nat) (g : Port → Port) :
    OnlyFabric (State.modPort s f g) s := by
  unfold State.modPort
  repeat' split
  all_goals simp [*]

@[simp] theorem State.modWindow_frame (s : State) (w : Nat) (g : Window → Window) :
    OnlyFabric (State.modWindow s w g) s := by
  unfold State.modWindow
  repeat' split
  all_goals simp [*]

@[simp] theorem State.modRing_frame (s : State) (r : Nat) (g : RingSt → RingSt) :
    OnlyFabric (State.modRing s r g) s := by
  unfold State.modRing
  repeat' split
  all_goals simp [*]

@[simp] theorem State.modFabCnt_frame (s : State) (g : FabCnt → FabCnt) :
    OnlyFabric (State.modFabCnt s g) s := by
  unfold State.modFabCnt
  repeat' split
  all_goals simp [*]

@[simp] theorem State.modFabCfg_frame (s : State) (g : FabCfg → FabCfg) :
    OnlyFabric (State.modFabCfg s g) s := by
  unfold State.modFabCfg
  repeat' split
  all_goals simp [*]

@[simp] theorem State.modClock_frame (s : State) (g : Clock → Clock) :
    OnlyModule (State.modClock s g) s := by
  unfold State.modClock
  repeat' split
  all_goals simp [*]

@[simp] theorem State.modRegion_frame (s : State) (r : Nat) (g : Region → Region) :
    OnlyModule (State.modRegion s r g) s := by
  unfold State.modRegion
  repeat' split
  all_goals simp [*]

@[simp] theorem State.modPower_frame (s : State) (g : Power → Power) :
    OnlyModule (State.modPower s g) s := by
  unfold State.modPower
  repeat' split
  all_goals simp [*]

@[simp] theorem State.modIdent_frame (s : State) (g : Ident → Ident) :
    OnlyModule (State.modIdent s g) s := by
  unfold State.modIdent
  repeat' split
  all_goals simp [*]

@[simp] theorem State.modEntry_frame (s : State) (g : Entry → Entry) :
    OnlyModule (State.modEntry s g) s := by
  unfold State.modEntry
  repeat' split
  all_goals simp [*]

@[simp] theorem State.modMeter_frame (s : State) (g : Meter → Meter) :
    OnlyModule (State.modMeter s g) s := by
  unfold State.modMeter
  repeat' split
  all_goals simp [*]

@[simp] theorem State.modEm_frame (s : State) (g : EmRegs → EmRegs) :
    OnlyModule (State.modEm s g) s := by
  unfold State.modEm
  repeat' split
  all_goals simp [*]

@[simp] theorem State.sendNet_frame (s : State) (m : NetMsg) :
    OnlyNet (State.sendNet s m) s := by
  unfold State.sendNet
  repeat' split
  all_goals simp [*]

@[simp] theorem State.emit_frame (s : State) (o : Out) :
    OnlyOut (State.emit s o) s := by
  unfold State.emit
  repeat' split
  all_goals simp [*]

@[simp] theorem State.draw_frame (s : State) :
    OnlyFree (State.draw s) s := by
  unfold State.draw
  repeat' split
  all_goals simp [*]

@[simp] theorem State.write_frame (s : State) (a : Nat) (bs : List Byte) (blot : Bool) :
    OnlyStore (State.write s a bs blot) s := by
  unfold State.write
  repeat' split
  all_goals simp [*]

end Sys2Proof.Machine
end

