-- ==== Sys2Proof/Laws/Links.lean ====
section
/-!
SUPPORT. For each function of Machine/Links.lean that answers a state: the fields it leaves as they were.
-/
namespace Sys2Proof.Machine
@[simp] theorem State.modLink_frame (s : State) (p : Nat) (g : Link → Link) :
    OnlyFabric (State.modLink s p g) s := by
  unfold State.modLink
  repeat' split
  all_goals simp [*]

@[simp] theorem State.drainList_frame (s : State) (p : Nat) (stuck : List Nat) (l : List FabricFlit) :
    OnlyFabricOut (State.drainList s p stuck l) s := by
  induction l generalizing s stuck with
  | nil => simp [State.drainList]
  | cons f r ih =>
    unfold State.drainList
    dsimp only
    split <;> simp_all

@[simp] theorem State.drainLink_frame (s : State) (p : Nat) :
    OnlyFabricOut (State.drainLink s p) s := by
  unfold State.drainLink
  repeat' split
  all_goals simp [*]

@[simp] theorem State.sendFlit_frame (s : State) (p : Nat) (f : FabricFlit) :
    OnlyFabricOut (State.sendFlit s p f) s := by
  unfold State.sendFlit
  repeat' split
  all_goals simp [*]

@[simp] theorem State.sendLink_frame (s : State) (p : Nat) (kind : BitVec 4) (b : List Byte) (o : Out) :
    OnlyFabricOut (State.sendLink s p kind b o) s := by
  unfold State.sendLink
  repeat' split
  all_goals simp [*]

@[simp] theorem State.takeTrailer_frame (s : State) (p : Nat) (f : FabricFlit) :
    OnlyFabricOut (State.takeTrailer s p f) s := by
  unfold State.takeTrailer
  repeat' split
  all_goals simp [*]

@[simp] theorem State.takeSeq_frame (s : State) (p : Nat) (f : FabricFlit) :
    OnlyFabric (State.takeSeq s p f) s := by
  unfold State.takeSeq
  repeat' split
  all_goals simp [*]

@[simp] theorem State.oweCredit_frame (s : State) (p : Nat) (f : FabricFlit) :
    OnlyFabric (State.oweCredit s p f) s := by
  unfold State.oweCredit
  repeat' split
  all_goals simp [*]

@[simp] theorem State.takeNext_frame (s : State) (p : Nat) :
    OnlyFabric (State.takeNext s p) s := by
  unfold State.takeNext
  repeat' split
  all_goals simp [*]

@[simp] theorem State.receiveFlit_pending (s : State) (p : Nat) (f : FabricFlit) (body : State → State) (hbody : ∀ x0 y, y = body x0 → y.pending = x0.pending) :
    (State.receiveFlit s p f body).pending = s.pending := by
  have gbody := fun x0 => hbody x0 _ rfl
  unfold State.receiveFlit
  repeat' split
  all_goals simp [*]

@[simp] theorem State.receiveFlit_cores (s : State) (p : Nat) (f : FabricFlit) (body : State → State) (hbody : ∀ x0 y, y = body x0 → y.cores = x0.cores) :
    (State.receiveFlit s p f body).cores = s.cores := by
  have gbody := fun x0 => hbody x0 _ rfl
  unfold State.receiveFlit
  repeat' split
  all_goals simp [*]

@[simp] theorem State.receiveFlit_clusters (s : State) (p : Nat) (f : FabricFlit) (body : State → State) (hbody : ∀ x0 y, y = body x0 → y.clusters = x0.clusters) :
    (State.receiveFlit s p f body).clusters = s.clusters := by
  have gbody := fun x0 => hbody x0 _ rfl
  unfold State.receiveFlit
  repeat' split
  all_goals simp [*]

@[simp] theorem State.receiveFlit_parts (s : State) (p : Nat) (f : FabricFlit) (body : State → State) (hbody : ∀ x0 y, y = body x0 → y.parts = x0.parts) :
    (State.receiveFlit s p f body).parts = s.parts := by
  have gbody := fun x0 => hbody x0 _ rfl
  unfold State.receiveFlit
  repeat' split
  all_goals simp [*]

@[simp] theorem State.receiveFlit_ctxs (s : State) (p : Nat) (f : FabricFlit) (body : State → State) (hbody : ∀ x0 y, y = body x0 → y.ctxs = x0.ctxs) :
    (State.receiveFlit s p f body).ctxs = s.ctxs := by
  have gbody := fun x0 => hbody x0 _ rfl
  unfold State.receiveFlit
  repeat' split
  all_goals simp [*]

@[simp] theorem State.receiveFlit_store (s : State) (p : Nat) (f : FabricFlit) (body : State → State) (hbody : ∀ x0 y, y = body x0 → y.store = x0.store) :
    (State.receiveFlit s p f body).store = s.store := by
  have gbody := fun x0 => hbody x0 _ rfl
  unfold State.receiveFlit
  repeat' split
  all_goals simp [*]

@[simp] theorem State.receiveFlit_bulk (s : State) (p : Nat) (f : FabricFlit) (body : State → State) (hbody : ∀ x0 y, y = body x0 → y.bulk = x0.bulk) :
    (State.receiveFlit s p f body).bulk = s.bulk := by
  have gbody := fun x0 => hbody x0 _ rfl
  unfold State.receiveFlit
  repeat' split
  all_goals simp [*]

@[simp] theorem State.receiveFlit_host (s : State) (p : Nat) (f : FabricFlit) (body : State → State) (hbody : ∀ x0 y, y = body x0 → y.host = x0.host) :
    (State.receiveFlit s p f body).host = s.host := by
  have gbody := fun x0 => hbody x0 _ rfl
  unfold State.receiveFlit
  repeat' split
  all_goals simp [*]

@[simp] theorem State.receiveFlit_dev (s : State) (p : Nat) (f : FabricFlit) (body : State → State) (hbody : ∀ x0 y, y = body x0 → y.dev = x0.dev) :
    (State.receiveFlit s p f body).dev = s.dev := by
  have gbody := fun x0 => hbody x0 _ rfl
  unfold State.receiveFlit
  repeat' split
  all_goals simp [*]

@[simp] theorem State.receiveFlit_quill (s : State) (p : Nat) (f : FabricFlit) (body : State → State) (hbody : ∀ x0 y, y = body x0 → y.quill = x0.quill) :
    (State.receiveFlit s p f body).quill = s.quill := by
  have gbody := fun x0 => hbody x0 _ rfl
  unfold State.receiveFlit
  repeat' split
  all_goals simp [*]

@[simp] theorem State.receiveFlit_module_ (s : State) (p : Nat) (f : FabricFlit) (body : State → State) (hbody : ∀ x0 y, y = body x0 → y.module_ = x0.module_) :
    (State.receiveFlit s p f body).module_ = s.module_ := by
  have gbody := fun x0 => hbody x0 _ rfl
  unfold State.receiveFlit
  repeat' split
  all_goals simp [*]

@[simp] theorem State.receiveFlit_net (s : State) (p : Nat) (f : FabricFlit) (body : State → State) (hbody : ∀ x0 y, y = body x0 → y.net = x0.net) :
    (State.receiveFlit s p f body).net = s.net := by
  have gbody := fun x0 => hbody x0 _ rfl
  unfold State.receiveFlit
  repeat' split
  all_goals simp [*]

@[simp] theorem State.receiveFlit_time (s : State) (p : Nat) (f : FabricFlit) (body : State → State) (hbody : ∀ x0 y, y = body x0 → y.time = x0.time) :
    (State.receiveFlit s p f body).time = s.time := by
  have gbody := fun x0 => hbody x0 _ rfl
  unfold State.receiveFlit
  repeat' split
  all_goals simp [*]

@[simp] theorem State.receiveFlit_free (s : State) (p : Nat) (f : FabricFlit) (body : State → State) (hbody : ∀ x0 y, y = body x0 → y.free = x0.free) :
    (State.receiveFlit s p f body).free = s.free := by
  have gbody := fun x0 => hbody x0 _ rfl
  unfold State.receiveFlit
  repeat' split
  all_goals simp [*]

end Sys2Proof.Machine
end

