-- ==== Sys2Proof/Laws/LocalStore.lean ====
section
/-!
SUPPORT. For each function of Machine/LocalStore.lean that answers a state: the fields it leaves as they were.
-/
namespace Sys2Proof.Machine
@[simp] theorem State.modLocal_frame (s : State) (n : Nat) (f : CoreLs → CoreLs) :
    OnlyCores (State.modLocal s n f) s := by
  unfold State.modLocal
  repeat' split
  all_goals simp [*]

@[simp] theorem State.lsPut_frame (s : State) (n cycle port addr : Nat) (bytes : List Byte) (blot : Bool) :
    OnlyCores (State.lsPut s n cycle port addr bytes blot) s := by
  unfold State.lsPut
  repeat' split
  all_goals simp [*]

@[simp] theorem State.lsStore_frame (s : State) (n t d port addr : Nat) (bytes : List Byte) (blot : Bool) :
    OnlyCores (State.lsStore s n t d port addr bytes blot) s := by
  unfold State.lsStore
  repeat' split
  all_goals simp [*]

@[simp] theorem State.lsPutUnits_frame (s : State) (n cycle port addr : Nat) (us : List (List Byte × Bool)) :
    OnlyCores (State.lsPutUnits s n cycle port addr us) s := by
  unfold State.lsPutUnits
  repeat' split
  all_goals simp [*]

@[simp] theorem State.meSettle_frame (s : State) (n : Nat) :
    OnlyCores (State.meSettle s n) s := by
  unfold State.meSettle
  repeat' split
  all_goals simp [*]

@[simp] theorem State.lsTick_frame (s : State) (n c : Nat) :
    OnlyCoresStore (State.lsTick s n c) s := by
  unfold State.lsTick
  repeat' split
  all_goals simp [*]

@[simp] theorem State.loadSettle_frame (s : State) (n : Nat) :
    OnlyCores (State.loadSettle s n) s := by
  unfold State.loadSettle
  repeat' split
  all_goals simp [*]

@[simp] theorem State.dropWrites_frame (s : State) (n c : Nat) :
    OnlyCores (State.dropWrites s n c) s := by
  unfold State.dropWrites
  repeat' split
  all_goals simp [*]

@[simp] theorem State.lsSettle_frame (s : State) (n : Nat) :
    OnlyCoresStore (State.lsSettle s n) s := by
  unfold State.lsSettle
  repeat' split
  all_goals simp [*]

end Sys2Proof.Machine
end

