-- ==== Sys2Proof/Laws/Records.lean ====
section
/-!
SUPPORT. For each function of Machine/Records.lean that answers a state: the fields it leaves as they were.
-/
namespace Sys2Proof.Machine
@[simp] theorem State.writeRec_frame (s : State) (type index signer flags : Nat) (body : List Byte) :
    OnlyModule (State.writeRec s type index signer flags body) s := by
  unfold State.writeRec
  repeat' split
  all_goals simp [*]

@[simp] theorem State.fieldLog_frame (s : State) (r : List Byte) :
    OnlyModule (State.fieldLog s r) s := by
  unfold State.fieldLog
  repeat' split
  all_goals simp [*]

@[simp] theorem State.saveHealth_frame (s : State) :
    OnlyModule (State.saveHealth s) s := by
  unfold State.saveHealth
  repeat' split
  all_goals simp [*]

end Sys2Proof.Machine
end

