-- ==== Sys2Proof/Laws/Events.lean ====
section
/-!
SUPPORT. For each function of Machine/Events.lean that answers a state: the fields it leaves as they were.
-/
namespace Sys2Proof.Machine
@[simp] theorem State.ringWrite_frame (s : State) (f : Nat) (r : List Byte) :
    OnlyHostOut (State.ringWrite s f r) s := by
  unfold State.ringWrite
  repeat' split
  all_goals simp [*]

@[simp] theorem State.toRing_frame (s : State) (f : Nat) (r : List Byte) :
    OnlyHostOut (State.toRing s f r) s := by
  unfold State.toRing
  repeat' split
  all_goals simp [*]

@[simp] theorem State.toBc_frame (s : State) (r : List Byte) :
    OnlyHostOut (State.toBc s r) s := by
  unfold State.toBc
  repeat' split
  all_goals simp [*]

@[simp] theorem State.deliverEvent_frame (s : State) (code sev : Nat) (r : List Byte) (p : Option Nat) :
    OnlyHostModuleOut (State.deliverEvent s code sev r p) s := by
  unfold State.deliverEvent
  repeat' split
  all_goals simp [*]

@[simp] theorem State.post_frame (s : State) (code sev src : Nat) (payload : List (Nat × Nat × Nat)) (p : Option Nat) :
    OnlyHostQuillModuleOut (State.post s code sev src payload p) s := by
  unfold State.post
  repeat' split
  all_goals simp [*]

@[simp] theorem State.postNote_frame (s : State) (f : Nat) (b : List Byte) (opcode : Nat) :
    OnlyHostOut (State.postNote s f b opcode) s := by
  unfold State.postNote
  repeat' split
  all_goals simp [*]

@[simp] theorem State.postNotes_frame (s : State) (f : Nat) (b : List Byte) (note : Option Nat) :
    OnlyHostOut (State.postNotes s f b note) s := by
  unfold State.postNotes
  repeat' split
  all_goals simp [*]

@[simp] theorem State.cqPut_frame (s : State) (f n : Nat) (b : List Byte) :
    OnlyHostOut (State.cqPut s f n b) s := by
  unfold State.cqPut
  repeat' split
  all_goals simp [*]

@[simp] theorem State.writeCqWith_frame (s : State) (h : Hdr) (st : Status) (result : Nat) (data : List Byte) (note : Option Nat) :
    OnlyHostOut (State.writeCqWith s h st result data note) s := by
  unfold State.writeCqWith
  repeat' split
  all_goals simp [*]

@[simp] theorem State.writeCq_frame (s : State) (h : Hdr) (st : Status) (result : Nat) :
    OnlyHostOut (State.writeCq s h st result) s := by
  unfold State.writeCq
  repeat' split
  all_goals simp [*]

@[simp] theorem State.completeJob_frame (s : State) (h : Hdr) (opcode job : Nat) (st : Status) (result : Nat) (data : List Byte) :
    OnlyHostOut (State.completeJob s h opcode job st result data) s := by
  unfold State.completeJob
  repeat' split
  all_goals simp [*]

@[simp] theorem State.completeWith_frame (s : State) (h : Hdr) (opcode : Nat) (st : Status) (result : Nat) (data : List Byte) :
    OnlyHostOut (State.completeWith s h opcode st result data) s := by
  unfold State.completeWith
  repeat' split
  all_goals simp [*]

@[simp] theorem State.toHost_frame (s : State) (f a : Nat) (b : List Byte) :
    OnlyHostOut (State.toHost s f a b) s := by
  unfold State.toHost
  repeat' split
  all_goals simp [*]

@[simp] theorem State.complete_frame (s : State) (h : Hdr) (opcode : Nat) (st : Status) (result : Nat) :
    OnlyHostOut (State.complete s h opcode st result) s := by
  unfold State.complete
  repeat' split
  all_goals simp [*]

@[simp] theorem State.addJob_frame (s : State) (h : Hdr) (opcode : Nat) (c : Instr) (value : Nat) :
    OnlyHost (State.addJob s h opcode c value) s := by
  unfold State.addJob
  repeat' split
  all_goals simp [*]

@[simp] theorem State.deferJob_frame (s : State) (h : Hdr) (opcode : Nat) (c : Instr) (value : Nat) :
    OnlyHostOut (State.deferJob s h opcode c value) s := by
  unfold State.deferJob
  repeat' split
  all_goals simp [*]

@[simp] theorem State.dropJob_frame (s : State) (id : Nat) :
    OnlyHost (State.dropJob s id) s := by
  unfold State.dropJob
  repeat' split
  all_goals simp [*]

@[simp] theorem State.finish_frame (s : State) (id : Nat) (st : Status) (result : Nat) :
    OnlyHostOut (State.finish s id st result) s := by
  unfold State.finish
  repeat' split
  all_goals simp [*]

@[simp] theorem State.releaseCores_frame (s : State) (c : Nat) :
    OnlyCoresStore (State.releaseCores s c) s := by
  unfold State.releaseCores
  repeat' split
  all_goals simp [*]

@[simp] theorem State.finishAll_frame (s : State) (ids : List Nat) (st : Status) (result : Nat) :
    OnlyHostOut (State.finishAll s ids st result) s := by
  unfold State.finishAll
  repeat' split
  all_goals simp [*]

@[simp] theorem State.stopRings_frame (s : State) (c : Nat) :
    OnlyFabric (State.stopRings s c) s := by
  unfold State.stopRings
  repeat' split
  all_goals simp [*]

@[simp] theorem State.endWindows_frame (s : State) (c : Nat) :
    OnlyFabric (State.endWindows s c) s := by
  unfold State.endWindows
  repeat' split
  all_goals simp [*]

@[simp] theorem State.endPending_frame (s : State) (c : Nat) (result : Nat) :
    OnlyPartsCtxsHostFabricOut (State.endPending s c result) s := by
  unfold State.endPending OnlyPartsCtxsHostFabricOut
  try dsimp only
  and_intros
  all_goals
    repeat' first
      | (with_reducible rfl)
      | split
      | (simp (disch := ((try intros); (try subst_vars); (repeat' split) <;> try simp)); done)
      | (apply foldl_pending <;> (intros; try subst_vars; try dsimp only)) | (apply foldl_cores <;> (intros; try subst_vars; try dsimp only)) | (apply foldl_clusters <;> (intros; try subst_vars; try dsimp only)) | (apply foldl_store <;> (intros; try subst_vars; try dsimp only)) | (apply foldl_bulk <;> (intros; try subst_vars; try dsimp only)) | (apply foldl_dev <;> (intros; try subst_vars; try dsimp only)) | (apply foldl_quill <;> (intros; try subst_vars; try dsimp only)) | (apply foldl_module_ <;> (intros; try subst_vars; try dsimp only)) | (apply foldl_net <;> (intros; try subst_vars; try dsimp only)) | (apply foldl_time <;> (intros; try subst_vars; try dsimp only)) | (apply foldl_free <;> (intros; try subst_vars; try dsimp only))
      | simp

@[simp] theorem State.sendLs_frame (s : State) (b : List Byte) :
    OnlyFabricOut (State.sendLs s b) s := by
  unfold State.sendLs
  repeat' split
  all_goals simp [*]

@[simp] theorem State.endCompare_frame (s : State) (c type : Nat) :
    OnlyCtxsQuillFabricOut (State.endCompare s c type) s := by
  unfold State.endCompare
  repeat' split
  all_goals simp [*]

@[simp] theorem State.unpause_frame (s : State) (c : Nat) :
    OnlyParts (State.unpause s c) s := by
  unfold State.unpause
  repeat' split
  all_goals simp [*]

@[simp] theorem State.kill_frame (s : State) (c level src : Nat) (payload : List (Nat × Nat × Nat)) :
    OnlyCoresPartsCtxsStoreHostQuillFabricModuleOut (State.kill s c level src payload) s := by
  unfold State.kill
  repeat' split
  all_goals simp [*]

end Sys2Proof.Machine
end

