-- ==== Sys2Proof/Laws/Health.lean ====
section
/-!
SUPPORT. For each function of Machine/Health.lean that answers a state: the fields it leaves as they were.
-/
namespace Sys2Proof.Machine
@[simp] theorem State.moraineAppend_frame (s : State) (kind : Nat) (body : List (Nat × Nat × Nat)) :
    OnlyHostQuillModuleOut (State.moraineAppend s kind body) s := by
  unfold State.moraineAppend
  repeat' split
  all_goals simp [*]

@[simp] theorem State.postService_frame (s : State) (object index old new score cause : Nat) :
    OnlyHostQuillModuleOut (State.postService s object index old new score cause) s := by
  unfold State.postService
  repeat' split
  all_goals simp [*]

@[simp] theorem State.modHealth_frame (s : State) (f : Health → Health) :
    OnlyQuill (State.modHealth s f) s := by
  unfold State.modHealth
  repeat' split
  all_goals simp [*]

@[simp] theorem State.scoreService_frame (s : State) :
    OnlyHostQuillModuleOut (State.scoreService s) s := by
  unfold State.scoreService
  repeat' split
  all_goals simp [*]

@[simp] theorem State.scoreDrop_frame (s : State) (n : Nat) :
    OnlyHostQuillModuleOut (State.scoreDrop s n) s := by
  unfold State.scoreDrop
  repeat' split
  all_goals simp [*]

@[simp] theorem State.scoreRise_frame (s : State) (n : Nat) :
    OnlyHostQuillModuleOut (State.scoreRise s n) s := by
  unfold State.scoreRise
  repeat' split
  all_goals simp [*]

@[simp] theorem State.fenceAs_frame (s : State) (n cause level : Nat) :
    OnlyCoresPartsCtxsStoreHostQuillFabricModuleOut (State.fenceAs s n cause level) s := by
  unfold State.fenceAs OnlyCoresPartsCtxsStoreHostQuillFabricModuleOut
  try dsimp only
  and_intros
  all_goals
    repeat' first
      | (with_reducible rfl)
      | split
      | (simp (disch := ((try intros); (try subst_vars); (repeat' split) <;> try simp)); done)
      | (apply foldl_pending <;> (intros; try subst_vars; try dsimp only)) | (apply foldl_clusters <;> (intros; try subst_vars; try dsimp only)) | (apply foldl_bulk <;> (intros; try subst_vars; try dsimp only)) | (apply foldl_dev <;> (intros; try subst_vars; try dsimp only)) | (apply foldl_net <;> (intros; try subst_vars; try dsimp only)) | (apply foldl_time <;> (intros; try subst_vars; try dsimp only)) | (apply foldl_free <;> (intros; try subst_vars; try dsimp only))
      | simp

@[simp] theorem State.fenceCore_frame (s : State) (n cause : Nat) :
    OnlyCoresPartsCtxsStoreHostQuillFabricModuleOut (State.fenceCore s n cause) s := by
  unfold State.fenceCore
  repeat' split
  all_goals simp [*]

@[simp] theorem State.countError_frame (s : State) (n level kind : Nat) :
    OnlyCoresPartsCtxsStoreHostQuillFabricModuleOut (State.countError s n level kind) s := by
  unfold State.countError
  repeat' split
  all_goals simp [*]

@[simp] theorem State.fenceRouter_frame (s : State) (k cause : Nat) :
    OnlyClustersHostQuillModuleOut (State.fenceRouter s k cause) s := by
  unfold State.fenceRouter
  repeat' split
  all_goals simp [*]

end Sys2Proof.Machine
end

