-- ==== Sys2Proof/Laws/CoreFault.lean ====
section
/-!
SUPPORT. For each function of Machine/CoreFault.lean that answers a state: the fields it leaves as they were.
-/
namespace Sys2Proof.Machine
@[simp] theorem State.coreFault_frame (s : State) (n t : Nat) (e : CoreError) (multi : Bool) :
    OnlyCoresPartsCtxsStoreHostQuillFabricModuleOut (State.coreFault s n t e multi) s := by
  unfold State.coreFault OnlyCoresPartsCtxsStoreHostQuillFabricModuleOut
  try dsimp only
  and_intros
  all_goals
    repeat' first
      | (with_reducible rfl)
      | split
      | (simp (disch := ((try intros); (try subst_vars); (repeat' split) <;> try simp)); done)
      | (apply foldl_pending <;> (intros; try subst_vars; try dsimp only)) | (apply foldl_clusters <;> (intros; try subst_vars; try dsimp only)) | (apply foldl_bulk <;> (intros; try subst_vars; try dsimp only)) | (apply foldl_dev <;> (intros; try subst_vars; try dsimp only)) | (apply foldl_net <;> (intros; try subst_vars; try dsimp only)) | (apply foldl_time <;> (intros; try subst_vars; try dsimp only)) | (apply foldl_free <;> (intros; try subst_vars; try dsimp only))
      | simp

@[simp] theorem State.alsoFault_frame (s : State) (n : Nat) (e : CoreError) :
    OnlyCoresPartsCtxsStoreHostQuillFabricModuleOut (State.alsoFault s n e) s := by
  unfold State.alsoFault
  repeat' split
  all_goals simp [*]

@[simp] theorem State.coreErrorIn_frame (s : State) (n t : Nat) (e : CoreError) :
    OnlyCoresPartsCtxsStoreHostQuillFabricModuleOut (State.coreErrorIn s n t e) s := by
  unfold State.coreErrorIn
  repeat' split
  all_goals simp [*]

@[simp] theorem State.coreErrorsIn_frame (s : State) (n t : Nat) (e : CoreError) :
    OnlyCoresPartsCtxsStoreHostQuillFabricModuleOut (State.coreErrorsIn s n t e) s := by
  unfold State.coreErrorsIn
  repeat' split
  all_goals simp [*]

@[simp] theorem State.coreError_frame (s : State) (n : Nat) (e : CoreError) :
    OnlyCoresPartsCtxsStoreHostQuillFabricModuleOut (State.coreError s n e) s := by
  unfold State.coreError
  repeat' split
  all_goals simp [*]

@[simp] theorem State.engineError_frame (s : State) (n : Nat) (e : EngErrKind) (detail : Nat) :
    OnlyCoresPartsCtxsStoreHostQuillFabricModuleOut (State.engineError s n e detail) s := by
  unfold State.engineError OnlyCoresPartsCtxsStoreHostQuillFabricModuleOut
  try dsimp only
  and_intros
  all_goals
    repeat' first
      | (with_reducible rfl)
      | split
      | (simp (disch := ((try intros); (try subst_vars); (repeat' split) <;> try simp)); done)
      | (apply foldl_pending <;> (intros; try subst_vars; try dsimp only)) | (apply foldl_clusters <;> (intros; try subst_vars; try dsimp only)) | (apply foldl_bulk <;> (intros; try subst_vars; try dsimp only)) | (apply foldl_dev <;> (intros; try subst_vars; try dsimp only)) | (apply foldl_net <;> (intros; try subst_vars; try dsimp only)) | (apply foldl_time <;> (intros; try subst_vars; try dsimp only)) | (apply foldl_free <;> (intros; try subst_vars; try dsimp only))
      | simp

@[simp] theorem State.judgeLoad_frame (s : State) (n : Nat) :
    OnlyCoresPartsCtxsStoreHostQuillFabricModuleOut (State.judgeLoad s n) s := by
  unfold State.judgeLoad
  repeat' split
  all_goals simp [*]

end Sys2Proof.Machine
end

