-- ==== Sys2Proof/Laws/Paths.lean ====
section
/-!
SUPPORT. For each function of Machine/Paths.lean that answers a state: the fields it leaves as they were.
-/
namespace Sys2Proof.Machine
@[simp] theorem State.countUnread_frame (s : State) (p n : Nat) :
    OnlyParts (State.countUnread s p n) s := by
  unfold State.countUnread
  repeat' split
  all_goals simp [*]

@[simp] theorem State.launch_frame (s : State) (k : Nat) (origins : List Nat) (sent : Nat) (f : Flit) (w : Spread) :
    OnlyClustersParts (State.launch s k origins sent f w) s := by
  unfold State.launch
  repeat' split
  all_goals simp [*]

@[simp] theorem State.takeFlit_frame (s : State) (n : Nat) (te : Bool) (ch : Nat) (p : Place) :
    OnlyCoresClustersParts (State.takeFlit s n te ch p) s := by
  unfold State.takeFlit
  repeat' split
  all_goals simp [*]

@[simp] theorem State.takeChan_frame (s : State) (n : Nat) (te : Bool) (ch upto : Nat) :
    OnlyCoresClustersParts (State.takeChan s n te ch upto) s := by
  unfold State.takeChan
  repeat' split
  all_goals simp [*]

@[simp] theorem State.takeAll_frame (s : State) (n upto : Nat) :
    OnlyCoresClustersParts (State.takeAll s n upto) s := by
  unfold State.takeAll
  repeat' split
  all_goals simp [*]

@[simp] theorem State.flyCluster_frame (s : State) (k : Nat) :
    OnlyClustersParts (State.flyCluster s k) s := by
  unfold State.flyCluster
  repeat' split
  all_goals simp [*]

end Sys2Proof.Machine
end

