-- ==== Sys2Proof/Laws/Tokens.lean ====
section
/-!
SUPPORT. For each function of Machine/Tokens.lean that answers a state: the fields it leaves as they were.
-/
namespace Sys2Proof.Machine
@[simp] theorem State.countStaleCfg_frame (s : State) (p : Nat) :
    OnlyParts (State.countStaleCfg s p) s := by
  unfold State.countStaleCfg
  repeat' split
  all_goals simp [*]

@[simp] theorem State.countStaleRole_frame (s : State) (p : Nat) :
    OnlyParts (State.countStaleRole s p) s := by
  unfold State.countStaleRole
  repeat' split
  all_goals simp [*]

@[simp] theorem State.countRecvDrop_frame (s : State) (n : Nat) :
    OnlyCoresParts (State.countRecvDrop s n) s := by
  unfold State.countRecvDrop
  repeat' split
  all_goals simp [*]

@[simp] theorem State.countOrphan_frame (s : State) (n chan : Nat) :
    OnlyCoresParts (State.countOrphan s n chan) s := by
  unfold State.countOrphan
  repeat' split
  all_goals simp [*]

@[simp] theorem State.dropStale_frame (s : State) (n : Nat) (e : EpochTest) :
    OnlyCoresParts (State.dropStale s n e) s := by
  unfold State.dropStale
  repeat' split
  all_goals simp [*]

@[simp] theorem State.enqueue_frame (s : State) (n q cycle rank : Nat) (t : Token) :
    OnlyCores (State.enqueue s n q cycle rank t) s := by
  unfold State.enqueue
  repeat' split
  all_goals simp [*]

@[simp] theorem State.deliver_frame (s : State) (n q cycle rank : Nat) (t : Token) (ruled : Bool) :
    OnlyCoresPartsCtxsStoreHostQuillFabricModuleOut (State.deliver s n q cycle rank t ruled) s := by
  unfold State.deliver
  repeat' split
  all_goals simp [*]

@[simp] theorem State.sendFree_frame (s : State) (n chan : Nat) (t : Token) :
    OnlyNet (State.sendFree s n chan t) s := by
  unfold State.sendFree
  repeat' split
  all_goals simp [*]

@[simp] theorem State.leaveFree_frame (s : State) (n chan : Nat) (t : Token) :
    OnlyCoresPartsNet (State.leaveFree s n chan t) s := by
  unfold State.leaveFree
  repeat' split
  all_goals simp [*]

@[simp] theorem State.enterChan_frame (s : State) (n chan cycle : Nat) (t : Token) :
    OnlyCores (State.enterChan s n chan cycle t) s := by
  unfold State.enterChan
  repeat' split
  all_goals simp [*]

@[simp] theorem State.toProducer_frame (s : State) (n q : Nat) (f : Nat → Nat → NetMsg) :
    OnlyNet (State.toProducer s n q f) s := by
  unfold State.toProducer
  repeat' split
  all_goals simp [*]

@[simp] theorem State.haltQueues_frame (s : State) (n : Nat) :
    OnlyCoresNet (State.haltQueues s n) s := by
  unfold State.haltQueues
  repeat' split
  all_goals simp [*]

end Sys2Proof.Machine
end

