-- ==== Sys2Proof/Laws/CoreTick.lean ====
section
/-!
SUPPORT. For each function of Machine/CoreTick.lean that answers a state: the fields it leaves as they were.
-/
namespace Sys2Proof.Machine
@[simp] theorem State.pairingOverflow_frame (s : State) (n u inp cycle cause : Nat) (ord : Byte) :
    OnlyCoresPartsCtxsStoreHostQuillFabricModuleOut (State.pairingOverflow s n u inp cycle cause ord) s := by
  unfold State.pairingOverflow
  repeat' split
  all_goals simp [*]

@[simp] theorem State.steerWrite_frame (s : State) (n u i cycle : Nat) (t : Token) :
    OnlyCoresPartsCtxsStoreHostQuillFabricModuleOut (State.steerWrite s n u i cycle t) s := by
  unfold State.steerWrite
  repeat' split
  all_goals simp [*]

@[simp] theorem State.countUnused_frame (s : State) (n : Nat) :
    OnlyCores (State.countUnused s n) s := by
  unfold State.countUnused
  repeat' split
  all_goals simp [*]

@[simp] theorem State.steerDeliver_frame (s : State) (n u i cycle : Nat) (t : Token) :
    OnlyCoresPartsCtxsStoreHostQuillFabricModuleOut (State.steerDeliver s n u i cycle t) s := by
  unfold State.steerDeliver
  repeat' split
  all_goals simp [*]

@[simp] theorem State.steerOutput_frame (s : State) (n u m cycle : Nat) (w : Word) (t : Token) :
    OnlyCoresClustersPartsCtxsStoreHostQuillFabricModuleNetOut (State.steerOutput s n u m cycle w t) s := by
  unfold State.steerOutput
  repeat' split
  all_goals simp [*]

@[simp] theorem State.sendEnter_frame (s : State) (n ch cycle : Nat) (t : Token) (pc : BitVec 12) :
    OnlyCoresClustersPartsCtxsStoreHostQuillFabricModuleOut (State.sendEnter s n ch cycle t pc) s := by
  unfold State.sendEnter
  repeat' split
  all_goals simp [*]

@[simp] theorem State.flitsEnter_frame (s : State) (n ch cycle : Nat) (fs : List Flit) (pc : BitVec 12) :
    OnlyCoresClustersPartsCtxsStoreHostQuillFabricModuleOut (State.flitsEnter s n ch cycle fs pc) s := by
  unfold State.flitsEnter
  repeat' split
  all_goals simp [*]

@[simp] theorem State.ctlEnter_frame (s : State) (n u cycle : Nat) (t : Token) :
    OnlyCoresPartsCtxsStoreHostQuillFabricModuleOut (State.ctlEnter s n u cycle t) s := by
  unfold State.ctlEnter
  repeat' split
  all_goals simp [*]

@[simp] theorem State.dueStep_frame (s : State) (n : Nat) (d : Due) :
    OnlyCoresClustersPartsCtxsStoreHostQuillFabricModuleNetOut (State.dueStep s n d) s := by
  unfold State.dueStep
  repeat' split
  all_goals simp [*]

@[simp] theorem State.dueNext_frame (s : State) (n : Nat) :
    OnlyCoresClustersPartsCtxsStoreHostQuillFabricModuleNetOut (State.dueNext s n) s := by
  unfold State.dueNext
  repeat' split
  all_goals simp [*]

@[simp] theorem State.tickFrom_frame (fuel : Nat) (s : State) (n c : Nat) :
    OnlyCoresClustersPartsCtxsStoreHostQuillFabricModuleNetOut (State.tickFrom fuel s n c) s := by
  induction fuel generalizing s with
  | zero => simp [State.tickFrom]
  | succ f ih =>
    unfold State.tickFrom
    repeat' split
    all_goals simp_all

@[simp] theorem State.coreTick_frame (s : State) (n c : Nat) :
    OnlyCoresClustersPartsCtxsStoreHostQuillFabricModuleNetOut (State.coreTick s n c) s := by
  unfold State.coreTick
  repeat' split
  all_goals simp [*]

@[simp] theorem State.tickFor_frame (s : State) (n : Nat) (p : DueKind → Bool) :
    OnlyCoresClustersPartsCtxsStoreHostQuillFabricModuleNetOut (State.tickFor s n p) s := by
  unfold State.tickFor
  repeat' split
  all_goals simp [*]

@[simp] theorem State.addDue_frame (s : State) (n cycle rank : Nat) (w : DueKind) :
    OnlyCores (State.addDue s n cycle rank w) s := by
  unfold State.addDue
  repeat' split
  all_goals simp [*]

end Sys2Proof.Machine
end

