-- ==== Sys2Proof/Laws/Descriptor.lean ====
section
/-!
SUPPORT. For each function of Machine/Descriptor.lean that answers a state: the fields it leaves as they were.
-/
namespace Sys2Proof.Machine
@[simp] theorem State.descDone_frame (s : State) (n : Nat) :
    OnlyCoresPartsCtxsStoreHostQuillFabricModuleOut (State.descDone s n) s := by
  unfold State.descDone OnlyCoresPartsCtxsStoreHostQuillFabricModuleOut
  try dsimp only
  and_intros
  all_goals
    repeat' first
      | (with_reducible rfl)
      | split
      | (simp (disch := ((try intros); (try subst_vars); (repeat' split) <;> try simp)); done)
      | (apply foldl_pending <;> (intros; try subst_vars; try dsimp only)) | (apply foldl_clusters <;> (intros; try subst_vars; try dsimp only)) | (apply foldl_bulk <;> (intros; try subst_vars; try dsimp only)) | (apply foldl_dev <;> (intros; try subst_vars; try dsimp only)) | (apply foldl_net <;> (intros; try subst_vars; try dsimp only)) | (apply foldl_time <;> (intros; try subst_vars; try dsimp only)) | (apply foldl_free <;> (intros; try subst_vars; try dsimp only))
      | simp

end Sys2Proof.Machine
end

