-- ==== Sys2Proof/Laws/Access.lean ====
section
/-!
SUPPORT. For each function of Machine/Access.lean that answers a state: the fields it leaves as they were.
-/
namespace Sys2Proof.Machine
@[simp] theorem State.inkMake_frame (s : State) (k : Nat) (w : InkLate) :
    OnlyStore (State.inkMake s k w) s := by
  unfold State.inkMake
  repeat' split
  all_goals simp [*]

@[simp] theorem State.inkSee_frame (s : State) (k t : Nat) :
    OnlyClustersStore (State.inkSee s k t) s := by
  unfold State.inkSee
  repeat' split
  all_goals simp [*]

@[simp] theorem State.inkSettle_frame (s : State) (k : Nat) :
    OnlyClustersStore (State.inkSettle s k) s := by
  unfold State.inkSettle
  repeat' split
  all_goals simp [*]

@[simp] theorem State.ownFrom_frame (fuel : Nat) (s : State) (n c : Nat) :
    OnlyCoresClustersPartsCtxsStoreHostQuillFabricModuleNetOut (State.ownFrom fuel s n c) s := by
  induction fuel generalizing s with
  | zero => simp [State.ownFrom]
  | succ f ih =>
    unfold State.ownFrom
    repeat' split
    all_goals simp_all

@[simp] theorem State.coreRun_frame (s : State) (n c : Nat) :
    OnlyCoresClustersPartsCtxsStoreHostQuillFabricModuleNetOut (State.coreRun s n c) s := by
  unfold State.coreRun
  repeat' split
  all_goals simp [*]

end Sys2Proof.Machine
end

