-- ==== Sys2Proof/Laws/Issue.lean ====
section
/-!
SUPPORT. For each function of Machine/Issue.lean that answers a state: the fields it leaves as they were.
-/
namespace Sys2Proof.Machine
@[simp] theorem State.countFetch_frame (s : State) (n : Nat) (e : Ecc) :
    OnlyCoresQuill (State.countFetch s n e) s := by
  unfold State.countFetch
  repeat' split
  all_goals simp [*]

@[simp] theorem State.spent_frame (s : State) (n t : Nat) :
    OnlyCores (State.spent s n t) s := by
  unfold State.spent
  repeat' split
  all_goals simp [*]

@[simp] theorem State.issueBeside_frame (s : State) (a : Issue) (p : Plan) (t : Nat) :
    OnlyCoresPartsCtxsStoreHostQuillFabricModuleOut (State.issueBeside s a p t) s := by
  unfold State.issueBeside OnlyCoresPartsCtxsStoreHostQuillFabricModuleOut
  try dsimp only
  and_intros
  all_goals
    repeat' first
      | (with_reducible rfl)
      | split
      | (simp (disch := ((try intros); (try subst_vars); (repeat' split) <;> try simp)); done)
      | (apply foldl_pending <;> (intros; try subst_vars; try dsimp only)) | (apply foldl_clusters <;> (intros; try subst_vars; try dsimp only)) | (apply foldl_bulk <;> (intros; try subst_vars; try dsimp only)) | (apply foldl_dev <;> (intros; try subst_vars; try dsimp only)) | (apply foldl_net <;> (intros; try subst_vars; try dsimp only)) | (apply foldl_time <;> (intros; try subst_vars; try dsimp only)) | (apply foldl_free <;> (intros; try subst_vars; try dsimp only))
      | simp

@[simp] theorem State.raiseAll_frame (s : State) (n t : Nat) (l : List CoreError) :
    OnlyCoresPartsCtxsStoreHostQuillFabricModuleOut (State.raiseAll s n t l) s := by
  unfold State.raiseAll
  repeat' split
  all_goals simp [*]

@[simp] theorem State.meets_pending (s0 : State) (n t : Nat) (errs : List CoreError) (effect : Nat → State → State) (heffect : ∀ x0 x1 y, y = effect x0 x1 → y.pending = x1.pending) :
    (State.meets s0 n t errs effect).pending = s0.pending := by
  have geffect := fun x0 x1 => heffect x0 x1 _ rfl
  unfold State.meets
  repeat' split
  all_goals simp [*]

@[simp] theorem State.meets_bulk (s0 : State) (n t : Nat) (errs : List CoreError) (effect : Nat → State → State) (heffect : ∀ x0 x1 y, y = effect x0 x1 → y.bulk = x1.bulk) :
    (State.meets s0 n t errs effect).bulk = s0.bulk := by
  have geffect := fun x0 x1 => heffect x0 x1 _ rfl
  unfold State.meets
  repeat' split
  all_goals simp [*]

@[simp] theorem State.meets_dev (s0 : State) (n t : Nat) (errs : List CoreError) (effect : Nat → State → State) (heffect : ∀ x0 x1 y, y = effect x0 x1 → y.dev = x1.dev) :
    (State.meets s0 n t errs effect).dev = s0.dev := by
  have geffect := fun x0 x1 => heffect x0 x1 _ rfl
  unfold State.meets
  repeat' split
  all_goals simp [*]

@[simp] theorem State.meets_time (s0 : State) (n t : Nat) (errs : List CoreError) (effect : Nat → State → State) (heffect : ∀ x0 x1 y, y = effect x0 x1 → y.time = x1.time) :
    (State.meets s0 n t errs effect).time = s0.time := by
  have geffect := fun x0 x1 => heffect x0 x1 _ rfl
  unfold State.meets
  repeat' split
  all_goals simp [*]

@[simp] theorem State.meets_free (s0 : State) (n t : Nat) (errs : List CoreError) (effect : Nat → State → State) (heffect : ∀ x0 x1 y, y = effect x0 x1 → y.free = x1.free) :
    (State.meets s0 n t errs effect).free = s0.free := by
  have geffect := fun x0 x1 => heffect x0 x1 _ rfl
  unfold State.meets
  repeat' split
  all_goals simp [*]

@[simp] theorem State.issue_pending (s : State) (a : Issue) (p : Plan) (effect : Nat → State → State) (heffect : ∀ x0 x1 y, y = effect x0 x1 → y.pending = x1.pending) :
    (State.issue s a p effect).pending = s.pending := by
  have geffect := fun x0 x1 => heffect x0 x1 _ rfl
  unfold State.issue
  dsimp only
  repeat' split
  all_goals first
    | rfl
    | (rw [State.meets_pending _ _ _ _ _ heffect]; simp)
    | simp

@[simp] theorem State.issue_bulk (s : State) (a : Issue) (p : Plan) (effect : Nat → State → State) (heffect : ∀ x0 x1 y, y = effect x0 x1 → y.bulk = x1.bulk) :
    (State.issue s a p effect).bulk = s.bulk := by
  have geffect := fun x0 x1 => heffect x0 x1 _ rfl
  unfold State.issue
  dsimp only
  repeat' split
  all_goals first
    | rfl
    | (rw [State.meets_bulk _ _ _ _ _ heffect]; simp)
    | simp

@[simp] theorem State.issue_dev (s : State) (a : Issue) (p : Plan) (effect : Nat → State → State) (heffect : ∀ x0 x1 y, y = effect x0 x1 → y.dev = x1.dev) :
    (State.issue s a p effect).dev = s.dev := by
  have geffect := fun x0 x1 => heffect x0 x1 _ rfl
  unfold State.issue
  dsimp only
  repeat' split
  all_goals first
    | rfl
    | (rw [State.meets_dev _ _ _ _ _ heffect]; simp)
    | simp

@[simp] theorem State.issue_time (s : State) (a : Issue) (p : Plan) (effect : Nat → State → State) (heffect : ∀ x0 x1 y, y = effect x0 x1 → y.time = x1.time) :
    (State.issue s a p effect).time = s.time := by
  have geffect := fun x0 x1 => heffect x0 x1 _ rfl
  unfold State.issue
  dsimp only
  repeat' split
  all_goals first
    | rfl
    | (rw [State.meets_time _ _ _ _ _ heffect]; simp)
    | simp

@[simp] theorem State.issue_free (s : State) (a : Issue) (p : Plan) (effect : Nat → State → State) (heffect : ∀ x0 x1 y, y = effect x0 x1 → y.free = x1.free) :
    (State.issue s a p effect).free = s.free := by
  have geffect := fun x0 x1 => heffect x0 x1 _ rfl
  unfold State.issue
  dsimp only
  repeat' split
  all_goals first
    | rfl
    | (rw [State.meets_free _ _ _ _ _ heffect]; simp)
    | simp

@[simp] theorem State.goto_frame (s : State) (n t d : Nat) (target : BitVec 12) :
    OnlyCores (State.goto s n t d target) s := by
  unfold State.goto
  repeat' split
  all_goals simp [*]

@[simp] theorem State.advance_frame (s : State) (n t d : Nat) :
    OnlyCores (State.advance s n t d) s := by
  unfold State.advance
  repeat' split
  all_goals simp [*]

@[simp] theorem State.putS_frame (s : State) (n t lat r : Nat) (v : Word) (b : Bool) :
    OnlyCores (State.putS s n t lat r v b) s := by
  unfold State.putS
  repeat' split
  all_goals simp [*]

end Sys2Proof.Machine
end

