-- ==== Sys2Proof/Laws/Operands.lean ====
section
/-!
SUPPORT. For each function of Machine/Operands.lean that answers a state: the fields it leaves as they were.
-/
namespace Sys2Proof.Machine
@[simp] theorem State.lsEcc_frame (s : State) (n t a : Nat) (e : Ecc) :
    OnlyCoresQuill (State.lsEcc s n t a e) s := by
  unfold State.lsEcc
  repeat' split
  all_goals simp [*]

@[simp] theorem State.lsEccs_frame (s : State) (n t : Nat) (l : List (Nat × Ecc)) :
    OnlyCoresQuill (State.lsEccs s n t l) s := by
  unfold State.lsEccs
  repeat' split
  all_goals simp [*]

end Sys2Proof.Machine
end

