-- ==== Sys2Proof/Laws/Sync.lean ====
section
/-!
SUPPORT. For each function of Machine/Sync.lean that answers a state: the fields it leaves as they were.
-/
namespace Sys2Proof.Machine
@[simp] theorem State.setCounter_frame (s : State) (c : Counter) (v : Word) :
    OnlyClustersFabric (State.setCounter s c v) s := by
  unfold State.setCounter
  repeat' split
  all_goals simp [*]

@[simp] theorem State.putMark_frame (s : State) (k i : Nat) (m : SyncMark) :
    OnlyClustersFabric (State.putMark s k i m) s := by
  unfold State.putMark
  repeat' split
  all_goals simp [*]

@[simp] theorem State.syncApply_frame (s : State) (c : Counter) (isSet : Bool) (v : Word) :
    OnlyClustersFabric (State.syncApply s c isSet v) s := by
  unfold State.syncApply
  repeat' split
  all_goals simp [*]

@[simp] theorem State.syncByCore_frame (s : State) (k i l cycle : Nat) (isSet : Bool) (v : Word) :
    OnlyClustersFabric (State.syncByCore s k i l cycle isSet v) s := by
  unfold State.syncByCore
  repeat' split
  all_goals simp [*]

@[simp] theorem syncOp_frame (a : Issue) (ra rb : BitVec 6) (isSet : Bool) (s : State) :
    OnlyCoresClustersPartsCtxsStoreHostQuillFabricModuleNetOut (syncOp a ra rb isSet s) s := by
  unfold syncOp OnlyCoresClustersPartsCtxsStoreHostQuillFabricModuleNetOut
  try dsimp only
  and_intros
  all_goals
    repeat' first
      | (with_reducible rfl)
      | split
      | (simp (disch := ((try intros); (try subst_vars); (repeat' split) <;> try simp)); done)
      | (apply foldl_pending <;> (intros; try subst_vars; try dsimp only)) | (apply foldl_bulk <;> (intros; try subst_vars; try dsimp only)) | (apply foldl_dev <;> (intros; try subst_vars; try dsimp only)) | (apply foldl_time <;> (intros; try subst_vars; try dsimp only)) | (apply foldl_free <;> (intros; try subst_vars; try dsimp only)) | (apply State.issue_pending <;> (intros; try subst_vars; try dsimp only)) | (apply State.issue_bulk <;> (intros; try subst_vars; try dsimp only)) | (apply State.issue_dev <;> (intros; try subst_vars; try dsimp only)) | (apply State.issue_time <;> (intros; try subst_vars; try dsimp only)) | (apply State.issue_free <;> (intros; try subst_vars; try dsimp only))
      | simp

@[simp] theorem effSyncSet_frame (a : Issue) (ra rb : BitVec 6) (s : State) :
    OnlyCoresClustersPartsCtxsStoreHostQuillFabricModuleNetOut (effSyncSet a ra rb s) s := by
  unfold effSyncSet
  repeat' split
  all_goals simp [*]

@[simp] theorem effSyncAdd_frame (a : Issue) (ra rb : BitVec 6) (s : State) :
    OnlyCoresClustersPartsCtxsStoreHostQuillFabricModuleNetOut (effSyncAdd a ra rb s) s := by
  unfold effSyncAdd
  repeat' split
  all_goals simp [*]

@[simp] theorem State.block_frame (s : State) (n : Nat) (b : BlockedOn) :
    OnlyCores (State.block s n b) s := by
  unfold State.block
  repeat' split
  all_goals simp [*]

@[simp] theorem State.unblock_frame (s : State) (n d : Nat) :
    OnlyCores (State.unblock s n d) s := by
  unfold State.unblock
  repeat' split
  all_goals simp [*]

@[simp] theorem effSyncWaitGe_frame (a : Issue) (ra rb : BitVec 6) (s : State) :
    OnlyCoresClustersPartsCtxsStoreHostQuillFabricModuleNetOut (effSyncWaitGe a ra rb s) s := by
  unfold effSyncWaitGe OnlyCoresClustersPartsCtxsStoreHostQuillFabricModuleNetOut
  try dsimp only
  and_intros
  all_goals
    repeat' first
      | (with_reducible rfl)
      | split
      | (simp (disch := ((try intros); (try subst_vars); (repeat' split) <;> try simp)); done)
      | (apply foldl_pending <;> (intros; try subst_vars; try dsimp only)) | (apply foldl_bulk <;> (intros; try subst_vars; try dsimp only)) | (apply foldl_dev <;> (intros; try subst_vars; try dsimp only)) | (apply foldl_time <;> (intros; try subst_vars; try dsimp only)) | (apply foldl_free <;> (intros; try subst_vars; try dsimp only)) | (apply State.issue_pending <;> (intros; try subst_vars; try dsimp only)) | (apply State.issue_bulk <;> (intros; try subst_vars; try dsimp only)) | (apply State.issue_dev <;> (intros; try subst_vars; try dsimp only)) | (apply State.issue_time <;> (intros; try subst_vars; try dsimp only)) | (apply State.issue_free <;> (intros; try subst_vars; try dsimp only))
      | simp

@[simp] theorem State.wakeGe_frame (s : State) (n : Nat) (x : Counter) :
    OnlyCores (State.wakeGe s n x) s := by
  unfold State.wakeGe
  repeat' split
  all_goals simp [*]

@[simp] theorem effWaitGeWake_frame (core : Fin 1536) (s : State) :
    OnlyCores (effWaitGeWake core s) s := by
  unfold effWaitGeWake OnlyCores
  try dsimp only
  and_intros
  all_goals
    repeat' first
      | (with_reducible rfl)
      | split
      | (simp (disch := ((try intros); (try subst_vars); (repeat' split) <;> try simp)); done)
      | (apply foldl_pending <;> (intros; try subst_vars; try dsimp only)) | (apply foldl_clusters <;> (intros; try subst_vars; try dsimp only)) | (apply foldl_parts <;> (intros; try subst_vars; try dsimp only)) | (apply foldl_ctxs <;> (intros; try subst_vars; try dsimp only)) | (apply foldl_store <;> (intros; try subst_vars; try dsimp only)) | (apply foldl_bulk <;> (intros; try subst_vars; try dsimp only)) | (apply foldl_host <;> (intros; try subst_vars; try dsimp only)) | (apply foldl_dev <;> (intros; try subst_vars; try dsimp only)) | (apply foldl_quill <;> (intros; try subst_vars; try dsimp only)) | (apply foldl_fabric <;> (intros; try subst_vars; try dsimp only)) | (apply foldl_module_ <;> (intros; try subst_vars; try dsimp only)) | (apply foldl_net <;> (intros; try subst_vars; try dsimp only)) | (apply foldl_time <;> (intros; try subst_vars; try dsimp only)) | (apply foldl_out <;> (intros; try subst_vars; try dsimp only)) | (apply foldl_free <;> (intros; try subst_vars; try dsimp only))
      | simp

@[simp] theorem effLandwait_frame (a : Issue) (ra rb : BitVec 6) (s : State) :
    OnlyCoresClustersPartsCtxsStoreHostQuillFabricModuleNetOut (effLandwait a ra rb s) s := by
  unfold effLandwait
  repeat' split
  all_goals simp [*]

@[simp] theorem effLandwaitWake_frame (core : Fin 1536) (s : State) :
    OnlyCores (effLandwaitWake core s) s := by
  unfold effLandwaitWake OnlyCores
  try dsimp only
  and_intros
  all_goals
    repeat' first
      | (with_reducible rfl)
      | split
      | (simp (disch := ((try intros); (try subst_vars); (repeat' split) <;> try simp)); done)
      | (apply foldl_pending <;> (intros; try subst_vars; try dsimp only)) | (apply foldl_clusters <;> (intros; try subst_vars; try dsimp only)) | (apply foldl_parts <;> (intros; try subst_vars; try dsimp only)) | (apply foldl_ctxs <;> (intros; try subst_vars; try dsimp only)) | (apply foldl_store <;> (intros; try subst_vars; try dsimp only)) | (apply foldl_bulk <;> (intros; try subst_vars; try dsimp only)) | (apply foldl_host <;> (intros; try subst_vars; try dsimp only)) | (apply foldl_dev <;> (intros; try subst_vars; try dsimp only)) | (apply foldl_quill <;> (intros; try subst_vars; try dsimp only)) | (apply foldl_fabric <;> (intros; try subst_vars; try dsimp only)) | (apply foldl_module_ <;> (intros; try subst_vars; try dsimp only)) | (apply foldl_net <;> (intros; try subst_vars; try dsimp only)) | (apply foldl_time <;> (intros; try subst_vars; try dsimp only)) | (apply foldl_out <;> (intros; try subst_vars; try dsimp only)) | (apply foldl_free <;> (intros; try subst_vars; try dsimp only))
      | simp

@[simp] theorem effMgmtSyncOp_frame (s : State) :
    OnlyClustersFabricNet (effMgmtSyncOp s) s := by
  unfold effMgmtSyncOp
  repeat' split
  all_goals simp [*]

end Sys2Proof.Machine
end

