-- ==== Sys2Proof/Laws/BulkOps.lean ====
section
/-!
SUPPORT. For each function of Machine/BulkOps.lean that answers a state: the fields it leaves as they were.
-/
namespace Sys2Proof.Machine
@[simp] theorem State.releasePage_frame (s : State) (ctx pn : Nat) :
    OnlyStoreBulk (State.releasePage s ctx pn) s := by
  unfold State.releasePage
  repeat' split
  all_goals simp [*]

@[simp] theorem State.holdPage_frame (s : State) (pn : Nat) :
    OnlyStore (State.holdPage s pn) s := by
  unfold State.holdPage
  repeat' split
  all_goals simp [*]

@[simp] theorem State.unmapFrom_frame (s : State) (ctx slot lo : Nat) :
    OnlyStoreBulk (State.unmapFrom s ctx slot lo) s := by
  unfold State.unmapFrom OnlyStoreBulk
  try dsimp only
  and_intros
  all_goals
    repeat' first
      | (with_reducible rfl)
      | split
      | (simp (disch := ((try intros); (try subst_vars); (repeat' split) <;> try simp)); done)
      | (apply foldl_pending <;> (intros; try subst_vars; try dsimp only)) | (apply foldl_cores <;> (intros; try subst_vars; try dsimp only)) | (apply foldl_clusters <;> (intros; try subst_vars; try dsimp only)) | (apply foldl_parts <;> (intros; try subst_vars; try dsimp only)) | (apply foldl_ctxs <;> (intros; try subst_vars; try dsimp only)) | (apply foldl_host <;> (intros; try subst_vars; try dsimp only)) | (apply foldl_dev <;> (intros; try subst_vars; try dsimp only)) | (apply foldl_quill <;> (intros; try subst_vars; try dsimp only)) | (apply foldl_fabric <;> (intros; try subst_vars; try dsimp only)) | (apply foldl_module_ <;> (intros; try subst_vars; try dsimp only)) | (apply foldl_net <;> (intros; try subst_vars; try dsimp only)) | (apply foldl_time <;> (intros; try subst_vars; try dsimp only)) | (apply foldl_out <;> (intros; try subst_vars; try dsimp only)) | (apply foldl_free <;> (intros; try subst_vars; try dsimp only))
      | simp

@[simp] theorem State.freePending_frame (s : State) (ctx : Nat) :
    OnlyStoreBulk (State.freePending s ctx) s := by
  unfold State.freePending
  repeat' split
  all_goals simp [*]

@[simp] theorem State.markBad_frame (s : State) (addr cause : Nat) :
    OnlyBulkHostQuillModuleOut (State.markBad s addr cause) s := by
  unfold State.markBad
  repeat' split
  all_goals simp [*]

@[simp] theorem State.tableFault_frame (s : State) (line : Nat) :
    OnlyBulk (State.tableFault s line) s := by
  unfold State.tableFault
  repeat' split
  all_goals simp [*]

@[simp] theorem State.mcUncorr_frame (s : State) (m line kind : Nat) :
    OnlyStoreBulkHostQuillModuleOut (State.mcUncorr s m line kind) s := by
  unfold State.mcUncorr
  repeat' split
  all_goals simp [*]

@[simp] theorem State.mcCorr_frame (s : State) (m line : Nat) :
    OnlyBulkHostQuillModuleOut (State.mcCorr s m line) s := by
  unfold State.mcCorr
  repeat' split
  all_goals simp [*]

@[simp] theorem State.mcFind_frame (s : State) (m line : Nat) (ecc link : Ecc) :
    OnlyStoreBulkHostQuillModuleOut (State.mcFind s m line ecc link) s := by
  unfold State.mcFind
  repeat' split
  all_goals simp [*]

@[simp] theorem State.mcLines_frame (s : State) (a n : Nat) (l : List LineFind) :
    OnlyStoreBulkHostQuillModuleOut (State.mcLines s a n l) s := by
  unfold State.mcLines
  repeat' split
  all_goals simp [*]

@[simp] theorem State.memFault_frame (s : State) (m kind ctx addr lcluster lcore slot : Nat) :
    OnlyCoresPartsCtxsStoreBulkHostQuillFabricModuleOut (State.memFault s m kind ctx addr lcluster lcore slot) s := by
  unfold State.memFault
  repeat' split
  all_goals simp [*]

@[simp] theorem State.readTable_frame (s : State) (c slot : Nat) (l : List (BitVec 22 × Ecc)) (lines : List LineFind) :
    OnlyStoreBulkHostQuillModuleOut (State.readTable s c slot l lines) s := by
  unfold State.readTable
  repeat' split
  all_goals simp [*]

@[simp] theorem State.slotDone_frame (s : State) (n : Nat) :
    OnlyBulk (State.slotDone s n) s := by
  unfold State.slotDone
  repeat' split
  all_goals simp [*]

@[simp] theorem State.holdTable_frame (s : State) (slot : Nat) :
    OnlyStore (State.holdTable s slot) s := by
  unfold State.holdTable OnlyStore
  try dsimp only
  and_intros
  all_goals
    repeat' first
      | (with_reducible rfl)
      | split
      | (simp (disch := ((try intros); (try subst_vars); (repeat' split) <;> try simp)); done)
      | (apply foldl_pending <;> (intros; try subst_vars; try dsimp only)) | (apply foldl_cores <;> (intros; try subst_vars; try dsimp only)) | (apply foldl_clusters <;> (intros; try subst_vars; try dsimp only)) | (apply foldl_parts <;> (intros; try subst_vars; try dsimp only)) | (apply foldl_ctxs <;> (intros; try subst_vars; try dsimp only)) | (apply foldl_bulk <;> (intros; try subst_vars; try dsimp only)) | (apply foldl_host <;> (intros; try subst_vars; try dsimp only)) | (apply foldl_dev <;> (intros; try subst_vars; try dsimp only)) | (apply foldl_quill <;> (intros; try subst_vars; try dsimp only)) | (apply foldl_fabric <;> (intros; try subst_vars; try dsimp only)) | (apply foldl_module_ <;> (intros; try subst_vars; try dsimp only)) | (apply foldl_net <;> (intros; try subst_vars; try dsimp only)) | (apply foldl_time <;> (intros; try subst_vars; try dsimp only)) | (apply foldl_out <;> (intros; try subst_vars; try dsimp only)) | (apply foldl_free <;> (intros; try subst_vars; try dsimp only))
      | simp

theorem State.forkSlot_frame {s : State} {c parent child p : Nat} {y : State} (h : State.forkSlot s c parent child p = .inr y) :
    OnlyStoreBulk y s := by
  unfold State.forkSlot at h
  try dsimp only at h
  repeat' split at h
  all_goals (try cases h)
  all_goals try simp only [Option.some.injEq, Sum.inr.injEq, Option.map_eq_some_iff, Prod.mk.injEq] at h
  all_goals try subst h
  all_goals try simp [*]


theorem State.rewindSlot_frame {s : State} {c n p : Nat} {y : State} (h : State.rewindSlot s c n p = .inr y) :
    OnlyStoreBulk y s := by
  unfold State.rewindSlot at h
  try dsimp only at h
  repeat' split at h
  all_goals (try cases h)
  all_goals try simp only [Option.some.injEq, Sum.inr.injEq, Option.map_eq_some_iff, Prod.mk.injEq] at h
  all_goals try subst h
  all_goals try simp [*]


theorem State.acceptSlot_frame {s : State} {c parent child : Nat} {y : State} (h : State.acceptSlot s c parent child = .inr y) :
    OnlyStoreBulk y s := by
  unfold State.acceptSlot at h
  try dsimp only at h
  repeat' split at h
  all_goals (try cases h)
  all_goals try simp only [Option.some.injEq, Sum.inr.injEq, Option.map_eq_some_iff, Prod.mk.injEq] at h
  all_goals try subst h
  all_goals try simp [*]


@[simp] theorem State.closeSlot_frame (s : State) (n : Nat) :
    OnlyStoreBulk (State.closeSlot s n) s := by
  unfold State.closeSlot
  repeat' split
  all_goals simp [*]

end Sys2Proof.Machine
end

