-- ==== Sys2Proof/Laws/Combine.lean ====
section
/-!
SUPPORT. For each function of Machine/Combine.lean that answers a state: the fields it leaves as they were.
-/
namespace Sys2Proof.Machine
@[simp] theorem State.modCq_frame (s : State) (q : CombiningQueue) (f : Combining → Combining) :
    OnlyClustersFabric (State.modCq s q f) s := by
  unfold State.modCq
  repeat' split
  all_goals simp [*]

@[simp] theorem State.cqFault_frame (s : State) (q : CombiningQueue) (kind piece : Nat) :
    OnlyCoresClustersPartsCtxsStoreHostQuillFabricModuleOut (State.cqFault s q kind piece) s := by
  unfold State.cqFault OnlyCoresClustersPartsCtxsStoreHostQuillFabricModuleOut
  try dsimp only
  and_intros
  all_goals
    repeat' first
      | (with_reducible rfl)
      | split
      | (simp (disch := ((try intros); (try subst_vars); (repeat' split) <;> try simp)); done)
      | (apply foldl_pending <;> (intros; try subst_vars; try dsimp only)) | (apply foldl_bulk <;> (intros; try subst_vars; try dsimp only)) | (apply foldl_dev <;> (intros; try subst_vars; try dsimp only)) | (apply foldl_net <;> (intros; try subst_vars; try dsimp only)) | (apply foldl_time <;> (intros; try subst_vars; try dsimp only)) | (apply foldl_free <;> (intros; try subst_vars; try dsimp only))
      | simp

@[simp] theorem State.countChoice_frame (s : State) (c : Nat) :
    OnlyCtxs (State.countChoice s c) s := by
  unfold State.countChoice
  repeat' split
  all_goals simp [*]

@[simp] theorem State.cqTake_frame (s : State) (q : CombiningQueue) (cycle rank : Nat) (t : Token) :
    OnlyClustersCtxsFabric (State.cqTake s q cycle rank t) s := by
  unfold State.cqTake OnlyClustersCtxsFabric
  try dsimp only
  and_intros
  all_goals
    repeat' first
      | (with_reducible rfl)
      | split
      | (simp (disch := ((try intros); (try subst_vars); (repeat' split) <;> try simp)); done)
      | (apply foldl_pending <;> (intros; try subst_vars; try dsimp only)) | (apply foldl_cores <;> (intros; try subst_vars; try dsimp only)) | (apply foldl_parts <;> (intros; try subst_vars; try dsimp only)) | (apply foldl_store <;> (intros; try subst_vars; try dsimp only)) | (apply foldl_bulk <;> (intros; try subst_vars; try dsimp only)) | (apply foldl_host <;> (intros; try subst_vars; try dsimp only)) | (apply foldl_dev <;> (intros; try subst_vars; try dsimp only)) | (apply foldl_quill <;> (intros; try subst_vars; try dsimp only)) | (apply foldl_module_ <;> (intros; try subst_vars; try dsimp only)) | (apply foldl_net <;> (intros; try subst_vars; try dsimp only)) | (apply foldl_time <;> (intros; try subst_vars; try dsimp only)) | (apply foldl_out <;> (intros; try subst_vars; try dsimp only)) | (apply foldl_free <;> (intros; try subst_vars; try dsimp only))
      | simp

@[simp] theorem State.contribute_frame (s : State) (q : CombiningQueue) (cycle rank : Nat) (t : Token) :
    OnlyCoresClustersPartsCtxsStoreHostQuillFabricModuleOut (State.contribute s q cycle rank t) s := by
  unfold State.contribute
  repeat' split
  all_goals simp [*]

@[simp] theorem State.putResult_frame (s : State) (q : CombiningQueue) (d i : Nat) (r : CqResult) :
    OnlyCoresClustersPartsCtxsStoreHostQuillFabricModuleOut (State.putResult s q d i r) s := by
  unfold State.putResult
  repeat' split
  all_goals simp [*]

@[simp] theorem effCombiningRelease_frame (q : CombiningQueue) (s : State) :
    OnlyCoresClustersPartsCtxsStoreHostQuillFabricModuleOut (effCombiningRelease q s) s := by
  unfold effCombiningRelease OnlyCoresClustersPartsCtxsStoreHostQuillFabricModuleOut
  try dsimp only
  and_intros
  all_goals
    repeat' first
      | (with_reducible rfl)
      | split
      | (simp (disch := ((try intros); (try subst_vars); (repeat' split) <;> try simp)); done)
      | (apply foldl_pending <;> (intros; try subst_vars; try dsimp only)) | (apply foldl_bulk <;> (intros; try subst_vars; try dsimp only)) | (apply foldl_dev <;> (intros; try subst_vars; try dsimp only)) | (apply foldl_net <;> (intros; try subst_vars; try dsimp only)) | (apply foldl_time <;> (intros; try subst_vars; try dsimp only)) | (apply foldl_free <;> (intros; try subst_vars; try dsimp only))
      | simp

end Sys2Proof.Machine
end

