-- ==== Sys2Proof/Laws/FabricOps.lean ====
section
/-!
SUPPORT. For each function of Machine/FabricOps.lean that answers a state: the fields it leaves as they were.
-/
namespace Sys2Proof.Machine
@[simp] theorem State.transmit_frame (s : State) (p : Nat) (dateline : Bool) (f : FabricFlit) :
    OnlyFabricOut (State.transmit s p dateline f) s := by
  unfold State.transmit
  repeat' split
  all_goals simp [*]

@[simp] theorem State.dropNoRoute_frame (s : State) :
    OnlyFabric (State.dropNoRoute s) s := by
  unfold State.dropNoRoute
  repeat' split
  all_goals simp [*]

@[simp] theorem State.dropOther_frame (s : State) :
    OnlyFabric (State.dropOther s) s := by
  unfold State.dropOther
  repeat' split
  all_goals simp [*]

@[simp] theorem State.addDevice_frame (s : State) (i : Nat) (v : Word) :
    OnlyClustersFabric (State.addDevice s i v) s := by
  unfold State.addDevice
  repeat' split
  all_goals simp [*]

@[simp] theorem State.sendAdd_frame (s : State) (dst : Half) (i : Nat) (v : Word) :
    OnlyClustersFabricOut (State.sendAdd s dst i v) s := by
  unfold State.sendAdd
  repeat' split
  all_goals simp [*]

@[simp] theorem State.releaseAdds_frame (s : State) (n id : Nat) :
    OnlyClustersFabricOut (State.releaseAdds s n id) s := by
  unfold State.releaseAdds
  repeat' split
  all_goals simp [*]

@[simp] theorem State.ringDone_frame (s : State) (r : Nat) :
    OnlyClustersFabricOut (State.ringDone s r) s := by
  unfold State.ringDone
  repeat' split
  all_goals simp [*]

@[simp] theorem State.countWinDrop_frame (s : State) :
    OnlyFabric (State.countWinDrop s) s := by
  unfold State.countWinDrop
  repeat' split
  all_goals simp [*]

@[simp] theorem State.receiptFor_frame (s : State) (t : Tracked) (dropped : Bool) :
    OnlyClustersHostFabricOut (State.receiptFor s t dropped) s := by
  unfold State.receiptFor
  repeat' split
  all_goals simp [*]

@[simp] theorem State.receipt_frame (s : State) (track : Nat) (dropped : Bool) :
    OnlyClustersHostFabricOut (State.receipt s track dropped) s := by
  unfold State.receipt
  repeat' split
  all_goals simp [*]

@[simp] theorem State.sendReceipt_frame (s : State) (dst : Half) (track : Nat) (dropped : Bool) :
    OnlyClustersHostFabricOut (State.sendReceipt s dst track dropped) s := by
  unfold State.sendReceipt
  repeat' split
  all_goals simp [*]

@[simp] theorem State.landed_frame (s : State) (w n : Nat) :
    OnlyFabric (State.landed s w n) s := by
  unfold State.landed
  repeat' split
  all_goals simp [*]

@[simp] theorem State.contributeUnit_frame (s : State) (window : Nat) (queue : BitVec 6) (t : Token) :
    OnlyCoresClustersPartsCtxsStoreHostQuillFabricModuleOut (State.contributeUnit s window queue t) s := by
  unfold State.contributeUnit
  repeat' split
  all_goals simp [*]

@[simp] theorem State.acceptWrite_frame (s : State) (f : FabricFlit) :
    OnlyCoresClustersPartsCtxsStoreBulkHostQuillFabricModuleOut (State.acceptWrite s f) s := by
  unfold State.acceptWrite
  repeat' split
  all_goals simp [*]

@[simp] theorem State.decideWrite_frame (s : State) (f : FabricFlit) :
    OnlyCoresClustersPartsCtxsStoreBulkHostQuillFabricModuleOut (State.decideWrite s f) s := by
  unfold State.decideWrite
  repeat' split
  all_goals simp [*]

@[simp] theorem State.dealWrite_frame (s : State) (via : Nat) (f : FabricFlit) :
    OnlyCoresClustersPartsCtxsStoreBulkHostQuillFabricModuleOut (State.dealWrite s via f) s := by
  unfold State.dealWrite
  repeat' split
  all_goals simp [*]

@[simp] theorem State.writeArrives_frame (s : State) (via : Nat) (f : FabricFlit) :
    OnlyCoresClustersPartsCtxsStoreBulkHostQuillFabricModuleOut (State.writeArrives s via f) s := by
  unfold State.writeArrives
  repeat' split
  all_goals simp [*]

@[simp] theorem State.acceptHeld_frame (fuel : Nat) (s : State) (p : Nat) :
    OnlyCoresClustersPartsCtxsStoreBulkHostQuillFabricModuleOut (State.acceptHeld fuel s p) s := by
  induction fuel generalizing s with
  | zero => simp [State.acceptHeld]
  | succ f ih =>
    unfold State.acceptHeld
    repeat' split
    all_goals simp_all

@[simp] theorem State.bulkUnitDone_frame (s : State) (message : Nat) :
    OnlyClustersHostFabricOut (State.bulkUnitDone s message) s := by
  unfold State.bulkUnitDone
  repeat' split
  all_goals simp [*]

@[simp] theorem State.packWrite_frame (s : State) (p : Nat) (g : FabricFlit) (units : List Flit) (o : Origin) :
    OnlyFabric (State.packWrite s p g units o) s := by
  unfold State.packWrite
  repeat' split
  all_goals simp [*]

@[simp] theorem State.sendNew_frame (s : State) (dst : Half) (window off : Nat) (units : List Flit) (o : Origin) :
    OnlyCoresClustersPartsCtxsStoreBulkHostQuillFabricModuleOut (State.sendNew s dst window off units o) s := by
  unfold State.sendNew
  dsimp only
  generalize s.fate dst = ft
  cases ft <;> simp

@[simp] theorem State.sendWrite_frame (s : State) (dst : Half) (window off : Nat) (units : List Flit) (o : Origin) :
    OnlyCoresClustersPartsCtxsStoreBulkHostQuillFabricModuleOut (State.sendWrite s dst window off units o) s := by
  unfold State.sendWrite
  repeat' split
  all_goals simp

@[simp] theorem effSyncRadd_frame (a : Issue) (ra rb : BitVec 6) (s : State) :
    OnlyCoresClustersPartsCtxsStoreHostQuillFabricModuleNetOut (effSyncRadd a ra rb s) s := by
  unfold effSyncRadd
  repeat' split
  all_goals simp [*]

end Sys2Proof.Machine
end

