-- ==== Sys2Proof/Laws/Message.lean ====
section
/-!
SUPPORT. For each function of Machine/Message.lean that answers a state: the fields it leaves as they were.
-/
namespace Sys2Proof.Machine
@[simp] theorem State.startSend_frame (s : State) (n ch t : Nat) (tok : Token) :
    OnlyCoresParts (State.startSend s n ch t tok) s := by
  unfold State.startSend
  repeat' split
  all_goals simp [*]

@[simp] theorem effSend_frame (a : Issue) (ra rb : BitVec 6) (n : BitVec 2) (s : State) :
    OnlyCoresClustersPartsCtxsStoreHostQuillFabricModuleNetOut (effSend a ra rb n s) s := by
  unfold effSend
  repeat' split
  all_goals simp [*]

@[simp] theorem State.returnCredit_frame (s : State) (n q : Nat) :
    OnlyNet (State.returnCredit s n q) s := by
  unfold State.returnCredit
  repeat' split
  all_goals simp [*]

@[simp] theorem State.take_frame (s : State) (n t ra rb q cnt : Nat) :
    OnlyCoresNet (State.take s n t ra rb q cnt) s := by
  unfold State.take
  repeat' split
  all_goals simp [*]

@[simp] theorem State.recvEmpty_frame (s : State) (n q t : Nat) (pc : BitVec 12) :
    OnlyCoresClustersPartsCtxsStoreHostQuillFabricModuleNetOut (State.recvEmpty s n q t pc) s := by
  unfold State.recvEmpty
  repeat' split
  all_goals simp [*]

@[simp] theorem effRecv_frame (a : Issue) (ra rb : BitVec 6) (q : BitVec 3) (n : BitVec 2) (s : State) :
    OnlyCoresClustersPartsCtxsStoreHostQuillFabricModuleNetOut (effRecv a ra rb q n s) s := by
  unfold effRecv
  repeat' split
  all_goals simp [*]

@[simp] theorem State.fillQueues_frame (s : State) (n : Nat) (qs : List Nat) :
    OnlyCoresClustersPartsCtxsStoreHostQuillFabricModuleNetOut (State.fillQueues s n qs) s := by
  unfold State.fillQueues
  repeat' split
  all_goals simp [*]

@[simp] theorem State.resumeAt_frame (s : State) (n cyc : Nat) :
    OnlyCores (State.resumeAt s n cyc) s := by
  unfold State.resumeAt
  repeat' split
  all_goals simp [*]

@[simp] theorem effRecvWake_frame (core : Fin 1536) (s : State) :
    OnlyCoresClustersPartsCtxsStoreHostQuillFabricModuleNetOut (effRecvWake core s) s := by
  unfold effRecvWake OnlyCoresClustersPartsCtxsStoreHostQuillFabricModuleNetOut
  try dsimp only
  and_intros
  all_goals
    repeat' first
      | (with_reducible rfl)
      | split
      | (simp (disch := ((try intros); (try subst_vars); (repeat' split) <;> try simp)); done)
      | (apply foldl_pending <;> (intros; try subst_vars; try dsimp only)) | (apply foldl_bulk <;> (intros; try subst_vars; try dsimp only)) | (apply foldl_dev <;> (intros; try subst_vars; try dsimp only)) | (apply foldl_time <;> (intros; try subst_vars; try dsimp only)) | (apply foldl_free <;> (intros; try subst_vars; try dsimp only))
      | simp

@[simp] theorem effSelect_frame (a : Issue) (ra rb : BitVec 6) (s : State) :
    OnlyCoresClustersPartsCtxsStoreHostQuillFabricModuleNetOut (effSelect a ra rb s) s := by
  unfold effSelect
  repeat' split
  all_goals simp [*]

@[simp] theorem State.selectIn_frame (s : State) (n ra : Nat) (mask : Byte) (t : Nat) :
    OnlyCoresCtxs (State.selectIn s n ra mask t) s := by
  unfold State.selectIn OnlyCoresCtxs
  try dsimp only
  and_intros
  all_goals
    repeat' first
      | (with_reducible rfl)
      | split
      | (simp (disch := ((try intros); (try subst_vars); (repeat' split) <;> try simp)); done)
      | (apply foldl_pending <;> (intros; try subst_vars; try dsimp only)) | (apply foldl_clusters <;> (intros; try subst_vars; try dsimp only)) | (apply foldl_parts <;> (intros; try subst_vars; try dsimp only)) | (apply foldl_store <;> (intros; try subst_vars; try dsimp only)) | (apply foldl_bulk <;> (intros; try subst_vars; try dsimp only)) | (apply foldl_host <;> (intros; try subst_vars; try dsimp only)) | (apply foldl_dev <;> (intros; try subst_vars; try dsimp only)) | (apply foldl_quill <;> (intros; try subst_vars; try dsimp only)) | (apply foldl_fabric <;> (intros; try subst_vars; try dsimp only)) | (apply foldl_module_ <;> (intros; try subst_vars; try dsimp only)) | (apply foldl_net <;> (intros; try subst_vars; try dsimp only)) | (apply foldl_time <;> (intros; try subst_vars; try dsimp only)) | (apply foldl_out <;> (intros; try subst_vars; try dsimp only)) | (apply foldl_free <;> (intros; try subst_vars; try dsimp only))
      | simp

@[simp] theorem effSelectSelection_frame (core : Fin 1536) (s : State) :
    OnlyCoresClustersPartsCtxsStoreHostQuillFabricModuleNetOut (effSelectSelection core s) s := by
  unfold effSelectSelection OnlyCoresClustersPartsCtxsStoreHostQuillFabricModuleNetOut
  try dsimp only
  and_intros
  all_goals
    repeat' first
      | (with_reducible rfl)
      | split
      | (simp (disch := ((try intros); (try subst_vars); (repeat' split) <;> try simp)); done)
      | (apply foldl_pending <;> (intros; try subst_vars; try dsimp only)) | (apply foldl_bulk <;> (intros; try subst_vars; try dsimp only)) | (apply foldl_dev <;> (intros; try subst_vars; try dsimp only)) | (apply foldl_time <;> (intros; try subst_vars; try dsimp only)) | (apply foldl_free <;> (intros; try subst_vars; try dsimp only))
      | simp

@[simp] theorem effQstat_frame (a : Issue) (ra : BitVec 6) (q : BitVec 3) (fn : BitVec 3) (off : BitVec 6) (s : State) :
    OnlyCoresClustersPartsCtxsStoreHostQuillFabricModuleNetOut (effQstat a ra q fn off s) s := by
  unfold effQstat
  repeat' split
  all_goals simp [*]

@[simp] theorem State.resumeSend_frame (s : State) (n ch : Nat) :
    OnlyCoresPartsNet (State.resumeSend s n ch) s := by
  unfold State.resumeSend
  repeat' split
  all_goals simp [*]

@[simp] theorem State.resumeSends_frame (s : State) (p : Nat) :
    OnlyCoresPartsNet (State.resumeSends s p) s := by
  unfold State.resumeSends OnlyCoresPartsNet
  try dsimp only
  and_intros
  all_goals
    repeat' first
      | (with_reducible rfl)
      | split
      | (simp (disch := ((try intros); (try subst_vars); (repeat' split) <;> try simp)); done)
      | (apply foldl_pending <;> (intros; try subst_vars; try dsimp only)) | (apply foldl_clusters <;> (intros; try subst_vars; try dsimp only)) | (apply foldl_ctxs <;> (intros; try subst_vars; try dsimp only)) | (apply foldl_store <;> (intros; try subst_vars; try dsimp only)) | (apply foldl_bulk <;> (intros; try subst_vars; try dsimp only)) | (apply foldl_host <;> (intros; try subst_vars; try dsimp only)) | (apply foldl_dev <;> (intros; try subst_vars; try dsimp only)) | (apply foldl_quill <;> (intros; try subst_vars; try dsimp only)) | (apply foldl_fabric <;> (intros; try subst_vars; try dsimp only)) | (apply foldl_module_ <;> (intros; try subst_vars; try dsimp only)) | (apply foldl_time <;> (intros; try subst_vars; try dsimp only)) | (apply foldl_out <;> (intros; try subst_vars; try dsimp only)) | (apply foldl_free <;> (intros; try subst_vars; try dsimp only))
      | simp

@[simp] theorem effCreditReturn_frame (core : Fin 1536) (chan : BitVec 3) (s : State) :
    OnlyCoresPartsNet (effCreditReturn core chan s) s := by
  unfold effCreditReturn OnlyCoresPartsNet
  try dsimp only
  and_intros
  all_goals
    repeat' first
      | (with_reducible rfl)
      | split
      | (simp (disch := ((try intros); (try subst_vars); (repeat' split) <;> try simp)); done)
      | (apply foldl_pending <;> (intros; try subst_vars; try dsimp only)) | (apply foldl_clusters <;> (intros; try subst_vars; try dsimp only)) | (apply foldl_ctxs <;> (intros; try subst_vars; try dsimp only)) | (apply foldl_store <;> (intros; try subst_vars; try dsimp only)) | (apply foldl_bulk <;> (intros; try subst_vars; try dsimp only)) | (apply foldl_host <;> (intros; try subst_vars; try dsimp only)) | (apply foldl_dev <;> (intros; try subst_vars; try dsimp only)) | (apply foldl_quill <;> (intros; try subst_vars; try dsimp only)) | (apply foldl_fabric <;> (intros; try subst_vars; try dsimp only)) | (apply foldl_module_ <;> (intros; try subst_vars; try dsimp only)) | (apply foldl_time <;> (intros; try subst_vars; try dsimp only)) | (apply foldl_out <;> (intros; try subst_vars; try dsimp only)) | (apply foldl_free <;> (intros; try subst_vars; try dsimp only))
      | simp

@[simp] theorem effClosureNotice_frame (core : Fin 1536) (chan : BitVec 3) (s : State) :
    OnlyCoresPartsNet (effClosureNotice core chan s) s := by
  unfold effClosureNotice OnlyCoresPartsNet
  try dsimp only
  and_intros
  all_goals
    repeat' first
      | (with_reducible rfl)
      | split
      | (simp (disch := ((try intros); (try subst_vars); (repeat' split) <;> try simp)); done)
      | (apply foldl_pending <;> (intros; try subst_vars; try dsimp only)) | (apply foldl_clusters <;> (intros; try subst_vars; try dsimp only)) | (apply foldl_ctxs <;> (intros; try subst_vars; try dsimp only)) | (apply foldl_store <;> (intros; try subst_vars; try dsimp only)) | (apply foldl_bulk <;> (intros; try subst_vars; try dsimp only)) | (apply foldl_host <;> (intros; try subst_vars; try dsimp only)) | (apply foldl_dev <;> (intros; try subst_vars; try dsimp only)) | (apply foldl_quill <;> (intros; try subst_vars; try dsimp only)) | (apply foldl_fabric <;> (intros; try subst_vars; try dsimp only)) | (apply foldl_module_ <;> (intros; try subst_vars; try dsimp only)) | (apply foldl_time <;> (intros; try subst_vars; try dsimp only)) | (apply foldl_out <;> (intros; try subst_vars; try dsimp only)) | (apply foldl_free <;> (intros; try subst_vars; try dsimp only))
      | simp

@[simp] theorem State.sendDue_frame (s : State) (n ch : Nat) :
    OnlyCoresClustersPartsCtxsStoreHostQuillFabricModuleNetOut (State.sendDue s n ch) s := by
  unfold State.sendDue
  repeat' split
  all_goals simp [*]

@[simp] theorem effFreeTokenArrival_frame (core : Fin 1536) (chan : BitVec 3) (s0 : State) :
    OnlyCoresClustersPartsCtxsStoreHostQuillFabricModuleNetOut (effFreeTokenArrival core chan s0) s0 := by
  unfold effFreeTokenArrival OnlyCoresClustersPartsCtxsStoreHostQuillFabricModuleNetOut
  try dsimp only
  and_intros
  all_goals
    repeat' first
      | (with_reducible rfl)
      | split
      | (simp (disch := ((try intros); (try subst_vars); (repeat' split) <;> try simp)); done)
      | (apply foldl_pending <;> (intros; try subst_vars; try dsimp only)) | (apply foldl_bulk <;> (intros; try subst_vars; try dsimp only)) | (apply foldl_dev <;> (intros; try subst_vars; try dsimp only)) | (apply foldl_time <;> (intros; try subst_vars; try dsimp only)) | (apply foldl_free <;> (intros; try subst_vars; try dsimp only))
      | simp

end Sys2Proof.Machine
end

