-- ==== Sys2Proof/Laws/Steering.lean ====
section
/-!
SUPPORT. For each function of Machine/Steering.lean that answers a state: the fields it leaves as they were.
-/
namespace Sys2Proof.Machine
@[simp] theorem effSteer_frame (a : Issue) (ra : BitVec 6) (unit : BitVec 2) (s : State) :
    OnlyCoresClustersPartsCtxsStoreHostQuillFabricModuleNetOut (effSteer a ra unit s) s := by
  unfold effSteer
  repeat' split
  all_goals simp [*]

@[simp] theorem State.fireTick_frame (s : State) (n u : Nat) :
    OnlyCoresClustersPartsCtxsStoreHostQuillFabricModuleNetOut (State.fireTick s n u) s := by
  unfold State.fireTick
  repeat' split
  all_goals simp [*]

@[simp] theorem effSteerFire_frame (core : Fin 1536) (unit : BitVec 2) (par : Bool) (s0 : State) :
    OnlyCoresClustersPartsCtxsStoreHostQuillFabricModuleNetOut (effSteerFire core unit par s0) s0 := by
  unfold effSteerFire OnlyCoresClustersPartsCtxsStoreHostQuillFabricModuleNetOut
  try dsimp only
  and_intros
  all_goals
    repeat' first
      | (with_reducible rfl)
      | split
      | (simp (disch := ((try intros); (try subst_vars); (repeat' split) <;> try simp)); done)
      | (apply foldl_pending <;> (intros; try subst_vars; try dsimp only)) | (apply foldl_bulk <;> (intros; try subst_vars; try dsimp only)) | (apply foldl_dev <;> (intros; try subst_vars; try dsimp only)) | (apply foldl_time <;> (intros; try subst_vars; try dsimp only)) | (apply foldl_free <;> (intros; try subst_vars; try dsimp only))
      | simp

end Sys2Proof.Machine
end

