-- ==== Sys2Proof/Laws/Transfer.lean ====
section
/-!
SUPPORT. For each function of Machine/Transfer.lean that answers a state: the fields it leaves as they were.
-/
namespace Sys2Proof.Machine
@[simp] theorem effXfer_frame (a : Issue) (ra : BitVec 6) (ls : List (Nat × Ecc)) (s : State) :
    OnlyCoresClustersPartsCtxsStoreHostQuillFabricModuleNetOut (effXfer a ra ls s) s := by
  unfold effXfer
  repeat' split
  all_goals simp [*]

@[simp] theorem State.inkEcc_frame (s : State) (k off kind phase : Nat) (e : Ecc) :
    OnlyClustersStoreQuill (State.inkEcc s k off kind phase e) s := by
  unfold State.inkEcc
  repeat' split
  all_goals simp [*]

@[simp] theorem State.inkFind_frame (s : State) (k : Nat) (offs : List Nat) (kind phase : Nat) (l : List (Nat × Ecc)) :
    OnlyClustersStoreQuill (State.inkFind s k offs kind phase l) s := by
  unfold State.inkFind OnlyClustersStoreQuill
  try dsimp only
  and_intros
  all_goals
    repeat' first
      | (with_reducible rfl)
      | split
      | (simp (disch := ((try intros); (try subst_vars); (repeat' split) <;> try simp)); done)
      | (apply foldl_pending <;> (intros; try subst_vars; try dsimp only)) | (apply foldl_cores <;> (intros; try subst_vars; try dsimp only)) | (apply foldl_parts <;> (intros; try subst_vars; try dsimp only)) | (apply foldl_ctxs <;> (intros; try subst_vars; try dsimp only)) | (apply foldl_bulk <;> (intros; try subst_vars; try dsimp only)) | (apply foldl_host <;> (intros; try subst_vars; try dsimp only)) | (apply foldl_dev <;> (intros; try subst_vars; try dsimp only)) | (apply foldl_fabric <;> (intros; try subst_vars; try dsimp only)) | (apply foldl_module_ <;> (intros; try subst_vars; try dsimp only)) | (apply foldl_net <;> (intros; try subst_vars; try dsimp only)) | (apply foldl_time <;> (intros; try subst_vars; try dsimp only)) | (apply foldl_out <;> (intros; try subst_vars; try dsimp only)) | (apply foldl_free <;> (intros; try subst_vars; try dsimp only))
      | simp

@[simp] theorem State.inkSplit_frame (s : State) (k off : Nat) :
    OnlyClustersStore (State.inkSplit s k off) s := by
  unfold State.inkSplit
  repeat' split
  all_goals simp [*]

@[simp] theorem State.inkSplits_frame (s : State) (k : Nat) (offs : List Nat) (l : List Nat) :
    OnlyClustersStore (State.inkSplits s k offs l) s := by
  unfold State.inkSplits OnlyClustersStore
  try dsimp only
  and_intros
  all_goals
    repeat' first
      | (with_reducible rfl)
      | split
      | (simp (disch := ((try intros); (try subst_vars); (repeat' split) <;> try simp)); done)
      | (apply foldl_pending <;> (intros; try subst_vars; try dsimp only)) | (apply foldl_cores <;> (intros; try subst_vars; try dsimp only)) | (apply foldl_parts <;> (intros; try subst_vars; try dsimp only)) | (apply foldl_ctxs <;> (intros; try subst_vars; try dsimp only)) | (apply foldl_bulk <;> (intros; try subst_vars; try dsimp only)) | (apply foldl_host <;> (intros; try subst_vars; try dsimp only)) | (apply foldl_dev <;> (intros; try subst_vars; try dsimp only)) | (apply foldl_quill <;> (intros; try subst_vars; try dsimp only)) | (apply foldl_fabric <;> (intros; try subst_vars; try dsimp only)) | (apply foldl_module_ <;> (intros; try subst_vars; try dsimp only)) | (apply foldl_net <;> (intros; try subst_vars; try dsimp only)) | (apply foldl_time <;> (intros; try subst_vars; try dsimp only)) | (apply foldl_out <;> (intros; try subst_vars; try dsimp only)) | (apply foldl_free <;> (intros; try subst_vars; try dsimp only))
      | simp

@[simp] theorem State.checkTrap_frame (s : State) (n kind off : Nat) :
    OnlyCoresClustersPartsCtxsStoreHostQuillFabricModuleOut (State.checkTrap s n kind off) s := by
  unfold State.checkTrap
  repeat' split
  all_goals simp [*]

@[simp] theorem State.putFlits_frame (s : State) (n cycle : Nat) (x : Xfer) (fs : List Flit) :
    OnlyCores (State.putFlits s n cycle x fs) s := by
  unfold State.putFlits
  repeat' split
  all_goals simp [*]

@[simp] theorem State.landFlit_frame (s : State) (n st : Nat) (f : Flit) :
    OnlyCoresClustersPartsCtxsStoreHostQuillFabricModuleOut (State.landFlit s n st f) s := by
  unfold State.landFlit
  repeat' split
  all_goals simp [*]

@[simp] theorem State.countHostFail_frame (s : State) (f : Nat) :
    OnlyHost (State.countHostFail s f) s := by
  unfold State.countHostFail
  repeat' split
  all_goals simp [*]

@[simp] theorem State.noteWrite_frame (s : State) (n cycle off : Nat) (col : Bool) (ws : List (Word × Bool)) :
    OnlyClusters (State.noteWrite s n cycle off col ws) s := by
  unfold State.noteWrite
  repeat' split
  all_goals simp [*]

@[simp] theorem State.inkPut_frame (s : State) (n a : Nat) (col : Bool) (o : Nat) (ws : List (Word × Bool)) :
    OnlyClustersStore (State.inkPut s n a col o ws) s := by
  unfold State.inkPut
  repeat' split
  all_goals simp [*]

@[simp] theorem State.xferWrite_frame (s : State) (n a : Nat) (x : Xfer) (ws : List (Word × Bool)) :
    OnlyCoresClustersStore (State.xferWrite s n a x ws) s := by
  unfold State.xferWrite OnlyCoresClustersStore
  try dsimp only
  and_intros
  all_goals
    repeat' first
      | (with_reducible rfl)
      | split
      | (simp (disch := ((try intros); (try subst_vars); (repeat' split) <;> try simp)); done)
      | (apply foldl_pending <;> (intros; try subst_vars; try dsimp only)) | (apply foldl_parts <;> (intros; try subst_vars; try dsimp only)) | (apply foldl_ctxs <;> (intros; try subst_vars; try dsimp only)) | (apply foldl_bulk <;> (intros; try subst_vars; try dsimp only)) | (apply foldl_host <;> (intros; try subst_vars; try dsimp only)) | (apply foldl_dev <;> (intros; try subst_vars; try dsimp only)) | (apply foldl_quill <;> (intros; try subst_vars; try dsimp only)) | (apply foldl_fabric <;> (intros; try subst_vars; try dsimp only)) | (apply foldl_module_ <;> (intros; try subst_vars; try dsimp only)) | (apply foldl_net <;> (intros; try subst_vars; try dsimp only)) | (apply foldl_time <;> (intros; try subst_vars; try dsimp only)) | (apply foldl_out <;> (intros; try subst_vars; try dsimp only)) | (apply foldl_free <;> (intros; try subst_vars; try dsimp only))
      | simp

@[simp] theorem State.xferRequest_frame (s : State) (n a : Nat) (x : Xfer) :
    OnlyCores (State.xferRequest s n a x) s := by
  unfold State.xferRequest
  repeat' split
  all_goals simp [*]

@[simp] theorem State.xferStep_frame (s : State) (n t : Nat) (x : Xfer) :
    OnlyCores (State.xferStep s n t x) s := by
  unfold State.xferStep
  repeat' split
  all_goals simp [*]

@[simp] theorem State.lsFind_frame (s : State) (n a : Nat) (offs : List Nat) (l : List (Nat × Ecc)) :
    OnlyCoresQuill (State.lsFind s n a offs l) s := by
  unfold State.lsFind OnlyCoresQuill
  try dsimp only
  and_intros
  all_goals
    repeat' first
      | (with_reducible rfl)
      | split
      | (simp (disch := ((try intros); (try subst_vars); (repeat' split) <;> try simp)); done)
      | (apply foldl_pending <;> (intros; try subst_vars; try dsimp only)) | (apply foldl_clusters <;> (intros; try subst_vars; try dsimp only)) | (apply foldl_parts <;> (intros; try subst_vars; try dsimp only)) | (apply foldl_ctxs <;> (intros; try subst_vars; try dsimp only)) | (apply foldl_store <;> (intros; try subst_vars; try dsimp only)) | (apply foldl_bulk <;> (intros; try subst_vars; try dsimp only)) | (apply foldl_host <;> (intros; try subst_vars; try dsimp only)) | (apply foldl_dev <;> (intros; try subst_vars; try dsimp only)) | (apply foldl_fabric <;> (intros; try subst_vars; try dsimp only)) | (apply foldl_module_ <;> (intros; try subst_vars; try dsimp only)) | (apply foldl_net <;> (intros; try subst_vars; try dsimp only)) | (apply foldl_time <;> (intros; try subst_vars; try dsimp only)) | (apply foldl_out <;> (intros; try subst_vars; try dsimp only)) | (apply foldl_free <;> (intros; try subst_vars; try dsimp only))
      | simp

theorem State.xferRead_frame {s : State} {n a : Nat} {x : Xfer} {ecc : List (Nat × Ecc)} {split : List Nat} {y : State × Option (List (Word × Bool))} (h : State.xferRead s n a x ecc split = y) :
    OnlyCoresClustersPartsCtxsStoreHostQuillFabricModuleOut y.1 s := by
  unfold State.xferRead at h
  try dsimp only at h
  repeat' split at h
  all_goals (try cases h)
  all_goals try simp only [Option.some.injEq, Sum.inr.injEq, Option.map_eq_some_iff, Prod.mk.injEq] at h
  all_goals try subst h
  all_goals try simp [*]


@[simp] theorem State.xferRead_fst_frame (s : State) (n a : Nat) (x : Xfer) (ecc : List (Nat × Ecc)) (split : List Nat) : OnlyCoresClustersPartsCtxsStoreHostQuillFabricModuleOut (State.xferRead s n a x ecc split).1 s :=
  State.xferRead_frame rfl

@[simp] theorem State.xferPut_frame (s : State) (n t : Nat) (x : Xfer) (ws : List (Word × Bool)) :
    OnlyCoresClustersPartsCtxsStoreHostQuillFabricModuleOut (State.xferPut s n t x ws) s := by
  unfold State.xferPut
  repeat' split
  all_goals simp [*]

@[simp] theorem State.xferAccess_frame (s0 : State) (n t : Nat) (x : Xfer) (src dst : List (Nat × Ecc)) (split : List Nat) :
    OnlyCoresClustersPartsCtxsStoreHostQuillFabricModuleOut (State.xferAccess s0 n t x src dst split) s0 := by
  unfold State.xferAccess
  try dsimp only
  repeat' split
  all_goals (try have h_xferRead := State.xferRead_frame (by assumption))
  all_goals (try dsimp only at h_xferRead)
  all_goals simp [*]


@[simp] theorem State.beforeAccess_frame (s : State) (n : Nat) :
    OnlyCoresClustersPartsCtxsStoreHostQuillFabricModuleNetOut (State.beforeAccess s n) s := by
  unfold State.beforeAccess OnlyCoresClustersPartsCtxsStoreHostQuillFabricModuleNetOut
  try dsimp only
  and_intros
  all_goals
    repeat' first
      | (with_reducible rfl)
      | split
      | (simp (disch := ((try intros); (try subst_vars); (repeat' split) <;> try simp)); done)
      | (apply foldl_pending <;> (intros; try subst_vars; try dsimp only)) | (apply foldl_bulk <;> (intros; try subst_vars; try dsimp only)) | (apply foldl_dev <;> (intros; try subst_vars; try dsimp only)) | (apply foldl_time <;> (intros; try subst_vars; try dsimp only)) | (apply foldl_free <;> (intros; try subst_vars; try dsimp only))
      | simp

@[simp] theorem effXferAccess_frame (core : Fin 1536) (src dst : List (Nat × Ecc)) (split : List Nat) (s : State) :
    OnlyCoresClustersPartsCtxsStoreHostQuillFabricModuleNetOut (effXferAccess core src dst split s) s := by
  unfold effXferAccess OnlyCoresClustersPartsCtxsStoreHostQuillFabricModuleNetOut
  try dsimp only
  and_intros
  all_goals
    repeat' first
      | (with_reducible rfl)
      | split
      | (simp (disch := ((try intros); (try subst_vars); (repeat' split) <;> try simp)); done)
      | (apply foldl_pending <;> (intros; try subst_vars; try dsimp only)) | (apply foldl_bulk <;> (intros; try subst_vars; try dsimp only)) | (apply foldl_dev <;> (intros; try subst_vars; try dsimp only)) | (apply foldl_time <;> (intros; try subst_vars; try dsimp only)) | (apply foldl_free <;> (intros; try subst_vars; try dsimp only))
      | simp

end Sys2Proof.Machine
end

