-- ==== Sys2Proof/Laws/Routing.lean ====
section
/-!
SUPPORT. For each function of Machine/Routing.lean that answers a state: the fields it leaves as they were.
-/
namespace Sys2Proof.Machine
theorem State.popLanding_frame {s : State} {f slice : Nat} {y : Flit × State} (h : State.popLanding s f slice = some y) :
    OnlyFabric y.2 s := by
  unfold State.popLanding at h
  try dsimp only at h
  repeat' split at h
  all_goals (try cases h)
  all_goals try simp only [Option.some.injEq, Sum.inr.injEq, Option.map_eq_some_iff, Prod.mk.injEq] at h
  all_goals try subst h
  all_goals try simp [*]


@[simp] theorem State.takeLanding_frame (s : State) (src : Place) (port slice : Nat) :
    OnlyCoresClustersPartsCtxsStoreBulkHostQuillFabricModuleOut (State.takeLanding s src port slice) s := by
  unfold State.takeLanding
  split
  · simp
  · split
    · simp
    · rename_i heq
      split at heq
      · have h1 := State.popLanding_frame heq
        simp_all
      · cases heq

@[simp] theorem State.takeAt_frame (s : State) (src : Place) :
    OnlyCoresClustersPartsCtxsStoreBulkHostQuillFabricModuleNetOut (State.takeAt s src) s := by
  unfold State.takeAt OnlyCoresClustersPartsCtxsStoreBulkHostQuillFabricModuleNetOut
  try dsimp only
  and_intros
  all_goals
    repeat' first
      | (with_reducible rfl)
      | split
      | (simp (disch := ((try intros); (try subst_vars); (repeat' split) <;> try simp)); done)
      | (apply foldl_pending <;> (intros; try subst_vars; try dsimp only)) | (apply foldl_dev <;> (intros; try subst_vars; try dsimp only)) | (apply foldl_time <;> (intros; try subst_vars; try dsimp only)) | (apply foldl_free <;> (intros; try subst_vars; try dsimp only))
      | simp

@[simp] theorem State.parityError_frame (s : State) (h : ParityHit) :
    OnlyClustersHostQuillModuleOut (State.parityError s h) s := by
  unfold State.parityError
  repeat' split
  all_goals simp [*]

@[simp] theorem State.blotBehind_frame (s : State) (k key : Nat) (h : ParityHit) :
    OnlyClusters (State.blotBehind s k key h) s := by
  unfold State.blotBehind
  repeat' split
  all_goals simp [*]

@[simp] theorem State.linkHit_frame (s : State) (k key : Nat) (h : Option ParityHit) :
    OnlyClustersHostQuillModuleOut (State.linkHit s k key h) s := by
  unfold State.linkHit
  repeat' split
  all_goals simp [*]

theorem State.reach_frame {s : State} {k key : Nat} {test : Arrival → Bool} {h : Option ParityHit} {y : Flit × Arrival × State} (h : State.reach s k key test h = some y) :
    OnlyClustersHostQuillModuleOut y.2.2 s := by
  rw [State.reach, Option.map_eq_some_iff] at h
  obtain ⟨a, -, rfl⟩ := h
  simp

theorem State.move_frame {s : State} {src : Place} {test : Arrival → Bool} {h : Option ParityHit} {y : Flit × Arrival × State} (h : State.move s src test h = some y) :
    OnlyCoresClustersPartsCtxsStoreBulkHostQuillFabricModuleNetOut y.2.2 s := by
  unfold State.move at h
  try dsimp only at h
  repeat' split at h
  all_goals (try cases h)
  all_goals try simp only [Option.some.injEq, Sum.inr.injEq, Option.map_eq_some_iff, Prod.mk.injEq] at h
  all_goals try subst h
  all_goals (try have h_reach := State.reach_frame (by assumption))
  all_goals (try dsimp only at h_reach)
  all_goals try simp [*]


@[simp] theorem State.dropUnread_frame (s : State) (src : Place) (h : Option ParityHit) :
    OnlyCoresClustersPartsCtxsStoreBulkHostQuillFabricModuleNetOut (State.dropUnread s src h) s := by
  unfold State.dropUnread
  repeat' split
  all_goals simp [*]

@[simp] theorem State.arriveLocal_frame (s : State) (a : Arrival) (f : Flit) :
    OnlyCoresClustersPartsCtxsStoreHostQuillFabricModuleOut (State.arriveLocal s a f) s := by
  unfold State.arriveLocal OnlyCoresClustersPartsCtxsStoreHostQuillFabricModuleOut
  try dsimp only
  and_intros
  all_goals
    repeat' first
      | (with_reducible rfl)
      | split
      | (simp (disch := ((try intros); (try subst_vars); (repeat' split) <;> try simp)); done)
      | (apply foldl_pending <;> (intros; try subst_vars; try dsimp only)) | (apply foldl_bulk <;> (intros; try subst_vars; try dsimp only)) | (apply foldl_dev <;> (intros; try subst_vars; try dsimp only)) | (apply foldl_net <;> (intros; try subst_vars; try dsimp only)) | (apply foldl_time <;> (intros; try subst_vars; try dsimp only)) | (apply foldl_free <;> (intros; try subst_vars; try dsimp only))
      | simp

theorem State.deliverAt_frame {s : State} {src dst : RulingSlot} {kinds : Nat → Bool} {h : Option ParityHit} {y : State} (h : State.deliverAt s src dst kinds h = some y) :
    OnlyCoresClustersPartsCtxsStoreBulkHostQuillFabricModuleNetOut y s := by
  unfold State.deliverAt at h
  dsimp only at h
  split at h
  · rw [Option.map_eq_some_iff] at h
    obtain ⟨a, h1, rfl⟩ := h
    have h2 := State.move_frame h1
    simp_all
  · cases h

@[simp] theorem effTokenDelivery_frame (src dst : RulingSlot) (parity : Option ParityHit) (s : State) :
    OnlyCoresClustersPartsCtxsStoreBulkHostQuillFabricModuleNetOut (effTokenDelivery src dst parity s) s := by
  unfold effTokenDelivery
  cases h : s.deliverAt src dst _ parity with
  | none => simp
  | some u => have h1 := State.deliverAt_frame h; simp_all

@[simp] theorem effSteerInputDelivery_frame (src dst : RulingSlot) (parity : Option ParityHit) (s : State) :
    OnlyCoresClustersPartsCtxsStoreBulkHostQuillFabricModuleNetOut (effSteerInputDelivery src dst parity s) s := by
  unfold effSteerInputDelivery
  cases h : s.deliverAt src dst _ parity with
  | none => simp
  | some u => have h1 := State.deliverAt_frame h; simp_all

@[simp] theorem State.freeContribution_frame (s : State) (n ch : Nat) :
    OnlyCoresClustersPartsCtxsStoreHostQuillFabricModuleNetOut (State.freeContribution s n ch) s := by
  unfold State.freeContribution
  repeat' split
  all_goals simp [*]

@[simp] theorem effContributionArrival_frame (src : ContribSrc) (s : State) :
    OnlyCoresClustersPartsCtxsStoreBulkHostQuillFabricModuleNetOut (effContributionArrival src s) s := by
  unfold effContributionArrival
  split
  · rename_i a d h
    cases h1 : s.deliverAt a d _ h with
    | none => simp
    | some u => have h2 := State.deliverAt_frame h1; simp_all
  · simp

end Sys2Proof.Machine
end

