-- ==== Sys2Proof/Laws/Bulk.lean ====
section
/-!
SUPPORT. For each function of Machine/Bulk.lean that answers a state: the fields it leaves as they were.
-/
namespace Sys2Proof.Machine
@[simp] theorem State.requestFault_frame (s : State) (m kind : Nat) (r : Request) :
    OnlyCoresPartsCtxsStoreBulkHostQuillFabricModuleOut (State.requestFault s m kind r) s := by
  unfold State.requestFault
  repeat' split
  all_goals simp [*]

@[simp] theorem State.queueRead_frame (s : State) (m : Nat) (slice : Bool) (since : Nat) (lo hi : Flit) :
    OnlyBulk (State.queueRead s m slice since lo hi) s := by
  unfold State.queueRead
  repeat' split
  all_goals simp [*]

@[simp] theorem State.mcRead_frame (s : State) (m line : Nat) (slice : Bool) (since : Nat) (f : Finds) :
    OnlyStoreBulkHostQuillModuleOut (State.mcRead s m line slice since f) s := by
  unfold State.mcRead
  repeat' split
  all_goals simp [*]

@[simp] theorem State.mcWrite_frame (s : State) (line : Nat) (data : List Flit) :
    OnlyStore (State.mcWrite s line data) s := by
  unfold State.mcWrite
  repeat' split
  all_goals simp [*]

@[simp] theorem State.copyOnWrite_frame (s0 : State) (slot n pn q : Nat) (l : List LineFind) :
    OnlyStoreBulkHostQuillModuleOut (State.copyOnWrite s0 slot n pn q l) s0 := by
  unfold State.copyOnWrite
  repeat' split
  all_goals simp [*]

@[simp] theorem State.freshPage_frame (s : State) (slot n q : Nat) :
    OnlyStore (State.freshPage s slot n q) s := by
  unfold State.freshPage
  repeat' split
  all_goals simp [*]

theorem State.pageForWrite_frame {s : State} {slot n : Nat} {l : List LineFind} {y : Nat × State} (h : State.pageForWrite s slot n l = some y) :
    OnlyStoreBulkHostQuillModuleOut y.2 s := by
  unfold State.pageForWrite at h
  repeat' split at h
  all_goals (try cases h)
  all_goals simp

@[simp] theorem State.servePage_frame (s : State) (m : Nat) (r : Request) (data : List Flit) (since : Nat) (f : Finds) :
    OnlyCoresPartsCtxsStoreBulkHostQuillFabricModuleOut (State.servePage s m r data since f) s := by
  unfold State.servePage
  try dsimp only
  repeat' split
  all_goals (try have h_pageForWrite := State.pageForWrite_frame (by assumption))
  all_goals (try dsimp only at h_pageForWrite)
  all_goals simp [*]


@[simp] theorem State.queueHost_frame (s : State) (m : Nat) (slice : Bool) (since : Nat) (data : List Byte) (blot : Bool) :
    OnlyBulk (State.queueHost s m slice since data blot) s := by
  unfold State.queueHost
  repeat' split
  all_goals simp [*]

@[simp] theorem State.serveHost_frame (s : State) (m : Nat) (r : Request) (data : List Flit) (since : Nat) :
    OnlyCoresPartsCtxsStoreBulkHostQuillFabricModuleOut (State.serveHost s m r data since) s := by
  unfold State.serveHost
  repeat' split
  all_goals simp [*]

@[simp] theorem State.hostArrives_frame (s : State) (n : Nat) (data : List Byte) (blot : Bool) :
    OnlyBulk (State.hostArrives s n data blot) s := by
  unfold State.hostArrives
  repeat' split
  all_goals simp [*]

@[simp] theorem effHostReadCompletion_frame (core : Fin 1536) (data : Option (List Byte)) (poisoned : Bool) (s : State) :
    OnlyBulkHost (effHostReadCompletion core data poisoned s) s := by
  unfold effHostReadCompletion OnlyBulkHost
  try dsimp only
  and_intros
  all_goals
    repeat' first
      | (with_reducible rfl)
      | split
      | (simp (disch := ((try intros); (try subst_vars); (repeat' split) <;> try simp)); done)
      | (apply foldl_pending <;> (intros; try subst_vars; try dsimp only)) | (apply foldl_cores <;> (intros; try subst_vars; try dsimp only)) | (apply foldl_clusters <;> (intros; try subst_vars; try dsimp only)) | (apply foldl_parts <;> (intros; try subst_vars; try dsimp only)) | (apply foldl_ctxs <;> (intros; try subst_vars; try dsimp only)) | (apply foldl_store <;> (intros; try subst_vars; try dsimp only)) | (apply foldl_dev <;> (intros; try subst_vars; try dsimp only)) | (apply foldl_quill <;> (intros; try subst_vars; try dsimp only)) | (apply foldl_fabric <;> (intros; try subst_vars; try dsimp only)) | (apply foldl_module_ <;> (intros; try subst_vars; try dsimp only)) | (apply foldl_net <;> (intros; try subst_vars; try dsimp only)) | (apply foldl_time <;> (intros; try subst_vars; try dsimp only)) | (apply foldl_out <;> (intros; try subst_vars; try dsimp only)) | (apply foldl_free <;> (intros; try subst_vars; try dsimp only))
      | simp

@[simp] theorem State.serveUnit_frame (s : State) (q : McSpine) :
    OnlyClustersStoreHostFabricOut (State.serveUnit s q) s := by
  unfold State.serveUnit
  repeat' split
  all_goals simp [*]

@[simp] theorem State.serve_frame (s : State) (m : Nat) (q : McPending) (f : Finds) :
    OnlyCoresClustersPartsCtxsStoreBulkHostQuillFabricModuleOut (State.serve s m q f) s := by
  unfold State.serve OnlyCoresClustersPartsCtxsStoreBulkHostQuillFabricModuleOut
  try dsimp only
  and_intros
  all_goals
    repeat' first
      | (with_reducible rfl)
      | split
      | (simp (disch := ((try intros); (try subst_vars); (repeat' split) <;> try simp)); done)
      | (apply foldl_pending <;> (intros; try subst_vars; try dsimp only)) | (apply foldl_dev <;> (intros; try subst_vars; try dsimp only)) | (apply foldl_net <;> (intros; try subst_vars; try dsimp only)) | (apply foldl_time <;> (intros; try subst_vars; try dsimp only)) | (apply foldl_free <;> (intros; try subst_vars; try dsimp only))
      | simp

@[simp] theorem State.serveFront_frame (fuel : Nat) (s : State) (m : Nat) (first : Finds) :
    OnlyCoresClustersPartsCtxsStoreBulkHostQuillFabricModuleOut (State.serveFront fuel s m first) s := by
  induction fuel generalizing s first with
  | zero => simp [State.serveFront]
  | succ f ih =>
    unfold State.serveFront
    repeat' split
    all_goals simp_all

@[simp] theorem State.serveAll_frame (s : State) (m : Nat) (f : Finds) :
    OnlyCoresClustersPartsCtxsStoreBulkHostQuillFabricModuleOut (State.serveAll s m f) s := by
  unfold State.serveAll
  repeat' split
  all_goals simp [*]

@[simp] theorem State.serveEvery_frame (s : State) (f : Finds) :
    OnlyCoresClustersPartsCtxsStoreBulkHostQuillFabricModuleOut (State.serveEvery s f) s := by
  unfold State.serveEvery
  repeat' split
  all_goals simp [*]

@[simp] theorem State.markBusy_frame (s : State) (r : Request) :
    OnlyBulk (State.markBusy s r) s := by
  unfold State.markBusy
  repeat' split
  all_goals simp [*]

@[simp] theorem State.mcQueue_frame (s : State) (m : Nat) (request : Flit) (data : List Flit) (unit : Option McSpine) :
    OnlyBulk (State.mcQueue s m request data unit) s := by
  unfold State.mcQueue
  repeat' split
  all_goals simp [*]

@[simp] theorem State.mcArrive_frame (s : State) (m slice : Nat) (f : Flit) :
    OnlyBulk (State.mcArrive s m slice f) s := by
  unfold State.mcArrive OnlyBulk
  try dsimp only
  and_intros
  all_goals
    repeat' first
      | (with_reducible rfl)
      | split
      | (simp (disch := ((try intros); (try subst_vars); (repeat' split) <;> try simp)); done)
      | (apply foldl_pending <;> (intros; try subst_vars; try dsimp only)) | (apply foldl_cores <;> (intros; try subst_vars; try dsimp only)) | (apply foldl_clusters <;> (intros; try subst_vars; try dsimp only)) | (apply foldl_parts <;> (intros; try subst_vars; try dsimp only)) | (apply foldl_ctxs <;> (intros; try subst_vars; try dsimp only)) | (apply foldl_store <;> (intros; try subst_vars; try dsimp only)) | (apply foldl_host <;> (intros; try subst_vars; try dsimp only)) | (apply foldl_dev <;> (intros; try subst_vars; try dsimp only)) | (apply foldl_quill <;> (intros; try subst_vars; try dsimp only)) | (apply foldl_fabric <;> (intros; try subst_vars; try dsimp only)) | (apply foldl_module_ <;> (intros; try subst_vars; try dsimp only)) | (apply foldl_net <;> (intros; try subst_vars; try dsimp only)) | (apply foldl_time <;> (intros; try subst_vars; try dsimp only)) | (apply foldl_out <;> (intros; try subst_vars; try dsimp only)) | (apply foldl_free <;> (intros; try subst_vars; try dsimp only))
      | simp

@[simp] theorem effMcRequest_frame (m : Fin 16) (src : RequestSrc) (ecc linkEcc tblEcc : Ecc) (lines : List LineFind) (s : State) :
    OnlyCoresClustersPartsCtxsStoreBulkHostQuillFabricModuleNetOut (effMcRequest m src ecc linkEcc tblEcc lines s) s := by
  unfold effMcRequest
  try dsimp only
  repeat' split
  all_goals (try have h_move := State.move_frame (by assumption))
  all_goals (try dsimp only at h_move)
  all_goals simp [*]


theorem State.popMcRead_frame {s : State} {m : Nat} {slice : Bool} {y : Flit × State} (h : State.popMcRead s m slice = some y) :
    OnlyBulk y.2 s := by
  unfold State.popMcRead at h
  try dsimp only at h
  repeat' split at h
  all_goals (try cases h)
  all_goals try simp only [Option.some.injEq, Sum.inr.injEq, Option.map_eq_some_iff, Prod.mk.injEq] at h
  all_goals try subst h
  all_goals try simp [*]


@[simp] theorem State.takeRead_frame (s : State) (m : Nat) (slice : Bool) (p : Place) :
    OnlyClustersPartsBulk (State.takeRead s m slice p) s := by
  unfold State.takeRead
  try dsimp only
  repeat' split
  all_goals (try have h_popMcRead := State.popMcRead_frame (by assumption))
  all_goals (try dsimp only at h_popMcRead)
  all_goals simp [*]


@[simp] theorem State.dropRead_frame (s : State) (p : Place) (h : Option ParityHit) :
    OnlyClustersHostQuillModuleOut (State.dropRead s p h) s := by
  unfold State.dropRead
  repeat' split
  all_goals simp [*]

@[simp] theorem effMcReadDataReturn_frame (m : Fin 16) (slice : Bool) (slot : Byte) (dst : RulingSlot) (parity : Option ParityHit) (s : State) :
    OnlyCoresClustersPartsCtxsStoreBulkHostQuillFabricModuleOut (effMcReadDataReturn m slice slot dst parity s) s := by
  unfold effMcReadDataReturn
  try dsimp only
  repeat' split
  all_goals (try have h_reach := State.reach_frame (by assumption))
  all_goals (try dsimp only at h_reach)
  all_goals simp [*]


@[simp] theorem State.withFront_pending (s : State) (m : Nat) (test : Request → Bool) (lines : List LineFind) (f : State → McPending → Request → State) (hf : ∀ x0 x1 x2 y, y = f x0 x1 x2 → y.pending = x0.pending) :
    (State.withFront s m test lines f).pending = s.pending := by
  have gf := fun x0 x1 x2 => hf x0 x1 x2 _ rfl
  unfold State.withFront
  dsimp only
  repeat' split
  all_goals simp [gf]

@[simp] theorem State.withFront_dev (s : State) (m : Nat) (test : Request → Bool) (lines : List LineFind) (f : State → McPending → Request → State) (hf : ∀ x0 x1 x2 y, y = f x0 x1 x2 → y.dev = x0.dev) :
    (State.withFront s m test lines f).dev = s.dev := by
  have gf := fun x0 x1 x2 => hf x0 x1 x2 _ rfl
  unfold State.withFront
  dsimp only
  repeat' split
  all_goals simp [gf]

@[simp] theorem State.withFront_net (s : State) (m : Nat) (test : Request → Bool) (lines : List LineFind) (f : State → McPending → Request → State) (hf : ∀ x0 x1 x2 y, y = f x0 x1 x2 → y.net = x0.net) :
    (State.withFront s m test lines f).net = s.net := by
  have gf := fun x0 x1 x2 => hf x0 x1 x2 _ rfl
  unfold State.withFront
  dsimp only
  repeat' split
  all_goals simp [gf]

@[simp] theorem State.withFront_time (s : State) (m : Nat) (test : Request → Bool) (lines : List LineFind) (f : State → McPending → Request → State) (hf : ∀ x0 x1 x2 y, y = f x0 x1 x2 → y.time = x0.time) :
    (State.withFront s m test lines f).time = s.time := by
  have gf := fun x0 x1 x2 => hf x0 x1 x2 _ rfl
  unfold State.withFront
  dsimp only
  repeat' split
  all_goals simp [gf]

@[simp] theorem State.withFront_free (s : State) (m : Nat) (test : Request → Bool) (lines : List LineFind) (f : State → McPending → Request → State) (hf : ∀ x0 x1 x2 y, y = f x0 x1 x2 → y.free = x0.free) :
    (State.withFront s m test lines f).free = s.free := by
  have gf := fun x0 x1 x2 => hf x0 x1 x2 _ rfl
  unfold State.withFront
  dsimp only
  repeat' split
  all_goals simp [gf]

@[simp] theorem State.servePosition_frame (s : State) (m : Nat) (q : McPending) (r : Request) :
    OnlyCoresPartsCtxsStoreBulkHostQuillFabricModuleOut (State.servePosition s m q r) s := by
  unfold State.servePosition
  repeat' split
  all_goals simp [*]

@[simp] theorem effPositionWrite_frame (m : Fin 16) (lines : List LineFind) (s : State) :
    OnlyCoresClustersPartsCtxsStoreBulkHostQuillFabricModuleOut (effPositionWrite m lines s) s := by
  unfold effPositionWrite OnlyCoresClustersPartsCtxsStoreBulkHostQuillFabricModuleOut
  try dsimp only
  and_intros
  all_goals
    repeat' first
      | (with_reducible rfl)
      | split
      | (simp (disch := ((try intros); (try subst_vars); (repeat' split) <;> try simp)); done)
      | (apply foldl_pending <;> (intros; try subst_vars; try dsimp only)) | (apply foldl_dev <;> (intros; try subst_vars; try dsimp only)) | (apply foldl_net <;> (intros; try subst_vars; try dsimp only)) | (apply foldl_time <;> (intros; try subst_vars; try dsimp only)) | (apply foldl_free <;> (intros; try subst_vars; try dsimp only)) | (apply State.withFront_pending <;> (intros; try subst_vars; try dsimp only)) | (apply State.withFront_dev <;> (intros; try subst_vars; try dsimp only)) | (apply State.withFront_net <;> (intros; try subst_vars; try dsimp only)) | (apply State.withFront_time <;> (intros; try subst_vars; try dsimp only)) | (apply State.withFront_free <;> (intros; try subst_vars; try dsimp only))
      | simp

@[simp] theorem State.notBusy_frame (s : State) (n : Nat) :
    OnlyBulk (State.notBusy s n) s := by
  unfold State.notBusy
  repeat' split
  all_goals simp [*]

@[simp] theorem State.slotCommand_pending (s : State) (m : Nat) (r : Request) (res : SlotRefusal ⊕ State) (hres : ∀ t, res = .inr t → t.pending = s.pending) :
    (State.slotCommand s m r res).pending = s.pending := by
  unfold State.slotCommand
  repeat' split
  all_goals simp [*]

@[simp] theorem State.slotCommand_dev (s : State) (m : Nat) (r : Request) (res : SlotRefusal ⊕ State) (hres : ∀ t, res = .inr t → t.dev = s.dev) :
    (State.slotCommand s m r res).dev = s.dev := by
  unfold State.slotCommand
  repeat' split
  all_goals simp [*]

@[simp] theorem State.slotCommand_net (s : State) (m : Nat) (r : Request) (res : SlotRefusal ⊕ State) (hres : ∀ t, res = .inr t → t.net = s.net) :
    (State.slotCommand s m r res).net = s.net := by
  unfold State.slotCommand
  repeat' split
  all_goals simp [*]

@[simp] theorem State.slotCommand_time (s : State) (m : Nat) (r : Request) (res : SlotRefusal ⊕ State) (hres : ∀ t, res = .inr t → t.time = s.time) :
    (State.slotCommand s m r res).time = s.time := by
  unfold State.slotCommand
  repeat' split
  all_goals simp [*]

@[simp] theorem State.slotCommand_free (s : State) (m : Nat) (r : Request) (res : SlotRefusal ⊕ State) (hres : ∀ t, res = .inr t → t.free = s.free) :
    (State.slotCommand s m r res).free = s.free := by
  unfold State.slotCommand
  repeat' split
  all_goals simp [*]

@[simp] theorem State.serveFork_frame (s : State) (m : Nat) (r : Request) (tbl : List (BitVec 22 × Ecc)) (lines : List LineFind) :
    OnlyCoresClustersPartsCtxsStoreBulkHostQuillFabricModuleOut (State.serveFork s m r tbl lines) s := by
  unfold State.serveFork OnlyCoresClustersPartsCtxsStoreBulkHostQuillFabricModuleOut
  dsimp only
  and_intros
  · exact (State.slotCommand_pending (hres := fun u h => by simp [State.forkSlot_frame h]) ..).trans (by simp)
  · exact (State.slotCommand_dev (hres := fun u h => by simp [State.forkSlot_frame h]) ..).trans (by simp)
  · exact (State.slotCommand_net (hres := fun u h => by simp [State.forkSlot_frame h]) ..).trans (by simp)
  · exact (State.slotCommand_time (hres := fun u h => by simp [State.forkSlot_frame h]) ..).trans (by simp)
  · exact (State.slotCommand_free (hres := fun u h => by simp [State.forkSlot_frame h]) ..).trans (by simp)

@[simp] theorem State.serveRewind_frame (s : State) (m : Nat) (r : Request) (tbl : List (BitVec 22 × Ecc)) (lines : List LineFind) :
    OnlyCoresClustersPartsCtxsStoreBulkHostQuillFabricModuleOut (State.serveRewind s m r tbl lines) s := by
  unfold State.serveRewind OnlyCoresClustersPartsCtxsStoreBulkHostQuillFabricModuleOut
  dsimp only
  and_intros
  · exact (State.slotCommand_pending (hres := fun u h => by simp [State.rewindSlot_frame h]) ..).trans (by simp)
  · exact (State.slotCommand_dev (hres := fun u h => by simp [State.rewindSlot_frame h]) ..).trans (by simp)
  · exact (State.slotCommand_net (hres := fun u h => by simp [State.rewindSlot_frame h]) ..).trans (by simp)
  · exact (State.slotCommand_time (hres := fun u h => by simp [State.rewindSlot_frame h]) ..).trans (by simp)
  · exact (State.slotCommand_free (hres := fun u h => by simp [State.rewindSlot_frame h]) ..).trans (by simp)

@[simp] theorem State.serveAccept_frame (s : State) (m : Nat) (r : Request) (tbl child : List (BitVec 22 × Ecc)) (lines : List LineFind) :
    OnlyCoresClustersPartsCtxsStoreBulkHostQuillFabricModuleOut (State.serveAccept s m r tbl child lines) s := by
  unfold State.serveAccept OnlyCoresClustersPartsCtxsStoreBulkHostQuillFabricModuleOut
  dsimp only
  and_intros
  · exact (State.slotCommand_pending (hres := fun u h => by simp [State.acceptSlot_frame h]) ..).trans (by simp)
  · exact (State.slotCommand_dev (hres := fun u h => by simp [State.acceptSlot_frame h]) ..).trans (by simp)
  · exact (State.slotCommand_net (hres := fun u h => by simp [State.acceptSlot_frame h]) ..).trans (by simp)
  · exact (State.slotCommand_time (hres := fun u h => by simp [State.acceptSlot_frame h]) ..).trans (by simp)
  · exact (State.slotCommand_free (hres := fun u h => by simp [State.acceptSlot_frame h]) ..).trans (by simp)

@[simp] theorem State.serveAny_frame (s : State) (m : Nat) (q : McPending) (l : List LineFind) :
    OnlyCoresClustersPartsCtxsStoreBulkHostQuillFabricModuleOut (State.serveAny s m q l) s := by
  unfold State.serveAny
  repeat' split
  all_goals simp [*]

@[simp] theorem State.serveBefore_frame (fuel : Nat) (s : State) (m : Nat) (l : List LineFind) :
    OnlyCoresClustersPartsCtxsStoreBulkHostQuillFabricModuleOut (State.serveBefore fuel s m l) s := by
  induction fuel generalizing s with
  | zero => simp [State.serveBefore]
  | succ f ih =>
    unfold State.serveBefore
    repeat' split
    all_goals simp_all

@[simp] theorem State.completeHeld_frame (s : State) (m : Nat) (l : List LineFind) :
    OnlyCoresClustersPartsCtxsStoreBulkHostQuillFabricModuleOut (State.completeHeld s m l) s := by
  unfold State.completeHeld
  repeat' split
  all_goals simp [*]

@[simp] theorem effSlotCmdFork_frame (m : Fin 16) (tbl : List (BitVec 22 × Ecc)) (lines : List LineFind) (s : State) :
    OnlyCoresClustersPartsCtxsStoreBulkHostQuillFabricModuleOut (effSlotCmdFork m tbl lines s) s := by
  unfold effSlotCmdFork OnlyCoresClustersPartsCtxsStoreBulkHostQuillFabricModuleOut
  and_intros
  · exact State.withFront_pending (hf := fun t q r y hy => by subst hy; simp) ..
  · exact State.withFront_dev (hf := fun t q r y hy => by subst hy; simp) ..
  · exact State.withFront_net (hf := fun t q r y hy => by subst hy; simp) ..
  · exact State.withFront_time (hf := fun t q r y hy => by subst hy; simp) ..
  · exact State.withFront_free (hf := fun t q r y hy => by subst hy; simp) ..

@[simp] theorem effSlotCmdRewind_frame (m : Fin 16) (tbl : List (BitVec 22 × Ecc)) (lines : List LineFind) (s : State) :
    OnlyCoresClustersPartsCtxsStoreBulkHostQuillFabricModuleOut (effSlotCmdRewind m tbl lines s) s := by
  unfold effSlotCmdRewind OnlyCoresClustersPartsCtxsStoreBulkHostQuillFabricModuleOut
  and_intros
  · exact State.withFront_pending (hf := fun t q r y hy => by subst hy; simp) ..
  · exact State.withFront_dev (hf := fun t q r y hy => by subst hy; simp) ..
  · exact State.withFront_net (hf := fun t q r y hy => by subst hy; simp) ..
  · exact State.withFront_time (hf := fun t q r y hy => by subst hy; simp) ..
  · exact State.withFront_free (hf := fun t q r y hy => by subst hy; simp) ..

@[simp] theorem effSlotCmdAccept_frame (m : Fin 16) (tbl child : List (BitVec 22 × Ecc)) (lines : List LineFind) (s : State) :
    OnlyCoresClustersPartsCtxsStoreBulkHostQuillFabricModuleOut (effSlotCmdAccept m tbl child lines s) s := by
  unfold effSlotCmdAccept OnlyCoresClustersPartsCtxsStoreBulkHostQuillFabricModuleOut
  and_intros
  · exact State.withFront_pending (hf := fun t q r y hy => by subst hy; simp) ..
  · exact State.withFront_dev (hf := fun t q r y hy => by subst hy; simp) ..
  · exact State.withFront_net (hf := fun t q r y hy => by subst hy; simp) ..
  · exact State.withFront_time (hf := fun t q r y hy => by subst hy; simp) ..
  · exact State.withFront_free (hf := fun t q r y hy => by subst hy; simp) ..

@[simp] theorem effMcRefresh_frame (m : Fin 16) (s : State) :
    OnlyBulk (effMcRefresh m s) s := by
  unfold effMcRefresh
  repeat' split
  all_goals simp [*]

@[simp] theorem effMcWckCheck_frame (m : Fin 16) (chan : BitVec 2) (begin_ : Bool) (lines : List LineFind) (s : State) :
    OnlyCoresClustersPartsCtxsStoreBulkHostQuillFabricModuleOut (effMcWckCheck m chan begin_ lines s) s := by
  unfold effMcWckCheck
  repeat' split
  all_goals simp [*]

@[simp] theorem effMcLinkPoll_frame (m : Fin 16) (errors : Byte) (s : State) :
    OnlyBulk (effMcLinkPoll m errors s) s := by
  unfold effMcLinkPoll
  repeat' split
  all_goals simp [*]

@[simp] theorem effMcScrubRead_frame (m : Fin 16) (ecc linkEcc : Ecc) (s : State) :
    OnlyStoreBulkHostQuillModuleOut (effMcScrubRead m ecc linkEcc s) s := by
  unfold effMcScrubRead
  repeat' split
  all_goals simp [*]

end Sys2Proof.Machine
end

