-- ==== Sys2Proof/Laws/Inkwell.lean ====
section
/-!
SUPPORT. For each function of Machine/Inkwell.lean that answers a state: the fields it leaves as they were.
-/
namespace Sys2Proof.Machine
@[simp] theorem State.dropStream_frame (s : State) (n st m : Nat) :
    OnlyCores (State.dropStream s n st m) s := by
  unfold State.dropStream
  repeat' split
  all_goals simp [*]

@[simp] theorem State.beginLanding_frame (s : State) (k : Nat) :
    OnlyCoresClusters (State.beginLanding s k) s := by
  unfold State.beginLanding OnlyCoresClusters
  try dsimp only
  and_intros
  all_goals
    repeat' first
      | (with_reducible rfl)
      | split
      | (simp (disch := ((try intros); (try subst_vars); (repeat' split) <;> try simp)); done)
      | (apply foldl_pending <;> (intros; try subst_vars; try dsimp only)) | (apply foldl_parts <;> (intros; try subst_vars; try dsimp only)) | (apply foldl_ctxs <;> (intros; try subst_vars; try dsimp only)) | (apply foldl_store <;> (intros; try subst_vars; try dsimp only)) | (apply foldl_bulk <;> (intros; try subst_vars; try dsimp only)) | (apply foldl_host <;> (intros; try subst_vars; try dsimp only)) | (apply foldl_dev <;> (intros; try subst_vars; try dsimp only)) | (apply foldl_quill <;> (intros; try subst_vars; try dsimp only)) | (apply foldl_fabric <;> (intros; try subst_vars; try dsimp only)) | (apply foldl_module_ <;> (intros; try subst_vars; try dsimp only)) | (apply foldl_net <;> (intros; try subst_vars; try dsimp only)) | (apply foldl_time <;> (intros; try subst_vars; try dsimp only)) | (apply foldl_out <;> (intros; try subst_vars; try dsimp only)) | (apply foldl_free <;> (intros; try subst_vars; try dsimp only))
      | simp

@[simp] theorem State.countWinDropInk_frame (s : State) (k n : Nat) :
    OnlyClusters (State.countWinDropInk s k n) s := by
  unfold State.countWinDropInk
  repeat' split
  all_goals simp [*]

@[simp] theorem State.countCollide_frame (s : State) (k n : Nat) :
    OnlyClusters (State.countCollide s k n) s := by
  unfold State.countCollide
  repeat' split
  all_goals simp [*]

@[simp] theorem State.serviceWrite_frame (s : State) (k off : Nat) (f : Flit) (hit : BitVec 32) :
    OnlyStore (State.serviceWrite s k off f hit) s := by
  unfold State.serviceWrite
  repeat' split
  all_goals simp [*]

@[simp] theorem State.landingAdvance_frame (s : State) (k m : Nat) :
    OnlyClusters (State.landingAdvance s k m) s := by
  unfold State.landingAdvance
  repeat' split
  all_goals simp [*]

@[simp] theorem State.landOne_frame (s : State) (k : Nat) (h : LandHeader) (off : Nat) (f : Flit) (hit : BitVec 32) :
    OnlyClustersStoreFabric (State.landOne s k h off f hit) s := by
  unfold State.landOne
  repeat' split
  all_goals simp [*]

@[simp] theorem effLandingSlotWrite_frame (k : Fin 48) (ecc : List (Nat × Ecc)) (collide : BitVec 64) (s : State) :
    OnlyCoresClustersStoreQuillFabric (effLandingSlotWrite k ecc collide s) s := by
  unfold effLandingSlotWrite OnlyCoresClustersStoreQuillFabric
  try dsimp only
  and_intros
  all_goals
    repeat' first
      | (with_reducible rfl)
      | split
      | (simp (disch := ((try intros); (try subst_vars); (repeat' split) <;> try simp)); done)
      | (apply foldl_pending <;> (intros; try subst_vars; try dsimp only)) | (apply foldl_parts <;> (intros; try subst_vars; try dsimp only)) | (apply foldl_ctxs <;> (intros; try subst_vars; try dsimp only)) | (apply foldl_bulk <;> (intros; try subst_vars; try dsimp only)) | (apply foldl_host <;> (intros; try subst_vars; try dsimp only)) | (apply foldl_dev <;> (intros; try subst_vars; try dsimp only)) | (apply foldl_module_ <;> (intros; try subst_vars; try dsimp only)) | (apply foldl_net <;> (intros; try subst_vars; try dsimp only)) | (apply foldl_time <;> (intros; try subst_vars; try dsimp only)) | (apply foldl_out <;> (intros; try subst_vars; try dsimp only)) | (apply foldl_free <;> (intros; try subst_vars; try dsimp only))
      | simp

@[simp] theorem effScrubAccess_frame (k : Fin 48) (ecc : List (Nat × Ecc)) (split : List Nat) (s : State) :
    OnlyClustersStoreQuill (effScrubAccess k ecc split s) s := by
  unfold effScrubAccess
  repeat' split
  all_goals simp [*]

@[simp] theorem State.closeStream_frame (s : State) (k w key : Nat) :
    OnlyCoresClusters (State.closeStream s k w key) s := by
  unfold State.closeStream
  repeat' split
  all_goals simp [*]

@[simp] theorem State.closePort_frame (s : State) (k w : Nat) :
    OnlyClustersFabric (State.closePort s k w) s := by
  unfold State.closePort
  repeat' split
  all_goals simp [*]

@[simp] theorem State.closeLandings_frame (s : State) (w : Nat) :
    OnlyCoresClustersFabric (State.closeLandings s w) s := by
  unfold State.closeLandings
  repeat' split
  all_goals simp [*]

@[simp] theorem State.shutWindow_frame (s : State) (w : Nat) :
    OnlyCoresClustersHostFabricOut (State.shutWindow s w) s := by
  unfold State.shutWindow
  repeat' split
  all_goals simp [*]

@[simp] theorem State.closeWindows_frame (s : State) (c : Nat) :
    OnlyCoresClustersHostFabricOut (State.closeWindows s c) s := by
  unfold State.closeWindows
  repeat' split
  all_goals simp [*]

end Sys2Proof.Machine
end

