-- ==== Sys2Proof/Laws/DevMemory.lean ====
section
/-!
SUPPORT. For each function of Machine/DevMemory.lean that answers a state: the fields it leaves as they were.
-/
namespace Sys2Proof.Machine
@[simp] theorem State.devEcc_frame (s : State) (m : DevMem) (a : Nat) (e : Ecc) :
    OnlyCoresClustersStoreBulkHostQuillModuleOut (State.devEcc s m a e) s := by
  unfold State.devEcc
  repeat' split
  all_goals simp [*]

@[simp] theorem State.devEccs_frame (s : State) (m : DevMem) (a n : Nat) (l : List (DWord × Ecc)) :
    OnlyCoresClustersStoreBulkHostQuillModuleOut (State.devEccs s m a n l) s := by
  unfold State.devEccs
  repeat' split
  all_goals simp [*]

@[simp] theorem State.devSplits_frame (s : State) (m : DevMem) (a n : Nat) (l : List DWord) :
    OnlyClustersStore (State.devSplits s m a n l) s := by
  unfold State.devSplits
  repeat' split
  all_goals simp [*]

@[simp] theorem State.devFinds_frame (s : State) (m : DevMem) (a n : Nat) (l : List (DWord × Ecc)) (lines : List LineFind) :
    OnlyCoresClustersStoreBulkHostQuillModuleOut (State.devFinds s m a n l lines) s := by
  unfold State.devFinds
  repeat' split
  all_goals simp [*]

theorem State.devReady_frame {s : State} {m : DevMem} {a n : Nat} {lines : List LineFind} {y : State} (h : State.devReady s m a n lines = some y) :
    OnlyCoresClustersPartsCtxsStoreBulkHostQuillFabricModuleOut y s := by
  unfold State.devReady at h
  try dsimp only at h
  repeat' split at h
  all_goals (try cases h)
  all_goals try simp only [Option.some.injEq, Sum.inr.injEq, Option.map_eq_some_iff, Prod.mk.injEq] at h
  all_goals try subst h
  all_goals try simp [*]


@[simp] theorem State.devSettle_frame (s : State) (m : DevMem) :
    OnlyCoresClustersPartsCtxsStoreHostQuillFabricModuleOut (State.devSettle s m) s := by
  unfold State.devSettle
  repeat' split
  all_goals simp [*]

@[simp] theorem State.quillFinds_frame (s : State) (reads : DevMem → Nat → Bool) (find : List (DWord × Ecc)) (split : List DWord) :
    OnlyCoresClustersStoreBulkHostQuillModuleOut (State.quillFinds s reads find split) s := by
  unfold State.quillFinds OnlyCoresClustersStoreBulkHostQuillModuleOut
  try dsimp only
  and_intros
  all_goals
    repeat' first
      | (with_reducible rfl)
      | split
      | (simp (disch := ((try intros); (try subst_vars); (repeat' split) <;> try simp)); done)
      | (apply foldl_pending <;> (intros; try subst_vars; try dsimp only)) | (apply foldl_parts <;> (intros; try subst_vars; try dsimp only)) | (apply foldl_ctxs <;> (intros; try subst_vars; try dsimp only)) | (apply foldl_dev <;> (intros; try subst_vars; try dsimp only)) | (apply foldl_fabric <;> (intros; try subst_vars; try dsimp only)) | (apply foldl_net <;> (intros; try subst_vars; try dsimp only)) | (apply foldl_time <;> (intros; try subst_vars; try dsimp only)) | (apply foldl_free <;> (intros; try subst_vars; try dsimp only))
      | simp

end Sys2Proof.Machine
end

