-- ==== Sys2Proof/Laws/Placement.lean ====
section
/-!
SUPPORT. For each function of Machine/Placement.lean that answers a state: the fields it leaves as they were.
-/
namespace Sys2Proof.Machine
@[simp] theorem State.refreshMargin_frame (s : State) (p : Nat) :
    OnlyParts (State.refreshMargin s p) s := by
  unfold State.refreshMargin
  repeat' split
  all_goals simp [*]

@[simp] theorem State.unload_frame (s : State) (c : Nat) :
    OnlyPartsCtxs (State.unload s c) s := by
  unfold State.unload
  repeat' split
  all_goals simp [*]

@[simp] theorem State.postVariant_frame (s : State) (c old new reason : Nat) :
    OnlyHostQuillModuleOut (State.postVariant s c old new reason) s := by
  unfold State.postVariant
  repeat' split
  all_goals simp [*]

@[simp] theorem State.noLayout_frame (s : State) (c : Nat) :
    OnlyParts (State.noLayout s c) s := by
  unfold State.noLayout
  repeat' split
  all_goals simp [*]

@[simp] theorem State.takeLayout_frame (s : State) (c i : Nat) :
    OnlyPartsCtxs (State.takeLayout s c i) s := by
  unfold State.takeLayout
  repeat' split
  all_goals simp [*]

@[simp] theorem State.remapTo_frame (s : State) (k l old new reason : Nat) :
    OnlyCoresClustersHostQuillModuleOut (State.remapTo s k l old new reason) s := by
  unfold State.remapTo
  repeat' split
  all_goals simp [*]

@[simp] theorem State.moveRole_frame (s : State) (n reason : Nat) :
    OnlyCoresClustersHostQuillModuleOut (State.moveRole s n reason) s := by
  unfold State.moveRole OnlyCoresClustersHostQuillModuleOut
  try dsimp only
  and_intros
  all_goals
    repeat' first
      | (with_reducible rfl)
      | split
      | (simp (disch := ((try intros); (try subst_vars); (repeat' split) <;> try simp)); done)
      | (apply foldl_pending <;> (intros; try subst_vars; try dsimp only)) | (apply foldl_parts <;> (intros; try subst_vars; try dsimp only)) | (apply foldl_ctxs <;> (intros; try subst_vars; try dsimp only)) | (apply foldl_store <;> (intros; try subst_vars; try dsimp only)) | (apply foldl_bulk <;> (intros; try subst_vars; try dsimp only)) | (apply foldl_dev <;> (intros; try subst_vars; try dsimp only)) | (apply foldl_fabric <;> (intros; try subst_vars; try dsimp only)) | (apply foldl_net <;> (intros; try subst_vars; try dsimp only)) | (apply foldl_time <;> (intros; try subst_vars; try dsimp only)) | (apply foldl_free <;> (intros; try subst_vars; try dsimp only))
      | simp

@[simp] theorem State.repairCluster_frame (s : State) (k : Nat) :
    OnlyCoresClustersHostQuillModuleOut (State.repairCluster s k) s := by
  unfold State.repairCluster
  repeat' split
  all_goals simp [*]

@[simp] theorem State.fillMap_frame (s : State) (k : Nat) :
    OnlyCoresClustersQuill (State.fillMap s k) s := by
  unfold State.fillMap OnlyCoresClustersQuill
  try dsimp only
  and_intros
  all_goals
    repeat' first
      | (with_reducible rfl)
      | split
      | (simp (disch := ((try intros); (try subst_vars); (repeat' split) <;> try simp)); done)
      | (apply foldl_pending <;> (intros; try subst_vars; try dsimp only)) | (apply foldl_parts <;> (intros; try subst_vars; try dsimp only)) | (apply foldl_ctxs <;> (intros; try subst_vars; try dsimp only)) | (apply foldl_store <;> (intros; try subst_vars; try dsimp only)) | (apply foldl_bulk <;> (intros; try subst_vars; try dsimp only)) | (apply foldl_host <;> (intros; try subst_vars; try dsimp only)) | (apply foldl_dev <;> (intros; try subst_vars; try dsimp only)) | (apply foldl_fabric <;> (intros; try subst_vars; try dsimp only)) | (apply foldl_module_ <;> (intros; try subst_vars; try dsimp only)) | (apply foldl_net <;> (intros; try subst_vars; try dsimp only)) | (apply foldl_time <;> (intros; try subst_vars; try dsimp only)) | (apply foldl_out <;> (intros; try subst_vars; try dsimp only)) | (apply foldl_free <;> (intros; try subst_vars; try dsimp only))
      | simp

@[simp] theorem State.nameCores_frame (s : State) (c : Nat) (rec_ : List Byte) (clusters : Nat) :
    OnlyCores (State.nameCores s c rec_ clusters) s := by
  unfold State.nameCores OnlyCores
  try dsimp only
  and_intros
  all_goals
    repeat' first
      | (with_reducible rfl)
      | split
      | (simp (disch := ((try intros); (try subst_vars); (repeat' split) <;> try simp)); done)
      | (apply foldl_pending <;> (intros; try subst_vars; try dsimp only)) | (apply foldl_clusters <;> (intros; try subst_vars; try dsimp only)) | (apply foldl_parts <;> (intros; try subst_vars; try dsimp only)) | (apply foldl_ctxs <;> (intros; try subst_vars; try dsimp only)) | (apply foldl_store <;> (intros; try subst_vars; try dsimp only)) | (apply foldl_bulk <;> (intros; try subst_vars; try dsimp only)) | (apply foldl_host <;> (intros; try subst_vars; try dsimp only)) | (apply foldl_dev <;> (intros; try subst_vars; try dsimp only)) | (apply foldl_quill <;> (intros; try subst_vars; try dsimp only)) | (apply foldl_fabric <;> (intros; try subst_vars; try dsimp only)) | (apply foldl_module_ <;> (intros; try subst_vars; try dsimp only)) | (apply foldl_net <;> (intros; try subst_vars; try dsimp only)) | (apply foldl_time <;> (intros; try subst_vars; try dsimp only)) | (apply foldl_out <;> (intros; try subst_vars; try dsimp only)) | (apply foldl_free <;> (intros; try subst_vars; try dsimp only))
      | simp

@[simp] theorem State.unnameCores_frame (s : State) (c : Nat) (ks : List Nat) :
    OnlyCores (State.unnameCores s c ks) s := by
  unfold State.unnameCores
  repeat' split
  all_goals simp [*]

@[simp] theorem State.placeCores_frame (s : State) (c : Nat) (sc : Scroll) (rec_ : List Byte) (l i : Nat) :
    OnlyCores (State.placeCores s c sc rec_ l i) s := by
  unfold State.placeCores OnlyCores
  try dsimp only
  and_intros
  all_goals
    repeat' first
      | (with_reducible rfl)
      | split
      | (simp (disch := ((try intros); (try subst_vars); (repeat' split) <;> try simp)); done)
      | (apply foldl_pending <;> (intros; try subst_vars; try dsimp only)) | (apply foldl_clusters <;> (intros; try subst_vars; try dsimp only)) | (apply foldl_parts <;> (intros; try subst_vars; try dsimp only)) | (apply foldl_ctxs <;> (intros; try subst_vars; try dsimp only)) | (apply foldl_store <;> (intros; try subst_vars; try dsimp only)) | (apply foldl_bulk <;> (intros; try subst_vars; try dsimp only)) | (apply foldl_host <;> (intros; try subst_vars; try dsimp only)) | (apply foldl_dev <;> (intros; try subst_vars; try dsimp only)) | (apply foldl_quill <;> (intros; try subst_vars; try dsimp only)) | (apply foldl_fabric <;> (intros; try subst_vars; try dsimp only)) | (apply foldl_module_ <;> (intros; try subst_vars; try dsimp only)) | (apply foldl_net <;> (intros; try subst_vars; try dsimp only)) | (apply foldl_time <;> (intros; try subst_vars; try dsimp only)) | (apply foldl_out <;> (intros; try subst_vars; try dsimp only)) | (apply foldl_free <;> (intros; try subst_vars; try dsimp only))
      | simp

@[simp] theorem State.loadRulings_frame (s : State) (c : Nat) (sc : Scroll) (l : Nat) (start : Nat → Nat × Nat) :
    OnlyClusters (State.loadRulings s c sc l start) s := by
  unfold State.loadRulings
  repeat' split
  all_goals simp [*]

@[simp] theorem State.clearClusters_frame (s : State) (ks : List Nat) :
    OnlyClusters (State.clearClusters s ks) s := by
  unfold State.clearClusters
  repeat' split
  all_goals simp [*]

@[simp] theorem State.clearCqStat_frame (s : State) (c : Nat) :
    OnlyClusters (State.clearCqStat s c) s := by
  unfold State.clearCqStat
  repeat' split
  all_goals simp [*]

@[simp] theorem State.configureQueues_frame (s : State) (c : Nat) (sc : Scroll) (rec_ : List Byte) (l : Nat) :
    OnlyClustersFabric (State.configureQueues s c sc rec_ l) s := by
  unfold State.configureQueues
  repeat' split
  all_goals simp [*]

@[simp] theorem State.writeCounters_frame (s : State) (sc : Scroll) (rec_ : List Byte) (l : Nat) :
    OnlyClustersFabric (State.writeCounters s sc rec_ l) s := by
  unfold State.writeCounters
  repeat' split
  all_goals simp [*]

@[simp] theorem State.placeImage_frame (t : State) (c : Nat) (rec_ : List Byte) (x : Section) :
    OnlyStore (State.placeImage t c rec_ x) t := by
  unfold State.placeImage OnlyStore
  try dsimp only
  and_intros
  all_goals
    repeat' first
      | (with_reducible rfl)
      | split
      | (simp (disch := ((try intros); (try subst_vars); (repeat' split) <;> try simp)); done)
      | (apply foldl_pending <;> (intros; try subst_vars; try dsimp only)) | (apply foldl_cores <;> (intros; try subst_vars; try dsimp only)) | (apply foldl_clusters <;> (intros; try subst_vars; try dsimp only)) | (apply foldl_parts <;> (intros; try subst_vars; try dsimp only)) | (apply foldl_ctxs <;> (intros; try subst_vars; try dsimp only)) | (apply foldl_bulk <;> (intros; try subst_vars; try dsimp only)) | (apply foldl_host <;> (intros; try subst_vars; try dsimp only)) | (apply foldl_dev <;> (intros; try subst_vars; try dsimp only)) | (apply foldl_quill <;> (intros; try subst_vars; try dsimp only)) | (apply foldl_fabric <;> (intros; try subst_vars; try dsimp only)) | (apply foldl_module_ <;> (intros; try subst_vars; try dsimp only)) | (apply foldl_net <;> (intros; try subst_vars; try dsimp only)) | (apply foldl_time <;> (intros; try subst_vars; try dsimp only)) | (apply foldl_out <;> (intros; try subst_vars; try dsimp only)) | (apply foldl_free <;> (intros; try subst_vars; try dsimp only))
      | simp

@[simp] theorem State.writeImages_frame (s : State) (c : Nat) (sc : Scroll) (rec_ : List Byte) (l : Nat) :
    OnlyStore (State.writeImages s c sc rec_ l) s := by
  unfold State.writeImages OnlyStore
  try dsimp only
  and_intros
  all_goals
    repeat' first
      | (with_reducible rfl)
      | split
      | (simp (disch := ((try intros); (try subst_vars); (repeat' split) <;> try simp)); done)
      | (apply foldl_pending <;> (intros; try subst_vars; try dsimp only)) | (apply foldl_cores <;> (intros; try subst_vars; try dsimp only)) | (apply foldl_clusters <;> (intros; try subst_vars; try dsimp only)) | (apply foldl_parts <;> (intros; try subst_vars; try dsimp only)) | (apply foldl_ctxs <;> (intros; try subst_vars; try dsimp only)) | (apply foldl_bulk <;> (intros; try subst_vars; try dsimp only)) | (apply foldl_host <;> (intros; try subst_vars; try dsimp only)) | (apply foldl_dev <;> (intros; try subst_vars; try dsimp only)) | (apply foldl_quill <;> (intros; try subst_vars; try dsimp only)) | (apply foldl_fabric <;> (intros; try subst_vars; try dsimp only)) | (apply foldl_module_ <;> (intros; try subst_vars; try dsimp only)) | (apply foldl_net <;> (intros; try subst_vars; try dsimp only)) | (apply foldl_time <;> (intros; try subst_vars; try dsimp only)) | (apply foldl_out <;> (intros; try subst_vars; try dsimp only)) | (apply foldl_free <;> (intros; try subst_vars; try dsimp only))
      | simp

@[simp] theorem State.zeroInkwells_frame (s : State) (ks : List Nat) :
    OnlyStore (State.zeroInkwells s ks) s := by
  unfold State.zeroInkwells
  repeat' split
  all_goals simp [*]

@[simp] theorem State.relock_frame (s : State) (p setting : Nat) :
    OnlyModule (State.relock s p setting) s := by
  unfold State.relock
  repeat' split
  all_goals simp [*]

end Sys2Proof.Machine
end

