-- ==== Sys2Proof/Laws/Images.lean ====
section
/-!
SUPPORT. For each function of Machine/Images.lean that answers a state: the fields it leaves as they were.
-/
namespace Sys2Proof.Machine
@[simp] theorem State.dropLater_frame (s : State) (c seq : Nat) :
    OnlyStore (State.dropLater s c seq) s := by
  unfold State.dropLater
  repeat' split
  all_goals simp [*]

@[simp] theorem State.captureCounters_frame (s : State) (parts : List Nat) (sc : Scroll) (rec_ : List Byte) :
    OnlyStore (State.captureCounters s parts sc rec_) s := by
  unfold State.captureCounters
  repeat' split
  all_goals simp [*]

@[simp] theorem State.saveSlots_frame (s : State) (c base : Nat) :
    OnlyStore (State.saveSlots s c base) s := by
  unfold State.saveSlots
  repeat' split
  all_goals simp [*]

@[simp] theorem State.writeImage_frame (s : State) (c : Nat) (w : CkptWork) (sc : Scroll) (rec_ : List Byte) :
    OnlyStore (State.writeImage s c w sc rec_) s := by
  unfold State.writeImage
  repeat' split
  all_goals simp [*]

@[simp] theorem State.commitImage_frame (s : State) (c : Nat) (w : CkptWork) :
    OnlyCtxsStoreBulk (State.commitImage s c w) s := by
  unfold State.commitImage
  repeat' split
  all_goals simp [*]

@[simp] theorem State.recount_frame (s : State) (c : Nat) :
    OnlyStoreBulk (State.recount s c) s := by
  unfold State.recount
  repeat' split
  all_goals simp [*]

@[simp] theorem State.restoreSlots_frame (s : State) (c base : Nat) :
    OnlyStoreBulk (State.restoreSlots s c base) s := by
  unfold State.restoreSlots OnlyStoreBulk
  try dsimp only
  and_intros
  all_goals
    repeat' first
      | (with_reducible rfl)
      | split
      | (simp (disch := ((try intros); (try subst_vars); (repeat' split) <;> try simp)); done)
      | (apply foldl_pending <;> (intros; try subst_vars; try dsimp only)) | (apply foldl_cores <;> (intros; try subst_vars; try dsimp only)) | (apply foldl_clusters <;> (intros; try subst_vars; try dsimp only)) | (apply foldl_parts <;> (intros; try subst_vars; try dsimp only)) | (apply foldl_ctxs <;> (intros; try subst_vars; try dsimp only)) | (apply foldl_host <;> (intros; try subst_vars; try dsimp only)) | (apply foldl_dev <;> (intros; try subst_vars; try dsimp only)) | (apply foldl_quill <;> (intros; try subst_vars; try dsimp only)) | (apply foldl_fabric <;> (intros; try subst_vars; try dsimp only)) | (apply foldl_module_ <;> (intros; try subst_vars; try dsimp only)) | (apply foldl_net <;> (intros; try subst_vars; try dsimp only)) | (apply foldl_time <;> (intros; try subst_vars; try dsimp only)) | (apply foldl_out <;> (intros; try subst_vars; try dsimp only)) | (apply foldl_free <;> (intros; try subst_vars; try dsimp only))
      | simp

@[simp] theorem State.restoreImage_frame (s : State) (c : Nat) (parts : List Nat) (sc : Scroll) (rec_ : List Byte) (l : Nat) :
    OnlyClustersStoreBulk (State.restoreImage s c parts sc rec_ l) s := by
  unfold State.restoreImage
  repeat' split
  all_goals simp [*]

end Sys2Proof.Machine
end

