-- ==== Sys2Proof/Laws/Bringup.lean ====
section
/-!
SUPPORT. For each function of Machine/Bringup.lean that answers a state: the fields it leaves as they were.
-/
namespace Sys2Proof.Machine
theorem State.placeRegion_frame {s : State} {c n : Nat} {y : State} (h : State.placeRegion s c n = some y) :
    OnlyCtxsStore y s := by
  unfold State.placeRegion at h
  try dsimp only at h
  repeat' split at h
  all_goals (try cases h)
  all_goals try simp only [Option.some.injEq, Sum.inr.injEq, Option.map_eq_some_iff, Prod.mk.injEq] at h
  all_goals try subst h
  all_goals try simp [*]


@[simp] theorem State.dropQueues_frame (s : State) (c : Nat) :
    OnlyFabric (State.dropQueues s c) s := by
  unfold State.dropQueues
  repeat' split
  all_goals simp [*]

@[simp] theorem State.resumeCores_frame (s : State) (sc : Scroll) (rec_ : List Byte) (l : Nat) (x : Section) (q : QuietPoint) :
    OnlyCoresNet (State.resumeCores s sc rec_ l x q) s := by
  unfold State.resumeCores OnlyCoresNet
  try dsimp only
  and_intros
  all_goals
    repeat' first
      | (with_reducible rfl)
      | split
      | (simp (disch := ((try intros); (try subst_vars); (repeat' split) <;> try simp)); done)
      | (apply foldl_pending <;> (intros; try subst_vars; try dsimp only)) | (apply foldl_clusters <;> (intros; try subst_vars; try dsimp only)) | (apply foldl_parts <;> (intros; try subst_vars; try dsimp only)) | (apply foldl_ctxs <;> (intros; try subst_vars; try dsimp only)) | (apply foldl_store <;> (intros; try subst_vars; try dsimp only)) | (apply foldl_bulk <;> (intros; try subst_vars; try dsimp only)) | (apply foldl_host <;> (intros; try subst_vars; try dsimp only)) | (apply foldl_dev <;> (intros; try subst_vars; try dsimp only)) | (apply foldl_quill <;> (intros; try subst_vars; try dsimp only)) | (apply foldl_fabric <;> (intros; try subst_vars; try dsimp only)) | (apply foldl_module_ <;> (intros; try subst_vars; try dsimp only)) | (apply foldl_time <;> (intros; try subst_vars; try dsimp only)) | (apply foldl_out <;> (intros; try subst_vars; try dsimp only)) | (apply foldl_free <;> (intros; try subst_vars; try dsimp only))
      | simp

@[simp] theorem State.enterFrom_frame (s : State) (c : Nat) (sc : Scroll) (rec_ : List Byte) (l : Nat) (e : Entrance) (counters : Bool) :
    OnlyCoresClustersPartsStoreBulkFabricNet (State.enterFrom s c sc rec_ l e counters) s := by
  unfold State.enterFrom
  repeat' split
  all_goals simp [*]

@[simp] theorem State.postDivergence_frame (s : State) (c kind clusters stroke : Nat) :
    OnlyHostQuillModuleOut (State.postDivergence s c kind clusters stroke) s := by
  unfold State.postDivergence
  repeat' split
  all_goals simp [*]

@[simp] theorem State.modLs_frame (s : State) (c : Nat) (f : LsCtx → LsCtx) :
    OnlyQuill (State.modLs s c f) s := by
  unfold State.modLs
  repeat' split
  all_goals simp [*]

@[simp] theorem State.lsMatch_frame (s : State) (c : Nat) :
    OnlyCtxsHostQuillModuleOut (State.lsMatch s c) s := by
  unfold State.lsMatch
  repeat' split
  all_goals simp [*]

@[simp] theorem State.lsStart_frame (s : State) (c : Nat) :
    OnlyCtxsHostQuillFabricModuleOut (State.lsStart s c) s := by
  unfold State.lsStart
  repeat' split
  all_goals simp [*]

@[simp] theorem State.bringUp_frame (s : State) (c : Nat) (sc : Scroll) (rec_ : List Byte) (l : Nat) (e : Entrance) (setting : Nat) (counters : Bool) :
    OnlyCoresClustersPartsCtxsStoreBulkHostQuillFabricModuleNetOut (State.bringUp s c sc rec_ l e setting counters) s := by
  unfold State.bringUp
  repeat' split
  all_goals simp [*]

@[simp] theorem State.startContext_frame (s : State) (job c fn : Nat) (wm : BitVec 256) (clock : Nat) (from1 : Bool) (bulk base limit : Word) :
    OnlyCoresClustersPartsCtxsStoreBulkHostQuillFabricModuleNetOut (State.startContext s job c fn wm clock from1 bulk base limit) s := by
  unfold State.startContext
  try dsimp only
  repeat' split
  all_goals (try have h_placeRegion := State.placeRegion_frame (by assumption))
  all_goals (try dsimp only at h_placeRegion)
  all_goals simp [*]


@[simp] theorem State.startJob_frame (s : State) (job : Nat) :
    OnlyCoresClustersPartsCtxsStoreBulkHostQuillFabricModuleNetOut (State.startJob s job) s := by
  unfold State.startJob
  repeat' split
  all_goals simp [*]

@[simp] theorem State.startReading_pending (s : State) (c : Nat) (reads : List (Nat × Nat)) (lines : List LineFind) (run : State → State) (hrun : ∀ x0 y, y = run x0 → y.pending = x0.pending) :
    (State.startReading s c reads lines run).pending = s.pending := by
  have grun := fun x0 => hrun x0 _ rfl
  unfold State.startReading
  repeat' split
  all_goals simp [*]

@[simp] theorem State.startReading_cores (s : State) (c : Nat) (reads : List (Nat × Nat)) (lines : List LineFind) (run : State → State) (hrun : ∀ x0 y, y = run x0 → y.cores = x0.cores) :
    (State.startReading s c reads lines run).cores = s.cores := by
  have grun := fun x0 => hrun x0 _ rfl
  unfold State.startReading
  repeat' split
  all_goals simp [*]

@[simp] theorem State.startReading_clusters (s : State) (c : Nat) (reads : List (Nat × Nat)) (lines : List LineFind) (run : State → State) (hrun : ∀ x0 y, y = run x0 → y.clusters = x0.clusters) :
    (State.startReading s c reads lines run).clusters = s.clusters := by
  have grun := fun x0 => hrun x0 _ rfl
  unfold State.startReading
  repeat' split
  all_goals simp [*]

@[simp] theorem State.startReading_parts (s : State) (c : Nat) (reads : List (Nat × Nat)) (lines : List LineFind) (run : State → State) (hrun : ∀ x0 y, y = run x0 → y.parts = x0.parts) :
    (State.startReading s c reads lines run).parts = s.parts := by
  have grun := fun x0 => hrun x0 _ rfl
  unfold State.startReading
  repeat' split
  all_goals simp [*]

@[simp] theorem State.startReading_ctxs (s : State) (c : Nat) (reads : List (Nat × Nat)) (lines : List LineFind) (run : State → State) (hrun : ∀ x0 y, y = run x0 → y.ctxs = x0.ctxs) :
    (State.startReading s c reads lines run).ctxs = s.ctxs := by
  have grun := fun x0 => hrun x0 _ rfl
  unfold State.startReading
  repeat' split
  all_goals simp [*]

@[simp] theorem State.startReading_dev (s : State) (c : Nat) (reads : List (Nat × Nat)) (lines : List LineFind) (run : State → State) (hrun : ∀ x0 y, y = run x0 → y.dev = x0.dev) :
    (State.startReading s c reads lines run).dev = s.dev := by
  have grun := fun x0 => hrun x0 _ rfl
  unfold State.startReading
  repeat' split
  all_goals simp [*]

@[simp] theorem State.startReading_fabric (s : State) (c : Nat) (reads : List (Nat × Nat)) (lines : List LineFind) (run : State → State) (hrun : ∀ x0 y, y = run x0 → y.fabric = x0.fabric) :
    (State.startReading s c reads lines run).fabric = s.fabric := by
  have grun := fun x0 => hrun x0 _ rfl
  unfold State.startReading
  repeat' split
  all_goals simp [*]

@[simp] theorem State.startReading_net (s : State) (c : Nat) (reads : List (Nat × Nat)) (lines : List LineFind) (run : State → State) (hrun : ∀ x0 y, y = run x0 → y.net = x0.net) :
    (State.startReading s c reads lines run).net = s.net := by
  have grun := fun x0 => hrun x0 _ rfl
  unfold State.startReading
  repeat' split
  all_goals simp [*]

@[simp] theorem State.startReading_time (s : State) (c : Nat) (reads : List (Nat × Nat)) (lines : List LineFind) (run : State → State) (hrun : ∀ x0 y, y = run x0 → y.time = x0.time) :
    (State.startReading s c reads lines run).time = s.time := by
  have grun := fun x0 => hrun x0 _ rfl
  unfold State.startReading
  repeat' split
  all_goals simp [*]

@[simp] theorem State.startReading_free (s : State) (c : Nat) (reads : List (Nat × Nat)) (lines : List LineFind) (run : State → State) (hrun : ∀ x0 y, y = run x0 → y.free = x0.free) :
    (State.startReading s c reads lines run).free = s.free := by
  have grun := fun x0 => hrun x0 _ rfl
  unfold State.startReading
  repeat' split
  all_goals simp [*]

@[simp] theorem State.noteRun_frame (s : State) (c : Nat) :
    OnlyQuill (State.noteRun s c) s := by
  unfold State.noteRun
  repeat' split
  all_goals simp [*]

@[simp] theorem State.beginContext_frame (s : State) (c : Nat) :
    OnlyCoresCtxsHostQuillOut (State.beginContext s c) s := by
  unfold State.beginContext
  repeat' split
  all_goals simp [*]

@[simp] theorem State.stopContext_frame (s : State) (c : Nat) :
    OnlyCoresPartsCtxsStoreBulkHostQuillFabricOut (State.stopContext s c) s := by
  unfold State.stopContext
  repeat' split
  all_goals simp [*]

@[simp] theorem State.runHeld_frame (s : State) (c : Nat) :
    OnlyCoresClustersPartsCtxsStoreBulkHostQuillFabricModuleNetOut (State.runHeld s c) s := by
  unfold State.runHeld
  repeat' split
  all_goals simp [*]

@[simp] theorem State.restart_frame (s : State) (c reason : Nat) :
    OnlyCoresClustersPartsCtxsStoreBulkHostQuillFabricModuleNetOut (State.restart s c reason) s := by
  unfold State.restart OnlyCoresClustersPartsCtxsStoreBulkHostQuillFabricModuleNetOut
  try dsimp only
  and_intros
  all_goals
    repeat' first
      | (with_reducible rfl)
      | split
      | (simp (disch := ((try intros); (try subst_vars); (repeat' split) <;> try simp)); done)
      | (apply foldl_pending <;> (intros; try subst_vars; try dsimp only)) | (apply foldl_dev <;> (intros; try subst_vars; try dsimp only)) | (apply foldl_time <;> (intros; try subst_vars; try dsimp only)) | (apply foldl_free <;> (intros; try subst_vars; try dsimp only))
      | simp

end Sys2Proof.Machine
end

