-- ==== Sys2Proof/Laws/Reset.lean ====
section
/-!
SUPPORT. For each function of Machine/Reset.lean that answers a state: the fields it leaves as they were.
-/
namespace Sys2Proof.Machine
@[simp] theorem State.calibrate_frame (s : State) (x : XCal) :
    OnlyClustersHostQuillModuleOut (State.calibrate s x) s := by
  unfold State.calibrate OnlyClustersHostQuillModuleOut
  try dsimp only
  and_intros
  all_goals
    repeat' first
      | (with_reducible rfl)
      | split
      | (simp (disch := ((try intros); (try subst_vars); (repeat' split) <;> try simp)); done)
      | (apply foldl_pending <;> (intros; try subst_vars; try dsimp only)) | (apply foldl_cores <;> (intros; try subst_vars; try dsimp only)) | (apply foldl_parts <;> (intros; try subst_vars; try dsimp only)) | (apply foldl_ctxs <;> (intros; try subst_vars; try dsimp only)) | (apply foldl_store <;> (intros; try subst_vars; try dsimp only)) | (apply foldl_bulk <;> (intros; try subst_vars; try dsimp only)) | (apply foldl_dev <;> (intros; try subst_vars; try dsimp only)) | (apply foldl_fabric <;> (intros; try subst_vars; try dsimp only)) | (apply foldl_net <;> (intros; try subst_vars; try dsimp only)) | (apply foldl_time <;> (intros; try subst_vars; try dsimp only)) | (apply foldl_free <;> (intros; try subst_vars; try dsimp only))
      | simp

@[simp] theorem State.calibrateAll_frame (s : State) (p : Nat) (cal : List XCal) :
    OnlyClustersHostQuillModuleOut (State.calibrateAll s p cal) s := by
  unfold State.calibrateAll
  repeat' split
  all_goals simp [*]

@[simp] theorem State.serviceChange_frame (s : State) (object index old new score cause : Nat) :
    OnlyHostQuillModuleOut (State.serviceChange s object index old new score cause) s := by
  unfold State.serviceChange
  repeat' split
  all_goals simp [*]

@[simp] theorem State.countPartReset_frame (s : State) (p cause : Nat) :
    OnlyCoresHostQuillModuleOut (State.countPartReset s p cause) s := by
  unfold State.countPartReset
  repeat' split
  all_goals simp [*]

@[simp] theorem State.countDevReset_frame (s : State) (cause : Nat) :
    OnlyHostQuillModuleOut (State.countDevReset s cause) s := by
  unfold State.countDevReset
  repeat' split
  all_goals simp [*]

@[simp] theorem State.killByPart_frame (s : State) (c : Nat) :
    OnlyCoresPartsCtxsStoreHostQuillFabricModuleOut (State.killByPart s c) s := by
  unfold State.killByPart
  repeat' split
  all_goals simp [*]

@[simp] theorem State.resetClusters_frame (s : State) (p : Nat) (keepInk : Bool) :
    OnlyCoresClustersStoreFabricNet (State.resetClusters s p keepInk) s := by
  unfold State.resetClusters
  repeat' split
  all_goals simp [*]

@[simp] theorem State.resetControllers_frame (s : State) (p : Nat) :
    OnlyBulk (State.resetControllers s p) s := by
  unfold State.resetControllers
  repeat' split
  all_goals simp [*]

@[simp] theorem State.repairRows_frame (s : State) (ks : List Nat) :
    OnlyClusters (State.repairRows s ks) s := by
  unfold State.repairRows
  repeat' split
  all_goals simp [*]

@[simp] theorem State.clearPartition_frame (s : State) (p : Nat) (keepInk : Bool) (cal : List XCal) :
    OnlyCoresClustersPartsStoreBulkHostQuillFabricModuleNetOut (State.clearPartition s p keepInk cal) s := by
  unfold State.clearPartition
  repeat' split
  all_goals simp [*]

@[simp] theorem State.resetPartition_frame (s : State) (p : Nat) (cal : List XCal) :
    OnlyCoresClustersPartsCtxsStoreBulkHostQuillFabricModuleNetOut (State.resetPartition s p cal) s := by
  unfold State.resetPartition
  repeat' split
  all_goals simp [*]

@[simp] theorem State.partFault_frame (s : State) (p cause errReg : Nat) (cal : List XCal) :
    OnlyCoresClustersPartsCtxsStoreBulkHostQuillFabricModuleNetOut (State.partFault s p cause errReg cal) s := by
  unfold State.partFault
  repeat' split
  all_goals simp [*]

@[simp] theorem State.hang_frame (s : State) (p kind elapsedMs : Nat) (cal : List XCal) :
    OnlyCoresClustersPartsCtxsStoreBulkHostQuillFabricModuleNetOut (State.hang s p kind elapsedMs cal) s := by
  unfold State.hang
  repeat' split
  all_goals simp [*]

end Sys2Proof.Machine
end

