-- ==== Sys2Proof/Laws/PowerOps.lean ====
section
/-!
SUPPORT. For each function of Machine/PowerOps.lean that answers a state: the fields it leaves as they were.
-/
namespace Sys2Proof.Machine
@[simp] theorem State.domainUp_frame (s : State) (n : Nat) :
    OnlyModule (State.domainUp s n) s := by
  unfold State.domainUp
  repeat' split
  all_goals simp [*]

@[simp] theorem State.domainDown_frame (s : State) (n : Nat) :
    OnlyModule (State.domainDown s n) s := by
  unfold State.domainDown
  repeat' split
  all_goals simp [*]

@[simp] theorem State.clusterUp_frame (s : State) (k : Nat) :
    OnlyCoresModule (State.clusterUp s k) s := by
  unfold State.clusterUp
  repeat' split
  all_goals simp [*]

@[simp] theorem State.clusterDown_frame (s : State) (k : Nat) (retain : Bool) :
    OnlyCoresStoreQuillModule (State.clusterDown s k retain) s := by
  unfold State.clusterDown
  repeat' split
  all_goals simp [*]

@[simp] theorem State.netDown_frame (s : State) (n : Nat) :
    OnlyClustersModule (State.netDown s n) s := by
  unfold State.netDown
  repeat' split
  all_goals simp [*]

@[simp] theorem State.controllersUp_frame (s : State) (q : Nat) :
    OnlyBulkModule (State.controllersUp s q) s := by
  unfold State.controllersUp
  repeat' split
  all_goals simp [*]

@[simp] theorem State.controllersDown_frame (s : State) (q : Nat) :
    OnlyCoresClustersPartsCtxsStoreBulkHostQuillFabricModuleOut (State.controllersDown s q) s := by
  unfold State.controllersDown
  repeat' split
  all_goals simp [*]

@[simp] theorem State.refreshPw_frame (s : State) (p : Nat) :
    OnlyModule (State.refreshPw s p) s := by
  unfold State.refreshPw
  repeat' split
  all_goals simp [*]

@[simp] theorem State.partOn_frame (s : State) (p : Nat) (cal : List XCal) :
    OnlyCoresClustersBulkHostQuillModuleOut (State.partOn s p cal) s := by
  unfold State.partOn
  repeat' split
  all_goals simp [*]

@[simp] theorem State.settleJobs_frame (s : State) (ids : List Nat) :
    OnlyHostOut (State.settleJobs s ids) s := by
  unfold State.settleJobs
  repeat' split
  all_goals simp [*]

@[simp] theorem State.checkCentral_frame (s : State) :
    OnlyFabric (State.checkCentral s) s := by
  unfold State.checkCentral
  repeat' split
  all_goals simp [*]

@[simp] theorem State.partOff_frame (s : State) (p : Nat) :
    OnlyCoresClustersPartsCtxsStoreBulkHostQuillFabricModuleOut (State.partOff s p) s := by
  unfold State.partOff
  repeat' split
  all_goals simp [*]

@[simp] theorem State.enablePart_frame (s : State) (p : Nat) (cal : List XCal) :
    OnlyCoresClustersBulkHostQuillModuleOut (State.enablePart s p cal) s := by
  unfold State.enablePart
  repeat' split
  all_goals simp [*]

@[simp] theorem State.partHeld_frame (s : State) (p : Nat) :
    OnlyCoresClustersBulkHostQuillModuleOut (State.partHeld s p) s := by
  unfold State.partHeld
  repeat' split
  all_goals simp [*]

end Sys2Proof.Machine
end

