-- ==== Sys2Proof/Laws/LockstepOps.lean ====
section
/-!
SUPPORT. For each function of Machine/LockstepOps.lean that answers a state: the fields it leaves as they were.
-/
namespace Sys2Proof.Machine
@[simp] theorem State.lsCompare_frame (fuel : Nat) (s : State) (c : Nat) :
    OnlyCtxsHostQuillModuleOut (State.lsCompare fuel s c) s := by
  induction fuel generalizing s with
  | zero => simp [State.lsCompare]
  | succ f ih =>
    unfold State.lsCompare
    dsimp only
    repeat' split
    all_goals simp_all

@[simp] theorem State.lsCompareAll_frame (s : State) (c : Nat) :
    OnlyCtxsHostQuillModuleOut (State.lsCompareAll s c) s := by
  unfold State.lsCompareAll
  repeat' split
  all_goals simp [*]

@[simp] theorem State.sendDigest_frame (s : State) (c : Nat) :
    OnlyCtxsHostQuillFabricModuleOut (State.sendDigest s c) s := by
  unfold State.sendDigest
  repeat' split
  all_goals simp [*]

@[simp] theorem State.sendDigests_frame (s : State) (p : Nat) :
    OnlyClustersCtxsHostQuillFabricModuleOut (State.sendDigests s p) s := by
  unfold State.sendDigests
  repeat' split
  all_goals simp [*]

end Sys2Proof.Machine
end

