-- ==== Sys2Proof/Laws/Strokes.lean ====
section
/-!
SUPPORT. For each function of Machine/Strokes.lean that answers a state: the fields it leaves as they were.
-/
namespace Sys2Proof.Machine
@[simp] theorem State.countInexact_frame (s : State) (p : Nat) :
    OnlyCtxs (State.countInexact s p) s := by
  unfold State.countInexact
  repeat' split
  all_goals simp [*]

@[simp] theorem State.markLoss_frame (s : State) (p : Nat) :
    OnlyParts (State.markLoss s p) s := by
  unfold State.markLoss
  repeat' split
  all_goals simp [*]

@[simp] theorem State.countDelay_frame (s : State) (p : Nat) :
    OnlyPartsCtxsModule (State.countDelay s p) s := by
  unfold State.countDelay
  repeat' split
  all_goals simp [*]

@[simp] theorem State.ruleEcc_frame (s : State) (e : RuleEcc) :
    OnlyClustersQuill (State.ruleEcc s e) s := by
  unfold State.ruleEcc
  repeat' split
  all_goals simp [*]

@[simp] theorem State.ruleFence_frame (s : State) (k : Nat) :
    OnlyClustersHostQuillModuleOut (State.ruleFence s k) s := by
  unfold State.ruleFence
  repeat' split
  all_goals simp [*]

@[simp] theorem State.settleCtx_frame (s : State) (c : Nat) :
    OnlyCoresClustersStore (State.settleCtx s c) s := by
  unfold State.settleCtx
  repeat' split
  all_goals simp [*]

@[simp] theorem State.beginCheckpoint_frame (s : State) (c : Nat) (sc : Scroll) (parts : List Nat) (q : QuietPoint) :
    OnlyCoresClustersPartsCtxsStore (State.beginCheckpoint s c sc parts q) s := by
  unfold State.beginCheckpoint
  repeat' split
  all_goals simp [*]

@[simp] theorem State.evalQuiet_frame (s : State) (c : Nat) :
    OnlyCoresClustersPartsCtxsStore (State.evalQuiet s c) s := by
  unfold State.evalQuiet
  repeat' split
  all_goals simp [*]

@[simp] theorem State.rearm_frame (s : State) (c : Nat) :
    OnlyCtxs (State.rearm s c) s := by
  unfold State.rearm
  repeat' split
  all_goals simp [*]

@[simp] theorem State.freeze_frame (s : State) (c : Nat) :
    OnlyCoresPartsCtxs (State.freeze s c) s := by
  unfold State.freeze
  repeat' split
  all_goals simp [*]

@[simp] theorem State.seamRequest_frame (s : State) (p new : Nat) :
    OnlyParts (State.seamRequest s p new) s := by
  unfold State.seamRequest
  repeat' split
  all_goals simp [*]

@[simp] theorem State.seamStep_frame (s : State) (p : Nat) :
    OnlyParts (State.seamStep s p) s := by
  unfold State.seamStep
  repeat' split
  all_goals simp [*]

@[simp] theorem State.rulingStep_frame (s : State) (p : Nat) :
    OnlyClusters (State.rulingStep s p) s := by
  unfold State.rulingStep
  repeat' split
  all_goals simp [*]

@[simp] theorem State.countStale_frame (s : State) (p n : Nat) :
    OnlyParts (State.countStale s p n) s := by
  unfold State.countStale
  repeat' split
  all_goals simp [*]

@[simp] theorem State.sweepCore_frame (s : State) (n : Nat) :
    OnlyCoresParts (State.sweepCore s n) s := by
  unfold State.sweepCore
  repeat' split
  all_goals simp [*]

@[simp] theorem State.sweepCombining_frame (s : State) (c : Nat) :
    OnlyClustersPartsFabric (State.sweepCombining s c) s := by
  unfold State.sweepCombining
  repeat' split
  all_goals simp [*]

@[simp] theorem State.reconfigureCore_frame (s : State) (n : Nat) (b : List Byte) (cyc : Nat) :
    OnlyCoresClustersPartsStoreNet (State.reconfigureCore s n b cyc) s := by
  unfold State.reconfigureCore OnlyCoresClustersPartsStoreNet
  try dsimp only
  and_intros
  all_goals
    repeat' first
      | (with_reducible rfl)
      | split
      | (simp (disch := ((try intros); (try subst_vars); (repeat' split) <;> try simp)); done)
      | (apply foldl_pending <;> (intros; try subst_vars; try dsimp only)) | (apply foldl_ctxs <;> (intros; try subst_vars; try dsimp only)) | (apply foldl_bulk <;> (intros; try subst_vars; try dsimp only)) | (apply foldl_host <;> (intros; try subst_vars; try dsimp only)) | (apply foldl_dev <;> (intros; try subst_vars; try dsimp only)) | (apply foldl_quill <;> (intros; try subst_vars; try dsimp only)) | (apply foldl_fabric <;> (intros; try subst_vars; try dsimp only)) | (apply foldl_module_ <;> (intros; try subst_vars; try dsimp only)) | (apply foldl_time <;> (intros; try subst_vars; try dsimp only)) | (apply foldl_out <;> (intros; try subst_vars; try dsimp only)) | (apply foldl_free <;> (intros; try subst_vars; try dsimp only))
      | simp

@[simp] theorem State.beginConfig_frame (s : State) (p : Nat) (r : Reconf) :
    OnlyCoresClustersPartsCtxsStoreHostFabricNetOut (State.beginConfig s p r) s := by
  unfold State.beginConfig OnlyCoresClustersPartsCtxsStoreHostFabricNetOut
  try dsimp only
  and_intros
  all_goals
    repeat' first
      | (with_reducible rfl)
      | split
      | (simp (disch := ((try intros); (try subst_vars); (repeat' split) <;> try simp)); done)
      | (apply foldl_pending <;> (intros; try subst_vars; try dsimp only)) | (apply foldl_bulk <;> (intros; try subst_vars; try dsimp only)) | (apply foldl_dev <;> (intros; try subst_vars; try dsimp only)) | (apply foldl_quill <;> (intros; try subst_vars; try dsimp only)) | (apply foldl_module_ <;> (intros; try subst_vars; try dsimp only)) | (apply foldl_time <;> (intros; try subst_vars; try dsimp only)) | (apply foldl_free <;> (intros; try subst_vars; try dsimp only))
      | simp

@[simp] theorem State.configStep_frame (s : State) (p : Nat) :
    OnlyCoresClustersPartsCtxsStoreHostFabricNetOut (State.configStep s p) s := by
  unfold State.configStep
  repeat' split
  all_goals simp [*]

@[simp] theorem State.windowStep_frame (s : State) (p : Nat) :
    OnlyCoresClustersHostFabricOut (State.windowStep s p) s := by
  unfold State.windowStep
  repeat' split
  all_goals simp [*]

@[simp] theorem State.syncLedgers_frame (s : State) (p : Nat) :
    OnlyModule (State.syncLedgers s p) s := by
  unfold State.syncLedgers
  repeat' split
  all_goals simp [*]

@[simp] theorem State.countStroke_frame (s : State) (p : Nat) :
    OnlyCoresPartsCtxsHostQuillModuleOut (State.countStroke s p) s := by
  unfold State.countStroke
  repeat' split
  all_goals simp [*]

@[simp] theorem State.enterCores_frame (s : State) (p : Nat) :
    OnlyCores (State.enterCores s p) s := by
  unfold State.enterCores
  repeat' split
  all_goals simp [*]

@[simp] theorem State.carryDisable_frame (s : State) (c j : Nat) :
    OnlyCtxs (State.carryDisable s c j) s := by
  unfold State.carryDisable
  repeat' split
  all_goals simp [*]

@[simp] theorem State.runDisable_frame (t : State) (c : Nat) :
    OnlyCtxs (State.runDisable t c) t := by
  unfold State.runDisable
  repeat' split
  all_goals simp [*]

@[simp] theorem State.afterEdge_frame (s : State) (p : Nat) :
    OnlyCoresClustersPartsCtxsStoreBulkHostQuillFabricModuleNetOut (State.afterEdge s p) s := by
  unfold State.afterEdge OnlyCoresClustersPartsCtxsStoreBulkHostQuillFabricModuleNetOut
  try dsimp only
  and_intros
  all_goals
    repeat' first
      | (with_reducible rfl)
      | split
      | (simp (disch := ((try intros); (try subst_vars); (repeat' split) <;> try simp)); done)
      | (apply foldl_pending <;> (intros; try subst_vars; try dsimp only)) | (apply foldl_dev <;> (intros; try subst_vars; try dsimp only)) | (apply foldl_time <;> (intros; try subst_vars; try dsimp only)) | (apply foldl_free <;> (intros; try subst_vars; try dsimp only))
      | simp

@[simp] theorem State.flyAll_frame (s : State) (p : Nat) :
    OnlyClustersParts (State.flyAll s p) s := by
  unfold State.flyAll
  repeat' split
  all_goals simp [*]

@[simp] theorem State.edgeTail_frame (s : State) (p : Nat) :
    OnlyCoresClustersPartsCtxsStoreBulkHostQuillFabricModuleNetOut (State.edgeTail s p) s := by
  unfold State.edgeTail
  repeat' split
  all_goals simp [*]

@[simp] theorem State.endStroke_frame (s : State) (p : Nat) :
    OnlyCoresClustersPartsCtxsStoreHostQuillFabricModuleNetOut (State.endStroke s p) s := by
  unfold State.endStroke
  repeat' split
  all_goals simp [*]

@[simp] theorem State.stopStep_frame (s : State) (p c : Nat) :
    OnlyCoresPartsCtxsStoreBulkHostQuillFabricOut (State.stopStep s p c) s := by
  unfold State.stopStep
  repeat' split
  all_goals simp [*]

@[simp] theorem State.strokeEdge_frame (s : State) (p : Nat) :
    OnlyCoresClustersPartsCtxsStoreBulkHostQuillFabricModuleNetOut (State.strokeEdge s p) s := by
  unfold State.strokeEdge
  repeat' split
  all_goals simp [*]

@[simp] theorem State.tryEdge_frame (s : State) (p : Nat) (first : Bool) :
    OnlyCoresClustersPartsCtxsStoreBulkHostQuillFabricModuleNetOut (State.tryEdge s p first) s := by
  unfold State.tryEdge
  repeat' split
  all_goals simp [*]

@[simp] theorem effStrokeEdge_frame (p : Fin 4) (overrun : Bool) (rules : List RuleEcc) (cal : List XCal) (s : State) :
    OnlyCoresClustersPartsCtxsStoreBulkHostQuillFabricModuleNetOut (effStrokeEdge p overrun rules cal s) s := by
  unfold effStrokeEdge OnlyCoresClustersPartsCtxsStoreBulkHostQuillFabricModuleNetOut
  try dsimp only
  and_intros
  all_goals
    repeat' first
      | (with_reducible rfl)
      | split
      | (simp (disch := ((try intros); (try subst_vars); (repeat' split) <;> try simp)); done)
      | (apply foldl_pending <;> (intros; try subst_vars; try dsimp only)) | (apply foldl_dev <;> (intros; try subst_vars; try dsimp only)) | (apply foldl_time <;> (intros; try subst_vars; try dsimp only)) | (apply foldl_free <;> (intros; try subst_vars; try dsimp only))
      | simp

@[simp] theorem effHoldRelease_frame (p : Fin 4) (s : State) :
    OnlyCoresClustersPartsCtxsStoreBulkHostQuillFabricModuleNetOut (effHoldRelease p s) s := by
  unfold effHoldRelease
  repeat' split
  all_goals simp [*]

@[simp] theorem effCrossingEmptyStall_frame (p : Fin 4) (s : State) :
    OnlyParts (effCrossingEmptyStall p s) s := by
  unfold effCrossingEmptyStall
  repeat' split
  all_goals simp [*]

@[simp] theorem effCrossingFullStall_frame (p : Fin 4) (s : State) :
    OnlyParts (effCrossingFullStall p s) s := by
  unfold effCrossingFullStall
  repeat' split
  all_goals simp [*]

@[simp] theorem effCrossingResume_frame (p : Fin 4) (s : State) :
    OnlyCoresPartsNet (effCrossingResume p s) s := by
  unfold effCrossingResume
  repeat' split
  all_goals simp [*]

@[simp] theorem effDroopStretch_frame (r : Fin 8) (cycles : BitVec 8) (s : State) :
    OnlyModule (effDroopStretch r cycles s) s := by
  unfold effDroopStretch
  repeat' split
  all_goals simp [*]

end Sys2Proof.Machine
end

