-- ==== Sys2Proof/Laws/Checkpoints.lean ====
section
/-!
SUPPORT. For each function of Machine/Checkpoints.lean that answers a state: the fields it leaves as they were.
-/
namespace Sys2Proof.Machine
@[simp] theorem State.mirrorToHost_frame (t : State) (fn : Nat) (k : CkptCmd) (e : Nat × Nat) :
    OnlyOut (State.mirrorToHost t fn k e) t := by
  unfold State.mirrorToHost
  repeat' split
  all_goals simp [*]

@[simp] theorem State.mirrorToPeer_frame (t : State) (k : CkptCmd) (e : Nat × Nat) :
    OnlyCoresClustersPartsCtxsStoreBulkHostQuillFabricModuleOut (State.mirrorToPeer t k e) t := by
  unfold State.mirrorToPeer OnlyCoresClustersPartsCtxsStoreBulkHostQuillFabricModuleOut
  dsimp only
  and_intros
  · split
    · rfl
    · exact foldl_pending _ _ _ (fun u i y h => by subst h; simp)
  · split
    · rfl
    · exact foldl_dev _ _ _ (fun u i y h => by subst h; simp)
  · split
    · rfl
    · exact foldl_net _ _ _ (fun u i y h => by subst h; simp)
  · split
    · rfl
    · exact foldl_time _ _ _ (fun u i y h => by subst h; simp)
  · split
    · rfl
    · exact foldl_free _ _ _ (fun u i y h => by subst h; simp)

@[simp] theorem State.writeMirror_frame (s : State) (k : CkptCmd) (w : CkptWork) :
    OnlyCoresClustersPartsCtxsStoreBulkHostQuillFabricModuleOut (State.writeMirror s k w) s := by
  unfold OnlyCoresClustersPartsCtxsStoreBulkHostQuillFabricModuleOut
  and_intros
  · rw [State.writeMirror, ite_pending]
    split
    · exact foldl_pending _ _ _ (fun t e _ h => h ▸ (State.mirrorToHost_frame t _ k e).1)
    · exact foldl_pending _ _ _ (fun t e _ h => h ▸ (State.mirrorToPeer_frame t k e).1)
  · rw [State.writeMirror, ite_dev]
    split
    · exact foldl_dev _ _ _ (fun t e _ h => h ▸ (State.mirrorToHost_frame t _ k e).2.2.2.2.2.2.2.2.1)
    · exact foldl_dev _ _ _ (fun t e _ h => h ▸ (State.mirrorToPeer_frame t k e).2.1)
  · rw [State.writeMirror, ite_net]
    split
    · exact foldl_net _ _ _ (fun t e _ h => h ▸ (State.mirrorToHost_frame t _ k e).2.2.2.2.2.2.2.2.2.2.2.2.1)
    · exact foldl_net _ _ _ (fun t e _ h => h ▸ (State.mirrorToPeer_frame t k e).2.2.1)
  · rw [State.writeMirror, ite_time]
    split
    · exact foldl_time _ _ _ (fun t e _ h => h ▸ (State.mirrorToHost_frame t _ k e).2.2.2.2.2.2.2.2.2.2.2.2.2.1)
    · exact foldl_time _ _ _ (fun t e _ h => h ▸ (State.mirrorToPeer_frame t k e).2.2.2.1)
  · rw [State.writeMirror, ite_free]
    split
    · exact foldl_free _ _ _ (fun t e _ h => h ▸ (State.mirrorToHost_frame t _ k e).2.2.2.2.2.2.2.2.2.2.2.2.2.2)
    · exact foldl_free _ _ _ (fun t e _ h => h ▸ (State.mirrorToPeer_frame t k e).2.2.2.2)

@[simp] theorem State.noteJob_frame (s : State) (id v : Nat) :
    OnlyHost (State.noteJob s id v) s := by
  unfold State.noteJob
  repeat' split
  all_goals simp [*]

@[simp] theorem State.commitCheckpoint_frame (s : State) (c : Nat) (w : CkptWork) :
    OnlyCoresClustersPartsCtxsStoreBulkHostQuillFabricModuleOut (State.commitCheckpoint s c w) s := by
  unfold State.commitCheckpoint OnlyCoresClustersPartsCtxsStoreBulkHostQuillFabricModuleOut
  try dsimp only
  and_intros
  all_goals
    repeat' first
      | (with_reducible rfl)
      | split
      | (simp (disch := ((try intros); (try subst_vars); (repeat' split) <;> try simp)); done)
      | (apply foldl_pending <;> (intros; try subst_vars; try dsimp only)) | (apply foldl_dev <;> (intros; try subst_vars; try dsimp only)) | (apply foldl_net <;> (intros; try subst_vars; try dsimp only)) | (apply foldl_time <;> (intros; try subst_vars; try dsimp only)) | (apply foldl_free <;> (intros; try subst_vars; try dsimp only))
      | simp

@[simp] theorem State.rotateCluster_frame (s : State) (c : Nat) (w : CkptWork) (lc k : Nat) :
    OnlyCoresClustersStoreHostQuillModuleOut (State.rotateCluster s c w lc k) s := by
  unfold State.rotateCluster
  repeat' split
  all_goals simp [*]

@[simp] theorem State.rotate_frame (s : State) (c : Nat) (w : CkptWork) :
    OnlyCoresClustersStoreHostQuillModuleOut (State.rotate s c w) s := by
  unfold State.rotate
  repeat' split
  all_goals simp [*]

@[simp] theorem State.seamRelease_frame (s : State) (c : Nat) :
    OnlyCoresPartsCtxsStoreQuillFabricOut (State.seamRelease s c) s := by
  unfold State.seamRelease
  repeat' split
  all_goals simp [*]

@[simp] theorem State.endPause_frame (s : State) (c : Nat) :
    OnlyCoresClustersPartsCtxsStoreBulkHostQuillFabricModuleNetOut (State.endPause s c) s := by
  unfold State.endPause
  repeat' split
  all_goals simp [*]

@[simp] theorem effCheckpointCommit_frame (c : Fin 16) (find : List (DWord × Ecc)) (split : List DWord) (s : State) :
    OnlyCoresClustersPartsCtxsStoreBulkHostQuillFabricModuleNetOut (effCheckpointCommit c find split s) s := by
  unfold effCheckpointCommit
  repeat' split
  all_goals simp [*]

@[simp] theorem effCheckpointMirrorDone_frame (job : Nat) (ok : Bool) (s : State) :
    OnlyHostOut (effCheckpointMirrorDone job ok s) s := by
  unfold effCheckpointMirrorDone
  repeat' split
  all_goals simp [*]

@[simp] theorem effCheckpointTimeout_frame (job : Nat) (s : State) :
    OnlyCtxsHostOut (effCheckpointTimeout job s) s := by
  unfold effCheckpointTimeout
  repeat' split
  all_goals simp [*]

@[simp] theorem effContextRestart_frame (c : Fin 16) (lines : List LineFind) (s : State) :
    OnlyCoresClustersPartsCtxsStoreBulkHostQuillFabricModuleNetOut (effContextRestart c lines s) s := by
  unfold effContextRestart
  repeat' split
  all_goals simp [*]

@[simp] theorem effCoreRemap_frame (core : Fin 1536) (s : State) :
    OnlyCoresClustersHostQuillModuleOut (effCoreRemap core s) s := by
  unfold effCoreRemap
  repeat' split
  all_goals simp [*]

end Sys2Proof.Machine
end

