-- ==== Sys2Proof/Laws/HostCmd.lean ====
section
/-!
SUPPORT. For each function of Machine/HostCmd.lean that answers a state: the fields it leaves as they were.
-/
namespace Sys2Proof.Machine
@[simp] theorem State.claim_frame (s : State) (h : Hdr) (c : CmdSpec) :
    OnlyHost (State.claim s h c) s := by
  unfold State.claim
  repeat' split
  all_goals simp [*]

@[simp] theorem State.unclaim_frame (s : State) (h : Hdr) (job : Nat) :
    OnlyHost (State.unclaim s h job) s := by
  unfold State.unclaim
  repeat' split
  all_goals simp [*]

@[simp] theorem State.checked_pending (s : State) (h : Hdr) (c : CmdSpec) (ok : Bool) (body : State → State) (hbody : ∀ x0 y, y = body x0 → y.pending = x0.pending) :
    (State.checked s h c ok body).pending = s.pending := by
  have gbody := fun x0 => hbody x0 _ rfl
  unfold State.checked
  repeat' split
  all_goals simp [*]

@[simp] theorem State.checked_cores (s : State) (h : Hdr) (c : CmdSpec) (ok : Bool) (body : State → State) (hbody : ∀ x0 y, y = body x0 → y.cores = x0.cores) :
    (State.checked s h c ok body).cores = s.cores := by
  have gbody := fun x0 => hbody x0 _ rfl
  unfold State.checked
  repeat' split
  all_goals simp [*]

@[simp] theorem State.checked_clusters (s : State) (h : Hdr) (c : CmdSpec) (ok : Bool) (body : State → State) (hbody : ∀ x0 y, y = body x0 → y.clusters = x0.clusters) :
    (State.checked s h c ok body).clusters = s.clusters := by
  have gbody := fun x0 => hbody x0 _ rfl
  unfold State.checked
  repeat' split
  all_goals simp [*]

@[simp] theorem State.checked_parts (s : State) (h : Hdr) (c : CmdSpec) (ok : Bool) (body : State → State) (hbody : ∀ x0 y, y = body x0 → y.parts = x0.parts) :
    (State.checked s h c ok body).parts = s.parts := by
  have gbody := fun x0 => hbody x0 _ rfl
  unfold State.checked
  repeat' split
  all_goals simp [*]

@[simp] theorem State.checked_ctxs (s : State) (h : Hdr) (c : CmdSpec) (ok : Bool) (body : State → State) (hbody : ∀ x0 y, y = body x0 → y.ctxs = x0.ctxs) :
    (State.checked s h c ok body).ctxs = s.ctxs := by
  have gbody := fun x0 => hbody x0 _ rfl
  unfold State.checked
  repeat' split
  all_goals simp [*]

@[simp] theorem State.checked_store (s : State) (h : Hdr) (c : CmdSpec) (ok : Bool) (body : State → State) (hbody : ∀ x0 y, y = body x0 → y.store = x0.store) :
    (State.checked s h c ok body).store = s.store := by
  have gbody := fun x0 => hbody x0 _ rfl
  unfold State.checked
  repeat' split
  all_goals simp [*]

@[simp] theorem State.checked_bulk (s : State) (h : Hdr) (c : CmdSpec) (ok : Bool) (body : State → State) (hbody : ∀ x0 y, y = body x0 → y.bulk = x0.bulk) :
    (State.checked s h c ok body).bulk = s.bulk := by
  have gbody := fun x0 => hbody x0 _ rfl
  unfold State.checked
  repeat' split
  all_goals simp [*]

@[simp] theorem State.checked_dev (s : State) (h : Hdr) (c : CmdSpec) (ok : Bool) (body : State → State) (hbody : ∀ x0 y, y = body x0 → y.dev = x0.dev) :
    (State.checked s h c ok body).dev = s.dev := by
  have gbody := fun x0 => hbody x0 _ rfl
  unfold State.checked
  repeat' split
  all_goals simp [*]

@[simp] theorem State.checked_quill (s : State) (h : Hdr) (c : CmdSpec) (ok : Bool) (body : State → State) (hbody : ∀ x0 y, y = body x0 → y.quill = x0.quill) :
    (State.checked s h c ok body).quill = s.quill := by
  have gbody := fun x0 => hbody x0 _ rfl
  unfold State.checked
  repeat' split
  all_goals simp [*]

@[simp] theorem State.checked_fabric (s : State) (h : Hdr) (c : CmdSpec) (ok : Bool) (body : State → State) (hbody : ∀ x0 y, y = body x0 → y.fabric = x0.fabric) :
    (State.checked s h c ok body).fabric = s.fabric := by
  have gbody := fun x0 => hbody x0 _ rfl
  unfold State.checked
  repeat' split
  all_goals simp [*]

@[simp] theorem State.checked_module_ (s : State) (h : Hdr) (c : CmdSpec) (ok : Bool) (body : State → State) (hbody : ∀ x0 y, y = body x0 → y.module_ = x0.module_) :
    (State.checked s h c ok body).module_ = s.module_ := by
  have gbody := fun x0 => hbody x0 _ rfl
  unfold State.checked
  repeat' split
  all_goals simp [*]

@[simp] theorem State.checked_net (s : State) (h : Hdr) (c : CmdSpec) (ok : Bool) (body : State → State) (hbody : ∀ x0 y, y = body x0 → y.net = x0.net) :
    (State.checked s h c ok body).net = s.net := by
  have gbody := fun x0 => hbody x0 _ rfl
  unfold State.checked
  repeat' split
  all_goals simp [*]

@[simp] theorem State.checked_time (s : State) (h : Hdr) (c : CmdSpec) (ok : Bool) (body : State → State) (hbody : ∀ x0 y, y = body x0 → y.time = x0.time) :
    (State.checked s h c ok body).time = s.time := by
  have gbody := fun x0 => hbody x0 _ rfl
  unfold State.checked
  repeat' split
  all_goals simp [*]

@[simp] theorem State.checked_free (s : State) (h : Hdr) (c : CmdSpec) (ok : Bool) (body : State → State) (hbody : ∀ x0 y, y = body x0 → y.free = x0.free) :
    (State.checked s h c ok body).free = s.free := by
  have gbody := fun x0 => hbody x0 _ rfl
  unfold State.checked
  repeat' split
  all_goals simp [*]

@[simp] theorem State.silence_frame (s : State) (job : Nat) :
    OnlyHost (State.silence s job) s := by
  unfold State.silence
  repeat' split
  all_goals simp [*]

@[simp] theorem State.carryLeft_pending (s : State) (h : Hdr) (c : CmdSpec) (ok : Bool) (l : Left) (body : State → State) (hbody : ∀ x0 y, y = body x0 → y.pending = x0.pending) :
    (State.carryLeft s h c ok l body).pending = s.pending := by
  have gbody := fun x0 => hbody x0 _ rfl
  unfold State.carryLeft
  repeat' split
  all_goals simp [*]

@[simp] theorem State.carryLeft_cores (s : State) (h : Hdr) (c : CmdSpec) (ok : Bool) (l : Left) (body : State → State) (hbody : ∀ x0 y, y = body x0 → y.cores = x0.cores) :
    (State.carryLeft s h c ok l body).cores = s.cores := by
  have gbody := fun x0 => hbody x0 _ rfl
  unfold State.carryLeft
  repeat' split
  all_goals simp [*]

@[simp] theorem State.carryLeft_clusters (s : State) (h : Hdr) (c : CmdSpec) (ok : Bool) (l : Left) (body : State → State) (hbody : ∀ x0 y, y = body x0 → y.clusters = x0.clusters) :
    (State.carryLeft s h c ok l body).clusters = s.clusters := by
  have gbody := fun x0 => hbody x0 _ rfl
  unfold State.carryLeft
  repeat' split
  all_goals simp [*]

@[simp] theorem State.carryLeft_parts (s : State) (h : Hdr) (c : CmdSpec) (ok : Bool) (l : Left) (body : State → State) (hbody : ∀ x0 y, y = body x0 → y.parts = x0.parts) :
    (State.carryLeft s h c ok l body).parts = s.parts := by
  have gbody := fun x0 => hbody x0 _ rfl
  unfold State.carryLeft
  repeat' split
  all_goals simp [*]

@[simp] theorem State.carryLeft_ctxs (s : State) (h : Hdr) (c : CmdSpec) (ok : Bool) (l : Left) (body : State → State) (hbody : ∀ x0 y, y = body x0 → y.ctxs = x0.ctxs) :
    (State.carryLeft s h c ok l body).ctxs = s.ctxs := by
  have gbody := fun x0 => hbody x0 _ rfl
  unfold State.carryLeft
  repeat' split
  all_goals simp [*]

@[simp] theorem State.carryLeft_store (s : State) (h : Hdr) (c : CmdSpec) (ok : Bool) (l : Left) (body : State → State) (hbody : ∀ x0 y, y = body x0 → y.store = x0.store) :
    (State.carryLeft s h c ok l body).store = s.store := by
  have gbody := fun x0 => hbody x0 _ rfl
  unfold State.carryLeft
  repeat' split
  all_goals simp [*]

@[simp] theorem State.carryLeft_bulk (s : State) (h : Hdr) (c : CmdSpec) (ok : Bool) (l : Left) (body : State → State) (hbody : ∀ x0 y, y = body x0 → y.bulk = x0.bulk) :
    (State.carryLeft s h c ok l body).bulk = s.bulk := by
  have gbody := fun x0 => hbody x0 _ rfl
  unfold State.carryLeft
  repeat' split
  all_goals simp [*]

@[simp] theorem State.carryLeft_dev (s : State) (h : Hdr) (c : CmdSpec) (ok : Bool) (l : Left) (body : State → State) (hbody : ∀ x0 y, y = body x0 → y.dev = x0.dev) :
    (State.carryLeft s h c ok l body).dev = s.dev := by
  have gbody := fun x0 => hbody x0 _ rfl
  unfold State.carryLeft
  repeat' split
  all_goals simp [*]

@[simp] theorem State.carryLeft_quill (s : State) (h : Hdr) (c : CmdSpec) (ok : Bool) (l : Left) (body : State → State) (hbody : ∀ x0 y, y = body x0 → y.quill = x0.quill) :
    (State.carryLeft s h c ok l body).quill = s.quill := by
  have gbody := fun x0 => hbody x0 _ rfl
  unfold State.carryLeft
  repeat' split
  all_goals simp [*]

@[simp] theorem State.carryLeft_fabric (s : State) (h : Hdr) (c : CmdSpec) (ok : Bool) (l : Left) (body : State → State) (hbody : ∀ x0 y, y = body x0 → y.fabric = x0.fabric) :
    (State.carryLeft s h c ok l body).fabric = s.fabric := by
  have gbody := fun x0 => hbody x0 _ rfl
  unfold State.carryLeft
  repeat' split
  all_goals simp [*]

@[simp] theorem State.carryLeft_module_ (s : State) (h : Hdr) (c : CmdSpec) (ok : Bool) (l : Left) (body : State → State) (hbody : ∀ x0 y, y = body x0 → y.module_ = x0.module_) :
    (State.carryLeft s h c ok l body).module_ = s.module_ := by
  have gbody := fun x0 => hbody x0 _ rfl
  unfold State.carryLeft
  repeat' split
  all_goals simp [*]

@[simp] theorem State.carryLeft_net (s : State) (h : Hdr) (c : CmdSpec) (ok : Bool) (l : Left) (body : State → State) (hbody : ∀ x0 y, y = body x0 → y.net = x0.net) :
    (State.carryLeft s h c ok l body).net = s.net := by
  have gbody := fun x0 => hbody x0 _ rfl
  unfold State.carryLeft
  repeat' split
  all_goals simp [*]

@[simp] theorem State.carryLeft_time (s : State) (h : Hdr) (c : CmdSpec) (ok : Bool) (l : Left) (body : State → State) (hbody : ∀ x0 y, y = body x0 → y.time = x0.time) :
    (State.carryLeft s h c ok l body).time = s.time := by
  have gbody := fun x0 => hbody x0 _ rfl
  unfold State.carryLeft
  repeat' split
  all_goals simp [*]

@[simp] theorem State.carryLeft_free (s : State) (h : Hdr) (c : CmdSpec) (ok : Bool) (l : Left) (body : State → State) (hbody : ∀ x0 y, y = body x0 → y.free = x0.free) :
    (State.carryLeft s h c ok l body).free = s.free := by
  have gbody := fun x0 => hbody x0 _ rfl
  unfold State.carryLeft
  repeat' split
  all_goals simp [*]

@[simp] theorem State.hostCmd_pending (s : State) (h : Hdr) (c : CmdSpec) (ok : Bool) (body : State → State) (hbody : ∀ x0 y, y = body x0 → y.pending = x0.pending) :
    (State.hostCmd s h c ok body).pending = s.pending := by
  have gbody := fun x0 => hbody x0 _ rfl
  unfold State.hostCmd
  repeat' split
  all_goals simp [*]

@[simp] theorem State.hostCmd_cores (s : State) (h : Hdr) (c : CmdSpec) (ok : Bool) (body : State → State) (hbody : ∀ x0 y, y = body x0 → y.cores = x0.cores) :
    (State.hostCmd s h c ok body).cores = s.cores := by
  have gbody := fun x0 => hbody x0 _ rfl
  unfold State.hostCmd
  repeat' split
  all_goals simp [*]

@[simp] theorem State.hostCmd_clusters (s : State) (h : Hdr) (c : CmdSpec) (ok : Bool) (body : State → State) (hbody : ∀ x0 y, y = body x0 → y.clusters = x0.clusters) :
    (State.hostCmd s h c ok body).clusters = s.clusters := by
  have gbody := fun x0 => hbody x0 _ rfl
  unfold State.hostCmd
  repeat' split
  all_goals simp [*]

@[simp] theorem State.hostCmd_parts (s : State) (h : Hdr) (c : CmdSpec) (ok : Bool) (body : State → State) (hbody : ∀ x0 y, y = body x0 → y.parts = x0.parts) :
    (State.hostCmd s h c ok body).parts = s.parts := by
  have gbody := fun x0 => hbody x0 _ rfl
  unfold State.hostCmd
  repeat' split
  all_goals simp [*]

@[simp] theorem State.hostCmd_ctxs (s : State) (h : Hdr) (c : CmdSpec) (ok : Bool) (body : State → State) (hbody : ∀ x0 y, y = body x0 → y.ctxs = x0.ctxs) :
    (State.hostCmd s h c ok body).ctxs = s.ctxs := by
  have gbody := fun x0 => hbody x0 _ rfl
  unfold State.hostCmd
  repeat' split
  all_goals simp [*]

@[simp] theorem State.hostCmd_store (s : State) (h : Hdr) (c : CmdSpec) (ok : Bool) (body : State → State) (hbody : ∀ x0 y, y = body x0 → y.store = x0.store) :
    (State.hostCmd s h c ok body).store = s.store := by
  have gbody := fun x0 => hbody x0 _ rfl
  unfold State.hostCmd
  repeat' split
  all_goals simp [*]

@[simp] theorem State.hostCmd_bulk (s : State) (h : Hdr) (c : CmdSpec) (ok : Bool) (body : State → State) (hbody : ∀ x0 y, y = body x0 → y.bulk = x0.bulk) :
    (State.hostCmd s h c ok body).bulk = s.bulk := by
  have gbody := fun x0 => hbody x0 _ rfl
  unfold State.hostCmd
  repeat' split
  all_goals simp [*]

@[simp] theorem State.hostCmd_dev (s : State) (h : Hdr) (c : CmdSpec) (ok : Bool) (body : State → State) (hbody : ∀ x0 y, y = body x0 → y.dev = x0.dev) :
    (State.hostCmd s h c ok body).dev = s.dev := by
  have gbody := fun x0 => hbody x0 _ rfl
  unfold State.hostCmd
  repeat' split
  all_goals simp [*]

@[simp] theorem State.hostCmd_quill (s : State) (h : Hdr) (c : CmdSpec) (ok : Bool) (body : State → State) (hbody : ∀ x0 y, y = body x0 → y.quill = x0.quill) :
    (State.hostCmd s h c ok body).quill = s.quill := by
  have gbody := fun x0 => hbody x0 _ rfl
  unfold State.hostCmd
  repeat' split
  all_goals simp [*]

@[simp] theorem State.hostCmd_fabric (s : State) (h : Hdr) (c : CmdSpec) (ok : Bool) (body : State → State) (hbody : ∀ x0 y, y = body x0 → y.fabric = x0.fabric) :
    (State.hostCmd s h c ok body).fabric = s.fabric := by
  have gbody := fun x0 => hbody x0 _ rfl
  unfold State.hostCmd
  repeat' split
  all_goals simp [*]

@[simp] theorem State.hostCmd_module_ (s : State) (h : Hdr) (c : CmdSpec) (ok : Bool) (body : State → State) (hbody : ∀ x0 y, y = body x0 → y.module_ = x0.module_) :
    (State.hostCmd s h c ok body).module_ = s.module_ := by
  have gbody := fun x0 => hbody x0 _ rfl
  unfold State.hostCmd
  repeat' split
  all_goals simp [*]

@[simp] theorem State.hostCmd_net (s : State) (h : Hdr) (c : CmdSpec) (ok : Bool) (body : State → State) (hbody : ∀ x0 y, y = body x0 → y.net = x0.net) :
    (State.hostCmd s h c ok body).net = s.net := by
  have gbody := fun x0 => hbody x0 _ rfl
  unfold State.hostCmd
  repeat' split
  all_goals simp [*]

@[simp] theorem State.hostCmd_time (s : State) (h : Hdr) (c : CmdSpec) (ok : Bool) (body : State → State) (hbody : ∀ x0 y, y = body x0 → y.time = x0.time) :
    (State.hostCmd s h c ok body).time = s.time := by
  have gbody := fun x0 => hbody x0 _ rfl
  unfold State.hostCmd
  repeat' split
  all_goals simp [*]

@[simp] theorem State.hostCmd_free (s : State) (h : Hdr) (c : CmdSpec) (ok : Bool) (body : State → State) (hbody : ∀ x0 y, y = body x0 → y.free = x0.free) :
    (State.hostCmd s h c ok body).free = s.free := by
  have gbody := fun x0 => hbody x0 _ rfl
  unfold State.hostCmd
  repeat' split
  all_goals simp [*]

@[simp] theorem State.newNonce_frame (s : State) (f : Nat) :
    OnlyHostFree (State.newNonce s f) s := by
  unfold State.newNonce
  repeat' split
  all_goals simp [*]

@[simp] theorem State.reply_frame (s : State) (h : Hdr) (opcode : Nat) (r : Reply) (data : List Byte) :
    OnlyHostOut (State.reply s h opcode r data) s := by
  unfold State.reply
  repeat' split
  all_goals simp [*]

end Sys2Proof.Machine
end

