-- ==== Sys2Proof/Laws/Boot.lean ====
section
/-!
SUPPORT. For each function of Machine/Boot.lean that answers a state: the fields it leaves as they were.
-/
namespace Sys2Proof.Machine
@[simp] theorem State.bootImage_frame (s : State) (b : List Byte) (recovered : Bool) :
    OnlyModule (State.bootImage s b recovered) s := by
  unfold State.bootImage
  repeat' split
  all_goals simp [*]

@[simp] theorem State.openRecovery_frame (s : State) :
    OnlyHostModule (State.openRecovery s) s := by
  unfold State.openRecovery
  repeat' split
  all_goals simp [*]

@[simp] theorem State.bootRom_frame (s : State) :
    OnlyHostModule (State.bootRom s) s := by
  unfold State.bootRom
  repeat' split
  all_goals simp [*]

@[simp] theorem State.wakeQuill_frame (s : State) :
    OnlyHostQuillModule (State.wakeQuill s) s := by
  unfold State.wakeQuill
  repeat' split
  all_goals simp [*]

@[simp] theorem State.enterSafe_frame (s : State) (cause : Nat) (ms : BitVec 20) :
    OnlyQuillModule (State.enterSafe s cause ms) s := by
  unfold State.enterSafe
  repeat' split
  all_goals simp [*]

end Sys2Proof.Machine
end

