-- ==== Sys2Proof/Laws/Session.lean ====
section
/-!
SUPPORT. For each function of Machine/Session.lean that answers a state: the fields it leaves as they were.
-/
namespace Sys2Proof.Machine
@[simp] theorem effHello_frame (h : Hdr) (majorMin majorMax minorMax : Byte) (s : State) :
    OnlyHostOutFree (effHello h majorMin majorMax minorMax s) s := by
  unfold effHello
  repeat' split
  all_goals simp [*]

@[simp] theorem effGetInfo_frame (h : Hdr) (r : Reply) (s : State) :
    OnlyHostOut (effGetInfo h r s) s := by
  unfold effGetInfo
  repeat' split
  all_goals simp [*]

@[simp] theorem effSetEventMask_frame (h : Hdr) (mask : BitVec 256) (s : State) :
    OnlyHostOut (effSetEventMask h mask s) s := by
  unfold effSetEventMask
  repeat' split
  all_goals simp [*]

@[simp] theorem effGetDistances_frame (h : Hdr) (r : Reply) (mode : Byte) (s : State) :
    OnlyHostOut (effGetDistances h r mode s) s := by
  unfold effGetDistances
  repeat' split
  all_goals simp [*]

@[simp] theorem effSetThresholds_frame (h : Hdr) (block : List Byte) (s : State) :
    OnlyHostQuillModuleOutFree (effSetThresholds h block s) s := by
  unfold effSetThresholds
  repeat' split
  all_goals simp [*]

@[simp] theorem effGetHealth_frame (h : Hdr) (r : Reply) (s : State) :
    OnlyHostOut (effGetHealth h r s) s := by
  unfold effGetHealth
  repeat' split
  all_goals simp [*]

@[simp] theorem effGetMoraine_frame (h : Hdr) (r : Reply) (portion : Byte) (s : State) :
    OnlyHostOut (effGetMoraine h r portion s) s := by
  unfold effGetMoraine
  repeat' split
  all_goals simp [*]

@[simp] theorem State.deviceBack_frame (s : State) :
    OnlyHostQuillModuleOut (State.deviceBack s) s := by
  unfold State.deviceBack
  repeat' split
  all_goals simp [*]

@[simp] theorem State.partitionBack_frame (s : State) (p : Nat) :
    OnlyCoresHostQuillModuleOut (State.partitionBack s p) s := by
  unfold State.partitionBack
  repeat' split
  all_goals simp [*]

@[simp] theorem State.portBack_frame (s : State) (f : Nat) :
    OnlyHostQuillFabricModuleOut (State.portBack s f) s := by
  unfold State.portBack
  repeat' split
  all_goals simp [*]

@[simp] theorem effReturnToService_frame (h : Hdr) (kind index : Byte) (s : State) :
    OnlyCoresHostQuillFabricModuleOut (effReturnToService h kind index s) s := by
  unfold effReturnToService
  repeat' split
  all_goals simp [*]

end Sys2Proof.Machine
end

