-- ==== Sys2Proof/Laws/Modes.lean ====
section
/-!
SUPPORT. For each function of Machine/Modes.lean that answers a state: the fields it leaves as they were.
-/
namespace Sys2Proof.Machine
@[simp] theorem State.modModes_frame (s : State) (p : Nat) (f : Modes → Modes) :
    OnlyQuill (State.modModes s p f) s := by
  unfold State.modModes
  repeat' split
  all_goals simp [*]

@[simp] theorem State.checkCluster_frame (s : State) (on : Bool) (k : Nat) :
    OnlyClustersStore (State.checkCluster s on k) s := by
  unfold State.checkCluster
  repeat' split
  all_goals simp [*]

@[simp] theorem State.setChecking_frame (s : State) (p : Nat) (on : Bool) :
    OnlyClustersStoreQuill (State.setChecking s p on) s := by
  unfold State.setChecking
  repeat' split
  all_goals simp [*]

@[simp] theorem State.applyModes_frame (s : State) (det checking seam patrol drift : Byte) (p : Nat) :
    OnlyClustersPartsStoreQuill (State.applyModes s det checking seam patrol drift p) s := by
  unfold State.applyModes
  repeat' split
  all_goals simp [*]

@[simp] theorem effSetModes_frame (h : Hdr) (det checking seam patrol drift : Byte) (s : State) :
    OnlyClustersPartsStoreHostQuillOut (effSetModes h det checking seam patrol drift s) s := by
  unfold effSetModes
  repeat' split
  all_goals simp [*]

@[simp] theorem State.loseBulk_frame (s : State) :
    OnlyCtxsStoreBulk (State.loseBulk s) s := by
  unfold State.loseBulk
  repeat' split
  all_goals simp [*]

@[simp] theorem State.changeMode_frame (s : State) (mode : BitVec 2) :
    OnlyClustersPartsCtxsStoreBulkDevQuillModule (State.changeMode s mode) s := by
  unfold State.changeMode
  repeat' split
  all_goals simp [*]

@[simp] theorem effSetPartitionMode_frame (h : Hdr) (mode : Byte) (s : State) :
    OnlyClustersPartsCtxsStoreBulkHostDevQuillModuleOut (effSetPartitionMode h mode s) s := by
  unfold effSetPartitionMode
  repeat' split
  all_goals simp [*]

end Sys2Proof.Machine
end

