-- ==== Sys2Proof/Laws/Startup.lean ====
section
/-!
SUPPORT. For each function of Machine/Startup.lean that answers a state: the fields it leaves as they were.
-/
namespace Sys2Proof.Machine
@[simp] theorem State.applyService_frame (s : State) (object index new : Nat) :
    OnlyQuill (State.applyService s object index new) s := by
  unfold State.applyService
  repeat' split
  all_goals simp [*]

@[simp] theorem State.knowRow_frame (s : State) (k : Nat) (r : RowRepair) :
    OnlyQuill (State.knowRow s k r) s := by
  unfold State.knowRow
  repeat' split
  all_goals simp [*]

@[simp] theorem State.applyEntry_frame (s : State) (m : Moraine) :
    OnlyCoresClustersBulkQuillFabric (State.applyEntry s m) s := by
  unfold State.applyEntry
  repeat' split
  all_goals simp [*]

@[simp] theorem State.applyMoraine_frame (s : State) (good : Nat) :
    OnlyCoresClustersBulkQuillFabric (State.applyMoraine s good) s := by
  unfold State.applyMoraine
  repeat' split
  all_goals simp [*]

@[simp] theorem State.loadScore_frame (s : State) :
    OnlyQuill (State.loadScore s) s := by
  unfold State.loadScore
  repeat' split
  all_goals simp [*]

@[simp] theorem State.handleFinding_frame (s : State) (b : BistFinding) :
    OnlyCoresClustersPartsCtxsStoreBulkHostQuillFabricModuleOut (State.handleFinding s b) s := by
  unfold State.handleFinding
  repeat' split
  all_goals simp [*]

@[simp] theorem State.bringPartitions_frame (s : State) (cal : List XCal) :
    OnlyCoresClustersBulkHostQuillModuleOut (State.bringPartitions s cal) s := by
  unfold State.bringPartitions
  repeat' split
  all_goals simp [*]

@[simp] theorem State.portsToDetect_frame (s : State) (fs : List Nat) :
    OnlyFabric (State.portsToDetect s fs) s := by
  unfold State.portsToDetect
  repeat' split
  all_goals simp [*]

@[simp] theorem State.reportService_frame (s : State) :
    OnlyHostQuillModuleOut (State.reportService s) s := by
  unfold State.reportService
  repeat' split
  all_goals simp [*]

@[simp] theorem State.postThermal_frame (s : State) (kind : Nat) (east : Bool) (reset : Nat) :
    OnlyHostQuillModuleOut (State.postThermal s kind east reset) s := by
  unfold State.postThermal
  repeat' split
  all_goals simp [*]

@[simp] theorem State.reportTrip_frame (s : State) :
    OnlyHostQuillModuleOut (State.reportTrip s) s := by
  unfold State.reportTrip
  repeat' split
  all_goals simp [*]

@[simp] theorem State.postMeter_frame (s : State) (kind : Nat) :
    OnlyHostQuillModuleOut (State.postMeter s kind) s := by
  unfold State.postMeter
  repeat' split
  all_goals simp [*]

@[simp] theorem State.reportEntry_frame (s : State) :
    OnlyHostQuillModuleOut (State.reportEntry s) s := by
  unfold State.reportEntry
  repeat' split
  all_goals simp [*]

@[simp] theorem State.endStartJob_frame (s : State) :
    OnlyHostModuleOut (State.endStartJob s) s := by
  unfold State.endStartJob
  repeat' split
  all_goals simp [*]

@[simp] theorem State.checkScrolls_frame (s : State) :
    OnlyPartsCtxs (State.checkScrolls s) s := by
  unfold State.checkScrolls OnlyPartsCtxs
  try dsimp only
  and_intros
  all_goals
    repeat' first
      | (with_reducible rfl)
      | split
      | (simp (disch := ((try intros); (try subst_vars); (repeat' split) <;> try simp)); done)
      | (apply foldl_pending <;> (intros; try subst_vars; try dsimp only)) | (apply foldl_cores <;> (intros; try subst_vars; try dsimp only)) | (apply foldl_clusters <;> (intros; try subst_vars; try dsimp only)) | (apply foldl_store <;> (intros; try subst_vars; try dsimp only)) | (apply foldl_bulk <;> (intros; try subst_vars; try dsimp only)) | (apply foldl_host <;> (intros; try subst_vars; try dsimp only)) | (apply foldl_dev <;> (intros; try subst_vars; try dsimp only)) | (apply foldl_quill <;> (intros; try subst_vars; try dsimp only)) | (apply foldl_fabric <;> (intros; try subst_vars; try dsimp only)) | (apply foldl_module_ <;> (intros; try subst_vars; try dsimp only)) | (apply foldl_net <;> (intros; try subst_vars; try dsimp only)) | (apply foldl_time <;> (intros; try subst_vars; try dsimp only)) | (apply foldl_out <;> (intros; try subst_vars; try dsimp only)) | (apply foldl_free <;> (intros; try subst_vars; try dsimp only))
      | simp

@[simp] theorem State.ready_frame (s : State) (b : BootInput) :
    OnlyCoresClustersPartsCtxsBulkHostQuillFabricModuleOut (State.ready s b) s := by
  unfold State.ready
  repeat' split
  all_goals simp [*]

@[simp] theorem State.relockAll_frame (s : State) :
    OnlyModule (State.relockAll s) s := by
  unfold State.relockAll
  repeat' split
  all_goals simp [*]

@[simp] theorem State.trainPackages_frame (s : State) :
    OnlyBulk (State.trainPackages s) s := by
  unfold State.trainPackages
  repeat' split
  all_goals simp [*]

@[simp] theorem State.quickTest_frame (s : State) (lines : List LineFind) :
    OnlyStoreBulkHostQuillModuleOut (State.quickTest s lines) s := by
  unfold State.quickTest
  repeat' split
  all_goals simp [*]

@[simp] theorem State.startSteps_frame (s : State) (b : BootInput) :
    OnlyCoresClustersPartsCtxsStoreBulkHostQuillFabricModuleOut (State.startSteps s b) s := by
  unfold State.startSteps
  repeat' split
  all_goals simp [*]

@[simp] theorem effStartup_frame (boot : BootInput) (s : State) :
    OnlyCoresClustersPartsCtxsStoreBulkHostDevQuillFabricModuleOut (effStartup boot s) s := by
  unfold effStartup
  repeat' split
  all_goals simp [*]

@[simp] theorem State.quillStarts_frame (s : State) :
    OnlyQuill (State.quillStarts s) s := by
  unfold State.quillStarts
  repeat' split
  all_goals simp [*]

@[simp] theorem State.restartDone_frame (s : State) :
    OnlyHostQuillModuleOut (State.restartDone s) s := by
  unfold State.restartDone
  repeat' split
  all_goals simp [*]

end Sys2Proof.Machine
end

