-- ==== Sys2Proof/Laws/Firmware.lean ====
section
/-!
SUPPORT. For each function of Machine/Firmware.lean that answers a state: the fields it leaves as they were.
-/
namespace Sys2Proof.Machine
@[simp] theorem effAttest_frame (h : Hdr) (r : Reply) (nonce : BitVec 256) (s : State) :
    OnlyHostOut (effAttest h r nonce s) s := by
  unfold effAttest
  repeat' split
  all_goals simp [*]

@[simp] theorem effFwStage_frame (h : Hdr) (hostAddr : DWord) (len : Word) (image : Option (List Byte)) (s : State) :
    OnlyHostModuleOut (effFwStage h hostAddr len image s) s := by
  unfold effFwStage
  repeat' split
  all_goals simp [*]

@[simp] theorem effFwCommit_frame (h : Hdr) (s : State) :
    OnlyHostModuleOut (effFwCommit h s) s := by
  unfold effFwCommit OnlyHostModuleOut
  try dsimp only
  and_intros
  all_goals
    repeat' first
      | (with_reducible rfl)
      | split
      | (simp (disch := ((try intros); (try subst_vars); (repeat' split) <;> try simp)); done)
      | (apply foldl_pending <;> (intros; try subst_vars; try dsimp only)) | (apply foldl_cores <;> (intros; try subst_vars; try dsimp only)) | (apply foldl_clusters <;> (intros; try subst_vars; try dsimp only)) | (apply foldl_parts <;> (intros; try subst_vars; try dsimp only)) | (apply foldl_ctxs <;> (intros; try subst_vars; try dsimp only)) | (apply foldl_store <;> (intros; try subst_vars; try dsimp only)) | (apply foldl_bulk <;> (intros; try subst_vars; try dsimp only)) | (apply foldl_dev <;> (intros; try subst_vars; try dsimp only)) | (apply foldl_quill <;> (intros; try subst_vars; try dsimp only)) | (apply foldl_fabric <;> (intros; try subst_vars; try dsimp only)) | (apply foldl_net <;> (intros; try subst_vars; try dsimp only)) | (apply foldl_time <;> (intros; try subst_vars; try dsimp only)) | (apply foldl_free <;> (intros; try subst_vars; try dsimp only)) | (apply State.hostCmd_pending <;> (intros; try subst_vars; try dsimp only)) | (apply State.hostCmd_cores <;> (intros; try subst_vars; try dsimp only)) | (apply State.hostCmd_clusters <;> (intros; try subst_vars; try dsimp only)) | (apply State.hostCmd_parts <;> (intros; try subst_vars; try dsimp only)) | (apply State.hostCmd_ctxs <;> (intros; try subst_vars; try dsimp only)) | (apply State.hostCmd_store <;> (intros; try subst_vars; try dsimp only)) | (apply State.hostCmd_bulk <;> (intros; try subst_vars; try dsimp only)) | (apply State.hostCmd_dev <;> (intros; try subst_vars; try dsimp only)) | (apply State.hostCmd_quill <;> (intros; try subst_vars; try dsimp only)) | (apply State.hostCmd_fabric <;> (intros; try subst_vars; try dsimp only)) | (apply State.hostCmd_net <;> (intros; try subst_vars; try dsimp only)) | (apply State.hostCmd_time <;> (intros; try subst_vars; try dsimp only)) | (apply State.hostCmd_free <;> (intros; try subst_vars; try dsimp only))
      | simp

@[simp] theorem effFwCommitWriteDone_frame (s : State) :
    OnlyHostModuleOut (effFwCommitWriteDone s) s := by
  unfold effFwCommitWriteDone
  repeat' split
  all_goals simp [*]

@[simp] theorem effRecordRead_frame (h : Hdr) (r : Reply) (rtype index : Half) (s : State) :
    OnlyHostOut (effRecordRead h r rtype index s) s := by
  unfold effRecordRead OnlyHostOut
  try dsimp only
  and_intros
  all_goals
    repeat' first
      | (with_reducible rfl)
      | split
      | (simp (disch := ((try intros); (try subst_vars); (repeat' split) <;> try simp)); done)
      | (apply foldl_pending <;> (intros; try subst_vars; try dsimp only)) | (apply foldl_cores <;> (intros; try subst_vars; try dsimp only)) | (apply foldl_clusters <;> (intros; try subst_vars; try dsimp only)) | (apply foldl_parts <;> (intros; try subst_vars; try dsimp only)) | (apply foldl_ctxs <;> (intros; try subst_vars; try dsimp only)) | (apply foldl_store <;> (intros; try subst_vars; try dsimp only)) | (apply foldl_bulk <;> (intros; try subst_vars; try dsimp only)) | (apply foldl_dev <;> (intros; try subst_vars; try dsimp only)) | (apply foldl_quill <;> (intros; try subst_vars; try dsimp only)) | (apply foldl_fabric <;> (intros; try subst_vars; try dsimp only)) | (apply foldl_module_ <;> (intros; try subst_vars; try dsimp only)) | (apply foldl_net <;> (intros; try subst_vars; try dsimp only)) | (apply foldl_time <;> (intros; try subst_vars; try dsimp only)) | (apply foldl_free <;> (intros; try subst_vars; try dsimp only)) | (apply State.hostCmd_pending <;> (intros; try subst_vars; try dsimp only)) | (apply State.hostCmd_cores <;> (intros; try subst_vars; try dsimp only)) | (apply State.hostCmd_clusters <;> (intros; try subst_vars; try dsimp only)) | (apply State.hostCmd_parts <;> (intros; try subst_vars; try dsimp only)) | (apply State.hostCmd_ctxs <;> (intros; try subst_vars; try dsimp only)) | (apply State.hostCmd_store <;> (intros; try subst_vars; try dsimp only)) | (apply State.hostCmd_bulk <;> (intros; try subst_vars; try dsimp only)) | (apply State.hostCmd_dev <;> (intros; try subst_vars; try dsimp only)) | (apply State.hostCmd_quill <;> (intros; try subst_vars; try dsimp only)) | (apply State.hostCmd_fabric <;> (intros; try subst_vars; try dsimp only)) | (apply State.hostCmd_module_ <;> (intros; try subst_vars; try dsimp only)) | (apply State.hostCmd_net <;> (intros; try subst_vars; try dsimp only)) | (apply State.hostCmd_time <;> (intros; try subst_vars; try dsimp only)) | (apply State.hostCmd_free <;> (intros; try subst_vars; try dsimp only))
      | simp

@[simp] theorem effQuillRestartDone_frame (s : State) :
    OnlyHostQuillModuleOut (effQuillRestartDone s) s := by
  unfold effQuillRestartDone
  repeat' split
  all_goals simp [*]

end Sys2Proof.Machine
end

