-- ==== Sys2Proof/Laws/HostQueues.lean ====
section
/-!
SUPPORT. For each function of Machine/HostQueues.lean that answers a state: the fields it leaves as they were.
-/
namespace Sys2Proof.Machine
@[simp] theorem State.badDoorbell_frame (s : State) (f : Nat) :
    OnlyHost (State.badDoorbell s f) s := by
  unfold State.badDoorbell
  repeat' split
  all_goals simp [*]

@[simp] theorem effSqTailDoorbell_frame (fn : Fin 6) (n : Byte) (val : Word) (s : State) :
    OnlyHost (effSqTailDoorbell fn n val s) s := by
  unfold effSqTailDoorbell
  repeat' split
  all_goals simp [*]

@[simp] theorem effCqHeadDoorbell_frame (fn : Fin 6) (n : Byte) (val : Word) (s : State) :
    OnlyHost (effCqHeadDoorbell fn n val s) s := by
  unfold effCqHeadDoorbell
  repeat' split
  all_goals simp [*]

@[simp] theorem State.flushHeld_frame (fuel : Nat) (s : State) (f : Nat) :
    OnlyHostOut (State.flushHeld fuel s f) s := by
  induction fuel generalizing s with
  | zero => simp [State.flushHeld]
  | succ k ih =>
    unfold State.flushHeld
    repeat' split
    all_goals simp_all

@[simp] theorem State.flushRing_frame (s : State) (f : Nat) :
    OnlyHostOut (State.flushRing s f) s := by
  unfold State.flushRing
  repeat' split
  all_goals simp [*]

@[simp] theorem effEventRingHeadDoorbell_frame (fn : Fin 6) (val : Word) (s : State) :
    OnlyHostOut (effEventRingHeadDoorbell fn val s) s := by
  unfold effEventRingHeadDoorbell
  repeat' split
  all_goals simp [*]

@[simp] theorem effQpEnable_frame (fn : Fin 6) (n : Byte) (val : Word) (s : State) :
    OnlyHost (effQpEnable fn n val s) s := by
  unfold effQpEnable
  repeat' split
  all_goals simp [*]

@[simp] theorem effQpDisable_frame (fn : Fin 6) (n : Byte) (val : Word) (s : State) :
    OnlyHost (effQpDisable fn n val s) s := by
  unfold effQpDisable
  repeat' split
  all_goals simp [*]

@[simp] theorem effQpDeactivate_frame (fn : Fin 6) (n : Byte) (s : State) :
    OnlyHost (effQpDeactivate fn n s) s := by
  unfold effQpDeactivate
  repeat' split
  all_goals simp [*]

@[simp] theorem effEventRingEnable_frame (fn : Fin 6) (val : Word) (s : State) :
    OnlyHostOut (effEventRingEnable fn val s) s := by
  unfold effEventRingEnable
  repeat' split
  all_goals simp [*]

@[simp] theorem effEventLostClear_frame (fn : Fin 6) (val : Word) (s : State) :
    OnlyHost (effEventLostClear fn val s) s := by
  unfold effEventLostClear
  repeat' split
  all_goals simp [*]

@[simp] theorem State.pairFails_frame (s : State) (f n : Nat) :
    OnlyHost (State.pairFails s f n) s := by
  unfold State.pairFails
  repeat' split
  all_goals simp [*]

@[simp] theorem State.refusePacket_frame (s : State) (h : Hdr) (op : Nat) (st : Status) :
    OnlyHostOutFree (State.refusePacket s h op st) s := by
  unfold State.refusePacket
  repeat' split
  all_goals simp [*]

@[simp] theorem State.fetched_frame (s : State) (f n : Nat) (p : List Byte) (job : Option Nat) :
    OnlyHostOut (State.fetched s f n p job) s := by
  unfold State.fetched
  repeat' split
  all_goals simp [*]

@[simp] theorem State.readBlock_frame (s : State) (h : Hdr) (p : List Byte) :
    OnlyOut (State.readBlock s h p) s := by
  unfold State.readBlock
  repeat' split
  all_goals simp [*]

@[simp] theorem effCommandFetch_frame (fn : Fin 6) (n : Byte) (packet : Option (List Byte)) (written : Bool) (s : State) :
    OnlyHostOutFree (effCommandFetch fn n packet written s) s := by
  unfold effCommandFetch OnlyHostOutFree
  try dsimp only
  and_intros
  all_goals
    repeat' first
      | (with_reducible rfl)
      | split
      | (simp (disch := ((try intros); (try subst_vars); (repeat' split) <;> try simp)); done)
      | (apply foldl_pending <;> (intros; try subst_vars; try dsimp only)) | (apply foldl_cores <;> (intros; try subst_vars; try dsimp only)) | (apply foldl_clusters <;> (intros; try subst_vars; try dsimp only)) | (apply foldl_parts <;> (intros; try subst_vars; try dsimp only)) | (apply foldl_ctxs <;> (intros; try subst_vars; try dsimp only)) | (apply foldl_store <;> (intros; try subst_vars; try dsimp only)) | (apply foldl_bulk <;> (intros; try subst_vars; try dsimp only)) | (apply foldl_dev <;> (intros; try subst_vars; try dsimp only)) | (apply foldl_quill <;> (intros; try subst_vars; try dsimp only)) | (apply foldl_fabric <;> (intros; try subst_vars; try dsimp only)) | (apply foldl_module_ <;> (intros; try subst_vars; try dsimp only)) | (apply foldl_net <;> (intros; try subst_vars; try dsimp only)) | (apply foldl_time <;> (intros; try subst_vars; try dsimp only))
      | simp

@[simp] theorem effDeferredCompletion_frame (job : Nat) (s : State) :
    OnlyHostOut (effDeferredCompletion job s) s := by
  unfold effDeferredCompletion
  repeat' split
  all_goals simp [*]

@[simp] theorem effMsixMessage_frame (fn : Fin 6) (vector : BitVec 6) (s : State) :
    OnlyHostOut (effMsixMessage fn vector s) s := by
  unfold effMsixMessage
  repeat' split
  all_goals simp [*]

@[simp] theorem State.resetFn_frame (s : State) (f : Nat) :
    OnlyCtxsHost (State.resetFn s f) s := by
  unfold State.resetFn
  repeat' split
  all_goals simp [*]

@[simp] theorem State.dropIde_frame (s : State) :
    OnlyHost (State.dropIde s) s := by
  unfold State.dropIde
  repeat' split
  all_goals simp [*]

@[simp] theorem effHostFunctionReset_frame (kind : ResetKind) (s : State) :
    OnlyCtxsHostQuillModule (effHostFunctionReset kind s) s := by
  unfold effHostFunctionReset
  repeat' split
  all_goals simp [*]

@[simp] theorem effD3hotEntry_frame (fn : Fin 6) (s : State) :
    OnlyHost (effD3hotEntry fn s) s := by
  unfold effD3hotEntry
  repeat' split
  all_goals simp [*]

@[simp] theorem State.writeParked_frame (s : State) (f : Nat) (e : Parked) :
    OnlyHostOut (State.writeParked s f e) s := by
  unfold State.writeParked
  repeat' split
  all_goals simp [*]

@[simp] theorem State.flushFn_frame (s : State) (f : Nat) :
    OnlyHostOut (State.flushFn s f) s := by
  unfold State.flushFn
  repeat' split
  all_goals simp [*]

@[simp] theorem effD0Return_frame (fn : Fin 6) (s : State) :
    OnlyHostOut (effD0Return fn s) s := by
  unfold effD0Return
  repeat' split
  all_goals simp [*]

@[simp] theorem effPcieConfigWrite_frame (fn : Fin 6) (w : ConfigWrite) (s : State) :
    OnlyCtxsHostOut (effPcieConfigWrite fn w s) s := by
  unfold effPcieConfigWrite
  repeat' split
  all_goals simp [*]

@[simp] theorem State.ideFails_frame (s : State) (x : IdeStream) :
    OnlyHost (State.ideFails s x) s := by
  unfold State.ideFails
  repeat' split
  all_goals simp [*]

@[simp] theorem effPcieLinkStateChange_frame (st : HostLink) (ideFail : List IdeStream) (s : State) :
    OnlyHost (effPcieLinkStateChange st ideFail s) s := by
  unfold effPcieLinkStateChange
  repeat' split
  all_goals simp [*]

end Sys2Proof.Machine
end

