-- ==== Sys2Proof/Laws/MeterCmds.lean ====
section
/-!
SUPPORT. For each function of Machine/MeterCmds.lean that answers a state: the fields it leaves as they were.
-/
namespace Sys2Proof.Machine
@[simp] theorem State.refreshEm_frame (s : State) :
    OnlyModule (State.refreshEm s) s := by
  unfold State.refreshEm
  repeat' split
  all_goals simp [*]

@[simp] theorem State.takeReading_frame (s : State) (kind cause : Nat) (tail : DWord) :
    OnlyHostQuillModuleOutFree (State.takeReading s kind cause tail) s := by
  unfold State.takeReading
  repeat' split
  all_goals simp [*]

@[simp] theorem State.tellMeter_frame (s : State) (kind : Nat) :
    OnlyHostQuillModuleOut (State.tellMeter s kind) s := by
  unfold State.tellMeter
  repeat' split
  all_goals simp [*]

@[simp] theorem State.setInput_frame (s : State) (mv : Nat) :
    OnlyModule (State.setInput s mv) s := by
  unfold State.setInput
  repeat' split
  all_goals simp [*]

@[simp] theorem State.inputOut_frame (s : State) (mv : Nat) :
    OnlyHostQuillModuleOut (State.inputOut s mv) s := by
  unfold State.inputOut
  repeat' split
  all_goals simp [*]

@[simp] theorem effInputLowWarn_frame (mv : BitVec 17) (s : State) :
    OnlyHostQuillModuleOut (effInputLowWarn mv s) s := by
  unfold effInputLowWarn
  repeat' split
  all_goals simp [*]

@[simp] theorem effLatchClear_frame (mv : BitVec 17) (s : State) :
    OnlyHostQuillModuleOutFree (effLatchClear mv s) s := by
  unfold effLatchClear
  repeat' split
  all_goals simp [*]

@[simp] theorem State.stretchAll_frame (s : State) (cycles : Nat) :
    OnlyModule (State.stretchAll s cycles) s := by
  unfold State.stretchAll
  repeat' split
  all_goals simp [*]

@[simp] theorem effPeakLimit_frame (ma watts cycles : Half) (s : State) :
    OnlyModule (effPeakLimit ma watts cycles s) s := by
  unfold effPeakLimit
  repeat' split
  all_goals simp [*]

@[simp] theorem effInputReturnToRange_frame (mv : BitVec 17) (s : State) :
    OnlyHostQuillModuleOut (effInputReturnToRange mv s) s := by
  unfold effInputReturnToRange
  repeat' split
  all_goals simp [*]

@[simp] theorem effInputAboveRange_frame (mv : BitVec 17) (s : State) :
    OnlyHostQuillModuleOut (effInputAboveRange mv s) s := by
  unfold effInputAboveRange
  repeat' split
  all_goals simp [*]

@[simp] theorem effMeterPeriodicReading_frame (mv : BitVec 17) (ma : BitVec 16) (s : State) :
    OnlyHostQuillModuleOutFree (effMeterPeriodicReading mv ma s) s := by
  unfold effMeterPeriodicReading
  repeat' split
  all_goals simp [*]

@[simp] theorem effMeterSealOpen_frame (s : State) :
    OnlyHostQuillModuleOutFree (effMeterSealOpen s) s := by
  unfold effMeterSealOpen
  repeat' split
  all_goals simp [*]

@[simp] theorem effMeterReseal_frame (ok : Bool) (s : State) :
    OnlyHostQuillModuleOutFree (effMeterReseal ok s) s := by
  unfold effMeterReseal
  repeat' split
  all_goals simp [*]

@[simp] theorem effMeterFwUpdate_frame (version : Word) (ok : Bool) (s : State) :
    OnlyHostQuillModuleOutFree (effMeterFwUpdate version ok s) s := by
  unfold effMeterFwUpdate
  repeat' split
  all_goals simp [*]

@[simp] theorem effMeterSelfFault_frame (s : State) :
    OnlyHostQuillModuleOutFree (effMeterSelfFault s) s := by
  unfold effMeterSelfFault
  repeat' split
  all_goals simp [*]

@[simp] theorem effMeterNoAnswer_frame (s : State) :
    OnlyHostQuillModuleOut (effMeterNoAnswer s) s := by
  unfold effMeterNoAnswer
  repeat' split
  all_goals simp [*]

@[simp] theorem effEmRefresh_frame (s : State) :
    OnlyHostQuillModuleOut (effEmRefresh s) s := by
  unfold effEmRefresh
  repeat' split
  all_goals simp [*]

@[simp] theorem effMeterRead_frame (h : Hdr) (r : Reply) (s : State) :
    OnlyHostQuillModuleOutFree (effMeterRead h r s) s := by
  unfold effMeterRead
  repeat' split
  all_goals simp [*]

@[simp] theorem State.meterStamp_frame (s : State) (h : Hdr) (r : Reply) (job : DWord) (close : Bool) :
    OnlyHostQuillModuleOutFree (State.meterStamp s h r job close) s := by
  unfold State.meterStamp OnlyHostQuillModuleOutFree
  try dsimp only
  and_intros
  all_goals
    repeat' first
      | (with_reducible rfl)
      | split
      | (simp (disch := ((try intros); (try subst_vars); (repeat' split) <;> try simp)); done)
      | (apply foldl_pending <;> (intros; try subst_vars; try dsimp only)) | (apply foldl_cores <;> (intros; try subst_vars; try dsimp only)) | (apply foldl_clusters <;> (intros; try subst_vars; try dsimp only)) | (apply foldl_parts <;> (intros; try subst_vars; try dsimp only)) | (apply foldl_ctxs <;> (intros; try subst_vars; try dsimp only)) | (apply foldl_store <;> (intros; try subst_vars; try dsimp only)) | (apply foldl_bulk <;> (intros; try subst_vars; try dsimp only)) | (apply foldl_dev <;> (intros; try subst_vars; try dsimp only)) | (apply foldl_fabric <;> (intros; try subst_vars; try dsimp only)) | (apply foldl_net <;> (intros; try subst_vars; try dsimp only)) | (apply foldl_time <;> (intros; try subst_vars; try dsimp only)) | (apply State.hostCmd_pending <;> (intros; try subst_vars; try dsimp only)) | (apply State.hostCmd_cores <;> (intros; try subst_vars; try dsimp only)) | (apply State.hostCmd_clusters <;> (intros; try subst_vars; try dsimp only)) | (apply State.hostCmd_parts <;> (intros; try subst_vars; try dsimp only)) | (apply State.hostCmd_ctxs <;> (intros; try subst_vars; try dsimp only)) | (apply State.hostCmd_store <;> (intros; try subst_vars; try dsimp only)) | (apply State.hostCmd_bulk <;> (intros; try subst_vars; try dsimp only)) | (apply State.hostCmd_dev <;> (intros; try subst_vars; try dsimp only)) | (apply State.hostCmd_fabric <;> (intros; try subst_vars; try dsimp only)) | (apply State.hostCmd_net <;> (intros; try subst_vars; try dsimp only)) | (apply State.hostCmd_time <;> (intros; try subst_vars; try dsimp only))
      | simp

@[simp] theorem effMeterStampStart_frame (h : Hdr) (r : Reply) (jobId : DWord) (s : State) :
    OnlyHostQuillModuleOutFree (effMeterStampStart h r jobId s) s := by
  unfold effMeterStampStart
  repeat' split
  all_goals simp [*]

@[simp] theorem effMeterStampEnd_frame (h : Hdr) (r : Reply) (jobId : DWord) (s : State) :
    OnlyHostQuillModuleOutFree (effMeterStampEnd h r jobId s) s := by
  unfold effMeterStampEnd
  repeat' split
  all_goals simp [*]

end Sys2Proof.Machine
end

