-- ==== Sys2Proof/Laws/Contexts.lean ====
section
/-!
SUPPORT. For each function of Machine/Contexts.lean that answers a state: the fields it leaves as they were.
-/
namespace Sys2Proof.Machine
@[simp] theorem effLoadScroll_frame (h : Hdr) (hostAddr len : DWord) (s : State) :
    OnlyPartsCtxsHostOut (effLoadScroll h hostAddr len s) s := by
  unfold effLoadScroll OnlyPartsCtxsHostOut
  try dsimp only
  and_intros
  all_goals
    repeat' first
      | (with_reducible rfl)
      | split
      | (simp (disch := ((try intros); (try subst_vars); (repeat' split) <;> try simp)); done)
      | (apply foldl_pending <;> (intros; try subst_vars; try dsimp only)) | (apply foldl_cores <;> (intros; try subst_vars; try dsimp only)) | (apply foldl_clusters <;> (intros; try subst_vars; try dsimp only)) | (apply foldl_store <;> (intros; try subst_vars; try dsimp only)) | (apply foldl_bulk <;> (intros; try subst_vars; try dsimp only)) | (apply foldl_dev <;> (intros; try subst_vars; try dsimp only)) | (apply foldl_quill <;> (intros; try subst_vars; try dsimp only)) | (apply foldl_fabric <;> (intros; try subst_vars; try dsimp only)) | (apply foldl_module_ <;> (intros; try subst_vars; try dsimp only)) | (apply foldl_net <;> (intros; try subst_vars; try dsimp only)) | (apply foldl_time <;> (intros; try subst_vars; try dsimp only)) | (apply foldl_free <;> (intros; try subst_vars; try dsimp only)) | (apply State.hostCmd_pending <;> (intros; try subst_vars; try dsimp only)) | (apply State.hostCmd_cores <;> (intros; try subst_vars; try dsimp only)) | (apply State.hostCmd_clusters <;> (intros; try subst_vars; try dsimp only)) | (apply State.hostCmd_store <;> (intros; try subst_vars; try dsimp only)) | (apply State.hostCmd_bulk <;> (intros; try subst_vars; try dsimp only)) | (apply State.hostCmd_dev <;> (intros; try subst_vars; try dsimp only)) | (apply State.hostCmd_quill <;> (intros; try subst_vars; try dsimp only)) | (apply State.hostCmd_fabric <;> (intros; try subst_vars; try dsimp only)) | (apply State.hostCmd_module_ <;> (intros; try subst_vars; try dsimp only)) | (apply State.hostCmd_net <;> (intros; try subst_vars; try dsimp only)) | (apply State.hostCmd_time <;> (intros; try subst_vars; try dsimp only)) | (apply State.hostCmd_free <;> (intros; try subst_vars; try dsimp only))
      | simp

@[simp] theorem effScrollReadComplete_frame (job : Nat) (bytes : Option (List Byte)) (s : State) :
    OnlyPartsCtxsStoreHostOut (effScrollReadComplete job bytes s) s := by
  unfold effScrollReadComplete OnlyPartsCtxsStoreHostOut
  try dsimp only
  and_intros
  all_goals
    repeat' first
      | (with_reducible rfl)
      | split
      | (simp (disch := ((try intros); (try subst_vars); (repeat' split) <;> try simp)); done)
      | (apply foldl_pending <;> (intros; try subst_vars; try dsimp only)) | (apply foldl_cores <;> (intros; try subst_vars; try dsimp only)) | (apply foldl_clusters <;> (intros; try subst_vars; try dsimp only)) | (apply foldl_bulk <;> (intros; try subst_vars; try dsimp only)) | (apply foldl_dev <;> (intros; try subst_vars; try dsimp only)) | (apply foldl_quill <;> (intros; try subst_vars; try dsimp only)) | (apply foldl_fabric <;> (intros; try subst_vars; try dsimp only)) | (apply foldl_module_ <;> (intros; try subst_vars; try dsimp only)) | (apply foldl_net <;> (intros; try subst_vars; try dsimp only)) | (apply foldl_time <;> (intros; try subst_vars; try dsimp only)) | (apply foldl_free <;> (intros; try subst_vars; try dsimp only))
      | simp

@[simp] theorem State.cancelHeld_frame (s : State) (c : Nat) :
    OnlyCtxsHostOut (State.cancelHeld s c) s := by
  unfold State.cancelHeld
  repeat' split
  all_goals simp [*]

@[simp] theorem State.enableContext_frame (s : State) (h : Hdr) (cmd : Instr) :
    OnlyCoresClustersPartsCtxsStoreBulkHostQuillFabricModuleNetOut (State.enableContext s h cmd) s := by
  unfold State.enableContext OnlyCoresClustersPartsCtxsStoreBulkHostQuillFabricModuleNetOut
  try dsimp only
  and_intros
  all_goals
    repeat' first
      | (with_reducible rfl)
      | split
      | (simp (disch := ((try intros); (try subst_vars); (repeat' split) <;> try simp)); done)
      | (apply foldl_pending <;> (intros; try subst_vars; try dsimp only)) | (apply foldl_dev <;> (intros; try subst_vars; try dsimp only)) | (apply foldl_time <;> (intros; try subst_vars; try dsimp only)) | (apply foldl_free <;> (intros; try subst_vars; try dsimp only))
      | simp

@[simp] theorem effStartContext_frame (h : Hdr) (watermark : BitVec 256) (clock from_ : Byte) (bulkSize hostBase hostLimit : Word) (lines : List LineFind) (s : State) :
    OnlyCoresClustersPartsCtxsStoreBulkHostQuillFabricModuleNetOut (effStartContext h watermark clock from_ bulkSize hostBase hostLimit lines s) s := by
  unfold effStartContext
  repeat' split
  all_goals simp [*]

@[simp] theorem State.stopFrozen_frame (s : State) (c : Nat) :
    OnlyCoresClustersPartsCtxsStoreBulkHostQuillFabricModuleNetOut (State.stopFrozen s c) s := by
  unfold State.stopFrozen OnlyCoresClustersPartsCtxsStoreBulkHostQuillFabricModuleNetOut
  try dsimp only
  and_intros
  all_goals
    repeat' first
      | (with_reducible rfl)
      | split
      | (simp (disch := ((try intros); (try subst_vars); (repeat' split) <;> try simp)); done)
      | (apply foldl_pending <;> (intros; try subst_vars; try dsimp only)) | (apply foldl_dev <;> (intros; try subst_vars; try dsimp only)) | (apply foldl_time <;> (intros; try subst_vars; try dsimp only)) | (apply foldl_free <;> (intros; try subst_vars; try dsimp only))
      | simp

@[simp] theorem State.disableContext_frame (s : State) (h : Hdr) (cmd : Instr) (quiet : Bool) :
    OnlyCoresClustersPartsCtxsStoreBulkHostQuillFabricModuleNetOut (State.disableContext s h cmd quiet) s := by
  unfold State.disableContext OnlyCoresClustersPartsCtxsStoreBulkHostQuillFabricModuleNetOut
  try dsimp only
  and_intros
  all_goals
    repeat' first
      | (with_reducible rfl)
      | split
      | (simp (disch := ((try intros); (try subst_vars); (repeat' split) <;> try simp)); done)
      | (apply foldl_pending <;> (intros; try subst_vars; try dsimp only)) | (apply foldl_dev <;> (intros; try subst_vars; try dsimp only)) | (apply foldl_time <;> (intros; try subst_vars; try dsimp only)) | (apply foldl_free <;> (intros; try subst_vars; try dsimp only))
      | simp

@[simp] theorem effStopContextAtEdge_frame (h : Hdr) (s : State) :
    OnlyCoresClustersPartsCtxsStoreBulkHostQuillFabricModuleNetOut (effStopContextAtEdge h s) s := by
  unfold effStopContextAtEdge
  repeat' split
  all_goals simp [*]

@[simp] theorem effStopContextAtQuiet_frame (h : Hdr) (s : State) :
    OnlyCoresClustersPartsCtxsStoreBulkHostQuillFabricModuleNetOut (effStopContextAtQuiet h s) s := by
  unfold effStopContextAtQuiet
  repeat' split
  all_goals simp [*]

@[simp] theorem effCheckpoint_frame (h : Hdr) (mirror sm4 : Byte) (peerDevice : Half) (peerWindow : Byte) (hostAddr hostLen : DWord) (s : State) :
    OnlyCtxsHostOut (effCheckpoint h mirror sm4 peerDevice peerWindow hostAddr hostLen s) s := by
  unfold effCheckpoint OnlyCtxsHostOut
  try dsimp only
  and_intros
  all_goals
    repeat' first
      | (with_reducible rfl)
      | split
      | (simp (disch := ((try intros); (try subst_vars); (repeat' split) <;> try simp)); done)
      | (apply foldl_pending <;> (intros; try subst_vars; try dsimp only)) | (apply foldl_cores <;> (intros; try subst_vars; try dsimp only)) | (apply foldl_clusters <;> (intros; try subst_vars; try dsimp only)) | (apply foldl_parts <;> (intros; try subst_vars; try dsimp only)) | (apply foldl_store <;> (intros; try subst_vars; try dsimp only)) | (apply foldl_bulk <;> (intros; try subst_vars; try dsimp only)) | (apply foldl_dev <;> (intros; try subst_vars; try dsimp only)) | (apply foldl_quill <;> (intros; try subst_vars; try dsimp only)) | (apply foldl_fabric <;> (intros; try subst_vars; try dsimp only)) | (apply foldl_module_ <;> (intros; try subst_vars; try dsimp only)) | (apply foldl_net <;> (intros; try subst_vars; try dsimp only)) | (apply foldl_time <;> (intros; try subst_vars; try dsimp only)) | (apply foldl_free <;> (intros; try subst_vars; try dsimp only)) | (apply State.hostCmd_pending <;> (intros; try subst_vars; try dsimp only)) | (apply State.hostCmd_cores <;> (intros; try subst_vars; try dsimp only)) | (apply State.hostCmd_clusters <;> (intros; try subst_vars; try dsimp only)) | (apply State.hostCmd_parts <;> (intros; try subst_vars; try dsimp only)) | (apply State.hostCmd_store <;> (intros; try subst_vars; try dsimp only)) | (apply State.hostCmd_bulk <;> (intros; try subst_vars; try dsimp only)) | (apply State.hostCmd_dev <;> (intros; try subst_vars; try dsimp only)) | (apply State.hostCmd_quill <;> (intros; try subst_vars; try dsimp only)) | (apply State.hostCmd_fabric <;> (intros; try subst_vars; try dsimp only)) | (apply State.hostCmd_module_ <;> (intros; try subst_vars; try dsimp only)) | (apply State.hostCmd_net <;> (intros; try subst_vars; try dsimp only)) | (apply State.hostCmd_time <;> (intros; try subst_vars; try dsimp only)) | (apply State.hostCmd_free <;> (intros; try subst_vars; try dsimp only))
      | simp

@[simp] theorem State.nameImage_frame (s : State) (h : Hdr) (c : Nat) (sc : Scroll) (sequence : DWord) :
    OnlyCtxsHostOut (State.nameImage s h c sc sequence) s := by
  unfold State.nameImage OnlyCtxsHostOut
  try dsimp only
  and_intros
  all_goals
    repeat' first
      | (with_reducible rfl)
      | split
      | (simp (disch := ((try intros); (try subst_vars); (repeat' split) <;> try simp)); done)
      | (apply foldl_pending <;> (intros; try subst_vars; try dsimp only)) | (apply foldl_cores <;> (intros; try subst_vars; try dsimp only)) | (apply foldl_clusters <;> (intros; try subst_vars; try dsimp only)) | (apply foldl_parts <;> (intros; try subst_vars; try dsimp only)) | (apply foldl_store <;> (intros; try subst_vars; try dsimp only)) | (apply foldl_bulk <;> (intros; try subst_vars; try dsimp only)) | (apply foldl_dev <;> (intros; try subst_vars; try dsimp only)) | (apply foldl_quill <;> (intros; try subst_vars; try dsimp only)) | (apply foldl_fabric <;> (intros; try subst_vars; try dsimp only)) | (apply foldl_module_ <;> (intros; try subst_vars; try dsimp only)) | (apply foldl_net <;> (intros; try subst_vars; try dsimp only)) | (apply foldl_time <;> (intros; try subst_vars; try dsimp only)) | (apply foldl_free <;> (intros; try subst_vars; try dsimp only))
      | simp

@[simp] theorem effRestore_frame (h : Hdr) (source_ : Byte) (hostAddr sequence : DWord) (s : State) :
    OnlyCtxsHostOut (effRestore h source_ hostAddr sequence s) s := by
  unfold effRestore OnlyCtxsHostOut
  try dsimp only
  and_intros
  all_goals
    repeat' first
      | (with_reducible rfl)
      | split
      | (simp (disch := ((try intros); (try subst_vars); (repeat' split) <;> try simp)); done)
      | (apply foldl_pending <;> (intros; try subst_vars; try dsimp only)) | (apply foldl_cores <;> (intros; try subst_vars; try dsimp only)) | (apply foldl_clusters <;> (intros; try subst_vars; try dsimp only)) | (apply foldl_parts <;> (intros; try subst_vars; try dsimp only)) | (apply foldl_store <;> (intros; try subst_vars; try dsimp only)) | (apply foldl_bulk <;> (intros; try subst_vars; try dsimp only)) | (apply foldl_dev <;> (intros; try subst_vars; try dsimp only)) | (apply foldl_quill <;> (intros; try subst_vars; try dsimp only)) | (apply foldl_fabric <;> (intros; try subst_vars; try dsimp only)) | (apply foldl_module_ <;> (intros; try subst_vars; try dsimp only)) | (apply foldl_net <;> (intros; try subst_vars; try dsimp only)) | (apply foldl_time <;> (intros; try subst_vars; try dsimp only)) | (apply foldl_free <;> (intros; try subst_vars; try dsimp only)) | (apply State.hostCmd_pending <;> (intros; try subst_vars; try dsimp only)) | (apply State.hostCmd_cores <;> (intros; try subst_vars; try dsimp only)) | (apply State.hostCmd_clusters <;> (intros; try subst_vars; try dsimp only)) | (apply State.hostCmd_parts <;> (intros; try subst_vars; try dsimp only)) | (apply State.hostCmd_store <;> (intros; try subst_vars; try dsimp only)) | (apply State.hostCmd_bulk <;> (intros; try subst_vars; try dsimp only)) | (apply State.hostCmd_dev <;> (intros; try subst_vars; try dsimp only)) | (apply State.hostCmd_quill <;> (intros; try subst_vars; try dsimp only)) | (apply State.hostCmd_fabric <;> (intros; try subst_vars; try dsimp only)) | (apply State.hostCmd_module_ <;> (intros; try subst_vars; try dsimp only)) | (apply State.hostCmd_net <;> (intros; try subst_vars; try dsimp only)) | (apply State.hostCmd_time <;> (intros; try subst_vars; try dsimp only)) | (apply State.hostCmd_free <;> (intros; try subst_vars; try dsimp only))
      | simp

@[simp] theorem effRestoreMirrorCopyDone_frame (job : Nat) (image : Option (List Byte)) (s : State) :
    OnlyCtxsStoreHostOut (effRestoreMirrorCopyDone job image s) s := by
  unfold effRestoreMirrorCopyDone OnlyCtxsStoreHostOut
  try dsimp only
  and_intros
  all_goals
    repeat' first
      | (with_reducible rfl)
      | split
      | (simp (disch := ((try intros); (try subst_vars); (repeat' split) <;> try simp)); done)
      | (apply foldl_pending <;> (intros; try subst_vars; try dsimp only)) | (apply foldl_cores <;> (intros; try subst_vars; try dsimp only)) | (apply foldl_clusters <;> (intros; try subst_vars; try dsimp only)) | (apply foldl_parts <;> (intros; try subst_vars; try dsimp only)) | (apply foldl_bulk <;> (intros; try subst_vars; try dsimp only)) | (apply foldl_dev <;> (intros; try subst_vars; try dsimp only)) | (apply foldl_quill <;> (intros; try subst_vars; try dsimp only)) | (apply foldl_fabric <;> (intros; try subst_vars; try dsimp only)) | (apply foldl_module_ <;> (intros; try subst_vars; try dsimp only)) | (apply foldl_net <;> (intros; try subst_vars; try dsimp only)) | (apply foldl_time <;> (intros; try subst_vars; try dsimp only)) | (apply foldl_free <;> (intros; try subst_vars; try dsimp only))
      | simp

@[simp] theorem State.reconfigure_frame (s : State) (h : Hdr) (cmd : Instr) (discard : Bool) (ruling configId : Byte) (stroke : DWord) :
    OnlyPartsHostOut (State.reconfigure s h cmd discard ruling configId stroke) s := by
  unfold State.reconfigure OnlyPartsHostOut
  try dsimp only
  and_intros
  all_goals
    repeat' first
      | (with_reducible rfl)
      | split
      | (simp (disch := ((try intros); (try subst_vars); (repeat' split) <;> try simp)); done)
      | (apply foldl_pending <;> (intros; try subst_vars; try dsimp only)) | (apply foldl_cores <;> (intros; try subst_vars; try dsimp only)) | (apply foldl_clusters <;> (intros; try subst_vars; try dsimp only)) | (apply foldl_ctxs <;> (intros; try subst_vars; try dsimp only)) | (apply foldl_store <;> (intros; try subst_vars; try dsimp only)) | (apply foldl_bulk <;> (intros; try subst_vars; try dsimp only)) | (apply foldl_dev <;> (intros; try subst_vars; try dsimp only)) | (apply foldl_quill <;> (intros; try subst_vars; try dsimp only)) | (apply foldl_fabric <;> (intros; try subst_vars; try dsimp only)) | (apply foldl_module_ <;> (intros; try subst_vars; try dsimp only)) | (apply foldl_net <;> (intros; try subst_vars; try dsimp only)) | (apply foldl_time <;> (intros; try subst_vars; try dsimp only)) | (apply foldl_free <;> (intros; try subst_vars; try dsimp only))
      | simp

@[simp] theorem effReconfigureDrain_frame (h : Hdr) (ruling configId : Byte) (stroke : DWord) (s : State) :
    OnlyPartsHostOut (effReconfigureDrain h ruling configId stroke s) s := by
  unfold effReconfigureDrain
  repeat' split
  all_goals simp [*]

@[simp] theorem effReconfigureDiscard_frame (h : Hdr) (ruling configId : Byte) (stroke : DWord) (s : State) :
    OnlyPartsHostOut (effReconfigureDiscard h ruling configId stroke s) s := by
  unfold effReconfigureDiscard
  repeat' split
  all_goals simp [*]

@[simp] theorem effSelectVariant_frame (h : Hdr) (index : Byte) (s : State) :
    OnlyCtxsHostOut (effSelectVariant h index s) s := by
  unfold effSelectVariant OnlyCtxsHostOut
  try dsimp only
  and_intros
  all_goals
    repeat' first
      | (with_reducible rfl)
      | split
      | (simp (disch := ((try intros); (try subst_vars); (repeat' split) <;> try simp)); done)
      | (apply foldl_pending <;> (intros; try subst_vars; try dsimp only)) | (apply foldl_cores <;> (intros; try subst_vars; try dsimp only)) | (apply foldl_clusters <;> (intros; try subst_vars; try dsimp only)) | (apply foldl_parts <;> (intros; try subst_vars; try dsimp only)) | (apply foldl_store <;> (intros; try subst_vars; try dsimp only)) | (apply foldl_bulk <;> (intros; try subst_vars; try dsimp only)) | (apply foldl_dev <;> (intros; try subst_vars; try dsimp only)) | (apply foldl_quill <;> (intros; try subst_vars; try dsimp only)) | (apply foldl_fabric <;> (intros; try subst_vars; try dsimp only)) | (apply foldl_module_ <;> (intros; try subst_vars; try dsimp only)) | (apply foldl_net <;> (intros; try subst_vars; try dsimp only)) | (apply foldl_time <;> (intros; try subst_vars; try dsimp only)) | (apply foldl_free <;> (intros; try subst_vars; try dsimp only)) | (apply State.hostCmd_pending <;> (intros; try subst_vars; try dsimp only)) | (apply State.hostCmd_cores <;> (intros; try subst_vars; try dsimp only)) | (apply State.hostCmd_clusters <;> (intros; try subst_vars; try dsimp only)) | (apply State.hostCmd_parts <;> (intros; try subst_vars; try dsimp only)) | (apply State.hostCmd_store <;> (intros; try subst_vars; try dsimp only)) | (apply State.hostCmd_bulk <;> (intros; try subst_vars; try dsimp only)) | (apply State.hostCmd_dev <;> (intros; try subst_vars; try dsimp only)) | (apply State.hostCmd_quill <;> (intros; try subst_vars; try dsimp only)) | (apply State.hostCmd_fabric <;> (intros; try subst_vars; try dsimp only)) | (apply State.hostCmd_module_ <;> (intros; try subst_vars; try dsimp only)) | (apply State.hostCmd_net <;> (intros; try subst_vars; try dsimp only)) | (apply State.hostCmd_time <;> (intros; try subst_vars; try dsimp only)) | (apply State.hostCmd_free <;> (intros; try subst_vars; try dsimp only))
      | simp

@[simp] theorem effGetWatermark_frame (h : Hdr) (r : Reply) (s : State) :
    OnlyHostOut (effGetWatermark h r s) s := by
  unfold effGetWatermark
  repeat' split
  all_goals simp [*]

end Sys2Proof.Machine
end

