-- ==== Sys2Proof/Laws/Ports.lean ====
section
/-!
SUPPORT. For each function of Machine/Ports.lean that answers a state: the fields it leaves as they were.
-/
namespace Sys2Proof.Machine
@[simp] theorem State.chargePort_frame (s : State) (f n : Nat) :
    OnlyQuill (State.chargePort s f n) s := by
  unfold State.chargePort
  repeat' split
  all_goals simp [*]

@[simp] theorem State.chargeDown_frame (s : State) (f cause : Nat) :
    OnlyHostQuillFabricModuleOut (State.chargeDown s f cause) s := by
  unfold State.chargeDown
  repeat' split
  all_goals simp [*]

@[simp] theorem State.selectSource_frame (s : State) :
    OnlyFabric (State.selectSource s) s := by
  unfold State.selectSource
  repeat' split
  all_goals simp [*]

@[simp] theorem State.sourceLost_frame (s : State) (f : Nat) :
    OnlyFabric (State.sourceLost s f) s := by
  unfold State.sourceLost
  repeat' split
  all_goals simp [*]

@[simp] theorem State.evalMismatch_frame (s : State) (f : Nat) (silent : Bool) :
    OnlyHostQuillFabricModuleOut (State.evalMismatch s f silent) s := by
  unfold State.evalMismatch
  repeat' split
  all_goals simp [*]

@[simp] theorem State.partnerLost_frame (s : State) :
    OnlyCtxsHostQuillModuleOut (State.partnerLost s) s := by
  unfold State.partnerLost
  repeat' split
  all_goals simp [*]

@[simp] theorem State.routeAgain_frame (s : State) (x : FabricFlit) :
    OnlyFabricOut (State.routeAgain s x) s := by
  unfold State.routeAgain
  repeat' split
  all_goals simp [*]

@[simp] theorem State.linkDown_frame (s : State) (f cause : Nat) (dst : PortSt) :
    OnlyCtxsHostQuillFabricModuleOut (State.linkDown s f cause dst) s := by
  unfold State.linkDown
  repeat' split
  all_goals simp [*]

@[simp] theorem State.portTo_frame (s : State) (f cause : Nat) (dst : PortSt) :
    OnlyCtxsHostQuillFabricModuleOut (State.portTo s f cause dst) s := by
  unfold State.portTo
  repeat' split
  all_goals simp [*]

@[simp] theorem State.modLane_frame (s : State) (f l : Nat) (g : Lane → Lane) :
    OnlyFabric (State.modLane s f l g) s := by
  unfold State.modLane
  repeat' split
  all_goals simp [*]

@[simp] theorem State.countRetrain_frame (s : State) (f l : Nat) :
    OnlyHostQuillFabricModuleOut (State.countRetrain s f l) s := by
  unfold State.countRetrain
  repeat' split
  all_goals simp [*]

@[simp] theorem State.enterRetrain_frame (s : State) (f cause : Nat) :
    OnlyFabric (State.enterRetrain s f cause) s := by
  unfold State.enterRetrain
  repeat' split
  all_goals simp [*]

@[simp] theorem State.takeBlock_frame (s : State) (f : Nat) (b : List Byte) :
    OnlyFabric (State.takeBlock s f b) s := by
  unfold State.takeBlock
  repeat' split
  all_goals simp [*]

@[simp] theorem State.postUp_frame (s : State) (f : Nat) (b : List Byte) :
    OnlyHostQuillModuleOut (State.postUp s f b) s := by
  unfold State.postUp
  repeat' split
  all_goals simp [*]

@[simp] theorem State.postPeer_frame (s : State) (f : Nat) (old : Option PeerId) (b : List Byte) :
    OnlyHostQuillModuleOut (State.postPeer s f old b) s := by
  unfold State.postPeer
  repeat' split
  all_goals simp [*]

@[simp] theorem State.activate_frame (s : State) (f : Nat) (b : List Byte) :
    OnlyFabric (State.activate s f b) s := by
  unfold State.activate
  repeat' split
  all_goals simp [*]

@[simp] theorem State.settlePort_frame (s : State) (f : Nat) :
    OnlyHostQuillFabricModuleOut (State.settlePort s f) s := by
  unfold State.settlePort
  repeat' split
  all_goals simp [*]

@[simp] theorem effPortDetectPoll_frame (f : Fin 16) (laser : Bool) (light : BitVec 5) (s : State) :
    OnlyFabric (effPortDetectPoll f laser light s) s := by
  unfold effPortDetectPoll
  repeat' split
  all_goals simp [*]

@[simp] theorem effEqualiseDone_frame (f : Fin 16) (locked : BitVec 5) (s : State) :
    OnlyCtxsHostQuillFabricModuleOut (effEqualiseDone f locked s) s := by
  unfold effEqualiseDone
  repeat' split
  all_goals simp [*]

@[simp] theorem effAlignDone_frame (f : Fin 16) (aligned : BitVec 5) (peerNarrow : Bool) (s : State) :
    OnlyCtxsHostQuillFabricModuleOut (effAlignDone f aligned peerNarrow s) s := by
  unfold effAlignDone OnlyCtxsHostQuillFabricModuleOut
  try dsimp only
  and_intros
  all_goals
    repeat' first
      | (with_reducible rfl)
      | split
      | (simp (disch := ((try intros); (try subst_vars); (repeat' split) <;> try simp)); done)
      | (apply foldl_pending <;> (intros; try subst_vars; try dsimp only)) | (apply foldl_cores <;> (intros; try subst_vars; try dsimp only)) | (apply foldl_clusters <;> (intros; try subst_vars; try dsimp only)) | (apply foldl_parts <;> (intros; try subst_vars; try dsimp only)) | (apply foldl_store <;> (intros; try subst_vars; try dsimp only)) | (apply foldl_bulk <;> (intros; try subst_vars; try dsimp only)) | (apply foldl_dev <;> (intros; try subst_vars; try dsimp only)) | (apply foldl_net <;> (intros; try subst_vars; try dsimp only)) | (apply foldl_time <;> (intros; try subst_vars; try dsimp only)) | (apply foldl_free <;> (intros; try subst_vars; try dsimp only))
      | simp

@[simp] theorem effExchangeDone_frame (f : Fin 16) (block : List Byte) (s : State) :
    OnlyCtxsHostQuillFabricModuleOut (effExchangeDone f block s) s := by
  unfold effExchangeDone
  repeat' split
  all_goals simp [*]

@[simp] theorem effTrainingTimeout_frame (f : Fin 16) (s : State) :
    OnlyCtxsHostQuillFabricModuleOut (effTrainingTimeout f s) s := by
  unfold effTrainingTimeout
  repeat' split
  all_goals simp [*]

@[simp] theorem effLaneLockLoss_frame (f : Fin 16) (lane : BitVec 3) (s : State) :
    OnlyHostQuillFabricModuleOut (effLaneLockLoss f lane s) s := by
  unfold effLaneLockLoss
  repeat' split
  all_goals simp [*]

@[simp] theorem State.peerChanged_frame (s : State) (f : Nat) (lanes : List Nat) (b : List Byte) :
    OnlyHostQuillFabricModuleOut (State.peerChanged s f lanes b) s := by
  unfold State.peerChanged
  repeat' split
  all_goals simp [*]

@[simp] theorem effRetrainDone_frame (f : Fin 16) (passed : BitVec 5) (peerNarrow : Bool) (block : List Byte) (s : State) :
    OnlyCtxsHostQuillFabricModuleOut (effRetrainDone f passed peerNarrow block s) s := by
  unfold effRetrainDone OnlyCtxsHostQuillFabricModuleOut
  try dsimp only
  and_intros
  all_goals
    repeat' first
      | (with_reducible rfl)
      | split
      | (simp (disch := ((try intros); (try subst_vars); (repeat' split) <;> try simp)); done)
      | (apply foldl_pending <;> (intros; try subst_vars; try dsimp only)) | (apply foldl_cores <;> (intros; try subst_vars; try dsimp only)) | (apply foldl_clusters <;> (intros; try subst_vars; try dsimp only)) | (apply foldl_parts <;> (intros; try subst_vars; try dsimp only)) | (apply foldl_store <;> (intros; try subst_vars; try dsimp only)) | (apply foldl_bulk <;> (intros; try subst_vars; try dsimp only)) | (apply foldl_dev <;> (intros; try subst_vars; try dsimp only)) | (apply foldl_net <;> (intros; try subst_vars; try dsimp only)) | (apply foldl_time <;> (intros; try subst_vars; try dsimp only)) | (apply foldl_free <;> (intros; try subst_vars; try dsimp only))
      | simp

@[simp] theorem effFlitCrcFail_frame (f : Fin 16) (lane : Option (BitVec 3)) (uncorrectable : Bool) (s : State) :
    OnlyHostQuillFabricModuleOut (effFlitCrcFail f lane uncorrectable s) s := by
  unfold effFlitCrcFail OnlyHostQuillFabricModuleOut
  try dsimp only
  and_intros
  all_goals
    repeat' first
      | (with_reducible rfl)
      | split
      | (simp (disch := ((try intros); (try subst_vars); (repeat' split) <;> try simp)); done)
      | (apply foldl_pending <;> (intros; try subst_vars; try dsimp only)) | (apply foldl_cores <;> (intros; try subst_vars; try dsimp only)) | (apply foldl_clusters <;> (intros; try subst_vars; try dsimp only)) | (apply foldl_parts <;> (intros; try subst_vars; try dsimp only)) | (apply foldl_ctxs <;> (intros; try subst_vars; try dsimp only)) | (apply foldl_store <;> (intros; try subst_vars; try dsimp only)) | (apply foldl_bulk <;> (intros; try subst_vars; try dsimp only)) | (apply foldl_dev <;> (intros; try subst_vars; try dsimp only)) | (apply foldl_net <;> (intros; try subst_vars; try dsimp only)) | (apply foldl_time <;> (intros; try subst_vars; try dsimp only)) | (apply foldl_free <;> (intros; try subst_vars; try dsimp only))
      | simp

@[simp] theorem effCreditStallTimeout_frame (f : Fin 16) (vl : BitVec 3) (s : State) :
    OnlyFabric (effCreditStallTimeout f vl s) s := by
  unfold effCreditStallTimeout
  repeat' split
  all_goals simp [*]

@[simp] theorem effFbIdWrite_frame (val : Word) (s : State) :
    OnlyCtxsHostDevQuillFabricModuleOut (effFbIdWrite val s) s := by
  unfold effFbIdWrite OnlyCtxsHostDevQuillFabricModuleOut
  try dsimp only
  and_intros
  all_goals
    repeat' first
      | (with_reducible rfl)
      | split
      | (simp (disch := ((try intros); (try subst_vars); (repeat' split) <;> try simp)); done)
      | (apply foldl_pending <;> (intros; try subst_vars; try dsimp only)) | (apply foldl_cores <;> (intros; try subst_vars; try dsimp only)) | (apply foldl_clusters <;> (intros; try subst_vars; try dsimp only)) | (apply foldl_parts <;> (intros; try subst_vars; try dsimp only)) | (apply foldl_store <;> (intros; try subst_vars; try dsimp only)) | (apply foldl_bulk <;> (intros; try subst_vars; try dsimp only)) | (apply foldl_net <;> (intros; try subst_vars; try dsimp only)) | (apply foldl_time <;> (intros; try subst_vars; try dsimp only)) | (apply foldl_free <;> (intros; try subst_vars; try dsimp only))
      | simp

@[simp] theorem effFbPortExpectWrite_frame (f : Fin 16) (n : BitVec 3) (val : Word) (s : State) :
    OnlyHostQuillFabricModuleOut (effFbPortExpectWrite f n val s) s := by
  unfold effFbPortExpectWrite
  repeat' split
  all_goals simp [*]

@[simp] theorem State.portCmd_pending (s : State) (h : Hdr) (op : Nat) (port : Byte) (arg : Nat) (ok work : Bool) (body : Nat → State → State) (hbody : ∀ x0 x1 y, y = body x0 x1 → y.pending = x1.pending) :
    (State.portCmd s h op port arg ok work body).pending = s.pending := by
  have gbody := fun x0 x1 => hbody x0 x1 _ rfl
  unfold State.portCmd
  repeat' split
  all_goals simp [*]

@[simp] theorem State.portCmd_cores (s : State) (h : Hdr) (op : Nat) (port : Byte) (arg : Nat) (ok work : Bool) (body : Nat → State → State) (hbody : ∀ x0 x1 y, y = body x0 x1 → y.cores = x1.cores) :
    (State.portCmd s h op port arg ok work body).cores = s.cores := by
  have gbody := fun x0 x1 => hbody x0 x1 _ rfl
  unfold State.portCmd
  repeat' split
  all_goals simp [*]

@[simp] theorem State.portCmd_clusters (s : State) (h : Hdr) (op : Nat) (port : Byte) (arg : Nat) (ok work : Bool) (body : Nat → State → State) (hbody : ∀ x0 x1 y, y = body x0 x1 → y.clusters = x1.clusters) :
    (State.portCmd s h op port arg ok work body).clusters = s.clusters := by
  have gbody := fun x0 x1 => hbody x0 x1 _ rfl
  unfold State.portCmd
  repeat' split
  all_goals simp [*]

@[simp] theorem State.portCmd_parts (s : State) (h : Hdr) (op : Nat) (port : Byte) (arg : Nat) (ok work : Bool) (body : Nat → State → State) (hbody : ∀ x0 x1 y, y = body x0 x1 → y.parts = x1.parts) :
    (State.portCmd s h op port arg ok work body).parts = s.parts := by
  have gbody := fun x0 x1 => hbody x0 x1 _ rfl
  unfold State.portCmd
  repeat' split
  all_goals simp [*]

@[simp] theorem State.portCmd_ctxs (s : State) (h : Hdr) (op : Nat) (port : Byte) (arg : Nat) (ok work : Bool) (body : Nat → State → State) (hbody : ∀ x0 x1 y, y = body x0 x1 → y.ctxs = x1.ctxs) :
    (State.portCmd s h op port arg ok work body).ctxs = s.ctxs := by
  have gbody := fun x0 x1 => hbody x0 x1 _ rfl
  unfold State.portCmd
  repeat' split
  all_goals simp [*]

@[simp] theorem State.portCmd_store (s : State) (h : Hdr) (op : Nat) (port : Byte) (arg : Nat) (ok work : Bool) (body : Nat → State → State) (hbody : ∀ x0 x1 y, y = body x0 x1 → y.store = x1.store) :
    (State.portCmd s h op port arg ok work body).store = s.store := by
  have gbody := fun x0 x1 => hbody x0 x1 _ rfl
  unfold State.portCmd
  repeat' split
  all_goals simp [*]

@[simp] theorem State.portCmd_bulk (s : State) (h : Hdr) (op : Nat) (port : Byte) (arg : Nat) (ok work : Bool) (body : Nat → State → State) (hbody : ∀ x0 x1 y, y = body x0 x1 → y.bulk = x1.bulk) :
    (State.portCmd s h op port arg ok work body).bulk = s.bulk := by
  have gbody := fun x0 x1 => hbody x0 x1 _ rfl
  unfold State.portCmd
  repeat' split
  all_goals simp [*]

@[simp] theorem State.portCmd_dev (s : State) (h : Hdr) (op : Nat) (port : Byte) (arg : Nat) (ok work : Bool) (body : Nat → State → State) (hbody : ∀ x0 x1 y, y = body x0 x1 → y.dev = x1.dev) :
    (State.portCmd s h op port arg ok work body).dev = s.dev := by
  have gbody := fun x0 x1 => hbody x0 x1 _ rfl
  unfold State.portCmd
  repeat' split
  all_goals simp [*]

@[simp] theorem State.portCmd_quill (s : State) (h : Hdr) (op : Nat) (port : Byte) (arg : Nat) (ok work : Bool) (body : Nat → State → State) (hbody : ∀ x0 x1 y, y = body x0 x1 → y.quill = x1.quill) :
    (State.portCmd s h op port arg ok work body).quill = s.quill := by
  have gbody := fun x0 x1 => hbody x0 x1 _ rfl
  unfold State.portCmd
  repeat' split
  all_goals simp [*]

@[simp] theorem State.portCmd_fabric (s : State) (h : Hdr) (op : Nat) (port : Byte) (arg : Nat) (ok work : Bool) (body : Nat → State → State) (hbody : ∀ x0 x1 y, y = body x0 x1 → y.fabric = x1.fabric) :
    (State.portCmd s h op port arg ok work body).fabric = s.fabric := by
  have gbody := fun x0 x1 => hbody x0 x1 _ rfl
  unfold State.portCmd
  repeat' split
  all_goals simp [*]

@[simp] theorem State.portCmd_module_ (s : State) (h : Hdr) (op : Nat) (port : Byte) (arg : Nat) (ok work : Bool) (body : Nat → State → State) (hbody : ∀ x0 x1 y, y = body x0 x1 → y.module_ = x1.module_) :
    (State.portCmd s h op port arg ok work body).module_ = s.module_ := by
  have gbody := fun x0 x1 => hbody x0 x1 _ rfl
  unfold State.portCmd
  repeat' split
  all_goals simp [*]

@[simp] theorem State.portCmd_net (s : State) (h : Hdr) (op : Nat) (port : Byte) (arg : Nat) (ok work : Bool) (body : Nat → State → State) (hbody : ∀ x0 x1 y, y = body x0 x1 → y.net = x1.net) :
    (State.portCmd s h op port arg ok work body).net = s.net := by
  have gbody := fun x0 x1 => hbody x0 x1 _ rfl
  unfold State.portCmd
  repeat' split
  all_goals simp [*]

@[simp] theorem State.portCmd_time (s : State) (h : Hdr) (op : Nat) (port : Byte) (arg : Nat) (ok work : Bool) (body : Nat → State → State) (hbody : ∀ x0 x1 y, y = body x0 x1 → y.time = x1.time) :
    (State.portCmd s h op port arg ok work body).time = s.time := by
  have gbody := fun x0 x1 => hbody x0 x1 _ rfl
  unfold State.portCmd
  repeat' split
  all_goals simp [*]

@[simp] theorem State.portCmd_free (s : State) (h : Hdr) (op : Nat) (port : Byte) (arg : Nat) (ok work : Bool) (body : Nat → State → State) (hbody : ∀ x0 x1 y, y = body x0 x1 → y.free = x1.free) :
    (State.portCmd s h op port arg ok work body).free = s.free := by
  have gbody := fun x0 x1 => hbody x0 x1 _ rfl
  unfold State.portCmd
  repeat' split
  all_goals simp [*]

@[simp] theorem effPortDisable_frame (h : Hdr) (port : Byte) (s : State) :
    OnlyCtxsHostQuillFabricModuleOut (effPortDisable h port s) s := by
  unfold effPortDisable
  repeat' split
  all_goals simp [*]

@[simp] theorem effPortEnable_frame (h : Hdr) (port : Byte) (s : State) :
    OnlyHostFabricOut (effPortEnable h port s) s := by
  unfold effPortEnable
  repeat' split
  all_goals simp [*]

@[simp] theorem effPortRetrain_frame (h : Hdr) (port : Byte) (s : State) :
    OnlyHostFabricOut (effPortRetrain h port s) s := by
  unfold effPortRetrain
  repeat' split
  all_goals simp [*]

@[simp] theorem effLaneClear_frame (h : Hdr) (port lane : Byte) (s : State) :
    OnlyHostQuillFabricModuleOut (effLaneClear h port lane s) s := by
  unfold effLaneClear
  repeat' split
  all_goals simp [*]

end Sys2Proof.Machine
end

