-- ==== Sys2Proof/Laws/Matrix.lean ====
section
/-!
SUPPORT. For each function of Machine/Matrix.lean that answers a state: the fields it leaves as they were.
-/
namespace Sys2Proof.Machine
@[simp] theorem State.startMma_frame (s : State) (n t : Nat) (x : MmaArgs) (clr : Bool) (bank : Nat) (field : Int) (hw : MeFault) (ls : List (Nat × Ecc)) :
    OnlyCoresPartsCtxsStoreHostQuillFabricModuleOut (State.startMma s n t x clr bank field hw ls) s := by
  unfold State.startMma OnlyCoresPartsCtxsStoreHostQuillFabricModuleOut
  try dsimp only
  and_intros
  all_goals
    repeat' first
      | (with_reducible rfl)
      | split
      | (simp (disch := ((try intros); (try subst_vars); (repeat' split) <;> try simp)); done)
      | (apply foldl_pending <;> (intros; try subst_vars; try dsimp only)) | (apply foldl_clusters <;> (intros; try subst_vars; try dsimp only)) | (apply foldl_bulk <;> (intros; try subst_vars; try dsimp only)) | (apply foldl_dev <;> (intros; try subst_vars; try dsimp only)) | (apply foldl_net <;> (intros; try subst_vars; try dsimp only)) | (apply foldl_time <;> (intros; try subst_vars; try dsimp only)) | (apply foldl_free <;> (intros; try subst_vars; try dsimp only))
      | simp

@[simp] theorem effMma_frame (a : Issue) (clr bank : Bool) (anchor : BitVec 10) (rb : BitVec 6) (hw : MeFault) (ls : List (Nat × Ecc)) (s : State) :
    OnlyCoresClustersPartsCtxsStoreHostQuillFabricModuleNetOut (effMma a clr bank anchor rb hw ls s) s := by
  unfold effMma
  repeat' split
  all_goals simp [*]

@[simp] theorem effMmaDelayedStart_frame (core : Fin 1536) (hw : MeFault) (ls : List (Nat × Ecc)) (s : State) :
    OnlyCoresClustersPartsCtxsStoreHostQuillFabricModuleNetOut (effMmaDelayedStart core hw ls s) s := by
  unfold effMmaDelayedStart OnlyCoresClustersPartsCtxsStoreHostQuillFabricModuleNetOut
  try dsimp only
  and_intros
  all_goals
    repeat' first
      | (with_reducible rfl)
      | split
      | (simp (disch := ((try intros); (try subst_vars); (repeat' split) <;> try simp)); done)
      | (apply foldl_pending <;> (intros; try subst_vars; try dsimp only)) | (apply foldl_bulk <;> (intros; try subst_vars; try dsimp only)) | (apply foldl_dev <;> (intros; try subst_vars; try dsimp only)) | (apply foldl_time <;> (intros; try subst_vars; try dsimp only)) | (apply foldl_free <;> (intros; try subst_vars; try dsimp only)) | (apply State.meets_pending <;> (intros; try subst_vars; try dsimp only)) | (apply State.meets_bulk <;> (intros; try subst_vars; try dsimp only)) | (apply State.meets_dev <;> (intros; try subst_vars; try dsimp only)) | (apply State.meets_time <;> (intros; try subst_vars; try dsimp only)) | (apply State.meets_free <;> (intros; try subst_vars; try dsimp only))
      | simp

@[simp] theorem State.drainWrites_frame (s : State) (n t bank addr : Nat) (f : DrainFmt) (ds : List Nat) :
    OnlyCores (State.drainWrites s n t bank addr f ds) s := by
  unfold State.drainWrites
  repeat' split
  all_goals simp [*]

@[simp] theorem State.drainBank_frame (s : State) (n t bank addr : Nat) (f : DrainFmt) :
    OnlyCores (State.drainBank s n t bank addr f) s := by
  unfold State.drainBank
  repeat' split
  all_goals simp [*]

@[simp] theorem State.meParity_pending (s : State) (n t bank d : Nat) (k : EngErrKind) (row : Nat) (writes : List Nat → State) (hwrites : ∀ x0 y, y = writes x0 → y.pending = s.pending) :
    (State.meParity s n t bank d k row writes).pending = s.pending := by
  have gwrites := fun x0 => hwrites x0 _ rfl
  unfold State.meParity
  repeat' split
  all_goals simp [*]

@[simp] theorem State.meParity_clusters (s : State) (n t bank d : Nat) (k : EngErrKind) (row : Nat) (writes : List Nat → State) (hwrites : ∀ x0 y, y = writes x0 → y.clusters = s.clusters) :
    (State.meParity s n t bank d k row writes).clusters = s.clusters := by
  have gwrites := fun x0 => hwrites x0 _ rfl
  unfold State.meParity
  repeat' split
  all_goals simp [*]

@[simp] theorem State.meParity_bulk (s : State) (n t bank d : Nat) (k : EngErrKind) (row : Nat) (writes : List Nat → State) (hwrites : ∀ x0 y, y = writes x0 → y.bulk = s.bulk) :
    (State.meParity s n t bank d k row writes).bulk = s.bulk := by
  have gwrites := fun x0 => hwrites x0 _ rfl
  unfold State.meParity
  repeat' split
  all_goals simp [*]

@[simp] theorem State.meParity_dev (s : State) (n t bank d : Nat) (k : EngErrKind) (row : Nat) (writes : List Nat → State) (hwrites : ∀ x0 y, y = writes x0 → y.dev = s.dev) :
    (State.meParity s n t bank d k row writes).dev = s.dev := by
  have gwrites := fun x0 => hwrites x0 _ rfl
  unfold State.meParity
  repeat' split
  all_goals simp [*]

@[simp] theorem State.meParity_net (s : State) (n t bank d : Nat) (k : EngErrKind) (row : Nat) (writes : List Nat → State) (hwrites : ∀ x0 y, y = writes x0 → y.net = s.net) :
    (State.meParity s n t bank d k row writes).net = s.net := by
  have gwrites := fun x0 => hwrites x0 _ rfl
  unfold State.meParity
  repeat' split
  all_goals simp [*]

@[simp] theorem State.meParity_time (s : State) (n t bank d : Nat) (k : EngErrKind) (row : Nat) (writes : List Nat → State) (hwrites : ∀ x0 y, y = writes x0 → y.time = s.time) :
    (State.meParity s n t bank d k row writes).time = s.time := by
  have gwrites := fun x0 => hwrites x0 _ rfl
  unfold State.meParity
  repeat' split
  all_goals simp [*]

@[simp] theorem State.meParity_free (s : State) (n t bank d : Nat) (k : EngErrKind) (row : Nat) (writes : List Nat → State) (hwrites : ∀ x0 y, y = writes x0 → y.free = s.free) :
    (State.meParity s n t bank d k row writes).free = s.free := by
  have gwrites := fun x0 => hwrites x0 _ rfl
  unfold State.meParity
  repeat' split
  all_goals simp [*]

@[simp] theorem effDrain_frame (a : Issue) (bank : Bool) (dfmt : BitVec 4) (rs1 rs2 : BitVec 6) (hw : MeFault) (s : State) :
    OnlyCoresClustersPartsCtxsStoreHostQuillFabricModuleNetOut (effDrain a bank dfmt rs1 rs2 hw s) s := by
  unfold effDrain OnlyCoresClustersPartsCtxsStoreHostQuillFabricModuleNetOut
  try dsimp only
  and_intros
  all_goals
    repeat' first
      | (with_reducible rfl)
      | split
      | (simp (disch := ((try intros); (try subst_vars); (repeat' split) <;> try simp)); done)
      | (apply foldl_pending <;> (intros; try subst_vars; try dsimp only)) | (apply foldl_bulk <;> (intros; try subst_vars; try dsimp only)) | (apply foldl_dev <;> (intros; try subst_vars; try dsimp only)) | (apply foldl_time <;> (intros; try subst_vars; try dsimp only)) | (apply foldl_free <;> (intros; try subst_vars; try dsimp only)) | (apply State.issue_pending <;> (intros; try subst_vars; try dsimp only)) | (apply State.issue_bulk <;> (intros; try subst_vars; try dsimp only)) | (apply State.issue_dev <;> (intros; try subst_vars; try dsimp only)) | (apply State.issue_time <;> (intros; try subst_vars; try dsimp only)) | (apply State.issue_free <;> (intros; try subst_vars; try dsimp only)) | (apply State.meParity_pending <;> (intros; try subst_vars; try dsimp only)) | (apply State.meParity_bulk <;> (intros; try subst_vars; try dsimp only)) | (apply State.meParity_dev <;> (intros; try subst_vars; try dsimp only)) | (apply State.meParity_time <;> (intros; try subst_vars; try dsimp only)) | (apply State.meParity_free <;> (intros; try subst_vars; try dsimp only))
      | simp

@[simp] theorem State.saveWrites_frame (s : State) (n t bank addr : Nat) (ms : List Nat) :
    OnlyCores (State.saveWrites s n t bank addr ms) s := by
  unfold State.saveWrites
  repeat' split
  all_goals simp [*]

@[simp] theorem effAccSave_frame (a : Issue) (bank : Bool) (rs1 : BitVec 6) (hw : MeFault) (s : State) :
    OnlyCoresClustersPartsCtxsStoreHostQuillFabricModuleNetOut (effAccSave a bank rs1 hw s) s := by
  unfold effAccSave OnlyCoresClustersPartsCtxsStoreHostQuillFabricModuleNetOut
  try dsimp only
  and_intros
  all_goals
    repeat' first
      | (with_reducible rfl)
      | split
      | (simp (disch := ((try intros); (try subst_vars); (repeat' split) <;> try simp)); done)
      | (apply foldl_pending <;> (intros; try subst_vars; try dsimp only)) | (apply foldl_bulk <;> (intros; try subst_vars; try dsimp only)) | (apply foldl_dev <;> (intros; try subst_vars; try dsimp only)) | (apply foldl_time <;> (intros; try subst_vars; try dsimp only)) | (apply foldl_free <;> (intros; try subst_vars; try dsimp only)) | (apply State.issue_pending <;> (intros; try subst_vars; try dsimp only)) | (apply State.issue_bulk <;> (intros; try subst_vars; try dsimp only)) | (apply State.issue_dev <;> (intros; try subst_vars; try dsimp only)) | (apply State.issue_time <;> (intros; try subst_vars; try dsimp only)) | (apply State.issue_free <;> (intros; try subst_vars; try dsimp only)) | (apply State.meParity_pending <;> (intros; try subst_vars; try dsimp only)) | (apply State.meParity_bulk <;> (intros; try subst_vars; try dsimp only)) | (apply State.meParity_dev <;> (intros; try subst_vars; try dsimp only)) | (apply State.meParity_time <;> (intros; try subst_vars; try dsimp only)) | (apply State.meParity_free <;> (intros; try subst_vars; try dsimp only))
      | simp

@[simp] theorem effAccLoad_frame (a : Issue) (bank : Bool) (rs1 : BitVec 6) (ls : List (Nat × Ecc)) (s : State) :
    OnlyCoresClustersPartsCtxsStoreHostQuillFabricModuleNetOut (effAccLoad a bank rs1 ls s) s := by
  unfold effAccLoad OnlyCoresClustersPartsCtxsStoreHostQuillFabricModuleNetOut
  try dsimp only
  and_intros
  all_goals
    repeat' first
      | (with_reducible rfl)
      | split
      | (simp (disch := ((try intros); (try subst_vars); (repeat' split) <;> try simp)); done)
      | (apply foldl_pending <;> (intros; try subst_vars; try dsimp only)) | (apply foldl_bulk <;> (intros; try subst_vars; try dsimp only)) | (apply foldl_dev <;> (intros; try subst_vars; try dsimp only)) | (apply foldl_time <;> (intros; try subst_vars; try dsimp only)) | (apply foldl_free <;> (intros; try subst_vars; try dsimp only)) | (apply State.issue_pending <;> (intros; try subst_vars; try dsimp only)) | (apply State.issue_bulk <;> (intros; try subst_vars; try dsimp only)) | (apply State.issue_dev <;> (intros; try subst_vars; try dsimp only)) | (apply State.issue_time <;> (intros; try subst_vars; try dsimp only)) | (apply State.issue_free <;> (intros; try subst_vars; try dsimp only))
      | simp

end Sys2Proof.Machine
end

