-- ==== Sys2Proof/Laws/Healing.lean ====
section
/-!
SUPPORT. For each function of Machine/Healing.lean that answers a state: the fields it leaves as they were.
-/
namespace Sys2Proof.Machine
@[simp] theorem State.modDrift_frame (s : State) (k : Nat) (f : Drift → Drift) :
    OnlyQuill (State.modDrift s k f) s := by
  unfold State.modDrift
  repeat' split
  all_goals simp [*]

@[simp] theorem State.postDrift_frame (s : State) (k outcome sev : Nat) (d : DriftSample) :
    OnlyHostQuillModuleOut (State.postDrift s k outcome sev d) s := by
  unfold State.postDrift
  repeat' split
  all_goals simp [*]

@[simp] theorem State.postDriftState_frame (s : State) (k outcome : Nat) :
    OnlyHostQuillModuleOut (State.postDriftState s k outcome) s := by
  unfold State.postDriftState
  repeat' split
  all_goals simp [*]

@[simp] theorem State.nextDrift_frame (s : State) (k l : Nat) :
    OnlyCoresQuill (State.nextDrift s k l) s := by
  unfold State.nextDrift OnlyCoresQuill
  try dsimp only
  and_intros
  all_goals
    repeat' first
      | (with_reducible rfl)
      | split
      | (simp (disch := ((try intros); (try subst_vars); (repeat' split) <;> try simp)); done)
      | (apply foldl_pending <;> (intros; try subst_vars; try dsimp only)) | (apply foldl_clusters <;> (intros; try subst_vars; try dsimp only)) | (apply foldl_parts <;> (intros; try subst_vars; try dsimp only)) | (apply foldl_ctxs <;> (intros; try subst_vars; try dsimp only)) | (apply foldl_store <;> (intros; try subst_vars; try dsimp only)) | (apply foldl_bulk <;> (intros; try subst_vars; try dsimp only)) | (apply foldl_host <;> (intros; try subst_vars; try dsimp only)) | (apply foldl_dev <;> (intros; try subst_vars; try dsimp only)) | (apply foldl_fabric <;> (intros; try subst_vars; try dsimp only)) | (apply foldl_module_ <;> (intros; try subst_vars; try dsimp only)) | (apply foldl_net <;> (intros; try subst_vars; try dsimp only)) | (apply foldl_time <;> (intros; try subst_vars; try dsimp only)) | (apply foldl_out <;> (intros; try subst_vars; try dsimp only)) | (apply foldl_free <;> (intros; try subst_vars; try dsimp only))
      | simp

@[simp] theorem State.takeSample_frame (s : State) (k l n c : Nat) (t : MmaTrace) (spares : List Nat) :
    OnlyCoresStoreQuill (State.takeSample s k l n c t spares) s := by
  unfold State.takeSample
  repeat' split
  all_goals simp [*]

@[simp] theorem effDriftSample_frame (k : Fin 48) (s : State) :
    OnlyCoresStoreHostQuillModuleOut (effDriftSample k s) s := by
  unfold effDriftSample OnlyCoresStoreHostQuillModuleOut
  try dsimp only
  and_intros
  all_goals
    repeat' first
      | (with_reducible rfl)
      | split
      | (simp (disch := ((try intros); (try subst_vars); (repeat' split) <;> try simp)); done)
      | (apply foldl_pending <;> (intros; try subst_vars; try dsimp only)) | (apply foldl_clusters <;> (intros; try subst_vars; try dsimp only)) | (apply foldl_parts <;> (intros; try subst_vars; try dsimp only)) | (apply foldl_ctxs <;> (intros; try subst_vars; try dsimp only)) | (apply foldl_bulk <;> (intros; try subst_vars; try dsimp only)) | (apply foldl_dev <;> (intros; try subst_vars; try dsimp only)) | (apply foldl_fabric <;> (intros; try subst_vars; try dsimp only)) | (apply foldl_net <;> (intros; try subst_vars; try dsimp only)) | (apply foldl_time <;> (intros; try subst_vars; try dsimp only)) | (apply foldl_free <;> (intros; try subst_vars; try dsimp only))
      | simp

@[simp] theorem State.driftEnded_frame (s : State) (k : Nat) (agree : Bool) :
    OnlyCoresClustersPartsCtxsStoreBulkHostQuillFabricModuleOut (State.driftEnded s k agree) s := by
  unfold State.driftEnded OnlyCoresClustersPartsCtxsStoreBulkHostQuillFabricModuleOut
  try dsimp only
  and_intros
  all_goals
    repeat' first
      | (with_reducible rfl)
      | split
      | (simp (disch := ((try intros); (try subst_vars); (repeat' split) <;> try simp)); done)
      | (apply foldl_pending <;> (intros; try subst_vars; try dsimp only)) | (apply foldl_dev <;> (intros; try subst_vars; try dsimp only)) | (apply foldl_net <;> (intros; try subst_vars; try dsimp only)) | (apply foldl_time <;> (intros; try subst_vars; try dsimp only)) | (apply foldl_free <;> (intros; try subst_vars; try dsimp only))
      | simp

@[simp] theorem State.driftKill_frame (s : State) (k c : Nat) :
    OnlyCoresPartsCtxsStoreHostQuillFabricModuleOut (State.driftKill s k c) s := by
  unfold State.driftKill
  repeat' split
  all_goals simp [*]

@[simp] theorem State.oweTest_frame (s : State) (n : Nat) :
    OnlyQuill (State.oweTest s n) s := by
  unfold State.oweTest
  repeat' split
  all_goals simp [*]

@[simp] theorem State.oweAll_frame (s : State) (l : List Nat) :
    OnlyQuill (State.oweAll s l) s := by
  unfold State.oweAll
  repeat' split
  all_goals simp [*]

@[simp] theorem effDriftCompare_frame (k : Fin 48) (runA runB : DWord) (eccA eccB : List (Nat × Ecc)) (s : State) :
    OnlyCoresClustersPartsCtxsStoreBulkHostQuillFabricModuleOut (effDriftCompare k runA runB eccA eccB s) s := by
  unfold effDriftCompare OnlyCoresClustersPartsCtxsStoreBulkHostQuillFabricModuleOut
  try dsimp only
  and_intros
  all_goals
    repeat' first
      | (with_reducible rfl)
      | split
      | (simp (disch := ((try intros); (try subst_vars); (repeat' split) <;> try simp)); done)
      | (apply foldl_pending <;> (intros; try subst_vars; try dsimp only)) | (apply foldl_dev <;> (intros; try subst_vars; try dsimp only)) | (apply foldl_net <;> (intros; try subst_vars; try dsimp only)) | (apply foldl_time <;> (intros; try subst_vars; try dsimp only)) | (apply foldl_free <;> (intros; try subst_vars; try dsimp only))
      | simp

@[simp] theorem State.loadPattern_frame (s : State) (n i : Nat) :
    OnlyCoresStore (State.loadPattern s n i) s := by
  unfold State.loadPattern
  repeat' split
  all_goals simp [*]

@[simp] theorem effPatrolPatternStart_frame (core : Fin 1536) (s : State) :
    OnlyCoresStoreQuill (effPatrolPatternStart core s) s := by
  unfold effPatrolPatternStart
  repeat' split
  all_goals simp [*]

@[simp] theorem State.postFirn_frame (s : State) (n i result : Nat) (crc : DWord) :
    OnlyHostQuillModuleOut (State.postFirn s n i result crc) s := by
  unfold State.postFirn
  repeat' split
  all_goals simp [*]

@[simp] theorem State.patternPassed_frame (s : State) (n i : Nat) :
    OnlyCoresPartsCtxsStoreHostQuillFabricModuleOut (State.patternPassed s n i) s := by
  unfold State.patternPassed
  repeat' split
  all_goals simp [*]

@[simp] theorem effPatrolPatternEnd_frame (core : Fin 1536) (pass : Bool) (crc : DWord) (ecc : List (Nat × Ecc)) (s : State) :
    OnlyCoresPartsCtxsStoreHostQuillFabricModuleOut (effPatrolPatternEnd core pass crc ecc s) s := by
  unfold effPatrolPatternEnd OnlyCoresPartsCtxsStoreHostQuillFabricModuleOut
  try dsimp only
  and_intros
  all_goals
    repeat' first
      | (with_reducible rfl)
      | split
      | (simp (disch := ((try intros); (try subst_vars); (repeat' split) <;> try simp)); done)
      | (apply foldl_pending <;> (intros; try subst_vars; try dsimp only)) | (apply foldl_clusters <;> (intros; try subst_vars; try dsimp only)) | (apply foldl_bulk <;> (intros; try subst_vars; try dsimp only)) | (apply foldl_dev <;> (intros; try subst_vars; try dsimp only)) | (apply foldl_net <;> (intros; try subst_vars; try dsimp only)) | (apply foldl_time <;> (intros; try subst_vars; try dsimp only)) | (apply foldl_free <;> (intros; try subst_vars; try dsimp only))
      | simp

@[simp] theorem effStrokeWatchExpiry_frame (p : Fin 4) (cal : List XCal) (s : State) :
    OnlyCoresClustersPartsCtxsStoreBulkHostQuillFabricModuleNetOut (effStrokeWatchExpiry p cal s) s := by
  unfold effStrokeWatchExpiry
  repeat' split
  all_goals simp [*]

@[simp] theorem effHoldWatchExpiry_frame (p : Fin 4) (cal : List XCal) (s : State) :
    OnlyCoresClustersPartsCtxsStoreBulkHostQuillFabricModuleNetOut (effHoldWatchExpiry p cal s) s := by
  unfold effHoldWatchExpiry
  repeat' split
  all_goals simp [*]

@[simp] theorem effStrokeOverrunSummary_frame (p : Fin 4) (s : State) :
    OnlyPartsHostQuillModuleOut (effStrokeOverrunSummary p s) s := by
  unfold effStrokeOverrunSummary
  repeat' split
  all_goals simp [*]

@[simp] theorem effStaleTokenEvent_frame (p : Fin 4) (s : State) :
    OnlyPartsHostQuillModuleOut (effStaleTokenEvent p s) s := by
  unfold effStaleTokenEvent
  repeat' split
  all_goals simp [*]

@[simp] theorem effOrphanSendEvent_frame (p : Fin 4) (s : State) :
    OnlyPartsHostQuillModuleOut (effOrphanSendEvent p s) s := by
  unfold effOrphanSendEvent
  repeat' split
  all_goals simp [*]

@[simp] theorem effWindowDropEvent_frame (s : State) :
    OnlyHostQuillFabricModuleOut (effWindowDropEvent s) s := by
  unfold effWindowDropEvent
  repeat' split
  all_goals simp [*]

@[simp] theorem State.correctedEvent_frame (s : State) (p : Nat) :
    OnlyHostQuillModuleOut (State.correctedEvent s p) s := by
  unfold State.correctedEvent
  repeat' split
  all_goals simp [*]

@[simp] theorem effCorrectedErrorEvent_frame (s : State) :
    OnlyHostQuillModuleOut (effCorrectedErrorEvent s) s := by
  unfold effCorrectedErrorEvent
  repeat' split
  all_goals simp [*]

@[simp] theorem effHealthHourly_frame (s : State) :
    OnlyHostQuillModuleOut (effHealthHourly s) s := by
  unfold effHealthHourly
  repeat' split
  all_goals simp [*]

end Sys2Proof.Machine
end

