-- ==== Sys2Proof/Laws/Trials.lean ====
section
/-!
SUPPORT. For each function of Machine/Trials.lean that answers a state: the fields it leaves as they were.
-/
namespace Sys2Proof.Machine
@[simp] theorem State.loseQuarters_frame (s : State) (p : Nat) :
    OnlyPartsCtxsStoreBulk (State.loseQuarters s p) s := by
  unfold State.loseQuarters
  repeat' split
  all_goals simp [*]

@[simp] theorem State.bistLoses_frame (s : State) (p scope : Nat) :
    OnlyCoresClustersPartsCtxsStoreBulkHostQuillFabricModuleNetOut (State.bistLoses s p scope) s := by
  unfold State.bistLoses
  repeat' split
  all_goals simp [*]

@[simp] theorem State.runBist_frame (s : State) (h : Hdr) (scope : Nat) (cmd : Instr) :
    OnlyCoresClustersPartsCtxsStoreBulkHostQuillFabricModuleNetOut (State.runBist s h scope cmd) s := by
  unfold State.runBist
  repeat' split
  all_goals simp [*]

@[simp] theorem effBistLogic_frame (h : Hdr) (s : State) :
    OnlyCoresClustersPartsCtxsStoreBulkHostQuillFabricModuleNetOut (effBistLogic h s) s := by
  unfold effBistLogic
  repeat' split
  all_goals simp [*]

@[simp] theorem effBistInkwellMarch_frame (h : Hdr) (s : State) :
    OnlyCoresClustersPartsCtxsStoreBulkHostQuillFabricModuleNetOut (effBistInkwellMarch h s) s := by
  unfold effBistInkwellMarch
  repeat' split
  all_goals simp [*]

@[simp] theorem effBistLpddrQuick_frame (h : Hdr) (s : State) :
    OnlyCoresClustersPartsCtxsStoreBulkHostQuillFabricModuleNetOut (effBistLpddrQuick h s) s := by
  unfold effBistLpddrQuick
  repeat' split
  all_goals simp [*]

@[simp] theorem effBistLpddrFull_frame (h : Hdr) (s : State) :
    OnlyCoresClustersPartsCtxsStoreBulkHostQuillFabricModuleNetOut (effBistLpddrFull h s) s := by
  unfold effBistLpddrFull
  repeat' split
  all_goals simp [*]

@[simp] theorem State.bistOut_frame (s : State) (p : Nat) :
    OnlyCoresHostQuillModuleOutFree (State.bistOut s p) s := by
  unfold State.bistOut
  repeat' split
  all_goals simp [*]

@[simp] theorem effBistDone_frame (job : Nat) (found : List BistFinding) (cal : List XCal) (s : State) :
    OnlyCoresClustersPartsCtxsStoreBulkHostQuillFabricModuleOutFree (effBistDone job found cal s) s := by
  unfold effBistDone
  repeat' split
  all_goals simp [*]

@[simp] theorem State.abortBists_frame (s : State) (cal : List XCal) :
    OnlyCoresClustersPartsCtxsStoreBulkHostQuillFabricModuleNetOut (State.abortBists s cal) s := by
  unfold State.abortBists
  repeat' split
  all_goals simp [*]

@[simp] theorem effLoadFirnPatterns_frame (h : Hdr) (hostAddr : DWord) (len : Word) (pack : Option (List Byte)) (s : State) :
    OnlyHostQuillModuleOut (effLoadFirnPatterns h hostAddr len pack s) s := by
  unfold effLoadFirnPatterns
  repeat' split
  all_goals simp [*]

theorem State.startSuspect_frame {s : State} {c : Nat} {y : State} (h : State.startSuspect s c = some y) :
    OnlyCoresClustersPartsCtxsStoreBulkHostQuillFabricModuleNetOut y s := by
  unfold State.startSuspect at h
  try dsimp only at h
  repeat' split at h
  all_goals (try cases h)
  all_goals try simp only [Option.some.injEq, Sum.inr.injEq, Option.map_eq_some_iff, Prod.mk.injEq] at h
  all_goals try subst h
  all_goals try simp [*]


@[simp] theorem State.endReplay_frame (s : State) (p guilty : Nat) :
    OnlyHostQuillOut (State.endReplay s p guilty) s := by
  unfold State.endReplay OnlyHostQuillOut
  try dsimp only
  and_intros
  all_goals
    repeat' first
      | (with_reducible rfl)
      | split
      | (simp (disch := ((try intros); (try subst_vars); (repeat' split) <;> try simp)); done)
      | (apply foldl_pending <;> (intros; try subst_vars; try dsimp only)) | (apply foldl_cores <;> (intros; try subst_vars; try dsimp only)) | (apply foldl_clusters <;> (intros; try subst_vars; try dsimp only)) | (apply foldl_parts <;> (intros; try subst_vars; try dsimp only)) | (apply foldl_ctxs <;> (intros; try subst_vars; try dsimp only)) | (apply foldl_store <;> (intros; try subst_vars; try dsimp only)) | (apply foldl_bulk <;> (intros; try subst_vars; try dsimp only)) | (apply foldl_dev <;> (intros; try subst_vars; try dsimp only)) | (apply foldl_fabric <;> (intros; try subst_vars; try dsimp only)) | (apply foldl_module_ <;> (intros; try subst_vars; try dsimp only)) | (apply foldl_net <;> (intros; try subst_vars; try dsimp only)) | (apply foldl_time <;> (intros; try subst_vars; try dsimp only)) | (apply foldl_free <;> (intros; try subst_vars; try dsimp only))
      | simp

@[simp] theorem State.replayFrom_frame (fuel : Nat) (s : State) (p i : Nat) :
    OnlyCoresClustersPartsCtxsStoreBulkHostQuillFabricModuleNetOut (State.replayFrom fuel s p i) s := by
  induction fuel generalizing s i with
  | zero => simp [State.replayFrom]
  | succ f ih =>
    unfold State.replayFrom
    repeat' split
    all_goals (try have h_startSuspect := State.startSuspect_frame (by assumption))
    all_goals simp_all

@[simp] theorem effReplaySuspects_frame (h : Hdr) (s : State) :
    OnlyCoresClustersPartsCtxsStoreBulkHostQuillFabricModuleNetOut (effReplaySuspects h s) s := by
  unfold effReplaySuspects
  repeat' split
  all_goals simp [*]

@[simp] theorem State.suspectOff_frame (s : State) (c : Nat) :
    OnlyCoresPartsCtxsStoreBulkHostQuillFabricOut (State.suspectOff s c) s := by
  unfold State.suspectOff
  repeat' split
  all_goals simp [*]

@[simp] theorem effSuspectRunEnd_frame (p : Fin 4) (hung : Bool) (cal : List XCal) (s : State) :
    OnlyCoresClustersPartsCtxsStoreBulkHostQuillFabricModuleNetOut (effSuspectRunEnd p hung cal s) s := by
  unfold effSuspectRunEnd OnlyCoresClustersPartsCtxsStoreBulkHostQuillFabricModuleNetOut
  try dsimp only
  and_intros
  all_goals
    repeat' first
      | (with_reducible rfl)
      | split
      | (simp (disch := ((try intros); (try subst_vars); (repeat' split) <;> try simp)); done)
      | (apply foldl_pending <;> (intros; try subst_vars; try dsimp only)) | (apply foldl_dev <;> (intros; try subst_vars; try dsimp only)) | (apply foldl_time <;> (intros; try subst_vars; try dsimp only)) | (apply foldl_free <;> (intros; try subst_vars; try dsimp only))
      | simp

end Sys2Proof.Machine
end

