-- ==== Sys2Proof/Laws/PowerCmds.lean ====
section
/-!
SUPPORT. For each function of Machine/PowerCmds.lean that answers a state: the fields it leaves as they were.
-/
namespace Sys2Proof.Machine
@[simp] theorem State.fabricDown_frame (s : State) (q : Nat) :
    OnlyCtxsHostQuillFabricModuleOut (State.fabricDown s q) s := by
  unfold State.fabricDown
  repeat' split
  all_goals simp [*]

@[simp] theorem State.fabricUp_frame (s : State) (q : Nat) :
    OnlyFabricModule (State.fabricUp s q) s := by
  unfold State.fabricUp
  repeat' split
  all_goals simp [*]

@[simp] theorem State.enterLow_frame (s : State) (low : Nat) :
    OnlyCtxsHostQuillFabricModuleOut (State.enterLow s low) s := by
  unfold State.enterLow
  repeat' split
  all_goals simp [*]

@[simp] theorem State.leaveLow_frame (s : State) :
    OnlyFabricModule (State.leaveLow s) s := by
  unfold State.leaveLow
  repeat' split
  all_goals simp [*]

@[simp] theorem State.partDone_frame (s : State) (p id : Nat) :
    OnlyQuill (State.partDone s p id) s := by
  unfold State.partDone
  repeat' split
  all_goals simp [*]

@[simp] theorem State.cancelPart_frame (s : State) (p : Nat) :
    OnlyHostQuillOut (State.cancelPart s p) s := by
  unfold State.cancelPart
  repeat' split
  all_goals simp [*]

@[simp] theorem State.disablePart_frame (s : State) (p target : Nat) :
    OnlyCoresClustersPartsCtxsStoreBulkHostQuillFabricModuleNetOut (State.disablePart s p target) s := by
  unfold State.disablePart
  repeat' split
  all_goals simp [*]

@[simp] theorem State.setPref_frame (s : State) (p state : Nat) :
    OnlyModule (State.setPref s p state) s := by
  unfold State.setPref
  repeat' split
  all_goals simp [*]

@[simp] theorem State.enableOne_frame (s : State) (id p state : Nat) (cal : List XCal) :
    OnlyCoresClustersBulkHostQuillModuleOut (State.enableOne s id p state cal) s := by
  unfold State.enableOne OnlyCoresClustersBulkHostQuillModuleOut
  try dsimp only
  and_intros
  all_goals
    repeat' first
      | (with_reducible rfl)
      | split
      | (simp (disch := ((try intros); (try subst_vars); (repeat' split) <;> try simp)); done)
      | (apply foldl_pending <;> (intros; try subst_vars; try dsimp only)) | (apply foldl_parts <;> (intros; try subst_vars; try dsimp only)) | (apply foldl_ctxs <;> (intros; try subst_vars; try dsimp only)) | (apply foldl_store <;> (intros; try subst_vars; try dsimp only)) | (apply foldl_dev <;> (intros; try subst_vars; try dsimp only)) | (apply foldl_fabric <;> (intros; try subst_vars; try dsimp only)) | (apply foldl_net <;> (intros; try subst_vars; try dsimp only)) | (apply foldl_time <;> (intros; try subst_vars; try dsimp only)) | (apply foldl_free <;> (intros; try subst_vars; try dsimp only))
      | simp

@[simp] theorem State.disableOne_frame (s : State) (id p state : Nat) :
    OnlyCoresClustersPartsCtxsStoreBulkHostQuillFabricModuleNetOut (State.disableOne s id p state) s := by
  unfold State.disableOne OnlyCoresClustersPartsCtxsStoreBulkHostQuillFabricModuleNetOut
  try dsimp only
  and_intros
  all_goals
    repeat' first
      | (with_reducible rfl)
      | split
      | (simp (disch := ((try intros); (try subst_vars); (repeat' split) <;> try simp)); done)
      | (apply foldl_pending <;> (intros; try subst_vars; try dsimp only)) | (apply foldl_dev <;> (intros; try subst_vars; try dsimp only)) | (apply foldl_time <;> (intros; try subst_vars; try dsimp only)) | (apply foldl_free <;> (intros; try subst_vars; try dsimp only))
      | simp

@[simp] theorem State.powerSafe_frame (s : State) (h : Hdr) (state : Nat) (cmd : Instr) :
    OnlyHostQuillModuleOut (State.powerSafe s h state cmd) s := by
  unfold State.powerSafe
  repeat' split
  all_goals simp [*]

@[simp] theorem State.powerState_frame (s : State) (h : Hdr) (state : Nat) (cmd : Instr) (cal : List XCal) :
    OnlyCoresClustersPartsCtxsStoreBulkHostQuillFabricModuleNetOut (State.powerState s h state cmd cal) s := by
  unfold State.powerState
  repeat' split
  all_goals simp [*]

@[simp] theorem effPowerStateRun_frame (h : Hdr) (cal : List XCal) (s : State) :
    OnlyCoresClustersPartsCtxsStoreBulkHostQuillFabricModuleNetOut (effPowerStateRun h cal s) s := by
  unfold effPowerStateRun
  repeat' split
  all_goals simp [*]

@[simp] theorem effPowerStateIdle_frame (h : Hdr) (cal : List XCal) (s : State) :
    OnlyCoresClustersPartsCtxsStoreBulkHostQuillFabricModuleNetOut (effPowerStateIdle h cal s) s := by
  unfold effPowerStateIdle
  repeat' split
  all_goals simp [*]

@[simp] theorem effPowerStateRetain_frame (h : Hdr) (s : State) :
    OnlyCoresClustersPartsCtxsStoreBulkHostQuillFabricModuleNetOut (effPowerStateRetain h s) s := by
  unfold effPowerStateRetain
  repeat' split
  all_goals simp [*]

@[simp] theorem effPowerStateDormant_frame (h : Hdr) (s : State) :
    OnlyCoresClustersPartsCtxsStoreBulkHostQuillFabricModuleNetOut (effPowerStateDormant h s) s := by
  unfold effPowerStateDormant
  repeat' split
  all_goals simp [*]

@[simp] theorem effDormantHostInterfaceOff_frame (s : State) :
    OnlyHostQuillModule (effDormantHostInterfaceOff s) s := by
  unfold effDormantHostInterfaceOff
  repeat' split
  all_goals simp [*]

@[simp] theorem State.switchDomain_frame (s : State) (n : Nat) (on : Bool) :
    OnlyCoresClustersPartsCtxsStoreBulkHostQuillFabricModuleOut (State.switchDomain s n on) s := by
  unfold State.switchDomain
  repeat' split
  all_goals simp [*]

@[simp] theorem State.domainControl_frame (s : State) (h : Hdr) (n : Nat) (on : Bool) (cmd : Instr) :
    OnlyCoresClustersPartsCtxsStoreBulkHostQuillFabricModuleOut (State.domainControl s h n on cmd) s := by
  unfold State.domainControl
  repeat' split
  all_goals simp [*]

@[simp] theorem effDomainOn_frame (h : Hdr) (domain : Byte) (s : State) :
    OnlyCoresClustersPartsCtxsStoreBulkHostQuillFabricModuleOut (effDomainOn h domain s) s := by
  unfold effDomainOn
  repeat' split
  all_goals simp [*]

@[simp] theorem effDomainOff_frame (h : Hdr) (domain : Byte) (s : State) :
    OnlyCoresClustersPartsCtxsStoreBulkHostQuillFabricModuleOut (effDomainOff h domain s) s := by
  unfold effDomainOff
  repeat' split
  all_goals simp [*]

@[simp] theorem State.carryDomain_frame (s : State) (n : Nat) (on : Bool) :
    OnlyCoresClustersPartsCtxsStoreBulkHostQuillFabricModuleOut (State.carryDomain s n on) s := by
  unfold State.carryDomain
  repeat' split
  all_goals simp [*]

@[simp] theorem effDomainRampDone_frame (domain : BitVec 6) (s : State) :
    OnlyCoresClustersPartsCtxsStoreBulkHostQuillFabricModuleOut (effDomainRampDone domain s) s := by
  unfold effDomainRampDone OnlyCoresClustersPartsCtxsStoreBulkHostQuillFabricModuleOut
  try dsimp only
  and_intros
  all_goals
    repeat' first
      | (with_reducible rfl)
      | split
      | (simp (disch := ((try intros); (try subst_vars); (repeat' split) <;> try simp)); done)
      | (apply foldl_pending <;> (intros; try subst_vars; try dsimp only)) | (apply foldl_dev <;> (intros; try subst_vars; try dsimp only)) | (apply foldl_net <;> (intros; try subst_vars; try dsimp only)) | (apply foldl_time <;> (intros; try subst_vars; try dsimp only)) | (apply foldl_free <;> (intros; try subst_vars; try dsimp only))
      | simp

@[simp] theorem effResetPartition_frame (h : Hdr) (cal : List XCal) (s : State) :
    OnlyCoresClustersPartsCtxsStoreBulkHostQuillFabricModuleNetOut (effResetPartition h cal s) s := by
  unfold effResetPartition
  repeat' split
  all_goals simp [*]

@[simp] theorem effSetPowerCap_frame (h : Hdr) (capW : Half) (s : State) :
    OnlyHostModuleOut (effSetPowerCap h capW s) s := by
  unfold effSetPowerCap
  repeat' split
  all_goals simp [*]

@[simp] theorem effDomainSupplyFailure_frame (k : Fin 48) (cal : List XCal) (s : State) :
    OnlyCoresClustersPartsCtxsStoreBulkHostQuillFabricModuleNetOut (effDomainSupplyFailure k cal s) s := by
  unfold effDomainSupplyFailure
  repeat' split
  all_goals simp [*]

@[simp] theorem effSupplyOutOfTolerance_frame (r : Fin 8) (wide : Bool) (cal : List XCal) (s : State) :
    OnlyCoresClustersPartsCtxsStoreBulkHostQuillFabricModuleNetOut (effSupplyOutOfTolerance r wide cal s) s := by
  unfold effSupplyOutOfTolerance
  repeat' split
  all_goals simp [*]

end Sys2Proof.Machine
end

