-- ==== Sys2Proof/Laws/Thermal.lean ====
section
/-!
SUPPORT. For each function of Machine/Thermal.lean that answers a state: the fields it leaves as they were.
-/
namespace Sys2Proof.Machine
@[simp] theorem effReferenceLoss_frame (cause : Byte) (us : Word) (cal : List XCal) (s : State) :
    OnlyCoresClustersPartsCtxsStoreBulkHostQuillFabricModuleNetOut (effReferenceLoss cause us cal s) s := by
  unfold effReferenceLoss
  repeat' split
  all_goals simp [*]

@[simp] theorem effReferenceRestored_frame (ppb : Word) (s : State) :
    OnlyHostQuillModuleOut (effReferenceRestored ppb s) s := by
  unfold effReferenceRestored
  repeat' split
  all_goals simp [*]

@[simp] theorem State.capSeamStep_frame (s : State) :
    OnlyPartsModule (State.capSeamStep s) s := by
  unfold State.capSeamStep
  repeat' split
  all_goals simp [*]

@[simp] theorem effPowerCapTick_frame (watts : Half) (s : State) :
    OnlyPartsModule (effPowerCapTick watts s) s := by
  unfold effPowerCapTick
  repeat' split
  all_goals simp [*]

@[simp] theorem State.setLevel_frame (s : State) (east : Bool) (n : Nat) :
    OnlyModule (State.setLevel s east n) s := by
  unfold State.setLevel
  repeat' split
  all_goals simp [*]

@[simp] theorem State.emergencyPart_frame (s : State) (p : Nat) :
    OnlyCoresClustersPartsCtxsStoreBulkHostQuillFabricModuleNetOut (State.emergencyPart s p) s := by
  unfold State.emergencyPart
  repeat' split
  all_goals simp [*]

@[simp] theorem State.emergency_frame (s : State) (east : Bool) :
    OnlyCoresClustersPartsCtxsStoreBulkHostQuillFabricModuleNetOut (State.emergency s east) s := by
  unfold State.emergency
  repeat' split
  all_goals simp [*]

@[simp] theorem State.levelStep_frame (s : State) (east : Bool) :
    OnlyCoresClustersPartsCtxsStoreBulkHostQuillFabricModuleNetOut (State.levelStep s east) s := by
  unfold State.levelStep
  repeat' split
  all_goals simp [*]

@[simp] theorem State.throttleSeam_frame (s : State) (east : Bool) :
    OnlyParts (State.throttleSeam s east) s := by
  unfold State.throttleSeam
  repeat' split
  all_goals simp [*]

@[simp] theorem effThermalThrottleStep_frame (s : State) :
    OnlyPartsModule (effThermalThrottleStep s) s := by
  unfold effThermalThrottleStep
  repeat' split
  all_goals simp [*]

@[simp] theorem State.releasePart_frame (s : State) (cal : List XCal) (p : Nat) :
    OnlyCoresClustersPartsCtxsStoreBulkHostQuillFabricModuleNetOut (State.releasePart s cal p) s := by
  unfold State.releasePart OnlyCoresClustersPartsCtxsStoreBulkHostQuillFabricModuleNetOut
  try dsimp only
  and_intros
  all_goals
    repeat' first
      | (with_reducible rfl)
      | split
      | (simp (disch := ((try intros); (try subst_vars); (repeat' split) <;> try simp)); done)
      | (apply foldl_pending <;> (intros; try subst_vars; try dsimp only)) | (apply foldl_dev <;> (intros; try subst_vars; try dsimp only)) | (apply foldl_time <;> (intros; try subst_vars; try dsimp only)) | (apply foldl_free <;> (intros; try subst_vars; try dsimp only))
      | simp

@[simp] theorem effThermalHoldRelease_frame (east : Bool) (cal : List XCal) (s : State) :
    OnlyCoresClustersPartsCtxsStoreBulkHostQuillFabricModuleNetOut (effThermalHoldRelease east cal s) s := by
  unfold effThermalHoldRelease
  repeat' split
  all_goals simp [*]

end Sys2Proof.Machine
end

