-- ==== Sys2Proof/Laws/BcCmds.lean ====
section
/-!
SUPPORT. For each function of Machine/BcCmds.lean that answers a state: the fields it leaves as they were.
-/
namespace Sys2Proof.Machine
@[simp] theorem State.bcCommand_frame (s : State) (h : Hdr) (op : Nat) (b : List Byte) (cal : List XCal) :
    OnlyCoresClustersPartsCtxsStoreBulkHostQuillFabricModuleNetOutFree (State.bcCommand s h op b cal) s := by
  unfold State.bcCommand
  repeat' split
  all_goals simp [*]

@[simp] theorem State.wakeFor_frame (s : State) (h : Hdr) (op : Nat) (cal : List XCal) :
    OnlyCoresClustersBulkHostQuillFabricModuleOut (State.wakeFor s h op cal) s := by
  unfold State.wakeFor
  repeat' split
  all_goals simp [*]

@[simp] theorem State.bcRequest_frame (s : State) (msg : List Byte) (dormant : Bool) (cal : List XCal) :
    OnlyCoresClustersPartsCtxsStoreBulkHostQuillFabricModuleNetOutFree (State.bcRequest s msg dormant cal) s := by
  unfold State.bcRequest OnlyCoresClustersPartsCtxsStoreBulkHostQuillFabricModuleNetOutFree
  try dsimp only
  and_intros
  all_goals
    repeat' first
      | (with_reducible rfl)
      | split
      | (simp (disch := ((try intros); (try subst_vars); (repeat' split) <;> try simp)); done)
      | (apply foldl_pending <;> (intros; try subst_vars; try dsimp only)) | (apply foldl_dev <;> (intros; try subst_vars; try dsimp only)) | (apply foldl_time <;> (intros; try subst_vars; try dsimp only))
      | simp

@[simp] theorem effMctpCommandRequest_frame (msg : List Byte) (cal : List XCal) (s : State) :
    OnlyCoresClustersPartsCtxsStoreBulkHostQuillFabricModuleNetOutFree (effMctpCommandRequest msg cal s) s := by
  unfold effMctpCommandRequest
  repeat' split
  all_goals simp [*]

@[simp] theorem State.passHeld_frame (s : State) :
    OnlyCoresClustersPartsCtxsStoreBulkHostQuillFabricModuleNetOutFree (State.passHeld s) s := by
  unfold State.passHeld
  repeat' split
  all_goals simp [*]

@[simp] theorem State.afterRecovery_frame (s : State) :
    OnlyHostQuillModuleOut (State.afterRecovery s) s := by
  unfold State.afterRecovery
  repeat' split
  all_goals simp [*]

@[simp] theorem effRecoveryGo_frame (s : State) :
    OnlyCoresClustersPartsCtxsStoreBulkHostQuillFabricModuleNetOutFree (effRecoveryGo s) s := by
  unfold effRecoveryGo
  repeat' split
  all_goals simp [*]

@[simp] theorem effMctpControlMessage_frame (msg : List Byte) (s : State) :
    OnlyHostOut (effMctpControlMessage msg s) s := by
  unfold effMctpControlMessage
  repeat' split
  all_goals simp [*]

@[simp] theorem effI3cAddressAssign_frame (addr : BitVec 7) (static_ : Option (BitVec 7)) (s : State) :
    OnlyHostOut (effI3cAddressAssign addr static_ s) s := by
  unfold effI3cAddressAssign
  repeat' split
  all_goals simp [*]

@[simp] theorem effDoeDiscovery_frame (fn : Fin 6) (index : Byte) (s : State) :
    OnlyOut (effDoeDiscovery fn index s) s := by
  unfold effDoeDiscovery
  repeat' split
  all_goals simp [*]

@[simp] theorem State.answerSpdm_frame (s : State) (c : SpdmChannel) (b : List Byte) :
    OnlyOut (State.answerSpdm s c b) s := by
  unfold State.answerSpdm
  repeat' split
  all_goals simp [*]

@[simp] theorem effSpdmRequest_frame (ch : SpdmChannel) (msg : List Byte) (s : State) :
    OnlyHostOutFree (effSpdmRequest ch msg s) s := by
  unfold effSpdmRequest
  repeat' split
  all_goals simp [*]

@[simp] theorem effSpdmGetMeasurements_frame (ch : SpdmChannel) (op : Byte) (nonce : Option (BitVec 256)) (s : State) :
    OnlyOutFree (effSpdmGetMeasurements ch op nonce s) s := by
  unfold effSpdmGetMeasurements
  repeat' split
  all_goals simp [*]

@[simp] theorem State.setIde_frame (s : State) (x : IdeStream) (key : Option (BitVec 256)) :
    OnlyHost (State.setIde s x key) s := by
  unfold State.setIde
  repeat' split
  all_goals simp [*]

@[simp] theorem effIdeKmKeySetup_frame (fn : Fin 6) (stream : IdeStream) (ok : Bool) (key : BitVec 256) (stop : Bool) (s : State) :
    OnlyHost (effIdeKmKeySetup fn stream ok key stop s) s := by
  unfold effIdeKmKeySetup
  repeat' split
  all_goals simp [*]

end Sys2Proof.Machine
end

