-- ==== Sys2Proof/Laws/Deadlock.lean ====
section
/-!
SUPPORT. For each function of Machine/Deadlock.lean that answers a state: the fields it leaves as they were.
-/
namespace Sys2Proof.Machine
@[simp] theorem effDeadlockScan_frame (k : Fin 48) (s : State) :
    OnlyQuill (effDeadlockScan k s) s := by
  unfold effDeadlockScan
  repeat' split
  all_goals simp [*]

@[simp] theorem effQuillDeadlockPoll_frame (p : Fin 4) (s : State) :
    OnlyQuill (effQuillDeadlockPoll p s) s := by
  unfold effQuillDeadlockPoll
  repeat' split
  all_goals simp [*]

@[simp] theorem State.breakDeadlock_frame (s : State) (cyc : List Nat) (byQuill : Bool) :
    OnlyCoresPartsCtxsStoreHostQuillFabricModuleOut (State.breakDeadlock s cyc byQuill) s := by
  unfold State.breakDeadlock
  repeat' split
  all_goals simp [*]

@[simp] theorem effDeadlockDetected_frame (w : DeadlockWhere) (s : State) :
    OnlyCoresClustersPartsCtxsStoreHostQuillFabricModuleOut (effDeadlockDetected w s) s := by
  unfold effDeadlockDetected
  repeat' split
  all_goals simp [*]

end Sys2Proof.Machine
end

