-- ==== Sys2Proof/Laws/FabricRx.lean ====
section
/-!
SUPPORT. For each function of Machine/FabricRx.lean that answers a state: the fields it leaves as they were.
-/
namespace Sys2Proof.Machine
@[simp] theorem State.takeMsg_pending (s : State) (f : Nat) (kind : Nat) (x : FabricFlit) (body : State → State) (hbody : ∀ x0 y, y = body x0 → y.pending = x0.pending) :
    (State.takeMsg s f kind x body).pending = s.pending := by
  have gbody := fun x0 => hbody x0 _ rfl
  unfold State.takeMsg
  repeat' split
  all_goals simp [*]

@[simp] theorem State.takeMsg_cores (s : State) (f : Nat) (kind : Nat) (x : FabricFlit) (body : State → State) (hbody : ∀ x0 y, y = body x0 → y.cores = x0.cores) :
    (State.takeMsg s f kind x body).cores = s.cores := by
  have gbody := fun x0 => hbody x0 _ rfl
  unfold State.takeMsg
  repeat' split
  all_goals simp [*]

@[simp] theorem State.takeMsg_clusters (s : State) (f : Nat) (kind : Nat) (x : FabricFlit) (body : State → State) (hbody : ∀ x0 y, y = body x0 → y.clusters = x0.clusters) :
    (State.takeMsg s f kind x body).clusters = s.clusters := by
  have gbody := fun x0 => hbody x0 _ rfl
  unfold State.takeMsg
  repeat' split
  all_goals simp [*]

@[simp] theorem State.takeMsg_parts (s : State) (f : Nat) (kind : Nat) (x : FabricFlit) (body : State → State) (hbody : ∀ x0 y, y = body x0 → y.parts = x0.parts) :
    (State.takeMsg s f kind x body).parts = s.parts := by
  have gbody := fun x0 => hbody x0 _ rfl
  unfold State.takeMsg
  repeat' split
  all_goals simp [*]

@[simp] theorem State.takeMsg_ctxs (s : State) (f : Nat) (kind : Nat) (x : FabricFlit) (body : State → State) (hbody : ∀ x0 y, y = body x0 → y.ctxs = x0.ctxs) :
    (State.takeMsg s f kind x body).ctxs = s.ctxs := by
  have gbody := fun x0 => hbody x0 _ rfl
  unfold State.takeMsg
  repeat' split
  all_goals simp [*]

@[simp] theorem State.takeMsg_store (s : State) (f : Nat) (kind : Nat) (x : FabricFlit) (body : State → State) (hbody : ∀ x0 y, y = body x0 → y.store = x0.store) :
    (State.takeMsg s f kind x body).store = s.store := by
  have gbody := fun x0 => hbody x0 _ rfl
  unfold State.takeMsg
  repeat' split
  all_goals simp [*]

@[simp] theorem State.takeMsg_bulk (s : State) (f : Nat) (kind : Nat) (x : FabricFlit) (body : State → State) (hbody : ∀ x0 y, y = body x0 → y.bulk = x0.bulk) :
    (State.takeMsg s f kind x body).bulk = s.bulk := by
  have gbody := fun x0 => hbody x0 _ rfl
  unfold State.takeMsg
  repeat' split
  all_goals simp [*]

@[simp] theorem State.takeMsg_host (s : State) (f : Nat) (kind : Nat) (x : FabricFlit) (body : State → State) (hbody : ∀ x0 y, y = body x0 → y.host = x0.host) :
    (State.takeMsg s f kind x body).host = s.host := by
  have gbody := fun x0 => hbody x0 _ rfl
  unfold State.takeMsg
  repeat' split
  all_goals simp [*]

@[simp] theorem State.takeMsg_dev (s : State) (f : Nat) (kind : Nat) (x : FabricFlit) (body : State → State) (hbody : ∀ x0 y, y = body x0 → y.dev = x0.dev) :
    (State.takeMsg s f kind x body).dev = s.dev := by
  have gbody := fun x0 => hbody x0 _ rfl
  unfold State.takeMsg
  repeat' split
  all_goals simp [*]

@[simp] theorem State.takeMsg_quill (s : State) (f : Nat) (kind : Nat) (x : FabricFlit) (body : State → State) (hbody : ∀ x0 y, y = body x0 → y.quill = x0.quill) :
    (State.takeMsg s f kind x body).quill = s.quill := by
  have gbody := fun x0 => hbody x0 _ rfl
  unfold State.takeMsg
  repeat' split
  all_goals simp [*]

@[simp] theorem State.takeMsg_module_ (s : State) (f : Nat) (kind : Nat) (x : FabricFlit) (body : State → State) (hbody : ∀ x0 y, y = body x0 → y.module_ = x0.module_) :
    (State.takeMsg s f kind x body).module_ = s.module_ := by
  have gbody := fun x0 => hbody x0 _ rfl
  unfold State.takeMsg
  repeat' split
  all_goals simp [*]

@[simp] theorem State.takeMsg_net (s : State) (f : Nat) (kind : Nat) (x : FabricFlit) (body : State → State) (hbody : ∀ x0 y, y = body x0 → y.net = x0.net) :
    (State.takeMsg s f kind x body).net = s.net := by
  have gbody := fun x0 => hbody x0 _ rfl
  unfold State.takeMsg
  repeat' split
  all_goals simp [*]

@[simp] theorem State.takeMsg_time (s : State) (f : Nat) (kind : Nat) (x : FabricFlit) (body : State → State) (hbody : ∀ x0 y, y = body x0 → y.time = x0.time) :
    (State.takeMsg s f kind x body).time = s.time := by
  have gbody := fun x0 => hbody x0 _ rfl
  unfold State.takeMsg
  repeat' split
  all_goals simp [*]

@[simp] theorem State.takeMsg_free (s : State) (f : Nat) (kind : Nat) (x : FabricFlit) (body : State → State) (hbody : ∀ x0 y, y = body x0 → y.free = x0.free) :
    (State.takeMsg s f kind x body).free = s.free := by
  have gbody := fun x0 => hbody x0 _ rfl
  unfold State.takeMsg
  repeat' split
  all_goals simp [*]

@[simp] theorem State.countForward_frame (s : State) :
    OnlyFabric (State.countForward s) s := by
  unfold State.countForward
  repeat' split
  all_goals simp [*]

@[simp] theorem State.forward_frame (s : State) (x : FabricFlit) :
    OnlyFabricOut (State.forward s x) s := by
  unfold State.forward
  repeat' split
  all_goals simp [*]

@[simp] theorem State.forwardFlit_frame (s : State) (f : Nat) (x : FabricFlit) :
    OnlyFabricOut (State.forwardFlit s f x) s := by
  unfold State.forwardFlit
  repeat' split
  all_goals simp [*]

@[simp] theorem effReceiptReceive_frame (f : Fin 16) (flit : FabricFlit) (s : State) :
    OnlyClustersHostFabricOut (effReceiptReceive f flit s) s := by
  unfold effReceiptReceive
  repeat' split
  all_goals simp [*]

@[simp] theorem State.correctTime_frame (s : State) (off : Int) :
    OnlyFabricTime (State.correctTime s off) s := by
  unfold State.correctTime
  repeat' split
  all_goals simp [*]

@[simp] theorem State.advanceTime_frame (s : State) :
    OnlyFabricTime (State.advanceTime s) s := by
  unfold State.advanceTime
  repeat' split
  all_goals simp [*]

@[simp] theorem State.followSource_frame (s : State) (off : Int) :
    OnlyFabricTime (State.followSource s off) s := by
  unfold State.followSource
  repeat' split
  all_goals simp [*]

@[simp] theorem State.blockTime_frame (s : State) (f : Nat) (b : List Byte) :
    OnlyFabricTime (State.blockTime s f b) s := by
  unfold State.blockTime
  repeat' split
  all_goals simp [*]

@[simp] theorem effLinkControlBlockReceive_frame (f : Fin 16) (block : List Byte) (s : State) :
    OnlyHostQuillFabricModuleTimeOut (effLinkControlBlockReceive f block s) s := by
  unfold effLinkControlBlockReceive
  repeat' split
  all_goals simp [*]

@[simp] theorem effLinkControlBlockSend_frame (f : Fin 16) (s : State) :
    OnlyFabricOut (effLinkControlBlockSend f s) s := by
  unfold effLinkControlBlockSend
  repeat' split
  all_goals simp [*]

@[simp] theorem effWatermarkSilence_frame (f : Fin 16) (s : State) :
    OnlyHostQuillFabricModuleOut (effWatermarkSilence f s) s := by
  unfold effWatermarkSilence
  repeat' split
  all_goals simp [*]

@[simp] theorem effTimeSourceTimeout_frame (s : State) :
    OnlyFabric (effTimeSourceTimeout s) s := by
  unfold effTimeSourceTimeout
  repeat' split
  all_goals simp [*]

@[simp] theorem State.edgeFlit_frame (s : State) (f slice : Nat) (x : Flit) :
    OnlyFabric (State.edgeFlit s f slice x) s := by
  unfold State.edgeFlit
  repeat' split
  all_goals simp [*]

@[simp] theorem State.sendRemote_frame (s : State) (p : Nat) (l : List Flit) :
    OnlyCoresClustersPartsCtxsStoreBulkHostQuillFabricModuleOut (State.sendRemote s p l) s := by
  unfold State.sendRemote OnlyCoresClustersPartsCtxsStoreBulkHostQuillFabricModuleOut
  try dsimp only
  and_intros
  all_goals
    repeat' first
      | (with_reducible rfl)
      | split
      | (simp (disch := ((try intros); (try subst_vars); (repeat' split) <;> try simp)); done)
      | (apply foldl_pending <;> (intros; try subst_vars; try dsimp only)) | (apply foldl_dev <;> (intros; try subst_vars; try dsimp only)) | (apply foldl_net <;> (intros; try subst_vars; try dsimp only)) | (apply foldl_time <;> (intros; try subst_vars; try dsimp only)) | (apply foldl_free <;> (intros; try subst_vars; try dsimp only))
      | simp

@[simp] theorem State.killFabric_frame (s : State) (c : Nat) (port : Option Nat) (payload : List (Nat × Nat × Nat)) :
    OnlyCoresPartsCtxsStoreHostQuillFabricModuleOut (State.killFabric s c port payload) s := by
  unfold State.killFabric
  repeat' split
  all_goals simp [*]

@[simp] theorem State.ringFault_frame (s : State) (r : Nat) (payload : List (Nat × Nat × Nat)) :
    OnlyCoresPartsCtxsStoreHostQuillFabricModuleOut (State.ringFault s r payload) s := by
  unfold State.ringFault
  repeat' split
  all_goals simp [*]

@[simp] theorem State.loseAdds_frame (s : State) (n id port track : Nat) :
    OnlyCoresPartsCtxsStoreHostQuillFabricModuleOut (State.loseAdds s n id port track) s := by
  unfold State.loseAdds
  repeat' split
  all_goals simp [*]

@[simp] theorem State.lostFor_frame (s : State) (t : Tracked) :
    OnlyCoresPartsCtxsStoreHostQuillFabricModuleOut (State.lostFor s t) s := by
  unfold State.lostFor
  repeat' split
  all_goals simp [*]

@[simp] theorem effReceiptTimeout_frame (entry : Nat) (s : State) :
    OnlyCoresPartsCtxsStoreHostQuillFabricModuleOut (effReceiptTimeout entry s) s := by
  unfold effReceiptTimeout
  repeat' split
  all_goals simp [*]

@[simp] theorem State.margin_frame (s : State) (quantity index : Nat) (value threshold : Int) (crossed : Bool) (ports : List Nat) :
    OnlyHostQuillFabricModuleOut (State.margin s quantity index value threshold crossed ports) s := by
  unfold State.margin
  repeat' split
  all_goals simp [*]

@[simp] theorem effMarginTelemetry_frame (sample : MarginSample) (s : State) :
    OnlyHostQuillFabricModuleOutFree (effMarginTelemetry sample s) s := by
  unfold effMarginTelemetry
  repeat' split
  all_goals simp [*]

end Sys2Proof.Machine
end

