-- ==== Sys2Proof/Laws/HostMemory.lean ====
section
/-!
SUPPORT. For each function of Machine/HostMemory.lean that answers a state: the fields it leaves as they were.
-/
namespace Sys2Proof.Machine
@[simp] theorem State.servicePiece_frame (s : State) (k : Nat) (lost : List Nat) (blot : Bool) (x : Nat × Nat × List Byte) :
    OnlyStore (State.servicePiece s k lost blot x) s := by
  unfold State.servicePiece
  repeat' split
  all_goals simp [*]

@[simp] theorem State.devWrite_frame (s : State) (m : DevMem) (a : Nat) (bs : List Byte) (poison : Nat → Bool) (lost : List Nat) :
    OnlyCoresClustersPartsCtxsStoreHostQuillFabricModuleOut (State.devWrite s m a bs poison lost) s := by
  unfold State.devWrite
  repeat' split
  all_goals simp [*]

@[simp] theorem State.barRejected_frame (s : State) (f : Nat) :
    OnlyHost (State.barRejected s f) s := by
  unfold State.barRejected
  repeat' split
  all_goals simp [*]

@[simp] theorem effBar0Reject_frame (fn : Fin 6) (isRead : Bool) (s : State) :
    OnlyHostOut (effBar0Reject fn isRead s) s := by
  unfold effBar0Reject
  repeat' split
  all_goals simp [*]

@[simp] theorem State.answerBar_frame (s : State) (m : DevMem) (fn a len : Nat) :
    OnlyClustersStoreOut (State.answerBar s m fn a len) s := by
  unfold State.answerBar
  repeat' split
  all_goals simp [*]

@[simp] theorem effBar2Read_frame (fn : Fin 6) (off : BitVec 40) (len : Nat) (errs : List (DWord × Ecc)) (split : List DWord) (lines : List LineFind) (s : State) :
    OnlyCoresClustersPartsCtxsStoreBulkHostQuillFabricModuleOut (effBar2Read fn off len errs split lines s) s := by
  unfold effBar2Read
  try dsimp only
  repeat' split
  all_goals (try have h_devReady := State.devReady_frame (by assumption))
  all_goals (try dsimp only at h_devReady)
  all_goals simp [*]


@[simp] theorem State.devWriteEcc_frame (s : State) (m : DevMem) (a n : Nat) (l : List (DWord × Ecc)) (lines : List LineFind) :
    OnlyCoresClustersStoreBulkHostQuillModuleOut (State.devWriteEcc s m a n l lines) s := by
  unfold State.devWriteEcc
  repeat' split
  all_goals simp [*]

@[simp] theorem effBar2Write_frame (fn : Fin 6) (off : BitVec 40) (bytes : List Byte) (poisoned : Bool) (errs : List (DWord × Ecc)) (lost : List Nat) (lines : List LineFind) (s : State) :
    OnlyCoresClustersPartsCtxsStoreBulkHostQuillFabricModuleOut (effBar2Write fn off bytes poisoned errs lost lines s) s := by
  unfold effBar2Write
  try dsimp only
  repeat' split
  all_goals (try have h_devReady := State.devReady_frame (by assumption))
  all_goals (try dsimp only at h_devReady)
  all_goals simp [*]


@[simp] theorem effDma_frame (h : Hdr) (hostAddr devAddr : DWord) (len : Word) (dir : Byte) (s : State) :
    OnlyHostOut (effDma h hostAddr devAddr len dir s) s := by
  unfold effDma OnlyHostOut
  try dsimp only
  and_intros
  all_goals
    repeat' first
      | (with_reducible rfl)
      | split
      | (simp (disch := ((try intros); (try subst_vars); (repeat' split) <;> try simp)); done)
      | (apply foldl_pending <;> (intros; try subst_vars; try dsimp only)) | (apply foldl_cores <;> (intros; try subst_vars; try dsimp only)) | (apply foldl_clusters <;> (intros; try subst_vars; try dsimp only)) | (apply foldl_parts <;> (intros; try subst_vars; try dsimp only)) | (apply foldl_ctxs <;> (intros; try subst_vars; try dsimp only)) | (apply foldl_store <;> (intros; try subst_vars; try dsimp only)) | (apply foldl_bulk <;> (intros; try subst_vars; try dsimp only)) | (apply foldl_dev <;> (intros; try subst_vars; try dsimp only)) | (apply foldl_quill <;> (intros; try subst_vars; try dsimp only)) | (apply foldl_fabric <;> (intros; try subst_vars; try dsimp only)) | (apply foldl_module_ <;> (intros; try subst_vars; try dsimp only)) | (apply foldl_net <;> (intros; try subst_vars; try dsimp only)) | (apply foldl_time <;> (intros; try subst_vars; try dsimp only)) | (apply foldl_free <;> (intros; try subst_vars; try dsimp only)) | (apply State.hostCmd_pending <;> (intros; try subst_vars; try dsimp only)) | (apply State.hostCmd_cores <;> (intros; try subst_vars; try dsimp only)) | (apply State.hostCmd_clusters <;> (intros; try subst_vars; try dsimp only)) | (apply State.hostCmd_parts <;> (intros; try subst_vars; try dsimp only)) | (apply State.hostCmd_ctxs <;> (intros; try subst_vars; try dsimp only)) | (apply State.hostCmd_store <;> (intros; try subst_vars; try dsimp only)) | (apply State.hostCmd_bulk <;> (intros; try subst_vars; try dsimp only)) | (apply State.hostCmd_dev <;> (intros; try subst_vars; try dsimp only)) | (apply State.hostCmd_quill <;> (intros; try subst_vars; try dsimp only)) | (apply State.hostCmd_fabric <;> (intros; try subst_vars; try dsimp only)) | (apply State.hostCmd_module_ <;> (intros; try subst_vars; try dsimp only)) | (apply State.hostCmd_net <;> (intros; try subst_vars; try dsimp only)) | (apply State.hostCmd_time <;> (intros; try subst_vars; try dsimp only)) | (apply State.hostCmd_free <;> (intros; try subst_vars; try dsimp only))
      | simp

@[simp] theorem State.dmaIn_frame (s : State) (job : Nat) (m : DevMem) (a n : Nat) (bs : List Byte) (poison lost : List Nat) :
    OnlyCoresClustersPartsCtxsStoreHostQuillFabricModuleOut (State.dmaIn s job m a n bs poison lost) s := by
  unfold State.dmaIn
  repeat' split
  all_goals simp [*]

@[simp] theorem State.dmaOut_frame (s : State) (job f h : Nat) (m : DevMem) (a n : Nat) :
    OnlyClustersStoreHostOut (State.dmaOut s job f h m a n) s := by
  unfold State.dmaOut
  repeat' split
  all_goals simp [*]

@[simp] theorem effDmaTransferDone_frame (job : Nat) (data : Option (List Byte)) (poison : List Nat) (errs : List (DWord × Ecc)) (split : List DWord) (lost : List Nat) (lines : List LineFind) (s : State) :
    OnlyCoresClustersPartsCtxsStoreBulkHostQuillFabricModuleOut (effDmaTransferDone job data poison errs split lost lines s) s := by
  unfold effDmaTransferDone
  try dsimp only
  repeat' split
  all_goals (try have h_devReady := State.devReady_frame (by assumption))
  all_goals (try dsimp only at h_devReady)
  all_goals simp [*]


@[simp] theorem State.syncCmd_pending (s : State) (h : Hdr) (op : Nat) (scope cluster : Byte) (index : Half) (args : List (Nat × Nat × Nat)) (body : Counter → State → State) (hbody : ∀ x0 x1 y, y = body x0 x1 → y.pending = x1.pending) :
    (State.syncCmd s h op scope cluster index args body).pending = s.pending := by
  have gbody := fun x0 x1 => hbody x0 x1 _ rfl
  unfold State.syncCmd
  apply State.hostCmd_pending
  intro t y h
  subst h
  split
  · simp
  · exact gbody _ _

@[simp] theorem State.syncCmd_cores (s : State) (h : Hdr) (op : Nat) (scope cluster : Byte) (index : Half) (args : List (Nat × Nat × Nat)) (body : Counter → State → State) (hbody : ∀ x0 x1 y, y = body x0 x1 → y.cores = x1.cores) :
    (State.syncCmd s h op scope cluster index args body).cores = s.cores := by
  have gbody := fun x0 x1 => hbody x0 x1 _ rfl
  unfold State.syncCmd
  apply State.hostCmd_cores
  intro t y h
  subst h
  split
  · simp
  · exact gbody _ _

@[simp] theorem State.syncCmd_clusters (s : State) (h : Hdr) (op : Nat) (scope cluster : Byte) (index : Half) (args : List (Nat × Nat × Nat)) (body : Counter → State → State) (hbody : ∀ x0 x1 y, y = body x0 x1 → y.clusters = x1.clusters) :
    (State.syncCmd s h op scope cluster index args body).clusters = s.clusters := by
  have gbody := fun x0 x1 => hbody x0 x1 _ rfl
  unfold State.syncCmd
  apply State.hostCmd_clusters
  intro t y h
  subst h
  split
  · simp
  · exact gbody _ _

@[simp] theorem State.syncCmd_parts (s : State) (h : Hdr) (op : Nat) (scope cluster : Byte) (index : Half) (args : List (Nat × Nat × Nat)) (body : Counter → State → State) (hbody : ∀ x0 x1 y, y = body x0 x1 → y.parts = x1.parts) :
    (State.syncCmd s h op scope cluster index args body).parts = s.parts := by
  have gbody := fun x0 x1 => hbody x0 x1 _ rfl
  unfold State.syncCmd
  apply State.hostCmd_parts
  intro t y h
  subst h
  split
  · simp
  · exact gbody _ _

@[simp] theorem State.syncCmd_ctxs (s : State) (h : Hdr) (op : Nat) (scope cluster : Byte) (index : Half) (args : List (Nat × Nat × Nat)) (body : Counter → State → State) (hbody : ∀ x0 x1 y, y = body x0 x1 → y.ctxs = x1.ctxs) :
    (State.syncCmd s h op scope cluster index args body).ctxs = s.ctxs := by
  have gbody := fun x0 x1 => hbody x0 x1 _ rfl
  unfold State.syncCmd
  apply State.hostCmd_ctxs
  intro t y h
  subst h
  split
  · simp
  · exact gbody _ _

@[simp] theorem State.syncCmd_store (s : State) (h : Hdr) (op : Nat) (scope cluster : Byte) (index : Half) (args : List (Nat × Nat × Nat)) (body : Counter → State → State) (hbody : ∀ x0 x1 y, y = body x0 x1 → y.store = x1.store) :
    (State.syncCmd s h op scope cluster index args body).store = s.store := by
  have gbody := fun x0 x1 => hbody x0 x1 _ rfl
  unfold State.syncCmd
  apply State.hostCmd_store
  intro t y h
  subst h
  split
  · simp
  · exact gbody _ _

@[simp] theorem State.syncCmd_bulk (s : State) (h : Hdr) (op : Nat) (scope cluster : Byte) (index : Half) (args : List (Nat × Nat × Nat)) (body : Counter → State → State) (hbody : ∀ x0 x1 y, y = body x0 x1 → y.bulk = x1.bulk) :
    (State.syncCmd s h op scope cluster index args body).bulk = s.bulk := by
  have gbody := fun x0 x1 => hbody x0 x1 _ rfl
  unfold State.syncCmd
  apply State.hostCmd_bulk
  intro t y h
  subst h
  split
  · simp
  · exact gbody _ _

@[simp] theorem State.syncCmd_dev (s : State) (h : Hdr) (op : Nat) (scope cluster : Byte) (index : Half) (args : List (Nat × Nat × Nat)) (body : Counter → State → State) (hbody : ∀ x0 x1 y, y = body x0 x1 → y.dev = x1.dev) :
    (State.syncCmd s h op scope cluster index args body).dev = s.dev := by
  have gbody := fun x0 x1 => hbody x0 x1 _ rfl
  unfold State.syncCmd
  apply State.hostCmd_dev
  intro t y h
  subst h
  split
  · simp
  · exact gbody _ _

@[simp] theorem State.syncCmd_quill (s : State) (h : Hdr) (op : Nat) (scope cluster : Byte) (index : Half) (args : List (Nat × Nat × Nat)) (body : Counter → State → State) (hbody : ∀ x0 x1 y, y = body x0 x1 → y.quill = x1.quill) :
    (State.syncCmd s h op scope cluster index args body).quill = s.quill := by
  have gbody := fun x0 x1 => hbody x0 x1 _ rfl
  unfold State.syncCmd
  apply State.hostCmd_quill
  intro t y h
  subst h
  split
  · simp
  · exact gbody _ _

@[simp] theorem State.syncCmd_fabric (s : State) (h : Hdr) (op : Nat) (scope cluster : Byte) (index : Half) (args : List (Nat × Nat × Nat)) (body : Counter → State → State) (hbody : ∀ x0 x1 y, y = body x0 x1 → y.fabric = x1.fabric) :
    (State.syncCmd s h op scope cluster index args body).fabric = s.fabric := by
  have gbody := fun x0 x1 => hbody x0 x1 _ rfl
  unfold State.syncCmd
  apply State.hostCmd_fabric
  intro t y h
  subst h
  split
  · simp
  · exact gbody _ _

@[simp] theorem State.syncCmd_module_ (s : State) (h : Hdr) (op : Nat) (scope cluster : Byte) (index : Half) (args : List (Nat × Nat × Nat)) (body : Counter → State → State) (hbody : ∀ x0 x1 y, y = body x0 x1 → y.module_ = x1.module_) :
    (State.syncCmd s h op scope cluster index args body).module_ = s.module_ := by
  have gbody := fun x0 x1 => hbody x0 x1 _ rfl
  unfold State.syncCmd
  apply State.hostCmd_module_
  intro t y h
  subst h
  split
  · simp
  · exact gbody _ _

@[simp] theorem State.syncCmd_net (s : State) (h : Hdr) (op : Nat) (scope cluster : Byte) (index : Half) (args : List (Nat × Nat × Nat)) (body : Counter → State → State) (hbody : ∀ x0 x1 y, y = body x0 x1 → y.net = x1.net) :
    (State.syncCmd s h op scope cluster index args body).net = s.net := by
  have gbody := fun x0 x1 => hbody x0 x1 _ rfl
  unfold State.syncCmd
  apply State.hostCmd_net
  intro t y h
  subst h
  split
  · simp
  · exact gbody _ _

@[simp] theorem State.syncCmd_time (s : State) (h : Hdr) (op : Nat) (scope cluster : Byte) (index : Half) (args : List (Nat × Nat × Nat)) (body : Counter → State → State) (hbody : ∀ x0 x1 y, y = body x0 x1 → y.time = x1.time) :
    (State.syncCmd s h op scope cluster index args body).time = s.time := by
  have gbody := fun x0 x1 => hbody x0 x1 _ rfl
  unfold State.syncCmd
  apply State.hostCmd_time
  intro t y h
  subst h
  split
  · simp
  · exact gbody _ _

@[simp] theorem State.syncCmd_free (s : State) (h : Hdr) (op : Nat) (scope cluster : Byte) (index : Half) (args : List (Nat × Nat × Nat)) (body : Counter → State → State) (hbody : ∀ x0 x1 y, y = body x0 x1 → y.free = x1.free) :
    (State.syncCmd s h op scope cluster index args body).free = s.free := by
  have gbody := fun x0 x1 => hbody x0 x1 _ rfl
  unfold State.syncCmd
  apply State.hostCmd_free
  intro t y h
  subst h
  split
  · simp
  · exact gbody _ _

@[simp] theorem effSyncOpSet_frame (h : Hdr) (scope cluster : Byte) (index : Half) (val : Word) (s : State) :
    OnlyClustersHostFabricOut (effSyncOpSet h scope cluster index val s) s := by
  unfold effSyncOpSet
  repeat' split
  all_goals simp [*]

@[simp] theorem effSyncOpAdd_frame (h : Hdr) (scope cluster : Byte) (index : Half) (val : Word) (s : State) :
    OnlyClustersHostFabricOut (effSyncOpAdd h scope cluster index val s) s := by
  unfold effSyncOpAdd
  repeat' split
  all_goals simp [*]

@[simp] theorem effSyncOpRead_frame (h : Hdr) (scope cluster : Byte) (index : Half) (s : State) :
    OnlyHostOut (effSyncOpRead h scope cluster index s) s := by
  unfold effSyncOpRead
  repeat' split
  all_goals simp [*]

@[simp] theorem effSyncOpWaitGe_frame (h : Hdr) (scope cluster : Byte) (index : Half) (val timeoutMs : Word) (s : State) :
    OnlyHostOut (effSyncOpWaitGe h scope cluster index val timeoutMs s) s := by
  unfold effSyncOpWaitGe
  repeat' split
  all_goals simp [*]

@[simp] theorem effSyncOpWaitEnd_frame (job : Nat) (s : State) :
    OnlyHostOut (effSyncOpWaitEnd job s) s := by
  unfold effSyncOpWaitEnd
  repeat' split
  all_goals simp [*]

end Sys2Proof.Machine
end

