-- ==== Sys2Proof/Laws/LockstepCmds.lean ====
section
/-!
SUPPORT. For each function of Machine/LockstepCmds.lean that answers a state: the fields it leaves as they were.
-/
namespace Sys2Proof.Machine
@[simp] theorem State.modLock_frame (s : State) (f : LockStep → LockStep) :
    OnlyQuill (State.modLock s f) s := by
  unfold State.modLock
  repeat' split
  all_goals simp [*]

@[simp] theorem State.lsPaired_frame (s : State) :
    OnlyHostQuillOut (State.lsPaired s) s := by
  unfold State.lsPaired
  repeat' split
  all_goals simp [*]

@[simp] theorem State.lsUnpair_frame (s : State) :
    OnlyCtxsQuill (State.lsUnpair s) s := by
  unfold State.lsUnpair
  repeat' split
  all_goals simp [*]

@[simp] theorem effLockstepPair_frame (h : Hdr) (port : Byte) (peer : Half) (s : State) :
    OnlyHostQuillFabricOut (effLockstepPair h port peer s) s := by
  unfold effLockstepPair OnlyHostQuillFabricOut
  try dsimp only
  and_intros
  all_goals
    repeat' first
      | (with_reducible rfl)
      | split
      | (simp (disch := ((try intros); (try subst_vars); (repeat' split) <;> try simp)); done)
      | (apply foldl_pending <;> (intros; try subst_vars; try dsimp only)) | (apply foldl_cores <;> (intros; try subst_vars; try dsimp only)) | (apply foldl_clusters <;> (intros; try subst_vars; try dsimp only)) | (apply foldl_parts <;> (intros; try subst_vars; try dsimp only)) | (apply foldl_ctxs <;> (intros; try subst_vars; try dsimp only)) | (apply foldl_store <;> (intros; try subst_vars; try dsimp only)) | (apply foldl_bulk <;> (intros; try subst_vars; try dsimp only)) | (apply foldl_dev <;> (intros; try subst_vars; try dsimp only)) | (apply foldl_module_ <;> (intros; try subst_vars; try dsimp only)) | (apply foldl_net <;> (intros; try subst_vars; try dsimp only)) | (apply foldl_time <;> (intros; try subst_vars; try dsimp only)) | (apply foldl_free <;> (intros; try subst_vars; try dsimp only)) | (apply State.hostCmd_pending <;> (intros; try subst_vars; try dsimp only)) | (apply State.hostCmd_cores <;> (intros; try subst_vars; try dsimp only)) | (apply State.hostCmd_clusters <;> (intros; try subst_vars; try dsimp only)) | (apply State.hostCmd_parts <;> (intros; try subst_vars; try dsimp only)) | (apply State.hostCmd_ctxs <;> (intros; try subst_vars; try dsimp only)) | (apply State.hostCmd_store <;> (intros; try subst_vars; try dsimp only)) | (apply State.hostCmd_bulk <;> (intros; try subst_vars; try dsimp only)) | (apply State.hostCmd_dev <;> (intros; try subst_vars; try dsimp only)) | (apply State.hostCmd_module_ <;> (intros; try subst_vars; try dsimp only)) | (apply State.hostCmd_net <;> (intros; try subst_vars; try dsimp only)) | (apply State.hostCmd_time <;> (intros; try subst_vars; try dsimp only)) | (apply State.hostCmd_free <;> (intros; try subst_vars; try dsimp only))
      | simp

@[simp] theorem effLockstepPairTimeout_frame (job : Nat) (s : State) :
    OnlyCtxsHostQuillOut (effLockstepPairTimeout job s) s := by
  unfold effLockstepPairTimeout
  repeat' split
  all_goals simp [*]

@[simp] theorem effLockstepRelease_frame (h : Hdr) (s : State) :
    OnlyCtxsHostQuillFabricOut (effLockstepRelease h s) s := by
  unfold effLockstepRelease
  repeat' split
  all_goals simp [*]

@[simp] theorem State.lsAsked_frame (s : State) (f : Nat) :
    OnlyHostQuillOut (State.lsAsked s f) s := by
  unfold State.lsAsked
  repeat' split
  all_goals simp [*]

@[simp] theorem State.lsStopped_frame (s : State) (c last : Nat) :
    OnlyCtxsQuill (State.lsStopped s c last) s := by
  unfold State.lsStopped
  repeat' split
  all_goals simp [*]

@[simp] theorem State.lsFrom_frame (s : State) (c type : Nat) (d : List Byte) :
    OnlyCtxsHostQuillModuleOut (State.lsFrom s c type d) s := by
  unfold State.lsFrom
  repeat' split
  all_goals simp [*]

@[simp] theorem effLockstepDigestReceive_frame (f : Fin 16) (dg : List Byte) (s : State) :
    OnlyCtxsHostQuillFabricModuleOut (effLockstepDigestReceive f dg s) s := by
  unfold effLockstepDigestReceive
  repeat' split
  all_goals simp [*]

end Sys2Proof.Machine
end

