-- ==== Sys2Proof/Laws/Memory.lean ====
section
/-!
SUPPORT. The storage: every operation keeps its canonical form, and a write changes the bytes it names and no other.
-/
namespace Sys2Proof.Machine

theorem Memory.wfFrom_mono (m : List Host.Cell) (lo hi : Nat) (h : lo ≤ hi) (w : Memory.wfFrom hi m = true) :
    Memory.wfFrom lo m = true := by
  cases m with
  | nil => rfl
  | cons e r =>
    obtain ⟨a, v⟩ := e
    simp only [Memory.wfFrom, Bool.and_eq_true, decide_eq_true_eq] at w ⊢
    exact ⟨⟨by omega, w.1.2⟩, w.2⟩

theorem Memory.wfFrom_erase (m : List Host.Cell) (lo a : Nat) (w : Memory.wfFrom lo m = true) :
    Memory.wfFrom lo (Memory.erase m a) = true := by
  induction m generalizing lo with
  | nil => rfl
  | cons e r ih =>
    obtain ⟨b, v⟩ := e
    simp only [Memory.wfFrom, Bool.and_eq_true, decide_eq_true_eq] at w
    unfold Memory.erase
    split
    · exact Memory.wfFrom_mono _ _ _ (by omega) (ih _ w.2)
    · simp only [Memory.wfFrom, Bool.and_eq_true, decide_eq_true_eq]
      exact ⟨w.1, ih _ w.2⟩

theorem Memory.erase_absent (m : List Host.Cell) (a : Nat) : ∀ e ∈ Memory.erase m a, e.1 ≠ a := by
  induction m with
  | nil => simp [Memory.erase]
  | cons e r ih =>
    obtain ⟨b, v⟩ := e
    unfold Memory.erase
    split
    · exact ih
    · intro x hx
      cases hx with
      | head => assumption
      | tail _ h => exact ih x h

theorem Memory.wfFrom_insert (m : List Host.Cell) (lo a : Nat) (v : BitVec 8) (hv : v ≠ Memory.unlisted) (hl : lo ≤ a)
    (ha : ∀ e ∈ m, e.1 ≠ a) (w : Memory.wfFrom lo m = true) : Memory.wfFrom lo (Memory.insert m a v) = true := by
  induction m generalizing lo with
  | nil => simp [Memory.insert, Memory.wfFrom, hv, hl]
  | cons e r ih =>
    obtain ⟨b, x⟩ := e
    simp only [Memory.wfFrom, Bool.and_eq_true, decide_eq_true_eq] at w
    have hb : b ≠ a := ha (b, x) (by simp)
    unfold Memory.insert
    split
    · simp only [Memory.wfFrom, Bool.and_eq_true, decide_eq_true_eq]
      exact ⟨⟨hl, hv⟩, ⟨by omega, w.1.2⟩, w.2⟩
    · simp only [Memory.wfFrom, Bool.and_eq_true, decide_eq_true_eq]
      exact ⟨w.1, ih _ (by omega) (fun e he => ha e (by simp [he])) w.2⟩

/-- A byte write keeps the canonical form. -/
theorem Memory.wf_write (m : List Host.Cell) (a : Nat) (v : BitVec 8) (w : Memory.wf m = true) :
    Memory.wf (Memory.write m a v) = true := by
  unfold Memory.write
  split
  · exact Memory.wfFrom_erase _ _ _ w
  · exact Memory.wfFrom_insert _ _ _ _ ‹_› (Nat.zero_le _) (Memory.erase_absent m a) (Memory.wfFrom_erase _ _ _ w)

theorem Memory.read_erase (m : List Host.Cell) (a b : Nat) :
    Memory.read (Memory.erase m a) b = if b = a then Memory.unlisted else Memory.read m b := by
  induction m with
  | nil => simp [Memory.erase, Memory.read]
  | cons e r ih =>
    obtain ⟨c, x⟩ := e
    unfold Memory.erase
    split
    · rename_i hc
      rw [ih, ← hc]
      by_cases h : b = c
      · simp [h]
      · simp [h, Memory.read, Ne.symm h]
    · unfold Memory.read
      by_cases h : c = b
      · subst h; simp_all
      · simp [h, ih]

theorem Memory.read_insert (m : List Host.Cell) (a b : Nat) (v : BitVec 8) (h : ∀ e ∈ m, e.1 ≠ a) :
    Memory.read (Memory.insert m a v) b = if b = a then v else Memory.read m b := by
  induction m with
  | nil =>
    by_cases hb : b = a
    · simp [Memory.insert, Memory.read, hb]
    · simp [Memory.insert, Memory.read, hb, Ne.symm hb]
  | cons e r ih =>
    obtain ⟨c, x⟩ := e
    have hc : c ≠ a := h (c, x) (by simp)
    unfold Memory.insert
    split
    · by_cases hb : b = a
      · simp [Memory.read, hb]
      · simp [Memory.read, hb, Ne.symm hb]
    · unfold Memory.read
      by_cases hcb : c = b
      · subst hcb; simp [hc]
      · simp [hcb, ih (fun e he => h e (by simp [he]))]

/-- Reading a byte after a byte was written. -/
theorem Memory.read_write (m : List Host.Cell) (a b : Nat) (v : BitVec 8) :
    Memory.read (Memory.write m a v) b = if b = a then v else Memory.read m b := by
  unfold Memory.write
  split
  · rw [Memory.read_erase]; simp_all
  · rw [Memory.read_insert _ _ _ _ (Memory.erase_absent m a), Memory.read_erase]
    by_cases h : b = a <;> simp [h]

/-- A run of byte writes keeps the canonical form. -/
theorem Memory.wf_writeBytes (bs : List (BitVec 8)) (m : List Host.Cell) (a : Nat) (w : Memory.wf m = true) :
    Memory.wf (Memory.writeBytes m a bs) = true := by
  induction bs generalizing m a with
  | nil => exact w
  | cons b r ih => exact ih _ _ (Memory.wf_write _ _ _ w)

/-- Reading a byte after a run of bytes was written. -/
theorem Memory.read_writeBytes (bs : List (BitVec 8)) (m : List Host.Cell) (a b : Nat) :
    Memory.read (Memory.writeBytes m a bs) b =
      if a ≤ b ∧ b < a + bs.length then bs.getD (b - a) 0 else Memory.read m b := by
  induction bs generalizing m a with
  | nil =>
    have h : ¬(a ≤ b ∧ b < a + ([] : List (BitVec 8)).length) := by simp only [List.length_nil]; omega
    rw [if_neg h]; rfl
  | cons x r ih =>
    unfold Memory.writeBytes
    rw [ih, Memory.read_write]
    by_cases hb : b = a
    · subst hb; simp
    · by_cases h1 : a + 1 ≤ b ∧ b < a + 1 + r.length
      · have h2 : a ≤ b ∧ b < a + (x :: r).length := by simp; omega
        rw [if_pos h1, if_pos h2]
        have : b - a = (b - (a + 1)) + 1 := by omega
        rw [this]; simp
      · have h2 : ¬(a ≤ b ∧ b < a + (x :: r).length) := by simp; omega
        rw [if_neg h1, if_neg h2, if_neg hb]

theorem risingFrom_mono (l : List Nat) (lo hi : Nat) (h : lo ≤ hi) (w : risingFrom hi l = true) :
    risingFrom lo l = true := by
  cases l with
  | nil => rfl
  | cons u r =>
    simp only [risingFrom, Bool.and_eq_true, decide_eq_true_eq] at w ⊢
    exact ⟨by omega, w.2⟩

theorem Units.rising_add (l : List Nat) (lo u : Nat) (h : lo ≤ u) (w : risingFrom lo l = true) :
    risingFrom lo (Units.add l u) = true := by
  induction l generalizing lo with
  | nil => simp [Units.add, risingFrom, h]
  | cons v r ih =>
    have w0 := w
    simp only [risingFrom, Bool.and_eq_true, decide_eq_true_eq] at w
    unfold Units.add
    split
    · exact w0
    · split
      · simp only [risingFrom, Bool.and_eq_true, decide_eq_true_eq]
        exact ⟨h, by omega, w.2⟩
      · simp only [risingFrom, Bool.and_eq_true, decide_eq_true_eq]
        exact ⟨w.1, ih _ (by omega) w.2⟩

theorem Units.rising_del (l : List Nat) (lo u : Nat) (w : risingFrom lo l = true) :
    risingFrom lo (Units.del l u) = true := by
  induction l generalizing lo with
  | nil => rfl
  | cons v r ih =>
    simp only [risingFrom, Bool.and_eq_true, decide_eq_true_eq] at w
    unfold Units.del
    split
    · exact risingFrom_mono _ _ _ (by omega) (ih _ w.2)
    · simp only [risingFrom, Bool.and_eq_true, decide_eq_true_eq]
      exact ⟨w.1, ih _ w.2⟩

theorem Units.rising_put (l : List Nat) (u : Nat) (b : Bool) (w : risingFrom 0 l = true) :
    risingFrom 0 (Units.put l u b) = true := by
  unfold Units.put
  split
  · exact Units.rising_add _ _ _ (Nat.zero_le _) w
  · exact Units.rising_del _ _ _ w

theorem risingFrom_filter (p : Nat → Bool) (l : List Nat) (lo : Nat) (w : risingFrom lo l = true) :
    risingFrom lo (l.filter p) = true := by
  induction l generalizing lo with
  | nil => rfl
  | cons v r ih =>
    simp only [risingFrom, Bool.and_eq_true, decide_eq_true_eq] at w
    rw [List.filter_cons]
    split
    · simp only [risingFrom, Bool.and_eq_true, decide_eq_true_eq]
      exact ⟨w.1, ih _ w.2⟩
    · exact risingFrom_mono _ _ _ (by omega) (ih _ w.2)

theorem Memory.wfFrom_filter (p : Host.Cell → Bool) (m : List Host.Cell) (lo : Nat) (w : Memory.wfFrom lo m = true) :
    Memory.wfFrom lo (m.filter p) = true := by
  induction m generalizing lo with
  | nil => rfl
  | cons e r ih =>
    obtain ⟨a, v⟩ := e
    simp only [Memory.wfFrom, Bool.and_eq_true, decide_eq_true_eq] at w
    rw [List.filter_cons]
    split
    · simp only [Memory.wfFrom, Bool.and_eq_true, decide_eq_true_eq]
      exact ⟨w.1, ih _ w.2⟩
    · exact Memory.wfFrom_mono _ _ _ (by omega) (ih _ w.2)

theorem Store.wf_iff (m : Store) :
    Store.wf m = true ↔ Memory.wf m.mem = true ∧ risingFrom 0 m.blots = true ∧ risingFrom 0 m.fills = true := by
  simp [Store.wf, and_assoc]

theorem foldl_keeps {α β : Type} (P : α → Prop) (l : List β) (g : α → β → α) (a : α) (h : ∀ x y, P x → P (g x y)) (w : P a) :
    P (l.foldl g a) := by
  induction l generalizing a with
  | nil => exact w
  | cons b r ih => exact ih _ (h _ _ w)

theorem Store.wf_writeUnit (m : Store) (a : Nat) (bs : List Byte) (b : Bool) (w : Store.wf m = true) :
    Store.wf (m.writeUnit a bs b) = true := by
  rw [Store.wf_iff] at w ⊢
  exact ⟨Memory.wf_writeBytes _ _ _ w.1, Units.rising_put _ _ _ w.2.1, w.2.2⟩

theorem Store.wf_writeRun (f : Nat) (m : Store) (a : Nat) (bs : List Byte) (b : Bool) (w : Store.wf m = true) :
    Store.wf (Store.writeRun f m a bs b) = true := by
  induction f generalizing m a bs with
  | zero => exact w
  | succ f ih =>
    unfold Store.writeRun
    split
    · exact w
    · exact ih _ _ _ (Store.wf_writeUnit _ _ _ _ w)

/-- A write of bytes keeps the canonical form of the storage. -/
theorem Store.wf_write (m : Store) (a : Nat) (bs : List Byte) (b : Bool) (w : Store.wf m = true) :
    Store.wf (m.write a bs b) = true := Store.wf_writeRun _ _ _ _ _ w

/-- Blotting a unit keeps the canonical form. -/
theorem Store.wf_blotUnit (m : Store) (a : Nat) (w : Store.wf m = true) : Store.wf (m.blotUnit a) = true := by
  rw [Store.wf_iff] at w ⊢
  exact ⟨w.1, Units.rising_add _ _ _ (Nat.zero_le _) w.2.1, w.2.2⟩

/-- Clearing a range keeps the canonical form. -/
theorem Store.wf_zeroRange (m : Store) (a n : Nat) (w : Store.wf m = true) : Store.wf (m.zeroRange a n) = true := by
  rw [Store.wf_iff] at w ⊢
  exact ⟨Memory.wfFrom_filter _ _ _ w.1, risingFrom_filter _ _ _ w.2.1, risingFrom_filter _ _ _ w.2.2⟩

/-- Copying a range keeps the canonical form. -/
theorem Store.wf_copyRange (m : Store) (src dst n : Nat) (w : Store.wf m = true) :
    Store.wf (m.copyRange src dst n) = true := by
  have z := Store.wf_zeroRange m dst n w
  rw [Store.wf_iff] at z ⊢
  refine ⟨?_, ?_, ?_⟩
  · refine foldl_keeps (fun r => Memory.wf r = true) _ _ _ (fun x y hx => ?_) z.1
    split
    · exact Memory.wf_write _ _ _ hx
    · exact hx
  · refine foldl_keeps (fun r => risingFrom 0 r = true) _ _ _ (fun x y hx => ?_) z.2.1
    split
    · exact Units.rising_add _ _ _ (Nat.zero_le _) hx
    · exact hx
  · refine foldl_keeps (fun r => risingFrom 0 r = true) _ _ _ (fun x y hx => ?_) z.2.2
    split
    · exact Units.rising_add _ _ _ (Nat.zero_le _) hx
    · exact hx

/-- Reset's memory has the canonical form. -/
theorem Store.wf_reset : Store.wf State.reset.store = true := rfl

/-- Membership after a unit number is put in. -/
theorem Units.has_add (l : List Nat) (u v : Nat) : Units.has (Units.add l u) v = (decide (u = v) || Units.has l v) := by
  induction l with
  | nil => by_cases h : u = v <;> simp [Units.add, Units.has, h]
  | cons w r ih =>
    unfold Units.add
    by_cases h1 : w = u
    · subst h1; by_cases h : w = v <;> simp [Units.has, h]
    · rw [if_neg h1]
      by_cases h2 : u < w
      · rw [if_pos h2]; by_cases h : u = v <;> simp [Units.has, h]
      · rw [if_neg h2]
        by_cases h : w = v
        · simp [Units.has, h]
        · simp [Units.has, h, ih]

/-- Membership after a unit number is taken out. -/
theorem Units.has_del (l : List Nat) (u v : Nat) : Units.has (Units.del l u) v = (!decide (u = v) && Units.has l v) := by
  induction l with
  | nil => simp [Units.del, Units.has]
  | cons w r ih =>
    unfold Units.del
    by_cases h1 : w = u
    · subst h1; rw [if_pos rfl, ih]; by_cases h : w = v <;> simp [Units.has, h]
    · rw [if_neg h1]
      by_cases h : w = v
      · subst h; simp [Units.has, Ne.symm h1]
      · simp [Units.has, h, ih]

/-- Membership after a unit number is set or cleared. -/
theorem Units.has_put (l : List Nat) (u v : Nat) (b : Bool) :
    Units.has (Units.put l u b) v = if u = v then b else Units.has l v := by
  cases b <;> by_cases h : u = v <;> simp [Units.put, Units.has_add, Units.has_del, h]

end Sys2Proof.Machine
end

