-- ==== Sys2Proof/Laws/Rings.lean ====
section
/-!
SUPPORT. For each function of Machine/Rings.lean that answers a state: the fields it leaves as they were.
-/
namespace Sys2Proof.Machine
@[simp] theorem State.ringSend_frame (s : State) (r : Nat) (d : RingDesc) (base i n : Nat) :
    OnlyCoresClustersPartsCtxsStoreBulkHostQuillFabricModuleOut (State.ringSend s r d base i n) s := by
  unfold State.ringSend
  repeat' split
  all_goals simp [*]

@[simp] theorem State.ringSendAll_frame (s : State) (r : Nat) (d : RingDesc) (base n : Nat) :
    OnlyCoresClustersPartsCtxsStoreBulkHostQuillFabricModuleOut (State.ringSendAll s r d base n) s := by
  unfold State.ringSendAll
  repeat' split
  all_goals simp [*]

@[simp] theorem State.ringRun_frame (s : State) (r : Nat) (d : RingDesc) (base : Nat) :
    OnlyCoresClustersPartsCtxsStoreBulkHostQuillFabricModuleOut (State.ringRun s r d base) s := by
  unfold State.ringRun
  repeat' split
  all_goals simp [*]

@[simp] theorem effFbRingEnable_frame (r : BitVec 6) (val : Word) (s : State) :
    OnlyFabric (effFbRingEnable r val s) s := by
  unfold effFbRingEnable
  repeat' split
  all_goals simp [*]

@[simp] theorem effSetRoute_frame (h : Hdr) (dest : Half) (entry : Word) (s : State) :
    OnlyHostFabricOut (effSetRoute h dest entry s) s := by
  unfold effSetRoute
  repeat' split
  all_goals simp [*]

@[simp] theorem effOpenWindow_frame (h : Hdr) (desc : List Byte) (s : State) :
    OnlyHostFabricOut (effOpenWindow h desc s) s := by
  unfold effOpenWindow OnlyHostFabricOut
  try dsimp only
  and_intros
  all_goals
    repeat' first
      | (with_reducible rfl)
      | split
      | (simp (disch := ((try intros); (try subst_vars); (repeat' split) <;> try simp)); done)
      | (apply foldl_pending <;> (intros; try subst_vars; try dsimp only)) | (apply foldl_cores <;> (intros; try subst_vars; try dsimp only)) | (apply foldl_clusters <;> (intros; try subst_vars; try dsimp only)) | (apply foldl_parts <;> (intros; try subst_vars; try dsimp only)) | (apply foldl_ctxs <;> (intros; try subst_vars; try dsimp only)) | (apply foldl_store <;> (intros; try subst_vars; try dsimp only)) | (apply foldl_bulk <;> (intros; try subst_vars; try dsimp only)) | (apply foldl_dev <;> (intros; try subst_vars; try dsimp only)) | (apply foldl_quill <;> (intros; try subst_vars; try dsimp only)) | (apply foldl_module_ <;> (intros; try subst_vars; try dsimp only)) | (apply foldl_net <;> (intros; try subst_vars; try dsimp only)) | (apply foldl_time <;> (intros; try subst_vars; try dsimp only)) | (apply foldl_free <;> (intros; try subst_vars; try dsimp only)) | (apply State.hostCmd_pending <;> (intros; try subst_vars; try dsimp only)) | (apply State.hostCmd_cores <;> (intros; try subst_vars; try dsimp only)) | (apply State.hostCmd_clusters <;> (intros; try subst_vars; try dsimp only)) | (apply State.hostCmd_parts <;> (intros; try subst_vars; try dsimp only)) | (apply State.hostCmd_ctxs <;> (intros; try subst_vars; try dsimp only)) | (apply State.hostCmd_store <;> (intros; try subst_vars; try dsimp only)) | (apply State.hostCmd_bulk <;> (intros; try subst_vars; try dsimp only)) | (apply State.hostCmd_dev <;> (intros; try subst_vars; try dsimp only)) | (apply State.hostCmd_quill <;> (intros; try subst_vars; try dsimp only)) | (apply State.hostCmd_module_ <;> (intros; try subst_vars; try dsimp only)) | (apply State.hostCmd_net <;> (intros; try subst_vars; try dsimp only)) | (apply State.hostCmd_time <;> (intros; try subst_vars; try dsimp only)) | (apply State.hostCmd_free <;> (intros; try subst_vars; try dsimp only))
      | simp

@[simp] theorem effCloseWindow_frame (h : Hdr) (w : Byte) (s : State) :
    OnlyHostFabricOut (effCloseWindow h w s) s := by
  unfold effCloseWindow
  repeat' split
  all_goals simp [*]

end Sys2Proof.Machine
end

