-- ==== Sys2Proof/Laws/RegisterCmds.lean ====
section
/-!
SUPPORT. For each function of Machine/RegisterCmds.lean that answers a state: the fields it leaves as they were.
-/
namespace Sys2Proof.Machine
@[simp] theorem State.answerRead_frame (s : State) (w : Word) :
    OnlyOut (State.answerRead s w) s := by
  unfold State.answerRead
  repeat' split
  all_goals simp [*]

@[simp] theorem effNwStrokeLoRead_frame (p : Fin 4) (s : State) :
    OnlyPartsOut (effNwStrokeLoRead p s) s := by
  unfold effNwStrokeLoRead
  repeat' split
  all_goals simp [*]

@[simp] theorem effQlTdcLoRead_frame (c : Fin 16) (s : State) :
    OnlyCtxsOut (effQlTdcLoRead c s) s := by
  unfold effQlTdcLoRead
  repeat' split
  all_goals simp [*]

@[simp] theorem effCkTimeLoRead_frame (s : State) :
    OnlyModuleOut (effCkTimeLoRead s) s := by
  unfold effCkTimeLoRead
  repeat' split
  all_goals simp [*]

@[simp] theorem effEmEnergyLoRead_frame (s : State) :
    OnlyModuleOut (effEmEnergyLoRead s) s := by
  unfold effEmEnergyLoRead
  repeat' split
  all_goals simp [*]

@[simp] theorem effEmTimeLoRead_frame (s : State) :
    OnlyModuleOut (effEmTimeLoRead s) s := by
  unfold effEmTimeLoRead
  repeat' split
  all_goals simp [*]

@[simp] theorem effEmLogIndexWrite_frame (val : Word) (s : State) :
    OnlyModule (effEmLogIndexWrite val s) s := by
  unfold effEmLogIndexWrite
  repeat' split
  all_goals simp [*]

@[simp] theorem State.writePair_frame (s : State) (fn : Fin 6) (n r : Nat) (v : Word) :
    OnlyHost (State.writePair s fn n r v) s := by
  unfold State.writePair
  repeat' split
  all_goals simp [*]

@[simp] theorem State.modEvRing_frame (s : State) (f : Nat) (g : Ring → Ring) :
    OnlyHost (State.modEvRing s f g) s := by
  unfold State.modEvRing
  repeat' split
  all_goals simp [*]

@[simp] theorem State.writeFnReg_frame (s : State) (fn : Fin 6) (o : Nat) (v : Word) :
    OnlyHostOut (State.writeFnReg s fn o v) s := by
  unfold State.writeFnReg
  repeat' split
  all_goals simp [*]

@[simp] theorem State.writeHost_frame (s : State) (fn : Fin 6) (o : Nat) (v : Word) :
    OnlyHostOut (State.writeHost s fn o v) s := by
  unfold State.writeHost
  repeat' split
  all_goals simp [*]

@[simp] theorem State.writeCore_frame (s : State) (n o : Nat) (v : Word) :
    OnlyCores (State.writeCore s n o v) s := by
  unfold State.writeCore
  repeat' split
  all_goals simp [*]

@[simp] theorem State.writeInk_frame (s : State) (k o : Nat) (v : Word) :
    OnlyClusters (State.writeInk s k o v) s := by
  unfold State.writeInk
  repeat' split
  all_goals simp [*]

@[simp] theorem State.writeFabDev_frame (s : State) (o : Nat) (v : Word) :
    OnlyCtxsHostDevQuillFabricModuleOut (State.writeFabDev s o v) s := by
  unfold State.writeFabDev
  repeat' split
  all_goals simp [*]

@[simp] theorem State.writeRing_frame (s : State) (r o : Nat) (v : Word) :
    OnlyFabric (State.writeRing s r o v) s := by
  unfold State.writeRing
  repeat' split
  all_goals simp [*]

@[simp] theorem State.writeFab_frame (s : State) (o : Nat) (v sets : Word) :
    OnlyCtxsHostDevQuillFabricModuleOut (State.writeFab s o v sets) s := by
  unfold State.writeFab
  repeat' split
  all_goals simp [*]

@[simp] theorem State.writePort_frame (s : State) (f : Fin 16) (o : Nat) (v : Word) :
    OnlyHostQuillFabricModuleOut (State.writePort s f o v) s := by
  unfold State.writePort
  repeat' split
  all_goals simp [*]

@[simp] theorem State.writeCtl_frame (s : State) (o : Nat) (v : Word) :
    OnlyCtxs (State.writeCtl s o v) s := by
  unfold State.writeCtl
  repeat' split
  all_goals simp [*]

@[simp] theorem State.writeBlock_frame (s : State) (x : Nat) (v sets : Word) :
    OnlyClustersCtxsBulkHostDevQuillFabricModuleOut (State.writeBlock s x v sets) s := by
  unfold State.writeBlock
  repeat' split
  all_goals simp [*]

@[simp] theorem State.writeReg_frame (s : State) (fn : Fin 6) (x : Nat) (v sets : Word) :
    OnlyCoresClustersCtxsBulkHostDevQuillFabricModuleOut (State.writeReg s fn x v sets) s := by
  unfold State.writeReg
  repeat' split
  all_goals simp [*]

@[simp] theorem State.writeRecovery_frame (s : State) (v : Word) :
    OnlyCoresClustersPartsCtxsStoreBulkHostQuillFabricModuleNetOutFree (State.writeRecovery s v) s := by
  unfold State.writeRecovery
  repeat' split
  all_goals simp [*]

@[simp] theorem State.writeBar4_frame (s : State) (fn : Fin 6) (x : Nat) (v : Word) :
    OnlyCoresClustersPartsCtxsStoreBulkHostQuillFabricModuleNetOutFree (State.writeBar4 s fn x v) s := by
  unfold State.writeBar4
  repeat' split
  all_goals simp [*]

@[simp] theorem effRegisterWrite_frame (fn : Fin 6) (bar4 : Bool) (off : BitVec 25) (val sets : Word) (s : State) :
    OnlyCoresClustersPartsCtxsStoreBulkHostDevQuillFabricModuleNetOutFree (effRegisterWrite fn bar4 off val sets s) s := by
  unfold effRegisterWrite
  repeat' split
  all_goals simp [*]

@[simp] theorem effDebugDump_frame (h : Hdr) (r : Reply) (what cluster : Byte) (find : List (DWord × Ecc)) (split : List DWord) (s : State) :
    OnlyCoresClustersStoreBulkHostQuillModuleOut (effDebugDump h r what cluster find split s) s := by
  unfold effDebugDump
  repeat' split
  all_goals simp [*]

end Sys2Proof.Machine
end

