-- ==== Sys2Proof/Laws/Resets.lean ====
section
/-!
SUPPORT. What the resets and the loss of input power keep: the queue of waiting commands, and the grade.
-/
namespace Sys2Proof.Machine

@[simp] theorem State.powerless_pending (s : State) : s.powerless.pending = s.pending := rfl
@[simp] theorem State.deviceReset_pending (s : State) : s.deviceReset.pending = s.pending := rfl
@[simp] theorem State.powerless_grade (s : State) : s.powerless.dev.gradeL = s.dev.gradeL := rfl
@[simp] theorem State.deviceReset_grade (s : State) : s.deviceReset.dev.gradeL = s.dev.gradeL := rfl
@[simp] theorem State.powerless_mode (s : State) : s.powerless.dev.mode = 2 := rfl
@[simp] theorem State.deviceReset_mode (s : State) : s.deviceReset.dev.mode = s.dev.mode := rfl
@[simp] theorem State.powerless_fbId (s : State) : s.powerless.dev.fbId = 0xFFFF := rfl
@[simp] theorem State.deviceReset_fbId (s : State) : s.deviceReset.dev.fbId = 0xFFFF := rfl

@[simp] theorem State.devFault_pending (s : State) (c : Nat) : (s.devFault c).pending = s.pending := by
  simp [State.devFault]

@[simp] theorem State.trip_pending (s : State) : s.trip.pending = s.pending := by
  simp [State.trip]

@[simp] theorem State.outputOff_pending (s : State) (c : Nat) : (s.outputOff c).pending = s.pending := by
  simp [State.outputOff]

@[simp] theorem effInputRise_pending (mv : BitVec 17) (s : State) : (effInputRise mv s).pending = s.pending := by
  simp [effInputRise]

@[simp] theorem effInputUndervoltageOff_pending (mv : BitVec 17) (s : State) :
    (effInputUndervoltageOff mv s).pending = s.pending := by
  simp [effInputUndervoltageOff]

@[simp] theorem effInputOvervoltageOff_pending (mv : BitVec 17) (s : State) :
    (effInputOvervoltageOff mv s).pending = s.pending := by
  simp [effInputOvervoltageOff]

@[simp] theorem effOvercurrentLatch_pending (ma : BitVec 17) (s : State) : (effOvercurrentLatch ma s).pending = s.pending := by
  simp [effOvercurrentLatch]

@[simp] theorem effThermalSample_pending (x : ThermSensor) (v : BitVec 16) (s : State) :
    (effThermalSample x v s).pending = s.pending := by
  simp [effThermalSample]

@[simp] theorem effFwCommitReset_pending (s : State) : (effFwCommitReset s).pending = s.pending := by
  simp [effFwCommitReset]

@[simp] theorem effRecoveryTimeout_pending (s : State) : (effRecoveryTimeout s).pending = s.pending := by
  simp [effRecoveryTimeout]

@[simp] theorem effHeartbeatMiss_pending (s : State) : (effHeartbeatMiss s).pending = s.pending := by
  unfold effHeartbeatMiss
  cases s.module_.ident.committing <;> simp

end Sys2Proof.Machine
end

