-- ==== Sys2Proof/Laws/Scalar.lean ====
section
/-!
SUPPORT. For each function of Machine/Scalar.lean that answers a state: the fields it leaves as they were.
-/
namespace Sys2Proof.Machine
@[simp] theorem effIllegal_frame (a : Issue) (s : State) :
    OnlyCoresClustersPartsCtxsStoreHostQuillFabricModuleNetOut (effIllegal a s) s := by
  unfold effIllegal
  repeat' split
  all_goals simp [*]

@[simp] theorem scalarOp_frame (a : Issue) (rd : BitVec 6) (srcs : List (BitVec 6)) (lat : Nat) (errs : List CoreError) (f : CoreRegs → Word) (s : State) :
    OnlyCoresClustersPartsCtxsStoreHostQuillFabricModuleNetOut (scalarOp a rd srcs lat errs f s) s := by
  unfold scalarOp
  repeat' split
  all_goals simp [*]

@[simp] theorem effAlu_frame (a : Issue) (rd rs1 rs2 : BitVec 6) (fn : Byte) (s : State) :
    OnlyCoresClustersPartsCtxsStoreHostQuillFabricModuleNetOut (effAlu a rd rs1 rs2 fn s) s := by
  unfold effAlu
  repeat' split
  all_goals simp [*]

@[simp] theorem effAddi_frame (a : Issue) (rd rs1 : BitVec 6) (imm : BitVec 14) (s : State) :
    OnlyCoresClustersPartsCtxsStoreHostQuillFabricModuleNetOut (effAddi a rd rs1 imm s) s := by
  unfold effAddi
  repeat' split
  all_goals simp [*]

@[simp] theorem effAndi_frame (a : Issue) (rd rs1 : BitVec 6) (imm : BitVec 14) (s : State) :
    OnlyCoresClustersPartsCtxsStoreHostQuillFabricModuleNetOut (effAndi a rd rs1 imm s) s := by
  unfold effAndi
  repeat' split
  all_goals simp [*]

@[simp] theorem effOri_frame (a : Issue) (rd rs1 : BitVec 6) (imm : BitVec 14) (s : State) :
    OnlyCoresClustersPartsCtxsStoreHostQuillFabricModuleNetOut (effOri a rd rs1 imm s) s := by
  unfold effOri
  repeat' split
  all_goals simp [*]

@[simp] theorem effShi_frame (a : Issue) (rd rs1 : BitVec 6) (imm : BitVec 14) (s : State) :
    OnlyCoresClustersPartsCtxsStoreHostQuillFabricModuleNetOut (effShi a rd rs1 imm s) s := by
  unfold effShi
  repeat' split
  all_goals simp [*]

@[simp] theorem effLui_frame (a : Issue) (rd : BitVec 6) (imm : BitVec 20) (s : State) :
    OnlyCoresClustersPartsCtxsStoreHostQuillFabricModuleNetOut (effLui a rd imm s) s := by
  unfold effLui
  repeat' split
  all_goals simp [*]

@[simp] theorem State.fixCycle_frame (s : State) (n t x : Nat) :
    OnlyCoresFree (State.fixCycle s n t x) s := by
  unfold State.fixCycle
  repeat' split
  all_goals simp [*]

@[simp] theorem effRdsys_frame (a : Issue) (rd : BitVec 6) (imm : BitVec 14) (s : State) :
    OnlyCoresClustersPartsCtxsStoreHostQuillFabricModuleNetOutFree (effRdsys a rd imm s) s := by
  unfold effRdsys
  repeat' split
  all_goals simp [*]

@[simp] theorem effLdw_frame (a : Issue) (rd rs1 : BitVec 6) (imm : BitVec 14) (ls : Ecc) (s : State) :
    OnlyCoresClustersPartsCtxsStoreHostQuillFabricModuleNetOut (effLdw a rd rs1 imm ls s) s := by
  unfold effLdw
  repeat' split
  all_goals simp [*]

@[simp] theorem effStw_frame (a : Issue) (rd rs1 : BitVec 6) (imm : BitVec 14) (s : State) :
    OnlyCoresClustersPartsCtxsStoreHostQuillFabricModuleNetOut (effStw a rd rs1 imm s) s := by
  unfold effStw
  repeat' split
  all_goals simp [*]

@[simp] theorem branchOp_frame (a : Issue) (rs1 rs2 : BitVec 6) (target : BitVec 12) (cond : Word → Word → Bool) (s : State) :
    OnlyCoresClustersPartsCtxsStoreHostQuillFabricModuleNetOut (branchOp a rs1 rs2 target cond s) s := by
  unfold branchOp
  repeat' split
  all_goals simp [*]

@[simp] theorem effBeq_frame (a : Issue) (rs1 rs2 : BitVec 6) (target : BitVec 12) (s : State) :
    OnlyCoresClustersPartsCtxsStoreHostQuillFabricModuleNetOut (effBeq a rs1 rs2 target s) s := by
  unfold effBeq
  repeat' split
  all_goals simp [*]

@[simp] theorem effBne_frame (a : Issue) (rs1 rs2 : BitVec 6) (target : BitVec 12) (s : State) :
    OnlyCoresClustersPartsCtxsStoreHostQuillFabricModuleNetOut (effBne a rs1 rs2 target s) s := by
  unfold effBne
  repeat' split
  all_goals simp [*]

@[simp] theorem effBlt_frame (a : Issue) (rs1 rs2 : BitVec 6) (target : BitVec 12) (s : State) :
    OnlyCoresClustersPartsCtxsStoreHostQuillFabricModuleNetOut (effBlt a rs1 rs2 target s) s := by
  unfold effBlt
  repeat' split
  all_goals simp [*]

@[simp] theorem effBge_frame (a : Issue) (rs1 rs2 : BitVec 6) (target : BitVec 12) (s : State) :
    OnlyCoresClustersPartsCtxsStoreHostQuillFabricModuleNetOut (effBge a rs1 rs2 target s) s := by
  unfold effBge
  repeat' split
  all_goals simp [*]

@[simp] theorem effJmp_frame (a : Issue) (rs1 : BitVec 6) (target : BitVec 12) (s : State) :
    OnlyCoresClustersPartsCtxsStoreHostQuillFabricModuleNetOut (effJmp a rs1 target s) s := by
  unfold effJmp
  repeat' split
  all_goals simp [*]

@[simp] theorem effJr_frame (a : Issue) (rs2 : BitVec 6) (s : State) :
    OnlyCoresClustersPartsCtxsStoreHostQuillFabricModuleNetOut (effJr a rs2 s) s := by
  unfold effJr
  repeat' split
  all_goals simp [*]

@[simp] theorem effLoop_frame (a : Issue) (rs1 : BitVec 6) (target : BitVec 12) (s : State) :
    OnlyCoresClustersPartsCtxsStoreHostQuillFabricModuleNetOut (effLoop a rs1 target s) s := by
  unfold effLoop
  repeat' split
  all_goals simp [*]

@[simp] theorem State.waitEntry_frame (s : State) (n t fn : Nat) (e : EntryWait) (h : Option HoldReq) :
    OnlyCores (State.waitEntry s n t fn e h) s := by
  unfold State.waitEntry
  repeat' split
  all_goals simp [*]

@[simp] theorem effSectRuledNext_frame (a : Issue) (offset : Byte) (s : State) :
    OnlyCoresClustersPartsCtxsStoreHostQuillFabricModuleNetOut (effSectRuledNext a offset s) s := by
  unfold effSectRuledNext
  repeat' split
  all_goals simp [*]

@[simp] theorem effSectRuledAt_frame (a : Issue) (rb : BitVec 6) (offset : Byte) (s : State) :
    OnlyCoresClustersPartsCtxsStoreHostQuillFabricModuleNetOut (effSectRuledAt a rb offset s) s := by
  unfold effSectRuledAt
  repeat' split
  all_goals simp [*]

@[simp] theorem effSectRuledHold_frame (a : Issue) (ra rb : BitVec 6) (offset : Byte) (s : State) :
    OnlyCoresClustersPartsCtxsStoreHostQuillFabricModuleNetOut (effSectRuledHold a ra rb offset s) s := by
  unfold effSectRuledHold
  repeat' split
  all_goals simp [*]

@[simp] theorem effSectFree_frame (a : Issue) (offset : Byte) (s : State) :
    OnlyCoresClustersPartsCtxsStoreHostQuillFabricModuleNetOut (effSectFree a offset s) s := by
  unfold effSectFree
  repeat' split
  all_goals simp [*]

@[simp] theorem effHalt_frame (a : Issue) (s : State) :
    OnlyCoresClustersPartsCtxsStoreHostQuillFabricModuleNetOut (effHalt a s) s := by
  unfold effHalt
  repeat' split
  all_goals simp [*]

end Sys2Proof.Machine
end

