-- ==== Sys2Proof/Laws/SeqCommands.lean ====
section
/-!
SUPPORT. For each function of Machine/SeqCommands.lean that answers a state: the fields it leaves as they were.
-/
namespace Sys2Proof.Machine
@[simp] theorem State.slotCmd_pending (s : State) (h : Hdr) (op : Nat) (ctx : Bool) (slots : List Byte) (args : List (Nat × Nat × Nat)) (ok : Bool) (body : State → State) (hbody : ∀ x0 y, y = body x0 → y.pending = x0.pending) :
    (State.slotCmd s h op ctx slots args ok body).pending = s.pending := by
  have gbody := fun x0 => hbody x0 _ rfl
  unfold State.slotCmd
  repeat' split
  all_goals simp [*]

@[simp] theorem State.slotCmd_cores (s : State) (h : Hdr) (op : Nat) (ctx : Bool) (slots : List Byte) (args : List (Nat × Nat × Nat)) (ok : Bool) (body : State → State) (hbody : ∀ x0 y, y = body x0 → y.cores = x0.cores) :
    (State.slotCmd s h op ctx slots args ok body).cores = s.cores := by
  have gbody := fun x0 => hbody x0 _ rfl
  unfold State.slotCmd
  repeat' split
  all_goals simp [*]

@[simp] theorem State.slotCmd_clusters (s : State) (h : Hdr) (op : Nat) (ctx : Bool) (slots : List Byte) (args : List (Nat × Nat × Nat)) (ok : Bool) (body : State → State) (hbody : ∀ x0 y, y = body x0 → y.clusters = x0.clusters) :
    (State.slotCmd s h op ctx slots args ok body).clusters = s.clusters := by
  have gbody := fun x0 => hbody x0 _ rfl
  unfold State.slotCmd
  repeat' split
  all_goals simp [*]

@[simp] theorem State.slotCmd_parts (s : State) (h : Hdr) (op : Nat) (ctx : Bool) (slots : List Byte) (args : List (Nat × Nat × Nat)) (ok : Bool) (body : State → State) (hbody : ∀ x0 y, y = body x0 → y.parts = x0.parts) :
    (State.slotCmd s h op ctx slots args ok body).parts = s.parts := by
  have gbody := fun x0 => hbody x0 _ rfl
  unfold State.slotCmd
  repeat' split
  all_goals simp [*]

@[simp] theorem State.slotCmd_ctxs (s : State) (h : Hdr) (op : Nat) (ctx : Bool) (slots : List Byte) (args : List (Nat × Nat × Nat)) (ok : Bool) (body : State → State) (hbody : ∀ x0 y, y = body x0 → y.ctxs = x0.ctxs) :
    (State.slotCmd s h op ctx slots args ok body).ctxs = s.ctxs := by
  have gbody := fun x0 => hbody x0 _ rfl
  unfold State.slotCmd
  repeat' split
  all_goals simp [*]

@[simp] theorem State.slotCmd_store (s : State) (h : Hdr) (op : Nat) (ctx : Bool) (slots : List Byte) (args : List (Nat × Nat × Nat)) (ok : Bool) (body : State → State) (hbody : ∀ x0 y, y = body x0 → y.store = x0.store) :
    (State.slotCmd s h op ctx slots args ok body).store = s.store := by
  have gbody := fun x0 => hbody x0 _ rfl
  unfold State.slotCmd
  repeat' split
  all_goals simp [*]

@[simp] theorem State.slotCmd_bulk (s : State) (h : Hdr) (op : Nat) (ctx : Bool) (slots : List Byte) (args : List (Nat × Nat × Nat)) (ok : Bool) (body : State → State) (hbody : ∀ x0 y, y = body x0 → y.bulk = x0.bulk) :
    (State.slotCmd s h op ctx slots args ok body).bulk = s.bulk := by
  have gbody := fun x0 => hbody x0 _ rfl
  unfold State.slotCmd
  repeat' split
  all_goals simp [*]

@[simp] theorem State.slotCmd_dev (s : State) (h : Hdr) (op : Nat) (ctx : Bool) (slots : List Byte) (args : List (Nat × Nat × Nat)) (ok : Bool) (body : State → State) (hbody : ∀ x0 y, y = body x0 → y.dev = x0.dev) :
    (State.slotCmd s h op ctx slots args ok body).dev = s.dev := by
  have gbody := fun x0 => hbody x0 _ rfl
  unfold State.slotCmd
  repeat' split
  all_goals simp [*]

@[simp] theorem State.slotCmd_quill (s : State) (h : Hdr) (op : Nat) (ctx : Bool) (slots : List Byte) (args : List (Nat × Nat × Nat)) (ok : Bool) (body : State → State) (hbody : ∀ x0 y, y = body x0 → y.quill = x0.quill) :
    (State.slotCmd s h op ctx slots args ok body).quill = s.quill := by
  have gbody := fun x0 => hbody x0 _ rfl
  unfold State.slotCmd
  repeat' split
  all_goals simp [*]

@[simp] theorem State.slotCmd_fabric (s : State) (h : Hdr) (op : Nat) (ctx : Bool) (slots : List Byte) (args : List (Nat × Nat × Nat)) (ok : Bool) (body : State → State) (hbody : ∀ x0 y, y = body x0 → y.fabric = x0.fabric) :
    (State.slotCmd s h op ctx slots args ok body).fabric = s.fabric := by
  have gbody := fun x0 => hbody x0 _ rfl
  unfold State.slotCmd
  repeat' split
  all_goals simp [*]

@[simp] theorem State.slotCmd_module_ (s : State) (h : Hdr) (op : Nat) (ctx : Bool) (slots : List Byte) (args : List (Nat × Nat × Nat)) (ok : Bool) (body : State → State) (hbody : ∀ x0 y, y = body x0 → y.module_ = x0.module_) :
    (State.slotCmd s h op ctx slots args ok body).module_ = s.module_ := by
  have gbody := fun x0 => hbody x0 _ rfl
  unfold State.slotCmd
  repeat' split
  all_goals simp [*]

@[simp] theorem State.slotCmd_net (s : State) (h : Hdr) (op : Nat) (ctx : Bool) (slots : List Byte) (args : List (Nat × Nat × Nat)) (ok : Bool) (body : State → State) (hbody : ∀ x0 y, y = body x0 → y.net = x0.net) :
    (State.slotCmd s h op ctx slots args ok body).net = s.net := by
  have gbody := fun x0 => hbody x0 _ rfl
  unfold State.slotCmd
  repeat' split
  all_goals simp [*]

@[simp] theorem State.slotCmd_time (s : State) (h : Hdr) (op : Nat) (ctx : Bool) (slots : List Byte) (args : List (Nat × Nat × Nat)) (ok : Bool) (body : State → State) (hbody : ∀ x0 y, y = body x0 → y.time = x0.time) :
    (State.slotCmd s h op ctx slots args ok body).time = s.time := by
  have gbody := fun x0 => hbody x0 _ rfl
  unfold State.slotCmd
  repeat' split
  all_goals simp [*]

@[simp] theorem State.slotCmd_free (s : State) (h : Hdr) (op : Nat) (ctx : Bool) (slots : List Byte) (args : List (Nat × Nat × Nat)) (ok : Bool) (body : State → State) (hbody : ∀ x0 y, y = body x0 → y.free = x0.free) :
    (State.slotCmd s h op ctx slots args ok body).free = s.free := by
  have gbody := fun x0 => hbody x0 _ rfl
  unfold State.slotCmd
  repeat' split
  all_goals simp [*]

@[simp] theorem State.slotReply_frame (s : State) (h : Hdr) (op n : Nat) :
    OnlyHostOut (State.slotReply s h op n) s := by
  unfold State.slotReply
  repeat' split
  all_goals simp [*]

@[simp] theorem State.slotEnd_pending (s : State) (h : Hdr) (op n : Nat) (res : SlotRefusal ⊕ State) (hres : ∀ t, res = .inr t → t.pending = s.pending) :
    (State.slotEnd s h op n res).pending = s.pending := by
  unfold State.slotEnd
  repeat' split
  all_goals simp [*]

@[simp] theorem State.slotEnd_cores (s : State) (h : Hdr) (op n : Nat) (res : SlotRefusal ⊕ State) (hres : ∀ t, res = .inr t → t.cores = s.cores) :
    (State.slotEnd s h op n res).cores = s.cores := by
  unfold State.slotEnd
  repeat' split
  all_goals simp [*]

@[simp] theorem State.slotEnd_clusters (s : State) (h : Hdr) (op n : Nat) (res : SlotRefusal ⊕ State) (hres : ∀ t, res = .inr t → t.clusters = s.clusters) :
    (State.slotEnd s h op n res).clusters = s.clusters := by
  unfold State.slotEnd
  repeat' split
  all_goals simp [*]

@[simp] theorem State.slotEnd_parts (s : State) (h : Hdr) (op n : Nat) (res : SlotRefusal ⊕ State) (hres : ∀ t, res = .inr t → t.parts = s.parts) :
    (State.slotEnd s h op n res).parts = s.parts := by
  unfold State.slotEnd
  repeat' split
  all_goals simp [*]

@[simp] theorem State.slotEnd_ctxs (s : State) (h : Hdr) (op n : Nat) (res : SlotRefusal ⊕ State) (hres : ∀ t, res = .inr t → t.ctxs = s.ctxs) :
    (State.slotEnd s h op n res).ctxs = s.ctxs := by
  unfold State.slotEnd
  repeat' split
  all_goals simp [*]

@[simp] theorem State.slotEnd_store (s : State) (h : Hdr) (op n : Nat) (res : SlotRefusal ⊕ State) (hres : ∀ t, res = .inr t → t.store = s.store) :
    (State.slotEnd s h op n res).store = s.store := by
  unfold State.slotEnd
  repeat' split
  all_goals simp [*]

@[simp] theorem State.slotEnd_bulk (s : State) (h : Hdr) (op n : Nat) (res : SlotRefusal ⊕ State) (hres : ∀ t, res = .inr t → t.bulk = s.bulk) :
    (State.slotEnd s h op n res).bulk = s.bulk := by
  unfold State.slotEnd
  repeat' split
  all_goals simp [*]

@[simp] theorem State.slotEnd_dev (s : State) (h : Hdr) (op n : Nat) (res : SlotRefusal ⊕ State) (hres : ∀ t, res = .inr t → t.dev = s.dev) :
    (State.slotEnd s h op n res).dev = s.dev := by
  unfold State.slotEnd
  repeat' split
  all_goals simp [*]

@[simp] theorem State.slotEnd_quill (s : State) (h : Hdr) (op n : Nat) (res : SlotRefusal ⊕ State) (hres : ∀ t, res = .inr t → t.quill = s.quill) :
    (State.slotEnd s h op n res).quill = s.quill := by
  unfold State.slotEnd
  repeat' split
  all_goals simp [*]

@[simp] theorem State.slotEnd_fabric (s : State) (h : Hdr) (op n : Nat) (res : SlotRefusal ⊕ State) (hres : ∀ t, res = .inr t → t.fabric = s.fabric) :
    (State.slotEnd s h op n res).fabric = s.fabric := by
  unfold State.slotEnd
  repeat' split
  all_goals simp [*]

@[simp] theorem State.slotEnd_module_ (s : State) (h : Hdr) (op n : Nat) (res : SlotRefusal ⊕ State) (hres : ∀ t, res = .inr t → t.module_ = s.module_) :
    (State.slotEnd s h op n res).module_ = s.module_ := by
  unfold State.slotEnd
  repeat' split
  all_goals simp [*]

@[simp] theorem State.slotEnd_net (s : State) (h : Hdr) (op n : Nat) (res : SlotRefusal ⊕ State) (hres : ∀ t, res = .inr t → t.net = s.net) :
    (State.slotEnd s h op n res).net = s.net := by
  unfold State.slotEnd
  repeat' split
  all_goals simp [*]

@[simp] theorem State.slotEnd_time (s : State) (h : Hdr) (op n : Nat) (res : SlotRefusal ⊕ State) (hres : ∀ t, res = .inr t → t.time = s.time) :
    (State.slotEnd s h op n res).time = s.time := by
  unfold State.slotEnd
  repeat' split
  all_goals simp [*]

@[simp] theorem State.slotEnd_free (s : State) (h : Hdr) (op n : Nat) (res : SlotRefusal ⊕ State) (hres : ∀ t, res = .inr t → t.free = s.free) :
    (State.slotEnd s h op n res).free = s.free := by
  unfold State.slotEnd
  repeat' split
  all_goals simp [*]

@[simp] theorem effSeqOpen_frame (h : Hdr) (slot log2 tier : Byte) (base pages : Half) (s : State) :
    OnlyStoreBulkHostOut (effSeqOpen h slot log2 tier base pages s) s := by
  unfold effSeqOpen
  repeat' split
  all_goals simp [*]

@[simp] theorem effSeqFork_frame (h : Hdr) (parent child : Byte) (pos : Word) (tbl : List (BitVec 22 × Ecc)) (lines : List LineFind) (s : State) :
    OnlyStoreBulkHostQuillModuleOut (effSeqFork h parent child pos tbl lines s) s := by
  unfold effSeqFork OnlyStoreBulkHostQuillModuleOut
  and_intros
  · exact State.slotCmd_pending (hbody := fun t y hy => hy ▸ (State.slotEnd_pending (hres := fun u h => by simp [State.forkSlot_frame h]) ..).trans (by simp)) ..
  · exact State.slotCmd_cores (hbody := fun t y hy => hy ▸ (State.slotEnd_cores (hres := fun u h => by simp [State.forkSlot_frame h]) ..).trans (by simp)) ..
  · exact State.slotCmd_clusters (hbody := fun t y hy => hy ▸ (State.slotEnd_clusters (hres := fun u h => by simp [State.forkSlot_frame h]) ..).trans (by simp)) ..
  · exact State.slotCmd_parts (hbody := fun t y hy => hy ▸ (State.slotEnd_parts (hres := fun u h => by simp [State.forkSlot_frame h]) ..).trans (by simp)) ..
  · exact State.slotCmd_ctxs (hbody := fun t y hy => hy ▸ (State.slotEnd_ctxs (hres := fun u h => by simp [State.forkSlot_frame h]) ..).trans (by simp)) ..
  · exact State.slotCmd_dev (hbody := fun t y hy => hy ▸ (State.slotEnd_dev (hres := fun u h => by simp [State.forkSlot_frame h]) ..).trans (by simp)) ..
  · exact State.slotCmd_fabric (hbody := fun t y hy => hy ▸ (State.slotEnd_fabric (hres := fun u h => by simp [State.forkSlot_frame h]) ..).trans (by simp)) ..
  · exact State.slotCmd_net (hbody := fun t y hy => hy ▸ (State.slotEnd_net (hres := fun u h => by simp [State.forkSlot_frame h]) ..).trans (by simp)) ..
  · exact State.slotCmd_time (hbody := fun t y hy => hy ▸ (State.slotEnd_time (hres := fun u h => by simp [State.forkSlot_frame h]) ..).trans (by simp)) ..
  · exact State.slotCmd_free (hbody := fun t y hy => hy ▸ (State.slotEnd_free (hres := fun u h => by simp [State.forkSlot_frame h]) ..).trans (by simp)) ..

@[simp] theorem effSeqRewind_frame (h : Hdr) (slot : Byte) (pos : Word) (tbl : List (BitVec 22 × Ecc)) (lines : List LineFind) (s : State) :
    OnlyStoreBulkHostQuillModuleOut (effSeqRewind h slot pos tbl lines s) s := by
  unfold effSeqRewind OnlyStoreBulkHostQuillModuleOut
  and_intros
  · exact State.slotCmd_pending (hbody := fun t y hy => hy ▸ (State.slotEnd_pending (hres := fun u h => by simp [State.rewindSlot_frame h]) ..).trans (by simp)) ..
  · exact State.slotCmd_cores (hbody := fun t y hy => hy ▸ (State.slotEnd_cores (hres := fun u h => by simp [State.rewindSlot_frame h]) ..).trans (by simp)) ..
  · exact State.slotCmd_clusters (hbody := fun t y hy => hy ▸ (State.slotEnd_clusters (hres := fun u h => by simp [State.rewindSlot_frame h]) ..).trans (by simp)) ..
  · exact State.slotCmd_parts (hbody := fun t y hy => hy ▸ (State.slotEnd_parts (hres := fun u h => by simp [State.rewindSlot_frame h]) ..).trans (by simp)) ..
  · exact State.slotCmd_ctxs (hbody := fun t y hy => hy ▸ (State.slotEnd_ctxs (hres := fun u h => by simp [State.rewindSlot_frame h]) ..).trans (by simp)) ..
  · exact State.slotCmd_dev (hbody := fun t y hy => hy ▸ (State.slotEnd_dev (hres := fun u h => by simp [State.rewindSlot_frame h]) ..).trans (by simp)) ..
  · exact State.slotCmd_fabric (hbody := fun t y hy => hy ▸ (State.slotEnd_fabric (hres := fun u h => by simp [State.rewindSlot_frame h]) ..).trans (by simp)) ..
  · exact State.slotCmd_net (hbody := fun t y hy => hy ▸ (State.slotEnd_net (hres := fun u h => by simp [State.rewindSlot_frame h]) ..).trans (by simp)) ..
  · exact State.slotCmd_time (hbody := fun t y hy => hy ▸ (State.slotEnd_time (hres := fun u h => by simp [State.rewindSlot_frame h]) ..).trans (by simp)) ..
  · exact State.slotCmd_free (hbody := fun t y hy => hy ▸ (State.slotEnd_free (hres := fun u h => by simp [State.rewindSlot_frame h]) ..).trans (by simp)) ..

@[simp] theorem effSeqAccept_frame (h : Hdr) (parent child : Byte) (tbl ctbl : List (BitVec 22 × Ecc)) (lines : List LineFind) (s : State) :
    OnlyStoreBulkHostQuillModuleOut (effSeqAccept h parent child tbl ctbl lines s) s := by
  unfold effSeqAccept OnlyStoreBulkHostQuillModuleOut
  and_intros
  · exact State.slotCmd_pending (hbody := fun t y hy => hy ▸ (State.slotEnd_pending (hres := fun u h => by simp [State.acceptSlot_frame h]) ..).trans (by simp)) ..
  · exact State.slotCmd_cores (hbody := fun t y hy => hy ▸ (State.slotEnd_cores (hres := fun u h => by simp [State.acceptSlot_frame h]) ..).trans (by simp)) ..
  · exact State.slotCmd_clusters (hbody := fun t y hy => hy ▸ (State.slotEnd_clusters (hres := fun u h => by simp [State.acceptSlot_frame h]) ..).trans (by simp)) ..
  · exact State.slotCmd_parts (hbody := fun t y hy => hy ▸ (State.slotEnd_parts (hres := fun u h => by simp [State.acceptSlot_frame h]) ..).trans (by simp)) ..
  · exact State.slotCmd_ctxs (hbody := fun t y hy => hy ▸ (State.slotEnd_ctxs (hres := fun u h => by simp [State.acceptSlot_frame h]) ..).trans (by simp)) ..
  · exact State.slotCmd_dev (hbody := fun t y hy => hy ▸ (State.slotEnd_dev (hres := fun u h => by simp [State.acceptSlot_frame h]) ..).trans (by simp)) ..
  · exact State.slotCmd_fabric (hbody := fun t y hy => hy ▸ (State.slotEnd_fabric (hres := fun u h => by simp [State.acceptSlot_frame h]) ..).trans (by simp)) ..
  · exact State.slotCmd_net (hbody := fun t y hy => hy ▸ (State.slotEnd_net (hres := fun u h => by simp [State.acceptSlot_frame h]) ..).trans (by simp)) ..
  · exact State.slotCmd_time (hbody := fun t y hy => hy ▸ (State.slotEnd_time (hres := fun u h => by simp [State.acceptSlot_frame h]) ..).trans (by simp)) ..
  · exact State.slotCmd_free (hbody := fun t y hy => hy ▸ (State.slotEnd_free (hres := fun u h => by simp [State.acceptSlot_frame h]) ..).trans (by simp)) ..

@[simp] theorem effSeqClose_frame (h : Hdr) (slot : Byte) (tbl : List (BitVec 22 × Ecc)) (lines : List LineFind) (s : State) :
    OnlyStoreBulkHostQuillModuleOut (effSeqClose h slot tbl lines s) s := by
  unfold effSeqClose
  repeat' split
  all_goals simp [*]

end Sys2Proof.Machine
end

