-- ==== Sys2Proof/Laws/State.lean ====
section
/-!
SUPPORT. What an object of the state is after an update: the object updated is the new one, every other is as it was.
-/
namespace Sys2Proof.Machine

/-- Reading a table after one entry was set. -/
theorem Tbl.get_set {α : Type} (t : Tbl α) (d : α) (i j : Nat) (v : α) :
    Tbl.get (Tbl.set t i v) d j = if j = i then v else Tbl.get t d j := by
  induction t with
  | nil =>
    by_cases h : j = i
    · subst h; simp [Tbl.set, Tbl.get]
    · simp [Tbl.set, Tbl.get, h, Ne.symm h]
  | cons e r ih =>
    obtain ⟨k, x⟩ := e
    unfold Tbl.set
    by_cases hk : k = i
    · subst hk
      by_cases h : j = k
      · subst h; simp [Tbl.get]
      · simp [Tbl.get, h, Ne.symm h]
    · rw [if_neg hk]
      by_cases hl : i < k
      · rw [if_pos hl]
        by_cases h : j = i
        · subst h; simp [Tbl.get]
        · simp [Tbl.get, h, Ne.symm h]
      · rw [if_neg hl]
        unfold Tbl.get
        by_cases hj : k = j
        · subst hj; simp [hk]
        · simp [hj, ih]

@[simp] theorem State.core_setCore (s : State) (n m : Nat) (c : Core) :
    (s.setCore n c).core m = if m = n then c else s.core m := Tbl.get_set ..
@[simp] theorem State.core_modCore (s : State) (n m : Nat) (f : Core → Core) :
    (s.modCore n f).core m = if m = n then f (s.core n) else s.core m := Tbl.get_set ..
@[simp] theorem State.cluster_modCluster (s : State) (k m : Nat) (f : Cluster → Cluster) :
    (s.modCluster k f).cluster m = if m = k then f (s.cluster k) else s.cluster m := Tbl.get_set ..
@[simp] theorem State.part_modPart (s : State) (p m : Nat) (f : Part → Part) :
    (s.modPart p f).part m = if m = p then f (s.part p) else s.part m := Tbl.get_set ..
@[simp] theorem State.ctx_modCtx (s : State) (c m : Nat) (f : Ctx → Ctx) :
    (s.modCtx c f).ctx m = if m = c then f (s.ctx c) else s.ctx m := Tbl.get_set ..
@[simp] theorem State.fn_modFn (s : State) (f m : Nat) (g : Fn → Fn) :
    (s.modFn f g).fn m = if m = f then g (s.fn f) else s.fn m := Tbl.get_set ..
@[simp] theorem State.mcOf_modMc (s : State) (n m : Nat) (f : Mc → Mc) :
    (s.modMc n f).mcOf m = if m = n then f (s.mcOf n) else s.mcOf m := Tbl.get_set ..
@[simp] theorem State.slot_modSlot (s : State) (n m : Nat) (f : Slot → Slot) :
    (s.modSlot n f).slot m = if m = n then f (s.slot n) else s.slot m := Tbl.get_set ..
@[simp] theorem State.port_modPort (s : State) (n m : Nat) (f : Port → Port) :
    (s.modPort n f).port m = if m = n then f (s.port n) else s.port m := Tbl.get_set ..
@[simp] theorem State.window_modWindow (s : State) (n m : Nat) (f : Window → Window) :
    (s.modWindow n f).window m = if m = n then f (s.window n) else s.window m := Tbl.get_set ..
@[simp] theorem State.ring_modRing (s : State) (n m : Nat) (f : RingSt → RingSt) :
    (s.modRing n f).ring m = if m = n then f (s.ring n) else s.ring m := Tbl.get_set ..
@[simp] theorem State.region_modRegion (s : State) (n m : Nat) (f : Region → Region) :
    (s.modRegion n f).region m = if m = n then f (s.region n) else s.region m := Tbl.get_set ..
@[simp] theorem State.qpart_modQPart (s : State) (n m : Nat) (f : QPart → QPart) :
    (s.modQPart n f).qpart m = if m = n then f (s.qpart n) else s.qpart m := Tbl.get_set ..
@[simp] theorem State.care_modCare (s : State) (n m : Nat) (f : CoreCare → CoreCare) :
    (s.modCare n f).care m = if m = n then f (s.care n) else s.care m := Tbl.get_set ..

/-- Scalar register q after a write of register r (R131). -/
@[simp] theorem CoreRegs.s_setS (g : CoreRegs) (r q : Nat) (v : Word) (b : Bool) :
    (g.setS r v b).s q = if q = r ∧ r ≠ 0 then v else g.s q := by
  unfold CoreRegs.setS CoreRegs.s
  by_cases hr : r = 0
  · simp [hr]
  · by_cases hq : q = 0
    · subst hq; simp [hr, Ne.symm hr]
    · simp [hr, hq, Tbl.get_set]

/-- The blot of scalar register q after a write of register r (R131, R138). -/
@[simp] theorem CoreRegs.sb_setS (g : CoreRegs) (r q : Nat) (v : Word) (b : Bool) :
    (g.setS r v b).sb q = if q = r ∧ r ≠ 0 then b else g.sb q := by
  unfold CoreRegs.setS CoreRegs.sb
  by_cases hr : r = 0
  · simp [hr]
  · by_cases hq : q = 0
    · subst hq; simp [hr, Ne.symm hr]
    · simp [hr, hq, Tbl.get_set]

end Sys2Proof.Machine
end

