-- ==== Sys2Proof/Laws/Vector.lean ====
section
/-!
SUPPORT. For each function of Machine/Vector.lean that answers a state: the fields it leaves as they were.
-/
namespace Sys2Proof.Machine
@[simp] theorem State.putV_frame (s : State) (n t lat vd : Nat) (r : VResult) :
    OnlyCores (State.putV s n t lat vd r) s := by
  unfold State.putV
  repeat' split
  all_goals simp [*]

@[simp] theorem State.occupyVe_frame (s : State) (n t : Nat) (u : Unit_) (occ : Nat) :
    OnlyCores (State.occupyVe s n t u occ) s := by
  unfold State.occupyVe
  repeat' split
  all_goals simp [*]

@[simp] theorem State.issueV_pending (s : State) (a : Issue) (vs : List Nat) (u : Unit_) (occ : Nat) (rs : List Nat) (errs : List CoreError) (par : Option (BitVec 5)) (effect : Nat → State → State) (heffect : ∀ x0 x1 y, y = effect x0 x1 → y.pending = x1.pending) :
    (State.issueV s a vs u occ rs errs par effect).pending = s.pending := by
  have geffect := fun x0 x1 => heffect x0 x1 _ rfl
  unfold State.issueV
  repeat' split
  all_goals simp [*]

@[simp] theorem State.issueV_bulk (s : State) (a : Issue) (vs : List Nat) (u : Unit_) (occ : Nat) (rs : List Nat) (errs : List CoreError) (par : Option (BitVec 5)) (effect : Nat → State → State) (heffect : ∀ x0 x1 y, y = effect x0 x1 → y.bulk = x1.bulk) :
    (State.issueV s a vs u occ rs errs par effect).bulk = s.bulk := by
  have geffect := fun x0 x1 => heffect x0 x1 _ rfl
  unfold State.issueV
  repeat' split
  all_goals simp [*]

@[simp] theorem State.issueV_dev (s : State) (a : Issue) (vs : List Nat) (u : Unit_) (occ : Nat) (rs : List Nat) (errs : List CoreError) (par : Option (BitVec 5)) (effect : Nat → State → State) (heffect : ∀ x0 x1 y, y = effect x0 x1 → y.dev = x1.dev) :
    (State.issueV s a vs u occ rs errs par effect).dev = s.dev := by
  have geffect := fun x0 x1 => heffect x0 x1 _ rfl
  unfold State.issueV
  repeat' split
  all_goals simp [*]

@[simp] theorem State.issueV_time (s : State) (a : Issue) (vs : List Nat) (u : Unit_) (occ : Nat) (rs : List Nat) (errs : List CoreError) (par : Option (BitVec 5)) (effect : Nat → State → State) (heffect : ∀ x0 x1 y, y = effect x0 x1 → y.time = x1.time) :
    (State.issueV s a vs u occ rs errs par effect).time = s.time := by
  have geffect := fun x0 x1 => heffect x0 x1 _ rfl
  unfold State.issueV
  repeat' split
  all_goals simp [*]

@[simp] theorem State.issueV_free (s : State) (a : Issue) (vs : List Nat) (u : Unit_) (occ : Nat) (rs : List Nat) (errs : List CoreError) (par : Option (BitVec 5)) (effect : Nat → State → State) (heffect : ∀ x0 x1 y, y = effect x0 x1 → y.free = x1.free) :
    (State.issueV s a vs u occ rs errs par effect).free = s.free := by
  have geffect := fun x0 x1 => heffect x0 x1 _ rfl
  unfold State.issueV
  repeat' split
  all_goals simp [*]

@[simp] theorem vecOp_frame (a : Issue) (vd : Nat) (vs : List Nat) (u : Unit_) (occ lat : Nat) (ok : Bool) (par : Option (BitVec 5)) (f : CoreRegs → VResult) (s : State) :
    OnlyCoresClustersPartsCtxsStoreHostQuillFabricModuleNetOut (vecOp a vd vs u occ lat ok par f s) s := by
  unfold vecOp
  repeat' split
  all_goals simp [*]

@[simp] theorem effVld_frame (a : Issue) (vd : BitVec 5) (rs1 : BitVec 6) (imm : BitVec 14) (ls : List (Nat × Ecc)) (s : State) :
    OnlyCoresClustersPartsCtxsStoreHostQuillFabricModuleNetOut (effVld a vd rs1 imm ls s) s := by
  unfold effVld
  repeat' split
  all_goals simp [*]

@[simp] theorem effVst_frame (a : Issue) (vs : BitVec 5) (rs1 : BitVec 6) (imm : BitVec 14) (par : Option (BitVec 5)) (s : State) :
    OnlyCoresClustersPartsCtxsStoreHostQuillFabricModuleNetOut (effVst a vs rs1 imm par s) s := by
  unfold effVst
  repeat' split
  all_goals simp [*]

@[simp] theorem effVfp_frame (a : Issue) (vd va vb vc : BitVec 5) (fn : BitVec 6) (par : Option (BitVec 5)) (s : State) :
    OnlyCoresClustersPartsCtxsStoreHostQuillFabricModuleNetOut (effVfp a vd va vb vc fn par s) s := by
  unfold effVfp
  repeat' split
  all_goals simp [*]

@[simp] theorem effVint_frame (a : Issue) (vd va vb _vc : BitVec 5) (fn : BitVec 6) (par : Option (BitVec 5)) (s : State) :
    OnlyCoresClustersPartsCtxsStoreHostQuillFabricModuleNetOut (effVint a vd va vb _vc fn par s) s := by
  unfold effVint
  repeat' split
  all_goals simp [*]

@[simp] theorem effVcvt_frame (a : Issue) (vd va _vb _vc : BitVec 5) (fn : BitVec 6) (par : Option (BitVec 5)) (s : State) :
    OnlyCoresClustersPartsCtxsStoreHostQuillFabricModuleNetOut (effVcvt a vd va _vb _vc fn par s) s := by
  unfold effVcvt
  repeat' split
  all_goals simp [*]

@[simp] theorem effMxq_frame (a : Issue) (vd va _vb _vc : BitVec 5) (fmt : BitVec 4) (fnHi : Bool) (par : Option (BitVec 5)) (s : State) :
    OnlyCoresClustersPartsCtxsStoreHostQuillFabricModuleNetOut (effMxq a vd va _vb _vc fmt fnHi par s) s := by
  unfold effMxq
  repeat' split
  all_goals simp [*]

@[simp] theorem effVred_frame (a : Issue) (vd va _vb _vc : BitVec 5) (fn : BitVec 6) (par : Option (BitVec 5)) (s : State) :
    OnlyCoresClustersPartsCtxsStoreHostQuillFabricModuleNetOut (effVred a vd va _vb _vc fn par s) s := by
  unfold effVred
  repeat' split
  all_goals simp [*]

@[simp] theorem effVtr_frame (a : Issue) (vd va _vb _vc : BitVec 5) (fn : BitVec 6) (par : Option (BitVec 5)) (s : State) :
    OnlyCoresClustersPartsCtxsStoreHostQuillFabricModuleNetOut (effVtr a vd va _vb _vc fn par s) s := by
  unfold effVtr
  repeat' split
  all_goals simp [*]

@[simp] theorem effVmov_frame (a : Issue) (vd va vb _vc : BitVec 5) (fn : BitVec 6) (par : Option (BitVec 5)) (s : State) :
    OnlyCoresClustersPartsCtxsStoreHostQuillFabricModuleNetOut (effVmov a vd va vb _vc fn par s) s := by
  unfold effVmov
  repeat' split
  all_goals simp [*]

end Sys2Proof.Machine
end

