-- ==== Sys2Proof/Laws/Step.lean ====
section
/-!
SUPPORT. For each function of Machine/Step.lean that answers a state: the fields it leaves as they were.
-/
namespace Sys2Proof.Machine
@[simp] theorem State.withPending_frame (s : State) (q : List Instr) :
    OnlyPending (State.withPending s q) s := by
  unfold State.withPending
  repeat' split
  all_goals simp [*]

@[simp] theorem State.tick_frame (s : State) :
    OnlyFabricTime (State.tick s) s := by
  unfold State.tick
  repeat' split
  all_goals simp [*]

@[simp] theorem State.withFetchWord_frame (s : State) (nbits w : Nat) :
    OnlyPending (State.withFetchWord s nbits w) s := by
  unfold State.withFetchWord
  repeat' split
  all_goals simp [*]

end Sys2Proof.Machine
end

