-- ==== Sys2Proof/WellFormed.lean ====
section
/-!
DEFINITION. Well-formed commands: the operands whose size the types do not fix have the size the spec gives.
-/
namespace Sys2Proof

/-- Whether a command's byte operands have the sizes the spec gives: a command packet has 64 bytes and the block that follows
it (R533), a link control block 128 (R631), the window record of OPEN_WINDOW 48 (R610), the data of a host read 64 (R402, R517); and
whether the local store units its findings name are among the 8,192 of a local store (R130). -/
def Instr.wellFormed (i : Instr) : Bool :=
  match i with
  | .commandFetch _ _ (some p) => decide (64 ≤ p.length)
  | .linkControlBlockReceive _ b => decide (b.length = 128)
  | .openWindow _ d => decide (d.length = 48)
  | .hostReadCompletion _ (some d) _ => decide (d.length = 64)
  | .vld _ _ _ _ ls => ls.all (fun e => decide (e.1 < 8192))
  | .accLoad _ _ _ ls => ls.all (fun e => decide (e.1 < 8192))
  | .mma _ _ _ _ _ _ ls => ls.all (fun e => decide (e.1 < 8192))
  | .mmaDelayedStart _ _ ls => ls.all (fun e => decide (e.1 < 8192))
  | .driftCompare _ _ _ a b => (a ++ b).all (fun e => decide (e.1 < 8192))
  | .patrolPatternEnd _ _ _ ls => ls.all (fun e => decide (e.1 < 8192))
  | _ => true

end Sys2Proof
end

