-- ==== Sys2Proof/Tests/Slice0.lean ====
section
/-!
SUPPORT. Tests: the well-formedness checks refuse an ill-formed term each, small steps give what the spec gives, and every
statement's hypotheses are met by a concrete state.
-/
namespace Sys2Proof.Tests
set_option linter.unusedVariables false
set_option Elab.async false
open Sys2Proof Sys2Proof.Machine

/-- An issue at core 0 with nothing found. -/
def at0 : Issue := { core := 0, fetch := .ok, sregParity := false }

/-- A core in a free section of context 0. -/
def freeCore : Core :=
  { Core.reset with ctl := { CoreCtl.reset with st := .free, context := some 0, lcluster := 0, lcore := 0 } }

/-- The same core in a ruled section. -/
def ruledCore : Core := { freeCore with ctl := { freeCore.ctl with st := .ruled } }

/-- A device in quarters mode whose Quill runs, whose PF has said HELLO, and whose core 0 is in a free section. -/
def sFree : State :=
  { State.reset with
    cores := [(0, freeCore)]
    quill := { Quill.reset with running := true }
    host := { HostIf.reset with fns := [(0, { Fn.reset with version := true, bme := true })] } }

/-- The same with core 0 in a ruled section. -/
def sRuled : State := { sFree with cores := [(0, ruledCore)] }

/-- The same with a scalar register of core 0 set. -/
def sReg (r : Nat) (v : Word) : State := sFree.modRegs 0 (fun x => x.setS r v false)

/-- A command of the PF for partition 0, context 0. -/
def hPf : Hdr :=
  { fn := 0, sq := 0, tag := 7, minor := 0, ordered := false, notify := false, indirect := false, partition := 0, context := 0,
    reservedSet := false }

/-- A command of the PF for the device. -/
def hDev : Hdr := { hPf with partition := 0xFF, context := 0xFF }

/-- The operand group of a BF16 MMA of K = 32 in s1 to s4. -/
def sMma : State :=
  sFree.modRegs 0 (fun x => (((x.setS 1 0 false).setS 2 0x2000 false).setS 3 0 false).setS 4 0x88000020 false)

/-- The same with a row read of bank 1 to come. -/
def sMmaWait : State := sMma.modEng 0 (fun e => { e with bankRead := [(1, 5)] })

/-- An MMA that waits for bank 1. -/
def sMmaPending : State :=
  sFree.modEng 0 (fun e => { e with pendingMma := some { clr := true, bank := 1, anchor := 0, r0 := 0, r1 := 0, r2 := 0, r3 := 0 } })


/-- Slot 0 open for context 0 at position 2. -/
def sForkable : State := sFree.modSlot 0 (fun x => { x with open_ := true, pos := 2 })

/-- The same with slot 7 forked from it at position 1. -/
def vFork : State :=
  match sForkable.forkSlot 0 0 7 1 with
  | .inr v => v
  | .inl _ => sForkable

/-- A QUIET_POINTS section with one point. -/
def quietSection : Section :=
  { type := 0xA, layout := 0, cluster := 0, core := 0, dest := 0, bytes := [1, 0, 0, 0] ++ List.replicate 44 0 }

/-- A scroll for one cluster with one quiet point in its layout 0. -/
def scQuiet : Scroll :=
  { base := 0, size := 65536, digest := 0, margin := 0, detFast := false, checking := false, mode := 2, target := 0, clusters := 1
    layouts := 1, sections := [quietSection] }

/-- Partition 0 is ON. -/
def sOn : State := sFree.modQPart 0 (fun q => { q with life := .on })

/-- Context 0 with that scroll. -/
def sScroll (l : Life) : State :=
  sOn.modCtx 0 (fun x => { x with scroll := some scQuiet, lc := { x.lc with life := l } })

/-- A host command under way. -/
def jobOf (cmd : Instr) : Job :=
  { hdr := hPf, opcode := 0, cmd := cmd, start := 0, deferred := false, silent := false, value := 0 }

/-- The PF with that command under way. -/
def sJobOf (cmd : Instr) : State := { sFree with host := { sFree.host with jobs := [(0, jobOf cmd)] } }

/-- A checkpoint that is being written, of image sequence 1. -/
def wCkpt : CkptWork := { parts := [0], seq := 1, stroke := 1, quiet := 0, written := false, waits := [], spoiled := false }

/-- Partition 0 pauses for that checkpoint of context 0. -/
def sPaused : State :=
  ((sScroll .on).modLife 0 (fun l => { l with work := some wCkpt })).modPart 0 (fun x => { x with ckptPause := some 0 })

/-- A CHECKPOINT that waits, of job 0. -/
def kCkpt : CkptCmd := { job := 0, mirror := 0, sm4 := false, peerDevice := 0, peerWindow := 0, hostAddr := 0, hostLen := 0 }

/-- Port 15 in a state, of a device with ID 7, on lane 4 and 3. -/
def sPort (st : PortSt) : State :=
  { sFree.modPort 15 (fun p => { p with st := st, laneMap := 0b11000, width := 2, usable := 0b11111 }) with
    dev := { sFree.dev with fbId := 7 } }

/-- A DMA to the host under way. -/
def jDma : Job :=
  { hdr := hPf, opcode := 0x0301, cmd := .dma hPf 0x1000 0x2000 4 1, start := 0, deferred := false, silent := false, value := 0 }

/-- The PF with that DMA under way. -/
def sDma : State :=
  (List.range 16).foldl (fun t m => t.modMc m (fun x => { x with st := .ready })) { sFree with host := { sFree.host with jobs := [(0, jDma)] } }

/-- The same once what the controllers held is served. -/
def sDmaReady : State := (sDma.devReady .bulk 0x2000 4 []).getD sDma

/-- A wait on a device counter under way. -/
def jWait : Job :=
  { hdr := hPf, opcode := 0x0307, cmd := .syncOpWaitGe hPf 2 0 4095 1 5, start := 0, deferred := false, silent := false, value := 0 }

/-- The PF with that wait under way. -/
def sWait : State := { sFree with host := { sFree.host with jobs := [(0, jWait)] } }

/-- Core 0 of a running context whose logical cluster 0 and core 0 it is. -/
def sHome : State :=
  (sFree.modErrs 0 (fun e => { e with cmap := [(0, 0)] })).modInk 0 (fun i => { i with cmap := [(0, 0)] })

/-- Controller 0 is READY, and context 0 has bulk memory from address 0 on. -/
def sMc : State :=
  (sFree.modMc 0 (fun x => { x with st := .ready })).modRun 0 (fun r => { r with bulkBase := 0, bulkSize := 65536 })

/-- A request flit. -/
def mcReq (d : BitVec 256) : McPending := { request := { data := d, blot := false }, data := [], unit := none, since := 0, no := 0 }

/-- Controller 0 with one request waiting. -/
def sMcReq (d : BitVec 256) : State := sMc.modMc 0 (fun x => { x with pending := [mcReq d] })

/-- Slot 31 open for context 0 at the last position. -/
def sSlot : State := sFree.modSlot 31 (fun x => { x with open_ := true, pos := 4194304 })

/-- The same rewound by one position. -/
def vRewind : State :=
  match sSlot.rewindSlot 0 31 4194303 with
  | .inr v => v
  | .inl _ => sSlot

/-- Slot 0 of the memory edge of the cluster of controller 0. -/
def slotMc : RulingSlot := { k := Fin.ofNat 48 (mcCluster 0), port := 13, slice := 3, slot := 0 }

/-- Slot 0 of LOCAL of the cluster of controller 0. -/
def slotMcLocal : RulingSlot := { slotMc with port := 0, slice := 0 }

/-- Core 0 of that cluster with a flit for the controller in its ruled channel 2. -/
def sMcRoute : State :=
  let k := mcCluster 0
  let m := (sMc.modInk k (fun i => { i with cmap := [(0, 0)] })).modQs (32 * k) (fun q => { q with echan := [(2, [noToken])] })
  m.modRouter k (fun r =>
    { r with active := 0, rulings := [(0, { portMask := 0, next := 0xFF, repeatStrokes := 0, entries := [(13 * 1024 + 3, 0x80020000)] })] })

/-- Its arrival at the edge. -/
def aMc : Arrival := { place := (placeOf slotMc).key, entry := 0x80020000, cycle := 0 }

/-- The same with the flit taken. -/
def uMcRoute : State :=
  match sMcRoute.move (placeOf slotMc) (fun x => decide ((Place.ofKey x.place).port = 13 ∧ (Place.ofKey x.place).k = mcCluster 0)) none with
  | some r => r.2.2
  | none => sMcRoute

/-- Controller 0 with a read to return, and a ruling that brings it to a landing stream of core 0 of its cluster. -/
def sMcReturn : State :=
  let k := mcCluster 0
  let m := (sMc.modInk k (fun i => { i with cmap := [(0, 0)] })).modMc 0 (fun x =>
    { x with reads := [{ slice := false, since := 0, lo := noToken.flit, hi := noToken.flit, loSent := true }] })
  m.modRouter k (fun r =>
    { r with active := 0, rulings := [(0, { portMask := 0, next := 0xFF, repeatStrokes := 0, entries := [(0, 0xE8000200)] })] })

/-- Cluster 0 powered, with a landing of two flits in progress from stream 7 of its core 0. -/
def sLanding : State :=
  let m := ((sFree.modCtx 0 (fun c => { c with lc := { c.lc with life := .on } })).modPower (fun w => { w with on := 1 })).modTe 0 (fun e => { e with stream := [(7, List.replicate 2 noToken.flit)] })
  m.modInk 0 (fun i =>
    { i with landing := some { core := 0, stream := 7, header := 0x10000000000000000000000000000000000000000, done := 0 } })

/-- Cores 0 and 32, each blocked on a SEND to the full queue 0 of the other. -/
def sCycle : State :=
  let c (lc : Nat) : Core :=
    { Core.reset with
      ctl := { freeCore.ctl with st := .blocked, blockedOn := some (.send 0 noToken) }
      errs := { Core.reset.errs with cmap := [(0, 0), (1, 1)] }
      qs := { Core.reset.qs with echanFree := 1, fdest := [(0, BitVec.ofNat 32 lc)], inq := [(0, List.replicate 16 noToken)] } }
  (({ sFree with cores := [(0, c 1), (32, c 0)] } : State).modInk 0 (fun i => { i with cmap := [(0, 0)] })).modInk 1
    (fun i => { i with cmap := [(0, 0)] })

/-- Slot 0 of LOCAL of cluster 0. -/
def slot0 : RulingSlot := { k := 0, port := 0, slice := 0, slot := 0 }

/-- Slot 0 of the east link of cluster 0, which cluster 1 does not read. -/
def slotOut : RulingSlot := { k := 0, port := 2, slice := 3, slot := 0 }

/-- Core 0 with a token in ruled channel 2 and a ruling whose slot 0 brings it to what entry e names. -/
def sRoute (e : Word) : State :=
  let m := (sFree.modInk 0 (fun i => { i with cmap := [(0, 0)] })).modQs 0 (fun q => { q with echan := [(2, [noToken])] })
  m.modRouter 0 (fun r =>
    { r with active := 0, rulings := [(0, { portMask := 0, next := 0xFF, repeatStrokes := 0, entries := [(0, e)] })] })

/-- Its arrival. -/
def aRoute (e : Word) : Arrival := { place := 0, entry := e, cycle := 0 }

/-- The same with the token taken. -/
def uRoute (e : Word) (k : Nat) : State :=
  match (sRoute e).move (placeOf slot0) (fun x => x.isAt (placeOf slot0) && decide (if k = 0 then entryDstKind x.entry < 2 else entryDstKind x.entry = k)) none with
  | some r => r.2.2
  | none => sFree

/-- The same for any place. -/
def vRoute (e : Word) : State :=
  match (sRoute e).move (placeOf slot0) (fun _ => true) none with
  | some r => r.2.2
  | none => sFree

/-- The same with the entry at the east link, which no entry reads. -/
def sUnread : State :=
  (sRoute 0).modRouter 0 (fun r =>
    { r with rulings := [(0, { portMask := 0, next := 0xFF, repeatStrokes := 0, entries := [(2048 + 3, 0x80020000)] })] })

/-- A result of a combining queue. -/
def rCombine : CqResult := { piece := 7, tok := noToken, special := false, overflow := false, inexact := false, cycle := 5 }

/-- Combining queue 15 of cluster 0 with a result for inbound queue 7 of core 0. -/
def sCombine : State :=
  (sFree.modInk 0 (fun i => { i with cmap := [(0, 0)] })).modCluster 0 (fun c =>
    { c with cq := { c.cq with cfgA := [(15, 0x40000001)], cfgB := [(15, 0x1C0)], results := [(15, [rCombine])] } })

/-- A free token on its way from channel 7 of core 0 to its own queue 7. -/
def sFreeTok : State :=
  let m := (sFree.modErrs 0 (fun e => { e with cmap := [(0, 0)] })).modInk 0 (fun i => { i with cmap := [(0, 0)] })
  { m with net := [.freeTok 0 7 0x70000 noToken] }

/-- A complete SWITCH set of unit 1. -/
def rFire : ReadySet := { cycle := 0, unit := 1, input := 0, ordinal := 3, backEdge := false }

/-- Core 0 with that set ready: control 2, all outputs enabled and bound to ruled channels. -/
def sFire : State :=
  sFree.modSteer 0 (fun x => { x with cfg := [(1, 0x300F3210)], ready := [rFire]
                                      buf := [(4, [controlToken 3 2]), (5, [controlToken 3 9])] })

/-- The PF with an active queue pair 0 of 4 completion entries, its tail at the last. -/
def sQp : State :=
  sFree.modFn 0 (fun x => { x with qps := [(0, { Qp.reset with active := true, cqSize := 4, cqTail := 3, sqSize := 4, fetched := [{ packet := [], job := some 0 }] })] })

/-- Pair 0 of the PF with one command to fetch. -/
def sFetch : State := sQp.modQp 0 0 (fun q => { q with enable := true, sqTail := 1, fetched := [], cqHead := 3 })

/-- A command under way. -/
def jStop : Job := { hdr := hPf, opcode := 0x0203, cmd := .stopContextAtEdge hPf, start := 0, deferred := false, silent := false, value := 0 }

/-- A packet of opcode 0x0105 from queue 0 of the PF. -/
def leftPkt : List Byte := [5, 1, 0, 0, 7] ++ List.replicate 59 0

/-- The PF with that packet left from before a reset. -/
def sLeft : State := sQp.modFn 0 (fun x => { x with left := [{ sq := 0, version := true, packet := leftPkt }] })

/-- The PF with that command under way. -/
def sJob : State := { sQp with host := { sQp.host with jobs := [(0, jStop)] } }

/-- The PF with an event ring of 4 entries. -/
def sRing : State := sFree.modFn 0 (fun x => { x with ring := { Ring.reset with active := true, size := 4, tail := 3, head := 1 } })

/-- A transfer of 64 bytes from the own local store to a stream. -/
def xLocal : Xfer :=
  { pc := 0, src := 64, dst := 0, srcLog := 0x2000000000000040, dstLog := 0, countI := 0, countO := 0, srcSI := 0, srcSO := 0, dstSI := 0,
    dstSO := 0, srcKind := .local_, dstKind := .stream, chan := 7, stream := 0, consume := false, rslice := false, o := 0, i := 0,
    cycle := 7 }

/-- A transfer of 64 bytes from bulk memory to a stream. -/
def xFar : Xfer := { xLocal with srcKind := .bulk }

/-- Core 0 with the descriptor of that transfer at local store address 0x3FFE0. -/
def sXfer : State :=
  let s := sReg 1 0x3FFE0
  let c := s.modCtl 0 (fun c => { c with lcluster := 0, lcore := 0 })
  let m := c.modErrs 0 (fun e => { e with cmap := [(0, 0)] })
  { m with store := m.store.write (lsBase 0 + 0x3FFE0) (block 32 [(0, 8, 0x2000000000000040), (28, 1, 8), (29, 1, 7)]) false }

/-- The transfer under way. -/
def sLocalAccess : State := sFree.modTe 0 (fun e => { e with xfer := some xLocal })

/-- A far transfer under way. -/
def sFar : State := sFree.modTe 0 (fun e => { e with xfer := some xFar })

/-- A host read of core 0 for function 0 that waits. -/
def rHost : McRead :=
  { slice := true, since := 0, lo := { data := 0, blot := false }, hi := { data := 0, blot := false }, loSent := false, host := some (0, 0) }

/-- Core 0 blocked. -/
def sBlocked (b : BlockedOn) : State := sFree.modCtl 0 (fun c => { c with st := .blocked, blockedOn := some b })

/-- The device in device-level Dormant, its host interface still on. -/
def sLow : State := sFree.modPower (fun w => { w with low := 3, on := BitVec.ofNat 60 (3 * 2 ^ 58) })

/-- Port 15 ACTIVE on a device that is device 7 of the fabric. -/
def sFab : State := let s := sPort .active
  { s with dev := { s.dev with fbId := 7 } }

/-- A flit of a kind for device 7. -/
def flitOf (k : Nat) : FabricFlit := { kind := BitVec.ofNat 4 k, dst := 7, src := 3, hops := 0, vl := false, low := 0, data := [] }

/-- Slot 0 of the fabric edge of cluster 0. -/
def slotEdge : RulingSlot := { k := 0, port := 14, slice := 0, slot := 0 }

/-- Core 0 with a flit in ruled channel 2 and a ruling that brings it to fabric port 0. -/
def sEdge : State :=
  let m := ((sFree.modInk 0 (fun i => { i with cmap := [(0, 0)] })).modQs 0 (fun q => { q with echan := [(2, [noToken])] })).modPower (fun w => { w with on := BitVec.allOnes 60 })
  m.modRouter 0 (fun r => { r with active := 0, rulings := [(0, { portMask := 0, next := 0xFF, repeatStrokes := 0, entries := [(14336, 0x80020000)] })] })

/-- The flit taken, and the state after. -/
def tEdge : Option (Flit × Arrival × State) := sEdge.move (placeOf slotEdge) (fun a => decide ((Place.ofKey a.place).k = 0 ∧ 14 ≤ (Place.ofKey a.place).port ∧ edgePort 0 (Place.ofKey a.place).port = some 0)) none

theorem wit_StoreWordFrame_1 : ∃ (s : State) (a : Issue) (rd rs1 : BitVec 6) (imm : BitVec 14),
    let n := a.core.val
    let ad := ((s.core n).regs.s rs1.toNat + imm.signExtend 32).toNat
    let v := (s.core n).regs.s rd.toNat
    let p := needs [rs1.toNat, rd.toNat] [] .scalar
    let c := s.after n (issueCycle s n p) 1
    (clearToIssue s a p = true) ∧ ((s.core n).regs.sb rs1.toNat = false) ∧ (ad < 0x40000) ∧ (ad % 4 = 0) :=
  ⟨sFree, at0, 1, 2, 4, by dsimp only; decide +kernel⟩

theorem wit_RdsysResult_1 : ∃ (s : State) (a : Issue) (rd : BitVec 6) (imm : BitVec 14) (x : Nat) (v : Word),
    let n := a.core.val
    (clearToIssue s a (needs [] [] .scalar) = true) ∧ ((s.core n).ctl.context = some x) ∧ ((imm.toNat % 16, v) ∈ [(0, (s.ctxStroke x).setWidth 32), (1, (s.ctxStroke x >>> 32).setWidth 32),
      (3, (s.core n).ctl.lcluster.setWidth 32), (4, (s.core n).ctl.lcore.setWidth 32), (5, BitVec.ofNat 32 (x % 4)),
      (6, BitVec.ofNat 32 s.dev.gradeL), (7, s.dev.fbId.setWidth 32), (8, (s.core n).steer.roleEpoch.setWidth 32)]) :=
  ⟨sFree, at0, 1, 7, 0, 0xFFFF, by dsimp only; decide +kernel⟩

theorem wit_RdsysResult_2 : ∃ (s : State) (a : Issue) (rd : BitVec 6) (imm : BitVec 14),
    let n := a.core.val
    (clearToIssue s a (needs [] [] .scalar) = true) ∧ ((s.core n).ctl.st = .ruled) ∧ (imm.toNat % 16 = 2) :=
  ⟨sRuled, at0, 1, 2, by dsimp only; decide +kernel⟩

theorem wit_RdsysResult_3 : ∃ (s : State) (a : Issue) (rd : BitVec 6) (imm : BitVec 14),
    let n := a.core.val
    (clearToIssue s a (needs [] [] .scalar) = true) ∧ ((s.core n).ctl.st = .free) ∧ (imm.toNat % 16 = 2) ∧ ((s.core n).ctl.skew.isSome = false ∨ s.issueBase n ≠ (s.core n).ctl.cyc) :=
  ⟨sFree, at0, 1, 2, by dsimp only; decide +kernel⟩

theorem wit_RdsysResult_4 : ∃ (s : State) (a : Issue) (rd : BitVec 6) (imm : BitVec 14) (k : Nat),
    let n := a.core.val
    (clearToIssue s a (needs [] [] .scalar) = true) ∧ ((s.core n).ctl.st = .free) ∧ (imm.toNat % 16 = 2) ∧ ((s.core n).ctl.skew = some k) ∧ (s.issueBase n = (s.core n).ctl.cyc) :=
  ⟨sFree.modCtl 0 (fun c => { c with skew := some 3 }), at0, 1, 2, 3, by dsimp only; decide +kernel⟩

theorem wit_RdsysResult_5 : ∃ (s : State) (a : Issue) (rd : BitVec 6) (imm : BitVec 14),
    let n := a.core.val
    (clearToIssue s a (needs [] [] .scalar) = true) ∧ ((s.core n).ctl.st = .free) ∧ (9 ≤ imm.toNat % 16) :=
  ⟨sFree, at0, 1, 9, by dsimp only; decide +kernel⟩

theorem wit_SectionResults_1 : ∃ (s : State) (a : Issue) (off : Byte),
    let n := a.core.val
    (clearToIssue s a (needs [] [] .scalar) = true) ∧ (s.halfRate (kOf n) = false ∨ off.toNat < 128) :=
  ⟨sFree, at0, 255, by dsimp only; decide +kernel⟩

theorem wit_SectionResults_2 : ∃ (s : State) (a : Issue) (rb : BitVec 6) (off : Byte),
    let n := a.core.val
    let now := (s.ctxStroke ((s.core n).ctl.context.getD 0)).setWidth 32
    let v := (s.core n).regs.s rb.toNat
    (clearToIssue s a (needs [rb.toNat] [] .scalar) = true) ∧ (s.halfRate (kOf n) = false ∨ off.toNat < 128) ∧ ((s.core n).regs.sb rb.toNat = false) ∧ (0 < (v - now).toInt) :=
  ⟨sReg 3 1, at0, 3, 255, by dsimp only; decide +kernel⟩

theorem wit_SectionResults_3 : ∃ (s : State) (a : Issue) (ra rb : BitVec 6) (off : Byte) (x : Counter),
    let n := a.core.val
    (clearToIssue s a (needs [ra.toNat, rb.toNat] [] .scalar) = true) ∧ (s.halfRate (kOf n) = false ∨ off.toNat < 128) ∧ ((s.core n).regs.sb ra.toNat = false ∧ (s.core n).regs.sb rb.toNat = false) ∧ (s.counterOf n ((s.core n).regs.s ra.toNat) = some x) :=
  ⟨sFree, at0, 0, 1, 255, .cluster 0 0, by dsimp only; decide +kernel⟩

theorem wit_HaltResult_1 : ∃ (s : State) (a : Issue),
    let n := a.core.val
    (clearToIssue s a (needs [] [] .scalar) = true) :=
  ⟨sFree, at0, by dsimp only; decide +kernel⟩

theorem wit_IllegalAndCoreErrors_1 : ∃ (s : State) (a : Issue),
    let n := a.core.val
    (clearToIssue s a (needs [] [] .scalar) = true) ∧ ((s.core n).ctl.st = .free) :=
  ⟨sFree, at0, by dsimp only; decide +kernel⟩

theorem wit_IllegalAndCoreErrors_2 : ∃ (s : State) (n c : Nat) (e : CoreError),
    let t := s.coreErrorIn n c e
    let pc := e.pc.getD (s.core n).ctl.pc
    (3 ≤ e.kind.code) ∧ ((s.core n).failedIn c = false) :=
  ⟨sFree, 0, 0, { kind := .address, detail := 255, addr := 0x40000 }, by dsimp only; decide +kernel⟩

theorem wit_IllegalAndCoreErrors_3 : ∃ (s : State) (n c : Nat) (e : CoreError),
    let t := s.coreErrorIn n c e
    let pc := e.pc.getD (s.core n).ctl.pc
    let old := (s.core n).errs.err
    (3 ≤ e.kind.code) ∧ ((s.core n).failedIn c = true) :=
  ⟨(sFree.coreErrorIn 0 7 { kind := .ruledStall, detail := 0, addr := 0 }), 0, 7, { kind := .address, detail := 255, addr := 0x40000 }, by dsimp only; decide +kernel⟩

theorem wit_VintResult_1 : ∃ (s : State) (a : Issue) (vd va vb vc : BitVec 5) (fn : BitVec 6),
    let n := a.core.val
    let r := (s.core n).regs
    let lane := fun l => (vintTable (r.v va.toNat l) (r.v vb.toNat l)).getD fn.toNat (0, 0, false)
    let blot := fun l => r.vb va.toNat l || r.vb vb.toNat l
    (clearToIssue s a (needs [] [va.toNat, vb.toNat] .ve) = true) ∧ (fn.toNat ≤ 4) :=
  ⟨sFree, at0, 1, 2, 3, 4, 4, by dsimp only; decide +kernel⟩

theorem wit_VectorResults_1 : ∃ (s : State) (a : Issue) (vd va vb vc : BitVec 5) (fn : BitVec 6) (f : VfpFn),
    let n := a.core.val
    let r := (s.core n).regs
    let lane := fun l => f.lane (laneVal (r.v va.toNat l)) (laneVal (r.v vb.toNat l)) (laneVal (r.v vc.toNat l)) (fn.getLsbD 5)
    let blot := fun l => (f.sources va.toNat vb.toNat vc.toNat).any (fun v => r.vb v l)
    (clearToIssue s a (needs [] (f.sources va.toNat vb.toNat vc.toNat) .ve) = true) ∧ (vfpFn (fn.toNat % 32) = some f) :=
  ⟨sFree, at0, 1, 2, 3, 4, 0, .fma, by dsimp only; decide +kernel⟩

theorem wit_VectorResults_2 : ∃ (s : State) (a : Issue) (vd va vb vc : BitVec 5) (fn : BitVec 6),
    let n := a.core.val
    let r := (s.core n).regs
    let lane := fun l => (vcvtLane fn.toNat (r.v va.toNat l)).getD (LaneResult.plain 0)
    (clearToIssue s a (needs [] [va.toNat] .ve) = true) ∧ (fn.toNat ∈ [0, 1, 8, 9, 10]) :=
  ⟨sFree, at0, 1, 2, 3, 4, 10, by dsimp only; decide +kernel⟩

theorem wit_VectorResults_3 : ∃ (s : State) (a : Issue) (vd va vb vc : BitVec 5) (fmt : BitVec 4) (g : Fmt),
    let n := a.core.val
    let r := (s.core n).regs
    let b := mxqBlock g ((List.range 32).map (fun l => laneVal (r.v va.toNat l)))
    (clearToIssue s a (needs [] [va.toNat] .ve) = true) ∧ (mxqFmt fmt.toNat = some g) :=
  ⟨sFree, at0, 1, 2, 3, 4, 6, e2m1, by dsimp only; decide +kernel⟩

theorem wit_VectorResults_4 : ∃ (s : State) (a : Issue) (vd va vb vc : BitVec 5) (fn : BitVec 6) (f : VfpFn),
    let n := a.core.val
    let r := (s.core n).regs
    let x := redTree f 5 ((List.range 32).map (fun l => LaneResult.plain (r.v va.toNat l))) 0
    (clearToIssue s a (needs [] [va.toNat] .ve) = true) ∧ ((fn.toNat, f) ∈ [(0, VfpFn.add), (1, VfpFn.max), (2, VfpFn.min)]) :=
  ⟨sFree, at0, 1, 2, 3, 4, 2, .min, by dsimp only; decide +kernel⟩

theorem wit_VectorResults_5 : ∃ (s : State) (a : Issue) (vd va vb vc : BitVec 5) (fn : BitVec 6) (f : TrFn),
    let n := a.core.val
    let r := (s.core n).regs
    let lane := fun l => f.lane (r.v va.toNat l) (fn.getLsbD 5)
    (clearToIssue s a (needs [] [va.toNat] .vt) = true) ∧ (trFn (fn.toNat % 32) = some f) :=
  ⟨sFree, at0, 1, 2, 3, 4, 43, .erf, by dsimp only; decide +kernel⟩

theorem wit_VectorResults_6 : ∃ (s : State) (a : Issue) (vd va vb vc : BitVec 5),
    let n := a.core.val
    let r := (s.core n).regs
    (clearToIssue s a (needs [va.toNat] [] .ve) = true) :=
  ⟨sFree, at0, 1, 2, 3, 4, by dsimp only; decide +kernel⟩

theorem wit_VectorResults_7 : ∃ (s : State) (a : Issue) (vd va vb vc : BitVec 5),
    let n := a.core.val
    let r := (s.core n).regs
    (clearToIssue s a (needs [] [va.toNat] .ve) = true) :=
  ⟨sFree, at0, 1, 2, 31, 4, by dsimp only; decide +kernel⟩

theorem wit_VectorMemoryResults_1 : ∃ (s : State) (a : Issue) (vd : BitVec 5) (rs1 : BitVec 6) (imm : BitVec 14) (ls : List (Nat × Ecc)),
    let n := a.core.val
    let ad := ((s.core n).regs.s rs1.toNat + imm.signExtend 32).toNat
    let c := s.after n (issueCycle s n (needs [rs1.toNat] [] .ve)) 1
    let u := s.lsEccs n c ls
    let m := u.lsView n c
    (clearToIssue s a (needs [rs1.toNat] [] .ve) = true) ∧ ((s.core n).regs.sb rs1.toNat = false) ∧ (ad < 0x40000) ∧ (ad % 128 = 0) :=
  ⟨sReg 1 0x3FF00, at0, 1, 1, 128, [(0x1FFE, .uncorrectable)], by dsimp only; decide +kernel⟩

theorem wit_VectorMemoryResults_2 : ∃ (s : State) (a : Issue) (vs : BitVec 5) (rs1 : BitVec 6) (imm : BitVec 14),
    let n := a.core.val
    let r := (s.core n).regs
    let ad := (r.s rs1.toNat + imm.signExtend 32).toNat
    (clearToIssue s a (needs [rs1.toNat] [vs.toNat] .ve) = true) ∧ (r.sb rs1.toNat = false) ∧ (ad < 0x40000) ∧ (ad % 128 = 0) :=
  ⟨sReg 1 0x3FF00, at0, 1, 1, 128, by dsimp only; decide +kernel⟩

theorem wit_MmaResult_1 : ∃ (s : State) (a : Issue) (clr bank : Bool) (anchor : BitVec 10) (rb : BitVec 6) (fa fb : OpFmt) (ls : List (Nat × Ecc)),
    let n := a.core.val
    let r := (s.core n).regs
    let b := bankNo bank
    let x := mmaArgs (r.s rb.toNat) (r.s (rb.toNat + 1)) (r.s (rb.toNat + 2)) (r.s (rb.toNat + 3))
    let t0 := issueCycle s n (needs [rb.toNat, rb.toNat + 1, rb.toNat + 2, rb.toNat + 3] [] .me)
    let sideA : Side := { base := lsBase n + x.aAddr, scale := lsBase n + x.aScale, fmt := fa, k := x.k }
    let sideB : Side := { base := lsBase n + x.bAddr, scale := lsBase n + x.bScale, fmt := fb, k := x.k }
    let e := s.meFinal n
    let p := blockCycles fa fb
    let g := mmaAnchor anchor.toInt fa
    let u := (s.meSettle n).lsEccs n t0 ls
    (clearToIssue s a (needs [rb.toNat, rb.toNat + 1, rb.toNat + 2, rb.toNat + 3] [] .me) = true) ∧ (mmaErrs r rb.toNat = []) ∧ ((s.core n).eng.bankRead.get 0 b = 0 ∨ (s.core n).eng.bankRead.get 0 b < t0) ∧ (e.mmaCheck x clr b anchor.toInt = .inr (fa, fb)) :=
  ⟨sMma, at0, true, true, 0, 1, .bf16, .bf16, [], by dsimp only; decide +kernel⟩

theorem wit_MmaResult_2 : ∃ (s : State) (a : Issue) (clr bank : Bool) (anchor : BitVec 10) (rb : BitVec 6) (hw : MeFault) (ls : List (Nat × Ecc)),
    let n := a.core.val
    let r := (s.core n).regs
    let b := bankNo bank
    let w : PendingMma := { clr := clr, bank := b, anchor := anchor.toInt, r0 := r.s rb.toNat, r1 := r.s (rb.toNat + 1),
                            r2 := r.s (rb.toNat + 2), r3 := r.s (rb.toNat + 3) }
    let p := needs [rb.toNat, rb.toNat + 1, rb.toNat + 2, rb.toNat + 3] [] .me
    (clearToIssue s a p = true) ∧ (mmaErrs r rb.toNat = []) ∧ ((s.core n).ctl.st = .free) ∧ (0 < (s.core n).eng.bankRead.get 0 b ∧ issueCycle s n p ≤ (s.core n).eng.bankRead.get 0 b) :=
  ⟨sMmaWait, at0, true, true, 0, 1, .none, [], by dsimp only; decide +kernel⟩

theorem wit_BankReadResults_1 : ∃ (s : State) (a : Issue) (bank : Bool) (dfmt : BitVec 4) (rs1 rs2 : BitVec 6) (d : DrainFmt),
    let n := a.core.val
    let r := (s.core n).regs
    let b := bankNo bank
    let t := issueCycle s n (needs [rs1.toNat, rs2.toNat] [] .me)
    let ad := (r.s rs1.toNat).toNat
    let fl := (r.s rs2.toNat).toNat
    let u := s.lsTick n t
    let x := u.drainBank n t b ad d
    let y := if rs2 = 0 then x else x.lsPut n (u.after n t 22) 6 fl (toLe (u.drainFlags n t b d).toNat 4) false
    let z := (y.modEng n (fun e => { e with meFree := u.after n t 16, bankRead := e.bankRead.set b (u.after n t 15) })).advance n t 1
    (clearToIssue s a (needs [rs1.toNat, rs2.toNat] [] .me) = true) ∧ (drainFmt dfmt.toNat = some d) ∧ (ad % 32 = 0 ∧ ad + 512 * d.bytes ≤ 0x40000 ∧ r.sb rs1.toNat = false) ∧ (rs2 = 0 ∨ (fl % 4 = 0 ∧ fl < 0x40000 ∧ r.sb rs2.toNat = false)) :=
  ⟨sReg 1 0x3F800, at0, true, 0, 1, 2, .float e4m3, by dsimp only; decide +kernel⟩

theorem wit_BankReadResults_2 : ∃ (s : State) (a : Issue) (bank : Bool) (rs1 : BitVec 6),
    let n := a.core.val
    let r := (s.core n).regs
    let b := bankNo bank
    let t := issueCycle s n (needs [rs1.toNat] [] .me)
    let ad := (r.s rs1.toNat).toNat
    let u := s.lsTick n t
    let z := (((u.saveWrites n t b ad (List.range 128)).meSettle n).modEng n (fun e =>
      { e with meFree := u.after n t 128, bankRead := e.bankRead.set b (u.after n t 127) })).advance n t 1
    (clearToIssue s a (needs [rs1.toNat] [] .me) = true) ∧ (ad % 32 = 0 ∧ ad + 0x4000 ≤ 0x40000 ∧ r.sb rs1.toNat = false) :=
  ⟨sReg 1 0x3C000, at0, true, 1, by dsimp only; decide +kernel⟩

theorem wit_BankReadResults_3 : ∃ (s : State) (a : Issue) (bank : Bool) (rs1 : BitVec 6) (ls : List (Nat × Ecc)),
    let n := a.core.val
    let r := (s.core n).regs
    let b := bankNo bank
    let ad := lsBase n + (r.s rs1.toNat).toNat
    let t0 := issueCycle s n (needs [rs1.toNat] [] .me)
    let u := (s.meSettle n).lsEccs n t0 ls
    let v := fun d => u.lsView n (s.after n t0 d)
    let anchor := (v 0).recAnchor ad
    (clearToIssue s a (needs [rs1.toNat] [] .me) = true) ∧ ((r.s rs1.toNat).toNat % 32 = 0 ∧ (r.s rs1.toNat).toNat + 0x4000 ≤ 0x40000 ∧ r.sb rs1.toNat = false) ∧ (-512 ≤ anchor ∧ anchor ≤ 511) ∧ (∀ i, i < 512 → (v (i / 4)).recAnchor (ad + 32 * i) = anchor) :=
  ⟨sReg 1 0x3C000, at0, true, 1, [], by dsimp only; decide +kernel⟩

theorem wit_BankReadResults_4 : ∃ (s : State) (n : Fin 1536) (hw : MeFault) (ls : List (Nat × Ecc)) (m : PendingMma),
    let last := (s.core n).eng.bankRead.get 0 m.bank
    let t := max (max (s.after n last 1) (s.core n).eng.meFree) ((s.part (s.partOf (kOf n))).stroke.count.toNat * 256)
    ((s.core n).eng.pendingMma = some m) ∧ ((s.part (s.partOf (kOf n))).paused = false) ∧ (s.cycleDue n t = true) ∧ (quietBy s n t = true) ∧ (s.accessErrs n t = []) ∧ (s.runsOn n = true) :=
  ⟨sMmaPending, 0, .none, [], { clr := true, bank := 1, anchor := 0, r0 := 0, r1 := 0, r2 := 0, r3 := 0 }, by dsimp only; decide +kernel⟩

theorem wit_BankReadResults_5 : ∃ (s : State) (n : Fin 1536) (hw : MeFault) (ls : List (Nat × Ecc)),
    ((s.core n).eng.pendingMma = none ∨ (s.part (s.partOf (kOf n))).paused = true) :=
  ⟨sFree, 0, .none, [], by decide +kernel⟩

theorem wit_BankReadResults_6 : ∃ (s : State) (n : Nat) (x : LoadFault),
    let t := s.judgeLoad n
    (s.loadFault n = some x) :=
  ⟨{ sFree.modCore 0 (fun c => { c with ls := { c.ls with run := some (.load 0 0 0) } }) with store := { Store.reset with mem := [(lsBase 0 + 52, 1)] } }, 0, { cycle := 0, bank := 0, row := 0 }, by dsimp only; decide +kernel⟩

theorem wit_AccumulatorRecord : ∃ (m : Store) (x : Nat) (a : Acc) (anchor : Int), x % 32 = 0 ∧ -512 ≤ anchor ∧ anchor ≤ 511 ∧
    (∀ i, i < 32 → m.byte (x + i) = (a.image anchor).getD i 0) ∧ m.blotAt x = a.blot :=
  ⟨Store.reset, 32, Acc.clear, 0, by decide +kernel⟩

theorem wit_SyncCounterOps_1 : ∃ (s : State) (a : Issue) (ra rb : BitVec 6),
    let n := a.core.val
    let r := (s.core n).regs
    let id := r.s ra.toNat
    let c := Counter.cluster (kOf n) (id.toNat % 256)
    let t := issueCycle s n (needs [ra.toNat, rb.toNat] [] .scalar)
    (clearToIssue s a (needs [ra.toNat, rb.toNat] [] .scalar) = true) ∧ (r.sb ra.toNat = false ∧ r.sb rb.toNat = false) ∧ (id.toNat / 2 ^ 30 = 0) ∧ (s.syncOwed n c = false) :=
  ⟨sReg 1 0xFF, at0, 1, 2, by dsimp only; decide +kernel⟩

theorem wit_SyncCounterOps_2 : ∃ (s : State) (a : Issue) (ra rb : BitVec 6) (c : Counter),
    let n := a.core.val
    let r := (s.core n).regs
    let id := r.s ra.toNat
    let t := issueCycle s n (needs [ra.toNat, rb.toNat] [] .scalar)
    (clearToIssue s a (needs [ra.toNat, rb.toNat] [] .scalar) = true) ∧ (r.sb ra.toNat = false ∧ r.sb rb.toNat = false) ∧ (id.toNat / 2 ^ 30 ≠ 0 ∨ s.syncOwed n c = true) ∧ (s.counterOf n id = some c) :=
  ⟨sReg 1 0x80000FFF, at0, 1, 2, .device 4095, by dsimp only; decide +kernel⟩

theorem wit_SyncCounterOps_3 : ∃ (s : State) (a : Issue) (ra rb : BitVec 6) (c : Counter),
    let n := a.core.val
    let r := (s.core n).regs
    let t := issueCycle s n (needs [ra.toNat, rb.toNat] [] .scalar)
    let v := r.s rb.toNat
    (clearToIssue s a (needs [ra.toNat, rb.toNat] [] .scalar) = true) ∧ (r.sb ra.toNat = false ∧ r.sb rb.toNat = false) ∧ (s.counterOf n (r.s ra.toNat) = some c) ∧ ((s.core n).ctl.st = .free) :=
  ⟨sReg 1 0x80000FFF, at0, 1, 2, .device 4095, by dsimp only; decide +kernel⟩

theorem wit_SyncCounterOps_4 : ∃ (s : State) (n : Fin 1536) (c : Counter) (v : Word),
    ((s.core n).ctl.blockedOn = some (.waitGe c v)) ∧ (s.waiting n = true) ∧ (0 ≤ (s.counter c - v).toInt) ∧ (s.syncOwed n c = false) :=
  ⟨sBlocked (.waitGe (.device 4095) 0), 0, .device 4095, 0, by decide +kernel⟩

theorem wit_SyncCounterOps_5 : ∃ (s : State) (l m : List NetMsg) (o : Option Nat) (c : Counter) (b : Bool) (v : Word),
    (s.net = l ++ .syncOp o c b v :: m) ∧ (takeSync l = none) :=
  ⟨{ sFree with net := [.credit 0 0 0, .syncOp (some 0) (.cluster 47 255) false 1] }, [.credit 0 0 0], [], some 0, .cluster 47 255, false, 1, by decide +kernel⟩

theorem wit_SyncCounterOps_6 : ∃ (s : State) (k i l1 l2 cyc : Nat) (u v w : Word),
    let x := Counter.cluster k i
    let none_ : SyncMark := { cycle := cyc + 1, start := 0, set := none, far := none, added := 0, shown := 0 }
    (((s.cluster k).marks.get none_ i).cycle ≠ cyc) :=
  ⟨sFree, 47, 255, 0, 31, 9, 3, 1, 2, by dsimp only; decide +kernel⟩

theorem wit_LandwaitAndRadd_1 : ∃ (s : State) (a : Issue) (ra rb : BitVec 6),
    let n := a.core.val
    let r := (s.core n).regs
    let w := (r.s ra.toNat).toNat % 64
    let t := issueCycle s n (needs [ra.toNat, rb.toNat] [] .scalar)
    let v := r.s rb.toNat
    (clearToIssue s a (needs [ra.toNat, rb.toNat] [] .scalar) = true) ∧ (r.sb ra.toNat = false ∧ r.sb rb.toNat = false) ∧ ((s.core n).ctl.st = .free) ∧ ((s.window w).opened = true) ∧ ((s.core n).ctl.context = some (4 * (s.window w).part + (s.window w).ctx)) :=
  ⟨(sReg 1 63).modWindow 63 (fun w => { w with opened := true }), at0, 1, 2, by dsimp only; decide +kernel⟩

theorem wit_LandwaitAndRadd_2 : ∃ (s : State) (n : Fin 1536) (w : Nat) (v : Word),
    ((s.core n).ctl.blockedOn = some (.landwait w v)) ∧ (s.waiting n = true) ∧ (0 ≤ ((s.window w).landed - v).toInt) :=
  ⟨sBlocked (.landwait 63 0), 0, 63, 0, by decide +kernel⟩

theorem wit_LandwaitAndRadd_3 : ∃ (s : State) (a : Issue) (ra rb : BitVec 6),
    let n := a.core.val
    let r := (s.core n).regs
    let id := r.s ra.toNat
    let t := issueCycle s n (needs [ra.toNat, rb.toNat] [] .scalar)
    (clearToIssue s a (needs [ra.toNat, rb.toNat] [] .scalar) = true) ∧ (r.sb ra.toNat = false ∧ r.sb rb.toNat = false) ∧ (id.toNat / 2 ^ 30 = 3) ∧ (s.openWrites n = []) :=
  ⟨sReg 1 0xC3FFCFFF, at0, 1, 2, by dsimp only; decide +kernel⟩

theorem wit_LandwaitAndRadd_4 : ∃ (s : State) (a : Issue) (ra rb : BitVec 6),
    let n := a.core.val
    let r := (s.core n).regs
    let id := r.s ra.toNat
    let t := issueCycle s n (needs [ra.toNat, rb.toNat] [] .scalar)
    let held : HeldAdd := { core := n, device := id.toNat / 2 ^ 14 % 2 ^ 16, counter := id.toNat % 4096, value := r.s rb.toNat,
                            waits := s.openWrites n }
    (clearToIssue s a (needs [ra.toNat, rb.toNat] [] .scalar) = true) ∧ (r.sb ra.toNat = false ∧ r.sb rb.toNat = false) ∧ (id.toNat / 2 ^ 30 = 3) ∧ (s.openWrites n ≠ []) ∧ ((s.fabric.adds.filter (fun x => decide (x.core = n))).length < 16) :=
  ⟨(sReg 1 0xC3FFCFFF).modTe 0 (fun e => { e with farWrites := [(0, 0)] }), at0, 1, 2, by dsimp only; decide +kernel⟩

theorem wit_LandwaitAndRadd_5 : ∃ (s : State) (a : Issue) (ra rb : BitVec 6),
    let n := a.core.val
    let r := (s.core n).regs
    let id := r.s ra.toNat
    let t := issueCycle s n (needs [ra.toNat, rb.toNat] [] .scalar)
    (clearToIssue s a (needs [ra.toNat, rb.toNat] [] .scalar) = true) ∧ (r.sb ra.toNat = false ∧ r.sb rb.toNat = false) ∧ ((s.core n).ctl.st = .free) ∧ (id.toNat / 2 ^ 30 ≠ 3) ∧ (s.openWrites n = []) :=
  ⟨sReg 1 0xBFFFFFFF, at0, 1, 2, by dsimp only; decide +kernel⟩

theorem wit_TransferResults_1 : ∃ (s : State) (a : Issue) (ra : BitVec 6) (ls : List (Nat × Ecc)),
    let n := a.core.val
    let t := issueCycle s n (needs [ra.toNat] [] .te)
    let x := ((s.core n).regs.s ra.toNat).toNat
    let u := ls.foldl (fun (w : State) e => w.lsEcc n (w.after n t (1 + e.1 % 4)) (x + 8 * (e.1 % 4)) e.2) s
    (clearToIssue s a (needs [ra.toNat] [] .te) = true) ∧ ((s.core n).te.xfer = none ∧ (s.core n).te.desc = none) ∧ (x % 32 = 0 ∧ x < 0x40000 ∧ (s.core n).regs.sb ra.toNat = false) :=
  ⟨sXfer, at0, 1, [(3, .corrected)], by dsimp only; decide +kernel⟩

theorem wit_TransferResults_2 : ∃ (s : State) (n : Fin 1536) (d : DescRead) (x : Xfer) (src dst : List (Nat × Ecc)) (split : List Nat),
    ((s.core n).te.desc = some d) ∧ (s.descPlan n d = ([], some x)) ∧ ((s.part (s.partOf (kOf n))).paused = false) ∧ (s.cycleDue n (s.descEnd n d) = true) ∧ ((s.core n).ls.run = none ∧ (s.core n).due = []) :=
  ⟨sXfer.modTe 0 (fun e => { e with desc := some { addr := 0x3FFE0, issued := 0, pc := 0 } }), 0, { addr := 0x3FFE0, issued := 0, pc := 0 }, xLocal, [], [], [], by decide +kernel⟩

theorem wit_TransferResults_3 : ∃ (s : State) (n : Fin 1536) (x : Xfer) (src dst : List (Nat × Ecc)) (split : List Nat),
    let c := s.xferCycle n x
    let u := s.inkSee (kOf n) c
    ((s.core n).te.desc = none ∧ (s.core n).te.xfer = some x) ∧ (s.xferWaits n x = false) ∧ (quietBy s n (s.xferCycle n x) = true) ∧ (x.far = true) :=
  ⟨sFar, 0, xFar, [], [], [], by dsimp only; decide +kernel⟩

theorem wit_TransferResults_4 : ∃ (s : State) (n : Fin 1536) (x : Xfer) (src dst : List (Nat × Ecc)) (split : List Nat),
    let c := s.xferCycle n x
    let offs := wordOffs false x.offs.1.toNat
    let u := (s.inkSee (kOf n) c).lsFind n c offs src
    let ws := (u.lsView n c).gather (lsBase n) offs
    ((s.core n).te.desc = none ∧ (s.core n).te.xfer = some x) ∧ (s.xferWaits n x = false) ∧ (quietBy s n (s.xferCycle n x) = true) ∧ (x.srcKind = .local_) ∧ (x.dstKind = .stream) :=
  ⟨sLocalAccess, 0, xLocal, [(15, .uncorrectable)], [], [], by dsimp only; decide +kernel⟩

theorem wit_TransferResults_5 : ∃ (s : State) (n ch c : Nat) (fs : List Flit) (pc : BitVec 12),
    let u := s.takeChan n true ch c
    let old := (u.core n).te.chan.get [] ch
    let t := s.flitsEnter n ch c fs pc
    (old.length + fs.length ≤ 16) :=
  ⟨sFree, 0, 7, 9, [{ data := 1, blot := true }], 3, by dsimp only; decide +kernel⟩

theorem wit_TransferResults_6 : ∃ (s : State) (n t : Nat) (x : Xfer),
    ((s.core n).te.xfer.isSome = true) :=
  ⟨sLocalAccess, 0, 0, xLocal, by decide +kernel⟩

theorem wit_TransferResults_7 : ∃ (s : State) (n : Fin 1536) (a b : List McRead) (r : McRead) (f : Nat) (d : List Byte) (p : Bool),
    let m := homeOf (kOf n)
    let flit := fun (d : List Byte) (p : Bool) => ({ data := BitVec.ofNat 256 (leNat (d.take 32)), blot := p } : Flit)
    ((s.mcOf m).reads = a ++ r :: b) ∧ (r.host = some (n.val, f)) ∧ (∀ x ∈ a, ∀ h, x.host = some h → h.1 ≠ n.val) :=
  ⟨sFree.modMc (homeOf 0) (fun x => { x with reads := [rHost] }), 0, [], [], rHost, 0, [], false, by dsimp only; decide +kernel⟩

theorem wit_MessageResults_1 : ∃ (s : State) (a : Issue) (ra rb : BitVec 6) (k : BitVec 2),
    let n := a.core.val
    let ch := ((s.core n).regs.s rb.toNat).toNat % 8
    let t := issueCycle s n (needs ((s.core n).regs.sendReads ra.toNat rb.toNat k.toNat) [] .scalar)
    (clearToIssue s a (needs ((s.core n).regs.sendReads ra.toNat rb.toNat k.toNat) [] .scalar) = true) ∧ ((s.core n).qs.isFree ch = false) :=
  ⟨sReg 1 7, at0, 60, 1, 3, by dsimp only; decide +kernel⟩

theorem wit_MessageResults_3 : ∃ (s : State) (a : Issue) (ra rb : BitVec 6) (k : BitVec 2),
    let n := a.core.val
    let ch := ((s.core n).regs.s rb.toNat).toNat % 8
    let t := issueCycle s n (needs ((s.core n).regs.sendReads ra.toNat rb.toNat k.toNat) [] .scalar)
    let u := s.advance n t 1
    let x := ((s.core n).regs.sendToken ra.toNat rb.toNat k.toNat)
    (clearToIssue s a (needs ((s.core n).regs.sendReads ra.toNat rb.toNat k.toNat) [] .scalar) = true) ∧ ((s.core n).ctl.st = .free) ∧ ((s.core n).qs.isFree ch = true) ∧ (quietBy u n (t + 2) = true) :=
  ⟨(sReg 1 7).modQs 0 (fun q => { q with echanFree := 128 }), at0, 60, 1, 3, by dsimp only; decide +kernel⟩

theorem wit_MessageResults_4 : ∃ (s : State) (a : Issue) (ra rb : BitVec 6) (q : BitVec 3) (k : BitVec 2),
    let n := a.core.val
    let t := issueCycle s n (needs [] [] .scalar)
    let l := (s.core n).qs.visible q.toNat t
    (clearToIssue s a (needs [] [] .scalar) = true) ∧ ((s.core n).ctl.st = .free ∨ (s.core n).qs.mode q.toNat ≠ 2) :=
  ⟨sRuled, at0, 60, 1, 7, 3, by dsimp only; decide +kernel⟩

theorem wit_MessageResults_5 : ∃ (s : State) (n : Fin 1536) (q ra rb k : Nat) (x : Token) (r : List Token),
    let t := max ((s.core n).ctl.cyc - 1) x.sent
    ((s.core n).ctl.blockedOn = some (.recv q ra rb k)) ∧ (s.waiting n = true) ∧ ((s.core n).qs.queue q = x :: r) ∧ (quietBy s n x.sent = true) ∧ (s.cycleDue n x.sent = true) :=
  ⟨(sBlocked (.recv 7 60 1 3)).modQs 0 (fun q => { q with inq := [(7, [noToken])] }), 0, 7, 60, 1, 3, noToken, [], by dsimp only; decide +kernel⟩

theorem wit_MessageResults_6 : ∃ (s : State) (a : Issue) (ra rb : BitVec 6),
    let n := a.core.val
    let t := issueCycle s n (needs [rb.toNat] [] .scalar)
    (clearToIssue s a (needs [rb.toNat] [] .scalar) = true) ∧ ((s.core n).ctl.st = .free) :=
  ⟨sFree, at0, 1, 2, by dsimp only; decide +kernel⟩

theorem wit_MessageResults_7 : ∃ (s : State) (n : Fin 1536) (ra q t : Nat) (mask : Byte),
    let c := s.core n
    let u := (s.resumeAt n (s.after n t 2)).putS n t 1 ra (BitVec.ofNat 32 q) false
    (c.ctl.blockedOn = some (.select ra mask)) ∧ (s.waiting n = true) ∧ (c.qs.selectCycle mask c.ctl.cyc = some t) ∧ (quietBy s n t = true) ∧ (s.cycleDue n t = true) ∧ (c.qs.selects mask t = some q) :=
  ⟨(sBlocked (.select 1 0)).modQs 0 (fun q => { q with inq := [(7, [noToken])], rotate := true }), 0, 1, 7, 1, 0, by dsimp only; decide +kernel⟩

theorem wit_MessageResults_8 : ∃ (c : CoreQueues) (mask : Byte) (x q : Nat),
    (c.selects mask x = some q) :=
  ⟨{ CoreQueues.reset with inq := [(7, [noToken])] }, 0, 1, 7, by decide +kernel⟩

theorem wit_MessageResults_9 : ∃ (s : State) (a : Issue) (ra : BitVec 6) (q fn : BitVec 3) (off : BitVec 6),
    let n := a.core.val
    let t := issueCycle s n (needs [] [] .scalar)
    let w := if fn = 1 then s.takeChan n false q.toNat t else s
    let c := (w.core n).qs
    let v := if fn = 0 then c.qstat q.toNat t else if fn = 1 then c.echanWord q.toNat else c.qsum t
    let u := if fn = 1 ∧ off.getLsbD 0 = true then
        w.modQs n (fun x => { x with closed := x.closed.set q.toNat false, orphans := x.orphans.set q.toNat 0 }) else w
    (clearToIssue s a (needs [] [] .scalar) = true) ∧ (fn.toNat ≤ 2) :=
  ⟨sFree, at0, 63, 7, 2, 63, by dsimp only; decide +kernel⟩

theorem wit_IdleStep : ∃ s : State, s.pending = [] ∧ s.fabric.cfg.slew = 0 := ⟨State.reset, rfl, rfl⟩

theorem wit_CommandFrames : ∃ (c : Instr) (s t : State), exec c s = .next t := ⟨.crossingResume 0, State.reset, _, rfl⟩

theorem wit_DeviceSettingsKept : ∃ s t : State, s.dev.mode ≠ 3 ∧ (s.dev.fbId.toNat < 4096 ∨ s.dev.fbId = 0xFFFF) ∧
    step s = .next t := ⟨{ State.reset with dev := { Dev.reset with fbId := 4095 } }, _, by decide, by decide, rfl⟩

theorem wit_StorageCanonical : ∃ s t : State, s.store.wf = true ∧ step s = .next t := ⟨State.reset, _, rfl, rfl⟩

theorem wit_ZeroRegister_2 : ∃ (s : State) (a : Issue) (rs1 : BitVec 6) (imm : BitVec 14),
    (clearToIssue s a (needs [rs1.toNat] [] .scalar) = true) :=
  ⟨sFree, at0, 1, 3, by decide +kernel⟩

theorem wit_UnitWrite_1 : ∃ (m : Store) (a : Nat) (bs : List Byte) (blot : Bool),
    (a % 32 + bs.length ≤ 32) :=
  ⟨Store.reset, 63, [5], true, by decide +kernel⟩

theorem wit_CompletionWritten_1 : ∃ (s : State) (h : Hdr) (op job : Nat) (st : Status) (res : Nat),
    let f := h.fn.val
    let q := s.qp f h.sq.toNat
    let t := s.completeJob h op job st res []
    let q2 := t.qp f h.sq.toNat
    (h.fn ≠ 5) ∧ (h.notify = false) ∧ (q.active = true) ∧ (q.halted = false) ∧ (q.cqSize ≠ 0) ∧ ((s.fn f).d3 = false ∧ (s.fn f).bme = true) :=
  ⟨sQp, hPf, 1, 0, .ok, 0, by dsimp only; decide +kernel⟩

theorem wit_CompletionWritten_2 : ∃ (s : State) (h : Hdr) (st : Status) (res : Nat) (note : Option Nat),
    let f := h.fn.val
    let q := s.qp f h.sq.toNat
    (h.fn ≠ 5) ∧ (q.active = false ∨ q.halted = true) :=
  ⟨sFree, hPf, .ok, 0, some 1, by dsimp only; decide +kernel⟩

theorem wit_CompletionWritten_3 : ∃ (s : State) (h : Hdr) (st : Status) (res : Nat) (note : Option Nat),
    let f := h.fn.val
    let q := s.qp f h.sq.toNat
    (h.fn ≠ 5) ∧ (q.active = true) ∧ (q.halted = false) ∧ (q.cqSize ≠ 0) ∧ ((s.fn f).d3 = true ∨ (s.fn f).bme = false) :=
  ⟨sQp.modFn 0 (fun x => { x with d3 := true }), hPf, .ok, 0, some 1, by dsimp only; decide +kernel⟩

theorem wit_CompletionWritten_4 : ∃ (s : State) (fn : Fin 6) (n : Byte) (p : Option (List Byte)),
    (n.toNat < pairsOf fn.val) ∧ ((s.qp fn.val n.toNat).active = true) :=
  ⟨sQp, 0, 0, none, by decide +kernel⟩

theorem wit_EventDelivery_1 : ∃ (s : State) (f : Nat) (r : List Byte),
    let x := s.fn f
    let t := s.toRing f r
    (x.ringRoom = true) ∧ (x.ring.held = []) :=
  ⟨sRing, 0, [1, 0, 0, 0], by dsimp only; decide +kernel⟩

theorem wit_EventDelivery_2 : ∃ (s : State) (f : Nat) (r : List Byte),
    let x := s.fn f
    (x.ringRoom = false ∨ x.ring.held ≠ []) :=
  ⟨sFree, 0, [1, 0, 4, 0], by dsimp only; decide +kernel⟩

theorem wit_SteeringResults_1 : ∃ (s : State) (a : Issue) (ra : BitVec 6) (u : BitVec 2),
    let n := a.core.val
    let v := (s.core n).regs.s ra.toNat
    let t := issueCycle s n (needs [ra.toNat] [] .scalar)
    (clearToIssue s a (needs [ra.toNat] [] .scalar) = true) ∧ ((s.core n).regs.sb ra.toNat = false) :=
  ⟨sReg 1 0x0302, at0, 1, 3, by dsimp only; decide +kernel⟩

theorem wit_SteeringResults_3 : ∃ (s : State) (n u i cyc : Nat) (t : Token),
    let c := (s.core n).steer
    let b := c.pair u i
    (∀ x ∈ b, x.ordinal ≠ t.ordinal) ∧ (b.length < 8) :=
  ⟨sFree, 0, 3, 0, 9, noToken, by dsimp only; decide +kernel⟩

theorem wit_SteeringResults_5 : ∃ (s : State) (core : Fin 1536) (unit : BitVec 2) (r : ReadySet) (rest : List ReadySet),
    let n := core.val
    let u := unit.toNat
    let q := s.fireTick n u
    let c := q.core n
    let w := q.steerCfg n u
    let tok := fun i => ((c.steer.pair u i).find? (fun t => t.ordinal == r.ordinal)).getD noToken
    let z := fireResult w r.backEdge r.ordinal tok
    let f := q.fireCycle n u r
    let q1 := q.modSteer n (fun x => { x with ready := rest, fireFrom := x.fireFrom.set u (q.after n f 1), lastOrdinal := x.lastOrdinal.set u r.ordinal, buf := (setMembers (steerMode w) r.input).foldl (fun (b : Tbl (List Token)) i => b.set (4 * u + i) ((b.get [] (4 * u + i)).filter (fun t => t.ordinal != r.ordinal))) x.buf })
    ((s.core n).steers = true ∧ (s.part (s.partOf (kOf n))).paused = false) ∧ (c.steers = true ∧ takeReady u c.steer.ready = some (r, rest)) ∧ (q.cycleDue n f = true) :=
  ⟨sFire, 0, 1, rFire, [], by dsimp only; decide +kernel⟩

theorem wit_SteeringResults_7 : ∃ (w : Word) (ord : Byte) (tok : Nat → Token) (v : Nat),
    (steerMode w = 1) ∧ ((tok 0).void = false ∧ (tok 1).void = false) ∧ (v = (tok 0).payload.toNat % 256 % 8) :=
  ⟨0x200F0000, 0, fun _ => { noToken with void := false }, 0, by decide +kernel⟩

theorem wit_ChannelMessages_1 : ∃ (s : State) (n : Fin 1536) (ch : BitVec 3) (e : Byte) (pre post : List NetMsg),
    let u : State := { s with net := pre ++ post }
    let k := n.val
    (s.net = pre ++ .credit n ch.toNat e :: post) ∧ (∀ m ∈ pre, isCredit n ch.toNat m = false) :=
  ⟨{ sFree with net := [.credit 0 7 0] }, 0, 7, 0, [], [], by dsimp only; decide +kernel⟩

theorem wit_ChannelMessages_2 : ∃ (s : State) (n : Fin 1536) (ch : BitVec 3) (pre post : List NetMsg),
    let u : State := { s with net := pre ++ post }
    let k := n.val
    let v := u.modQs k (fun c => { c with notice := c.notice.set ch.toNat true })
    (s.net = pre ++ .notice n ch.toNat :: post) ∧ (∀ m ∈ pre, isNotice n ch.toNat m = false) :=
  ⟨{ sFree with net := [.credit 0 7 0, .notice 0 7] }, 0, 7, [.credit 0 7 0], [], by dsimp only; decide +kernel⟩

theorem wit_ChannelMessages_3 : ∃ (s : State) (n : Fin 1536) (ch : BitVec 3) (fd : Word) (tok : Token) (pre post : List NetMsg) (d : Nat),
    let k := n.val
    ((s.sendDue k ch.toNat).net = pre ++ .freeTok n ch.toNat fd tok :: post) ∧ (fdestKind fd = false) ∧ (∀ m ∈ pre, isFreeToken n ch.toNat false m = false) ∧ (((s.sendDue k ch.toNat).part ((s.sendDue k ch.toNat).partOf (kOf k))).paused = false) ∧ ((((s.sendDue k ch.toNat).core k).physCluster (fdestCluster fd)).bind (fun j => (s.sendDue k ch.toNat).physCore j (fdestCore fd)) = some d) :=
  ⟨sFreeTok, 0, 7, 0x70000, noToken, [], [], 0, by dsimp only; decide +kernel⟩

theorem wit_ChannelMessages_4 : ∃ (s : State) (n q cyc rank : Nat) (t : Token) (ruled : Bool),
    let c := (s.core n).qs
    (t.cepoch = s.epochOf (kOf n) ∧ t.repoch = (s.core n).steer.roleEpoch) ∧ (c.isClosed q = false) ∧ (ruled = false ∨ c.mode q ≠ 2) ∧ ((c.queue q).length < 16) :=
  ⟨sFree.modQs 0 (fun q => { q with qmode := 0x8000 }), 0, 7, 5, 20, noToken, false, by dsimp only; decide +kernel⟩

theorem wit_RuledDeliveries_1 : ∃ (s : State) (src dst : RulingSlot) (h : Option ParityHit) (f : Flit) (a : Arrival) (u : State),
    let test := fun (x : Arrival) => x.isAt (placeOf dst) && decide (entryDstKind x.entry < 2)
    (dst.port = 0) ∧ (s.move (placeOf src) test h = some (f, a, u)) :=
  ⟨sRoute 0x80020000, slot0, slot0, none, noToken.flit, aRoute 0x80020000, uRoute 0x80020000 0, by dsimp only; decide +kernel⟩

theorem wit_RuledDeliveries_2 : ∃ (s : State) (src dst : RulingSlot) (h : Option ParityHit) (f : Flit) (a : Arrival) (u : State),
    let test := fun (x : Arrival) => x.isAt (placeOf dst) && decide (entryDstKind x.entry = 2)
    (dst.port = 0) ∧ (s.move (placeOf src) test h = some (f, a, u)) :=
  ⟨sRoute 0x80020400, slot0, slot0, none, noToken.flit, aRoute 0x80020400, uRoute 0x80020400 2, by dsimp only; decide +kernel⟩

theorem wit_RuledDeliveries_3 : ∃ (s : State) (src dst : RulingSlot) (h : Option ParityHit) (f : Flit) (a : Arrival) (u : State),
    let test := fun (x : Arrival) => x.isAt (placeOf dst) && decide (entryDstKind x.entry = 3)
    (dst.port = 0) ∧ (s.move (placeOf src) test h = some (f, a, u)) :=
  ⟨sRoute 0x80020600, slot0, slot0, none, noToken.flit, aRoute 0x80020600, uRoute 0x80020600 3, by dsimp only; decide +kernel⟩

theorem wit_RuledDeliveries_4 : ∃ (s : State) (a : Arrival) (f : Flit) (n : Nat),
    let b := Place.ofKey a.place
    let i := entryDstIndex a.entry
    let t := s.after (32 * b.k) a.cycle 4
    (b.k < 48) ∧ (s.physCore b.k (entryDstCore a.entry) = some n) :=
  ⟨sRoute 0x80020000, aRoute 0x80020000, noToken.flit, 0, by dsimp only; decide +kernel⟩

theorem wit_RuledDeliveries_5 : ∃ (s : State) (src : Place) (test : Arrival → Bool) (h : Option ParityHit) (f : Flit) (a : Arrival) (u : State),
    (s.move src test h = some (f, a, u)) :=
  ⟨sRoute 0x80020000, placeOf slot0, fun _ => true, none, noToken.flit, aRoute 0x80020000, vRoute 0x80020000, by decide +kernel⟩

theorem wit_RuledDeliveries_6 : ∃ (s : State) (n : Nat) (te : Bool) (ch : Nat) (p : Place) (f : Flit) (r : List Flit),
    let w := s.wayOf p
    let k := p.k
    let c := s.slotCycle p
    ((s.core n).flits te ch = f :: r) :=
  ⟨sRoute 0x80020000, 0, false, 2, placeOf slot0, noToken.flit, [], by dsimp only; decide +kernel⟩

theorem wit_RuledDeliveries_7 : ∃ (s : State) (src dst : RulingSlot) (h : Option ParityHit),
    let p := placeOf src
    let lost := fun (t : State) => (t.cluster p.k).router.flying.any (fun x => x.origins.contains p.key && !x.lost.isEmpty)
    let s1 := if lost s = true then s else s.takeAt p
    (s.deliverAt src dst (fun k => decide (k < 2)) h = none) ∧ ((s.part (s.partOf p.k)).paused = false) :=
  ⟨sUnread, slotOut, slot0, none, by dsimp only; decide +kernel⟩

theorem wit_RuledDeliveries_8 : ∃ (s : State) (n : Fin 1536) (ch : BitVec 3) (fd : Word) (tok : Token) (post : List NetMsg) (k : Fin 48),
    let v := s.sendDue n.val ch.toNat
    let q : CombiningQueue := .cluster k (BitVec.ofNat 4 (fdestIndex fd))
    (v.net = .freeTok n ch.toNat fd tok :: post) ∧ (fdestKind fd = true) ∧ ((v.part (v.partOf (kOf n))).paused = false) ∧ ((v.core n).physCluster (fdestCluster fd) = some k.val) :=
  ⟨{ (sFree.modErrs 0 (fun e => { e with cmap := [(0, 0)] })) with net := [.freeTok 0 7 0x8F0000 noToken] }, 0, 7, 0x8F0000, noToken, [], 0, by dsimp only; decide +kernel⟩

theorem wit_RuledDeliveries_9 : ∃ (s : State) (q : CombiningQueue) (r : CqResult) (rest : List CqResult) (d : Nat),
    let i := cqIdx q
    let g := (s.cqOf q).cfg i
    let u := s.modCq q (fun c => { c with results := c.results.set i rest })
    ((s.cqOf q).results.get [] i = r :: rest) ∧ (s.cqDest q = some d) ∧ ((s.part (s.partOf (kOf d))).paused = false) ∧ (s.cycleDue d r.cycle = true) :=
  ⟨sCombine, .cluster 0 15, rCombine, [], 0, by dsimp only; decide +kernel⟩

theorem wit_DeadlockResults_3 : ∃ (s : State) (k : Fin 48),
    let cyc := s.quill.scan.get [] k
    (cyc ≠ []) :=
  ⟨sFree.modQuill (fun q => { q with scan := [(47, [1504])] }), 47, by dsimp only; decide +kernel⟩

theorem wit_DeadlockResults_4 : ∃ (s : State) (p : Fin 4) (cyc : List Nat) (r : List (List Nat)),
    let q := s.quill
    (q.deadlock.get [] (declaredKey p) = cyc :: r) :=
  ⟨sFree.modQuill (fun q => { q with deadlock := [(7, [[0, 32]])] }), 3, [0, 32], [], by dsimp only; decide +kernel⟩

theorem wit_DeadlockResults_5 : ∃ (s : State) (a : Nat) (r : List Nat) (c : Nat) (q : Bool),
    ((s.core a).ctl.context = some c) :=
  ⟨sFree, 0, [], 0, true, by decide +kernel⟩

theorem wit_StrokeResults_1 : ∃ (s : State) (p : Fin 4) (o : Bool) (rules : List RuleEcc) (cal : List XCal),
    (s.strokesRun p = true) ∧ (∀ e ∈ rules, s.partOf e.k.val ≠ p.val) :=
  ⟨sOn, 0, true, [{ k := 47, port := 15, slice := 3, slot := 255, uncorrectable := true }], [], by decide +kernel⟩

theorem wit_StrokeResults_2 : ∃ (s : State) (p : Fin 4) (o : Bool) (e : RuleEcc) (cal : List XCal),
    let u := s.ruleEcc e
    (s.strokesRun p = true) ∧ (s.partOf e.k.val = p.val) ∧ (e.uncorrectable = true) :=
  ⟨sOn, 0, true, { k := 0, port := 15, slice := 3, slot := 255, uncorrectable := true }, [], by dsimp only; decide +kernel⟩

theorem wit_StrokeResults_3 : ∃ (s : State) (p : Fin 4),
    ((s.part p).stroke.holdSince.isSome = true) ∧ ((s.part p).stroke.stall = none) ∧ ((s.part p).ckptPause = none) :=
  ⟨sOn.modStroke 3 (fun x => { x with holdSince := some 0 }), 3, by decide +kernel⟩

theorem wit_StrokeResults_4 : ∃ (s : State) (p : Nat),
    let v := s.modPart p (fun x => { x with lagHold := none })
    (s.lagging p = none) :=
  ⟨sOn, 0, by dsimp only; decide +kernel⟩

theorem wit_StrokeResults_5 : ∃ (s : State) (p : Fin 4),
    (s.strokesRun p = true) :=
  ⟨sOn, 0, by decide +kernel⟩

theorem wit_StrokeResults_7 : ∃ (s : State) (p : Nat),
    (∀ c ∈ s.liveContexts p, (s.ctx c).lc.life ≠ .starting) :=
  ⟨sOn, 0, by decide +kernel⟩

theorem wit_InkwellService_1 : ∃ (s : State) (k : Fin 48) (ecc : List (Nat × Ecc)) (col : BitVec 64) (l : Landing) (m : Nat),
    let v := s.inkSettle k
    let h := landFields l.header
    let fs := v.streamOf l.core l.stream
    let off := h.off + 32 * l.done
    let u := (v.dropStream l.core l.stream (m + 1)).inkFind k ((slotWords off).take (8 * (m + 1))) 2 0 ecc
    let t := (fs.take (m + 1)).zipIdx.foldl (fun t e => t.landOne k h (off + 32 * e.2) e.1 (col.extractLsb' (32 * e.2) 32)) u
    let hit := (List.range (m + 1)).any (fun i => u.landAdmits k h (off + 32 * i) && decide (col.extractLsb' (32 * i) 32 ≠ 0))
    ((s.part (s.partOf k)).ckptPause = none) ∧ (s.domOn k = true) ∧ (s.liveContexts (s.partOf k) ≠ []) ∧ ((v.cluster k).ink.landing = some l) ∧ (slotFlits fs.length (h.count - l.done) off = m + 1) :=
  ⟨sLanding, 0, [(8, .corrected)], 0x100000000, { core := 0, stream := 7, header := 0x10000000000000000000000000000000000000000, done := 0 }, 1, by dsimp only; decide +kernel⟩

theorem wit_InkwellService_2 : ∃ (s : State) (k off : Nat) (h : LandHeader) (f : Flit) (hit : BitVec 32),
    let a := inkBase k + off
    let t := s.landOne k h off f hit
    (s.landOutside k h = false) ∧ (h.isRemote = false) ∧ (off % 32 = 0) ∧ ((s.cluster k).ink.checking = false) :=
  ⟨sFree, 47, 64, { src := 0, window := 63, isRemote := false, count := 8, off := 64 }, { data := 1, blot := true }, 0x80000000, by dsimp only; decide +kernel⟩

theorem wit_InkwellService_3 : ∃ (s : State) (k off : Nat) (h : LandHeader) (f : Flit) (hit : BitVec 32),
    (s.landOutside k h = true ∨ (h.isRemote = true ∧ s.windowAdmits k h off = false)) :=
  ⟨sFree, 47, 64, { src := 0, window := 63, isRemote := true, count := 8, off := 64 }, { data := 1, blot := true }, 0, by decide +kernel⟩

theorem wit_InkwellService_4 : ∃ (s : State) (k : Fin 48) (ecc : List (Nat × Ecc)) (sp : List Nat),
    let i := (s.cluster k).ink
    let n := i.position.toNat
    let u := ((s.inkSettle k).inkFind k (slotWords (n * 64)) 3 0 ecc).inkSplits k (slotWords (n * 64)) sp
    (i.scrub = true) ∧ (s.domOn k = true) :=
  ⟨sLanding.modInk 0 (fun i => { i with scrub := true, position := 1572863 }), 0, [(100663288, .uncorrectable)], [100663292], by dsimp only; decide +kernel⟩

theorem wit_ControllerResults_1 : ∃ (s : State) (m : Fin 16) (a : RulingSlot) (h : Option ParityHit) (e l t : Ecc) (ls : List LineFind) (f : Flit) (b : Arrival) (u : State),
    let fm : Finds := { first := some (e, l, t), lines := ls }
    ((s.mcOf m).st = .ready) ∧ (s.move (placeOf a) (fun x => decide ((Place.ofKey x.place).port = 13 ∧ (Place.ofKey x.place).k = mcCluster m)) h = some (f, b, u)) :=
  ⟨sMcRoute, 0, slotMc, none, .ok, .ok, .ok, [], noToken.flit, aMc, uMcRoute, by dsimp only; decide +kernel⟩

theorem wit_ControllerResults_2 : ∃ (s : State) (m : Fin 16) (e l t : Ecc) (ls : List LineFind) (q : McSpine) (rest : List McSpine),
    let fm : Finds := { first := some (e, l, t), lines := ls }
    let x : McPending := { request := { data := 0, blot := false }, data := [], unit := some q, since := s.time, no := s.bulk.arrivals }
    ((s.mcOf m).st = .ready) ∧ ((s.mcOf m).spine = q :: rest) :=
  ⟨sMc.modMc 15 (fun x => { x with st := .ready, spine := [{ addr := 0, unit := 1, blot := true, message := 0 }] }), 15, .ok, .ok, .ok, [], { addr := 0, unit := 1, blot := true, message := 0 }, [], by dsimp only; decide +kernel⟩

theorem wit_ControllerResults_3 : ∃ (s : State) (m : Nat) (q : McPending) (n : Nat),
    let r := requestOf q.request
    (q.unit = none) ∧ (r.host = false) ∧ (s.requestCore m r = some n) ∧ (r.kind = 5) :=
  ⟨(sMc.modErrs 0 (fun e => { e with cmap := [(0, 0)] })).modInk 0 (fun i => { i with cmap := [(0, 0)] }), 0, mcReq 0xA000000000000000000000000000000000000000000000000000000000000000, 0, by dsimp only; decide +kernel⟩

theorem wit_ControllerResults_4 : ∃ (s : State) (m : Nat) (q : McPending) (f : Finds),
    let r := requestOf q.request
    let line := r.addr / 64 * 64
    (q.unit = none) ∧ (r.host = false) ∧ (r.kind < 2) ∧ (s.bulkServed m (s.requestCtx m r) line = true) :=
  ⟨sMc, 0, { mcReq 0x2000000000000000000000000000000000000000000000000000000000000000 with data := [] }, .of [], by dsimp only; decide +kernel⟩

theorem wit_ControllerResults_5 : ∃ (s : State) (m : Fin 16) (sl : Bool) (slot : Byte) (dst : RulingSlot) (h : Option ParityHit),
    let p : Place := ⟨mcCluster m, 13, if sl = true then 1 else 0, slot.toNat⟩
    let tst := fun (a : Arrival) => a.isAt (placeOf dst)
    let v := s.takeRead m sl p
    ((s.part (s.partOf p.k)).paused = false) ∧ (dst.port = 0) :=
  ⟨sMcReturn, 0, false, 0, slotMcLocal, none, by dsimp only; decide +kernel⟩

theorem wit_ControllerResults_7 : ∃ (s : State) (m : Fin 16) (ls : List LineFind) (q : McPending) (rest : List McPending),
    let r := requestOf q.request
    let u := s.modMc m (fun x => { x with pending := rest })
    let c := u.requestCtx m r
    ((s.mcOf m).pending = q :: rest) ∧ ((s.mcOf m).st = .ready) ∧ (q.unit = none) ∧ (r.host = false) ∧ (r.kind = 4) ∧ (q.request.blot = false) :=
  ⟨sMcReq 0x8000000000000000000000000000000000000000000000000000000000000000, 0, [], mcReq 0x8000000000000000000000000000000000000000000000000000000000000000, [], by dsimp only; decide +kernel⟩

theorem wit_ControllerResults_8 : ∃ (s : State) (m : Fin 16) (q : McPending) (rest : List McPending) (tbl child : List (BitVec 22 × Ecc)) (ls : List LineFind),
    let r := requestOf q.request
    let u := s.modMc m (fun x => { x with pending := rest })
    let c := u.requestCtx m r
    let v := u.readTable c r.slot tbl ls
    let w := v.readTable c r.other child ls
    ((s.mcOf m).pending = q :: rest) ∧ ((s.mcOf m).st = .ready) ∧ (q.unit = none) ∧ (r.host = false) ∧ (r.kind = 5) ∧ (s.mcWaits m q = false) :=
  ⟨sMcReq 0xA000000000000000000000000000000000000000000000000000000000000000, 0, mcReq 0xA000000000000000000000000000000000000000000000000000000000000000, [], [], [], [], by dsimp only; decide +kernel⟩

theorem wit_ControllerResults_10 : ∃ (s v : State) (c n p : Nat),
    (s.rewindSlot c n p = .inr v) :=
  ⟨sSlot, vRewind, 0, 31, 4194303, by decide +kernel⟩

theorem wit_ControllerResults_11 : ∃ (s : State) (m : Fin 16) (ch : BitVec 2) (n : Byte) (ls : List LineFind),
    ((s.mcOf m).st = .ready) :=
  ⟨sMc, 0, 3, 255, [], by decide +kernel⟩

theorem wit_QueueRegisters_1 : ∃ (s : State) (fn : Fin 6) (n : Byte) (v : Word),
    let f := fn.val
    let q := s.qp f n.toNat
    let x := v.toNat % 4096
    (n.toNat < pairsOf f) :=
  ⟨sQp, 0, 0, 3, by dsimp only; decide +kernel⟩

theorem wit_QueueRegisters_2 : ∃ (s : State) (fn : Fin 6) (v : Word),
    let f := fn.val
    let r := (s.fn f).ring
    let x := v.toNat % 65536
    (fn ≠ 5) :=
  ⟨sRing, 0, 3, by dsimp only; decide +kernel⟩

theorem wit_QueueRegisters_3 : ∃ (s : State) (fn : Fin 6) (n : Byte) (v : Word),
    let f := fn.val
    let q := s.qp f n.toNat
    let sq := (v.extractLsb' 12 12).toNat + 1
    let cq := (v.extractLsb' 0 12).toNat + 1
    (n.toNat < pairsOf f) :=
  ⟨sQp, 4, 15, 0x1003, by dsimp only; decide +kernel⟩

theorem wit_QueueRegisters_4 : ∃ (s : State) (fn : Fin 6) (n : Byte) (v : Word),
    let f := fn.val
    let q := s.qp f n.toNat
    (n.toNat < pairsOf f) ∧ (q.active = true) :=
  ⟨sQp, 0, 0, 3, by dsimp only; decide +kernel⟩

theorem wit_QueueRegisters_5 : ∃ (s : State) (fn : Fin 6) (v : Word),
    let f := fn.val
    let r := (s.fn f).ring
    let size := v.toNat % 65536 + 1
    (fn ≠ 5) ∧ (r.held = []) :=
  ⟨sFree, 4, 0x80000000, by dsimp only; decide +kernel⟩

theorem wit_QueueRegisters_6 : ∃ (s : State) (fn : Fin 6) (v : Word),
    (fn ≠ 5) :=
  ⟨sFree, 4, 0x40000000, by decide +kernel⟩

theorem wit_FetchAndInterrupts_1 : ∃ (s : State) (fn : Fin 6) (n : Byte) (p : List Byte),
    let f := fn.val
    let q := s.qp f n.toNat
    let k := pktHdr fn n p
    let op := fld p 0 2
    let out := (s.pairFails f n.toNat)
    let u := (s.fetched f n.toNat p none).readBlock k p
    let v := (s.fetched f n.toNat p (some s.host.nextJob)).readBlock k p
    (n.toNat < pairsOf f) ∧ (s.mayFetch f n.toNat = true) :=
  ⟨sFetch, 0, 0, List.replicate 64 0, by dsimp only; decide +kernel⟩

theorem wit_FetchAndInterrupts_3 : ∃ (s : State) (h : Hdr) (c : CmdSpec) (ok : Bool) (body : State → State) (x : Left),
    let f := h.fn.val
    let v := (s.fn f).version
    let q := s.qp f h.sq.toNat
    let s1 := (s.modFn f (fun y => { y with left := y.left.erase x, version := x.version })).modQp f h.sq.toNat (fun _ => Qp.reset)
    let t := (s1.checked h c ok body).silence s.host.nextJob
    (s.quill.running = true) ∧ (s.leftFor h c = some x) :=
  ⟨sLeft, hPf, pfOnly 0x0105 true .any, true, id, { sq := 0, version := true, packet := leftPkt }, by dsimp only; decide +kernel⟩

theorem wit_FetchAndInterrupts_4 : ∃ (s : State) (f n : Nat),
    (s.mayFetch f n = true) :=
  ⟨sFetch, 0, 0, by decide +kernel⟩

theorem wit_FetchAndInterrupts_5 : ∃ (s : State) (i : Nat) (j : Job),
    (s.job i = some j) ∧ (j.silent = false) :=
  ⟨sJob, 0, jStop, by decide +kernel⟩

theorem wit_FetchAndInterrupts_6 : ∃ (s : State) (fn : Fin 6) (v : BitVec 6),
    let x := s.fn fn.val
    (x.msixDue.contains v.toNat = true) :=
  ⟨sFree.modFn 4 (fun x => { x with msixDue := [63] }), 4, 63, by dsimp only; decide +kernel⟩

theorem wit_FetchAndInterrupts_7 : ∃ (s : State) (fn : Fin 6),
    let f := fn.val
    (fn ≠ 5) :=
  ⟨sFree, 4, by dsimp only; decide +kernel⟩

theorem wit_FetchAndInterrupts_8 : ∃ (s : State) (fn : Fin 6) (b : Bool) (g : BitVec 3) (v : BitVec 6) (a : Word) (l : HostLink),
    let f := fn.val
    (fn ≠ 5) ∧ (linkLegal l = true ∧ l.speed ≠ 0) :=
  ⟨sFree, 4, true, 4, 63, 1, { speed := 6, width := 8, l0p := 2, flit := true }, by dsimp only; decide +kernel⟩

theorem wit_HostAccessResults_1 : ∃ (s : State) (fn : Fin 6),
    (fn ≠ 5) :=
  ⟨sFree, 4, by decide +kernel⟩

theorem wit_HostAccessResults_2 : ∃ (s : State) (fn : Fin 6) (off : BitVec 40) (len : Nat) (e : List (DWord × Ecc)) (sp : List DWord) (ls : List LineFind),
    let a := s.bar2Addr fn.val off.toNat
    (fn ≠ 5) :=
  ⟨sFree, 4, 0x4000000000, 8, [], [], [], by dsimp only; decide +kernel⟩

theorem wit_HostAccessResults_3 : ∃ (s : State) (fn : Fin 6) (off : BitVec 40) (bs : List Byte) (p : Bool) (e : List (DWord × Ecc)) (lost : List Nat) (ls : List LineFind),
    let a := s.bar2Addr fn.val off.toNat
    let n := bs.length
    (fn ≠ 5) ∧ (bs ≠ []) :=
  ⟨sFree, 0, 64, [1, 2], true, [], [], [], by dsimp only; decide +kernel⟩

theorem wit_HostAccessResults_4 : ∃ (s sx : State) (h : Hdr) (ha da : DWord) (len : Word) (dir : Byte),
    (startsIn s h ({ anySpec 0x0301 true false false with work := true, args := [(16, 8, ha.toNat), (24, 8, da.toNat), (32, 4, len.toNat), (36, 1, dir.toNat)] }) sx) ∧ (sx.refuses h ({ anySpec 0x0301 true false false with work := true, args := [(16, 8, ha.toNat), (24, 8, da.toNat), (32, 4, len.toNat), (36, 1, dir.toNat)] }) (decide (ha.toNat % 4 = 0 ∧ da.toNat % 4 = 0 ∧ 4 ≤ len.toNat ∧ len.toNat % 4 = 0 ∧ dir.toNat ≤ 1)) = none) :=
  ⟨sFree, (sFree).claim (hPf) ({ anySpec 0x0301 true false false with work := true, args := [(16, 8, (0x1000 : DWord).toNat), (24, 8, (0x2000 : DWord).toNat), (32, 4, (4 : Word).toNat), (36, 1, (1 : Byte).toNat)] }), hPf, 0x1000, 0x2000, 4, 1, by decide +kernel⟩

theorem wit_HostAccessResults_5 : ∃ (s : State) (i : Nat) (j : Job) (h : Hdr) (ha da : DWord) (len : Word) (dir : Byte) (m : DevMem) (po lost : List Nat) (e : List (DWord × Ecc)) (sp : List DWord) (ls : List LineFind) (t : State),
    let a := da.toNat
    let n := len.toNat
    let u := (t.devFinds m a n e ls).devSplits m a n sp
    let k := (u.devStore m).cleanBytes a n
    (s.job i = some j) ∧ (j.cmd = .dma h ha da len dir) ∧ (s.dmaTarget h a n = some m) ∧ (s.devReady m a n ls = some t) :=
  ⟨sDma, 0, jDma, hPf, 0x1000, 0x2000, 4, 1, .bulk, [], [], [], [], [], sDmaReady, by dsimp only; decide +kernel⟩

theorem wit_HostAccessResults_6 : ∃ (s : State) (m : Nat) (r : Request) (data : List Flit) (since n : Nat),
    let c := s.requestCtx m r
    let f := (s.ctx c).run.fn
    let a := s.hostAddr n c (r.addr % 2 ^ 40)
    (s.requestCore m r = some n) ∧ (homeOf (kOf n) = m) :=
  ⟨sHome, 0, requestOf noToken.flit, [], 9, 0, by dsimp only; decide +kernel⟩

theorem wit_SyncOpResults_1 : ∃ (s sx : State) (h : Hdr) (sc cl : Byte) (ix : Half) (v : Word) (c : Counter),
    let x := sx.counter c
    (startsIn s h ({ anySpec 0x0307 true false false with work := true, args := [(16, 1, 0), (17, 1, sc.toNat), (18, 1, cl.toNat), (20, 2, ix.toNat)] ++ [(24, 4, v.toNat)] }) sx) ∧ (sx.refuses h ({ anySpec 0x0307 true false false with work := true, args := [(16, 1, 0), (17, 1, sc.toNat), (18, 1, cl.toNat), (20, 2, ix.toNat)] ++ [(24, 4, v.toNat)] }) (syncArgsOk h sc cl ix) = none) ∧ (sx.syncTarget h sc cl ix = .inr c) :=
  ⟨sFree, (sFree).claim (hPf) ({ anySpec 0x0307 true false false with work := true, args := [(16, 1, 0), (17, 1, (2 : Byte).toNat), (18, 1, (0 : Byte).toNat), (20, 2, (4095 : Half).toNat)] ++ [(24, 4, (1 : Word).toNat)] }), hPf, 2, 0, 4095, 1, .device 4095, by dsimp only; decide +kernel⟩

theorem wit_SyncOpResults_2 : ∃ (s sx : State) (h : Hdr) (sc cl : Byte) (ix : Half) (v : Word) (st : Status),
    (startsIn s h ({ anySpec 0x0307 true false false with work := true, args := [(16, 1, 0), (17, 1, sc.toNat), (18, 1, cl.toNat), (20, 2, ix.toNat)] ++ [(24, 4, v.toNat)] }) sx) ∧ (sx.refuses h ({ anySpec 0x0307 true false false with work := true, args := [(16, 1, 0), (17, 1, sc.toNat), (18, 1, cl.toNat), (20, 2, ix.toNat)] ++ [(24, 4, v.toNat)] }) (syncArgsOk h sc cl ix) = none) ∧ (sx.syncTarget h sc cl ix = .inl st) :=
  ⟨sFree, (sFree).claim (hPf) ({ anySpec 0x0307 true false false with work := true, args := [(16, 1, 0), (17, 1, (1 : Byte).toNat), (18, 1, (0 : Byte).toNat), (20, 2, (255 : Half).toNat)] ++ [(24, 4, (1 : Word).toNat)] }), hPf, 1, 0, 255, 1, .wrongState, by decide +kernel⟩

theorem wit_SyncOpResults_3 : ∃ (s sx : State) (h : Hdr) (sc cl : Byte) (ix : Half) (v : Word) (c : Counter),
    let x := sx.counter c
    (startsIn s h ({ anySpec 0x0307 true false false with work := true, args := [(16, 1, 1), (17, 1, sc.toNat), (18, 1, cl.toNat), (20, 2, ix.toNat)] ++ [(24, 4, v.toNat)] }) sx) ∧ (sx.refuses h ({ anySpec 0x0307 true false false with work := true, args := [(16, 1, 1), (17, 1, sc.toNat), (18, 1, cl.toNat), (20, 2, ix.toNat)] ++ [(24, 4, v.toNat)] }) (syncArgsOk h sc cl ix) = none) ∧ (sx.syncTarget h sc cl ix = .inr c) :=
  ⟨sFree, (sFree).claim (hPf) ({ anySpec 0x0307 true false false with work := true, args := [(16, 1, 1), (17, 1, (2 : Byte).toNat), (18, 1, (0 : Byte).toNat), (20, 2, (4095 : Half).toNat)] ++ [(24, 4, (1 : Word).toNat)] }), hPf, 2, 0, 4095, 1, .device 4095, by dsimp only; decide +kernel⟩

theorem wit_SyncOpResults_4 : ∃ (s sx : State) (h : Hdr) (sc cl : Byte) (ix : Half) (v : Word) (st : Status),
    (startsIn s h ({ anySpec 0x0307 true false false with work := true, args := [(16, 1, 1), (17, 1, sc.toNat), (18, 1, cl.toNat), (20, 2, ix.toNat)] ++ [(24, 4, v.toNat)] }) sx) ∧ (sx.refuses h ({ anySpec 0x0307 true false false with work := true, args := [(16, 1, 1), (17, 1, sc.toNat), (18, 1, cl.toNat), (20, 2, ix.toNat)] ++ [(24, 4, v.toNat)] }) (syncArgsOk h sc cl ix) = none) ∧ (sx.syncTarget h sc cl ix = .inl st) :=
  ⟨sFree, (sFree).claim (hPf) ({ anySpec 0x0307 true false false with work := true, args := [(16, 1, 1), (17, 1, (1 : Byte).toNat), (18, 1, (0 : Byte).toNat), (20, 2, (255 : Half).toNat)] ++ [(24, 4, (1 : Word).toNat)] }), hPf, 1, 0, 255, 1, .wrongState, by decide +kernel⟩

theorem wit_SyncOpResults_5 : ∃ (s sx : State) (h : Hdr) (sc cl : Byte) (ix : Half) (c : Counter),
    let x := sx.counter c
    (startsIn s h ({ anySpec 0x0307 true false false with work := true, args := [(16, 1, 2), (17, 1, sc.toNat), (18, 1, cl.toNat), (20, 2, ix.toNat)] ++ [] }) sx) ∧ (sx.refuses h ({ anySpec 0x0307 true false false with work := true, args := [(16, 1, 2), (17, 1, sc.toNat), (18, 1, cl.toNat), (20, 2, ix.toNat)] ++ [] }) (syncArgsOk h sc cl ix) = none) ∧ (sx.syncTarget h sc cl ix = .inr c) :=
  ⟨sFree, (sFree).claim (hPf) ({ anySpec 0x0307 true false false with work := true, args := [(16, 1, 2), (17, 1, (2 : Byte).toNat), (18, 1, (0 : Byte).toNat), (20, 2, (4095 : Half).toNat)] ++ [] }), hPf, 2, 0, 4095, .device 4095, by dsimp only; decide +kernel⟩

theorem wit_SyncOpResults_6 : ∃ (s sx : State) (h : Hdr) (sc cl : Byte) (ix : Half) (st : Status),
    (startsIn s h ({ anySpec 0x0307 true false false with work := true, args := [(16, 1, 2), (17, 1, sc.toNat), (18, 1, cl.toNat), (20, 2, ix.toNat)] ++ [] }) sx) ∧ (sx.refuses h ({ anySpec 0x0307 true false false with work := true, args := [(16, 1, 2), (17, 1, sc.toNat), (18, 1, cl.toNat), (20, 2, ix.toNat)] ++ [] }) (syncArgsOk h sc cl ix) = none) ∧ (sx.syncTarget h sc cl ix = .inl st) :=
  ⟨sFree, (sFree).claim (hPf) ({ anySpec 0x0307 true false false with work := true, args := [(16, 1, 2), (17, 1, (1 : Byte).toNat), (18, 1, (0 : Byte).toNat), (20, 2, (255 : Half).toNat)] ++ [] }), hPf, 1, 0, 255, .wrongState, by decide +kernel⟩

theorem wit_SyncOpResults_7 : ∃ (s sx : State) (h : Hdr) (sc cl : Byte) (ix : Half) (v : Word) (t : Word) (c : Counter),
    let x := sx.counter c
    (startsIn s h ({ anySpec 0x0307 true false false with work := true, args := [(16, 1, 3), (17, 1, sc.toNat), (18, 1, cl.toNat), (20, 2, ix.toNat)] ++ [(24, 4, v.toNat), (28, 4, t.toNat)] }) sx) ∧ (sx.refuses h ({ anySpec 0x0307 true false false with work := true, args := [(16, 1, 3), (17, 1, sc.toNat), (18, 1, cl.toNat), (20, 2, ix.toNat)] ++ [(24, 4, v.toNat), (28, 4, t.toNat)] }) (syncArgsOk h sc cl ix) = none) ∧ (sx.syncTarget h sc cl ix = .inr c) :=
  ⟨sFree, (sFree).claim (hPf) ({ anySpec 0x0307 true false false with work := true, args := [(16, 1, 3), (17, 1, (2 : Byte).toNat), (18, 1, (0 : Byte).toNat), (20, 2, (4095 : Half).toNat)] ++ [(24, 4, (1 : Word).toNat), (28, 4, (0 : Word).toNat)] }), hPf, 2, 0, 4095, 1, 0, .device 4095, by dsimp only; decide +kernel⟩

theorem wit_SyncOpResults_8 : ∃ (s sx : State) (h : Hdr) (sc cl : Byte) (ix : Half) (v : Word) (t : Word) (st : Status),
    (startsIn s h ({ anySpec 0x0307 true false false with work := true, args := [(16, 1, 3), (17, 1, sc.toNat), (18, 1, cl.toNat), (20, 2, ix.toNat)] ++ [(24, 4, v.toNat), (28, 4, t.toNat)] }) sx) ∧ (sx.refuses h ({ anySpec 0x0307 true false false with work := true, args := [(16, 1, 3), (17, 1, sc.toNat), (18, 1, cl.toNat), (20, 2, ix.toNat)] ++ [(24, 4, v.toNat), (28, 4, t.toNat)] }) (syncArgsOk h sc cl ix) = none) ∧ (sx.syncTarget h sc cl ix = .inl st) :=
  ⟨sFree, (sFree).claim (hPf) ({ anySpec 0x0307 true false false with work := true, args := [(16, 1, 3), (17, 1, (1 : Byte).toNat), (18, 1, (0 : Byte).toNat), (20, 2, (255 : Half).toNat)] ++ [(24, 4, (1 : Word).toNat), (28, 4, (0 : Word).toNat)] }), hPf, 1, 0, 255, 1, 0, .wrongState, by decide +kernel⟩

theorem wit_SyncOpResults_9 : ∃ (s : State) (i : Nat) (j : Job) (h : Hdr) (sc cl : Byte) (ix : Half) (v t : Word) (c : Counter),
    let x := s.counter c
    (s.job i = some j) ∧ (j.cmd = .syncOpWaitGe h sc cl ix v t) ∧ (s.syncTarget h sc cl ix = .inr c) :=
  ⟨sWait, 0, jWait, hPf, 2, 0, 4095, 1, 5, .device 4095, by dsimp only; decide +kernel⟩

theorem wit_RegisterWrites_4 : ∃ (s : State) (fn : Fin 6) (n : Fin 64) (v sets : Word),
    (fn ≠ 5) :=
  ⟨sFree, 4, 63, 0, 0, by decide +kernel⟩

theorem wit_CapturingReads_4 : ∃ (s sx : State) (h : Hdr) (r : Reply) (wh k : Byte) (fi : List (DWord × Ecc)) (sp : List DWord),
    let n := k.toNat
    let t := sx.quillFinds (dumpReads wh.toNat n) fi sp
    let d := t.dumpBody wh.toNat n
    (startsIn s h ((anySpec 0x0903 true false true).on (replyArgs r ++ [(28, 1, wh.toNat), (29, 1, k.toNat)])) sx) ∧ (sx.refuses h ((anySpec 0x0903 true false true).on (replyArgs r ++ [(28, 1, wh.toNat), (29, 1, k.toNat)])) (decide (wh.toNat ≤ 2 ∧ k.toNat < 48) && (decide (h.fn = 0 ∨ h.fn = 5) || decide (quarterOf k.toNat = h.fn.val - 1)) && replyOk h r) = none) :=
  ⟨sFree, (sFree).claim (hPf) ((anySpec 0x0903 true false true).on (replyArgs ({ addr := 64, len := 0, ok := true } : Reply) ++ [(28, 1, (0 : Byte).toNat), (29, 1, (47 : Byte).toNat)])), hPf, { addr := 64, len := 0, ok := true }, 0, 47, [], [], by dsimp only; decide +kernel⟩

theorem wit_PortTraining_1 : ∃ (s : State) (f : Fin 16) (light : BitVec 5),
    let e := BitVec.ofNat 4 (2 ^ (f.val / 4))
    let on := s.modFabCnt (fun c => { c with laser := c.laser ||| e })
    ((s.port f).st = .detect) :=
  ⟨sPort .detect, 15, 3, by dsimp only; decide +kernel⟩

theorem wit_PortTraining_3 : ∃ (l : List Nat) (nar : Bool),
    (l.length ≤ 5) :=
  ⟨[0, 1, 2, 3, 4], false, by decide +kernel⟩

theorem wit_PortTraining_4 : ∃ (s : State) (f : Fin 16) (b : List Byte),
    let own := decide (fld b 4 2 = s.dev.fbId.toNat)
    let u := (((s.activate f b).postUp f b).postPeer f (s.port f).peer b).settlePort f
    ((s.port f).st = .exchange) :=
  ⟨sPort .exchange, 15, [], by dsimp only; decide +kernel⟩

theorem wit_PortTraining_6 : ∃ (s : State) (f : Fin 16) (lane : BitVec 3) (vl : BitVec 3),
    ((s.port f).st = .active) :=
  ⟨sPort .active, 15, 4, 1, by decide +kernel⟩

theorem wit_PortTraining_7 : ∃ (s : State) (n : Nat) (f : FabricFlit),
    let l := (s.port n).link
    let v := flitLane f
    let r := l.stamp f
    let u := s.sendFlit n f
    (l.wait = []) :=
  ⟨sPort .active, 15, { kind := 1, dst := 0, src := 0, hops := 0, vl := true, low := 0, data := [] }, by dsimp only; decide +kernel⟩

theorem wit_PortTraining_8 : ∃ (s : State) (n : Nat) (f : FabricFlit) (body : State → State),
    let l := (s.port n).link
    let u := (s.takeSeq n f).takeTrailer n f
    (l.wait = []) :=
  ⟨sPort .active, 15, { kind := 1, dst := 0, src := 0, hops := 0, vl := true, low := 0, data := [] }, id, by dsimp only; decide +kernel⟩

theorem wit_PortTraining_9 : ∃ (s : State) (f : Fin 16) (lane : Option (BitVec 3)) (un : Bool),
    let p := s.port f
    let fec := p.fecTimes.filter (fun t => decide (s.time < t + 1000000)) ++ (if un = true then [s.time] else [])
    let rep := p.replayTimes.filter (fun t => decide (s.time < t + 1000000000)) ++ [s.time]
    let u := s.modPort f (fun x => { x with replays := satInc x.replays, uncorr := if un = true then satInc x.uncorr else x.uncorr, fecTimes := fec, replayTimes := rep, link := { x.link with discard := true } })
    (p.st = .active) :=
  ⟨sPort .active, 15, some 4, true, by dsimp only; decide +kernel⟩

theorem wit_PortTraining_10 : ∃ (s : State) (f : Fin 16) (ps : BitVec 5) (nar : Bool) (b : List Byte),
    let p := s.port f
    let v := s.modPort f (fun x => { x with usable := ps })
    (p.st = .retrain) :=
  ⟨sPort .retrain, 15, 3, false, [], by dsimp only; decide +kernel⟩

theorem wit_PortCommands_1 : ∃ (s sx : State) (h : Hdr) (port : Byte),
    let f := port.toNat
    let p := sx.port f
    let l := (sx.qpart (sx.partNamed (f / 4))).life
    (startsIn s h ((pfOnly 0x0404 false .any).on [(16, 1, port.toNat), (17, 1, 0)]) sx) ∧ (sx.refuses h ((pfOnly 0x0404 false .any).on [(16, 1, port.toNat), (17, 1, 0)]) (decide (port.toNat ≤ 15) && true) = none) :=
  ⟨sPort .off, (sPort .off).claim (hPf) ((pfOnly 0x0404 false .any).on [(16, 1, (15 : Byte).toNat), (17, 1, 0)]), hPf, 15, by dsimp only; decide +kernel⟩

theorem wit_PortCommands_2 : ∃ (s sx : State) (h : Hdr) (port : Byte),
    let f := port.toNat
    let p := sx.port f
    let l := (sx.qpart (sx.partNamed (f / 4))).life
    let out := sx.quill.health.portOut.getLsbD f
    (startsIn s h ((pfOnly 0x0404 false .any).on [(16, 1, port.toNat), (17, 1, 1)]) sx) ∧ (sx.refuses h ((pfOnly 0x0404 false .any).on [(16, 1, port.toNat), (17, 1, 1)]) (decide (port.toNat ≤ 15) && true) = none) :=
  ⟨sPort .off, (sPort .off).claim (hPf) ((pfOnly 0x0404 false .any).on [(16, 1, (15 : Byte).toNat), (17, 1, 1)]), hPf, 15, by dsimp only; decide +kernel⟩

theorem wit_PortCommands_3 : ∃ (s sx : State) (h : Hdr) (port : Byte),
    let f := port.toNat
    let p := sx.port f
    let l := (sx.qpart (sx.partNamed (f / 4))).life
    let out := sx.quill.health.portOut.getLsbD f
    (startsIn s h ((pfOnly 0x0404 false .any).on [(16, 1, port.toNat), (17, 1, 2)]) sx) ∧ (sx.refuses h ((pfOnly 0x0404 false .any).on [(16, 1, port.toNat), (17, 1, 2)]) (decide (port.toNat ≤ 15) && true) = none) :=
  ⟨sPort .off, (sPort .off).claim (hPf) ((pfOnly 0x0404 false .any).on [(16, 1, (15 : Byte).toNat), (17, 1, 2)]), hPf, 15, by dsimp only; decide +kernel⟩

theorem wit_PortCommands_4 : ∃ (s sx : State) (h : Hdr) (port lane : Byte),
    let f := port.toNat
    let back := fun (t : State) (l : Nat) => (t.modLane f l (fun x => { x with retired := false, counted := [], retrains := 0 })).moraineAppend 8 [(16, 1, f), (17, 1, l)]
    let u := if lane = 0xFF then [0, 1, 2, 3, 4].foldl back sx else back sx lane.toNat
    (startsIn s h ((pfOnly 0x0405 false .any).on [(16, 1, port.toNat), (17, 1, lane.toNat)]) sx) ∧ (sx.refuses h ((pfOnly 0x0405 false .any).on [(16, 1, port.toNat), (17, 1, lane.toNat)]) (decide (port.toNat ≤ 15) && (decide (lane.toNat ≤ 4 ∨ lane = 0xFF))) = none) ∧ ((sx.qpart (sx.partNamed (f / 4))).life ≠ .starting ∧ (sx.qpart (sx.partNamed (f / 4))).life ≠ .stopping) :=
  ⟨sPort .active, (sPort .active).claim (hPf) ((pfOnly 0x0405 false .any).on [(16, 1, (15 : Byte).toNat), (17, 1, (0xFF : Byte).toNat)]), hPf, 15, 0xFF, by dsimp only; decide +kernel⟩

theorem wit_SessionResults_1 : ∃ (s sx : State) (h : Hdr) (lo hi mn : Byte),
    let f := h.fn.val
    (startsIn s h ((anySpec 0x0001 true true true).on [(16, 1, lo.toNat), (17, 1, hi.toNat), (18, 1, mn.toNat)]) sx) ∧ (sx.refuses h ((anySpec 0x0001 true true true).on [(16, 1, lo.toNat), (17, 1, hi.toNat), (18, 1, mn.toNat)]) true = none) :=
  ⟨sFree, (sFree).claim (hPf) ((anySpec 0x0001 true true true).on [(16, 1, (1 : Byte).toNat), (17, 1, (1 : Byte).toNat), (18, 1, (0 : Byte).toNat)]), hPf, 1, 1, 0, by dsimp only; decide +kernel⟩

theorem wit_SessionResults_2 : ∃ (s sx : State) (h : Hdr) (r : Reply),
    (startsIn s h ((anySpec 0x0002 true true true).on (replyArgs r)) sx) ∧ (sx.refuses h ((anySpec 0x0002 true true true).on (replyArgs r)) (replyOk h r) = none) :=
  ⟨sFree, (sFree).claim (hPf) ((anySpec 0x0002 true true true).on (replyArgs ({ addr := 64, len := 0, ok := true } : Reply))), hPf, { addr := 64, len := 0, ok := true }, by decide +kernel⟩

theorem wit_SessionResults_3 : ∃ (s sx : State) (h : Hdr) (r : Reply),
    (startsIn s h ((anySpec 0x0505 true true true).on (replyArgs r)) sx) ∧ (sx.refuses h ((anySpec 0x0505 true true true).on (replyArgs r)) (replyOk h r) = none) :=
  ⟨sFree, (sFree).claim (hPf) ((anySpec 0x0505 true true true).on (replyArgs ({ addr := 64, len := 0, ok := true } : Reply))), hPf, { addr := 64, len := 0, ok := true }, by decide +kernel⟩

theorem wit_SessionResults_4 : ∃ (s sx : State) (h : Hdr) (r : Reply) (m : Byte),
    (startsIn s h ((anySpec 0x0003 true false false).on (replyArgs r ++ [(28, 1, m.toNat)])) sx) ∧ (sx.refuses h ((anySpec 0x0003 true false false).on (replyArgs r ++ [(28, 1, m.toNat)])) (replyOk h r && decide (m.toNat ≤ 2 ∨ m = 0xFF)) = none) :=
  ⟨sFree, (sFree).claim (hPf) ((anySpec 0x0003 true false false).on (replyArgs ({ addr := 64, len := 0, ok := true } : Reply) ++ [(28, 1, (2 : Byte).toNat)])), hPf, { addr := 64, len := 0, ok := true }, 2, by decide +kernel⟩

theorem wit_SessionResults_5 : ∃ (s sx : State) (h : Hdr) (r : Reply) (m : Byte),
    (startsIn s h ((anySpec 0x0502 true true true).on (replyArgs r ++ [(28, 1, m.toNat)])) sx) ∧ (sx.refuses h ((anySpec 0x0502 true true true).on (replyArgs r ++ [(28, 1, m.toNat)])) (replyOk h r && decide (m.toNat ≤ 2)) = none) :=
  ⟨sFree, (sFree).claim (hPf) ((anySpec 0x0502 true true true).on (replyArgs ({ addr := 64, len := 0, ok := true } : Reply) ++ [(28, 1, (2 : Byte).toNat)])), hPf, { addr := 64, len := 0, ok := true }, 2, by decide +kernel⟩

theorem wit_SessionResults_7 : ∃ (s sx : State) (h : Hdr) (m : BitVec 256),
    (startsIn s h ((anySpec 0x0004 true true true).on [(16, 32, m.toNat)]) sx) ∧ (sx.refuses h ((anySpec 0x0004 true true true).on [(16, 32, m.toNat)]) true = none) :=
  ⟨sFree, (sFree).claim (hPf) ((anySpec 0x0004 true true true).on [(16, 32, (0 : BitVec 256).toNat)]), hPf, 0, by decide +kernel⟩

theorem wit_SessionResults_8 : ∃ (s sx : State) (h : Hdr) (b : List Byte),
    let x := fun (o n : Nat) => leNat ((b.drop o).take n)
    let c := (anySpec 0x0104 false true false).on [(16, b.length, leNat b)]
    (startsIn s h c sx) :=
  ⟨sFree, sFree.claim { hPf with indirect := true } ((anySpec 0x0104 false true false).on [(16, 96, leNat ([2, 1, 2, 1, 10, 0, 1, 0] ++ List.replicate 88 0))]), { hPf with indirect := true }, [2, 1, 2, 1, 10, 0, 1, 0] ++ List.replicate 88 0, by dsimp only; decide +kernel⟩

theorem wit_ServiceAndModes_1 : ∃ (s sx : State) (h : Hdr) (k ix : Byte),
    let p := sx.partNamed (ix.toNat % 4)
    let f := ix.toNat % 16
    let back := fun (b : Bool) (t : State) => (if b = true then t.complete h 0x0506 .ok 0 else sx.complete h 0x0506 .wrongState 0)
    (startsIn s h ((anySpec 0x0506 false true false).on [(16, 1, k.toNat), (17, 1, ix.toNat)]) sx) ∧ (sx.refuses h ((anySpec 0x0506 false true false).on [(16, 1, k.toNat), (17, 1, ix.toNat)]) (decide (k.toNat ≤ 2 ∧ (k = 1 → ix.toNat ≤ 3) ∧ (k = 2 → ix.toNat ≤ 15))) = none) :=
  ⟨sFree, (sFree).claim (hPf) ((anySpec 0x0506 false true false).on [(16, 1, (2 : Byte).toNat), (17, 1, (15 : Byte).toNat)]), hPf, 2, 15, by dsimp only; decide +kernel⟩

theorem wit_ServiceAndModes_2 : ∃ (s sx : State) (h : Hdr) (det ck seam pat drift : Byte),
    let ps := sx.namedParts h
    (startsIn s h ((anySpec 0x0102 true false false).on [(16, 1, det.toNat), (17, 1, ck.toNat), (18, 1, seam.toNat), (19, 1, pat.toNat), (20, 1, drift.toNat)]) sx) ∧ (sx.refuses h ((anySpec 0x0102 true false false).on [(16, 1, det.toNat), (17, 1, ck.toNat), (18, 1, seam.toNat), (19, 1, pat.toNat), (20, 1, drift.toNat)]) (modeByteOk det 1 && modeByteOk ck 1 && modeByteOk seam 2 && modeByteOk pat 2 && modeByteOk drift 1) = none) :=
  ⟨sFree, (sFree).claim (hDev) ((anySpec 0x0102 true false false).on [(16, 1, (0xFF : Byte).toNat), (17, 1, (1 : Byte).toNat), (18, 1, (2 : Byte).toNat), (19, 1, (0xFF : Byte).toNat), (20, 1, (0 : Byte).toNat)]), hDev, 0xFF, 1, 2, 0xFF, 0, by dsimp only; decide +kernel⟩

theorem wit_ServiceAndModes_3 : ∃ (s sx : State) (h : Hdr) (m : Byte),
    (startsIn s h ((pfOnly 0x0101 false .device).on [(16, 1, m.toNat)]) sx) ∧ (sx.refuses h ((pfOnly 0x0101 false .device).on [(16, 1, m.toNat)]) (decide (m.toNat ≤ 2)) = none) :=
  ⟨sFree, (sFree).claim (hDev) ((pfOnly 0x0101 false .device).on [(16, 1, (2 : Byte).toNat)]), hDev, 2, by decide +kernel⟩

theorem wit_ServiceAndModes_4 : ∃ (s : State) (m : BitVec 2) (p : Nat),
    (m ≠ 3) ∧ (p < 4) ∧ (partOfQuarter m p = p) :=
  ⟨sFree, 2, 3, by decide +kernel⟩

theorem wit_ContextRuns_1 : ∃ (s sx : State) (h : Hdr) (wm : BitVec 256) (ck fr : Byte) (bs hb hl : Word) (ls : List LineFind),
    let c := sx.hdrCtx h
    let l := (sx.ctx c).lc
    let cmd := Instr.startContext h wm ck fr bs hb hl
    let s1 := sx.cancelHeld c
    let id := s1.host.nextJob
    (startsIn s h ((ctxSpec 0x0202 true).on [(16, 32, wm.toNat), (48, 1, ck.toNat), (49, 1, fr.toNat), (52, 4, bs.toNat), (56, 4, hb.toNat), (60, 4, hl.toNat)]) sx) ∧ (sx.refuses h ((ctxSpec 0x0202 true).on [(16, 32, wm.toNat), (48, 1, ck.toNat), (49, 1, fr.toNat), (52, 4, bs.toNat), (56, 4, hb.toNat), (60, 4, hl.toNat)]) (decide (ck.toNat ≤ 12 ∧ fr.toNat ≤ 1 ∧ hb.toNat < 2 ^ 24 ∧ hb.toNat + hl.toNat ≤ 2 ^ 24)) = none) :=
  ⟨sFree, (sFree).claim (hPf) ((ctxSpec 0x0202 true).on [(16, 32, (0 : BitVec 256).toNat), (48, 1, (12 : Byte).toNat), (49, 1, (1 : Byte).toNat), (52, 4, (0 : Word).toNat), (56, 4, (0 : Word).toNat), (60, 4, (0 : Word).toNat)]), hPf, 0, 12, 1, 0, 0, 0, [], by dsimp only; decide +kernel⟩

theorem wit_ContextRuns_2 : ∃ (s sx : State) (h : Hdr),
    let c := sx.hdrCtx h
    let l := (sx.ctx c).lc
    let id := sx.host.nextJob
    let u := (sx.addJob h 0x0203 (.stopContextAtEdge h) 0)
    (startsIn s h ((ctxSpec 0x0203 false).on [(16, 1, 0)]) sx) ∧ (sx.refuses h ((ctxSpec 0x0203 false).on [(16, 1, 0)]) true = none) :=
  ⟨sFree, (sFree).claim (hPf) ((ctxSpec 0x0203 false).on [(16, 1, 0)]), hPf, by dsimp only; decide +kernel⟩

theorem wit_ContextRuns_3 : ∃ (s sx : State) (h : Hdr),
    let c := sx.hdrCtx h
    let l := (sx.ctx c).lc
    let id := sx.host.nextJob
    let u := (sx.addJob h 0x0203 (.stopContextAtQuiet h) 0)
    (startsIn s h ((ctxSpec 0x0203 false).on [(16, 1, 1)]) sx) ∧ (sx.refuses h ((ctxSpec 0x0203 false).on [(16, 1, 1)]) true = none) :=
  ⟨sFree, (sFree).claim (hPf) ((ctxSpec 0x0203 false).on [(16, 1, 1)]), hPf, by dsimp only; decide +kernel⟩

theorem wit_ContextData_1 : ∃ (s sx : State) (h : Hdr) (ha len : DWord),
    let c := sx.hdrCtx h
    let l := (sx.ctx c).lc
    (startsIn s h ((ctxSpec 0x0201 true).on [(16, 8, ha.toNat), (24, 8, len.toNat)]) sx) ∧ (sx.refuses h ((ctxSpec 0x0201 true).on [(16, 8, ha.toNat), (24, 8, len.toNat)]) (decide (ha.toNat % 64 = 0)) = none) :=
  ⟨sFree, (sFree).claim (hPf) ((ctxSpec 0x0201 true).on [(16, 8, (64 : DWord).toNat), (24, 8, (4096 : DWord).toNat)]), hPf, 64, 4096, by dsimp only; decide +kernel⟩

theorem wit_ContextData_2 : ∃ (s : State) (i : Nat) (j : Job) (h : Hdr) (ha len : DWord),
    let c := s.hdrCtx h
    let l := (s.ctx c).lc
    (s.job i = some j) ∧ (j.cmd = .loadScroll h ha len) :=
  ⟨sJobOf (.loadScroll hPf 64 4096), 0, jobOf (.loadScroll hPf 64 4096), hPf, 64, 4096, by dsimp only; decide +kernel⟩

theorem wit_ContextData_3 : ∃ (s sx : State) (h : Hdr) (mi sm : Byte) (pd : Half) (pw : Byte) (ha hl : DWord) (sc : Scroll),
    let c := sx.hdrCtx h
    let l := (sx.ctx c).lc
    let k : CkptCmd := { job := sx.host.nextJob, mirror := mi.toNat, sm4 := decide (sm = 1), peerDevice := pd, peerWindow := pw.toNat, hostAddr := ha, hostLen := hl }
    (startsIn s h ((ctxSpec 0x0204 true).on [(16, 1, mi.toNat), (17, 1, sm.toNat), (18, 2, pd.toNat), (20, 1, pw.toNat), (24, 8, ha.toNat), (32, 8, hl.toNat)]) sx) ∧ (sx.refuses h ((ctxSpec 0x0204 true).on [(16, 1, mi.toNat), (17, 1, sm.toNat), (18, 2, pd.toNat), (20, 1, pw.toNat), (24, 8, ha.toNat), (32, 8, hl.toNat)]) (decide (mi.toNat ≤ 2 ∧ sm.toNat ≤ 1 ∧ pw.toNat ≤ 63) && (decide (mi ≠ 2) || decide (pd.toNat < 4096)) && (decide (mi ≠ 1) || decide (ha.toNat % 65536 = 0))) = none) ∧ ((sx.ctx c).scroll = some sc) ∧ (l.life = .on) ∧ (sx.quietPoints c ≠ []) :=
  ⟨sScroll .on, (sScroll .on).claim (hPf) ((ctxSpec 0x0204 true).on [(16, 1, (2 : Byte).toNat), (17, 1, (1 : Byte).toNat), (18, 2, (4095 : Half).toNat), (20, 1, (63 : Byte).toNat), (24, 8, (0 : DWord).toNat), (32, 8, (0 : DWord).toNat)]), hPf, 2, 1, 4095, 63, 0, 0, scQuiet, by dsimp only; decide +kernel⟩

theorem wit_ContextData_4 : ∃ (s sx : State) (h : Hdr) (src : Byte) (ha sq : DWord) (sc : Scroll),
    let c := sx.hdrCtx h
    let l := (sx.ctx c).lc
    (startsIn s h ((ctxSpec 0x0205 true).on [(16, 1, src.toNat), (24, 8, ha.toNat), (32, 8, sq.toNat)]) sx) ∧ (sx.refuses h ((ctxSpec 0x0205 true).on [(16, 1, src.toNat), (24, 8, ha.toNat), (32, 8, sq.toNat)]) (decide (src.toNat ≤ 1) && (decide (src = 0) || decide (ha.toNat % 65536 = 0))) = none) ∧ ((sx.ctx c).scroll = some sc) :=
  ⟨sScroll .off, (sScroll .off).claim (hPf) ((ctxSpec 0x0205 true).on [(16, 1, (1 : Byte).toNat), (24, 8, (65536 : DWord).toNat), (32, 8, (0 : DWord).toNat)]), hPf, 1, 65536, 0, scQuiet, by dsimp only; decide +kernel⟩

theorem wit_ContextData_5 : ∃ (s : State) (i : Nat) (j : Job) (h : Hdr) (src : Byte) (ha sq : DWord) (sc : Scroll) (slots : List Nat),
    let c := s.hdrCtx h
    let l := (s.ctx c).lc
    (s.job i = some j) ∧ (j.cmd = .restore h src ha sq) ∧ ((s.ctx c).scroll = some sc) ∧ (l.life = .off) ∧ (l.restartDue = false) ∧ (s.newSlots c sc = some slots) :=
  ⟨{ sScroll .off with host := (sJobOf (.restore hPf 1 65536 0)).host }, 0, jobOf (.restore hPf 1 65536 0), hPf, 1, 65536, 0, scQuiet, (({ sScroll .off with host := (sJobOf (.restore hPf 1 65536 0)).host } : State).newSlots 0 scQuiet).getD [], by dsimp only; decide +kernel⟩

theorem wit_ContextData_6 : ∃ (s sx : State) (h : Hdr) (ru ci : Byte) (st : DWord) (sc : Scroll),
    let c := sx.hdrCtx h
    let l := (sx.ctx c).lc
    let p := ctxPart c
    let r : Reconf := { discard := false, context := c, ruling := ru.toNat, configId := BitVec.ofNat 4 ci.toNat, stroke := st, evaluated := 0, job := sx.host.nextJob }
    (startsIn s h ((ctxSpec 0x0206 true).on [(16, 1, 0), (17, 1, ru.toNat), (18, 1, ci.toNat), (24, 8, st.toNat)]) sx) ∧ (sx.refuses h ((ctxSpec 0x0206 true).on [(16, 1, 0), (17, 1, ru.toNat), (18, 1, ci.toNat), (24, 8, st.toNat)]) (reconfOk ru ci) = none) ∧ ((sx.ctx c).scroll = some sc) ∧ (l.life = .on) ∧ ((sx.liveContexts p).length = 1) ∧ (l.work = none) ∧ (reconfKnown sc (sx.ctx c).run.layout ru.toNat ci.toNat = true) ∧ (st = 0 ∨ (sx.ctxStroke c).toNat + 2 ≤ st.toNat) :=
  ⟨sScroll .on, (sScroll .on).claim (hPf) ((ctxSpec 0x0206 true).on [(16, 1, 0), (17, 1, (3 : Byte).toNat), (18, 1, (15 : Byte).toNat), (24, 8, (0 : DWord).toNat)]), hPf, 3, 15, 0, scQuiet, by dsimp only; decide +kernel⟩

theorem wit_ContextData_7 : ∃ (s sx : State) (h : Hdr) (ru ci : Byte) (st : DWord) (sc : Scroll),
    let c := sx.hdrCtx h
    let l := (sx.ctx c).lc
    let p := ctxPart c
    let r : Reconf := { discard := true, context := c, ruling := ru.toNat, configId := BitVec.ofNat 4 ci.toNat, stroke := st, evaluated := 0, job := sx.host.nextJob }
    (startsIn s h ((ctxSpec 0x0206 true).on [(16, 1, 1), (17, 1, ru.toNat), (18, 1, ci.toNat), (24, 8, st.toNat)]) sx) ∧ (sx.refuses h ((ctxSpec 0x0206 true).on [(16, 1, 1), (17, 1, ru.toNat), (18, 1, ci.toNat), (24, 8, st.toNat)]) (reconfOk ru ci) = none) ∧ ((sx.ctx c).scroll = some sc) ∧ (l.life = .on) ∧ ((sx.liveContexts p).length = 1) ∧ (l.work = none) ∧ (reconfKnown sc (sx.ctx c).run.layout ru.toNat ci.toNat = true) ∧ (st = 0 ∨ (sx.ctxStroke c).toNat + 2 ≤ st.toNat) :=
  ⟨sScroll .on, (sScroll .on).claim (hPf) ((ctxSpec 0x0206 true).on [(16, 1, 1), (17, 1, (3 : Byte).toNat), (18, 1, (15 : Byte).toNat), (24, 8, (0 : DWord).toNat)]), hPf, 3, 15, 0, scQuiet, by dsimp only; decide +kernel⟩

theorem wit_ContextData_8 : ∃ (s sx : State) (h : Hdr) (ix : Byte),
    let c := sx.hdrCtx h
    (startsIn s h ((ctxSpec 0x0207 true).on [(16, 1, ix.toNat)]) sx) ∧ (sx.refuses h ((ctxSpec 0x0207 true).on [(16, 1, ix.toNat)]) (decide (ix.toNat ≤ 7 ∨ ix = 0xFF)) = none) :=
  ⟨sFree, (sFree).claim (hPf) ((ctxSpec 0x0207 true).on [(16, 1, (7 : Byte).toNat)]), hPf, 7, by dsimp only; decide +kernel⟩

theorem wit_ContextData_9 : ∃ (s sx : State) (h : Hdr) (r : Reply),
    (startsIn s h ((anySpec 0x0103 true true false).on (replyArgs r)) sx) ∧ (sx.refuses h ((anySpec 0x0103 true true false).on (replyArgs r)) (replyOk h r) = none) :=
  ⟨sFree, (sFree).claim (hPf) ((anySpec 0x0103 true true false).on (replyArgs ({ addr := 64, len := 32, ok := true } : Reply))), hPf, { addr := 64, len := 32, ok := true }, by decide +kernel⟩

theorem wit_CheckpointWork_1 : ∃ (s : State) (c : Fin 16) (fi : List (DWord × Ecc)) (sp : List DWord) (w : CkptWork) (sc : Scroll),
    let u := (s.quillFinds (s.ckptReads c) fi sp).writeImage c w sc ((sc.layout (s.ctx c).run.layout).getD [])
    let p := ctxPart c.val
    ((s.part p).ckptPause = some c.val) ∧ ((s.ctx c).run.frozen = false) ∧ ((s.ctx c).lc.work = some w) ∧ ((s.ctx c).scroll = some sc) :=
  ⟨sPaused, 0, [(0, .corrected)], [], wCkpt, scQuiet, by dsimp only; decide +kernel⟩

theorem wit_CheckpointWork_2 : ∃ (s : State) (i : Nat) (j : Job) (h : Hdr),
    let c := 4 * s.partNamed h.partition.toNat + h.context.toNat % 4
    (s.job i = some j) ∧ (j.cmd = .stopContextAtQuiet h) ∧ ((s.ctx c).lc.stopQuiet = some i) ∧ ((s.ctx c).lc.work = none) :=
  ⟨(sJobOf (.stopContextAtQuiet hPf)).modLife 0 (fun l => { l with stopQuiet := some 0 }), 0, jobOf (.stopContextAtQuiet hPf), hPf, by dsimp only; decide +kernel⟩

theorem wit_CheckpointWork_3 : ∃ (s : State) (i : Nat) (j : Job) (h : Hdr) (mi sm : Byte) (pd : Half) (pw : Byte) (ha hl : DWord) (k : CkptCmd),
    let c := 4 * s.partNamed h.partition.toNat + h.context.toNat % 4
    (s.job i = some j) ∧ (j.cmd = .checkpoint h mi sm pd pw ha hl) ∧ ((s.ctx c).lc.ckpt = some k) ∧ (k.job = i) ∧ ((s.ctx c).lc.work = none) :=
  ⟨(sJobOf (.checkpoint hPf 0 0 0 0 0 0)).modLife 0 (fun l => { l with ckpt := some kCkpt }), 0, jobOf (.checkpoint hPf 0 0 0 0 0 0), hPf, 0, 0, 0, 0, 0, 0, kCkpt, by dsimp only; decide +kernel⟩

theorem wit_CheckpointWork_4 : ∃ (s : State) (i : Nat) (j : Job) (h : Hdr) (mi sm : Byte) (pd : Half) (pw : Byte) (ha hl : DWord),
    let c := 4 * s.partNamed h.partition.toNat + h.context.toNat % 4
    (s.job i = some j) ∧ (j.cmd = .checkpoint h mi sm pd pw ha hl) ∧ ((s.ctx c).lc.ckpt = none) :=
  ⟨sJobOf (.checkpoint hPf 2 0 0 0 0 0), 0, jobOf (.checkpoint hPf 2 0 0 0 0 0), hPf, 2, 0, 0, 0, 0, 0, by dsimp only; decide +kernel⟩

theorem wit_SequenceCommands_1 : ∃ (s sx : State) (h : Hdr) (sl lg ti : Byte) (ba pg : Half),
    let n := sl.toNat
    let c := sx.hdrCtx h
    (startsIn s h ({ opcode := 0x0302, vf := true, bc := false, safe := false, part := .one, context := true, work := false, args := [(16, 1, sl.toNat), (17, 1, lg.toNat), (18, 1, ti.toNat), (20, 2, ba.toNat), (22, 2, pg.toNat)] }) sx) ∧ (sx.refuses h ({ opcode := 0x0302, vf := true, bc := false, safe := false, part := .one, context := true, work := false, args := [(16, 1, sl.toNat), (17, 1, lg.toNat), (18, 1, ti.toNat), (20, 2, ba.toNat), (22, 2, pg.toNat)] }) ((decide (6 ≤ lg.toNat ∧ lg.toNat ≤ 14 ∧ ti.toNat < 48 ∧ ba.toNat ≤ 1535 ∧ ba.toNat + pg.toNat ≤ 1536)) && [sl].all (fun n => sx.slotNamed h n)) = none) ∧ ((sx.qpart (sx.hdrPart h)).life ≠ .starting ∧ (sx.qpart (sx.hdrPart h)).life ≠ .stopping) :=
  ⟨sFree, (sFree).claim (hPf) ({ opcode := 0x0302, vf := true, bc := false, safe := false, part := .one, context := true, work := false, args := [(16, 1, (7 : Byte).toNat), (17, 1, (14 : Byte).toNat), (18, 1, (47 : Byte).toNat), (20, 2, (1535 : Half).toNat), (22, 2, (1 : Half).toNat)] }), hPf, 7, 14, 47, 1535, 1, by dsimp only; decide +kernel⟩

theorem wit_SequenceCommands_2 : ∃ (s sx : State) (h : Hdr) (a b : Byte) (p : Word) (tb : List (BitVec 22 × Ecc)) (ls : List LineFind),
    let x := sx.slot a.toNat
    let t := sx.readTable x.ctx a.toNat tb ls
    (startsIn s h ({ opcode := 0x0303, vf := true, bc := false, safe := false, part := .one, context := false, work := false, args := [(16, 1, a.toNat), (17, 1, b.toNat), (20, 4, p.toNat)] }) sx) ∧ (sx.refuses h ({ opcode := 0x0303, vf := true, bc := false, safe := false, part := .one, context := false, work := false, args := [(16, 1, a.toNat), (17, 1, b.toNat), (20, 4, p.toNat)] }) (posOk p && [a, b].all (fun n => sx.slotNamed h n)) = none) ∧ ((sx.qpart (sx.hdrPart h)).life ≠ .starting ∧ (sx.qpart (sx.hdrPart h)).life ≠ .stopping) :=
  ⟨sFree, (sFree).claim (hPf) ({ opcode := 0x0303, vf := true, bc := false, safe := false, part := .one, context := false, work := false, args := [(16, 1, (0 : Byte).toNat), (17, 1, (7 : Byte).toNat), (20, 4, (0 : Word).toNat)] }), hPf, 0, 7, 0, [(0, .corrected)], [], by dsimp only; decide +kernel⟩

theorem wit_SequenceCommands_3 : ∃ (s sx : State) (h : Hdr) (a : Byte) (p : Word) (tb : List (BitVec 22 × Ecc)) (ls : List LineFind),
    let x := sx.slot a.toNat
    let t := sx.readTable x.ctx a.toNat tb ls
    (startsIn s h ({ opcode := 0x0304, vf := true, bc := false, safe := false, part := .one, context := false, work := false, args := [(16, 1, a.toNat), (20, 4, p.toNat)] }) sx) ∧ (sx.refuses h ({ opcode := 0x0304, vf := true, bc := false, safe := false, part := .one, context := false, work := false, args := [(16, 1, a.toNat), (20, 4, p.toNat)] }) (posOk p && [a].all (fun n => sx.slotNamed h n)) = none) ∧ ((sx.qpart (sx.hdrPart h)).life ≠ .starting ∧ (sx.qpart (sx.hdrPart h)).life ≠ .stopping) :=
  ⟨sFree, (sFree).claim (hPf) ({ opcode := 0x0304, vf := true, bc := false, safe := false, part := .one, context := false, work := false, args := [(16, 1, (7 : Byte).toNat), (20, 4, (0 : Word).toNat)] }), hPf, 7, 0, [(0, .uncorrectable)], [], by dsimp only; decide +kernel⟩

theorem wit_SequenceCommands_4 : ∃ (s sx : State) (h : Hdr) (a b : Byte) (tb tc : List (BitVec 22 × Ecc)) (ls : List LineFind),
    let x := sx.slot a.toNat
    let t := (sx.readTable x.ctx a.toNat tb ls).readTable x.ctx b.toNat tc ls
    (startsIn s h ({ opcode := 0x0305, vf := true, bc := false, safe := false, part := .one, context := false, work := false, args := [(16, 1, a.toNat), (17, 1, b.toNat)] }) sx) ∧ (sx.refuses h ({ opcode := 0x0305, vf := true, bc := false, safe := false, part := .one, context := false, work := false, args := [(16, 1, a.toNat), (17, 1, b.toNat)] }) (true && [a, b].all (fun n => sx.slotNamed h n)) = none) ∧ ((sx.qpart (sx.hdrPart h)).life ≠ .starting ∧ (sx.qpart (sx.hdrPart h)).life ≠ .stopping) :=
  ⟨sFree, (sFree).claim (hPf) ({ opcode := 0x0305, vf := true, bc := false, safe := false, part := .one, context := false, work := false, args := [(16, 1, (0 : Byte).toNat), (17, 1, (7 : Byte).toNat)] }), hPf, 0, 7, [], [(4194303, .corrected)], [], by dsimp only; decide +kernel⟩

theorem wit_SequenceCommands_6 : ∃ (s sx : State) (h : Hdr) (sl : Byte) (tb : List (BitVec 22 × Ecc)) (ls : List LineFind),
    let n := sl.toNat
    let x := sx.slot n
    let t := sx.readTable x.ctx n tb ls
    (startsIn s h ({ opcode := 0x0306, vf := true, bc := false, safe := false, part := .one, context := false, work := false, args := [(16, 1, sl.toNat)] }) sx) ∧ (sx.refuses h ({ opcode := 0x0306, vf := true, bc := false, safe := false, part := .one, context := false, work := false, args := [(16, 1, sl.toNat)] }) (true && [sl].all (fun n => sx.slotNamed h n)) = none) ∧ ((sx.qpart (sx.hdrPart h)).life ≠ .starting ∧ (sx.qpart (sx.hdrPart h)).life ≠ .stopping) :=
  ⟨sFree, (sFree).claim (hPf) ({ opcode := 0x0306, vf := true, bc := false, safe := false, part := .one, context := false, work := false, args := [(16, 1, (7 : Byte).toNat)] }), hPf, 7, [(0, .corrected)], [], by dsimp only; decide +kernel⟩

theorem wit_SequenceCommands_8 : ∃ (s v : State) (c a b p : Nat),
    (s.forkSlot c a b p = .inr v) :=
  ⟨sForkable, vFork, 0, 0, 7, 1, by decide +kernel⟩

theorem wit_TestCommands_1 : ∃ (s sx : State) (h : Hdr),
    let p := sx.hdrPart h
    let q := sx.qpart p
    let busy := (List.range 4).any (fun i => decide ((sx.ctx (4 * p + i)).lc.life ≠ .off) || (sx.ctx (4 * p + i)).lc.restartDue)
    (startsIn s h ({ pfOnly 0x0501 true .one with work := true, args := [(16, 1, 0)] }) sx) ∧ (sx.refuses h ({ pfOnly 0x0501 true .one with work := true, args := [(16, 1, 0)] }) true = none) :=
  ⟨sOn, (sOn).claim (hPf) ({ pfOnly 0x0501 true .one with work := true, args := [(16, 1, 0)] }), hPf, by dsimp only; decide +kernel⟩

theorem wit_TestCommands_2 : ∃ (s sx : State) (h : Hdr),
    let p := sx.hdrPart h
    let q := sx.qpart p
    let busy := (List.range 4).any (fun i => decide ((sx.ctx (4 * p + i)).lc.life ≠ .off) || (sx.ctx (4 * p + i)).lc.restartDue)
    (startsIn s h ({ pfOnly 0x0501 true .one with work := true, args := [(16, 1, 1)] }) sx) ∧ (sx.refuses h ({ pfOnly 0x0501 true .one with work := true, args := [(16, 1, 1)] }) true = none) :=
  ⟨sOn, (sOn).claim (hPf) ({ pfOnly 0x0501 true .one with work := true, args := [(16, 1, 1)] }), hPf, by dsimp only; decide +kernel⟩

theorem wit_TestCommands_3 : ∃ (s sx : State) (h : Hdr),
    let p := sx.hdrPart h
    let q := sx.qpart p
    let busy := (List.range 4).any (fun i => decide ((sx.ctx (4 * p + i)).lc.life ≠ .off) || (sx.ctx (4 * p + i)).lc.restartDue)
    (startsIn s h ({ pfOnly 0x0501 true .one with work := true, args := [(16, 1, 2)] }) sx) ∧ (sx.refuses h ({ pfOnly 0x0501 true .one with work := true, args := [(16, 1, 2)] }) true = none) :=
  ⟨sOn, (sOn).claim (hPf) ({ pfOnly 0x0501 true .one with work := true, args := [(16, 1, 2)] }), hPf, by dsimp only; decide +kernel⟩

theorem wit_TestCommands_4 : ∃ (s sx : State) (h : Hdr),
    let p := sx.hdrPart h
    let q := sx.qpart p
    let busy := (List.range 4).any (fun i => decide ((sx.ctx (4 * p + i)).lc.life ≠ .off) || (sx.ctx (4 * p + i)).lc.restartDue)
    (startsIn s h ({ pfOnly 0x0501 true .one with work := true, args := [(16, 1, 3)] }) sx) ∧ (sx.refuses h ({ pfOnly 0x0501 true .one with work := true, args := [(16, 1, 3)] }) true = none) :=
  ⟨sOn, (sOn).claim (hPf) ({ pfOnly 0x0501 true .one with work := true, args := [(16, 1, 3)] }), hPf, by dsimp only; decide +kernel⟩

theorem wit_TestCommands_5 : ∃ (s : State) (i : Nat) (j : Job) (n : Nat) (found : List BistFinding) (cal : List XCal),
    let p := s.hdrPart j.hdr
    let mine := if n = 0 then cal.filter (fun x => decide (s.partOf x.k.val = p)) else []
    let failed := mine.filter (fun x => match s.crossingClass x.k.val x.port.toNat with | some c => decide (c < x.cal.toNat) | none => false)
    let u := mine.foldl State.calibrate (found.foldl State.handleFinding s)
    let bad := found.any BistFinding.fatal
    let rows := found.filter (fun f => match f with | .inkwellRow _ _ _ _ spare => spare | _ => false)
    (s.job i = some j) ∧ (bistScope j.cmd = some n) :=
  ⟨sJobOf (.bistLpddrFull hPf), 0, jobOf (.bistLpddrFull hPf), 3, [], [], by dsimp only; decide +kernel⟩

theorem wit_TestCommands_6 : ∃ (s sx : State) (h : Hdr) (ha : DWord) (len : Word),
    let pk := fun (b : List Byte) => ({ id := BitVec.ofNat 32 (fld b 8 4), version := BitVec.ofNat 32 (fld b 12 4), patterns := fld b 16 2, bytes := b } : Pack)
    (startsIn s h ((pfOnly 0x0503 false .any).on [(16, 8, ha.toNat), (24, 4, len.toNat)]) sx) ∧ (sx.refuses h ((pfOnly 0x0503 false .any).on [(16, 8, ha.toNat), (24, 4, len.toNat)]) (decide (ha.toNat % 4 = 0)) = none) :=
  ⟨sFree, (sFree).claim (hPf) ((pfOnly 0x0503 false .any).on [(16, 8, (4 : DWord).toNat), (24, 4, (4096 : Word).toNat)]), hPf, 4, 4096, by dsimp only; decide +kernel⟩

theorem wit_TestCommands_7 : ∃ (s sx : State) (h : Hdr),
    let p := sx.hdrPart h
    let q := sx.qpart p
    (startsIn s h ({ pfOnly 0x0504 false .one with work := true }) sx) ∧ (sx.refuses h ({ pfOnly 0x0504 false .one with work := true }) true = none) :=
  ⟨sFree, (sFree).claim (hPf) ({ pfOnly 0x0504 false .one with work := true }), hPf, by dsimp only; decide +kernel⟩

theorem wit_TestCommands_8 : ∃ (s : State) (p : Fin 4) (cal : List XCal) (i : Nat),
    let q := s.qpart p
    let u := (s.resetPartition p cal).post 0x0020 3 (source 3 0 0 p 0) [(16, 1, 3), (17, 1, i), (18, 1, q.suspects.toNat), (20, 4, (s.part p).stroke.count.toNat % 2 ^ 32), (24, 4, s.msSince q.lastStrokeTime)] (some p)
    (q.replayCtx = some i) ∧ (q.replay = 1) :=
  ⟨sOn.modQPart 3 (fun q => { q with replay := 1, replayCtx := some 3, suspects := 8 }), 3, [], 3, by dsimp only; decide +kernel⟩

theorem wit_PowerCommands_1 : ∃ (s sx : State) (h : Hdr) (cal : List XCal),
    let ps := sx.namedParts h
    let id := sx.host.nextJob
    let u := ps.foldl (fun t p => t.modQPart p (fun q => { q with jobs := q.jobs ++ [id] }))
      (if ps.any (fun p => sx.partHolds p 0) = true then sx.deferJob h 0x0601 (.powerStateRun h cal) 0 else sx.addJob h 0x0601 (.powerStateRun h cal) 0)
    (startsIn s h ((anySpec 0x0601 false true true).on [(16, 1, 0)]) sx) ∧ (sx.refuses h ((anySpec 0x0601 false true true).on [(16, 1, 0)]) true = none) ∧ (sx.inSafe = false) ∧ (∀ p ∈ ps, (sx.qpart p).held = none) :=
  ⟨sOn, (sOn).claim (hDev) ((anySpec 0x0601 false true true).on [(16, 1, 0)]), hDev, [], by dsimp only; decide +kernel⟩

theorem wit_PowerCommands_2 : ∃ (s sx : State) (h : Hdr) (cal : List XCal),
    let ps := sx.namedParts h
    let id := sx.host.nextJob
    let u := ps.foldl (fun t p => t.modQPart p (fun q => { q with jobs := q.jobs ++ [id] }))
      (if ps.any (fun p => sx.partHolds p 1) = true then sx.deferJob h 0x0601 (.powerStateIdle h cal) 0 else sx.addJob h 0x0601 (.powerStateIdle h cal) 0)
    (startsIn s h ((anySpec 0x0601 false true true).on [(16, 1, 1)]) sx) ∧ (sx.refuses h ((anySpec 0x0601 false true true).on [(16, 1, 1)]) true = none) ∧ (sx.inSafe = false) ∧ (∀ p ∈ ps, (sx.qpart p).held = none) :=
  ⟨sOn, (sOn).claim (hDev) ((anySpec 0x0601 false true true).on [(16, 1, 1)]), hDev, [], by dsimp only; decide +kernel⟩

theorem wit_PowerCommands_3 : ∃ (s sx : State) (h : Hdr),
    let ps := sx.namedParts h
    let id := sx.host.nextJob
    let u := ps.foldl (fun t p => t.modQPart p (fun q => { q with jobs := q.jobs ++ [id] }))
      (if ps.any (fun p => sx.partHolds p 2) = true then sx.deferJob h 0x0601 (.powerStateRetain h) 0 else sx.addJob h 0x0601 (.powerStateRetain h) 0)
    (startsIn s h ((anySpec 0x0601 false true true).on [(16, 1, 2)]) sx) ∧ (sx.refuses h ((anySpec 0x0601 false true true).on [(16, 1, 2)]) true = none) ∧ (sx.inSafe = false) ∧ (∀ p ∈ ps, (sx.qpart p).held = none) :=
  ⟨sOn, (sOn).claim (hDev) ((anySpec 0x0601 false true true).on [(16, 1, 2)]), hDev, by dsimp only; decide +kernel⟩

theorem wit_PowerCommands_4 : ∃ (s sx : State) (h : Hdr),
    let ps := sx.namedParts h
    let id := sx.host.nextJob
    let u := ps.foldl (fun t p => t.modQPart p (fun q => { q with jobs := q.jobs ++ [id] }))
      (if ps.any (fun p => sx.partHolds p 3) = true then sx.deferJob h 0x0601 (.powerStateDormant h) 0 else sx.addJob h 0x0601 (.powerStateDormant h) 0)
    (startsIn s h ((anySpec 0x0601 false true true).on [(16, 1, 3)]) sx) ∧ (sx.refuses h ((anySpec 0x0601 false true true).on [(16, 1, 3)]) true = none) ∧ (sx.inSafe = false) ∧ (∀ p ∈ ps, (sx.qpart p).held = none) :=
  ⟨sOn, (sOn).claim (hDev) ((anySpec 0x0601 false true true).on [(16, 1, 3)]), hDev, by dsimp only; decide +kernel⟩

theorem wit_PowerCommands_5 : ∃ (s sx : State) (h : Hdr) (d : Byte) (b : Bool),
    let n := d.toNat
    let cmd := if b = true then Instr.domainOn h d else Instr.domainOff h d
    let same := sx.domainJobs n b 0
    let other := sx.domainJobs n (!b) 0
    (startsIn s h ((pfOnly 0x0602 false .any).on [(16, 1, d.toNat), (17, 1, if b = true then 1 else 0)]) sx) ∧ (sx.refuses h ((pfOnly 0x0602 false .any).on [(16, 1, d.toNat), (17, 1, if b = true then 1 else 0)]) (decide (d.toNat < 58)) = none) ∧ (∀ p ∈ sx.domainParts n, (sx.qpart p).life ≠ .starting ∧ (sx.qpart p).life ≠ .stopping) :=
  ⟨sOn, (sOn).claim (hPf) ((pfOnly 0x0602 false .any).on [(16, 1, (57 : Byte).toNat), (17, 1, if (true : Bool) = true then 1 else 0)]), hPf, 57, true, by dsimp only; decide +kernel⟩

theorem wit_PowerCommands_7 : ∃ (s sx : State) (h : Hdr) (cal : List XCal),
    let p := sx.hdrPart h
    (startsIn s h ({ opcode := 0x0603, vf := true, bc := true, safe := false, part := .one, context := false, work := true }) sx) ∧ (sx.refuses h ({ opcode := 0x0603, vf := true, bc := true, safe := false, part := .one, context := false, work := true }) true = none) ∧ ((sx.qpart p).life ≠ .starting ∧ (sx.qpart p).life ≠ .stopping) :=
  ⟨sOn, (sOn).claim (hPf) ({ opcode := 0x0603, vf := true, bc := true, safe := false, part := .one, context := false, work := true }), hPf, [], by dsimp only; decide +kernel⟩

theorem wit_PowerCommands_8 : ∃ (s sx : State) (h : Hdr) (w : Half),
    (startsIn s h ((anySpec 0x0604 false true true).on [(16, 2, w.toNat)]) sx) ∧ (sx.refuses h ((anySpec 0x0604 false true true).on [(16, 2, w.toNat)]) (decide (w = 0 ∨ (300 ≤ w.toNat ∧ w.toNat ≤ 1350))) = none) :=
  ⟨sFree, (sFree).claim (hPf) ((anySpec 0x0604 false true true).on [(16, 2, (1350 : Half).toNat)]), hPf, 1350, by decide +kernel⟩

theorem wit_PowerCommands_9 : ∃ (s : State),
    (s.module_.power.low = 3) ∧ (s.domOn 58 = true) ∧ (∀ p, p < 4 → (s.qpart p).life = .off) ∧ (s.host.jobs.all (fun e => match e.2.cmd with | .powerStateDormant _ => false | _ => true) = true) :=
  ⟨sLow, by decide +kernel⟩

theorem wit_PowerCommands_10 : ∃ (s : State) (k : Fin 48) (cal : List XCal) (r : Fin 8),
    (s.domOn k.val = true) ∧ (s.inTests = false) :=
  ⟨sLanding, 0, [], 7, by decide +kernel⟩

theorem wit_PowerCommands_11 : ∃ (s : State) (cause : Byte) (us ppb : Word) (cal : List XCal),
    let u := (s.modClock (fun c => { c with present := false, holdover := true, losses := satInc c.losses, lossAt := s.time })).post 0x0031 1 (source 3 0 0 0 0) [(16, 1, cause.toNat), (20, 4, us.toNat)] none
    let ns := s.time - s.module_.clock.lossAt
    (s.module_.entry.on = true) :=
  ⟨sFree.modEntry (fun e => { e with on := true }), 1, 100, 7, [], by dsimp only; decide +kernel⟩

theorem wit_PowerCommands_12 : ∃ (s : State) (w : Half),
    let u := s.modPower (fun x => { x with watts := w, delay := nextDelay x.delay w.toNat x.effective, maxSince := if nextDelay x.delay w.toNat x.effective = 256 then some (x.maxSince.getD s.time) else none, zeroSince := if nextDelay x.delay w.toNat x.effective = 0 then some (x.zeroSince.getD s.time) else none })
    (s.quill.running = true) :=
  ⟨sFree, 1350, by dsimp only; decide +kernel⟩

theorem wit_PowerCommands_13 : ∃ (s : State) (x : ThermSensor) (t : BitVec 16),
    let u := s.modPower (fun w => { w with temps := w.temps.set (thermIndex x) t })
    let hot := u.module_.power.hottestOf (List.range 50)
    let v := u.modPower (fun w => { w with hottest := hot.2, hotCluster := if hot.1 < 48 then BitVec.ofNat 6 hot.1 else 63 })
    (s.module_.entry.on = true) :=
  ⟨sFree.modEntry (fun e => { e with on := true }), .cluster 47, 1249, by dsimp only; decide +kernel⟩

theorem wit_FirmwareAndLockstep_1 : ∃ (s sx : State) (h : Hdr) (r : Reply) (nonce : BitVec 256),
    (startsIn s h ((anySpec 0x0701 true true true).on (replyArgs r ++ [(32, 32, nonce.toNat)])) sx) ∧ (sx.refuses h ((anySpec 0x0701 true true true).on (replyArgs r ++ [(32, 32, nonce.toNat)])) (replyOk h r) = none) :=
  ⟨sFree, (sFree).claim (hPf) ((anySpec 0x0701 true true true).on (replyArgs ({ addr := 64, len := 0, ok := true } : Reply) ++ [(32, 32, (0 : BitVec 256).toNat)])), hPf, { addr := 64, len := 0, ok := true }, 0, by decide +kernel⟩

theorem wit_FirmwareAndLockstep_2 : ∃ (s sx : State) (h : Hdr) (r : Reply) (ty ix : Half),
    (startsIn s h ((anySpec 0x0704 false true true).on (replyArgs r ++ [(28, 2, ty.toNat), (30, 2, ix.toNat)])) sx) ∧ (sx.refuses h ((anySpec 0x0704 false true true).on (replyArgs r ++ [(28, 2, ty.toNat), (30, 2, ix.toNat)])) (replyOk h r && recordTypes.contains ty.toNat) = none) :=
  ⟨sFree, (sFree).claim (hPf) ((anySpec 0x0704 false true true).on (replyArgs ({ addr := 64, len := 0, ok := true } : Reply) ++ [(28, 2, (0x11 : Half).toNat), (30, 2, (0 : Half).toNat)])), hPf, { addr := 64, len := 0, ok := true }, 0x11, 0, by decide +kernel⟩

theorem wit_FirmwareAndLockstep_3 : ∃ (s sx : State) (h : Hdr) (ha : DWord) (len : Word) (b : List Byte),
    let d := sx.deferJob h 0x0702 (.fwStage h ha len none) 0
    let id := sx.host.nextJob
    (b.length = len.toNat) ∧ (startsIn s h ((pfOnly 0x0702 true .any).on [(16, 8, ha.toNat), (24, 4, len.toNat)]) sx) ∧ (sx.refuses h ((pfOnly 0x0702 true .any).on [(16, 8, ha.toNat), (24, 4, len.toNat)]) (decide (ha.toNat % 4 = 0)) = none) :=
  ⟨sFree, (sFree).claim (hPf) ((pfOnly 0x0702 true .any).on [(16, 8, (4 : DWord).toNat), (24, 4, (1 : Word).toNat)]), hPf, 4, 1, [0], by dsimp only; decide +kernel⟩

theorem wit_FirmwareAndLockstep_4 : ∃ (s sx : State) (h : Hdr) (x : Staged),
    let d := sx.deferJob h 0x0703 (.fwCommit h) 0
    let id := sx.host.nextJob
    (startsIn s h (pfOnly 0x0703 true .any) sx) ∧ (sx.refuses h (pfOnly 0x0703 true .any) true = none) ∧ (sx.module_.ident.staged = some x) ∧ (sx.module_.ident.committing = none) :=
  ⟨sFree.modIdent (fun d => { d with staged := some (stagedOf []) }), (sFree.modIdent (fun d => { d with staged := some (stagedOf []) })).claim (hPf) (pfOnly 0x0703 true .any), hPf, stagedOf [], by dsimp only; decide +kernel⟩

theorem wit_FirmwareAndLockstep_5 : ∃ (s : State) (j : Nat),
    (s.module_.ident.committing = some j) :=
  ⟨sFree.modIdent (fun d => { d with committing := some 0 }), 0, by decide +kernel⟩

theorem wit_FirmwareAndLockstep_7 : ∃ (s sx : State) (h : Hdr) (port : Byte) (peer : Half),
    let u := ((sx.deferJob h 0x0901 (.lockstepPair h port peer) 0).modLock (fun l => { l with state := 1, port := BitVec.ofNat 4 port.toNat, peer := peer, job := some sx.host.nextJob })).sendLs (lsPlain 4)
    let out := sx.quill.health.portOut.getLsbD port.toNat
    (startsIn s h ((pfOnly 0x0901 false .any).on [(16, 1, port.toNat), (18, 2, peer.toNat)]) sx) ∧ (sx.refuses h ((pfOnly 0x0901 false .any).on [(16, 1, port.toNat), (18, 2, peer.toNat)]) (decide (port.toNat ≤ 15 ∧ peer.toNat < 4096)) = none) :=
  ⟨sFree, (sFree).claim (hPf) ((pfOnly 0x0901 false .any).on [(16, 1, (15 : Byte).toNat), (18, 2, (4095 : Half).toNat)]), hPf, 15, 4095, by dsimp only; decide +kernel⟩

theorem wit_FirmwareAndLockstep_8 : ∃ (s sx : State) (h : Hdr),
    (startsIn s h (pfOnly 0x0902 false .any) sx) ∧ (sx.refuses h (pfOnly 0x0902 false .any) true = none) :=
  ⟨sFree, (sFree).claim (hPf) (pfOnly 0x0902 false .any), hPf, by decide +kernel⟩

theorem wit_FirmwareAndLockstep_9 : ∃ (s : State) (i : Nat),
    (s.quill.ls.state = 1) ∧ (s.quill.ls.job = some i) :=
  ⟨sFree.modLock (fun l => { l with state := 1, job := some 3 }), 3, by decide +kernel⟩

theorem wit_FirmwareAndLockstep_10 : ∃ (s : State) (f : Fin 16) (d : List Byte),
    let u := s.takeNext f
    let t := fld d 4 1
    let c := 4 * fld d 2 1 + fld d 3 1
    ((s.port f).st = .active) :=
  ⟨sPort .active, 15, [], by dsimp only; decide +kernel⟩

theorem wit_MeterResults_1 : ∃ (s : State) (mv : BitVec 17),
    let m := s.module_.meter
    let since := if s.meterPowered = true then s.meterSeconds else m.since
    let inRange := decide (mv.toNat ≤ 62000)
    let lit := (s.powerless.modEntry (fun e => { e with on := true, excess := false, mv := mv.toNat })).modMeter (fun x => { x with since := since, outRange := !inRange, strayed := x.strayed || !inRange })
    (s.module_.entry.on = false) ∧ (s.module_.entry.latched = false) ∧ (50000 ≤ mv.toNat) ∧ (s.module_.entry.excess = false ∨ mv.toNat ≤ 62000) :=
  ⟨State.reset, 50000, by dsimp only; decide +kernel⟩

theorem wit_MeterResults_3 : ∃ (s : State) (mv ma : BitVec 17),
    (s.module_.entry.on = true) :=
  ⟨sFree.modEntry (fun e => { e with on := true }), 46999, 30001, by decide +kernel⟩

theorem wit_MeterResults_4 : ∃ (s : State) (ma watts cycles : Half),
    (s.module_.entry.on = true) :=
  ⟨sFree.modEntry (fun e => { e with on := true }), 30001, 1500, 3, by decide +kernel⟩

theorem wit_MeterResults_7 : ∃ (s sx : State) (h : Hdr) (r : Reply),
    let n := 160 + 128 * min 96 (sx.module_.meter.seq + 1)
    let t := sx.takeReading 2 0 (BitVec.ofNat 64 sx.time)
    (startsIn s h ((anySpec 0x0801 true true true).on (replyArgs r)) sx) ∧ (sx.refuses h ((anySpec 0x0801 true true true).on (replyArgs r)) (replyOk h r) = none) :=
  ⟨sOn, (sOn).claim (hDev) ((anySpec 0x0801 true true true).on (replyArgs (⟨0x1000, 12448, true⟩ : Reply))), hDev, ⟨0x1000, 12448, true⟩, by dsimp only; decide +kernel⟩

theorem wit_MeterResults_8 : ∃ (s sx : State) (h : Hdr) (r : Reply) (job : DWord) (close : Bool),
    let cmd := if close = true then Instr.meterStampEnd h r job else Instr.meterStampStart h r job
    let mt := sx.module_.meter
    (startsIn s h ((anySpec 0x0802 false true true).on (replyArgs r ++ [(32, 8, job.toNat), (40, 1, if close = true then 1 else 0)])) sx) ∧ (sx.refuses h ((anySpec 0x0802 false true true).on (replyArgs r ++ [(32, 8, job.toNat), (40, 1, if close = true then 1 else 0)])) (replyOk h r && decide (job ≠ 0)) = none) :=
  ⟨sOn, (sOn).claim (hDev) ((anySpec 0x0802 false true true).on (replyArgs (⟨0x1000, 128, true⟩ : Reply) ++ [(32, 8, (1 : DWord).toNat), (40, 1, if (true : Bool) = true then 1 else 0)])), hDev, ⟨0x1000, 128, true⟩, 1, true, by dsimp only; decide +kernel⟩

theorem wit_BoardController_1 : ∃ (s : State) (msg : List Byte) (cal : List XCal),
    let hd := pktHdr 5 0 msg
    let op := fld msg 0 2
    let b := msg.drop 16
    let u : State := { s with host := { s.host with bc := { s.host.bc with tags := s.host.bc.tags + 1 } } }
    (s.host.bc.tags < 4) ∧ (s.quill.running = true) ∧ (hd.indirect = false) :=
  ⟨sFree, [1], [], by dsimp only; decide +kernel⟩

theorem wit_BoardController_3 : ∃ (s : State) (ch : SpdmChannel) (msg : List Byte),
    let code := fld msg 1 1
    let o := spdmOwner ch
    let p := (s.fn o).spdm
    (ch = .mctp ∨ ch = .doe 0 ∨ (ch = .secured ∧ (s.fn 5).spdm = .session)) ∧ (s.quill.running = true) :=
  ⟨sFree, .doe 0, [], by dsimp only; decide +kernel⟩

theorem wit_BoardController_4 : ∃ (s : State) (ch : SpdmChannel) (op : Byte) (n : BitVec 256),
    let own := (List.range 4).flatMap (fun i => toLe (Config.freeWord (s.free + i)).toNat 8)
    let b := s.spdmResponse op.toNat own
    let u := s.draw.draw.draw.draw
    (ch = .mctp ∨ ch = .doe 0 ∨ (ch = .secured ∧ (s.fn 5).spdm = .session)) ∧ (s.quill.running = true) :=
  ⟨sFree, .mctp, 9, 0, by dsimp only; decide +kernel⟩

theorem wit_BoardController_5 : ∃ (s : State) (v : BitVec 3) (key : BitVec 256),
    ((s.fn 0).spdm = .session) :=
  ⟨sFree.modFn 0 (fun x => { x with spdm := .session }), 3, 5, by decide +kernel⟩

theorem wit_BoardController_6 : ∃ (s : State),
    let n := s.host.recoveryLen.toNat
    let b := s.windowBytes n
    (s.booted = false) :=
  ⟨State.reset.modIdent (fun d => { d with recoveryAt := some 0 }), by dsimp only; decide +kernel⟩

theorem wit_BoardController_run : ∃ msg : List Byte, msg.length = 64 ∧ fld msg 0 2 = 1 ∧ (pktHdr 5 0 msg).indirect = false ∧
    sFree.packetRefusal (pktHdr 5 0 msg) msg = none :=
  ⟨1 :: List.replicate 63 0, by decide +kernel⟩

theorem wit_FabricReceive_2 : ∃ (s : State) (f : Fin 16) (x : FabricFlit) (e : Ecc),
    let k := x.kind.toNat
    let mine := x.dst = s.dev.fbId ∧ x.dst.toNat < 4096
    ((s.port f).st = .active) :=
  ⟨sFab, 15, flitOf 6, .corrected, by dsimp only; decide +kernel⟩

theorem wit_FabricReceive_3 : ∃ (s : State) (f : Fin 16) (x : FabricFlit) (e : Ecc),
    ((s.port f).st = .active) ∧ (x.kind.toNat = 1) ∧ (x.dst = s.dev.fbId ∧ x.dst.toNat < 4096) :=
  ⟨sFab, 15, flitOf 1, .ok, by decide +kernel⟩

theorem wit_FabricReceive_5 : ∃ (s : State) (f : Fin 16) (x : FabricFlit) (e : Ecc),
    ((s.port f).st = .active) ∧ (x.kind.toNat = 2) ∧ (x.dst = s.dev.fbId ∧ x.dst.toNat < 4096) :=
  ⟨sFab, 15, flitOf 2, .uncorrectable, by decide +kernel⟩

theorem wit_FabricReceive_6 : ∃ (s : State) (f : Fin 16) (x : FabricFlit),
    ((s.port f).st = .active) ∧ (x.kind.toNat = 3) ∧ (x.dst = s.dev.fbId ∧ x.dst.toNat < 4096) :=
  ⟨sFab, 15, flitOf 3, by decide +kernel⟩

theorem wit_FabricReceive_8 : ∃ (s : State),
    let c := s.fabric.cfg
    let f := c.source.toNat
    (c.timeRole = false) ∧ (c.stratum ≠ 0xFF) :=
  ⟨{ sFree with fabric := { sFree.fabric with cfg := { sFree.fabric.cfg with stratum := 1 } } }, by dsimp only; decide +kernel⟩

theorem wit_FabricReceive_11 : ∃ (s : State) (f : Fin 16) (src : RulingSlot) (par : Option ParityHit) (e : Ecc) (x : Flit) (a : Arrival) (u : State),
    let k := portCluster f.val
    let sl := (Place.ofKey a.place).slice
    let v := u.edgeFlit f.val sl x
    let l := (v.port f).assembly.get [] sl
    (s.domOn (54 + f.val / 4) = true) ∧ (s.move (placeOf src) (fun a => let b := Place.ofKey a.place; decide (b.k = k ∧ 14 ≤ b.port ∧ edgePort k b.port = some f.val)) par = some (x, a, u)) :=
  ⟨sEdge, 0, slotEdge, none, .ok, (tEdge.getD (noToken.flit, (⟨0, 0, 0⟩ : Arrival), sEdge)).1, (tEdge.getD (noToken.flit, (⟨0, 0, 0⟩ : Arrival), sEdge)).2.1, (tEdge.getD (noToken.flit, (⟨0, 0, 0⟩ : Arrival), sEdge)).2.2, by dsimp only; decide +kernel⟩

theorem wit_FabricReceive_12 : ∃ (s : State) (r : BitVec 6) (errs : List (DWord × Ecc)) (ls : List LineFind),
    let x := s.ring r.toNat
    let c := (s.ctx (4 * x.part + x.ctx)).run
    let base := c.bulkBase * 65536
    let size := c.bulkSize * 65536
    let o := x.base.toNat * 65536 + x.head.toNat % 2 ^ x.log2 * 32
    (s.ringReady r.toNat = true) :=
  ⟨(sFree.modRing 59 (fun y => { y with enable := true })).addDevice 0 1, 59, [], [], by dsimp only; decide +kernel⟩

theorem wit_FabricReceive_13 : ∃ (s : State) (r : BitVec 6) (val : Word),
    let on := val.getLsbD 31
    let v := val.toNat
    let n := v / 2 ^ 22 % 16
    (r.toNat < 60) :=
  ⟨sFree, 59, 0, by dsimp only; decide +kernel⟩

theorem wit_FabricReceive_14 : ∃ (s sx : State) (h : Hdr) (dest : Half) (entry : Word),
    (startsIn s h ((pfOnly 0x0403 false .any).on [(16, 2, dest.toNat), (20, 4, entry.toNat)]) sx) ∧ (sx.refuses h ((pfOnly 0x0403 false .any).on [(16, 2, dest.toNat), (20, 4, entry.toNat)]) (decide (dest.toNat < 4096 ∧ entry.toNat % 2 ^ 21 = 0)) = none) :=
  ⟨sFree, (sFree).claim (hPf) ((pfOnly 0x0403 false .any).on [(16, 2, (4095 : Half).toNat), (20, 4, (0x80000000 : Word).toNat)]), hPf, 4095, 0x80000000, by decide +kernel⟩

theorem wit_FabricReceive_15 : ∃ (s sx : State) (h : Hdr) (desc : List Byte),
    let c := sx.hdrCtx h
    (startsIn s h ({ pfOnly 0x0401 false .one with context := true, args := [(16, 48, leNat (fitTo 48 desc))] }) sx) ∧ (sx.refuses h ({ pfOnly 0x0401 false .one with context := true, args := [(16, 48, leNat (fitTo 48 desc))] }) (winFieldsOk desc) = none) :=
  ⟨sFree, (sFree).claim (hPf) ({ pfOnly 0x0401 false .one with context := true, args := [(16, 48, leNat (fitTo 48 (63 :: 1 :: List.replicate 46 0 : List Byte)))] }), hPf, 63 :: 1 :: List.replicate 46 0, by dsimp only; decide +kernel⟩

theorem wit_FabricReceive_16 : ∃ (s sx : State) (h : Hdr) (w : Byte),
    let x := sx.window w.toNat
    (startsIn s h ((pfOnly 0x0402 false .any).on [(16, 1, w.toNat)]) sx) ∧ (sx.refuses h ((pfOnly 0x0402 false .any).on [(16, 1, w.toNat)]) (decide (w.toNat < 64)) = none) :=
  ⟨sFree, (sFree).claim (hPf) ((pfOnly 0x0402 false .any).on [(16, 1, (63 : Byte).toNat)]), hPf, 63, by dsimp only; decide +kernel⟩

theorem wit_SelfCare_6 : ∃ (s : State) (p : Fin 4) (cal : List XCal),
    let since := (s.part p).stroke.holdSince
    (s.onContexts p ≠ []) ∧ ((s.part p).ckptPause = none) ∧ ((s.qpart p).replay ≠ 1) :=
  ⟨sScroll .on, 0, [], by dsimp only; decide +kernel⟩

theorem wit_SelfCare_7 : ∃ (s : State) (k : Fin 48),
    let d := s.driftOf k
    let l := d.next
    let u := if d.suspended = true then (s.postDriftState k 4).modDrift k (fun x => { x with suspended := false }) else s
    (s.onContexts (s.partOf k) ≠ []) ∧ ((s.part (s.partOf k)).ckptPause = none) ∧ (d.sample = none) :=
  ⟨sScroll .on, 0, by dsimp only; decide +kernel⟩

theorem wit_SelfCare_8 : ∃ (s : State) (k : Fin 48) (a b : DWord) (d : DriftSample) (ea eb : List (Nat × Ecc)),
    let s1 := s.lsEccs d.spareA (s.issueBase d.spareA) ea
    let s2 := match d.spareB with | some n => s1.lsEccs n (s1.issueBase n) eb | none => s1
    let u := s2.modDrift k (fun x => { x with sample := none })
    let v := fun (o : Nat) => (u.modQuill (fun q => { q with mismatches := satInc q.mismatches })).postDrift k o (if o = 2 then 1 else 2) d
    let w := ((v 3).driftKill k d.ctx).scoreDrop 40
    ((s.driftOf k).sample = some d) :=
  ⟨sFree.modDrift 47 (fun x => { x with sample := some { live := 1504, logical := 0, ctx := 0, crc := 1, spareA := 1535, spareB := none } }), 47, 2, 1, { live := 1504, logical := 0, ctx := 0, crc := 1, spareA := 1535, spareB := none }, [(0, .corrected)], [], by dsimp only; decide +kernel⟩

theorem wit_SelfCare_10 : ∃ (s : State) (n : Fin 1536) (crc : DWord) (i : Nat) (e : List (Nat × Ecc)),
    let t := s.lsEccs n.val (s.issueBase n.val) e
    let x := t.care n
    let u := t.modQuill (fun q => { q with fails := satInc q.fails })
    ((s.care n.val).pattern = some i) :=
  ⟨sFree.modCare 1535 (fun y => { y with pattern := some 7 }), 1535, 9, 7, [(0, .uncorrectable)], by dsimp only; decide +kernel⟩

theorem wf_packet_short : (Instr.commandFetch 0 0 (some (List.replicate 63 0))).wellFormed = false ∧
    (Instr.commandFetch 0 0 (some (List.replicate 64 0))).wellFormed = true := by decide +kernel

theorem wf_block_short : (Instr.linkControlBlockReceive 0 (List.replicate 127 0)).wellFormed = false ∧
    (Instr.linkControlBlockReceive 0 (List.replicate 128 0)).wellFormed = true := by decide +kernel

theorem wf_window_long : (Instr.openWindow hPf (List.replicate 49 0)).wellFormed = false ∧
    (Instr.openWindow hPf (List.replicate 48 0)).wellFormed = true := by decide +kernel

theorem wf_host_data_short : (Instr.hostReadCompletion 0 (some [0]) false).wellFormed = false ∧
    (Instr.hostReadCompletion 0 none false).wellFormed = true := by decide +kernel

theorem wf_unit_range : (Instr.vld at0 0 0 0 [(8192, .ok)]).wellFormed = false ∧ (Instr.accLoad at0 false 0 [(8192, .ok)]).wellFormed = false ∧
    (Instr.mma at0 false false 0 0 .none [(8192, .ok)]).wellFormed = false ∧ (Instr.mmaDelayedStart 0 .none [(8192, .ok)]).wellFormed = false ∧
    (Instr.vld at0 0 0 0 [(8191, .ok)]).wellFormed = true := by decide +kernel

theorem test_decode_alu : decodeCore at0 (0b000001#6 ++ 0b000011#6 ++ 0b000001#6 ++ 0b000010#6 ++ 0b00000001#8) = .alu at0 3 1 2 1 := by decide +kernel

theorem test_decode_addi : decodeCore at0 (0b000010#6 ++ 0b000111#6 ++ 0b000000#6 ++ 0b11111111111111#14) = .addi at0 7 0 0x3FFF := by decide +kernel

theorem test_decode_lui : decodeCore at0 (0b000110#6 ++ 0b111111#6 ++ 0b10000000000000000001#20) = .lui at0 63 0x80001 := by decide +kernel

theorem test_decode_ldw : decodeCore at0 (0b001000#6 ++ 0b000001#6 ++ 0b000010#6 ++ 0b00000000000100#14) = .ldw at0 1 2 4 .ok := by decide +kernel

theorem test_decode_bge : decodeCore at0 (0b001111#6 ++ 0b000001#6 ++ 0b000010#6 ++ 0b00#2 ++ 0b111111111111#12) = .bge at0 1 2 0xFFF := by decide +kernel

theorem test_decode_sect : decodeCore at0 (0b010100#6 ++ 0b000000#6 ++ 0b000101#6 ++ 0b000#3 ++ 0b10#2 ++ 0b001#3 ++ 0b000011#6) = .sectRuledAt at0 5 0x83 := by decide +kernel

theorem test_decode_sect_reserved : decodeCore at0 (0b010100#6 ++ 0b000000#6 ++ 0b000101#6 ++ 0b000#3 ++ 0b10#2 ++ 0b100#3 ++ 0b000011#6) = .illegal at0 := by decide +kernel

theorem test_decode_mma : decodeCore at0 (0b100000#6 ++ 0b1#1 ++ 0b0#1 ++ 0b1000000001#10 ++ 0b000100#6 ++ 0b00000000#8) = .mma at0 true false 0x201 4 .none [] := by decide +kernel

theorem test_decode_drain : decodeCore at0 (0b100001#6 ++ 0b0#1 ++ 0b1#1 ++ 0b0101#4 ++ 0b000001#6 ++ 0b000010#6 ++ 0b00000000#8) = .drain at0 true 5 1 2 .none := by decide +kernel

theorem test_decode_vld : decodeCore at0 (0b101000#6 ++ 0b0#1 ++ 0b11111#5 ++ 0b000001#6 ++ 0b00000000100000#14) = .vld at0 31 1 32 [] := by decide +kernel

theorem test_decode_vfp : decodeCore at0 (0b101010#6 ++ 0b00001#5 ++ 0b00010#5 ++ 0b00011#5 ++ 0b00100#5 ++ 0b000101#6) = .vfp at0 1 2 3 4 5 none := by decide +kernel

theorem test_decode_mxq : decodeCore at0 (0b101100#6 ++ 0b00001#5 ++ 0b00010#5 ++ 0b00011#5 ++ 0b00100#5 ++ 0b110010#6) = .mxq at0 1 2 3 4 2 true none := by decide +kernel

theorem test_decode_xfer : decodeCore at0 (0b110000#6 ++ 0b000110#6 ++ 0b000000#6 ++ 0b00000000000000#14) = .xfer at0 6 [] := by decide +kernel

theorem test_decode_recv : decodeCore at0 (0b111001#6 ++ 0b000001#6 ++ 0b000010#6 ++ 0b111#3 ++ 0b10#2 ++ 0b000#3 ++ 0b000000#6) = .recv at0 1 2 7 2 := by decide +kernel

theorem test_decode_sync : decodeCore at0 (0b111101#6 ++ 0b000001#6 ++ 0b000010#6 ++ 0b000#3 ++ 0b00#2 ++ 0b010#3 ++ 0b000000#6) = .syncWaitGe at0 1 2 := by decide +kernel

theorem test_decode_op_reserved : decodeCore at0 (0b011111#6 ++ 0b00000000000000000000000000#26) = .illegal at0 := by decide +kernel

theorem test_encode_decode : [Instr.alu at0 3 1 2 1, .shi at0 1 2 0x2005, .bge at0 1 2 0xFFF, .sectRuledHold at0 1 2 0xC1, .sectFree at0 0x7F,
    .drain at0 true 5 1 2 .none, .accLoad at0 true 9 [], .vst at0 31 1 32 none, .mxq at0 1 2 3 4 2 true none, .vcvt at0 1 2 3 4 5 none,
    .steer at0 1 3, .qstat at0 1 7 2 63, .syncRadd at0 1 2, .landwait at0 1 2].all (fun i => (encodeCore i).map (decodeCore at0) == some i) = true := by
  decide +kernel

end Sys2Proof.Tests
end

section
/-!
PROOF. The scope of a command: the areas it can change (O22), the device settings it keeps legal (O23), what a step is (O19).
-/
namespace Sys2Proof.Machine

/-! ### Frames as lists of areas -/

/-- The areas in the order of the fields of `State`, which is the order of the equations in an `Only…` frame. -/
def Area.all : List Area :=
  [.pending, .cores, .clusters, .parts, .ctxs, .store, .bulk, .host, .dev, .quill, .fabric, .module_, .net, .time, .out, .free]

/-- The areas of a list are the same, as one conjunction: on `Area.all` without the listed areas it is the `Only…` frame
that names them. -/
def allSame (s t : State) : List Area → Prop
  | [] => True
  | [a] => a.same s t
  | a :: b :: r => a.same s t ∧ allSame s t (b :: r)

theorem Area.mem_all (a : Area) : a ∈ Area.all := by cases a <;> decide

theorem allSame_iff (s t : State) (l : List Area) : allSame s t l ↔ ∀ a ∈ l, a.same s t := by
  induction l with
  | nil => simp [allSame]
  | cons a r ih =>
    cases r with
    | nil => simp [allSame]
    | cons b r => rw [allSame, ih]; simp

/-- A state that agrees with s on every area outside l keeps all but l. -/
theorem keepsBut_of_allSame {l : List Area} {s t : State}
    (h : allSame s t (Area.all.diff l)) : keepsBut l s t := fun a ha =>
  (allSame_iff ..).1 h a (List.mem_diff_of_mem a.mem_all ha)

/-- A frame of the state that a command answers, as a frame of its next state. -/
theorem keepsBut_next {l : List Area} {s t u : State} (h : (.next u : Host.Outcome State Fault Refusal) = .next t)
    (hu : allSame s u (Area.all.diff l)) : keepsBut l s t :=
  Host.Outcome.next.inj h ▸ keepsBut_of_allSame hu

/-! ### Device resets (R652, R654, R849) -/

theorem State.powerless_dev (s : State) : s.powerless.dev = { s.dev with mode := 2, fbId := 0xFFFF } := rfl
theorem State.deviceReset_dev (s : State) : s.deviceReset.dev = { s.dev with fbId := 0xFFFF } := rfl
theorem State.devFault_dev (s : State) (c : Nat) : (s.devFault c).dev = { s.dev with fbId := 0xFFFF } := by
  simp [State.devFault, State.deviceReset_dev]

/-- The queue stays, and so do the settings, but for FB_ID where a device reset clears it (R646, R652). -/
def resetFrame (s t : State) : Prop := t.pending = s.pending ∧ (t.dev = s.dev ∨ t.dev = { s.dev with fbId := 0xFFFF })

theorem resetFrame_of_eq {s t : State} (hp : t.pending = s.pending) (hd : t.dev = s.dev) : resetFrame s t := ⟨hp, .inl hd⟩

theorem resetFrame_refl (s : State) : resetFrame s s := resetFrame_of_eq rfl rfl

theorem resetFrame_after {s t u : State} (h : resetFrame t u) (hp : t.pending = s.pending) (hd : t.dev = s.dev) :
    resetFrame s u := by
  rw [resetFrame, ← hp, ← hd]
  exact h

theorem State.devFault_resetFrame (s : State) (c : Nat) : resetFrame s (s.devFault c) :=
  ⟨s.devFault_pending c, .inr (s.devFault_dev c)⟩

/-- A read of a central table ends in the command's effect or in a device fault (R641, R654). -/
theorem State.centralRead_resetFrame (s : State) (tbl : Ecc) (body : State → State) (h : ∀ t, resetFrame t (body t)) :
    resetFrame s (s.centralRead tbl body) := by
  cases tbl with
  | ok => exact h s
  | corrected => exact resetFrame_after (h _) (by simp) (by simp)
  | uncorrectable => exact s.devFault_resetFrame 1

theorem State.receiveFlit_resetFrame (s : State) (p : Nat) (f : FabricFlit) (body : State → State)
    (h : ∀ t, resetFrame t (body t)) : resetFrame s (s.receiveFlit p f body) := by
  unfold State.receiveFlit
  split
  · exact resetFrame_after (h _) (by simp) (by simp)
  · exact resetFrame_refl s

theorem State.takeMsg_resetFrame (s : State) (f kind : Nat) (x : FabricFlit) (body : State → State)
    (h : ∀ t, resetFrame t (body t)) : resetFrame s (s.takeMsg f kind x body) := by
  unfold State.takeMsg
  split
  · refine s.receiveFlit_resetFrame f x _ fun t => ?_
    split
    · exact resetFrame_of_eq (by simp) (by simp)
    · exact h t
  · exact resetFrame_refl s

/-! ### The commands that read a central table -/

theorem effFlitForward_resetFrame (f : Fin 16) (flit : FabricFlit) (tbl : Ecc) (s : State) :
    resetFrame s (effFlitForward f flit tbl s) := by
  have hf : ∀ t : State, resetFrame t (t.receiveFlit f flit (fun u => u.forwardFlit f flit)) := fun t =>
    t.receiveFlit_resetFrame f flit _ fun u => resetFrame_of_eq (by simp) (by simp)
  unfold effFlitForward
  dsimp only
  split_ifs
  · exact resetFrame_refl s
  · exact resetFrame_of_eq (by simp) (by simp)
  · exact s.receiveFlit_resetFrame f flit id resetFrame_refl
  · exact resetFrame_refl s
  · exact s.centralRead_resetFrame tbl _ hf

theorem effFabricWriteReceive_resetFrame (f : Fin 16) (flit : FabricFlit) (tbl : Ecc) (s : State) :
    resetFrame s (effFabricWriteReceive f flit tbl s) :=
  s.takeMsg_resetFrame f 1 flit _ fun t => t.centralRead_resetFrame tbl _ fun u => resetFrame_of_eq (by simp) (by simp)

theorem effFabricAddReceive_resetFrame (f : Fin 16) (flit : FabricFlit) (tbl : Ecc) (s : State) :
    resetFrame s (effFabricAddReceive f flit tbl s) :=
  s.takeMsg_resetFrame f 2 flit _ fun t => t.centralRead_resetFrame tbl _ fun u => resetFrame_of_eq (by simp) (by simp)

theorem effEdgeRemoteWrite_resetFrame (f : Fin 16) (src : RulingSlot) (parity : Option ParityHit) (tbl : Ecc) (s : State) :
    resetFrame s (effEdgeRemoteWrite f src parity tbl s) := by
  unfold effEdgeRemoteWrite
  dsimp only
  split
  · exact resetFrame_refl s
  · split
    · exact resetFrame_refl s
    · next hm =>
      obtain ⟨hp, hd, -⟩ := State.move_frame hm
      split_ifs
      · exact resetFrame_of_eq (by simpa using hp) (by simpa using hd)
      · exact resetFrame_refl s
      · exact resetFrame_after (State.centralRead_resetFrame _ tbl _ fun t => resetFrame_of_eq (by simp) (by simp))
          (by simpa using hp) (by simpa using hd)

theorem effRingDescriptorStart_resetFrame (r : BitVec 6) (errs : List (DWord × Ecc)) (lines : List LineFind) (tbl : Ecc)
    (s : State) : resetFrame s (effRingDescriptorStart r errs lines tbl s) := by
  unfold effRingDescriptorStart
  split
  · exact resetFrame_refl s
  · refine s.centralRead_resetFrame tbl _ fun t => ?_
    dsimp only
    split
    · exact resetFrame_of_eq (by simp) (by simp)
    · split
      · exact resetFrame_refl t
      · next h0 =>
        have h0 := State.devReady_frame h0
        split
        · exact resetFrame_of_eq (by simp [h0]) (by simp [h0])
        · split
          · exact resetFrame_refl t
          · next h1 =>
            have h1 := State.devReady_frame h1
            exact resetFrame_of_eq (by simp [h0, h1]) (by simp [h0, h1])

/-! ### Every command -/

/-- The frame of every command: each arm cites what is known of its effect, the `Only…` law of the effect or, for a command
that can reset the device, that it keeps the queue. -/
theorem exec_keepsBut_touches (c : Instr) (s t : State) (h : exec c s = .next t) : keepsBut (touches c) s t := by
  cases c with
  | illegal => exact keepsBut_next h (effIllegal_frame ..)
  | alu => exact keepsBut_next h (effAlu_frame ..)
  | addi => exact keepsBut_next h (effAddi_frame ..)
  | andi => exact keepsBut_next h (effAndi_frame ..)
  | ori => exact keepsBut_next h (effOri_frame ..)
  | shi => exact keepsBut_next h (effShi_frame ..)
  | lui => exact keepsBut_next h (effLui_frame ..)
  | rdsys => exact keepsBut_next h (effRdsys_frame ..)
  | ldw => exact keepsBut_next h (effLdw_frame ..)
  | stw => exact keepsBut_next h (effStw_frame ..)
  | beq => exact keepsBut_next h (effBeq_frame ..)
  | bne => exact keepsBut_next h (effBne_frame ..)
  | blt => exact keepsBut_next h (effBlt_frame ..)
  | bge => exact keepsBut_next h (effBge_frame ..)
  | jmp => exact keepsBut_next h (effJmp_frame ..)
  | jr => exact keepsBut_next h (effJr_frame ..)
  | loop => exact keepsBut_next h (effLoop_frame ..)
  | sectRuledNext => exact keepsBut_next h (effSectRuledNext_frame ..)
  | sectRuledAt => exact keepsBut_next h (effSectRuledAt_frame ..)
  | sectRuledHold => exact keepsBut_next h (effSectRuledHold_frame ..)
  | sectFree => exact keepsBut_next h (effSectFree_frame ..)
  | halt => exact keepsBut_next h (effHalt_frame ..)
  | mma => exact keepsBut_next h (effMma_frame ..)
  | mmaDelayedStart => exact keepsBut_next h (effMmaDelayedStart_frame ..)
  | drain => exact keepsBut_next h (effDrain_frame ..)
  | accSave => exact keepsBut_next h (effAccSave_frame ..)
  | accLoad => exact keepsBut_next h (effAccLoad_frame ..)
  | vld => exact keepsBut_next h (effVld_frame ..)
  | vst => exact keepsBut_next h (effVst_frame ..)
  | vfp => exact keepsBut_next h (effVfp_frame ..)
  | vint => exact keepsBut_next h (effVint_frame ..)
  | vcvt => exact keepsBut_next h (effVcvt_frame ..)
  | mxq => exact keepsBut_next h (effMxq_frame ..)
  | vred => exact keepsBut_next h (effVred_frame ..)
  | vtr => exact keepsBut_next h (effVtr_frame ..)
  | vmov => exact keepsBut_next h (effVmov_frame ..)
  | xfer => exact keepsBut_next h (effXfer_frame ..)
  | xferAccess => exact keepsBut_next h (effXferAccess_frame ..)
  | send => exact keepsBut_next h (effSend_frame ..)
  | recv => exact keepsBut_next h (effRecv_frame ..)
  | recvWake => exact keepsBut_next h (effRecvWake_frame ..)
  | select => exact keepsBut_next h (effSelect_frame ..)
  | selectSelection => exact keepsBut_next h (effSelectSelection_frame ..)
  | qstat => exact keepsBut_next h (effQstat_frame ..)
  | steer => exact keepsBut_next h (effSteer_frame ..)
  | syncSet => exact keepsBut_next h (effSyncSet_frame ..)
  | syncAdd => exact keepsBut_next h (effSyncAdd_frame ..)
  | syncWaitGe => exact keepsBut_next h (effSyncWaitGe_frame ..)
  | waitGeWake => exact keepsBut_next h (effWaitGeWake_frame ..)
  | syncRadd => exact keepsBut_next h (effSyncRadd_frame ..)
  | landwait => exact keepsBut_next h (effLandwait_frame ..)
  | landwaitWake => exact keepsBut_next h (effLandwaitWake_frame ..)
  | strokeEdge => exact keepsBut_next h (effStrokeEdge_frame ..)
  | holdRelease => exact keepsBut_next h (effHoldRelease_frame ..)
  | crossingEmptyStall => exact keepsBut_next h (effCrossingEmptyStall_frame ..)
  | crossingFullStall => exact keepsBut_next h (effCrossingFullStall_frame ..)
  | crossingResume => exact keepsBut_next h (effCrossingResume_frame ..)
  | droopStretch => exact keepsBut_next h (effDroopStretch_frame ..)
  | tokenDelivery => exact keepsBut_next h (effTokenDelivery_frame ..)
  | steerInputDelivery => exact keepsBut_next h (effSteerInputDelivery_frame ..)
  | steerFire => exact keepsBut_next h (effSteerFire_frame ..)
  | freeTokenArrival => exact keepsBut_next h (effFreeTokenArrival_frame ..)
  | creditReturn => exact keepsBut_next h (effCreditReturn_frame ..)
  | closureNotice => exact keepsBut_next h (effClosureNotice_frame ..)
  | deadlockScan => exact keepsBut_next h (effDeadlockScan_frame ..)
  | deadlockDetected => exact keepsBut_next h (effDeadlockDetected_frame ..)
  | quillDeadlockPoll => exact keepsBut_next h (effQuillDeadlockPoll_frame ..)
  | contributionArrival => exact keepsBut_next h (effContributionArrival_frame ..)
  | combiningRelease => exact keepsBut_next h (effCombiningRelease_frame ..)
  | mgmtSyncOp => exact keepsBut_next h (effMgmtSyncOp_frame ..)
  | landingSlotWrite => exact keepsBut_next h (effLandingSlotWrite_frame ..)
  | scrubAccess => exact keepsBut_next h (effScrubAccess_frame ..)
  | mcRequest => exact keepsBut_next h (effMcRequest_frame ..)
  | mcReadDataReturn => exact keepsBut_next h (effMcReadDataReturn_frame ..)
  | positionWrite => exact keepsBut_next h (effPositionWrite_frame ..)
  | slotCmdFork => exact keepsBut_next h (effSlotCmdFork_frame ..)
  | slotCmdRewind => exact keepsBut_next h (effSlotCmdRewind_frame ..)
  | slotCmdAccept => exact keepsBut_next h (effSlotCmdAccept_frame ..)
  | mcRefresh => exact keepsBut_next h (effMcRefresh_frame ..)
  | mcWckCheck => exact keepsBut_next h (effMcWckCheck_frame ..)
  | mcLinkPoll => exact keepsBut_next h (effMcLinkPoll_frame ..)
  | mcScrubRead => exact keepsBut_next h (effMcScrubRead_frame ..)
  | sqTailDoorbell => exact keepsBut_next h (effSqTailDoorbell_frame ..)
  | cqHeadDoorbell => exact keepsBut_next h (effCqHeadDoorbell_frame ..)
  | eventRingHeadDoorbell => exact keepsBut_next h (effEventRingHeadDoorbell_frame ..)
  | commandFetch => exact keepsBut_next h (effCommandFetch_frame ..)
  | qpEnable => exact keepsBut_next h (effQpEnable_frame ..)
  | qpDisable => exact keepsBut_next h (effQpDisable_frame ..)
  | qpDeactivate => exact keepsBut_next h (effQpDeactivate_frame ..)
  | eventRingEnable => exact keepsBut_next h (effEventRingEnable_frame ..)
  | eventLostClear => exact keepsBut_next h (effEventLostClear_frame ..)
  | deferredCompletion => exact keepsBut_next h (effDeferredCompletion_frame ..)
  | msixMessage => exact keepsBut_next h (effMsixMessage_frame ..)
  | bar0Reject => exact keepsBut_next h (effBar0Reject_frame ..)
  | bar2Read => exact keepsBut_next h (effBar2Read_frame ..)
  | bar2Write => exact keepsBut_next h (effBar2Write_frame ..)
  | hostFunctionReset => exact keepsBut_next h (effHostFunctionReset_frame ..)
  | d3hotEntry => exact keepsBut_next h (effD3hotEntry_frame ..)
  | d0Return => exact keepsBut_next h (effD0Return_frame ..)
  | registerWrite => exact keepsBut_next h (effRegisterWrite_frame ..)
  | nwStrokeLoRead => exact keepsBut_next h (effNwStrokeLoRead_frame ..)
  | qlTdcLoRead => exact keepsBut_next h (effQlTdcLoRead_frame ..)
  | ckTimeLoRead => exact keepsBut_next h (effCkTimeLoRead_frame ..)
  | emEnergyLoRead => exact keepsBut_next h (effEmEnergyLoRead_frame ..)
  | emTimeLoRead => exact keepsBut_next h (effEmTimeLoRead_frame ..)
  | emLogIndexWrite => exact keepsBut_next h (effEmLogIndexWrite_frame ..)
  | fbIdWrite => exact keepsBut_next h (effFbIdWrite_frame ..)
  | fbPortExpectWrite => exact keepsBut_next h (effFbPortExpectWrite_frame ..)
  | fbRingEnable => exact keepsBut_next h (effFbRingEnable_frame ..)
  | hello => exact keepsBut_next h (effHello_frame ..)
  | getInfo => exact keepsBut_next h (effGetInfo_frame ..)
  | getDistances => exact keepsBut_next h (effGetDistances_frame ..)
  | setEventMask => exact keepsBut_next h (effSetEventMask_frame ..)
  | setPartitionMode => exact keepsBut_next h (effSetPartitionMode_frame ..)
  | setModes => exact keepsBut_next h (effSetModes_frame ..)
  | getWatermark => exact keepsBut_next h (effGetWatermark_frame ..)
  | setThresholds => exact keepsBut_next h (effSetThresholds_frame ..)
  | loadScroll => exact keepsBut_next h (effLoadScroll_frame ..)
  | scrollReadComplete => exact keepsBut_next h (effScrollReadComplete_frame ..)
  | startContext => exact keepsBut_next h (effStartContext_frame ..)
  | stopContextAtEdge => exact keepsBut_next h (effStopContextAtEdge_frame ..)
  | stopContextAtQuiet => exact keepsBut_next h (effStopContextAtQuiet_frame ..)
  | checkpoint => exact keepsBut_next h (effCheckpoint_frame ..)
  | checkpointTimeout => exact keepsBut_next h (effCheckpointTimeout_frame ..)
  | restore => exact keepsBut_next h (effRestore_frame ..)
  | reconfigureDrain => exact keepsBut_next h (effReconfigureDrain_frame ..)
  | reconfigureDiscard => exact keepsBut_next h (effReconfigureDiscard_frame ..)
  | selectVariant => exact keepsBut_next h (effSelectVariant_frame ..)
  | dma => exact keepsBut_next h (effDma_frame ..)
  | dmaTransferDone => exact keepsBut_next h (effDmaTransferDone_frame ..)
  | seqOpen => exact keepsBut_next h (effSeqOpen_frame ..)
  | seqFork => exact keepsBut_next h (effSeqFork_frame ..)
  | seqRewind => exact keepsBut_next h (effSeqRewind_frame ..)
  | seqAccept => exact keepsBut_next h (effSeqAccept_frame ..)
  | seqClose => exact keepsBut_next h (effSeqClose_frame ..)
  | syncOpSet => exact keepsBut_next h (effSyncOpSet_frame ..)
  | syncOpAdd => exact keepsBut_next h (effSyncOpAdd_frame ..)
  | syncOpRead => exact keepsBut_next h (effSyncOpRead_frame ..)
  | syncOpWaitGe => exact keepsBut_next h (effSyncOpWaitGe_frame ..)
  | syncOpWaitEnd => exact keepsBut_next h (effSyncOpWaitEnd_frame ..)
  | openWindow => exact keepsBut_next h (effOpenWindow_frame ..)
  | closeWindow => exact keepsBut_next h (effCloseWindow_frame ..)
  | setRoute => exact keepsBut_next h (effSetRoute_frame ..)
  | portDisable => exact keepsBut_next h (effPortDisable_frame ..)
  | portEnable => exact keepsBut_next h (effPortEnable_frame ..)
  | portRetrain => exact keepsBut_next h (effPortRetrain_frame ..)
  | laneClear => exact keepsBut_next h (effLaneClear_frame ..)
  | bistLogic => exact keepsBut_next h (effBistLogic_frame ..)
  | bistInkwellMarch => exact keepsBut_next h (effBistInkwellMarch_frame ..)
  | bistLpddrQuick => exact keepsBut_next h (effBistLpddrQuick_frame ..)
  | bistLpddrFull => exact keepsBut_next h (effBistLpddrFull_frame ..)
  | bistDone => exact keepsBut_next h (effBistDone_frame ..)
  | getMoraine => exact keepsBut_next h (effGetMoraine_frame ..)
  | loadFirnPatterns => exact keepsBut_next h (effLoadFirnPatterns_frame ..)
  | replaySuspects => exact keepsBut_next h (effReplaySuspects_frame ..)
  | suspectRunEnd => exact keepsBut_next h (effSuspectRunEnd_frame ..)
  | getHealth => exact keepsBut_next h (effGetHealth_frame ..)
  | returnToService => exact keepsBut_next h (effReturnToService_frame ..)
  | powerStateRun => exact keepsBut_next h (effPowerStateRun_frame ..)
  | powerStateIdle => exact keepsBut_next h (effPowerStateIdle_frame ..)
  | powerStateRetain => exact keepsBut_next h (effPowerStateRetain_frame ..)
  | powerStateDormant => exact keepsBut_next h (effPowerStateDormant_frame ..)
  | domainOn => exact keepsBut_next h (effDomainOn_frame ..)
  | domainOff => exact keepsBut_next h (effDomainOff_frame ..)
  | domainRampDone => exact keepsBut_next h (effDomainRampDone_frame ..)
  | resetPartition => exact keepsBut_next h (effResetPartition_frame ..)
  | setPowerCap => exact keepsBut_next h (effSetPowerCap_frame ..)
  | attest => exact keepsBut_next h (effAttest_frame ..)
  | fwStage => exact keepsBut_next h (effFwStage_frame ..)
  | fwCommit => exact keepsBut_next h (effFwCommit_frame ..)
  | fwCommitReset => exact keepsBut_next h (effFwCommitReset_pending ..)
  | recordRead => exact keepsBut_next h (effRecordRead_frame ..)
  | meterRead => exact keepsBut_next h (effMeterRead_frame ..)
  | meterStampStart => exact keepsBut_next h (effMeterStampStart_frame ..)
  | meterStampEnd => exact keepsBut_next h (effMeterStampEnd_frame ..)
  | lockstepPair => exact keepsBut_next h (effLockstepPair_frame ..)
  | lockstepPairTimeout => exact keepsBut_next h (effLockstepPairTimeout_frame ..)
  | lockstepRelease => exact keepsBut_next h (effLockstepRelease_frame ..)
  | debugDump => exact keepsBut_next h (effDebugDump_frame ..)
  | mctpCommandRequest => exact keepsBut_next h (effMctpCommandRequest_frame ..)
  | mctpControlMessage => exact keepsBut_next h (effMctpControlMessage_frame ..)
  | i3cAddressAssign => exact keepsBut_next h (effI3cAddressAssign_frame ..)
  | doeDiscovery => exact keepsBut_next h (effDoeDiscovery_frame ..)
  | spdmRequest => exact keepsBut_next h (effSpdmRequest_frame ..)
  | spdmGetMeasurements => exact keepsBut_next h (effSpdmGetMeasurements_frame ..)
  | ideKmKeySetup => exact keepsBut_next h (effIdeKmKeySetup_frame ..)
  | portDetectPoll => exact keepsBut_next h (effPortDetectPoll_frame ..)
  | equaliseDone => exact keepsBut_next h (effEqualiseDone_frame ..)
  | alignDone => exact keepsBut_next h (effAlignDone_frame ..)
  | exchangeDone => exact keepsBut_next h (effExchangeDone_frame ..)
  | trainingTimeout => exact keepsBut_next h (effTrainingTimeout_frame ..)
  | laneLockLoss => exact keepsBut_next h (effLaneLockLoss_frame ..)
  | retrainDone => exact keepsBut_next h (effRetrainDone_frame ..)
  | flitCrcFail => exact keepsBut_next h (effFlitCrcFail_frame ..)
  | flitForward => exact keepsBut_next h (effFlitForward_resetFrame ..).1
  | fabricWriteReceive => exact keepsBut_next h (effFabricWriteReceive_resetFrame ..).1
  | fabricAddReceive => exact keepsBut_next h (effFabricAddReceive_resetFrame ..).1
  | receiptReceive => exact keepsBut_next h (effReceiptReceive_frame ..)
  | linkControlBlockReceive => exact keepsBut_next h (effLinkControlBlockReceive_frame ..)
  | lockstepDigestReceive => exact keepsBut_next h (effLockstepDigestReceive_frame ..)
  | linkControlBlockSend => exact keepsBut_next h (effLinkControlBlockSend_frame ..)
  | watermarkSilence => exact keepsBut_next h (effWatermarkSilence_frame ..)
  | creditStallTimeout => exact keepsBut_next h (effCreditStallTimeout_frame ..)
  | receiptTimeout => exact keepsBut_next h (effReceiptTimeout_frame ..)
  | timeSourceTimeout => exact keepsBut_next h (effTimeSourceTimeout_frame ..)
  | marginTelemetry => exact keepsBut_next h (effMarginTelemetry_frame ..)
  | edgeRemoteWrite => exact keepsBut_next h (effEdgeRemoteWrite_resetFrame ..).1
  | ringDescriptorStart => exact keepsBut_next h (effRingDescriptorStart_resetFrame ..).1
  | strokeOverrunSummary => exact keepsBut_next h (effStrokeOverrunSummary_frame ..)
  | staleTokenEvent => exact keepsBut_next h (effStaleTokenEvent_frame ..)
  | orphanSendEvent => exact keepsBut_next h (effOrphanSendEvent_frame ..)
  | windowDropEvent => exact keepsBut_next h (effWindowDropEvent_frame ..)
  | correctedErrorEvent => exact keepsBut_next h (effCorrectedErrorEvent_frame ..)
  | heartbeatMiss => exact keepsBut_next h (effHeartbeatMiss_pending ..)
  | quillRestartDone => exact keepsBut_next h (effQuillRestartDone_frame ..)
  | strokeWatchExpiry => exact keepsBut_next h (effStrokeWatchExpiry_frame ..)
  | holdWatchExpiry => exact keepsBut_next h (effHoldWatchExpiry_frame ..)
  | driftSample => exact keepsBut_next h (effDriftSample_frame ..)
  | driftCompare => exact keepsBut_next h (effDriftCompare_frame ..)
  | patrolPatternStart => exact keepsBut_next h (effPatrolPatternStart_frame ..)
  | patrolPatternEnd => exact keepsBut_next h (effPatrolPatternEnd_frame ..)
  | coreRemap => exact keepsBut_next h (effCoreRemap_frame ..)
  | contextRestart => exact keepsBut_next h (effContextRestart_frame ..)
  | checkpointCommit => exact keepsBut_next h (effCheckpointCommit_frame ..)
  | checkpointMirrorDone => exact keepsBut_next h (effCheckpointMirrorDone_frame ..)
  | healthHourly => exact keepsBut_next h (effHealthHourly_frame ..)
  | referenceLoss => exact keepsBut_next h (effReferenceLoss_frame ..)
  | referenceRestored => exact keepsBut_next h (effReferenceRestored_frame ..)
  | powerCapTick => exact keepsBut_next h (effPowerCapTick_frame ..)
  | thermalSample => exact keepsBut_next h (effThermalSample_pending ..)
  | thermalThrottleStep => exact keepsBut_next h (effThermalThrottleStep_frame ..)
  | thermalHoldRelease => exact keepsBut_next h (effThermalHoldRelease_frame ..)
  | startup => exact keepsBut_next h (effStartup_frame ..)
  | recoveryGo => exact keepsBut_next h (effRecoveryGo_frame ..)
  | recoveryTimeout => exact keepsBut_next h (effRecoveryTimeout_pending ..)
  | inputRise => exact keepsBut_next h (effInputRise_pending ..)
  | inputLowWarn => exact keepsBut_next h (effInputLowWarn_frame ..)
  | inputUndervoltageOff => exact keepsBut_next h (effInputUndervoltageOff_pending ..)
  | inputOvervoltageOff => exact keepsBut_next h (effInputOvervoltageOff_pending ..)
  | overcurrentLatch => exact keepsBut_next h (effOvercurrentLatch_pending ..)
  | latchClear => exact keepsBut_next h (effLatchClear_frame ..)
  | peakLimit => exact keepsBut_next h (effPeakLimit_frame ..)
  | meterPeriodicReading => exact keepsBut_next h (effMeterPeriodicReading_frame ..)
  | meterSealOpen => exact keepsBut_next h (effMeterSealOpen_frame ..)
  | meterReseal => exact keepsBut_next h (effMeterReseal_frame ..)
  | meterFwUpdate => exact keepsBut_next h (effMeterFwUpdate_frame ..)
  | meterSelfFault => exact keepsBut_next h (effMeterSelfFault_frame ..)
  | meterNoAnswer => exact keepsBut_next h (effMeterNoAnswer_frame ..)
  | emRefresh => exact keepsBut_next h (effEmRefresh_frame ..)
  | inputReturnToRange => exact keepsBut_next h (effInputReturnToRange_frame ..)
  | inputAboveRange => exact keepsBut_next h (effInputAboveRange_frame ..)
  | domainSupplyFailure => exact keepsBut_next h (effDomainSupplyFailure_frame ..)
  | supplyOutOfTolerance => exact keepsBut_next h (effSupplyOutOfTolerance_frame ..)
  | dormantHostInterfaceOff => exact keepsBut_next h (effDormantHostInterfaceOff_frame ..)
  | fwCommitWriteDone => exact keepsBut_next h (effFwCommitWriteDone_frame ..)
  | restoreMirrorCopyDone => exact keepsBut_next h (effRestoreMirrorCopyDone_frame ..)
  | hostReadCompletion => exact keepsBut_next h (effHostReadCompletion_frame ..)
  | pcieConfigWrite => exact keepsBut_next h (effPcieConfigWrite_frame ..)
  | pcieLinkStateChange => exact keepsBut_next h (effPcieLinkStateChange_frame ..)

/-- Settles O22, by the frame of every command. -/
theorem commandFrames : Obligations.CommandFrames := exec_keepsBut_touches

/-- Settles O19: a step is defined by the front of the queue. -/
theorem stepTakesFrontCommand : Obligations.StepTakesFrontCommand := fun _ _ _ => rfl

end Sys2Proof.Machine
end

section
namespace Sys2Proof.Machine

/-! ### Legal settings -/

/-- Settings that are legal, with grade g: one of three modes (R765), an FB_ID below 4,096 or 0xFFFF (R604, R646). -/
def Dev.Legal (g : Nat) (d : Dev) : Prop := d.mode ≠ 3 ∧ (d.fbId.toNat < 4096 ∨ d.fbId = 0xFFFF) ∧ d.gradeL = g

theorem Dev.Legal.withBoot {g : Nat} {d : Dev} (h : d.Legal g) (n : Word) : Dev.Legal g { d with boot := n } := h

theorem Dev.Legal.withMode {g : Nat} {d : Dev} (h : d.Legal g) {m : BitVec 2} (hm : m ≠ 3) :
    Dev.Legal g { d with mode := m } := ⟨hm, h.2⟩

theorem Dev.Legal.withFbId {g : Nat} {d : Dev} (h : d.Legal g) {id : Half} (hid : id.toNat < 4096 ∨ id = 0xFFFF) :
    Dev.Legal g { d with fbId := id } := ⟨h.1, hid, h.2.2⟩

theorem Dev.Legal.afterReset {g : Nat} {d : Dev} (h : d.Legal g) : Dev.Legal g { d with fbId := 0xFFFF } :=
  h.withFbId (.inr rfl)

theorem Dev.Legal.powerless {g : Nat} {d : Dev} (h : d.Legal g) : Dev.Legal g { d with mode := 2, fbId := 0xFFFF } :=
  (h.withMode (by decide)).afterReset

theorem Dev.Legal.of_resetFrame {g : Nat} {s t : State} (h : s.dev.Legal g) (hf : resetFrame s t) : t.dev.Legal g := by
  obtain hd | hd := hf.2 <;> rw [hd]
  · exact h
  · exact h.afterReset

/-! ### What each command that can change the settings does to them -/

theorem effFwCommitReset_resetFrame (s : State) : resetFrame s (effFwCommitReset s) := by
  unfold effFwCommitReset
  split
  · exact ⟨s.deviceReset_pending, .inr s.deviceReset_dev⟩
  · exact resetFrame_refl s

theorem effRecoveryTimeout_resetFrame (s : State) : resetFrame s (effRecoveryTimeout s) := by
  unfold effRecoveryTimeout
  split
  · exact resetFrame_refl s
  · exact ⟨by simp, .inr (by simp [State.deviceReset_dev])⟩

theorem effHeartbeatMiss_resetFrame (s : State) : resetFrame s (effHeartbeatMiss s) := by
  refine ⟨effHeartbeatMiss_pending s, ?_⟩
  unfold effHeartbeatMiss
  dsimp only
  split
  · split_ifs
    · rw [State.devFault_dev]
      cases s.module_.ident.committing <;> simp
    · cases s.module_.ident.committing <;> simp
  · exact .inl rfl

theorem State.trip_dev (s : State) : s.trip.dev = { s.dev with fbId := 0xFFFF } := by
  simp [State.trip, State.deviceReset_dev]

theorem effThermalSample_resetFrame (x : ThermSensor) (v : BitVec 16) (s : State) : resetFrame s (effThermalSample x v s) := by
  refine ⟨effThermalSample_pending x v s, ?_⟩
  unfold effThermalSample
  extract_lets s1 hot s2
  have hd : s2.dev = s.dev := by simp [s2, s1]
  split_ifs
  · exact .inl rfl
  · exact .inl hd
  · exact .inr (by rw [State.trip_dev, hd])
  · exact .inl (by simpa using hd)

/-- An output that goes off takes the settings with it that the flash does not hold (R849). -/
theorem State.outputOff_dev (s : State) (c : Nat) : (s.outputOff c).dev = { s.dev with mode := 2, fbId := 0xFFFF } := by
  simp [State.outputOff, State.powerless_dev]

theorem effInputRise_legal {g : Nat} {s : State} (h : s.dev.Legal g) (mv : BitVec 17) : (effInputRise mv s).dev.Legal g := by
  unfold effInputRise
  dsimp only
  split
  · simpa [State.powerless_dev] using h.powerless
  · exact h

theorem effInputUndervoltageOff_legal {g : Nat} {s : State} (h : s.dev.Legal g) (mv : BitVec 17) :
    (effInputUndervoltageOff mv s).dev.Legal g := by
  unfold effInputUndervoltageOff
  split
  · simpa [State.outputOff_dev] using h.powerless
  · exact h

theorem effInputOvervoltageOff_legal {g : Nat} {s : State} (h : s.dev.Legal g) (mv : BitVec 17) :
    (effInputOvervoltageOff mv s).dev.Legal g := by
  unfold effInputOvervoltageOff
  split
  · simpa [State.outputOff_dev] using h.powerless
  · exact h

theorem effOvercurrentLatch_legal {g : Nat} {s : State} (h : s.dev.Legal g) (ma : BitVec 17) :
    (effOvercurrentLatch ma s).dev.Legal g := by
  unfold effOvercurrentLatch
  split
  · simpa [State.outputOff_dev] using h.powerless
  · exact h

/-- Start-up counts the boot (R694) and changes no other setting. -/
theorem effStartup_legal {g : Nat} {s : State} (h : s.dev.Legal g) (b : BootInput) : (effStartup b s).dev.Legal g := by
  unfold effStartup
  dsimp only
  split_ifs
  · simpa using h.withBoot (s.dev.boot + 1)
  · simpa using h.withBoot (s.dev.boot + 1)
  · simpa using h
  · exact h

/-- FB_ID takes the legal ID that a write names, or stays (R604, R646). -/
theorem effFbIdWrite_legal {g : Nat} {s : State} (h : s.dev.Legal g) (v : Word) : (effFbIdWrite v s).dev.Legal g := by
  unfold effFbIdWrite
  dsimp only
  split
  · exact h
  · next hid =>
    rw [foldl_dev _ _ _ (by rintro t f - rfl; split <;> simp)]
    exact h.withFbId (by rw [not_or, not_and_or, not_le, not_not] at hid; exact hid.1)

/-- A register write changes the settings only as FB_ID_WRITE does (R10). -/
theorem State.writeFabDev_legal {g : Nat} {s : State} (h : s.dev.Legal g) (o : Nat) (v : Word) :
    (s.writeFabDev o v).dev.Legal g := by
  unfold State.writeFabDev
  split_ifs
  · exact effFbIdWrite_legal h v
  all_goals simpa using h

theorem State.writeFab_legal {g : Nat} {s : State} (h : s.dev.Legal g) (o : Nat) (v sets : Word) :
    (s.writeFab o v sets).dev.Legal g := by
  unfold State.writeFab
  split
  · simpa using h
  · split
    · exact h
    · exact State.writeFabDev_legal h o v

theorem State.writeBlock_legal {g : Nat} {s : State} (h : s.dev.Legal g) (x : Nat) (v sets : Word) :
    (s.writeBlock x v sets).dev.Legal g := by
  unfold State.writeBlock
  split
  · split <;> simpa using h
  · split <;> simpa using h
  · simpa using h
  · split <;> simpa using h
  · simpa using h
  · dsimp only
    split
    · exact State.writeFab_legal h _ v sets
    · simpa using h
    · split <;> simpa using h
    · exact h

theorem effRegisterWrite_legal {g : Nat} {s : State} (h : s.dev.Legal g) (fn : Fin 6) (bar4 : Bool) (off : BitVec 25)
    (v sets : Word) : (effRegisterWrite fn bar4 off v sets s).dev.Legal g := by
  unfold effRegisterWrite State.writeReg
  split_ifs
  · exact h
  · simpa using h
  · simpa using h
  · simpa using h
  · exact h
  · split
    · simpa using h
    · exact State.writeBlock_legal h _ v sets

/-! ### SET_PARTITION_MODE -/

theorem State.refuses_of_not_ok (s : State) (h : Hdr) (c : CmdSpec) : s.refuses h c false ≠ none := by
  unfold State.refuses
  split_ifs <;> simp_all

/-- A host command leaves settings with a property where they had it and its effect, which comes with every field of PARAMS in
range, leaves such settings (R540). -/
theorem State.checked_dev_of {P : Dev → Prop} {s : State} (hs : P s.dev) (h : Hdr) (c : CmdSpec) (ok : Bool)
    (body : State → State) (hb : ok = true → ∀ t : State, P t.dev → P (body t).dev) : P (s.checked h c ok body).dev := by
  unfold State.checked
  split
  · simpa using hs
  · next hr =>
    cases ok with
    | false => exact absurd hr (s.refuses_of_not_ok h c)
    | true => exact hb rfl s hs

theorem State.carryLeft_dev_of {P : Dev → Prop} {s : State} (hs : P s.dev) (h : Hdr) (c : CmdSpec) (ok : Bool) (l : Left)
    (body : State → State) (hb : ok = true → ∀ t : State, P t.dev → P (body t).dev) :
    P (s.carryLeft h c ok l body).dev := by
  unfold State.carryLeft
  simpa [State.silence] using State.checked_dev_of (by simpa using hs) h c ok body hb

theorem State.hostCmd_dev_of {P : Dev → Prop} {s : State} (hs : P s.dev) (h : Hdr) (c : CmdSpec) (ok : Bool)
    (body : State → State) (hb : ok = true → ∀ t : State, P t.dev → P (body t).dev) : P (s.hostCmd h c ok body).dev := by
  unfold State.hostCmd
  split
  · split
    · exact State.carryLeft_dev_of hs h c ok _ body hb
    · split
      · simpa using State.checked_dev_of (by simpa using hs) h c ok body hb
      · exact hs
  · exact hs

theorem State.changeMode_dev (s : State) (m : BitVec 2) : (s.changeMode m).dev = { s.dev with mode := m } := by
  simp [State.changeMode]

theorem mode_ne_three {m : Byte} (h : m.toNat ≤ 2) : BitVec.ofNat 2 m.toNat ≠ 3 := by
  bv_omega

/-- The partition mode becomes one of the three that R733 gives. -/
theorem effSetPartitionMode_legal {g : Nat} {s : State} (hs : s.dev.Legal g) (h : Hdr) (m : Byte) :
    (effSetPartitionMode h m s).dev.Legal g := by
  refine State.hostCmd_dev_of hs h _ _ _ fun hm t ht => ?_
  split
  · simpa using ht
  · simpa [State.changeMode_dev] using ht.withMode (mode_ne_three (by simpa using hm))

/-! ### Every command, every step -/

/-- A command that does not list the settings keeps them. -/
theorem exec_dev_of_not_touched {c : Instr} {s t : State} (h : exec c s = .next t) (hc : (touches c).contains .dev = false) :
    t.dev = s.dev := exec_keepsBut_touches c s t h .dev (by simpa using hc)

theorem exec_legal {g : Nat} (c : Instr) (s t : State) (hs : s.dev.Legal g) (h : exec c s = .next t) : t.dev.Legal g := by
  cases c with
  | registerWrite => cases h; exact effRegisterWrite_legal hs ..
  | fbIdWrite => cases h; exact effFbIdWrite_legal hs _
  | setPartitionMode => cases h; exact effSetPartitionMode_legal hs ..
  | startup => cases h; exact effStartup_legal hs _
  | inputRise => cases h; exact effInputRise_legal hs _
  | inputUndervoltageOff => cases h; exact effInputUndervoltageOff_legal hs _
  | inputOvervoltageOff => cases h; exact effInputOvervoltageOff_legal hs _
  | overcurrentLatch => cases h; exact effOvercurrentLatch_legal hs _
  | flitForward => cases h; exact hs.of_resetFrame (effFlitForward_resetFrame ..)
  | fabricWriteReceive => cases h; exact hs.of_resetFrame (effFabricWriteReceive_resetFrame ..)
  | fabricAddReceive => cases h; exact hs.of_resetFrame (effFabricAddReceive_resetFrame ..)
  | edgeRemoteWrite => cases h; exact hs.of_resetFrame (effEdgeRemoteWrite_resetFrame ..)
  | ringDescriptorStart => cases h; exact hs.of_resetFrame (effRingDescriptorStart_resetFrame ..)
  | fwCommitReset => cases h; exact hs.of_resetFrame (effFwCommitReset_resetFrame _)
  | heartbeatMiss => cases h; exact hs.of_resetFrame (effHeartbeatMiss_resetFrame _)
  | recoveryTimeout => cases h; exact hs.of_resetFrame (effRecoveryTimeout_resetFrame _)
  | thermalSample => cases h; exact hs.of_resetFrame (effThermalSample_resetFrame ..)
  | _ => rw [exec_dev_of_not_touched h rfl]; exact hs

theorem step_legal {g : Nat} (s t : State) (hs : s.dev.Legal g) (h : step s = .next t) : t.dev.Legal g := by
  unfold step at h
  split at h
  · cases h
    simpa using hs
  · exact exec_legal _ _ _ (by simpa using hs) h

/-- Settles O23, by the invariant of legal settings with the grade that the step found. -/
theorem deviceSettingsKept : Obligations.DeviceSettingsKept := fun s t hm hid h => step_legal s t ⟨hm, hid, rfl⟩ h

end Sys2Proof.Machine
end

section
/-!
PROOF. Where a register write goes (O44): the block and the offset that an address names, then the field and its rule.
-/
namespace Sys2Proof.Machine

/-! ### Addresses -/

theorem blockIn_eq_some {x base size count n o : Nat} (hx : x = base + size * n + o) (hn : n < count) (ho : o < size) :
    blockIn x base size count = some (n, o) := by
  have hle : size * (n + 1) ≤ size * count := Nat.mul_le_mul_left _ hn
  have hsub : x - base = o + size * n := by omega
  rw [blockIn, if_pos ⟨by omega, by rw [Nat.mul_add_one] at hle; omega⟩, hsub, Nat.add_mul_div_left _ _ (by omega),
    Nat.add_mul_mod_self_left, Nat.div_eq_of_lt ho, Nat.mod_eq_of_lt ho, Nat.zero_add]

theorem blockIn_eq_none {x base size count : Nat} (h : x < base ∨ base + size * count ≤ x) :
    blockIn x base size count = none := if_neg (by omega)

theorem slotIn_eq_some {x base count n : Nat} (hx : x = base + 4 * n) (hn : n < count) (hb : base % 4 = 0) :
    slotIn x base count = some n := by
  rw [slotIn, if_pos (by omega)]
  congr 1
  omega

theorem slotIn_eq_none {x base count : Nat} (h : x < base ∨ base + 4 * count ≤ x) : slotIn x base count = none :=
  if_neg (by omega)

theorem toNat_offset {x : Nat} (hx : x < 2 ^ 25) : (BitVec.ofNat 25 x).toNat = x := by simpa using Nat.mod_eq_of_lt hx

/-! ### BAR0 (R509, R510) -/

section
variable (s : State) {x : Nat} (v sets : Word)

/-- A write of the PF in the block of a core. -/
theorem exec_registerWrite_core (n : Fin 1536) {o : Nat} (hx : x = 0x01000000 + 0x1000 * n.val + o) (ho : o < 0x1000)
    (h4 : o % 4 = 0) :
    exec (.registerWrite 0 false (BitVec.ofNat 25 x) v sets) s = .next (s.writeCore n o (v &&& ~~~sets)) := by
  have hb : blockIn x 0x01000000 0x1000 1536 = some (n.val, o) := blockIn_eq_some hx n.isLt ho
  simp only [exec, execRegisterWrite, effRegisterWrite, State.writeReg, toNat_offset (show x < 2 ^ 25 by omega), hb]
  simp [show x % 4 = 0 by omega, show ¬x < 0x10000 by omega]

/-- A write of the PF between the functions' own blocks and those of the cores. -/
theorem exec_registerWrite_block (h4 : x % 4 = 0) (hlo : 0x10000 ≤ x) (hhi : x < 0x01000000) :
    exec (.registerWrite 0 false (BitVec.ofNat 25 x) v sets) s = .next (s.writeBlock x v sets) := by
  have hb : blockIn x 0x01000000 0x1000 1536 = none := blockIn_eq_none (.inl hhi)
  simp only [exec, execRegisterWrite, effRegisterWrite, State.writeReg, toNat_offset (show x < 2 ^ 25 by omega), hb]
  simp [h4, show ¬x < 0x10000 by omega]

/-- The error register of a router (R249). -/
theorem State.writeBlock_router (k : Fin 48) (hx : x = 0x00800020 + 0x1000 * k.val) :
    s.writeBlock x v sets = s.modRouter k (fun r => { r with err := r.err.write (v &&& ~~~sets) }) := by
  have h0 : blockIn x 0x00800000 0x1000 48 = some (k.val, 0x20) := blockIn_eq_some (by omega) k.isLt (by decide)
  simp [State.writeBlock, h0]

/-- The error register of a combining block (R381). -/
theorem State.writeBlock_combining (k : Fin 48) (hx : x = 0x008405C0 + 0x1000 * k.val) :
    s.writeBlock x v sets = s.modCluster k (fun c => { c with cq := { c.cq with err := c.cq.err.write (v &&& ~~~sets) } }) := by
  have h0 : blockIn x 0x00800000 0x1000 48 = none := blockIn_eq_none (.inr (by omega))
  have h1 : blockIn x 0x00840000 0x1000 48 = some (k.val, 0x5C0) := blockIn_eq_some (by omega) k.isLt (by decide)
  simp [State.writeBlock, h0, h1]

/-- The block of an inkwell (R433, R434). -/
theorem State.writeBlock_ink (k : Fin 48) {o : Nat} (hx : x = 0x008C0000 + 0x1000 * k.val + o) (ho : o < 0x1000) :
    s.writeBlock x v sets = s.writeInk k o (v &&& ~~~sets) := by
  have h0 : blockIn x 0x00800000 0x1000 48 = none := blockIn_eq_none (.inr (by omega))
  have h1 : blockIn x 0x00840000 0x1000 48 = none := blockIn_eq_none (.inr (by omega))
  have h2 : blockIn x 0x008C0000 0x1000 48 = some (k.val, o) := blockIn_eq_some hx k.isLt ho
  simp only [State.writeBlock, h0, h1, h2]

/-- The error register of a memory controller (R492). -/
theorem State.writeBlock_mc (m : Fin 16) (hx : x = 0x00900018 + 0x1000 * m.val) :
    s.writeBlock x v sets = s.modMc m (fun c => { c with err := c.err.write (v &&& ~~~sets) }) := by
  have h0 : blockIn x 0x00800000 0x1000 48 = none := blockIn_eq_none (.inr (by omega))
  have h1 : blockIn x 0x00840000 0x1000 48 = none := blockIn_eq_none (.inr (by omega))
  have h2 : blockIn x 0x008C0000 0x1000 48 = none := blockIn_eq_none (.inr (by omega))
  have h3 : blockIn x 0x00900000 0x1000 16 = some (m.val, 0x18) := blockIn_eq_some (by omega) m.isLt (by decide)
  simp [State.writeBlock, h0, h1, h2, h3]

end

/-! ### Functions (R509, R510, R516) -/

theorem exec_registerWrite_bc (s : State) (b : Bool) (off : BitVec 25) (v sets : Word) :
    exec (.registerWrite 5 b off v sets) s = .next s := rfl

theorem exec_registerWrite_bar0 {fn : Fin 6} (h5 : fn ≠ 5) (s : State) (off : BitVec 25) (v sets : Word) :
    exec (.registerWrite fn false off v sets) s = .next (s.writeReg fn off.toNat v sets) := by
  simp [exec, execRegisterWrite, effRegisterWrite, h5]

theorem exec_registerWrite_bar4 {fn : Fin 6} (h5 : fn ≠ 5) (s : State) (off : BitVec 25) (v sets : Word) :
    exec (.registerWrite fn true off v sets) s = .next (s.writeBar4 fn off.toNat v) := by
  simp [exec, execRegisterWrite, effRegisterWrite, h5]

theorem State.writeReg_misaligned (s : State) (fn : Fin 6) {x : Nat} (h4 : x % 4 ≠ 0) (v sets : Word) :
    s.writeReg fn x v sets = s.barRejected fn.val := if_pos h4

/-- A VF reaches nothing outside its own block. -/
theorem State.writeReg_foreign (s : State) {fn : Fin 6} (h0 : fn ≠ 0) {x : Nat} (h4 : x % 4 = 0) (hx : 0x10000 ≤ x)
    (v sets : Word) : s.writeReg fn x v sets = s := by
  simp [State.writeReg, h4, Nat.not_lt.2 hx, h0]

section
variable (s : State) (fn : Fin 6) (n : Fin 64) (v : Word)

theorem State.writeBar4_sqTail : s.writeBar4 fn (8 * n.val) v = effSqTailDoorbell fn (BitVec.ofNat 8 n.val) v s := by
  have hs : slotIn (8 * n.val) 0 128 = some (2 * n.val) := slotIn_eq_some (by omega) (by omega) rfl
  simp [State.writeBar4, hs]

theorem State.writeBar4_cqHead : s.writeBar4 fn (8 * n.val + 4) v = effCqHeadDoorbell fn (BitVec.ofNat 8 n.val) v s := by
  have hs : slotIn (8 * n.val + 4) 0 128 = some (2 * n.val + 1) := slotIn_eq_some (by omega) (by omega) rfl
  simp [State.writeBar4, hs, show (2 * n.val + 1) / 2 = n.val by omega]

theorem State.writeBar4_eventRing : s.writeBar4 fn 0x400 v = effEventRingHeadDoorbell fn v s := by
  simp [State.writeBar4, slotIn]

/-- LENGTH of HI_RECOVERY is set; GO is not. -/
theorem State.writeBar4_recoveryLength (hgo : v.getLsbD 30 = false) :
    s.writeBar4 0 0x800 v = { s with host := { s.host with recoveryLen := v.extractLsb' 0 24 } } := by
  simp only [State.writeBar4, slotIn_eq_none (show 0x800 < 0 ∨ 0 + 4 * 128 ≤ 0x800 by decide)]
  simp [State.writeRecovery, hgo, -BitVec.getLsbD_eq_getElem]

end

/-- Settles O44, by the part of the register space that each address lies in. -/
theorem registerWrites : Obligations.RegisterWrites := by
  refine ⟨fun s n v sets => ?_, fun s k m v sets => ?_, fun s fn off v sets => ?_, fun s fn n v sets h5 => ?_⟩
  · intro w x
    have hw : ∀ o, o < 0x1000 → o % 4 = 0 → w o = .next (s.writeCore n o x) := fun o =>
      exec_registerWrite_core s v sets n rfl
    exact ⟨hw 0x10 (by decide) rfl, hw 0x220 (by decide) rfl, hw 0x400 (by decide) rfl, hw 0x408 (by decide) rfl,
      hw 0x40C (by decide) rfl⟩
  · intro w x
    have hw : ∀ o, o % 4 = 0 → 0x10000 ≤ o → o < 0x01000000 → w o = .next (s.writeBlock o v sets) := fun o =>
      exec_registerWrite_block s v sets
    refine ⟨?_, ?_, ?_, ?_, ?_, ?_, rfl⟩
    · rw [hw _ (by omega) (by omega) (by omega), s.writeBlock_router v sets k rfl]
    · rw [hw _ (by omega) (by omega) (by omega), s.writeBlock_combining v sets k rfl]
    · rw [hw _ (by omega) (by omega) (by omega), s.writeBlock_ink v sets k (o := 0x40) (by omega) (by decide)]
      rfl
    · rw [hw _ (by omega) (by omega) (by omega), s.writeBlock_ink v sets k (o := 0x48) (by omega) (by decide)]
      rfl
    · rw [hw _ (by omega) (by omega) (by omega), s.writeBlock_mc v sets m rfl]
    · rw [hw _ (by decide) (by decide) (by decide)]
      rfl
  · refine ⟨?_, fun h5 h4 => ?_, fun h0 h4 hx => ?_⟩
    · rintro rfl b
      exact exec_registerWrite_bc s b off v sets
    · rw [exec_registerWrite_bar0 h5, State.writeReg_misaligned s fn h4]
      rfl
    · by_cases h5 : fn = 5
      · rw [h5, exec_registerWrite_bc]
      · rw [exec_registerWrite_bar0 h5, State.writeReg_foreign s h0 h4 hx]
  · refine ⟨?_, ?_, ?_, fun hgo => ?_⟩
    · rw [exec_registerWrite_bar4 h5, toNat_offset (by omega), State.writeBar4_sqTail]
      rfl
    · rw [exec_registerWrite_bar4 h5, toNat_offset (by omega), State.writeBar4_cqHead]
      rfl
    · rw [exec_registerWrite_bar4 h5]
      exact congrArg Host.Outcome.next (s.writeBar4_eventRing fn v)
    · exact congrArg Host.Outcome.next (s.writeBar4_recoveryLength v hgo)

end Sys2Proof.Machine
end

section
/-!
PROOF. The storage keeps its canonical form (O25): the operations on a store, and choices and folds of them.
-/
namespace Sys2Proof.Machine

/-! ### Operations on a store -/

theorem wf_ite {c : Prop} [Decidable c] {m v : Store} (hm : m.wf = true) (hv : v.wf = true) :
    (if c then m else v).wf = true := by
  split
  · exact hm
  · exact hv

/-- A fold of operations that keep the canonical form keeps it. -/
theorem Store.wf_foldl {α : Type} {l : List α} {g : Store → α → Store} {m : Store}
    (h : ∀ y x, y.wf = true → (g y x).wf = true) (w : m.wf = true) : (l.foldl g m).wf = true :=
  foldl_keeps (fun y => y.wf = true) l g m h w

section
variable {m : Store} (w : m.wf = true)
include w

theorem Store.wf_setMem {mem : List Host.Cell} (h : Memory.wf mem = true) : ({ m with mem := mem } : Store).wf = true := by
  obtain ⟨-, hb, hf⟩ := (Store.wf_iff m).1 w
  exact (Store.wf_iff _).2 ⟨h, hb, hf⟩

theorem Store.wf_setBlots {l : List Nat} (h : risingFrom 0 l = true) : ({ m with blots := l } : Store).wf = true := by
  obtain ⟨hm, -, hf⟩ := (Store.wf_iff m).1 w
  exact (Store.wf_iff _).2 ⟨hm, h, hf⟩

theorem Store.wf_setFills {l : List Nat} (h : risingFrom 0 l = true) : ({ m with fills := l } : Store).wf = true := by
  obtain ⟨hm, hb, -⟩ := (Store.wf_iff m).1 w
  exact (Store.wf_iff _).2 ⟨hm, hb, h⟩

theorem Store.wf_blot (u : Nat) : ({ m with blots := Units.add m.blots u } : Store).wf = true :=
  Store.wf_setBlots w (Units.rising_add _ _ _ (Nat.zero_le _) ((Store.wf_iff m).1 w).2.1)

theorem Store.wf_fill (u : Nat) : ({ m with fills := Units.add m.fills u } : Store).wf = true :=
  Store.wf_setFills w (Units.rising_add _ _ _ (Nat.zero_le _) ((Store.wf_iff m).1 w).2.2)

theorem Store.wf_unfill (u : Nat) : ({ m with fills := Units.del m.fills u } : Store).wf = true :=
  Store.wf_setFills w (Units.rising_del _ _ _ ((Store.wf_iff m).1 w).2.2)

/-- Bytes written one by one, some of them left out. -/
theorem Store.wf_writeSome {l : List (Byte × Nat)} {skip : Byte × Nat → Bool} {a : Nat} :
    ({ m with mem := l.foldl (fun r e => if skip e = true then r else Memory.write r (a + e.2) e.1) m.mem } : Store).wf = true := by
  refine Store.wf_setMem w (foldl_keeps (fun r => Memory.wf r = true) _ _ _ (fun r e hr => ?_) ((Store.wf_iff m).1 w).1)
  split
  · exact hr
  · exact Memory.wf_write _ _ _ hr

/-- Copying from another store keeps the canonical form, whatever that other store holds. -/
theorem Store.wf_copyFrom (v : Store) (src dst n : Nat) : (m.copyFrom v src dst n).wf = true := by
  obtain ⟨hm, hb, hf⟩ := (Store.wf_iff _).1 (Store.wf_zeroRange m dst n w)
  have move : ∀ l acc : List Nat, risingFrom 0 acc = true → risingFrom 0 (l.foldl (fun r u =>
      if src / 32 ≤ u ∧ u < (src + n) / 32 then Units.add r (u - src / 32 + dst / 32) else r) acc) = true := fun l acc ha =>
    foldl_keeps (fun r => risingFrom 0 r = true) _ _ _ (fun r u hr => by
      split
      · exact Units.rising_add _ _ _ (Nat.zero_le _) hr
      · exact hr) ha
  refine (Store.wf_iff _).2 ⟨foldl_keeps (fun r => Memory.wf r = true) _ _ _ (fun r c hr => ?_) hm, move _ _ hb, move _ _ hf⟩
  split
  · exact Memory.wf_write _ _ _ hr
  · exact hr

theorem Store.wf_setEntry (slot n : Nat) (e : Option Nat) : (m.setEntry slot n e).wf = true := Store.wf_write _ _ _ _ w

theorem Store.wf_setCount (pn n : Nat) : (m.setCount pn n).wf = true := Store.wf_write _ _ _ _ w

theorem Store.wf_uncommit (a : Nat) : (m.uncommit a).wf = true := Store.wf_write _ _ _ _ w

theorem Store.wf_fillRange (a n : Nat) : (m.fillRange a n).wf = true :=
  Store.wf_foldl (fun _ _ hy => Store.wf_fill hy _) w

theorem Store.wf_copyOperands (v : Store) (src dst : Nat) (ranges : List (Nat × Nat)) :
    (m.copyOperands v src dst ranges).wf = true :=
  Store.wf_foldl (fun _ _ hy => Store.wf_copyFrom hy ..) w

theorem Store.wf_touchFill (base : Nat) (offs : List Nat) (isRead consume : Bool) :
    (m.touchFill base offs isRead consume).wf = true := by
  refine Store.wf_foldl (fun y o hy => ?_) w
  split_ifs
  · exact hy
  · exact Store.wf_unfill hy _
  · exact hy
  · exact Store.wf_fill hy _

theorem Store.wf_scatter (col : Bool) (base : Nat) (offs : List Nat) (ws : List (Word × Bool)) :
    (m.scatter col base offs ws).wf = true := by
  unfold Store.scatter
  split
  · exact Store.wf_foldl (fun _ _ hy => Store.wf_write _ _ _ _ hy) w
  · exact Store.wf_write _ _ _ _ (Store.wf_write _ _ _ _ w)

theorem Store.wf_writePart (a : Nat) (b : List Byte) : (m.writePart a b).wf = true := by
  refine Store.wf_foldl (fun y e hy => ?_) (Store.wf_uncommit (Store.wf_write _ _ _ _ (Store.wf_zeroRange _ _ _ w)) a)
  split
  · exact hy
  · refine Store.wf_foldl (fun z j hz => ?_) hy
    split
    · exact Store.wf_blot hz _
    · exact hz

end

/-- Writes made in order (R134) keep the canonical form of the store they are made in. -/
theorem Store.wf_makeWrites (base : Nat) (ws : List LsWrite) : ∀ (m0 m : Store) (done : List LsWrite),
    m.wf = true → (Store.makeWrites base m0 m done ws).wf = true := by
  induction ws with
  | nil => exact fun _ _ _ w => w
  | cons x r ih =>
    refine fun m0 m done w => ih _ _ _ ((Store.wf_iff _).2 ?_)
    obtain ⟨hm, hb, hf⟩ := (Store.wf_iff m).1 w
    exact ⟨Memory.wf_writeBytes _ _ _ hm, Units.rising_put _ _ _ hb, hf⟩

theorem State.lsFinal_wf {s : State} (w : s.store.wf = true) (n : Nat) : (s.lsFinal n).wf = true :=
  Store.wf_makeWrites _ _ _ _ _ w

end Sys2Proof.Machine
end

section
/-!
PROOF. The storage keeps its canonical form (O25): every operation of the state. An operation that leaves the storage as it was
has its frame law; each of the others has a law of its own here, from the laws of the operations it is made of.
-/
namespace Sys2Proof.Machine

@[simp] theorem Store.wf_choice (c : Prop) [Decidable c] (m v : Store) :
    (if c then m else v).wf = if c then m.wf else v.wf := apply_ite ..

/-- A fold of functions that keep the storage canonical keeps it. -/
@[simp] theorem foldl_wf {α : Type} (l : List α) (g : State → α → State) (s : State)
    (h : ∀ t x, t.store.wf = true → (g t x).store.wf = true) (w : s.store.wf = true) : (l.foldl g s).store.wf = true :=
  foldl_keeps (fun t => t.store.wf = true) l g s h w

/-! ### Writes of a core -/

@[simp] theorem State.write_wf (s : State) (a : Nat) (bs : List Byte) (blot : Bool) (w : s.store.wf = true) :
    (s.write a bs blot).store.wf = true := Store.wf_write _ _ _ _ w

@[simp] theorem State.lsTick_wf (s : State) (n c : Nat) (w : s.store.wf = true) : (s.lsTick n c).store.wf = true := by
  simp [State.lsTick, Store.wf_makeWrites, w]

@[simp] theorem State.lsSettle_wf (s : State) (n : Nat) (w : s.store.wf = true) : (s.lsSettle n).store.wf = true := by
  simp [State.lsSettle, State.lsFinal_wf, w]

/-! ### Kills, fences and core errors -/

@[simp] theorem State.releaseCores_wf (s : State) (c : Nat) (w : s.store.wf = true) : (s.releaseCores c).store.wf = true := by
  simp +contextual [State.releaseCores, w]

@[simp] theorem State.kill_wf (s : State) (c level src : Nat) (payload : List (Nat × Nat × Nat)) (w : s.store.wf = true) :
    (s.kill c level src payload).store.wf = true := by
  simp [State.kill, w]

@[simp] theorem State.fenceAs_wf (s : State) (n cause level : Nat) (w : s.store.wf = true) :
    (s.fenceAs n cause level).store.wf = true := by
  unfold State.fenceAs
  dsimp only
  repeat' split
  all_goals simp [w]

@[simp] theorem State.fenceCore_wf (s : State) (n cause : Nat) (w : s.store.wf = true) :
    (s.fenceCore n cause).store.wf = true := by
  simp [State.fenceCore, w]

@[simp] theorem State.countError_wf (s : State) (n level kind : Nat) (w : s.store.wf = true) :
    (s.countError n level kind).store.wf = true := by
  simp [State.countError, w]

@[simp] theorem State.coreFault_wf (s : State) (n t : Nat) (e : CoreError) (multi : Bool) (w : s.store.wf = true) :
    (s.coreFault n t e multi).store.wf = true := by
  unfold State.coreFault
  dsimp only
  repeat' split
  all_goals simp [w]

@[simp] theorem State.alsoFault_wf (s : State) (n : Nat) (e : CoreError) (w : s.store.wf = true) :
    (s.alsoFault n e).store.wf = true := by
  simp [State.alsoFault, w]

@[simp] theorem State.coreErrorIn_wf (s : State) (n t : Nat) (e : CoreError) (w : s.store.wf = true) :
    (s.coreErrorIn n t e).store.wf = true := by
  simp [State.coreErrorIn, w]

@[simp] theorem State.coreError_wf (s : State) (n : Nat) (e : CoreError) (w : s.store.wf = true) :
    (s.coreError n e).store.wf = true := by
  simp [State.coreError, w]

@[simp] theorem State.engineError_wf (s : State) (n : Nat) (e : EngErrKind) (detail : Nat) (w : s.store.wf = true) :
    (s.engineError n e detail).store.wf = true := by
  unfold State.engineError
  dsimp only
  repeat' split
  all_goals simp [w]

@[simp] theorem State.judgeLoad_wf (s : State) (n : Nat) (w : s.store.wf = true) : (s.judgeLoad n).store.wf = true := by
  unfold State.judgeLoad
  split <;> simp [w]

/-! ### What happens in a core of itself -/

@[simp] theorem State.deliver_wf (s : State) (n q cycle rank : Nat) (t : Token) (ruled : Bool) (w : s.store.wf = true) :
    (s.deliver n q cycle rank t ruled).store.wf = true := by
  unfold State.deliver
  split <;> simp [w]

@[simp] theorem State.pairingOverflow_wf (s : State) (n u inp cycle cause : Nat) (ord : Byte) (w : s.store.wf = true) :
    (s.pairingOverflow n u inp cycle cause ord).store.wf = true := by
  simp [State.pairingOverflow, w]

@[simp] theorem State.steerWrite_wf (s : State) (n u i cycle : Nat) (t : Token) (w : s.store.wf = true) :
    (s.steerWrite n u i cycle t).store.wf = true := by
  simp [State.steerWrite, w]

@[simp] theorem State.steerDeliver_wf (s : State) (n u i cycle : Nat) (t : Token) (w : s.store.wf = true) :
    (s.steerDeliver n u i cycle t).store.wf = true := by
  unfold State.steerDeliver
  split <;> simp [w]

@[simp] theorem State.steerOutput_wf (s : State) (n u m cycle : Nat) (x : Word) (t : Token) (w : s.store.wf = true) :
    (s.steerOutput n u m cycle x t).store.wf = true := by
  simp [State.steerOutput, w]

@[simp] theorem State.sendEnter_wf (s : State) (n ch cycle : Nat) (t : Token) (pc : BitVec 12) (w : s.store.wf = true) :
    (s.sendEnter n ch cycle t pc).store.wf = true := by
  simp [State.sendEnter, w]

@[simp] theorem State.flitsEnter_wf (s : State) (n ch cycle : Nat) (fs : List Flit) (pc : BitVec 12) (w : s.store.wf = true) :
    (s.flitsEnter n ch cycle fs pc).store.wf = true := by
  simp [State.flitsEnter, w]

@[simp] theorem State.ctlEnter_wf (s : State) (n u cycle : Nat) (t : Token) (w : s.store.wf = true) :
    (s.ctlEnter n u cycle t).store.wf = true := by
  simp [State.ctlEnter, w]

@[simp] theorem State.dueStep_wf (s : State) (n : Nat) (d : Due) (w : s.store.wf = true) :
    (s.dueStep n d).store.wf = true := by
  unfold State.dueStep
  split <;> simp [w]

@[simp] theorem State.dueNext_wf (s : State) (n : Nat) (w : s.store.wf = true) : (s.dueNext n).store.wf = true := by
  unfold State.dueNext
  split <;> simp [w]

@[simp] theorem State.tickFrom_wf (fuel : Nat) (s : State) (n c : Nat) (w : s.store.wf = true) :
    (State.tickFrom fuel s n c).store.wf = true := by
  induction fuel generalizing s with
  | zero => exact w
  | succ f ih =>
    unfold State.tickFrom
    split
    · exact w
    · split
      · exact ih _ (s.dueNext_wf n w)
      · exact w

@[simp] theorem State.coreTick_wf (s : State) (n c : Nat) (w : s.store.wf = true) : (s.coreTick n c).store.wf = true := by
  simp [State.coreTick, w]

@[simp] theorem State.tickFor_wf (s : State) (n : Nat) (p : DueKind → Bool) (w : s.store.wf = true) :
    (s.tickFor n p).store.wf = true := by
  unfold State.tickFor
  split <;> simp [w]

@[simp] theorem State.descDone_wf (s : State) (n : Nat) (w : s.store.wf = true) : (s.descDone n).store.wf = true := by
  unfold State.descDone
  dsimp only
  repeat' split
  all_goals simp [w]

@[simp] theorem State.inkMake_wf (s : State) (k : Nat) (x : InkLate) (w : s.store.wf = true) :
    (s.inkMake k x).store.wf = true := Store.wf_touchFill (Store.wf_scatter w ..) ..

@[simp] theorem State.inkSee_wf (s : State) (k t : Nat) (w : s.store.wf = true) : (s.inkSee k t).store.wf = true := by
  unfold State.inkSee
  dsimp only
  split
  · exact w
  · exact foldl_wf _ _ _ (fun u x hu => u.inkMake_wf k x hu) (by simpa using w)

@[simp] theorem State.inkSettle_wf (s : State) (k : Nat) (w : s.store.wf = true) : (s.inkSettle k).store.wf = true := by
  unfold State.inkSettle
  dsimp only
  split
  · exact w
  · exact foldl_wf _ _ _ (fun u x hu => u.inkMake_wf k x hu) (by simpa using w)

@[simp] theorem State.ownFrom_wf (fuel : Nat) (s : State) (n c : Nat) (w : s.store.wf = true) :
    (State.ownFrom fuel s n c).store.wf = true := by
  induction fuel generalizing s with
  | zero => exact w
  | succ f ih =>
    unfold State.ownFrom
    split
    · exact w
    · split
      · exact w
      · exact ih _ (by simp [w])

@[simp] theorem State.coreRun_wf (s : State) (n c : Nat) (w : s.store.wf = true) : (s.coreRun n c).store.wf = true := by
  simp [State.coreRun, w]

/-! ### Issue (R148, R149) -/

@[simp] theorem State.issueBeside_wf (s : State) (a : Issue) (p : Plan) (t : Nat) (w : s.store.wf = true) :
    (s.issueBeside a p t).store.wf = true := by
  unfold State.issueBeside
  repeat' split
  all_goals simp [w]

@[simp] theorem State.raiseAll_wf (s : State) (n t : Nat) (l : List CoreError) (w : s.store.wf = true) :
    (s.raiseAll n t l).store.wf = true := by
  simp +contextual [State.raiseAll, w]

/-- An instruction keeps the storage canonical when its effect does. -/
@[simp] theorem State.meets_wf (s : State) (n t : Nat) (errs : List CoreError) (effect : Nat → State → State)
    (h : ∀ t u, u.store.wf = true → (effect t u).store.wf = true) (w : s.store.wf = true) :
    (s.meets n t errs effect).store.wf = true := by
  have hc : (s.coreRun n t).store.wf = true := s.coreRun_wf n t w
  have he : (effect t s).store.wf = true := h t s w
  unfold State.meets
  dsimp only
  repeat' split
  all_goals simp [h, hc, he]

@[simp] theorem State.issue_wf (s : State) (a : Issue) (p : Plan) (effect : Nat → State → State)
    (h : ∀ t u, u.store.wf = true → (effect t u).store.wf = true) (w : s.store.wf = true) :
    (s.issue a p effect).store.wf = true := by
  have hc : (s.coreRun a.core (s.issueAt a.core p - 1)).store.wf = true := s.coreRun_wf _ _ w
  unfold State.issue
  dsimp only
  split_ifs
  · exact State.meets_wf _ _ _ _ _ h (by simpa using hc)
  · exact hc
  · exact w
  · exact s.issueBeside_wf _ _ _ w
  · exact w

@[simp] theorem syncOp_wf (a : Issue) (ra rb : BitVec 6) (isSet : Bool) (s : State) (w : s.store.wf = true) :
    (syncOp a ra rb isSet s).store.wf = true := by
  refine State.issue_wf _ _ _ _ (fun t u hu => ?_) w
  dsimp only
  split <;> simp [hu]

theorem effSyncWaitGe_wf (a : Issue) (ra rb : BitVec 6) (s : State) (w : s.store.wf = true) :
    (effSyncWaitGe a ra rb s).store.wf = true := by
  refine State.issue_wf _ _ _ _ (fun t u hu => ?_) w
  dsimp only
  split <;> simp [hu]

/-! ### Page tables, lines and slots (R449 to R454, R474 to R486) -/

@[simp] theorem State.releasePage_wf (s : State) (ctx pn : Nat) (w : s.store.wf = true) :
    (s.releasePage ctx pn).store.wf = true := by
  simp [State.releasePage, Store.wf_setCount, w]

@[simp] theorem State.holdPage_wf (s : State) (pn : Nat) (w : s.store.wf = true) : (s.holdPage pn).store.wf = true :=
  Store.wf_setCount w ..

@[simp] theorem State.unmapFrom_wf (s : State) (ctx slot lo : Nat) (w : s.store.wf = true) :
    (s.unmapFrom ctx slot lo).store.wf = true := by
  refine foldl_wf _ _ _ (fun t n ht => ?_) w
  split
  · exact State.releasePage_wf _ _ _ (Store.wf_setEntry ht ..)
  · exact ht

@[simp] theorem State.freePending_wf (s : State) (ctx : Nat) (w : s.store.wf = true) :
    (s.freePending ctx).store.wf = true := Store.wf_foldl (fun _ _ h => Store.wf_zeroRange _ _ _ h) w

@[simp] theorem State.mcUncorr_wf (s : State) (m line kind : Nat) (w : s.store.wf = true) :
    (s.mcUncorr m line kind).store.wf = true := by
  simp [State.mcUncorr, Store.wf_blotUnit, w]

@[simp] theorem State.mcFind_wf (s : State) (m line : Nat) (ecc link : Ecc) (w : s.store.wf = true) :
    (s.mcFind m line ecc link).store.wf = true := by
  unfold State.mcFind
  repeat' split
  all_goals simp [w]

@[simp] theorem State.mcLines_wf (s : State) (a n : Nat) (l : List LineFind) (w : s.store.wf = true) :
    (s.mcLines a n l).store.wf = true := by
  simp +contextual [State.mcLines, w]

@[simp] theorem State.memFault_wf (s : State) (m kind ctx addr lcluster lcore slot : Nat) (w : s.store.wf = true) :
    (s.memFault m kind ctx addr lcluster lcore slot).store.wf = true := by
  simp [State.memFault, w]

@[simp] theorem State.readTable_wf (s : State) (c slot : Nat) (l : List (BitVec 22 × Ecc)) (lines : List LineFind)
    (w : s.store.wf = true) : (s.readTable c slot l lines).store.wf = true := by
  unfold State.readTable
  split
  · exact State.mcLines_wf _ _ _ _ (foldl_wf _ _ _ (fun t e ht => t.mcFind_wf _ _ _ _ ht) w)
  · exact w

@[simp] theorem State.holdTable_wf (s : State) (slot : Nat) (w : s.store.wf = true) :
    (s.holdTable slot).store.wf = true := by
  refine foldl_wf _ _ _ (fun t e ht => ?_) w
  split
  · exact t.holdPage_wf _ ht
  · exact ht

theorem State.forkSlot_wf {s y : State} {c parent child p : Nat} (h : s.forkSlot c parent child p = .inr y)
    (w : s.store.wf = true) : y.store.wf = true := by
  unfold State.forkSlot at h
  dsimp only at h
  split_ifs at h
  cases h
  simpa using State.holdTable_wf _ _ (Store.wf_foldl (fun _ _ hm => Store.wf_setEntry hm ..) (Store.wf_copyRange _ _ _ _ w))

theorem State.rewindSlot_wf {s y : State} {c n p : Nat} (h : s.rewindSlot c n p = .inr y) (w : s.store.wf = true) :
    y.store.wf = true := by
  unfold State.rewindSlot at h
  dsimp only at h
  split_ifs at h
  cases h
  simp [w]

theorem State.acceptSlot_wf {s y : State} {c parent child : Nat} (h : s.acceptSlot c parent child = .inr y)
    (w : s.store.wf = true) : y.store.wf = true := by
  unfold State.acceptSlot at h
  dsimp only at h
  split_ifs at h
  cases h
  simp [Store.wf_zeroRange, Store.wf_copyRange, s.unmapFrom_wf c parent 0 w]

@[simp] theorem State.closeSlot_wf (s : State) (n : Nat) (w : s.store.wf = true) : (s.closeSlot n).store.wf = true := by
  simp [State.closeSlot, w]

/-! ### Combining, remote writes, queues and steering -/

@[simp] theorem State.cqFault_wf (s : State) (q : CombiningQueue) (kind piece : Nat) (w : s.store.wf = true) :
    (s.cqFault q kind piece).store.wf = true := by
  unfold State.cqFault
  dsimp only
  repeat' split
  all_goals simp [w]

@[simp] theorem State.contribute_wf (s : State) (q : CombiningQueue) (cycle rank : Nat) (t : Token) (w : s.store.wf = true) :
    (s.contribute q cycle rank t).store.wf = true := by
  unfold State.contribute
  repeat' split
  all_goals simp [w]

@[simp] theorem State.putResult_wf (s : State) (q : CombiningQueue) (d i : Nat) (r : CqResult) (w : s.store.wf = true) :
    (s.putResult q d i r).store.wf = true := by
  unfold State.putResult
  split <;> simp [w]

theorem effCombiningRelease_wf (q : CombiningQueue) (s : State) (w : s.store.wf = true) :
    (effCombiningRelease q s).store.wf = true := by
  unfold effCombiningRelease
  dsimp only
  repeat' split
  all_goals simp [w]

@[simp] theorem State.contributeUnit_wf (s : State) (window : Nat) (queue : BitVec 6) (t : Token) (w : s.store.wf = true) :
    (s.contributeUnit window queue t).store.wf = true := by
  simp [State.contributeUnit, w]

@[simp] theorem State.acceptWrite_wf (s : State) (f : FabricFlit) (w : s.store.wf = true) :
    (s.acceptWrite f).store.wf = true := by
  simp +contextual [State.acceptWrite, w]

@[simp] theorem State.decideWrite_wf (s : State) (f : FabricFlit) (w : s.store.wf = true) :
    (s.decideWrite f).store.wf = true := by
  unfold State.decideWrite
  split <;> simp [w]

@[simp] theorem State.dealWrite_wf (s : State) (via : Nat) (f : FabricFlit) (w : s.store.wf = true) :
    (s.dealWrite via f).store.wf = true := by
  simp [State.dealWrite, w]

@[simp] theorem State.writeArrives_wf (s : State) (via : Nat) (f : FabricFlit) (w : s.store.wf = true) :
    (s.writeArrives via f).store.wf = true := by
  simp [State.writeArrives, w]

@[simp] theorem State.acceptHeld_wf (fuel : Nat) (s : State) (p : Nat) (w : s.store.wf = true) :
    (State.acceptHeld fuel s p).store.wf = true := by
  induction fuel generalizing s with
  | zero => exact w
  | succ f ih =>
    unfold State.acceptHeld
    split
    · exact w
    · split
      · exact w
      · exact ih _ (by simp [w])

@[simp] theorem State.sendNew_wf (s : State) (dst : Half) (window off : Nat) (units : List Flit) (o : Origin)
    (w : s.store.wf = true) :
    (s.sendNew dst window off units o).store.wf = true := by
  unfold State.sendNew
  dsimp only
  repeat' split
  all_goals simp [w]

@[simp] theorem State.sendWrite_wf (s : State) (dst : Half) (window off : Nat) (units : List Flit) (o : Origin)
    (w : s.store.wf = true) :
    (s.sendWrite dst window off units o).store.wf = true := by
  unfold State.sendWrite
  repeat' split
  all_goals simp [w]

theorem effSend_wf (a : Issue) (ra rb : BitVec 6) (n : BitVec 2) (s : State) (w : s.store.wf = true) :
    (effSend a ra rb n s).store.wf = true := by
  simp +contextual [effSend, w]

@[simp] theorem State.recvEmpty_wf (s : State) (n q t : Nat) (pc : BitVec 12) (w : s.store.wf = true) :
    (s.recvEmpty n q t pc).store.wf = true := by
  simp [State.recvEmpty, w]

theorem effRecv_wf (a : Issue) (ra rb : BitVec 6) (q : BitVec 3) (n : BitVec 2) (s : State) (w : s.store.wf = true) :
    (effRecv a ra rb q n s).store.wf = true := by
  simp +contextual [effRecv, w]

@[simp] theorem State.fillQueues_wf (s : State) (n : Nat) (qs : List Nat) (w : s.store.wf = true) :
    (s.fillQueues n qs).store.wf = true := by
  unfold State.fillQueues
  split <;> simp [w]

theorem effRecvWake_wf (core : Fin 1536) (s : State) (w : s.store.wf = true) : (effRecvWake core s).store.wf = true := by
  unfold effRecvWake
  dsimp only
  repeat' split
  all_goals simp [w]

theorem effSelectSelection_wf (core : Fin 1536) (s : State) (w : s.store.wf = true) :
    (effSelectSelection core s).store.wf = true := by
  unfold effSelectSelection
  dsimp only
  repeat' split
  all_goals simp [w]

@[simp] theorem State.sendDue_wf (s : State) (n ch : Nat) (w : s.store.wf = true) : (s.sendDue n ch).store.wf = true := by
  simp [State.sendDue, w]

theorem effFreeTokenArrival_wf (core : Fin 1536) (chan : BitVec 3) (s0 : State) (w : s0.store.wf = true) :
    (effFreeTokenArrival core chan s0).store.wf = true := by
  unfold effFreeTokenArrival
  dsimp only
  repeat' split
  all_goals simp [w]

@[simp] theorem State.fireTick_wf (s : State) (n u : Nat) (w : s.store.wf = true) : (s.fireTick n u).store.wf = true := by
  unfold State.fireTick
  split <;> simp [w]

theorem effSteerFire_wf (core : Fin 1536) (unit : BitVec 2) (par : Bool) (s0 : State) (w : s0.store.wf = true) :
    (effSteerFire core unit par s0).store.wf = true := by
  unfold effSteerFire
  dsimp only
  repeat' split
  all_goals simp [w]

/-! ### Transfers -/

@[simp] theorem State.inkEcc_wf (s : State) (k off kind phase : Nat) (e : Ecc) (w : s.store.wf = true) :
    (s.inkEcc k off kind phase e).store.wf = true := by
  cases e <;> simp [State.inkEcc, Store.wf_blotUnit, w]

@[simp] theorem State.inkFind_wf (s : State) (k : Nat) (offs : List Nat) (kind phase : Nat) (l : List (Nat × Ecc))
    (w : s.store.wf = true) : (s.inkFind k offs kind phase l).store.wf = true := by
  refine foldl_wf _ _ _ (fun t e ht => ?_) w
  split <;> simp [ht]

@[simp] theorem State.inkSplit_wf (s : State) (k off : Nat) (w : s.store.wf = true) :
    (s.inkSplit k off).store.wf = true := by
  simp [State.inkSplit, Store.wf_blotUnit, w]

@[simp] theorem State.inkSplits_wf (s : State) (k : Nat) (offs : List Nat) (l : List Nat) (w : s.store.wf = true) :
    (s.inkSplits k offs l).store.wf = true := by
  refine foldl_wf _ _ _ (fun t e ht => ?_) w
  split <;> simp [ht]

@[simp] theorem State.checkTrap_wf (s : State) (n kind off : Nat) (w : s.store.wf = true) :
    (s.checkTrap n kind off).store.wf = true := by
  unfold State.checkTrap
  split <;> simp [w]

@[simp] theorem State.landFlit_wf (s : State) (n st : Nat) (f : Flit) (w : s.store.wf = true) :
    (s.landFlit n st f).store.wf = true := by
  simp [State.landFlit, w]

@[simp] theorem State.inkPut_wf (s : State) (n a : Nat) (col : Bool) (o : Nat) (ws : List (Word × Bool))
    (w : s.store.wf = true) : (s.inkPut n a col o ws).store.wf = true := by
  simp [State.inkPut, Store.wf_scatter, w]

@[simp] theorem State.xferWrite_wf (s : State) (n a : Nat) (x : Xfer) (ws : List (Word × Bool)) (w : s.store.wf = true) :
    (s.xferWrite n a x ws).store.wf = true := by
  unfold State.xferWrite
  dsimp only
  repeat' split
  all_goals simp [w]

theorem State.xferRead_wf {s : State} {n a : Nat} {x : Xfer} {ecc : List (Nat × Ecc)} {split : List Nat}
    {y : State × Option (List (Word × Bool))} (h : s.xferRead n a x ecc split = y) (w : s.store.wf = true) :
    y.1.store.wf = true := by
  subst h
  unfold State.xferRead
  dsimp only
  have hf := fun k offs p l => s.inkFind_wf k offs 1 p l w
  repeat' split
  all_goals simp [Store.wf_touchFill, hf, w]

@[simp] theorem State.xferPut_wf (s : State) (n t : Nat) (x : Xfer) (ws : List (Word × Bool)) (w : s.store.wf = true) :
    (s.xferPut n t x ws).store.wf = true := by
  unfold State.xferPut
  split <;> simp [w]

@[simp] theorem State.xferAccess_wf (s : State) (n t : Nat) (x : Xfer) (src dst : List (Nat × Ecc)) (split : List Nat)
    (w : s.store.wf = true) : (s.xferAccess n t x src dst split).store.wf = true := by
  unfold State.xferAccess
  dsimp only
  split
  · simp [w]
  · have hr : ((s.inkSee (kOf n) t).xferRead n t x src split).1.store.wf = true := State.xferRead_wf rfl (by simp [w])
    split
    next h => simpa [h] using hr
    next h =>
      rw [h] at hr
      repeat' split
      all_goals simp [State.inkFind_wf _ _ _ _ _ _ hr, State.xferPut_wf _ _ _ _ _ hr]

@[simp] theorem State.beforeAccess_wf (s : State) (n : Nat) (w : s.store.wf = true) : (s.beforeAccess n).store.wf = true := by
  unfold State.beforeAccess
  dsimp only
  repeat' split
  all_goals simp [w]

theorem effXferAccess_wf (core : Fin 1536) (src dst : List (Nat × Ecc)) (sp : List Nat) (s : State) (w : s.store.wf = true) :
    (effXferAccess core src dst sp s).store.wf = true := by
  unfold effXferAccess
  dsimp only
  repeat' split
  all_goals simp [w]

/-! ### Routing -/

theorem State.popLanding_wf {s : State} {f slice : Nat} {y : Flit × State} (h : s.popLanding f slice = some y)
    (w : s.store.wf = true) : y.2.store.wf = true := by
  obtain ⟨-, -, -, -, -, hs, -⟩ := State.popLanding_frame h
  rwa [hs]

@[simp] theorem State.takeLanding_wf (s : State) (src : Place) (port slice : Nat) (w : s.store.wf = true) :
    (s.takeLanding src port slice).store.wf = true := by
  unfold State.takeLanding
  split
  · exact w
  · split
    · exact w
    · next h =>
      split at h
      · simpa using State.acceptHeld_wf _ _ _ (State.popLanding_wf h w)
      · cases h

@[simp] theorem State.takeAt_wf (s : State) (src : Place) (w : s.store.wf = true) : (s.takeAt src).store.wf = true := by
  unfold State.takeAt
  dsimp only
  repeat' split
  all_goals simp [w]

theorem State.reach_wf {s : State} {k key : Nat} {test : Arrival → Bool} {h : Option ParityHit} {y : Flit × Arrival × State}
    (hy : s.reach k key test h = some y) (w : s.store.wf = true) : y.2.2.store.wf = true := by
  simp [State.reach_frame hy, w]

theorem State.move_wf {s : State} {src : Place} {test : Arrival → Bool} {h : Option ParityHit} {y : Flit × Arrival × State}
    (hy : s.move src test h = some y) (w : s.store.wf = true) : y.2.2.store.wf = true := by
  unfold State.move at hy
  split at hy
  · cases hy
  · split at hy
    · next hr => cases hy; exact State.reach_wf hr w
    · exact State.reach_wf hy (s.takeAt_wf src w)

@[simp] theorem State.dropUnread_wf (s : State) (src : Place) (h : Option ParityHit) (w : s.store.wf = true) :
    (s.dropUnread src h).store.wf = true := by
  simp [State.dropUnread, w]

@[simp] theorem State.arriveLocal_wf (s : State) (a : Arrival) (f : Flit) (w : s.store.wf = true) :
    (s.arriveLocal a f).store.wf = true := by
  unfold State.arriveLocal
  dsimp only
  repeat' split
  all_goals simp [w]

theorem State.deliverAt_wf {s y : State} {src dst : RulingSlot} {kinds : Nat → Bool} {h : Option ParityHit}
    (hy : s.deliverAt src dst kinds h = some y) (w : s.store.wf = true) : y.store.wf = true := by
  unfold State.deliverAt at hy
  dsimp only at hy
  split at hy
  · obtain ⟨r, hr, rfl⟩ := Option.map_eq_some_iff.1 hy
    exact State.arriveLocal_wf _ _ _ (State.move_wf hr w)
  · cases hy

/-- What arrives, or the state otherwise reached, is canonical. -/
theorem Option.getD_wf {o : Option State} {t : State} (h : ∀ u, o = some u → u.store.wf = true) (w : t.store.wf = true) :
    (o.getD t).store.wf = true := by
  cases o with
  | none => exact w
  | some u => exact h u rfl

theorem effTokenDelivery_wf (src dst : RulingSlot) (parity : Option ParityHit) (s : State) (w : s.store.wf = true) :
    (effTokenDelivery src dst parity s).store.wf = true :=
  Option.getD_wf (fun _ h => State.deliverAt_wf h w) (s.dropUnread_wf _ _ w)

theorem effSteerInputDelivery_wf (src dst : RulingSlot) (parity : Option ParityHit) (s : State)
    (w : s.store.wf = true) : (effSteerInputDelivery src dst parity s).store.wf = true :=
  Option.getD_wf (fun _ h => State.deliverAt_wf h w) w

@[simp] theorem State.freeContribution_wf (s : State) (n ch : Nat) (w : s.store.wf = true) :
    (s.freeContribution n ch).store.wf = true := by
  unfold State.freeContribution
  repeat' split
  all_goals simp [w]

theorem effContributionArrival_wf (src : ContribSrc) (s : State) (w : s.store.wf = true) :
    (effContributionArrival src s).store.wf = true := by
  cases src with
  | ruled a d h => exact Option.getD_wf (fun _ h => State.deliverAt_wf h w) w
  | freeChan core chan => simp [effContributionArrival, w]

/-! ### Memory controllers -/

@[simp] theorem State.requestFault_wf (s : State) (m kind : Nat) (r : Request) (w : s.store.wf = true) :
    (s.requestFault m kind r).store.wf = true := by
  simp [State.requestFault, w]

@[simp] theorem State.mcRead_wf (s : State) (m line : Nat) (slice : Bool) (since : Nat) (f : Finds) (w : s.store.wf = true) :
    (s.mcRead m line slice since f).store.wf = true := by
  simp [State.mcRead, w]

@[simp] theorem State.mcWrite_wf (s : State) (line : Nat) (data : List Flit) (w : s.store.wf = true) :
    (s.mcWrite line data).store.wf = true := by
  simp +contextual [State.mcWrite, w]

@[simp] theorem State.copyOnWrite_wf (s : State) (slot n pn q : Nat) (l : List LineFind) (w : s.store.wf = true) :
    (s.copyOnWrite slot n pn q l).store.wf = true := by
  have h := Store.wf_copyRange _ (pageAddr pn) (pageAddr q) 65536 (s.mcLines_wf (pageAddr pn) 65536 l w)
  simpa [State.copyOnWrite] using Store.wf_setCount (Store.wf_setCount (Store.wf_setEntry h ..) ..) ..

@[simp] theorem State.freshPage_wf (s : State) (slot n q : Nat) (w : s.store.wf = true) :
    (s.freshPage slot n q).store.wf = true := Store.wf_setCount (Store.wf_setEntry w ..) ..

theorem State.pageForWrite_wf {s : State} {slot n : Nat} {l : List LineFind} {y : Nat × State}
    (h : s.pageForWrite slot n l = some y) (w : s.store.wf = true) : y.2.store.wf = true := by
  unfold State.pageForWrite at h
  repeat' split at h
  all_goals cases h
  · exact w
  · exact s.copyOnWrite_wf _ _ _ _ _ w
  · exact s.freshPage_wf _ _ _ w

@[simp] theorem State.servePage_wf (s : State) (m : Nat) (r : Request) (data : List Flit) (since : Nat) (f : Finds)
    (w : s.store.wf = true) : (s.servePage m r data since f).store.wf = true := by
  unfold State.servePage
  dsimp only
  have hf := fun m a e l => s.mcFind_wf m a e l w
  split_ifs
  all_goals try simp [hf, w]
  · split <;> simp [hf]
  · split
    · simp [hf]
    · next h => exact State.mcWrite_wf _ _ _ (State.pageForWrite_wf h (hf ..))

@[simp] theorem State.serveHost_wf (s : State) (m : Nat) (r : Request) (data : List Flit) (since : Nat) (w : s.store.wf = true) :
    (s.serveHost m r data since).store.wf = true := by
  unfold State.serveHost
  split <;> simp [w]

@[simp] theorem State.serveUnit_wf (s : State) (q : McSpine) (w : s.store.wf = true) : (s.serveUnit q).store.wf = true := by
  simp [State.serveUnit, w]

@[simp] theorem State.serve_wf (s : State) (m : Nat) (q : McPending) (f : Finds) (w : s.store.wf = true) :
    (s.serve m q f).store.wf = true := by
  unfold State.serve
  dsimp only
  repeat' split
  all_goals simp [w]

@[simp] theorem State.serveFront_wf (fuel : Nat) (s : State) (m : Nat) (first : Finds) (w : s.store.wf = true) :
    (State.serveFront fuel s m first).store.wf = true := by
  induction fuel generalizing s first with
  | zero => exact w
  | succ f ih =>
    unfold State.serveFront
    split
    · exact w
    · split
      · exact w
      · exact ih _ _ (by simp [w])

@[simp] theorem State.serveAll_wf (s : State) (m : Nat) (f : Finds) (w : s.store.wf = true) :
    (s.serveAll m f).store.wf = true := by
  simp [State.serveAll, w]

@[simp] theorem State.serveEvery_wf (s : State) (f : Finds) (w : s.store.wf = true) : (s.serveEvery f).store.wf = true := by
  simp +contextual [State.serveEvery, w]

theorem effMcRequest_wf (m : Fin 16) (src : RequestSrc) (ecc linkEcc tblEcc : Ecc) (lines : List LineFind) (s : State)
    (w : s.store.wf = true) : (effMcRequest m src ecc linkEcc tblEcc lines s).store.wf = true := by
  unfold effMcRequest
  dsimp only
  split
  · exact w
  · split
    · split
      · exact w
      · next h => simp [State.move_wf h w]
    · split <;> simp [w]

theorem effMcReadDataReturn_wf (m : Fin 16) (slice : Bool) (slot : Byte) (dst : RulingSlot) (parity : Option ParityHit)
    (s : State) (w : s.store.wf = true) : (effMcReadDataReturn m slice slot dst parity s).store.wf = true := by
  unfold effMcReadDataReturn
  dsimp only
  split
  · exact w
  · split
    · next h => exact State.arriveLocal_wf _ _ _ (State.reach_wf h w)
    · split
      · next h => exact State.arriveLocal_wf _ _ _ (State.reach_wf h (by simp [w]))
      · simp [w]

@[simp] theorem State.servePosition_wf (s : State) (m : Nat) (q : McPending) (r : Request) (w : s.store.wf = true) :
    (s.servePosition m q r).store.wf = true := by
  unfold State.servePosition
  repeat' split
  all_goals simp [w]

@[simp] theorem State.withFront_wf (s : State) (m : Nat) (test : Request → Bool) (lines : List LineFind)
    (f : State → McPending → Request → State) (h : ∀ t q r, t.store.wf = true → (f t q r).store.wf = true)
    (w : s.store.wf = true) : (s.withFront m test lines f).store.wf = true := by
  unfold State.withFront
  split
  · exact w
  · dsimp only
    split
    · exact State.serveEvery_wf _ _ (h _ _ _ (by simpa using w))
    · exact w

theorem effPositionWrite_wf (m : Fin 16) (lines : List LineFind) (s : State) (w : s.store.wf = true) :
    (effPositionWrite m lines s).store.wf = true := State.withFront_wf _ _ _ _ _ (fun t q r => t.servePosition_wf _ q r) w

theorem State.slotCommand_wf (s : State) (m : Nat) (r : Request) (res : SlotRefusal ⊕ State)
    (h : ∀ t, res = .inr t → t.store.wf = true) (w : s.store.wf = true) : (s.slotCommand m r res).store.wf = true := by
  unfold State.slotCommand
  split
  case h_4 t => simp [h t rfl]
  all_goals simp [w]

@[simp] theorem State.serveFork_wf (s : State) (m : Nat) (r : Request) (tbl : List (BitVec 22 × Ecc)) (lines : List LineFind)
    (w : s.store.wf = true) : (s.serveFork m r tbl lines).store.wf = true :=
  have h := s.readTable_wf _ _ _ _ w
  State.slotCommand_wf _ _ _ _ (fun _ ht => State.forkSlot_wf ht h) h

@[simp] theorem State.serveRewind_wf (s : State) (m : Nat) (r : Request) (tbl : List (BitVec 22 × Ecc)) (lines : List LineFind)
    (w : s.store.wf = true) : (s.serveRewind m r tbl lines).store.wf = true :=
  have h := s.readTable_wf _ _ _ _ w
  State.slotCommand_wf _ _ _ _ (fun _ ht => State.rewindSlot_wf ht h) h

@[simp] theorem State.serveAccept_wf (s : State) (m : Nat) (r : Request) (tbl child : List (BitVec 22 × Ecc))
    (lines : List LineFind) (w : s.store.wf = true) : (s.serveAccept m r tbl child lines).store.wf = true :=
  have h := State.readTable_wf _ _ _ _ _ (s.readTable_wf _ _ _ _ w)
  State.slotCommand_wf _ _ _ _ (fun _ ht => State.acceptSlot_wf ht h) h

@[simp] theorem State.serveAny_wf (s : State) (m : Nat) (q : McPending) (l : List LineFind) (w : s.store.wf = true) :
    (s.serveAny m q l).store.wf = true := by
  simp [State.serveAny, w]

@[simp] theorem State.serveBefore_wf (fuel : Nat) (s : State) (m : Nat) (l : List LineFind) (w : s.store.wf = true) :
    (State.serveBefore fuel s m l).store.wf = true := by
  induction fuel generalizing s with
  | zero => exact w
  | succ f ih =>
    unfold State.serveBefore
    split
    · exact w
    · split
      · exact w
      · exact ih _ (by simp [w])

@[simp] theorem State.completeHeld_wf (s : State) (m : Nat) (l : List LineFind) (w : s.store.wf = true) :
    (s.completeHeld m l).store.wf = true := by
  simp +contextual [State.completeHeld, w]

theorem effSlotCmdFork_wf (m : Fin 16) (tbl : List (BitVec 22 × Ecc)) (lines : List LineFind) (s : State)
    (w : s.store.wf = true) : (effSlotCmdFork m tbl lines s).store.wf = true :=
  State.withFront_wf _ _ _ _ _ (fun t _ r => t.serveFork_wf _ r _ _) w

theorem effSlotCmdRewind_wf (m : Fin 16) (tbl : List (BitVec 22 × Ecc)) (lines : List LineFind) (s : State)
    (w : s.store.wf = true) : (effSlotCmdRewind m tbl lines s).store.wf = true :=
  State.withFront_wf _ _ _ _ _ (fun t _ r => t.serveRewind_wf _ r _ _) w

theorem effSlotCmdAccept_wf (m : Fin 16) (tbl child : List (BitVec 22 × Ecc)) (lines : List LineFind) (s : State)
    (w : s.store.wf = true) : (effSlotCmdAccept m tbl child lines s).store.wf = true :=
  State.withFront_wf _ _ _ _ _ (fun t _ r => t.serveAccept_wf _ r _ _ _) w

/-! ### Inkwells and device memory -/

@[simp] theorem State.serviceWrite_wf (s : State) (k off : Nat) (f : Flit) (hit : BitVec 32) (w : s.store.wf = true) :
    (s.serviceWrite k off f hit).store.wf = true := by
  unfold State.serviceWrite
  split
  · simp [Store.wf_fill, Store.wf_write, w]
  · exact Store.wf_writeSome w

@[simp] theorem State.landOne_wf (s : State) (k : Nat) (h : LandHeader) (off : Nat) (f : Flit) (hit : BitVec 32)
    (w : s.store.wf = true) :
    (s.landOne k h off f hit).store.wf = true := by
  simp [State.landOne, w]

theorem effLandingSlotWrite_wf (k : Fin 48) (ecc : List (Nat × Ecc)) (collide : BitVec 64) (s : State)
    (w : s.store.wf = true) : (effLandingSlotWrite k ecc collide s).store.wf = true := by
  unfold effLandingSlotWrite
  have hk : (s.inkSettle k).store.wf = true := s.inkSettle_wf k w
  dsimp only
  split
  · exact w
  · split
    · simpa using hk
    · split
      · simpa using hk
      · simp +contextual [hk]

theorem effScrubAccess_wf (k : Fin 48) (ecc : List (Nat × Ecc)) (split : List Nat) (s : State)
    (w : s.store.wf = true) : (effScrubAccess k ecc split s).store.wf = true := by
  unfold effScrubAccess
  dsimp only
  split
  · exact w
  · simpa using State.inkSplits_wf _ _ _ _ (State.inkFind_wf _ _ _ _ _ _ (s.inkSettle_wf k w))

@[simp] theorem State.devEcc_wf (s : State) (m : DevMem) (a : Nat) (e : Ecc) (w : s.store.wf = true) :
    (s.devEcc m a e).store.wf = true := by
  unfold State.devEcc
  split <;> simp [w]

@[simp] theorem State.devEccs_wf (s : State) (m : DevMem) (a n : Nat) (l : List (DWord × Ecc)) (w : s.store.wf = true) :
    (s.devEccs m a n l).store.wf = true := by
  simp +contextual [State.devEccs, w]

@[simp] theorem State.devSplits_wf (s : State) (m : DevMem) (a n : Nat) (l : List DWord) (w : s.store.wf = true) :
    (s.devSplits m a n l).store.wf = true := by
  unfold State.devSplits
  repeat' split
  all_goals simp +contextual [w]

@[simp] theorem State.devFinds_wf (s : State) (m : DevMem) (a n : Nat) (l : List (DWord × Ecc)) (lines : List LineFind)
    (w : s.store.wf = true) :
    (s.devFinds m a n l lines).store.wf = true := by
  unfold State.devFinds
  split <;> simp [w]

theorem State.devReady_wf {s y : State} {m : DevMem} {a n : Nat} {lines : List LineFind}
    (h : s.devReady m a n lines = some y) (w : s.store.wf = true) : y.store.wf = true := by
  unfold State.devReady at h
  split at h
  · dsimp only at h
    split at h
    · cases h
      exact foldl_wf _ _ _ (fun t c ht => t.completeHeld_wf c _ ht) w
    · cases h
  · cases h
    exact w

@[simp] theorem State.devSettle_wf (s : State) (m : DevMem) (w : s.store.wf = true) : (s.devSettle m).store.wf = true := by
  unfold State.devSettle
  split <;> simp [w]

@[simp] theorem State.quillFinds_wf (s : State) (reads : DevMem → Nat → Bool) (find : List (DWord × Ecc)) (split : List DWord)
    (w : s.store.wf = true) : (s.quillFinds reads find split).store.wf = true := by
  refine foldl_wf _ _ _ (fun t a ht => ?_) (foldl_wf _ _ _ (fun t e ht => ?_) w)
  all_goals repeat' split
  all_goals simp [ht]

/-! ### Images, placement and bring-up -/

@[simp] theorem State.placeImage_wf (t : State) (c : Nat) (rec_ : List Byte) (x : Section) (w : t.store.wf = true) :
    (t.placeImage c rec_ x).store.wf = true := by
  unfold State.placeImage
  dsimp only
  repeat' split
  all_goals simp [Store.wf_fillRange, w]

@[simp] theorem State.writeImages_wf (s : State) (c : Nat) (sc : Scroll) (rec_ : List Byte) (l : Nat) (w : s.store.wf = true) :
    (s.writeImages c sc rec_ l).store.wf = true := by
  simp +contextual [State.writeImages, w]

@[simp] theorem State.zeroInkwells_wf (s : State) (ks : List Nat) (w : s.store.wf = true) :
    (s.zeroInkwells ks).store.wf = true := foldl_wf _ _ _ (fun _ _ ht => Store.wf_zeroRange _ _ _ ht) w

@[simp] theorem State.dropLater_wf (s : State) (c seq : Nat) (w : s.store.wf = true) :
    (s.dropLater c seq).store.wf = true := Store.wf_foldl (fun _ _ h => Store.wf_uncommit h _) w

@[simp] theorem State.captureCounters_wf (s : State) (parts : List Nat) (sc : Scroll) (rec_ : List Byte)
    (w : s.store.wf = true) : (s.captureCounters parts sc rec_).store.wf = true :=
  Store.wf_foldl (fun _ _ h => Store.wf_write _ _ _ _ h) (Store.wf_foldl (fun _ _ h => Store.wf_uncommit h _) w)

@[simp] theorem State.saveSlots_wf (s : State) (c base : Nat) (w : s.store.wf = true) :
    (s.saveSlots c base).store.wf = true := by
  refine Store.wf_foldl (fun m n h => ?_) (Store.wf_zeroRange _ _ _ w)
  split
  · exact Store.wf_copyRange _ _ _ _ (Store.wf_write _ _ _ _ h)
  · exact h

@[simp] theorem State.writeImage_wf (s : State) (c : Nat) (k : CkptWork) (sc : Scroll) (rec_ : List Byte)
    (w : s.store.wf = true) : (s.writeImage c k sc rec_).store.wf = true := by
  refine State.saveSlots_wf _ _ _ (Store.wf_foldl (fun m e h => ?_) (Store.wf_foldl (fun _ _ h => Store.wf_copyRange _ _ _ _ h)
    (Store.wf_foldl (fun _ _ h => Store.wf_write _ _ _ _ h) w)))
  split
  · exact Store.wf_copyRange _ _ _ _ h
  · exact h

@[simp] theorem State.commitImage_wf (s : State) (c : Nat) (k : CkptWork) (w : s.store.wf = true) :
    (s.commitImage c k).store.wf = true := by
  simpa [State.commitImage] using State.freePending_wf _ c (Store.wf_foldl (fun _ _ h => Store.wf_write _ _ _ _ h) w)

@[simp] theorem State.recount_wf (s : State) (c : Nat) (w : s.store.wf = true) : (s.recount c).store.wf = true :=
  Store.wf_foldl (fun _ _ h => Store.wf_setCount h ..) (Store.wf_foldl (fun _ _ h => Store.wf_setCount h ..) w)

@[simp] theorem State.restoreSlots_wf (s : State) (c base : Nat) (w : s.store.wf = true) :
    (s.restoreSlots c base).store.wf = true := by
  refine State.recount_wf _ _ (foldl_wf _ _ _ (fun t n ht => ?_) w)
  dsimp only
  repeat' split
  all_goals simp [Store.wf_copyRange, Store.wf_zeroRange, ht]

@[simp] theorem State.restoreImage_wf (s : State) (c : Nat) (parts : List Nat) (sc : Scroll) (rec_ : List Byte) (l : Nat)
    (w : s.store.wf = true) : (s.restoreImage c parts sc rec_ l).store.wf = true := by
  refine State.restoreSlots_wf _ _ _ (foldl_wf _ _ _ (fun t lc ht => by simpa using ht) (Store.wf_foldl (fun m e h => ?_)
    (Store.wf_foldl (fun _ _ h => Store.wf_copyRange _ _ _ _ h) w)))
  split
  · exact Store.wf_copyRange _ _ _ _ h
  · exact h

theorem State.placeRegion_wf {s y : State} {c n : Nat} (h : s.placeRegion c n = some y) (w : s.store.wf = true) :
    y.store.wf = true := by
  unfold State.placeRegion at h
  dsimp only at h
  repeat' split at h
  all_goals cases h
  all_goals simp [Store.wf_zeroRange, w]

@[simp] theorem State.enterFrom_wf (s : State) (c : Nat) (sc : Scroll) (rec_ : List Byte) (l : Nat) (e : Entrance)
    (counters : Bool) (w : s.store.wf = true) :
    (s.enterFrom c sc rec_ l e counters).store.wf = true := by
  unfold State.enterFrom
  split <;> simp [w]

@[simp] theorem State.bringUp_wf (s : State) (c : Nat) (sc : Scroll) (rec_ : List Byte) (l : Nat) (e : Entrance)
    (setting : Nat) (counters : Bool) (w : s.store.wf = true) :
    (s.bringUp c sc rec_ l e setting counters).store.wf = true := by
  simp [State.bringUp, w]

@[simp] theorem State.startContext_wf (s : State) (job c fn : Nat) (wm : BitVec 256) (clock : Nat) (from1 : Bool)
    (bulk base limit : Word) (w : s.store.wf = true) :
    (s.startContext job c fn wm clock from1 bulk base limit).store.wf = true := by
  unfold State.startContext
  dsimp only
  split
  · simpa using w
  split
  · simpa using w
  next sc _ _ _ =>
  generalize (if from1 = true then s.startImage c sc else none) = image
  generalize (if ((s.ctx c).run.variant.filter (s.fitsAt (ctxPart c) sc)).isSome = true then 2 else 3) = reason
  split
  · simpa using w
  split_ifs
  iterate 4 simpa using w
  split
  · simpa using w
  · next s2 h =>
    have h2 : s2.store.wf = true := State.placeRegion_wf h (by simpa using w)
    refine State.bringUp_wf _ _ _ _ _ _ _ _ ?_
    simp only [State.modLife_frame, State.modRun_frame]
    split <;> simp [h2]

@[simp] theorem State.startJob_wf (s : State) (job : Nat) (w : s.store.wf = true) : (s.startJob job).store.wf = true := by
  unfold State.startJob
  repeat' split
  all_goals simp [w]

@[simp] theorem State.stopContext_wf (s : State) (c : Nat) (w : s.store.wf = true) : (s.stopContext c).store.wf = true := by
  simp [State.stopContext, w]

@[simp] theorem State.runHeld_wf (s : State) (c : Nat) (w : s.store.wf = true) : (s.runHeld c).store.wf = true := by
  unfold State.runHeld
  split <;> simp [w]

@[simp] theorem State.restart_wf (s : State) (c reason : Nat) (w : s.store.wf = true) : (s.restart c reason).store.wf = true := by
  unfold State.restart
  dsimp only
  repeat' split
  all_goals simp [w]

/-! ### Partition resets and domains -/

@[simp] theorem State.killByPart_wf (s : State) (c : Nat) (w : s.store.wf = true) : (s.killByPart c).store.wf = true := by
  simp [State.killByPart, w]

/-- The local stores of a cluster are cleared, and its inkwell unless it is kept. -/
theorem Store.wf_clearCluster (m : Store) (k : Nat) (keep : Bool) (w : m.wf = true) :
    ((coresOf k).foldl (fun (y : Store) n => y.zeroRange (lsBase n) lsSize)
      (if keep then m else m.zeroRange (inkBase k) inkSize)).wf = true :=
  Store.wf_foldl (fun _ _ h => Store.wf_zeroRange _ _ _ h) (wf_ite w (Store.wf_zeroRange _ _ _ w))

@[simp] theorem State.resetClusters_wf (s : State) (p : Nat) (keepInk : Bool) (w : s.store.wf = true) :
    (s.resetClusters p keepInk).store.wf = true :=
  Store.wf_foldl (fun _ _ h => Store.wf_clearCluster _ _ _ h) (by simpa using w)

@[simp] theorem State.clearPartition_wf (s : State) (p : Nat) (keepInk : Bool) (cal : List XCal) (w : s.store.wf = true) :
    (s.clearPartition p keepInk cal).store.wf = true := by
  simp [State.clearPartition, w]

@[simp] theorem State.resetPartition_wf (s : State) (p : Nat) (cal : List XCal) (w : s.store.wf = true) :
    (s.resetPartition p cal).store.wf = true := by
  have hk := foldl_wf (s.liveContexts p) _ s (fun t c ht => t.killByPart_wf c ht) w
  simpa [State.resetPartition] using State.clearPartition_wf _ p false cal (by simpa using hk)

@[simp] theorem State.partFault_wf (s : State) (p cause errReg : Nat) (cal : List XCal) (w : s.store.wf = true) :
    (s.partFault p cause errReg cal).store.wf = true := by
  simp [State.partFault, w]

@[simp] theorem State.hang_wf (s : State) (p kind elapsedMs : Nat) (cal : List XCal) (w : s.store.wf = true) :
    (s.hang p kind elapsedMs cal).store.wf = true := by
  simp [State.hang, w]

@[simp] theorem State.clusterDown_wf (s : State) (k : Nat) (retain : Bool) (w : s.store.wf = true) :
    (s.clusterDown k retain).store.wf = true := by
  have hm := Store.wf_foldl (l := coresOf k) (g := fun y n => y.zeroRange (lsBase n) lsSize)
    (fun _ _ h => Store.wf_zeroRange _ _ _ h) w
  simp [State.clusterDown, hm, Store.wf_zeroRange]

@[simp] theorem State.controllersDown_wf (s : State) (q : Nat) (w : s.store.wf = true) :
    (s.controllersDown q).store.wf = true := by
  simp +contextual [State.controllersDown, w]

@[simp] theorem State.partOff_wf (s : State) (p : Nat) (w : s.store.wf = true) : (s.partOff p).store.wf = true := by
  unfold State.partOff
  dsimp only
  simp only [State.checkCentral_frame, State.settleJobs_frame, State.refreshPw_frame, State.modQPart_frame]
  refine foldl_wf _ _ _ (fun t q ht => t.controllersDown_wf q ht) (foldl_wf _ _ _ (fun t n ht => ?_)
    (foldl_wf _ _ _ (fun t k ht => t.clusterDown_wf k _ ht) (by simpa using w)))
  simpa using ht

/-! ### Strokes and checkpoints -/

@[simp] theorem State.settleCtx_wf (s : State) (c : Nat) (w : s.store.wf = true) : (s.settleCtx c).store.wf = true :=
  foldl_wf _ _ _ (fun t e ht => t.inkSettle_wf e.2 ht) (foldl_wf _ _ _ (fun t n ht => t.lsSettle_wf n ht) w)

@[simp] theorem State.beginCheckpoint_wf (s : State) (c : Nat) (sc : Scroll) (parts : List Nat) (q : QuietPoint)
    (w : s.store.wf = true) :
    (s.beginCheckpoint c sc parts q).store.wf = true := by
  simp [State.beginCheckpoint, w]

@[simp] theorem State.evalQuiet_wf (s : State) (c : Nat) (w : s.store.wf = true) : (s.evalQuiet c).store.wf = true := by
  unfold State.evalQuiet
  repeat' split
  all_goals simp [w]

@[simp] theorem State.reconfigureCore_wf (s : State) (n : Nat) (b : List Byte) (cyc : Nat) (w : s.store.wf = true) :
    (s.reconfigureCore n b cyc).store.wf = true := by
  unfold State.reconfigureCore
  dsimp only
  repeat' split
  all_goals simp [w]

@[simp] theorem State.beginConfig_wf (s : State) (p : Nat) (r : Reconf) (w : s.store.wf = true) :
    (s.beginConfig p r).store.wf = true := by
  unfold State.beginConfig
  dsimp only
  split
  · exact w
  · simp only [State.finish_frame, State.modRun_frame]
    refine foldl_wf _ _ _ (fun t e ht => ?_) (by simpa using w)
    split
    · exact t.reconfigureCore_wf _ _ _ ht
    · exact ht

@[simp] theorem State.configStep_wf (s : State) (p : Nat) (w : s.store.wf = true) : (s.configStep p).store.wf = true := by
  unfold State.configStep
  split <;> simp [w]

@[simp] theorem State.afterEdge_wf (s : State) (p : Nat) (w : s.store.wf = true) : (s.afterEdge p).store.wf = true := by
  have h1 : (((List.range 4).map (fun i => 4 * p + i)).foldl (fun t c => t.runDisable c) s).store.wf = true := by simpa using w
  have h2 := State.partOff_wf _ p h1
  unfold State.afterEdge
  dsimp only
  split_ifs <;> simp +contextual [h2, w]

@[simp] theorem State.edgeTail_wf (s : State) (p : Nat) (w : s.store.wf = true) : (s.edgeTail p).store.wf = true := by
  simp [State.edgeTail, w]

@[simp] theorem State.endStroke_wf (s : State) (p : Nat) (w : s.store.wf = true) : (s.endStroke p).store.wf = true := by
  simp +contextual [State.endStroke, w]

@[simp] theorem State.stopStep_wf (s : State) (p c : Nat) (w : s.store.wf = true) : (s.stopStep p c).store.wf = true := by
  simp [State.stopStep, w]

@[simp] theorem State.strokeEdge_wf (s : State) (p : Nat) (w : s.store.wf = true) : (s.strokeEdge p).store.wf = true := by
  have he : (s.endStroke p).store.wf = true := s.endStroke_wf p w
  unfold State.strokeEdge
  dsimp only
  generalize hs4 : List.foldl _ _ (State.onContexts _ p) = s4
  have h4 : s4.store.wf = true := by
    subst hs4
    refine foldl_wf _ _ _ (fun t c ht => by simp [ht]) (foldl_wf _ _ _ (fun t c ht => t.stopStep_wf p c ht) ?_)
    simp [he]
  split <;> simp [h4]

@[simp] theorem State.tryEdge_wf (s : State) (p : Nat) (first : Bool) (w : s.store.wf = true) :
    (s.tryEdge p first).store.wf = true := by
  unfold State.tryEdge
  split <;> simp [w]

theorem effStrokeEdge_wf (p : Fin 4) (overrun : Bool) (rules : List RuleEcc) (cal : List XCal) (s : State)
    (w : s.store.wf = true) :
    (effStrokeEdge p overrun rules cal s).store.wf = true := by
  unfold effStrokeEdge
  dsimp only
  repeat' split
  all_goals simp [w]

@[simp] theorem State.mirrorToPeer_wf (t : State) (k : CkptCmd) (e : Nat × Nat) (w : t.store.wf = true) :
    (t.mirrorToPeer k e).store.wf = true := by
  simp +contextual [State.mirrorToPeer, w]

@[simp] theorem State.writeMirror_wf (s : State) (k : CkptCmd) (x : CkptWork) (w : s.store.wf = true) :
    (s.writeMirror k x).store.wf = true := by
  simp +contextual [State.writeMirror, w]

@[simp] theorem State.commitCheckpoint_wf (s : State) (c : Nat) (x : CkptWork) (w : s.store.wf = true) :
    (s.commitCheckpoint c x).store.wf = true := by
  unfold State.commitCheckpoint
  dsimp only
  repeat' split
  all_goals simp [w]

@[simp] theorem State.rotateCluster_wf (s : State) (c : Nat) (k : CkptWork) (lc n : Nat) (w : s.store.wf = true) :
    (s.rotateCluster c k lc n).store.wf = true := by
  unfold State.rotateCluster
  split
  · simp [Store.wf_copyRange, w]
  · exact w

@[simp] theorem State.rotate_wf (s : State) (c : Nat) (x : CkptWork) (w : s.store.wf = true) :
    (s.rotate c x).store.wf = true := by
  simp +contextual [State.rotate, w]

@[simp] theorem State.seamRelease_wf (s : State) (c : Nat) (w : s.store.wf = true) : (s.seamRelease c).store.wf = true := by
  simp [State.seamRelease, w]

@[simp] theorem State.endPause_wf (s : State) (c : Nat) (w : s.store.wf = true) : (s.endPause c).store.wf = true := by
  simp [State.endPause, w]

theorem effCheckpointCommit_wf (c : Fin 16) (find : List (DWord × Ecc)) (split : List DWord) (s : State)
    (w : s.store.wf = true) : (effCheckpointCommit c find split s).store.wf = true := by
  unfold effCheckpointCommit
  split
  · exact w
  · next k sc _ =>
    have h1 := State.writeImage_wf _ c k sc ((sc.layout (s.ctx c).run.layout).getD [])
      (s.quillFinds_wf (s.ckptReads c) find split w)
    have h2 := State.commitCheckpoint_wf _ c k h1
    dsimp only
    split_ifs <;> simp [State.rotate_wf, h1, h2]

theorem State.startReading_wf (s : State) (c : Nat) (reads : List (Nat × Nat)) (lines : List LineFind) (run : State → State)
    (h : ∀ t, t.store.wf = true → (run t).store.wf = true) (w : s.store.wf = true) :
    (s.startReading c reads lines run).store.wf = true := by
  unfold State.startReading
  dsimp only
  split
  · exact h s w
  · exact h _ (foldl_wf _ _ _ (fun t r ht => t.mcLines_wf _ _ _ ht) w)

theorem effContextRestart_wf (c : Fin 16) (lines : List LineFind) (s : State) (w : s.store.wf = true) :
    (effContextRestart c lines s).store.wf = true := by
  unfold effContextRestart
  split
  · exact s.startReading_wf _ _ _ _ (fun t ht => t.restart_wf _ _ ht) w
  · exact w

/-! ### Modes and start-up -/

@[simp] theorem State.checkCluster_wf (s : State) (on : Bool) (k : Nat) (w : s.store.wf = true) :
    (s.checkCluster on k).store.wf = true := by
  have h := Store.wf_zeroRange s.store (inkBase k + 0x05E80000) 0x180000 w
  simpa [State.checkCluster] using Store.wf_setFills h (risingFrom_filter _ _ _ ((Store.wf_iff _).1 h).2.2)

@[simp] theorem State.setChecking_wf (s : State) (p : Nat) (on : Bool) (w : s.store.wf = true) :
    (s.setChecking p on).store.wf = true := by
  simp +contextual [State.setChecking, w]

@[simp] theorem State.applyModes_wf (s : State) (det checking seam patrol drift : Byte) (p : Nat) (w : s.store.wf = true) :
    (s.applyModes det checking seam patrol drift p).store.wf = true := by
  simp [State.applyModes, w]

/-! ### Host commands keep the storage canonical when what they do keeps it. -/

theorem State.hostCmd_wf (s : State) (hd : Hdr) (c : CmdSpec) (ok : Bool) (body : State → State)
    (h : ∀ t, t.store.wf = true → (body t).store.wf = true) (w : s.store.wf = true) :
    (s.hostCmd hd c ok body).store.wf = true := by
  have hk : ∀ t : State, t.store.wf = true → (t.checked hd c ok body).store.wf = true := fun t ht => by
    unfold State.checked
    split
    · simpa using ht
    · exact h t ht
  unfold State.hostCmd
  split
  · split
    · simpa [State.carryLeft] using hk _ (by simpa using w)
    · split
      · simpa using hk _ (by simpa using w)
      · exact w
  · exact w

theorem effSetModes_wf (h : Hdr) (det checking seam patrol drift : Byte) (s : State) (w : s.store.wf = true) :
    (effSetModes h det checking seam patrol drift s).store.wf = true := by
  refine s.hostCmd_wf _ _ _ _ (fun t ht => ?_) w
  dsimp only
  split
  · simpa using ht
  · simpa using foldl_wf _ _ _ (fun u p hu => u.applyModes_wf _ _ _ _ _ p hu) ht

@[simp] theorem State.loseBulk_wf (s : State) (w : s.store.wf = true) : s.loseBulk.store.wf = true :=
  Store.wf_zeroRange _ _ _ w

@[simp] theorem State.changeMode_wf (s : State) (mode : BitVec 2) (w : s.store.wf = true) :
    (s.changeMode mode).store.wf = true := by
  unfold State.changeMode
  refine foldl_wf _ _ _ (fun t p ht => by simpa using ht) ?_
  exact State.loseBulk_wf _ (foldl_wf _ _ _ (fun t p ht => t.setChecking_wf p false ht) w)

theorem effSetPartitionMode_wf (h : Hdr) (mode : Byte) (s : State) (w : s.store.wf = true) :
    (effSetPartitionMode h mode s).store.wf = true := by
  refine s.hostCmd_wf _ _ _ _ (fun t ht => ?_) w
  split <;> simp [ht]

@[simp] theorem State.handleFinding_wf (s : State) (b : BistFinding) (w : s.store.wf = true) :
    (s.handleFinding b).store.wf = true := by
  unfold State.handleFinding
  split <;> simp [w]

@[simp] theorem State.quickTest_wf (s : State) (lines : List LineFind) (w : s.store.wf = true) :
    (s.quickTest lines).store.wf = true := by
  simp +contextual [State.quickTest, w]

@[simp] theorem State.startSteps_wf (s : State) (b : BootInput) (w : s.store.wf = true) : (s.startSteps b).store.wf = true := by
  simp +contextual [State.startSteps, w]

/-! ### Contexts -/

theorem effScrollReadComplete_wf (job : Nat) (bytes : Option (List Byte)) (s : State) (w : s.store.wf = true) :
    (effScrollReadComplete job bytes s).store.wf = true := by
  unfold effScrollReadComplete
  dsimp only
  repeat' split
  all_goals simp [w]

@[simp] theorem State.enableContext_wf (s : State) (h : Hdr) (cmd : Instr) (w : s.store.wf = true) :
    (s.enableContext h cmd).store.wf = true := by
  unfold State.enableContext
  dsimp only
  repeat' split
  all_goals simp [w]

theorem effStartContext_wf (h : Hdr) (watermark : BitVec 256) (clock from_ : Byte) (bulkSize hostBase hostLimit : Word)
    (lines : List LineFind) (s : State) (w : s.store.wf = true) :
    (effStartContext h watermark clock from_ bulkSize hostBase hostLimit lines s).store.wf = true :=
  s.hostCmd_wf _ _ _ _ (fun t => t.startReading_wf _ _ _ _ (fun u => u.enableContext_wf _ _)) w

@[simp] theorem State.stopFrozen_wf (s : State) (c : Nat) (w : s.store.wf = true) : (s.stopFrozen c).store.wf = true := by
  unfold State.stopFrozen
  dsimp only
  repeat' split
  all_goals simp [w]

@[simp] theorem State.disableContext_wf (s : State) (h : Hdr) (cmd : Instr) (quiet : Bool) (w : s.store.wf = true) :
    (s.disableContext h cmd quiet).store.wf = true := by
  unfold State.disableContext
  dsimp only
  repeat' split
  all_goals simp [w]

theorem effStopContextAtEdge_wf (h : Hdr) (s : State) (w : s.store.wf = true) :
    (effStopContextAtEdge h s).store.wf = true := s.hostCmd_wf _ _ _ _ (fun t => t.disableContext_wf _ _ _) w

theorem effStopContextAtQuiet_wf (h : Hdr) (s : State) (w : s.store.wf = true) :
    (effStopContextAtQuiet h s).store.wf = true := s.hostCmd_wf _ _ _ _ (fun t => t.disableContext_wf _ _ _) w

theorem effRestoreMirrorCopyDone_wf (job : Nat) (image : Option (List Byte)) (s : State) (w : s.store.wf = true) :
    (effRestoreMirrorCopyDone job image s).store.wf = true := by
  have hu : ∀ l : List Nat, (l.foldl (fun (m : Store) a => m.uncommit a) s.store).wf = true := fun l =>
    Store.wf_foldl (fun _ _ h => Store.wf_uncommit h _) w
  have hp : ∀ (l : List Nat) (parts : List (Nat × List Byte)),
      (l.foldl (fun (m : Store) a => m.write (a + 4092) (toLe commitWord 4) false)
      (parts.foldl (fun (m : Store) e => m.writePart e.1 (openedPart e.2)) s.store)).wf = true := fun l parts =>
    Store.wf_foldl (fun _ _ h => Store.wf_write _ _ _ _ h) (Store.wf_foldl (fun _ _ h => Store.wf_writePart h ..) w)
  unfold effRestoreMirrorCopyDone
  dsimp only
  repeat' split
  all_goals simp [hu, hp, w]

/-! ### Matrix unit, healing and tests -/

@[simp] theorem State.startMma_wf (s : State) (n t : Nat) (x : MmaArgs) (clr : Bool) (bank : Nat) (field : Int) (hw : MeFault)
    (ls : List (Nat × Ecc)) (w : s.store.wf = true) :
    (s.startMma n t x clr bank field hw ls).store.wf = true := by
  unfold State.startMma
  dsimp only
  repeat' split
  all_goals simp [w]

theorem effMma_wf (a : Issue) (clr bank : Bool) (anchor : BitVec 10) (rb : BitVec 6) (hw : MeFault) (ls : List (Nat × Ecc))
    (s : State) (w : s.store.wf = true) :
    (effMma a clr bank anchor rb hw ls s).store.wf = true := by
  simp +contextual [effMma, w]

theorem effMmaDelayedStart_wf (core : Fin 1536) (hw : MeFault) (ls : List (Nat × Ecc)) (s : State) (w : s.store.wf = true) :
    (effMmaDelayedStart core hw ls s).store.wf = true := by
  unfold effMmaDelayedStart
  dsimp only
  repeat' split
  all_goals simp +contextual [w]

@[simp] theorem State.meParity_wf (s : State) (n t bank d : Nat) (k : EngErrKind) (row : Nat) (writes : List Nat → State)
    (h : ∀ l, (writes l).store.wf = true) : (s.meParity n t bank d k row writes).store.wf = true := by
  simp [State.meParity, h]

theorem effDrain_wf (a : Issue) (bank : Bool) (dfmt : BitVec 4) (rs1 rs2 : BitVec 6) (hw : MeFault) (s : State)
    (w : s.store.wf = true) : (effDrain a bank dfmt rs1 rs2 hw s).store.wf = true := by
  refine State.issue_wf _ _ _ _ (fun t u0 hu => ?_) w
  have hu := u0.lsTick_wf a.core t hu
  dsimp only
  split
  · refine State.meParity_wf _ _ _ _ _ _ _ _ (fun ds => ?_)
    split <;> simp [hu]
  · exact hu
  · simp [hu]

theorem effAccSave_wf (a : Issue) (bank : Bool) (rs1 : BitVec 6) (hw : MeFault) (s : State) (w : s.store.wf = true) :
    (effAccSave a bank rs1 hw s).store.wf = true := by
  refine State.issue_wf _ _ _ _ (fun t u0 hu => ?_) w
  have hu := u0.lsTick_wf a.core t hu
  dsimp only
  split <;> simp [hu]

@[simp] theorem State.takeSample_wf (s : State) (k l n c : Nat) (t : MmaTrace) (spares : List Nat) (w : s.store.wf = true) :
    (s.takeSample k l n c t spares).store.wf = true := by
  simpa [State.takeSample] using Store.wf_foldl (fun _ _ h => Store.wf_copyOperands h ..) w

theorem effDriftSample_wf (k : Fin 48) (s : State) (w : s.store.wf = true) : (effDriftSample k s).store.wf = true := by
  unfold effDriftSample
  dsimp only
  repeat' split
  all_goals simp [w]

@[simp] theorem State.driftEnded_wf (s : State) (k : Nat) (agree : Bool) (w : s.store.wf = true) :
    (s.driftEnded k agree).store.wf = true := by
  refine foldl_wf _ _ _ (fun t c ht => ?_) w
  split
  · dsimp only
    split_ifs <;> simp [ht]
  · exact ht

@[simp] theorem State.driftKill_wf (s : State) (k c : Nat) (w : s.store.wf = true) : (s.driftKill k c).store.wf = true := by
  simp [State.driftKill, w]

theorem effDriftCompare_wf (k : Fin 48) (runA runB : DWord) (eccA eccB : List (Nat × Ecc)) (s : State)
    (w : s.store.wf = true) : (effDriftCompare k runA runB eccA eccB s).store.wf = true := by
  unfold effDriftCompare
  split
  · exact w
  · dsimp only
    repeat' split
    all_goals refine State.driftEnded_wf _ _ _ ?_
    all_goals simp [State.driftKill_wf, State.fenceAs_wf, w]

@[simp] theorem State.loadPattern_wf (s : State) (n i : Nat) (w : s.store.wf = true) : (s.loadPattern n i).store.wf = true := by
  unfold State.loadPattern
  split <;> simp [w]

@[simp] theorem State.patternPassed_wf (s : State) (n i : Nat) (w : s.store.wf = true) :
    (s.patternPassed n i).store.wf = true := by
  simp [State.patternPassed, w]

theorem effPatrolPatternEnd_wf (core : Fin 1536) (pass : Bool) (crc : DWord) (ecc : List (Nat × Ecc)) (s : State)
    (w : s.store.wf = true) :
    (effPatrolPatternEnd core pass crc ecc s).store.wf = true := by
  unfold effPatrolPatternEnd
  dsimp only
  repeat' split
  all_goals simp [w]

@[simp] theorem State.loseQuarters_wf (s : State) (p : Nat) (w : s.store.wf = true) : (s.loseQuarters p).store.wf = true := by
  simpa [State.loseQuarters] using Store.wf_foldl (fun _ _ h => Store.wf_zeroRange _ _ _ h) w

@[simp] theorem State.bistLoses_wf (s : State) (p scope : Nat) (w : s.store.wf = true) :
    (s.bistLoses p scope).store.wf = true := by
  unfold State.bistLoses
  split_ifs
  · exact s.clearPartition_wf _ _ _ w
  · exact Store.wf_foldl (fun _ _ h => Store.wf_zeroRange _ _ _ h) w
  · exact s.loseQuarters_wf _ w

@[simp] theorem State.runBist_wf (s : State) (h : Hdr) (scope : Nat) (cmd : Instr) (w : s.store.wf = true) :
    (s.runBist h scope cmd).store.wf = true := by
  refine s.hostCmd_wf _ _ _ _ (fun t ht => ?_) w
  dsimp only
  split_ifs <;> simp [ht]

theorem effBistDone_wf (job : Nat) (found : List BistFinding) (cal : List XCal) (s : State) (w : s.store.wf = true) :
    (effBistDone job found cal s).store.wf = true := by
  unfold effBistDone
  repeat' split
  all_goals simp +contextual [w]

@[simp] theorem State.abortBists_wf (s : State) (cal : List XCal) (w : s.store.wf = true) :
    (s.abortBists cal).store.wf = true := by
  simp +contextual [State.abortBists, w]

theorem State.startSuspect_wf {s y : State} {c : Nat} (h : s.startSuspect c = some y) (w : s.store.wf = true) :
    y.store.wf = true := by
  unfold State.startSuspect at h
  dsimp only at h
  repeat' split at h
  all_goals cases h
  all_goals simp [w]

@[simp] theorem State.replayFrom_wf (fuel : Nat) (s : State) (p i : Nat) (w : s.store.wf = true) :
    (State.replayFrom fuel s p i).store.wf = true := by
  induction fuel generalizing i with
  | zero => simpa [State.replayFrom] using w
  | succ f ih =>
    unfold State.replayFrom
    split_ifs
    · simpa using w
    · split
      · next h => simpa using State.startSuspect_wf h w
      · exact ih _
    · exact ih _

theorem effReplaySuspects_wf (h : Hdr) (s : State) (w : s.store.wf = true) :
    (effReplaySuspects h s).store.wf = true := by
  refine s.hostCmd_wf _ _ _ _ (fun t ht => ?_) w
  dsimp only
  split <;> simp [ht]

@[simp] theorem State.suspectOff_wf (s : State) (c : Nat) (w : s.store.wf = true) : (s.suspectOff c).store.wf = true := by
  simp [State.suspectOff, w]

theorem effSuspectRunEnd_wf (p : Fin 4) (hung : Bool) (cal : List XCal) (s : State) (w : s.store.wf = true) :
    (effSuspectRunEnd p hung cal s).store.wf = true := by
  unfold effSuspectRunEnd
  dsimp only
  repeat' split
  all_goals simp +contextual [w]

/-! ### Power, heat, the board controller, deadlocks -/

@[simp] theorem State.disablePart_wf (s : State) (p target : Nat) (w : s.store.wf = true) :
    (s.disablePart p target).store.wf = true := by
  unfold State.disablePart
  dsimp only
  generalize hs : List.foldl _ _ (State.liveContexts _ p) = s2
  have h2 : s2.store.wf = true := by
    subst hs
    exact foldl_wf _ _ _ (fun t c ht => by simp [ht]) (by simpa using w)
  split <;> simp [h2]

@[simp] theorem State.disableOne_wf (s : State) (id p state : Nat) (w : s.store.wf = true) :
    (s.disableOne id p state).store.wf = true := by
  unfold State.disableOne
  dsimp only
  repeat' split
  all_goals simp [w]

@[simp] theorem State.powerState_wf (s : State) (h : Hdr) (state : Nat) (cmd : Instr) (cal : List XCal) (w : s.store.wf = true) :
    (s.powerState h state cmd cal).store.wf = true := by
  refine s.hostCmd_wf _ _ _ _ (fun t ht => ?_) w
  dsimp only
  split_ifs <;> simp +contextual [ht]

@[simp] theorem effPowerStateRun_wf (h : Hdr) (cal : List XCal) (s : State) (w : s.store.wf = true) :
    (effPowerStateRun h cal s).store.wf = true := by
  simp [effPowerStateRun, w]

@[simp] theorem effPowerStateIdle_wf (h : Hdr) (cal : List XCal) (s : State) (w : s.store.wf = true) :
    (effPowerStateIdle h cal s).store.wf = true := by
  simp [effPowerStateIdle, w]

@[simp] theorem effPowerStateRetain_wf (h : Hdr) (s : State) (w : s.store.wf = true) :
    (effPowerStateRetain h s).store.wf = true := by
  simp [effPowerStateRetain, w]

@[simp] theorem effPowerStateDormant_wf (h : Hdr) (s : State) (w : s.store.wf = true) :
    (effPowerStateDormant h s).store.wf = true := by
  simp [effPowerStateDormant, w]

@[simp] theorem State.switchDomain_wf (s : State) (n : Nat) (on : Bool) (w : s.store.wf = true) :
    (s.switchDomain n on).store.wf = true := by
  simp [State.switchDomain, w]

@[simp] theorem State.domainControl_wf (s : State) (h : Hdr) (n : Nat) (on : Bool) (cmd : Instr) (w : s.store.wf = true) :
    (s.domainControl h n on cmd).store.wf = true := by
  refine s.hostCmd_wf _ _ _ _ (fun t ht => ?_) w
  dsimp only
  split_ifs <;> simp [ht]

@[simp] theorem State.carryDomain_wf (s : State) (n : Nat) (on : Bool) (w : s.store.wf = true) :
    (s.carryDomain n on).store.wf = true := by
  simp +contextual [State.carryDomain, w]

theorem effDomainRampDone_wf (domain : BitVec 6) (s : State) (w : s.store.wf = true) :
    (effDomainRampDone domain s).store.wf = true := by
  unfold effDomainRampDone
  dsimp only
  repeat' split
  all_goals simp [w]

@[simp] theorem effResetPartition_wf (h : Hdr) (cal : List XCal) (s : State) (w : s.store.wf = true) :
    (effResetPartition h cal s).store.wf = true := by
  refine s.hostCmd_wf _ _ _ _ (fun t ht => ?_) w
  dsimp only
  split <;> simp [ht]

theorem effDomainSupplyFailure_wf (k : Fin 48) (cal : List XCal) (s : State) (w : s.store.wf = true) :
    (effDomainSupplyFailure k cal s).store.wf = true := by
  unfold effDomainSupplyFailure
  repeat' split
  all_goals simp [w]

@[simp] theorem State.emergencyPart_wf (s : State) (p : Nat) (w : s.store.wf = true) : (s.emergencyPart p).store.wf = true := by
  simp +contextual [State.emergencyPart, w]

@[simp] theorem State.emergency_wf (s : State) (east : Bool) (w : s.store.wf = true) : (s.emergency east).store.wf = true := by
  simp +contextual [State.emergency, w]

@[simp] theorem State.levelStep_wf (s : State) (east : Bool) (w : s.store.wf = true) : (s.levelStep east).store.wf = true := by
  simp [State.levelStep, w]

@[simp] theorem State.releasePart_wf (s : State) (cal : List XCal) (p : Nat) (w : s.store.wf = true) :
    (s.releasePart cal p).store.wf = true := by
  unfold State.releasePart
  dsimp only
  repeat' split
  all_goals simp [w]

theorem effThermalHoldRelease_wf (east : Bool) (cal : List XCal) (s : State) (w : s.store.wf = true) :
    (effThermalHoldRelease east cal s).store.wf = true := by
  simp +contextual [effThermalHoldRelease, w]

@[simp] theorem State.bcCommand_wf (s : State) (h : Hdr) (op : Nat) (b : List Byte) (cal : List XCal) (w : s.store.wf = true) :
    (s.bcCommand h op b cal).store.wf = true := by
  simp [State.bcCommand, w]

@[simp] theorem State.bcRequest_wf (s : State) (msg : List Byte) (dormant : Bool) (cal : List XCal) (w : s.store.wf = true) :
    (s.bcRequest msg dormant cal).store.wf = true := by
  unfold State.bcRequest
  dsimp only
  repeat' split
  all_goals simp [w]

@[simp] theorem State.passHeld_wf (s : State) (w : s.store.wf = true) : s.passHeld.store.wf = true := by
  unfold State.passHeld
  split <;> simp [w]

@[simp] theorem effRecoveryGo_wf (s : State) (w : s.store.wf = true) : (effRecoveryGo s).store.wf = true := by
  simp [effRecoveryGo, w]

@[simp] theorem State.breakDeadlock_wf (s : State) (cyc : List Nat) (byQuill : Bool) (w : s.store.wf = true) :
    (s.breakDeadlock cyc byQuill).store.wf = true := by
  unfold State.breakDeadlock
  repeat' split
  all_goals simp [w]

theorem effDeadlockDetected_wf (x : DeadlockWhere) (s : State) (w : s.store.wf = true) :
    (effDeadlockDetected x s).store.wf = true := by
  unfold effDeadlockDetected
  split <;> simp [w]

/-! ### Fabric, host transfers, rings and registers -/

@[simp] theorem State.sendRemote_wf (s : State) (p : Nat) (l : List Flit) (w : s.store.wf = true) :
    (s.sendRemote p l).store.wf = true := by
  unfold State.sendRemote
  dsimp only
  repeat' split
  all_goals simp [w]

@[simp] theorem State.killFabric_wf (s : State) (c : Nat) (port : Option Nat) (payload : List (Nat × Nat × Nat))
    (w : s.store.wf = true) :
    (s.killFabric c port payload).store.wf = true := by
  simp [State.killFabric, w]

@[simp] theorem State.ringFault_wf (s : State) (r : Nat) (payload : List (Nat × Nat × Nat)) (w : s.store.wf = true) :
    (s.ringFault r payload).store.wf = true := by
  simp [State.ringFault, w]

@[simp] theorem State.loseAdds_wf (s : State) (n id port track : Nat) (w : s.store.wf = true) :
    (s.loseAdds n id port track).store.wf = true := by
  unfold State.loseAdds
  split <;> simp [w]

@[simp] theorem State.lostFor_wf (s : State) (t : Tracked) (w : s.store.wf = true) : (s.lostFor t).store.wf = true := by
  unfold State.lostFor
  split <;> simp [w]

theorem effReceiptTimeout_wf (entry : Nat) (s : State) (w : s.store.wf = true) : (effReceiptTimeout entry s).store.wf = true := by
  simp +contextual [effReceiptTimeout, w]

@[simp] theorem State.servicePiece_wf (s : State) (k : Nat) (lost : List Nat) (blot : Bool) (x : Nat × Nat × List Byte)
    (w : s.store.wf = true) : (s.servicePiece k lost blot x).store.wf = true := by
  unfold State.servicePiece
  dsimp only
  split
  · exact Store.wf_writeSome w
  · simp [Store.wf_fill, Store.wf_writeUnit, w]

@[simp] theorem State.devWrite_wf (s : State) (m : DevMem) (a : Nat) (bs : List Byte) (poison : Nat → Bool) (lost : List Nat)
    (w : s.store.wf = true) :
    (s.devWrite m a bs poison lost).store.wf = true := by
  unfold State.devWrite
  repeat' split
  all_goals simp +contextual [w]

@[simp] theorem State.answerBar_wf (s : State) (m : DevMem) (fn a len : Nat) (w : s.store.wf = true) :
    (s.answerBar m fn a len).store.wf = true := by
  simp [State.answerBar, w]

theorem effBar2Read_wf (fn : Fin 6) (off : BitVec 40) (len : Nat) (errs : List (DWord × Ecc)) (split : List DWord)
    (lines : List LineFind) (s : State) (w : s.store.wf = true) :
    (effBar2Read fn off len errs split lines s).store.wf = true := by
  unfold effBar2Read
  dsimp only
  split
  · exact w
  · split
    · simpa using w
    · split
      · exact w
      · next h => simp [State.devFinds_wf _ _ _ _ _ _ (State.devReady_wf h w)]

@[simp] theorem State.devWriteEcc_wf (s : State) (m : DevMem) (a n : Nat) (l : List (DWord × Ecc)) (lines : List LineFind)
    (w : s.store.wf = true) :
    (s.devWriteEcc m a n l lines).store.wf = true := by
  unfold State.devWriteEcc
  split <;> simp [w]

theorem effBar2Write_wf (fn : Fin 6) (off : BitVec 40) (bytes : List Byte) (poisoned : Bool) (errs : List (DWord × Ecc))
    (lost : List Nat) (lines : List LineFind) (s : State) (w : s.store.wf = true) :
    (effBar2Write fn off bytes poisoned errs lost lines s).store.wf = true := by
  unfold effBar2Write
  dsimp only
  split
  · exact w
  · split
    · simpa using w
    · split
      · exact w
      · next h => simp [State.devReady_wf h w]

@[simp] theorem State.dmaIn_wf (s : State) (job : Nat) (m : DevMem) (a n : Nat) (bs : List Byte) (poison lost : List Nat)
    (w : s.store.wf = true) :
    (s.dmaIn job m a n bs poison lost).store.wf = true := by
  simp [State.dmaIn, w]

@[simp] theorem State.dmaOut_wf (s : State) (job f h : Nat) (m : DevMem) (a n : Nat) (w : s.store.wf = true) :
    (s.dmaOut job f h m a n).store.wf = true := by
  simp [State.dmaOut, w]

theorem effDmaTransferDone_wf (job : Nat) (data : Option (List Byte)) (poison : List Nat) (errs : List (DWord × Ecc))
    (split : List DWord) (lost : List Nat) (lines : List LineFind) (s : State) (w : s.store.wf = true) :
    (effDmaTransferDone job data poison errs split lost lines s).store.wf = true := by
  unfold effDmaTransferDone
  dsimp only
  repeat' split
  case isTrue h _ => simp [State.devReady_wf h w]
  case isFalse h _ => simp [State.devFinds_wf _ _ _ _ _ _ (State.devReady_wf h w)]
  all_goals simp [w]

@[simp] theorem State.ringSend_wf (s : State) (r : Nat) (d : RingDesc) (base i n : Nat) (w : s.store.wf = true) :
    (s.ringSend r d base i n).store.wf = true := by
  simp [State.ringSend, w]

@[simp] theorem State.ringSendAll_wf (s : State) (r : Nat) (d : RingDesc) (base n : Nat) (w : s.store.wf = true) :
    (s.ringSendAll r d base n).store.wf = true := by
  simp +contextual [State.ringSendAll, w]

@[simp] theorem State.ringRun_wf (s : State) (r : Nat) (d : RingDesc) (base : Nat) (w : s.store.wf = true) :
    (s.ringRun r d base).store.wf = true := by
  simp [State.ringRun, w]

@[simp] theorem State.writeRecovery_wf (s : State) (v : Word) (w : s.store.wf = true) : (s.writeRecovery v).store.wf = true := by
  simp [State.writeRecovery, w]

@[simp] theorem State.writeBar4_wf (s : State) (fn : Fin 6) (x : Nat) (v : Word) (w : s.store.wf = true) :
    (s.writeBar4 fn x v).store.wf = true := by
  unfold State.writeBar4
  split <;> simp [w]

theorem effDebugDump_wf (h : Hdr) (r : Reply) (what cluster : Byte) (find : List (DWord × Ecc)) (split : List DWord)
    (s : State) (w : s.store.wf = true) : (effDebugDump h r what cluster find split s).store.wf = true := by
  refine s.hostCmd_wf _ _ _ _ (fun t ht => ?_) w
  dsimp only
  split <;> simp [ht]

/-! ### Scalar, sequence and vector commands -/

@[simp] theorem scalarOp_wf (a : Issue) (rd : BitVec 6) (srcs : List (BitVec 6)) (lat : Nat) (errs : List CoreError)
    (f : CoreRegs → Word) (s : State) (w : s.store.wf = true) :
    (scalarOp a rd srcs lat errs f s).store.wf = true := by
  simp [scalarOp, w]

theorem effStw_wf (a : Issue) (rd rs1 : BitVec 6) (imm : BitVec 14) (s : State) (w : s.store.wf = true) :
    (effStw a rd rs1 imm s).store.wf = true := by
  simp +contextual [effStw, w]

@[simp] theorem branchOp_wf (a : Issue) (rs1 rs2 : BitVec 6) (target : BitVec 12) (cond : Word → Word → Bool) (s : State)
    (w : s.store.wf = true) :
    (branchOp a rs1 rs2 target cond s).store.wf = true := by
  simp [branchOp, w]

theorem State.slotCmd_wf (s : State) (hd : Hdr) (op : Nat) (ctx : Bool) (slots : List Byte) (args : List (Nat × Nat × Nat))
    (ok : Bool) (body : State → State) (h : ∀ t, t.store.wf = true → (body t).store.wf = true) (w : s.store.wf = true) :
    (s.slotCmd hd op ctx slots args ok body).store.wf = true := by
  refine s.hostCmd_wf _ _ _ _ (fun t ht => ?_) w
  dsimp only
  split
  · simpa using ht
  · exact h t ht

theorem State.slotEnd_wf (s : State) (hd : Hdr) (op n : Nat) (res : SlotRefusal ⊕ State)
    (h : ∀ t, res = .inr t → t.store.wf = true) (w : s.store.wf = true) : (s.slotEnd hd op n res).store.wf = true := by
  unfold State.slotEnd
  split
  case h_4 t => simpa using h t rfl
  all_goals simpa using w

theorem effSeqOpen_wf (h : Hdr) (slot log2 tier : Byte) (base pages : Half) (s : State) (w : s.store.wf = true) :
    (effSeqOpen h slot log2 tier base pages s).store.wf = true := by
  refine s.slotCmd_wf _ _ _ _ _ _ _ (fun t ht => ?_) w
  dsimp only
  split_ifs <;> simp [Store.wf_zeroRange, ht]

theorem effSeqFork_wf (h : Hdr) (parent child : Byte) (pos : Word) (tbl : List (BitVec 22 × Ecc))
    (lines : List LineFind) (s : State) (w : s.store.wf = true) : (effSeqFork h parent child pos tbl lines s).store.wf = true :=
  s.slotCmd_wf _ _ _ _ _ _ _ (fun t ht => have hr := t.readTable_wf _ _ _ _ ht
    State.slotEnd_wf _ _ _ _ _ (fun _ hy => State.forkSlot_wf hy hr) hr) w

theorem effSeqRewind_wf (h : Hdr) (slot : Byte) (pos : Word) (tbl : List (BitVec 22 × Ecc)) (lines : List LineFind)
    (s : State) (w : s.store.wf = true) : (effSeqRewind h slot pos tbl lines s).store.wf = true :=
  s.slotCmd_wf _ _ _ _ _ _ _ (fun t ht => have hr := t.readTable_wf _ _ _ _ ht
    State.slotEnd_wf _ _ _ _ _ (fun _ hy => State.rewindSlot_wf hy hr) hr) w

theorem effSeqAccept_wf (h : Hdr) (parent child : Byte) (tbl ctbl : List (BitVec 22 × Ecc)) (lines : List LineFind)
    (s : State) (w : s.store.wf = true) : (effSeqAccept h parent child tbl ctbl lines s).store.wf = true :=
  s.slotCmd_wf _ _ _ _ _ _ _ (fun t ht => have hr := State.readTable_wf _ _ _ _ _ (t.readTable_wf _ _ _ _ ht)
    State.slotEnd_wf _ _ _ _ _ (fun _ hy => State.acceptSlot_wf hy hr) hr) w

theorem effSeqClose_wf (h : Hdr) (slot : Byte) (tbl : List (BitVec 22 × Ecc)) (lines : List LineFind) (s : State)
    (w : s.store.wf = true) : (effSeqClose h slot tbl lines s).store.wf = true := by
  refine s.slotCmd_wf _ _ _ _ _ _ _ (fun t ht => ?_) w
  dsimp only
  split_ifs <;> simp [ht]

theorem State.issueV_wf (s : State) (a : Issue) (vs : List Nat) (u : Unit_) (occ : Nat) (rs : List Nat) (errs : List CoreError)
    (par : Option (BitVec 5)) (effect : Nat → State → State)
    (h : ∀ t v, v.store.wf = true → (effect t v).store.wf = true) (w : s.store.wf = true) :
    (s.issueV a vs u occ rs errs par effect).store.wf = true := by
  refine State.issue_wf _ _ _ _ (fun t v hv => ?_) w
  split
  · split
    · exact v.engineError_wf _ _ _ hv
    · simpa using h t v hv
  · simpa using h t v hv

@[simp] theorem vecOp_wf (a : Issue) (vd : Nat) (vs : List Nat) (u : Unit_) (occ lat : Nat) (ok : Bool)
    (par : Option (BitVec 5)) (f : CoreRegs → VResult) (s : State) (w : s.store.wf = true) :
    (vecOp a vd vs u occ lat ok par f s).store.wf = true := s.issueV_wf _ _ _ _ _ _ _ _ (fun t v hv => by simpa using hv) w

theorem effVld_wf (a : Issue) (vd : BitVec 5) (rs1 : BitVec 6) (imm : BitVec 14) (ls : List (Nat × Ecc)) (s : State)
    (w : s.store.wf = true) : (effVld a vd rs1 imm ls s).store.wf = true := by
  unfold effVld
  exact s.issueV_wf _ _ _ _ _ _ _ _ (fun t v hv => by simpa using hv) w

theorem effVst_wf (a : Issue) (vs : BitVec 5) (rs1 : BitVec 6) (imm : BitVec 14) (par : Option (BitVec 5)) (s : State)
    (w : s.store.wf = true) : (effVst a vs rs1 imm par s).store.wf = true :=
  s.issueV_wf _ _ _ _ _ _ _ _ (fun t v hv => by simpa using v.lsTick_wf _ t hv) w

theorem effVmov_wf (a : Issue) (vd va vb _vc : BitVec 5) (fn : BitVec 6) (par : Option (BitVec 5)) (s : State)
    (w : s.store.wf = true) : (effVmov a vd va vb _vc fn par s).store.wf = true := by
  unfold effVmov
  split <;> exact s.issueV_wf _ _ _ _ _ _ _ _ (fun t v hv => by simpa using hv) w

/-! ### Device resets and central tables -/

@[simp] theorem State.deviceReset_wf (s : State) (w : s.store.wf = true) : s.deviceReset.store.wf = true := by
  obtain ⟨hm, hb, -⟩ := (Store.wf_iff _).1 w
  exact (Store.wf_iff _).2 ⟨Memory.wfFrom_filter _ _ _ hm, risingFrom_filter _ _ _ hb, rfl⟩

@[simp] theorem State.devFault_wf (s : State) (cause : Nat) (w : s.store.wf = true) : (s.devFault cause).store.wf = true := by
  refine State.deviceReset_wf _ ?_
  simpa using foldl_wf _ _ _ (fun t c ht => t.killByPart_wf c ht) (by simpa using w)

@[simp] theorem State.powerless_wf (s : State) : s.powerless.store.wf = true := rfl

@[simp] theorem State.trip_wf (s : State) : s.trip.store.wf = true := by
  have h : Store.reset.wf = true := rfl
  simp [State.trip, h]

@[simp] theorem State.outputOff_wf (s : State) (c : Nat) : (s.outputOff c).store.wf = true := by
  simp [State.outputOff]

theorem State.centralRead_wf (s : State) (tbl : Ecc) (body : State → State)
    (h : ∀ t, t.store.wf = true → (body t).store.wf = true) (w : s.store.wf = true) : (s.centralRead tbl body).store.wf = true := by
  cases tbl with
  | ok => exact h s w
  | corrected => exact h _ (by simpa using w)
  | uncorrectable => exact s.devFault_wf 1 w

theorem State.receiveFlit_wf (s : State) (p : Nat) (f : FabricFlit) (body : State → State)
    (h : ∀ t, t.store.wf = true → (body t).store.wf = true) (w : s.store.wf = true) : (s.receiveFlit p f body).store.wf = true := by
  unfold State.receiveFlit
  split
  · exact h _ (by simpa using w)
  · exact w

theorem State.takeMsg_wf (s : State) (f kind : Nat) (x : FabricFlit) (body : State → State)
    (h : ∀ t, t.store.wf = true → (body t).store.wf = true) (w : s.store.wf = true) :
    (s.takeMsg f kind x body).store.wf = true := by
  unfold State.takeMsg
  split
  · refine s.receiveFlit_wf f x _ (fun t ht => ?_) w
    split
    · simpa using ht
    · exact h t ht
  · exact w

theorem effFlitForward_wf (f : Fin 16) (flit : FabricFlit) (tbl : Ecc) (s : State) (w : s.store.wf = true) :
    (effFlitForward f flit tbl s).store.wf = true := by
  unfold effFlitForward
  dsimp only
  split_ifs
  · exact w
  · simpa using w
  · exact s.receiveFlit_wf _ _ _ (fun _ ht => ht) w
  · exact w
  · exact s.centralRead_wf _ _ (fun t ht => t.receiveFlit_wf _ _ _ (fun u hu => by simpa using hu) ht) w

theorem effFabricWriteReceive_wf (f : Fin 16) (flit : FabricFlit) (tbl : Ecc) (s : State) (w : s.store.wf = true) :
    (effFabricWriteReceive f flit tbl s).store.wf = true :=
  s.takeMsg_wf _ _ _ _ (fun t ht => t.centralRead_wf _ _ (fun u hu => u.writeArrives_wf _ _ hu) ht) w

theorem effFabricAddReceive_wf (f : Fin 16) (flit : FabricFlit) (tbl : Ecc) (s : State) (w : s.store.wf = true) :
    (effFabricAddReceive f flit tbl s).store.wf = true :=
  s.takeMsg_wf _ _ _ _ (fun t ht => t.centralRead_wf _ _ (fun u hu => by simpa using hu) ht) w

theorem effEdgeRemoteWrite_wf (f : Fin 16) (src : RulingSlot) (parity : Option ParityHit) (tbl : Ecc) (s : State)
    (w : s.store.wf = true) : (effEdgeRemoteWrite f src parity tbl s).store.wf = true := by
  unfold effEdgeRemoteWrite
  dsimp only
  split
  · exact w
  · split
    · exact w
    · next hm =>
      have h1 := State.move_wf hm w
      split_ifs
      · simpa using h1
      · exact w
      · exact State.centralRead_wf _ _ _ (fun t ht => State.sendRemote_wf _ _ _ (by simpa using ht)) (by simpa using h1)

theorem effRingDescriptorStart_wf (r : BitVec 6) (errs : List (DWord × Ecc)) (lines : List LineFind) (tbl : Ecc) (s : State)
    (w : s.store.wf = true) : (effRingDescriptorStart r errs lines tbl s).store.wf = true := by
  unfold effRingDescriptorStart
  split
  · exact w
  · refine s.centralRead_wf _ _ (fun t ht => ?_) w
    dsimp only
    split
    · exact t.ringFault_wf _ _ ht
    · split
      · exact ht
      · next h0 =>
        have h1 := fun a n l k => State.devFinds_wf _ .bulk a n l k (State.devReady_wf h0 ht)
        split
        · exact State.ringFault_wf _ _ _ (h1 ..)
        · split
          · exact ht
          · next h2 => exact State.ringRun_wf _ _ _ _ (State.devFinds_wf _ _ _ _ _ _ (State.devReady_wf h2 (h1 ..)))

/-! ### Commands that can reset the device -/

theorem effFwCommitReset_wf (s : State) (w : s.store.wf = true) : (effFwCommitReset s).store.wf = true := by
  simp [effFwCommitReset, w]

theorem effHeartbeatMiss_wf (s : State) (w : s.store.wf = true) : (effHeartbeatMiss s).store.wf = true := by
  unfold effHeartbeatMiss
  dsimp only
  repeat' split
  all_goals simp [State.devFault_wf, w]

theorem effThermalSample_wf (x : ThermSensor) (v : BitVec 16) (s : State) (w : s.store.wf = true) :
    (effThermalSample x v s).store.wf = true := by
  simp [effThermalSample, w]

theorem effRecoveryTimeout_wf (s : State) (w : s.store.wf = true) : (effRecoveryTimeout s).store.wf = true := by
  simp [effRecoveryTimeout, w]

theorem effInputRise_wf (mv : BitVec 17) (s : State) (w : s.store.wf = true) : (effInputRise mv s).store.wf = true := by
  simp [effInputRise, w]

theorem effInputUndervoltageOff_wf (mv : BitVec 17) (s : State) (w : s.store.wf = true) :
    (effInputUndervoltageOff mv s).store.wf = true := by
  simp [effInputUndervoltageOff, w]

theorem effInputOvervoltageOff_wf (mv : BitVec 17) (s : State) (w : s.store.wf = true) :
    (effInputOvervoltageOff mv s).store.wf = true := by
  simp [effInputOvervoltageOff, w]

theorem effOvercurrentLatch_wf (ma : BitVec 17) (s : State) (w : s.store.wf = true) :
    (effOvercurrentLatch ma s).store.wf = true := by
  simp [effOvercurrentLatch, w]

/-! ### Every command, every step -/

/-- A command that cannot change the storage leaves it as it was (O22). -/
theorem store_eq_of_not_touches {c : Instr} {s t : State} (h : exec c s = .next t) (hc : Area.store ∉ touches c) :
    t.store = s.store := exec_keepsBut_touches c s t h .store hc

/-- The state that a command answers is that of its effect. -/
theorem wf_next {t u : State} (h : (.next u : Host.Outcome State Fault Refusal) = .next t) (hu : u.store.wf = true) :
    t.store.wf = true := Host.Outcome.next.inj h ▸ hu

theorem exec_wf (c : Instr) (s t : State) (w : s.store.wf = true) (h : exec c s = .next t) : t.store.wf = true := by
  cases c with
  | illegal => exact wf_next h (by simp [effIllegal, w])
  | alu => exact wf_next h (scalarOp_wf (w := w) ..)
  | addi => exact wf_next h (scalarOp_wf (w := w) ..)
  | andi => exact wf_next h (scalarOp_wf (w := w) ..)
  | ori => exact wf_next h (scalarOp_wf (w := w) ..)
  | shi => exact wf_next h (scalarOp_wf (w := w) ..)
  | lui => exact wf_next h (scalarOp_wf (w := w) ..)
  | ldw => exact wf_next h (by simp [effLdw, w])
  | stw => exact wf_next h (effStw_wf (w := w) ..)
  | beq => exact wf_next h (branchOp_wf (w := w) ..)
  | bne => exact wf_next h (branchOp_wf (w := w) ..)
  | blt => exact wf_next h (branchOp_wf (w := w) ..)
  | bge => exact wf_next h (branchOp_wf (w := w) ..)
  | jmp => exact wf_next h (by simp [effJmp, w])
  | jr => exact wf_next h (by simp [effJr, w])
  | loop => exact wf_next h (by simp [effLoop, w])
  | sectRuledNext => exact wf_next h (by simp [effSectRuledNext, w])
  | sectRuledAt => exact wf_next h (by simp [effSectRuledAt, w])
  | sectRuledHold => exact wf_next h (by simp [effSectRuledHold, w])
  | sectFree => exact wf_next h (by simp [effSectFree, w])
  | halt => exact wf_next h (by simp [effHalt, w])
  | mma => exact wf_next h (effMma_wf (w := w) ..)
  | mmaDelayedStart => exact wf_next h (effMmaDelayedStart_wf (w := w) ..)
  | drain => exact wf_next h (effDrain_wf (w := w) ..)
  | accSave => exact wf_next h (effAccSave_wf (w := w) ..)
  | accLoad => exact wf_next h (by simp [effAccLoad, w])
  | vld => exact wf_next h (effVld_wf (w := w) ..)
  | vst => exact wf_next h (effVst_wf (w := w) ..)
  | vfp => exact wf_next h (by simp [effVfp, w])
  | vint => exact wf_next h (by simp [effVint, w])
  | vcvt => exact wf_next h (by simp [effVcvt, w])
  | mxq => exact wf_next h (by simp [effMxq, w])
  | vred => exact wf_next h (by simp [effVred, w])
  | vtr => exact wf_next h (by simp [effVtr, w])
  | vmov => exact wf_next h (effVmov_wf (w := w) ..)
  | xfer => exact wf_next h (by simp [effXfer, w])
  | xferAccess => exact wf_next h (effXferAccess_wf (w := w) ..)
  | send => exact wf_next h (effSend_wf (w := w) ..)
  | recv => exact wf_next h (effRecv_wf (w := w) ..)
  | recvWake => exact wf_next h (effRecvWake_wf (w := w) ..)
  | select => exact wf_next h (by simp [effSelect, w])
  | selectSelection => exact wf_next h (effSelectSelection_wf (w := w) ..)
  | qstat => exact wf_next h (by simp [effQstat, w])
  | steer => exact wf_next h (by simp [effSteer, w])
  | syncSet => exact wf_next h (syncOp_wf (w := w) ..)
  | syncAdd => exact wf_next h (syncOp_wf (w := w) ..)
  | syncWaitGe => exact wf_next h (effSyncWaitGe_wf (w := w) ..)
  | syncRadd => exact wf_next h (by simp [effSyncRadd, w])
  | landwait => exact wf_next h (by simp [effLandwait, w])
  | steerFire => exact wf_next h (effSteerFire_wf (w := w) ..)
  | freeTokenArrival => exact wf_next h (effFreeTokenArrival_wf (w := w) ..)
  | rdsys => exact wf_next h (by simp [effRdsys, w])
  | strokeEdge => exact wf_next h (effStrokeEdge_wf (w := w) ..)
  | holdRelease => exact wf_next h (by simp [effHoldRelease, w])
  | tokenDelivery => exact wf_next h (effTokenDelivery_wf (w := w) ..)
  | steerInputDelivery => exact wf_next h (effSteerInputDelivery_wf (w := w) ..)
  | contributionArrival => exact wf_next h (effContributionArrival_wf (w := w) ..)
  | mcRequest => exact wf_next h (effMcRequest_wf (w := w) ..)
  | startContext => exact wf_next h (effStartContext_wf (w := w) ..)
  | stopContextAtEdge => exact wf_next h (effStopContextAtEdge_wf (w := w) ..)
  | stopContextAtQuiet => exact wf_next h (effStopContextAtQuiet_wf (w := w) ..)
  | bistLogic => exact wf_next h (State.runBist_wf (w := w) ..)
  | bistInkwellMarch => exact wf_next h (State.runBist_wf (w := w) ..)
  | bistLpddrQuick => exact wf_next h (State.runBist_wf (w := w) ..)
  | bistLpddrFull => exact wf_next h (State.runBist_wf (w := w) ..)
  | replaySuspects => exact wf_next h (effReplaySuspects_wf (w := w) ..)
  | suspectRunEnd => exact wf_next h (effSuspectRunEnd_wf (w := w) ..)
  | powerStateRun => exact wf_next h (effPowerStateRun_wf (w := w) ..)
  | powerStateIdle => exact wf_next h (effPowerStateIdle_wf (w := w) ..)
  | powerStateRetain => exact wf_next h (effPowerStateRetain_wf (w := w) ..)
  | powerStateDormant => exact wf_next h (effPowerStateDormant_wf (w := w) ..)
  | resetPartition => exact wf_next h (effResetPartition_wf (w := w) ..)
  | strokeWatchExpiry => exact wf_next h (by simp [effStrokeWatchExpiry, w])
  | holdWatchExpiry => exact wf_next h (by simp [effHoldWatchExpiry, w])
  | contextRestart => exact wf_next h (effContextRestart_wf (w := w) ..)
  | checkpointCommit => exact wf_next h (effCheckpointCommit_wf (w := w) ..)
  | referenceLoss => exact wf_next h (by simp [effReferenceLoss, w])
  | thermalHoldRelease => exact wf_next h (effThermalHoldRelease_wf (w := w) ..)
  | domainSupplyFailure => exact wf_next h (effDomainSupplyFailure_wf (w := w) ..)
  | supplyOutOfTolerance => exact wf_next h (by simp [effSupplyOutOfTolerance, w])
  | deadlockDetected => exact wf_next h (effDeadlockDetected_wf (w := w) ..)
  | combiningRelease => exact wf_next h (effCombiningRelease_wf (w := w) ..)
  | landingSlotWrite => exact wf_next h (effLandingSlotWrite_wf (w := w) ..)
  | scrubAccess => exact wf_next h (effScrubAccess_wf (w := w) ..)
  | mcReadDataReturn => exact wf_next h (effMcReadDataReturn_wf (w := w) ..)
  | positionWrite => exact wf_next h (effPositionWrite_wf (w := w) ..)
  | slotCmdFork => exact wf_next h (effSlotCmdFork_wf (w := w) ..)
  | slotCmdRewind => exact wf_next h (effSlotCmdRewind_wf (w := w) ..)
  | slotCmdAccept => exact wf_next h (effSlotCmdAccept_wf (w := w) ..)
  | mcWckCheck => exact wf_next h (by simp [effMcWckCheck, w])
  | bar2Read => exact wf_next h (effBar2Read_wf (w := w) ..)
  | bar2Write => exact wf_next h (effBar2Write_wf (w := w) ..)
  | dmaTransferDone => exact wf_next h (effDmaTransferDone_wf (w := w) ..)
  | domainOn => exact wf_next h (State.domainControl_wf (w := w) ..)
  | domainOff => exact wf_next h (State.domainControl_wf (w := w) ..)
  | domainRampDone => exact wf_next h (effDomainRampDone_wf (w := w) ..)
  | driftCompare => exact wf_next h (effDriftCompare_wf (w := w) ..)
  | mcScrubRead => exact wf_next h (by simp [effMcScrubRead, w])
  | seqFork => exact wf_next h (effSeqFork_wf (w := w) ..)
  | seqRewind => exact wf_next h (effSeqRewind_wf (w := w) ..)
  | seqAccept => exact wf_next h (effSeqAccept_wf (w := w) ..)
  | seqClose => exact wf_next h (effSeqClose_wf (w := w) ..)
  | registerWrite => exact wf_next h (by simp [effRegisterWrite, w])
  | setPartitionMode => exact wf_next h (effSetPartitionMode_wf (w := w) ..)
  | setModes => exact wf_next h (effSetModes_wf (w := w) ..)
  | scrollReadComplete => exact wf_next h (effScrollReadComplete_wf (w := w) ..)
  | seqOpen => exact wf_next h (effSeqOpen_wf (w := w) ..)
  | bistDone => exact wf_next h (effBistDone_wf (w := w) ..)
  | fwCommitReset => exact wf_next h (effFwCommitReset_wf (w := w) ..)
  | flitForward => exact wf_next h (effFlitForward_wf (w := w) ..)
  | fabricWriteReceive => exact wf_next h (effFabricWriteReceive_wf (w := w) ..)
  | fabricAddReceive => exact wf_next h (effFabricAddReceive_wf (w := w) ..)
  | edgeRemoteWrite => exact wf_next h (effEdgeRemoteWrite_wf (w := w) ..)
  | ringDescriptorStart => exact wf_next h (effRingDescriptorStart_wf (w := w) ..)
  | heartbeatMiss => exact wf_next h (effHeartbeatMiss_wf (w := w) ..)
  | thermalSample => exact wf_next h (effThermalSample_wf (w := w) ..)
  | recoveryTimeout => exact wf_next h (effRecoveryTimeout_wf (w := w) ..)
  | inputRise => exact wf_next h (effInputRise_wf (w := w) ..)
  | inputUndervoltageOff => exact wf_next h (effInputUndervoltageOff_wf (w := w) ..)
  | inputOvervoltageOff => exact wf_next h (effInputOvervoltageOff_wf (w := w) ..)
  | overcurrentLatch => exact wf_next h (effOvercurrentLatch_wf (w := w) ..)
  | debugDump => exact wf_next h (effDebugDump_wf (w := w) ..)
  | mctpCommandRequest => exact wf_next h (by simp [effMctpCommandRequest, w])
  | recoveryGo => exact wf_next h (effRecoveryGo_wf (w := w) ..)
  | receiptTimeout => exact wf_next h (effReceiptTimeout_wf (w := w) ..)
  | patrolPatternEnd => exact wf_next h (effPatrolPatternEnd_wf (w := w) ..)
  | driftSample => exact wf_next h (effDriftSample_wf (w := w) ..)
  | patrolPatternStart => exact wf_next h (by simp [effPatrolPatternStart, w])
  | startup => exact wf_next h (by simp [effStartup, w])
  | restoreMirrorCopyDone => exact wf_next h (effRestoreMirrorCopyDone_wf (w := w) ..)
  | _ => exact store_eq_of_not_touches h (by simp [touches]) ▸ w

/-- Settles O25: each operation on the storage keeps its canonical form, and a step is made of such operations: a command that
cannot change the storage by its frame (O22), each of the others by the law of its effect. -/
theorem storageCanonical : Obligations.StorageCanonical := by
  intro s t w h
  unfold step at h
  split at h
  · exact wf_next h (by simpa using w)
  · exact exec_wf _ _ t (by simpa using w) h

end Sys2Proof.Machine
end

section
/-!
PROOF. Host commands that start (O41, O55).
-/
namespace Sys2Proof.Machine

/-- A host command that starts and that no check refuses acts on the state with its queue entry taken (R540). -/
theorem State.hostCmd_of_startsIn {s sx : State} {h : Hdr} {c : CmdSpec} {ok : Bool} (hs : startsIn s h c sx)
    (hr : sx.refuses h c ok = none) (body : State → State) :
    s.hostCmd h c ok body = (body sx).unclaim h s.host.nextJob := by
  obtain ⟨hrun, hleft, hmay, rfl⟩ := hs
  simp [State.hostCmd, State.checked, hrun, hleft, hmay, hr]

end Sys2Proof.Machine
end

section
/-!
PROOF. Host accesses to device memory: BAR2 and DMA, and the host accesses of programs (O41).
-/
namespace Sys2Proof.Machine

/-! ### BAR2 (R451, R455, R456, R510 to R513) -/

section
variable {s : State} {fn : Fin 6} (h5 : fn ≠ 5) {off : BitVec 40} {len : Nat} {errs : List (DWord × Ecc)} {split : List DWord}
  {lines : List LineFind}
include h5

theorem effBar2Read_foreign (ht : s.bar2Target fn.val (s.bar2Addr fn.val off.toNat) len = none) :
    effBar2Read fn off len errs split lines s = (s.barRejected fn.val).emit (.barData fn.val none false) := by
  simp only [effBar2Read, if_neg h5, ht]

variable {m : DevMem} (ht : s.bar2Target fn.val (s.bar2Addr fn.val off.toNat) len = some m)
include ht

theorem effBar2Read_waits (hr : s.devReady m (s.bar2Addr fn.val off.toNat) len lines = none) :
    effBar2Read fn off len errs split lines s = s := by
  simp only [effBar2Read, if_neg h5, ht, hr]

theorem effBar2Read_served {t : State} (hr : s.devReady m (s.bar2Addr fn.val off.toNat) len lines = some t) :
    effBar2Read fn off len errs split lines s = ((t.devFinds m (s.bar2Addr fn.val off.toNat) len errs lines).devSplits m
      (s.bar2Addr fn.val off.toNat) len split).answerBar m fn.val (s.bar2Addr fn.val off.toNat) len := by
  simp only [effBar2Read, if_neg h5, ht, hr]

end

section
variable {s : State} {fn : Fin 6} (h5 : fn ≠ 5) {off : BitVec 40} {bs : List Byte} (hb : bs ≠ []) {p : Bool}
  {errs : List (DWord × Ecc)} {lost : List Nat} {lines : List LineFind}
include h5 hb

theorem effBar2Write_foreign (ht : s.bar2Target fn.val (s.bar2Addr fn.val off.toNat) bs.length = none) :
    effBar2Write fn off bs p errs lost lines s = s.barRejected fn.val := by
  simp only [effBar2Write, if_neg (not_or.2 ⟨h5, hb⟩), ht]

variable {m : DevMem} (ht : s.bar2Target fn.val (s.bar2Addr fn.val off.toNat) bs.length = some m)
include ht

theorem effBar2Write_waits (hr : s.devReady m (s.bar2Addr fn.val off.toNat) bs.length lines = none) :
    effBar2Write fn off bs p errs lost lines s = s := by
  simp only [effBar2Write, if_neg (not_or.2 ⟨h5, hb⟩), ht, hr]

theorem effBar2Write_served {t : State} (hr : s.devReady m (s.bar2Addr fn.val off.toNat) bs.length lines = some t) :
    effBar2Write fn off bs p errs lost lines s = (t.devWriteEcc m (s.bar2Addr fn.val off.toNat) bs.length errs lines).devWrite m
      (s.bar2Addr fn.val off.toNat) bs (fun _ => p) lost := by
  simp only [effBar2Write, if_neg (not_or.2 ⟨h5, hb⟩), ht, hr]

end

/-! ### A write in pieces of a unit is the write of all its bytes -/

/-- Bytes that end within the unit they begin in are written at once. -/
theorem Store.write_within_unit (m : Store) (a : Nat) {bs : List Byte} (b : Bool) (hn : bs ≠ [])
    (hl : bs.length ≤ 32 - a % 32) : m.write a bs b = m.writeUnit a bs b := by
  simp [Store.write, Store.writeRun, hn, List.take_of_length_le hl, List.drop_of_length_le hl]

theorem any_const_of_pos {n : Nat} (h : n ≠ 0) (p : Bool) : ((List.range n).any fun _ => p) = p := by
  cases p
  · simp
  · exact List.any_eq_true.2 ⟨0, List.mem_range.2 (Nat.pos_of_ne_zero h), rfl⟩

theorem State.foldl_write_unitPieces (fuel i a : Nat) (bs : List Byte) (p : Bool) (s : State) :
    (unitPieces fuel i a bs).foldl (fun t x => t.write x.2.1 x.2.2 ((List.range x.2.2.length).any fun _ => p)) s =
      { s with store := Store.writeRun fuel s.store a bs p } := by
  induction fuel generalizing i a bs s with
  | zero => rfl
  | succ f ih =>
    by_cases hb : bs = []
    · simp [unitPieces, Store.writeRun, hb]
    · have hpos : 0 < 32 - a % 32 := by omega
      have hn : bs.take (32 - a % 32) ≠ [] := by simp [hb, hpos.ne']
      have hw : s.write a (bs.take (32 - a % 32)) ((List.range (bs.take (32 - a % 32)).length).any fun _ => p) =
          { s with store := s.store.writeUnit a (bs.take (32 - a % 32)) p } := by
        rw [any_const_of_pos (by simpa using hn), State.write, Store.write_within_unit _ _ _ hn (List.length_take_le ..)]
      simp only [unitPieces, Store.writeRun, List.isEmpty_iff, if_neg hb, List.foldl_cons, hw, ih]

/-- Host data all clean, or all poisoned, is written to bulk memory as bytes with that blot. -/
theorem State.devWrite_bulk (s : State) (a : Nat) (bs : List Byte) (p : Bool) (lost : List Nat) :
    s.devWrite .bulk a bs (fun _ => p) lost = s.write a bs p :=
  State.foldl_write_unitPieces _ _ _ _ _ _

/-! ### DMA (R559, R560) -/

/-- A DMA to the device ends as a part where the host sent less than its length. -/
theorem State.dmaIn_eq (s : State) (i : Nat) (m : DevMem) (a n : Nat) (bs : List Byte) (po lost : List Nat) :
    s.dmaIn i m a n bs po lost =
      (s.devWrite m a (bs.take n) po.contains lost).finish i (if bs.length < n then .aborted else .ok) (min n bs.length) := by
  have hlt : min n bs.length < n ↔ bs.length < n := by omega
  simp only [State.dmaIn, List.length_take, hlt]

section
variable {s : State} {i : Nat} {j : Job} {h : Hdr} {ha da : DWord} {len : Word} {dir : Byte} (hj : s.job i = some j)
  (hc : j.cmd = .dma h ha da len dir) {po lost : List Nat} {e : List (DWord × Ecc)} {sp : List DWord} {ls : List LineFind}
include hj hc

theorem effDmaTransferDone_refused : effDmaTransferDone i none po e sp lost ls s = s.finish i .aborted 0 := by
  simp only [effDmaTransferDone, hj, hc]

variable {m : DevMem} {t : State} (hm : s.dmaTarget h da.toNat len.toNat = some m)
  (ht : s.devReady m da.toNat len.toNat ls = some t) (bs : List Byte)
include hm ht

theorem effDmaTransferDone_in (hd : dir = 0) : effDmaTransferDone i (some bs) po e sp lost ls s =
    (t.devWriteEcc m da.toNat len.toNat e ls).dmaIn i m da.toNat len.toNat bs po lost := by
  simp only [effDmaTransferDone, hj, hc, hm, ht, if_pos hd]

theorem effDmaTransferDone_out (hd : dir ≠ 0) : effDmaTransferDone i (some bs) po e sp lost ls s =
    ((t.devFinds m da.toNat len.toNat e ls).devSplits m da.toNat len.toNat sp).dmaOut i h.fn.val ha.toNat m da.toNat len.toNat := by
  simp only [effDmaTransferDone, hj, hc, hm, ht, if_neg hd]

end

/-- Settles O41, access by access. -/
theorem hostAccessResults : Obligations.HostAccessResults := by
  refine ⟨fun s fn h5 => ?_, fun s fn off len e sp ls => ?_, fun s fn off bs p e lost ls => ?_, fun s sx h ha da len dir => ?_,
    fun s i j h ha da len dir m po lost e sp ls t => ?_, fun s m r data since n => ?_⟩
  · exact ⟨congrArg Host.Outcome.next (if_neg h5), congrArg Host.Outcome.next (if_neg h5)⟩
  · intro a h5
    refine ⟨fun m t ht hr => ⟨_, rfl, congrArg Host.Outcome.next (effBar2Read_served h5 ht hr)⟩, fun m ht hr =>
      congrArg Host.Outcome.next (effBar2Read_waits h5 ht hr), fun ht => congrArg Host.Outcome.next (effBar2Read_foreign h5 ht)⟩
  · intro a n h5 hb
    refine ⟨fun m t ht hr => congrArg Host.Outcome.next (effBar2Write_served h5 hb ht hr), fun t ht hr =>
      congrArg Host.Outcome.next ((effBar2Write_served h5 hb ht hr).trans (t.devWrite_bulk ..)), fun m ht hr =>
      congrArg Host.Outcome.next (effBar2Write_waits h5 hb ht hr), fun ht =>
      congrArg Host.Outcome.next (effBar2Write_foreign h5 hb ht)⟩
  · intro hs hr
    have hx : exec (.dma h ha da len dir) s = _ := congrArg Host.Outcome.next (State.hostCmd_of_startsIn hs hr _)
    refine ⟨fun ht => ?_, fun ht => ⟨_, rfl, ?_⟩⟩
    · rw [hx, ht]
    · obtain ⟨m, hm⟩ := Option.isSome_iff_exists.1 ht
      rw [hx, hm]
  · intro a n u k hj hc hm ht
    refine ⟨fun bs hd => congrArg Host.Outcome.next ((effDmaTransferDone_in hj hc hm ht bs hd).trans (State.dmaIn_eq ..)),
      fun bs hd => congrArg Host.Outcome.next (effDmaTransferDone_out hj hc hm ht bs hd),
      congrArg Host.Outcome.next (effDmaTransferDone_refused hj hc)⟩
  · intro c f a hn hm
    refine ⟨fun hcut hto => ?_, fun hcut hto => ?_, fun hcut hto => ?_, fun hcut hto => ?_⟩
    all_goals simp [State.serveHost, hn, hm, hcut, hto, c, f, a]

end Sys2Proof.Machine
end

section
/-!
PROOF. Power states, domains, resets, caps and the thermal ladder (O55).
-/
namespace Sys2Proof.Machine

/-! ### Power states of partitions -/

theorem State.partBusy_of_held_none {s : State} {p state : Nat} (h : (s.qpart p).held = none) : s.partBusy p state = false := by
  simp [State.partBusy, h]

/-- The job of a POWER_STATE, and the partitions it names waiting for it. -/
def State.powerJob (s : State) (h : Hdr) (state : Nat) (cmd : Instr) : State :=
  (s.namedParts h).foldl (fun t p => t.modQPart p (fun q => { q with jobs := q.jobs ++ [s.host.nextJob] }))
    (if (s.namedParts h).any (fun p => s.partHolds p state) then s.deferJob h 0x0601 cmd 0 else s.addJob h 0x0601 cmd 0)

section
variable {s sx : State} {h : Hdr} {state : Nat} {cmd : Instr}
  (hs : startsIn s h ((anySpec 0x0601 false true true).on [(16, 1, state)]) sx)
  (hr : sx.refuses h ((anySpec 0x0601 false true true).on [(16, 1, state)]) true = none) (hsafe : sx.inSafe = false)
  (hheld : ∀ p ∈ sx.namedParts h, (sx.qpart p).held = none)
include hs hr hsafe hheld

theorem State.powerState_of_startsIn (cal : List XCal) :
    s.powerState h state cmd cal = ((if state < 2
      then (sx.namedParts h).foldl (fun t p => t.enableOne sx.host.nextJob p state cal) (sx.powerJob h state cmd).leaveLow
      else (sx.namedParts h).foldl (fun t p => t.disableOne sx.host.nextJob p state)
        (if h.partition = 0xFF then (sx.powerJob h state cmd).enterLow state else sx.powerJob h state cmd)).settleJobs
          [sx.host.nextJob]).unclaim h s.host.nextJob := by
  have hb : ¬ (sx.namedParts h).any (fun p => sx.partBusy p state) = true := by
    simpa using fun p hp => State.partBusy_of_held_none (hheld p hp)
  refine (State.hostCmd_of_startsIn hs hr _).trans ?_
  rw [hsafe]
  dsimp only
  rw [if_neg (by decide), if_neg hb]
  rfl

/-- Run and Idle enable the partitions named, after the device level was left. -/
theorem State.powerState_enable (hst : state < 2) (cal : List XCal) :
    s.powerState h state cmd cal = (((sx.namedParts h).foldl (fun t p => t.enableOne sx.host.nextJob p state cal)
      (sx.powerJob h state cmd).leaveLow).settleJobs [sx.host.nextJob]).unclaim h s.host.nextJob := by
  rw [State.powerState_of_startsIn hs hr hsafe hheld, if_pos hst]

/-- Retain and Dormant disable the partitions named; where all are named, the device enters its level. -/
theorem State.powerState_disable (hst : ¬ state < 2) (cal : List XCal) :
    s.powerState h state cmd cal = (((sx.namedParts h).foldl (fun t p => t.disableOne sx.host.nextJob p state)
      (if h.partition = 0xFF then (sx.powerJob h state cmd).enterLow state else sx.powerJob h state cmd)).settleJobs
        [sx.host.nextJob]).unclaim h s.host.nextJob := by
  rw [State.powerState_of_startsIn hs hr hsafe hheld, if_neg hst]

end

/-! ### Domains -/

/-- DOMAIN_ON or DOMAIN_OFF. -/
def domainCmd (h : Hdr) (d : Byte) (on : Bool) : Instr := if on = true then .domainOn h d else .domainOff h d

theorem exec_domainCmd (h : Hdr) (d : Byte) (on : Bool) (s : State) :
    exec (domainCmd h d on) s = .next (s.domainControl h d.toNat on (domainCmd h d on)) := by
  cases on <;> rfl

/-- What DOMAIN_CONTROL does on a domain none of whose partitions is starting or stopping. -/
def State.domainBody (s : State) (h : Hdr) (n : Nat) (on : Bool) (cmd : Instr) : State :=
  if !(s.domainJobs n on 0).isEmpty then s.complete h 0x0602 .busy 0
  else if !(s.domainJobs n (!on) 0).isEmpty then (s.finishAll (s.domainJobs n (!on) 0) .aborted 0).addJob h 0x0602 cmd 1
  else if s.domainLife n = (if on then .on else .off) then s.complete h 0x0602 .ok 0
  else if s.domainLife n = (if on then .stopping else .starting) then s.deferJob h 0x0602 cmd 0
  else if s.domainLife n = (if on then .off else .on) then
    if s.switchBarred n on then s.complete h 0x0602 .wrongState 0
    else if on then s.addJob h 0x0602 cmd 1
    else (s.addJob h 0x0602 cmd 1).switchDomain n false
  else s.addJob h 0x0602 cmd 1

theorem State.domainControl_of_startsIn {s sx : State} {h : Hdr} {n : Nat} {on : Bool}
    (hs : startsIn s h ((pfOnly 0x0602 false .any).on [(16, 1, n), (17, 1, if on = true then 1 else 0)]) sx)
    (hr : sx.refuses h ((pfOnly 0x0602 false .any).on [(16, 1, n), (17, 1, if on = true then 1 else 0)]) (decide (n < 58)) = none)
    (hp : ∀ p ∈ sx.domainParts n, (sx.qpart p).life ≠ .starting ∧ (sx.qpart p).life ≠ .stopping) (cmd : Instr) :
    s.domainControl h n on cmd = (sx.domainBody h n on cmd).unclaim h s.host.nextJob := by
  have hb : ¬ (sx.domainParts n).any (fun p => decide ((sx.qpart p).life = .starting ∨ (sx.qpart p).life = .stopping)) = true := by
    simpa using hp
  refine (State.hostCmd_of_startsIn hs hr _).trans ?_
  dsimp only
  rw [if_neg hb]
  rfl

section
variable {s : State} {h : Hdr} {n : Nat} {on : Bool} {cmd : Instr}

theorem State.domainBody_held (hsame : s.domainJobs n on 0 ≠ []) : s.domainBody h n on cmd = s.complete h 0x0602 .busy 0 := by
  simp [State.domainBody, hsame]

variable (hsame : s.domainJobs n on 0 = [])
include hsame

theorem State.domainBody_opposite (hother : s.domainJobs n (!on) 0 ≠ []) :
    s.domainBody h n on cmd = (s.finishAll (s.domainJobs n (!on) 0) .aborted 0).addJob h 0x0602 cmd 1 := by
  simp [State.domainBody, hsame, hother]

variable (hother : s.domainJobs n (!on) 0 = [])
include hother

theorem State.domainBody_there (hl : s.domainLife n = if on then .on else .off) :
    s.domainBody h n on cmd = s.complete h 0x0602 .ok 0 := by
  simp [State.domainBody, hsame, hother, hl]

theorem State.domainBody_back (hl : s.domainLife n = if on then .stopping else .starting) :
    s.domainBody h n on cmd = s.deferJob h 0x0602 cmd 0 := by
  rw [State.domainBody, hsame, hother, hl]
  cases on <;> simp

theorem State.domainBody_going (hl : s.domainLife n = if on then .starting else .stopping) :
    s.domainBody h n on cmd = s.addJob h 0x0602 cmd 1 := by
  rw [State.domainBody, hsame, hother, hl]
  cases on <;> simp

theorem State.domainBody_switch (hl : s.domainLife n = if on then .off else .on) :
    s.domainBody h n on cmd = if s.switchBarred n on then s.complete h 0x0602 .wrongState 0
      else if on then s.addJob h 0x0602 cmd 1 else (s.addJob h 0x0602 cmd 1).switchDomain n false := by
  rw [State.domainBody, hsame, hother, hl]
  cases on <;> simp

end

/-! ### The ends of ramps -/

section
variable {s : State} {n : Nat}

theorem State.domainLife_starting (h : s.domainJobs n true 1 ≠ []) : s.domainLife n = .starting := by
  simp [State.domainLife, h]

theorem State.domainLife_stopping (h : s.domainJobs n true 1 = []) (h' : s.domainJobs n false 1 ≠ []) :
    s.domainLife n = .stopping := by
  simp [State.domainLife, h, h']

/-- A domain no command is switching is on or off, and the end of a ramp is nothing to it. -/
theorem effDomainRampDone_of_settled {s : State} {d : BitVec 6} (h : s.domainJobs d.toNat true 1 = [])
    (h' : s.domainJobs d.toNat false 1 = []) : effDomainRampDone d s = s := by
  cases hon : s.domOn d.toNat <;> simp [effDomainRampDone, State.domainLife, h, h', hon]

end

/-! ### Dormant -/

theorem State.fn_foldl_modFn (s : State) (n f : Nat) (g : Fn → Fn) :
    ((List.range n).foldl (fun t i => t.modFn i g) s).fn f = if f < n then g (s.fn f) else s.fn f := by
  induction n with
  | zero => simp
  | succ n ih =>
    rw [List.range_succ, List.foldl_append, List.foldl_cons, List.foldl_nil, State.fn_modFn]
    by_cases hf : f = n
    · subst hf
      simp [ih]
    · rw [if_neg hf, ih]
      exact if_congr (by omega) rfl rfl

/-- The device with its host interface off: every function reset but for its nonce, the Quill stopped (R800). -/
def State.hostInterfaceOff (s : State) : State :=
  let s1 := (List.range 5).foldl (fun t f => t.modFn f (fun x => { Fn.reset with nonce := x.nonce })) s
  let s2 : State := { s1 with
    host := { s1.host with link := { speed := 0, width := 0, l0p := 0, flit := false }, linkKey := none
                           jobs := s1.host.jobs.map (fun e =>
                             (e.1, { e.2 with silent := e.2.silent || decide (e.2.hdr.fn ≠ 5) })) } }
  ((s2.modPower (fun w => { w with on := w.on &&& ~~~BitVec.ofNat 60 (3 * 2 ^ 58) })).modQuill (fun q =>
    { q with running := false })).modIdent (fun d => { d with staged := none })

theorem exec_dormantHostInterfaceOff {s : State} (hlow : s.module_.power.low = 3) (hon : s.domOn 58 = true)
    (hoff : ∀ p, p < 4 → (s.qpart p).life = .off)
    (hjobs : s.host.jobs.all (fun e => match e.2.cmd with | .powerStateDormant _ => false | _ => true) = true) :
    exec .dormantHostInterfaceOff s = .next s.hostInterfaceOff := by
  refine congrArg Host.Outcome.next (if_pos ⟨hlow, by simpa using hoff, ?_, hon⟩)
  rw [Bool.not_eq_true', List.any_eq_false]
  intro e he hw
  have hn := List.all_eq_true.1 hjobs e he
  split at hw
  · simp_all
  · cases hw

theorem State.domOn_hostInterfaceOff {s : State} {n : Nat} (hn : n = 58 ∨ n = 59) : s.hostInterfaceOff.domOn n = false := by
  have : s.hostInterfaceOff.module_.power.on = s.module_.power.on &&& ~~~BitVec.ofNat 60 (3 * 2 ^ 58) := rfl
  rcases hn with rfl | rfl <;> simp [State.domOn, this]

theorem State.fn_hostInterfaceOff (s : State) {f : Nat} (hf : f < 5) :
    s.hostInterfaceOff.fn f = { Fn.reset with nonce := (s.fn f).nonce } :=
  (s.fn_foldl_modFn 5 f (fun x => { Fn.reset with nonce := x.nonce })).trans (if_pos hf)

/-- The cap of the power (R784) is kept per sender: the board controller's or the host's. -/
theorem effSetPowerCap_of_startsIn {s sx : State} {h : Hdr} {w : Half}
    (hs : startsIn s h ((anySpec 0x0604 false true true).on [(16, 2, w.toNat)]) sx)
    (hr : sx.refuses h ((anySpec 0x0604 false true true).on [(16, 2, w.toNat)])
      (decide (w = 0 ∨ (300 ≤ w.toNat ∧ w.toNat ≤ 1350))) = none) :
    effSetPowerCap h w s = ((sx.modPower (fun x => if h.fn = 5 then { x with bcW := w } else { x with hostW := w })).complete h
      0x0604 .ok 0).unclaim h s.host.nextJob :=
  State.hostCmd_of_startsIn hs hr _

/-! ### Heat -/

theorem State.levelStep_same {y : State} {e : Bool}
    (h : thermLevel (y.module_.power.hottestOf (sensorsOf e)).2.toInt = y.module_.power.levelOf e) : y.levelStep e = y :=
  if_pos h

theorem State.levelStep_moved {y : State} {e : Bool} {n : Nat}
    (hn : thermLevel (y.module_.power.hottestOf (sensorsOf e)).2.toInt = n) (h : n ≠ y.module_.power.levelOf e) :
    y.levelStep e = if n = 3 then (y.setLevel e n).emergency e else (y.setLevel e n).postThermal n e 0 := by
  subst hn
  exact if_neg h

/-- The cut follows the levels of the halves and the heat of both (R797). -/
theorem effThermalThrottleStep_eq (s : State) :
    let w := s.module_.power
    let cut := if 2 ≤ w.west ∨ 2 ≤ w.east then min 1350 (w.cut + 50)
      else if w.allBelow false 970 = true ∧ w.allBelow true 970 = true then w.cut - 50 else w.cut
    effThermalThrottleStep s = ((s.modPower (fun w => { w with cut := cut })).throttleSeam false).throttleSeam true := by
  simp only [effThermalThrottleStep, Bool.and_eq_true]

/-- Settles O55, clause by clause: each command and event by the conditions that its state meets. -/
theorem powerCommands : Obligations.PowerCommands := by
  refine ⟨fun s sx h cal => ?_, fun s sx h cal => ?_, fun s sx h => ?_, fun s sx h => ?_, fun s sx h d b => ?_, fun s d => ?_,
    fun s sx h cal => ?_, fun s sx h w => ?_, fun s => ?_, fun s k cal r => ?_, fun s cause us ppb cal => ?_, fun s w => ?_,
    fun s x t => ?_, fun s e cal => ?_⟩
  · exact fun hs hr hsafe hheld => congrArg Host.Outcome.next (State.powerState_enable hs hr hsafe hheld (by decide) cal)
  · exact fun hs hr hsafe hheld => congrArg Host.Outcome.next (State.powerState_enable hs hr hsafe hheld (by decide) cal)
  · exact fun hs hr hsafe hheld => congrArg Host.Outcome.next (State.powerState_disable hs hr hsafe hheld (by decide) [])
  · exact fun hs hr hsafe hheld => congrArg Host.Outcome.next (State.powerState_disable hs hr hsafe hheld (by decide) [])
  · intro n cmd same other hs hr hp
    have hx : exec cmd s = .next ((sx.domainBody h n b cmd).unclaim h s.host.nextJob) :=
      (exec_domainCmd h d b s).trans (congrArg Host.Outcome.next (State.domainControl_of_startsIn hs hr hp _))
    rw [hx]
    refine ⟨fun hsame => ?_, fun hsame hother => ?_, fun hsame hother => ⟨fun hl => ?_, fun hl => ?_, fun hl => ?_, fun hl => ?_⟩⟩
    all_goals refine congrArg (fun u => Host.Outcome.next (State.unclaim u h s.host.nextJob)) ?_
    · exact State.domainBody_held hsame
    · exact State.domainBody_opposite hsame hother
    · exact State.domainBody_there hsame hother hl
    · exact State.domainBody_back hsame hother hl
    · exact State.domainBody_going hsame hother hl
    · exact State.domainBody_switch hsame hother hl
  · intro n
    refine ⟨fun hup => congrArg Host.Outcome.next ?_, fun hup hdown => congrArg Host.Outcome.next ?_, fun hup hdown =>
      congrArg Host.Outcome.next (effDomainRampDone_of_settled hup hdown)⟩
    · simp only [effDomainRampDone, n, State.domainLife_starting hup]
    · simp only [effDomainRampDone, n, State.domainLife_stopping hup hdown]
  · intro p hs hr hp
    refine congrArg Host.Outcome.next ((State.hostCmd_of_startsIn hs hr _).trans ?_)
    dsimp only
    rw [if_neg (not_or.2 hp)]
  · intro hs hr
    have hx := effSetPowerCap_of_startsIn hs hr
    refine ⟨fun h5 => congrArg Host.Outcome.next ?_, fun h5 => congrArg Host.Outcome.next ?_⟩
    · simpa only [h5, if_true] using hx
    · simpa only [h5, if_false] using hx
  · exact fun hlow hon hoff hjobs => ⟨_, exec_dormantHostInterfaceOff hlow hon hoff hjobs, rfl,
      State.domOn_hostInterfaceOff (.inl rfl), State.domOn_hostInterfaceOff (.inr rfl), rfl, fun _ => s.fn_hostInterfaceOff, rfl⟩
  · intro hon htests
    refine ⟨fun c hc hl => congrArg Host.Outcome.next ?_, fun hc => congrArg Host.Outcome.next ?_, congrArg Host.Outcome.next ?_⟩
    · simp [effDomainSupplyFailure, hon, hc, hl]
    · simp [effDomainSupplyFailure, hon, hc]
    · simp [effSupplyOutOfTolerance, htests]
  · intro u ns hon
    refine ⟨fun hh => congrArg Host.Outcome.next ?_, fun hh => ⟨congrArg Host.Outcome.next ?_, congrArg Host.Outcome.next ?_⟩,
      fun hh => congrArg Host.Outcome.next ?_⟩
    · simp only [effReferenceLoss, hh, hon]; rfl
    · simp [effReferenceLoss, hh]
    · simp only [effReferenceRestored, hh]; rfl
    · simp [effReferenceRestored, hh]
  · intro u hrun
    exact ⟨congrArg Host.Outcome.next (if_pos hrun), fun d a cap => rfl⟩
  · intro u hot v hon
    have hx : exec (.thermalSample x t) s = .next (if s.module_.power.tripped then v else if 1250 ≤ t.toInt then v.trip
        else (v.levelStep false).levelStep true) := congrArg Host.Outcome.next (if_neg (by simp [hon]))
    rw [hx]
    refine ⟨fun hh => congrArg Host.Outcome.next (if_pos hh), fun hh ht => congrArg Host.Outcome.next ?_, fun hh ht =>
      congrArg Host.Outcome.next ?_, fun y e => ⟨State.levelStep_same, State.levelStep_moved rfl⟩⟩
    · exact (if_neg (by simp [hh])).trans (if_pos ht)
    · exact (if_neg (by simp [hh])).trans (if_neg (by omega))
  · intro w bit cut may
    refine ⟨congrArg Host.Outcome.next ?_, fun hm => congrArg Host.Outcome.next (if_pos hm), fun hm =>
      congrArg Host.Outcome.next (if_neg hm)⟩
    exact effThermalThrottleStep_eq s

end Sys2Proof.Machine
end

section
/-!
PROOF. What an operation on one core leaves in each core, and what an instruction that is clear to issue does (O3, O8 to O13).
-/
namespace Sys2Proof.Machine

/-! ### One part of a core updated -/

section
variable (s : State) (n m : Nat)

@[simp] theorem State.core_modEng (f : CoreEng → CoreEng) :
    (s.modEng n f).core m = if m = n then { s.core n with eng := f (s.core n).eng } else s.core m := s.core_modCore ..

@[simp] theorem State.core_modErrs (f : CoreErrs → CoreErrs) :
    (s.modErrs n f).core m = if m = n then { s.core n with errs := f (s.core n).errs } else s.core m := s.core_modCore ..

@[simp] theorem State.core_modLocal (f : CoreLs → CoreLs) :
    (s.modLocal n f).core m = if m = n then { s.core n with ls := f (s.core n).ls } else s.core m := s.core_modCore ..

@[simp] theorem State.core_advance (t d : Nat) : (s.advance n t d).core m = if m = n then { s.core n with ctl :=
    { (s.core n).ctl with pc := (s.core n).ctl.pc + 1, cyc := s.after n t d, pastEnd := decide ((s.core n).ctl.pc = 0xFFF) } }
      else s.core m := s.core_modCore ..

@[simp] theorem State.core_meSettle : (s.meSettle n).core m =
    if m = n then { s.core n with eng := s.meFinal n, ls := { (s.core n).ls with run := none } } else s.core m := s.core_modCore ..

end

theorem State.core_congr {s t : State} (h : t.cores = s.cores) (n : Nat) : t.core n = s.core n := by
  rw [State.core, State.core, h]

/-- Cycles are counted by the partitions and the settings of the device. -/
theorem State.after_congr {s t : State} (hp : t.parts = s.parts) (hd : t.dev = s.dev) (n c d : Nat) :
    t.after n c d = s.after n c d := by
  have hrate : t.halfRate (kOf n) = s.halfRate (kOf n) := by simp only [State.halfRate, State.partOf, State.part, hp, hd]
  rw [State.after, State.after, State.strokeLen, State.strokeLen, hrate]

section
variable (s : State) (n m c d : Nat)

@[simp] theorem State.after_modCore (f : Core → Core) : (s.modCore n f).after m c d = s.after m c d :=
  State.after_congr (by simp) (by simp) ..

@[simp] theorem State.after_modEng (f : CoreEng → CoreEng) : (s.modEng n f).after m c d = s.after m c d := s.after_modCore ..

@[simp] theorem State.after_meSettle : (s.meSettle n).after m c d = s.after m c d := s.after_modCore ..

@[simp] theorem State.after_lsTick (t : Nat) : (s.lsTick n t).after m c d = s.after m c d :=
  State.after_congr (by simp) (by simp) ..

end

/-! ### Issue (R148, R149, R166) -/

theorem Core.le_readyAt (c : Core) (p : Plan) (t : Nat) : t ≤ c.readyAt p t := by
  have le_foldl : ∀ (f : Nat → Nat) (l : List Nat) (x : Nat), x ≤ l.foldl (fun m r => max m (f r)) x := fun f l x => by
    induction l generalizing x with
    | nil => exact le_rfl
    | cons r l ih => exact (le_max_left _ _).trans (ih _)
  exact (le_foldl _ _ _).trans ((le_foldl _ _ _).trans (le_max_left _ _))

/-- Where nothing of a core's own happens by a cycle, the core stands there as it stood. -/
theorem State.coreRun_of_quietBy {s : State} {n t : Nat} (h : quietBy s n t = true) {c : Nat} (hc : c ≤ t) :
    s.coreRun n c = s := by
  unfold quietBy at h
  rw [State.coreRun, State.ownFrom]
  cases hn : s.nextOwn n with
  | none => rfl
  | some e =>
    simp only [hn, decide_eq_true_eq] at h
    exact if_pos (hc.trans_lt h)

section
variable {s : State} {n t : Nat} (hq : quietBy s n t = true) (hacc : s.accessErrs n t = []) (hrun : s.runsOn n = true)
  (effect : Nat → State → State)
include hq hacc hrun

/-- What raises no error, beside nothing of the core's own, takes its effect. -/
theorem State.meets_nil : s.meets n t [] effect = effect t s := by
  simp [State.meets, State.coreRun_of_quietBy hq le_rfl, hacc, hrun, lowestErr]

/-- What raises an error, beside nothing of the core's own, raises it with no other effect. -/
theorem State.meets_singleton (e : CoreError) : s.meets n t [e] effect = (s.coreErrorIn n t e).spent n t := by
  simp [State.meets, State.coreRun_of_quietBy hq le_rfl, hacc, hrun, lowestErr]

end

theorem State.runsOn_of_canIssue {s : State} {n : Nat} (h : s.canIssue n = true) : s.runsOn n = true := by
  simp only [State.canIssue, Bool.and_eq_true, Bool.or_eq_true, beq_iff_eq] at h
  obtain ⟨⟨⟨⟨hst, hctx⟩, -⟩, -⟩, -⟩ := h
  rcases hst with hst | hst <;> simpa [State.runsOn, hst] using hctx

section
variable {s : State} {a : Issue} {p : Plan} (h : clearToIssue s a p = true)
include h

theorem clearToIssue_parts : s.canIssue a.core = true ∧ s.cycleDue a.core (issueCycle s a.core p) = true ∧
    quietBy s a.core (issueCycle s a.core p) = true ∧ s.accessErrs a.core (issueCycle s a.core p) = [] ∧ a.fetch = .ok ∧
    a.sregParity = false ∧ (s.core a.core).ctl.pastEnd = false ∧
    ((s.core a.core).ctl.st = .ruled → issueCycle s a.core p = s.issueBase a.core) := by
  simp only [clearToIssue, Bool.and_eq_true, Bool.or_eq_true, decide_eq_true_eq, List.isEmpty_iff, Bool.not_eq_true'] at h
  obtain ⟨⟨⟨⟨⟨⟨⟨hcan, hdue⟩, hquiet⟩, hacc⟩, hfetch⟩, hpar⟩, hend⟩, hruled⟩ := h
  exact ⟨hcan, hdue, hquiet, hacc, hfetch, hpar, hend, fun hst =>
    le_antisymm (hruled.resolve_left (not_not_intro hst)) (Core.le_readyAt ..)⟩

theorem issueAt_of_clear : s.issueAt a.core p = issueCycle s a.core p := by
  obtain ⟨-, -, -, -, -, -, -, hruled⟩ := clearToIssue_parts h
  rw [State.issueAt]
  split
  · exact (hruled ‹_›).symm
  · rfl

/-- An instruction that is clear to issue meets its cycle with the errors that its own rules raise. -/
theorem State.issue_of_clear (l : List CoreError) (effect : Nat → State → State) :
    s.issue a { p with errs := l } effect =
      s.meets a.core (issueCycle s a.core p) ((s.core a.core).judged { p with errs := l } (s.issueBase a.core)) effect := by
  obtain ⟨hcan, hdue, hquiet, -, hfetch, hpar, hend, hruled⟩ := clearToIssue_parts h
  have hat : s.issueAt a.core { p with errs := l } = issueCycle s a.core p := issueAt_of_clear h
  have hready : (s.core a.core).readyAt { p with errs := l } (s.issueBase a.core) = issueCycle s a.core p := rfl
  have hstall : ¬((s.core a.core).ctl.st = .ruled ∧ s.issueBase a.core < issueCycle s a.core p) := fun ⟨hst, hlt⟩ =>
    hlt.ne' (hruled hst)
  simp only [State.issue, hcan, hat, hdue, State.coreRun_of_quietBy hquiet (Nat.sub_le _ _), hfetch, State.countFetch,
    State.issueErrs, hpar, hend, hready, if_neg hstall, if_true, Bool.false_and, Bool.false_eq_true, if_false, reduceCtorEq,
    List.nil_append, List.append_nil]

end

section
variable {s : State} {a : Issue} {rs vs : List Nat} {u : Unit_} (h : clearToIssue s a (needs rs vs u) = true)
  {l : List CoreError}
include h

/-- An instruction that is clear to issue and breaks no rule takes its effect in the cycle of its issue. -/
theorem State.issue_effect (hl : l = []) (effect : Nat → State → State) :
    s.issue a { reads := rs, vreads := vs, unit := u, errs := l } effect = effect (issueCycle s a.core (needs rs vs u)) s := by
  obtain ⟨hcan, -, hquiet, hacc, -⟩ := clearToIssue_parts h
  have hj : (s.core a.core).judged (needs rs vs u) (s.issueBase a.core) = [] := ite_self _
  subst hl
  refine (State.issue_of_clear h [] effect).trans ?_
  rw [show { needs rs vs u with errs := [] } = needs rs vs u from rfl, hj,
    State.meets_nil hquiet hacc (State.runsOn_of_canIssue hcan)]

/-- An instruction of a free section that is clear to issue and breaks one rule raises its error. -/
theorem State.issue_error (hst : (s.core a.core).ctl.st = .free) {e : CoreError} (hl : l = [e])
    (effect : Nat → State → State) :
    let t := issueCycle s a.core (needs rs vs u)
    s.issue a { reads := rs, vreads := vs, unit := u, errs := l } effect = (s.coreErrorIn a.core t e).spent a.core t := by
  obtain ⟨hcan, -, hquiet, hacc, -⟩ := clearToIssue_parts h
  have hj : (s.core a.core).judged { needs rs vs u with errs := l } (s.issueBase a.core) = [e] := by simp [Core.judged, hst, hl]
  refine (State.issue_of_clear h l effect).trans ?_
  rw [hj, State.meets_singleton hquiet hacc (State.runsOn_of_canIssue hcan)]

end

end Sys2Proof.Machine
end

section
/-!
PROOF. The bytes and blots of the storage, and the writes of a core's local store once all are made (O28, O3).
-/
namespace Sys2Proof.Machine

/-! ### Bytes in little-endian order -/

@[simp] theorem length_toLe (v n : Nat) : (toLe v n).length = n := by simp [toLe]

theorem getD_toLe {v n i : Nat} (h : i < n) : (toLe v n).getD i 0 = BitVec.ofNat 8 (v >>> (8 * i)) := by
  simp [toLe, List.getD_eq_getElem?_getD, h]

/-! ### A write within a unit (R116) -/

theorem Store.byte_writeUnit (m : Store) (a b : Nat) (bs : List Byte) (blot : Bool) :
    (m.writeUnit a bs blot).byte b = if a ≤ b ∧ b < a + bs.length then bs.getD (b - a) 0 else m.byte b :=
  Memory.read_writeBytes ..

theorem Store.blotAt_writeUnit (m : Store) (a b : Nat) (bs : List Byte) (blot : Bool) :
    (m.writeUnit a bs blot).blotAt b =
      if a / 32 = b / 32 then blot || (m.blotAt a && decide (bs.length < 32)) else m.blotAt b := Units.has_put ..

/-! ### Writes made in order (R134) -/

/-- The bytes of some writes are those of one write after the other. -/
theorem Store.mem_makeWrites (base : Nat) (ws : List LsWrite) (m0 m : Store) (done : List LsWrite) :
    (Store.makeWrites base m0 m done ws).mem = ws.foldl (fun x w => Memory.writeBytes x (base + w.addr) w.bytes) m.mem := by
  induction ws generalizing m0 m done with
  | nil => rfl
  | cons w r ih => exact ih ..

@[simp] theorem Store.fills_makeWrites (base : Nat) (ws : List LsWrite) (m0 m : Store) (done : List LsWrite) :
    (Store.makeWrites base m0 m done ws).fills = m.fills := by
  induction ws generalizing m0 m done with
  | nil => rfl
  | cons w r ih => exact ih ..

/-- The blots of writes of whole units are those of one write after the other. -/
theorem Store.blots_makeWrites_whole (base : Nat) (ws : List LsWrite) (h : ∀ w ∈ ws, w.bytes.length = 32) (m0 m : Store)
    (done : List LsWrite) : (Store.makeWrites base m0 m done ws).blots =
      ws.foldl (fun x w => Units.put x ((base + w.addr) / 32) w.blot) m.blots := by
  induction ws generalizing m0 m done with
  | nil => rfl
  | cons w r ih =>
    rw [Store.makeWrites, ih fun x hx => h x (List.mem_cons_of_mem _ hx)]
    simp [LsWrite.leaves, h w List.mem_cons_self]

/-- Where the first write to come is of a cycle of none made before, the writes to come are made in a store of their own. -/
theorem Store.makeWrites_fresh (base : Nat) (ws : List LsWrite) (m0 m : Store) (done : List LsWrite)
    (h : ∀ w ∈ ws.head?, ∀ e ∈ done, e.cycle ≠ w.cycle) :
    Store.makeWrites base m0 m done ws = Store.makeWrites base m m [] ws := by
  cases ws with
  | nil => rfl
  | cons w r =>
    have hsame : (done.any fun e => decide (e.cycle = w.cycle)) = false := by simpa using h w rfl
    simp [Store.makeWrites, hsame]

/-- Writes are made in two parts where the first of the second part is of a cycle of none of the first. -/
theorem Store.makeWrites_append (base : Nat) (l r : List LsWrite) (m0 m : Store) (done : List LsWrite)
    (h : ∀ w ∈ r.head?, ∀ e ∈ done ++ l, e.cycle ≠ w.cycle) :
    Store.makeWrites base m0 m done (l ++ r) =
      Store.makeWrites base (Store.makeWrites base m0 m done l) (Store.makeWrites base m0 m done l) [] r := by
  induction l generalizing m0 m done with
  | nil => exact Store.makeWrites_fresh _ _ _ _ _ (by simpa using h)
  | cons x l ih =>
    refine ih _ _ _ fun w hw e he => h w hw e ?_
    split at he
    · simpa using he
    · simp only [List.nil_append, List.singleton_append] at he
      exact List.mem_append_right _ he

/-- A write whose cycle comes after those of a list goes to its end. -/
theorem LsWrite.into_of_later (w : LsWrite) (l : List LsWrite) (h : ∀ e ∈ l, e.before w = true) : w.into l = l ++ [w] := by
  induction l with
  | nil => rfl
  | cons e r ih =>
    rw [LsWrite.into, if_pos (h e List.mem_cons_self), ih fun x hx => h x (List.mem_cons_of_mem _ hx), List.cons_append]

theorem LsWrite.mem_into (w : LsWrite) (l : List LsWrite) : w ∈ w.into l := by
  induction l with
  | nil => exact List.mem_singleton.2 rfl
  | cons e r ih =>
    unfold LsWrite.into
    split
    · exact List.mem_cons_of_mem _ ih
    · exact List.mem_cons_self

/-- A byte outside a write reads the same whether the write is made among others or not. -/
theorem Memory.read_foldl_into (base : Nat) (w : LsWrite) {b : Nat} (hb : ¬(base + w.addr ≤ b ∧ b < base + w.addr + w.bytes.length))
    (l : List LsWrite) (x y : List Host.Cell) (h : Memory.read x b = Memory.read y b) :
    Memory.read ((w.into l).foldl (fun x w => Memory.writeBytes x (base + w.addr) w.bytes) x) b =
      Memory.read (l.foldl (fun x w => Memory.writeBytes x (base + w.addr) w.bytes) y) b := by
  have foldl_congr : ∀ (l : List LsWrite) (x y : List Host.Cell), Memory.read x b = Memory.read y b →
      Memory.read (l.foldl (fun x w => Memory.writeBytes x (base + w.addr) w.bytes) x) b =
        Memory.read (l.foldl (fun x w => Memory.writeBytes x (base + w.addr) w.bytes) y) b := fun l => by
    induction l with
    | nil => exact fun _ _ h => h
    | cons e r ih => exact fun x y h => ih _ _ (by rw [Memory.read_writeBytes, Memory.read_writeBytes, h])
  induction l generalizing x y with
  | nil => rw [LsWrite.into, List.foldl_cons, List.foldl_nil, Memory.read_writeBytes, if_neg hb]; exact h
  | cons e r ih =>
    unfold LsWrite.into
    split
    · exact ih _ _ (by rw [Memory.read_writeBytes, Memory.read_writeBytes, h])
    · exact foldl_congr (e :: r) _ _ (by rw [Memory.read_writeBytes, if_neg hb, h])

/-! ### The local store of a core -/

/-- The cycle before which `State.lsTick` makes the writes of a core in its cycle c: no read to come can miss them. -/
def Core.settledBefore (x : Core) (c : Nat) : Nat :=
  let c1 := match x.te.xfer with | some t => min c t.cycle | none => c
  let c2 := match x.te.desc with | some d => min c1 d.issued | none => c1
  match x.ls.run with | some r => min c2 r.start | none => c2

section
variable (s : State) (n c : Nat)

/-- The writes of a core that are made by `State.lsTick`, and those still under way then. -/
theorem State.lsTick_eq :
    let early := fun w : LsWrite => decide (w.cycle < (s.core n).settledBefore c)
    (s.lsTick n c).store = s.store.makeWrites (lsBase n) s.store [] ((s.core n).ls.flight.takeWhile early) ∧
    (s.lsTick n c).core n =
      { s.core n with ls := { (s.core n).ls with flight := (s.core n).ls.flight.dropWhile early } } ∧
    ∀ m, m ≠ n → (s.lsTick n c).core m = s.core m := by
  intro early
  by_cases h : (s.core n).ls.flight.takeWhile early = []
  · have hs : s.lsTick n c = s := if_pos (List.isEmpty_iff.2 h)
    have hd : (s.core n).ls.flight.dropWhile early = (s.core n).ls.flight := by
      simpa [h] using List.takeWhile_append_dropWhile (p := early) (l := (s.core n).ls.flight)
    exact ⟨by rw [hs, h]; rfl, by rw [hs, hd], fun m _ => by rw [hs]⟩
  · have hs : s.lsTick n c = _ := if_neg (mt List.isEmpty_iff.1 h)
    rw [hs]
    exact ⟨rfl, (State.core_modLocal ..).trans (if_pos rfl), fun m hm => (State.core_modLocal ..).trans (if_neg hm)⟩

/-- Making writes early leaves the store with all of them made as it was. -/
theorem State.lsFinal_lsTick : (s.lsTick n c).lsFinal n = s.lsFinal n := by
  obtain ⟨hstore, hcore, -⟩ := s.lsTick_eq n c
  rw [State.lsFinal, hstore, hcore, State.lsFinal]
  dsimp only
  conv_rhs => rw [← List.takeWhile_append_dropWhile (p := fun w : LsWrite => decide (w.cycle < (s.core n).settledBefore c))
    (l := (s.core n).ls.flight)]
  refine (Store.makeWrites_append _ _ _ _ _ _ fun w hw e he => ?_).symm
  have hlate : ¬(w.cycle < (s.core n).settledBefore c) := by
    have := List.head?_dropWhile_not (fun w : LsWrite => decide (w.cycle < (s.core n).settledBefore c)) (s.core n).ls.flight
    rw [Option.mem_def.1 hw] at this
    simpa using this
  have hearly : e.cycle < (s.core n).settledBefore c := by simpa using List.mem_takeWhile_imp he
  omega

theorem State.mem_flight_lsTick {w : LsWrite} (h : w ∈ ((s.lsTick n c).core n).ls.flight) : w ∈ (s.core n).ls.flight := by
  obtain ⟨-, hcore, -⟩ := s.lsTick_eq n c
  rw [hcore] at h
  exact List.dropWhile_subset _ h

end

section
variable (s : State) (n m cycle port addr : Nat) (bytes : List Byte) (blot : Bool)

@[simp] theorem State.core_lsPut : (s.lsPut n cycle port addr bytes blot).core m =
    if m = n then { s.core n with
      ls := { (s.core n).ls with flight := LsWrite.into ⟨cycle, port, addr, bytes, blot⟩ (s.core n).ls.flight } }
    else s.core m := s.core_modCore ..

/-- A further write leaves every byte outside it as it would be without that write. -/
theorem State.byte_lsFinal_lsPut {b : Nat} (hb : ¬(lsBase n + addr ≤ b ∧ b < lsBase n + addr + bytes.length)) :
    ((s.lsPut n cycle port addr bytes blot).lsFinal n).byte b = (s.lsFinal n).byte b := by
  simp only [State.lsFinal, Store.byte, Store.mem_makeWrites, State.core_lsPut, if_true,
    (State.lsPut_frame s n cycle port addr bytes blot).2.2.2.2.1]
  exact Memory.read_foldl_into _ ⟨cycle, port, addr, bytes, blot⟩ hb _ _ _ rfl

end

/-- The store with all writes made depends on the storage and on the writes under way. -/
theorem State.lsFinal_congr {s t : State} {n : Nat} (hs : t.store = s.store) (hf : (t.core n).ls.flight = (s.core n).ls.flight) :
    t.lsFinal n = s.lsFinal n := by
  rw [State.lsFinal, State.lsFinal, hs, hf]

/-- What a read sees depends on the storage and on the writes under way. -/
theorem State.lsView_congr {s t : State} {n : Nat} (hs : t.store = s.store) (hf : (t.core n).ls.flight = (s.core n).ls.flight)
    (c : Nat) : t.lsView n c = s.lsView n c := by
  simp only [State.lsView, hs, hf]

/-- Settles O28: a write within a unit writes its bytes and leaves the unit's blot by R116. -/
theorem unitWrite : Obligations.UnitWrite := by
  intro m a bs blot hin t
  refine ⟨?_, fun b hb => ⟨?_, ?_⟩, fun i hi => ?_, fun b hb => ?_, rfl⟩
  · exact (Store.blotAt_writeUnit ..).trans (if_pos rfl)
  · exact (Store.blotAt_writeUnit ..).trans (if_neg (Ne.symm hb))
  · exact (Store.byte_writeUnit ..).trans (if_neg (by omega))
  · exact (Store.byte_writeUnit ..).trans ((if_pos (by omega)).trans (by rw [Nat.add_sub_cancel_left]))
  · exact (Store.byte_writeUnit ..).trans (if_neg (by omega))

end Sys2Proof.Machine
end

section
/-!
PROOF. Stores to the own local store (O3).
-/
namespace Sys2Proof.Machine

/-! ### Operands that break no rule (R146, R164) -/

theorem lsErrs_eq_nil {x size : Nat} (hx : x < 0x40000) (ha : x % size = 0) : lsErrs x size = [] := by
  simp [lsErrs, lsSize, ha, Nat.not_le.2 hx]

theorem CoreRegs.blotErr_singleton {r : CoreRegs} {k : Nat} (h : r.sb k = false) (d : Nat) : r.blotErr [k] d = [] := by
  simp [CoreRegs.blotErr, h]

/-! ### Writes that come last -/

/-- Writes that come after all under way, the first in a cycle of none of them, are made in the store with all those made. -/
theorem State.lsFinal_of_flight_append {s t : State} {n : Nat} {r : List LsWrite} (hs : t.store = s.store)
    (hf : (t.core n).ls.flight = (s.core n).ls.flight ++ r)
    (h : ∀ w ∈ r.head?, ∀ e ∈ (s.core n).ls.flight, e.cycle ≠ w.cycle) :
    t.lsFinal n = Store.makeWrites (lsBase n) (s.lsFinal n) (s.lsFinal n) [] r := by
  rw [State.lsFinal, hs, hf]
  exact Store.makeWrites_append _ _ _ _ _ _ h

theorem Store.blotAt_makeWrites_singleton (base b : Nat) (m : Store) (w : LsWrite) :
    (Store.makeWrites base m m [] [w]).blotAt b = if (base + w.addr) / 32 = b / 32 then w.leaves (m.blotAt (base + w.addr))
      else m.blotAt b := Units.has_put ..

theorem LsWrite.before_of_lt {e w : LsWrite} (h : e.cycle < w.cycle) : e.before w = true := by simp [LsWrite.before, h]

/-! ### STW -/

/-- STW, clear to issue with a good operand, puts its word under way and goes on. -/
theorem exec_stw {s : State} {a : Issue} {rd rs1 : BitVec 6} {imm : BitVec 14}
    (h : clearToIssue s a (needs [rs1.toNat, rd.toNat] [] .scalar) = true) (hb : (s.core a.core).regs.sb rs1.toNat = false)
    (hlim : (s.core a.core).regs.lsAddr rs1 imm < 0x40000) (hal : (s.core a.core).regs.lsAddr rs1 imm % 4 = 0) :
    let n := a.core.val
    let t := issueCycle s n (needs [rs1.toNat, rd.toNat] [] .scalar)
    exec (.stw a rd rs1 imm) s = .next (((s.lsTick n t).lsStore n t 1 1 ((s.core n).regs.lsAddr rs1 imm)
      (toLe ((s.core n).regs.s rd.toNat).toNat 4) ((s.core n).regs.sb rd.toNat)).advance n t 1) := by
  have herr : lsErrs ((s.core a.core).regs.lsAddr rs1 imm) 4 ++ (s.core a.core).regs.blotErr (regs [rs1]) 0 = [] := by
    rw [lsErrs_eq_nil hlim hal, List.nil_append]
    exact CoreRegs.blotErr_singleton hb 0
  exact congrArg Host.Outcome.next (@State.issue_effect _ _ _ _ _ h _ herr _)

/-- A core that goes on at the next instruction, its control otherwise as in s. -/
theorem goesTo_advance {s u : State} {n : Nat} (h : (u.core n).ctl = (s.core n).ctl) (t d : Nat) :
    goesTo s (u.advance n t d) n (nextPc s n) :=
  ⟨u.after n t d, decide ((s.core n).ctl.pc = 0xFFF), (s.core n).ctl.sready, by simp [h, nextPc]⟩

/-- Settles O3: the word is the last of the writes under way, made in the store with all others made. -/
theorem storeWordFrame : Obligations.StoreWordFrame := by
  intro s a rd rs1 imm n ad v p c hclear hb hlim hal
  let t0 := issueCycle s n p
  let u := s.lsTick n t0
  let w : LsWrite := { cycle := c, port := 1, addr := ad, bytes := toLe v.toNat 4, blot := (s.core n).regs.sb rd.toNat }
  obtain ⟨hstore, hcore, hother⟩ := s.lsTick_eq n t0
  have hx : exec (.stw a rd rs1 imm) s = .next ((u.lsPut n c 1 ad (toLe v.toNat 4) w.blot).advance n t0 1) := by
    rw [show c = u.after n t0 1 from (s.after_lsTick ..).symm]
    exact exec_stw hclear hb hlim hal
  have hflight : (((u.lsPut n c 1 ad (toLe v.toNat 4) w.blot).advance n t0 1).core n).ls.flight = w.into (u.core n).ls.flight := by
    simp [w]
  refine ⟨_, hx, ?_, goesTo_advance ?_ _ _, fun m hm => ?_, ?_, ?_, ?_, ?_, ?_, fun hlast => ?_⟩
  · simp [u, hcore]
  · simp [u, hcore]
  · simp [u, hm, hother]
  · simp [u, hcore]
  · simp [u, hcore]
  · simp [u, hstore]
  · exact keepsBut_of_allSame (show OnlyCoresStore _ _ by simp [u])
  · rw [hflight]
    exact w.mem_into _
  · have hlater : ∀ e ∈ (u.core n).ls.flight, e.cycle < c := fun e he => hlast e (s.mem_flight_lsTick n _ he)
    have hfinal := State.lsFinal_of_flight_append (s := u) (r := [w]) (by simp)
      (hflight.trans (w.into_of_later _ fun e he => LsWrite.before_of_lt (hlater e he)))
      (by simpa [w] using fun e he => (hlater e he).ne)
    rw [hfinal, State.lsFinal_lsTick]
    refine ⟨fun b => ?_, fun b => ?_⟩
    · rw [Store.byte, Store.mem_makeWrites, List.foldl_cons, List.foldl_nil, Memory.read_writeBytes, length_toLe]
      split
      · exact getD_toLe (by omega)
      · rfl
    · rw [Store.blotAt_makeWrites_singleton]
      by_cases hu : b / 32 = (lsBase n + ad) / 32
      · rw [if_pos hu.symm, show (s.lsFinal n).blotAt (lsBase n + w.addr) = (s.lsFinal n).blotAt b from
          congrArg (Units.has _) hu.symm]
        simp [LsWrite.leaves, w, hu, Bool.or_comm]
      · rw [if_neg (Ne.symm hu)]
        simp [hu]

end Sys2Proof.Machine
end

section
/-!
PROOF. First-error registers (O29), storage after reset (O26), accumulator records (O14).
-/
namespace Sys2Proof.Machine

/-! ### First-error registers (R124) -/

theorem ErrReg.write_keeps {r : ErrReg} {v : Word} (h : v.getLsbD 31 = false) :
    (r.write v).fields = r.fields ∧ (r.write v).addr = r.addr ∧ (r.write v).pc = r.pc ∧ (r.write v).valid = r.valid := by
  unfold ErrReg.write
  rw [h]
  cases v.getLsbD 30 <;> exact ⟨rfl, rfl, rfl, rfl⟩

theorem ErrReg.write_clears {r : ErrReg} {v : Word} (h : v.getLsbD 31 = true) :
    (r.write v).fields = 0 ∧ (r.write v).addr = 0 ∧ (r.write v).pc = 0 ∧ (r.write v).valid = false := by
  unfold ErrReg.write
  rw [h]
  cases v.getLsbD 30 <;> exact ⟨rfl, rfl, rfl, rfl⟩

theorem ErrReg.write_multi (r : ErrReg) (v : Word) : (r.write v).multi = (r.multi && !v.getLsbD 30) := by
  unfold ErrReg.write
  cases v.getLsbD 31 <;> cases v.getLsbD 30 <;> simp

/-- VALID and MULTI read above fields of less than 30 bits. -/
theorem ErrReg.read_bits {r : ErrReg} (h : r.fields.toNat < 2 ^ 30) :
    r.read.getLsbD 31 = r.valid ∧ r.read.getLsbD 30 = r.multi ∧ r.read.setWidth 30 = r.fields.setWidth 30 := by
  have h30 : r.fields[30] = false := Nat.testBit_lt_two_pow h
  have h31 : r.fields[31] = false := Nat.testBit_lt_two_pow (h.trans (by norm_num))
  unfold ErrReg.read
  cases r.valid <;> cases r.multi <;> simp [h30, h31, BitVec.setWidth_or]

/-- Settles O29: by whether something is recorded, and by the bits of the write. -/
theorem firstErrorRegisters : Obligations.FirstErrorRegisters := by
  intro r f a p v
  refine ⟨fun h => if_neg (by simp [h]), fun h => if_pos h, ?_, r.write_multi v, fun h => ?_, fun h => ?_, ErrReg.read_bits⟩
  · cases h : v.getLsbD 31
    · simp [ErrReg.write_keeps h]
    · simp [ErrReg.write_clears h]
  · obtain ⟨hf, ha, hp, -⟩ := ErrReg.write_clears (r := r) h
    exact ⟨hf, ha, hp⟩
  · obtain ⟨hf, ha, hp, -⟩ := ErrReg.write_keeps (r := r) h
    exact ⟨hf, ha, hp⟩

/-! ### Reset -/

/-- Settles O26: the storage of the reset state lists nothing. -/
theorem storageAtReset : Obligations.StorageAtReset := ⟨Store.wf_reset, fun _ => rfl, fun _ => rfl, rfl, rfl⟩

/-! ### Accumulator records (R95, R96) -/

/-- The value of the n bytes of a number is its remainder. -/
theorem leNat_toLe (v n : Nat) : leNat (toLe v n) = v % 256 ^ n := by
  induction n generalizing v with
  | zero => simp [toLe, leNat, Nat.mod_one]
  | succ n ih =>
    have hcons : toLe v (n + 1) = BitVec.ofNat 8 v :: toLe (v / 256) n := by
      simp only [toLe, List.range_succ_eq_map, List.map_cons, List.map_map, Nat.mul_zero, Nat.shiftRight_zero, List.cons.injEq,
        true_and]
      refine List.map_congr_left fun i _ => ?_
      simp only [Function.comp_apply, Nat.shiftRight_eq_div_pow, Nat.div_div_eq_div_mul, Nat.succ_eq_add_one, Nat.mul_add,
        pow_add, Nat.mul_comm 256, Nat.mul_one, show (2 : Nat) ^ 8 = 256 from rfl]
    rw [hcons, leNat, ih, BitVec.toNat_ofNat, show (2 : Nat) ^ 8 = 256 from rfl, pow_succ', Nat.mod_mul]

/-- A store that holds the bytes of a value gives it back. -/
theorem Store.leNat_bytes {m : Store} {x n w : Nat} {v : BitVec w} (hw : w = 8 * n)
    (h : ∀ i, i < n → m.byte (x + i) = BitVec.ofNat 8 (v.toNat >>> (8 * i))) : leNat (m.bytes x n) = v.toNat := by
  have hb : m.bytes x n = toLe v.toNat n := List.map_congr_left fun i hi => h i (List.mem_range.1 hi)
  have hlt : v.toNat < 256 ^ n := by
    rw [show 256 = 2 ^ 8 from rfl, ← pow_mul, ← hw]
    exact v.isLt
  rw [hb, leNat_toLe, Nat.mod_eq_of_lt hlt]

/-- The flag byte of a record (R95). -/
def recordFlags (special : Special) (inexact overflow blot : Bool) : Nat :=
  (if inexact then 1 else 0) + (if overflow then 2 else 0) + (if blot then 4 else 0) + 8 * special.code

/-- The flag byte gives back each flag and the special state. -/
theorem recordFlags_decodes (special : Special) : ∀ inexact overflow blot : Bool,
    let f := recordFlags special inexact overflow blot
    f < 256 ∧ specialOf (f / 8) = special ∧ decide (f % 2 = 1) = inexact ∧ decide (f / 2 % 2 = 1) = overflow ∧
      decide (f / 4 % 2 = 1) = blot := by
  cases special <;> decide

/-- The bytes of a record by place: T, ANCHOR, the flag byte, N. -/
theorem Acc.getD_image (a : Acc) (anchor : Int) {i : Nat} (hi : i < 32) : (a.image anchor).getD i 0 =
    if i < 20 then BitVec.ofNat 8 (a.t.toNat >>> (8 * i))
    else if i < 22 then BitVec.ofNat 8 ((BitVec.ofInt 16 anchor).toNat >>> (8 * (i - 20)))
    else if i < 23 then BitVec.ofNat 8 (recordFlags a.special a.inexact a.overflow a.blot >>> (8 * (i - 22)))
    else if 24 ≤ i ∧ i < 28 then BitVec.ofNat 8 (a.n.toNat >>> (8 * (i - 24))) else 0 := by
  simp only [Acc.image, block, List.getD_eq_getElem?_getD, List.getElem?_map, List.getElem?_range hi, Option.map_some,
    Option.getD_some, List.foldl_cons, List.foldl_nil, recordFlags]
  split_ifs <;> try rfl
  all_goals omega

section
variable {m : Store} {x : Nat} {a : Acc} {anchor : Int} (h : ∀ i, i < 32 → m.byte (x + i) = (a.image anchor).getD i 0)
include h

theorem Store.recAnchor_image (hlo : -512 ≤ anchor) (hhi : anchor ≤ 511) : m.recAnchor x = anchor := by
  have hv : leNat (m.bytes (x + 20) 2) = (BitVec.ofInt 16 anchor).toNat := Store.leNat_bytes rfl fun i hi => by
    rw [Nat.add_assoc, h _ (by omega), Acc.getD_image _ _ (by omega), if_neg (by omega), if_pos (by omega),
      Nat.add_sub_cancel_left]
  rw [Store.recAnchor, hv, BitVec.ofNat_toNat, BitVec.setWidth_eq]
  exact BitVec.toInt_ofInt_eq_self (by norm_num) (by norm_num; omega) (by norm_num; omega)

theorem Store.recAcc_image (hblot : m.blotAt x = a.blot) : m.recAcc x = a := by
  have ht : leNat (m.bytes x 20) = a.t.toNat := Store.leNat_bytes rfl fun i hi => by
    rw [h _ (by omega), Acc.getD_image _ _ (by omega), if_pos hi]
  have hn : leNat (m.bytes (x + 24) 4) = a.n.toNat := Store.leNat_bytes rfl fun i hi => by
    rw [Nat.add_assoc, h _ (by omega), Acc.getD_image _ _ (by omega), if_neg (by omega), if_neg (by omega), if_neg (by omega),
      if_pos (by omega), Nat.add_sub_cancel_left]
  obtain ⟨hlt, hspecial, hinexact, hoverflow, hflag⟩ :=
    recordFlags_decodes a.special a.inexact a.overflow a.blot
  have hf : (m.byte (x + 22)).toNat = recordFlags a.special a.inexact a.overflow a.blot := by
    rw [h _ (by omega), Acc.getD_image _ _ (by omega), if_neg (by omega), if_neg (by omega), if_pos (by omega)]
    exact Nat.mod_eq_of_lt hlt
  simp only [Store.recAcc, ht, hn, hf, hspecial, hinexact, hoverflow, hflag, hblot, Bool.or_self, BitVec.ofNat_toNat,
    BitVec.setWidth_eq]

end

/-- Settles O14: each field of the record gives back what it was made of. -/
theorem accumulatorRecord : Obligations.AccumulatorRecord := fun _ _ _ _ _ hlo hhi h hblot =>
  ⟨Store.recAcc_image h hblot, Store.recAnchor_image h hlo hhi⟩

end Sys2Proof.Machine
end

section
/-!
PROOF. Core errors: what a core that stops keeps, what its engines had not written, and the record (O8).
-/
namespace Sys2Proof.Machine

/-! ### Tables written entry after entry -/

/-- Reading a table after a run of entries was updated, each from the entry it replaces. -/
theorem Tbl.get_foldl_set {α : Type} (d : α) (base k : Nat) (g : Nat → α → α) (t : Tbl α) (j : Nat) :
    ((List.range k).foldl (fun u i => u.set (base + i) (g i (u.get d (base + i)))) t).get d j =
      if base ≤ j ∧ j < base + k then g (j - base) (t.get d j) else t.get d j := by
  induction k with
  | zero => exact (if_neg (by omega)).symm
  | succ k ih =>
    rw [List.range_succ, List.foldl_append, List.foldl_cons, List.foldl_nil, Tbl.get_set]
    by_cases hj : j = base + k
    · have hget : Tbl.get ((List.range k).foldl (fun u i => u.set (base + i) (g i (u.get d (base + i)))) t) d (base + k) =
          Tbl.get t d (base + k) := by
        rw [← hj, ih, if_neg (by omega)]
      rw [if_pos hj, if_pos (by omega), hget, hj, Nat.add_sub_cancel_left]
    · rw [if_neg hj, ih]
      exact if_congr (by omega) rfl rfl

/-- Reading a table after a run of entries was replaced. -/
theorem Tbl.get_foldl_set_const {α : Type} (d : α) (base k : Nat) (f : Nat → α) (t : Tbl α) (j : Nat) :
    ((List.range k).foldl (fun u i => u.set (base + i) (f i)) t).get d j =
      if base ≤ j ∧ j < base + k then f (j - base) else t.get d j := Tbl.get_foldl_set d base k (fun i _ => f i) t j

/-! ### The lanes of a vector register (R115) -/

theorem CoreRegs.setLanes_eq (r : CoreRegs) (v : Nat) (f : Nat → Word) (b : Nat → Bool) : r.setLanes v f b =
    { r with vreg := (List.range 32).foldl (fun t l => t.set (32 * v + l) (f l)) r.vreg
             vblot := (List.range 32).foldl (fun t l => t.set (32 * v + l) (b l)) r.vblot } := by
  have fold : ∀ (l : List Nat) (q : CoreRegs), l.foldl (fun q l => q.setV v l (f l) (b l)) q =
      { q with vreg := l.foldl (fun t l => t.set (32 * v + l) (f l)) q.vreg
               vblot := l.foldl (fun t l => t.set (32 * v + l) (b l)) q.vblot } := fun l => by
    induction l with
    | nil => exact fun _ => rfl
    | cons i l ih => exact fun q => ih _
  exact fold _ _

section
variable (r : CoreRegs) (v q : Nat) (f : Nat → Word) (b : Nat → Bool) {l : Nat} (hl : l < 32)
include hl

theorem CoreRegs.v_setLanes : (r.setLanes v f b).v q l = if q = v then f l else r.v q l := by
  rw [CoreRegs.setLanes_eq, CoreRegs.v, Tbl.get_foldl_set_const]
  by_cases h : q = v
  · rw [if_pos h, if_pos (by omega), h, Nat.add_sub_cancel_left]
  · rw [if_neg h, if_neg (by omega)]
    rfl

theorem CoreRegs.vb_setLanes : (r.setLanes v f b).vb q l = if q = v then b l else r.vb q l := by
  rw [CoreRegs.setLanes_eq, CoreRegs.vb, Tbl.get_foldl_set_const]
  by_cases h : q = v
  · rw [if_pos h, if_pos (by omega), h, Nat.add_sub_cancel_left]
  · rw [if_neg h, if_neg (by omega)]
    rfl

end

/-- Undoing vector register writes leaves the other registers. -/
theorem CoreRegs.undo_frame (r : CoreRegs) (c : Nat) (ws : List VecWrite) :
    (r.undo c ws).sreg = r.sreg ∧ (r.undo c ws).sblot = r.sblot ∧ (r.undo c ws).istore = r.istore := by
  induction ws with
  | nil => exact ⟨rfl, rfl, rfl⟩
  | cons w ws ih =>
    unfold CoreRegs.undo
    split
    · rw [CoreRegs.setLanes_eq]; exact ih
    · exact ih

/-- A vector register whose writes were all made by cycle c keeps its lanes. -/
theorem CoreRegs.undo_made (r : CoreRegs) (c v : Nat) {l : Nat} (hl : l < 32) (ws : List VecWrite)
    (h : ∀ w ∈ ws, w.reg = v → w.ready ≤ c + 1) : (r.undo c ws).v v l = r.v v l ∧ (r.undo c ws).vb v l = r.vb v l := by
  induction ws with
  | nil => exact ⟨rfl, rfl⟩
  | cons w ws ih =>
    have ih := ih fun x hx => h x (List.mem_cons_of_mem _ hx)
    unfold CoreRegs.undo
    split
    · have hv : v ≠ w.reg := fun hv => absurd (h w List.mem_cons_self hv.symm) (by omega)
      simpa only [CoreRegs.v_setLanes _ _ _ _ _ hl, CoreRegs.vb_setLanes _ _ _ _ _ hl, if_neg hv] using ih
    · exact ih

/-! ### The kill of a context, in one of its cores (R165, R659) -/

/-- A core, its matrix engine idle, after its context has ended: nothing is under way in it. -/
def Core.stopped (c : Core) : Core := { c.released with ls := .reset }

theorem Core.stopped_stopped (c : Core) : c.stopped.stopped = c.stopped := by
  simp only [Core.stopped, Core.released, Core.mk.injEq, CoreCtl.mk.injEq, true_and, and_true]
  split <;> simp_all

/-- Settling a core whose matrix engine has no operation under way makes its writes. -/
theorem State.core_lsSettle {s : State} {n : Nat} (h : (s.core n).ls.run = none) (m : Nat) : (s.lsSettle n).core m =
    if m = n then { s.core n with ls := { (s.core n).ls with flight := [], run := none } } else s.core m := by
  have hload : s.loadSettle n = s := by simp [State.loadSettle, State.loadFault, h]
  have hfinal : s.meFinal n = (s.core n).eng := by simp [State.meFinal, h]
  rw [State.lsSettle, hload]
  by_cases hls : (s.core n).ls = .reset
  · rw [if_pos hls, show { (s.core n).ls with flight := [], run := none } = (s.core n).ls by rw [hls]; rfl]
    split
    · rename_i hm
      rw [hm]
    · rfl
  · rw [if_neg hls]
    refine (State.core_modLocal ..).trans ?_
    have hstore : ∀ x k, ({ s.meSettle n with store := x } : State).core k = (s.meSettle n).core k := fun _ _ => rfl
    simp only [hstore, State.core_meSettle, hfinal, if_true]
    split <;> rfl

theorem State.core_lsSettle_ne (s : State) {n m : Nat} (h : n ≠ m) : (s.lsSettle m).core n = s.core n := by
  have hload : (s.loadSettle m).core n = s.core n := by
    unfold State.loadSettle
    split
    · rw [State.core_modCore, if_neg h]
    · rfl
  have hstore : ∀ t x, ({ State.meSettle t m with store := x } : State).core n = (State.meSettle t m).core n := fun _ _ => rfl
  unfold State.lsSettle
  split
  · rfl
  · simp only [State.core_modLocal, if_neg h, hstore, State.core_meSettle, hload]

/-- A core released with everything under way done is stopped, where its matrix engine has no operation under way. -/
theorem State.core_release {s : State} {n : Nat} (h : (s.core n).ls.run = none) (m : Nat) :
    ((s.lsSettle n).modCore n Core.released).core m = if m = n then (s.core n).stopped else s.core m := by
  rw [State.core_modCore, State.core_lsSettle h, State.core_lsSettle h, if_pos rfl]
  split <;> rfl

/-- Releasing cores leaves the release of a core whose matrix engine has no operation under way at most. -/
theorem State.core_releaseCores {s : State} {n : Nat} (h : (s.core n).ls.run = none) (x : Nat) :
    (s.releaseCores x).core n = s.core n ∨ (s.releaseCores x).core n = (s.core n).stopped := by
  refine foldl_keeps (fun t : State => t.core n = s.core n ∨ t.core n = (s.core n).stopped) _ _ _ (fun t m ht => ?_) (.inl rfl)
  have hrun : (t.core n).ls.run = none := by
    rcases ht with ht | ht <;> rw [ht]
    · exact h
    · rfl
  by_cases hm : n = m
  · subst hm
    rw [State.core_release hrun, if_pos rfl]
    rcases ht with ht | ht <;> rw [ht]
    · exact .inr rfl
    · exact .inr (Core.stopped_stopped _)
  · rw [State.core_modCore, if_neg hm, State.core_lsSettle_ne t hm]
    exact ht

/-- The kill of a context leaves a core whose matrix engine has no operation under way as it was, or stopped. -/
theorem State.core_kill {s : State} {n : Nat} (h : (s.core n).ls.run = none) (x level src : Nat)
    (payload : List (Nat × Nat × Nat)) :
    (s.kill x level src payload).core n = s.core n ∨ (s.kill x level src payload).core n = (s.core n).stopped := by
  have hpost : ∀ p, (s.post 0x0002 2 src payload p).core n = s.core n := fun p => State.core_congr (by simp) n
  have hcores : (s.kill x level src payload).cores =
      ((s.post 0x0002 2 src payload (some (ctxPart x))).releaseCores x).cores := by simp [State.kill]
  rw [State.core_congr hcores, ← hpost (some (ctxPart x))]
  exact State.core_releaseCores (by rwa [hpost]) x

/-! ### Core errors (R165, R166) -/

/-- A core as an error of cycle t stops it: its engines had reached `eng`. -/
def Core.faulted (c : Core) (eng : CoreEng) (t : Nat) (e : CoreError) : Core :=
  { c with
    regs := c.regs.undo t c.ls.vwrites
    ctl := { c.ctl with st := .frozen, entry := none, hold := none }
    eng := { eng with pendingMma := none }
    errs := { c.errs with err := e.recordIn c.errs.err c.ctl.pc, cycle := t, was := c.ctl.st }
    te := { c.te with desc := none, xfer := none }
    ls := { flight := c.ls.flight.filter (fun w => decide (w.cycle ≤ t)), run := none, vwrites := [] }
    due := c.due.filter (fun d => decide (d.cycle ≤ t)) }

/-- A core error of KIND 3 or more stops the core, and where it ends its context, nothing is left under way in it. -/
theorem State.core_coreErrorIn {s : State} {n c : Nat} {e : CoreError} (h3 : 3 ≤ e.kind.code)
    (hf : (s.core n).failedIn c = false) :
    let x := (s.core n).faulted (s.meStopped n c) c e
    (s.coreErrorIn n c e).core n = x ∨ (s.coreErrorIn n c e).core n = x.stopped := by
  intro x
  have hcore : ∀ f : Core → Core, ((s.dropWrites n c).modCore n f).core n = f { s.core n with
      eng := s.meStopped n c
      regs := (s.core n).regs.undo c (s.core n).ls.vwrites
      ls := { flight := (s.core n).ls.flight.filter (fun w => decide (w.cycle ≤ c)), run := none, vwrites := [] }
      due := (s.core n).due.filter (fun d => decide (d.cycle ≤ c)) } := fun f => by
    rw [State.core_modCore, if_pos rfl, State.dropWrites, State.core_modCore, if_pos rfl]
  rw [State.coreErrorIn, if_neg (by simp [hf]), State.coreFault]
  simp only [if_neg (show ¬e.kind.code ≤ 2 by omega), Bool.or_false]
  split
  · exact (State.core_kill (by rw [hcore]) _ _ _ _).imp (·.trans (hcore _)) (·.trans (congrArg Core.stopped (hcore _)))
  · exact .inl (hcore _)

/-- Settles O8: ILLEGAL by its one error; a core error by whether the core has stopped in that cycle. -/
theorem illegalAndCoreErrors : Obligations.IllegalAndCoreErrors := by
  refine ⟨?_, ?_, ?_⟩
  · intro s a n hclear hst t
    exact congrArg Host.Outcome.next (@State.issue_error _ _ _ _ _ hclear _ hst _ rfl _)
  · intro s n c e t pc h3 hf
    obtain ⟨hsreg, hsblot, histore⟩ := (s.core n).regs.undo_frame c (s.core n).ls.vwrites
    have hmade := fun v l hl => (s.core n).regs.undo_made c v (l := l) hl (s.core n).ls.vwrites
    have hdue : ∀ d ∈ (s.core n).due.filter (fun d => decide (d.cycle ≤ c)), d.cycle ≤ c := fun d hd => by
      simpa using (List.mem_filter.1 hd).2
    rcases State.core_coreErrorIn h3 hf with hcore | hcore <;> rw [hcore]
    · exact ⟨rfl, rfl, hsreg, hsblot, histore, hmade, rfl, rfl, hdue, rfl⟩
    · exact ⟨rfl, rfl, hsreg, hsblot, histore, hmade, rfl, rfl, fun d hd => absurd hd List.not_mem_nil, rfl⟩
  · intro s n c e t pc old h3 hf
    have ht : t = s.alsoFault n e := if_pos hf
    rw [ht, State.alsoFault, if_neg (by omega)]
    refine ⟨keepsBut_of_allSame (State.modErrs_frame ..), fun m hm => ?_, ?_⟩
    · rw [State.core_modErrs, if_neg hm]
    · rw [State.core_modErrs, if_pos rfl]
      exact congrArg (fun r => { s.core n with errs := { (s.core n).errs with err := r } })
        (apply_ite (fun r : ErrReg => { r with multi := true }) (e.kind.code < (s.core n).errs.err.coreKind) _ _)

end Sys2Proof.Machine
end

section
/-!
PROOF. The vector engine: what an operation writes, lane by lane (O9, O10).
-/
namespace Sys2Proof.Machine

/-! ### Results (R114, R127) -/

theorem getD_map_range {α : Type} (f : Nat → α) (d : α) {n l : Nat} (hl : l < n) : ((List.range n).map f).getD l d = f l := by
  simp [List.getD_eq_getElem?_getD, hl]

theorem LaneResult.flags_plain (w : Word) (b : Bool) : (LaneResult.plain w).flags b = if b then 32 else 0 := by
  cases b <;> simp [LaneResult.flags, LaneResult.plain]

/-- Plain lanes with one blot for all set BLOT alone. -/
theorem laneFlags_plain (w : Nat → Word) (b : Bool) :
    laneFlags (fun l => LaneResult.plain (w l)) (fun _ => b) = if b then 32 else 0 := by
  simp only [laneFlags, LaneResult.flags_plain]
  cases b <;> decide

/-! ### One operation -/

/-- A core whose vector register vd has taken lanes and whose flags, engine and control have gone on: it shows a vector effect. -/
theorem vectorEffect_of_core {s t : State} {n vd : Nat} {f val : Nat → Word} {b blot : Nat → Bool} {flags : BitVec 6}
    {cyc ve vt : Nat} {past : Bool} {vready : Tbl Nat} {w : List VecWrite} (hframe : OnlyCores t s)
    (hother : ∀ m, m ≠ n → t.core m = s.core m)
    (hcore : t.core n = { s.core n with
      regs := (s.core n).regs.setLanes vd f b
      ctl := { (s.core n).ctl with pc := (s.core n).ctl.pc + 1, cyc := cyc, pastEnd := past, vready := vready }
      eng := { (s.core n).eng with veFlags := (s.core n).eng.veFlags ||| flags, veFree := ve, vtFree := vt }
      ls := { (s.core n).ls with vwrites := w } })
    (hval : ∀ l, l < 32 → f l = val l) (hblot : ∀ l, l < 32 → b l = blot l) : vectorEffect s t n vd val blot flags := by
  refine ⟨⟨keepsBut_of_allSame hframe, hother, ?_⟩, ⟨w, by rw [hcore]⟩, ⟨cyc, past, vready, by rw [hcore]⟩, ?_⟩
  · rw [hcore]
    exact ⟨rfl, rfl, rfl, rfl⟩
  · rw [hcore]
    refine ⟨by rw [CoreRegs.setLanes_eq], by rw [CoreRegs.setLanes_eq], by rw [CoreRegs.setLanes_eq], fun v l hl => ?_,
      fun v l hl => ?_, ve, vt, rfl⟩
    · rw [← hval l hl]
      exact CoreRegs.v_setLanes _ _ _ _ _ hl
    · rw [← hblot l hl]
      exact CoreRegs.vb_setLanes _ _ _ _ _ hl

/-- A vector operation that is clear to issue, breaks no rule and meets no parity error occupies the engine and goes on. -/
theorem State.issueV_effect {s : State} {a : Issue} {rs vs : List Nat} {u : Unit_}
    (h : clearToIssue s a (needs rs vs u) = true) {l : List CoreError} (hl : l = []) (occ : Nat)
    (effect : Nat → State → State) :
    let n := a.core.val
    let t := issueCycle s n (needs rs vs u)
    s.issueV a vs u occ rs l none effect = ((effect t s).occupyVe n t u occ).advance n t 1 := State.issue_effect h hl _

/-- Lanes, flags, the note of the write and the cycle from which the register can be read show as a vector effect. -/
theorem vectorEffect_lanes (s : State) (n t ready occ vd : Nat) (u : Unit_) {f val : Nat → Word} {b blot : Nat → Bool}
    {flags : BitVec 6} (hval : ∀ l, l < 32 → f l = val l) (hblot : ∀ l, l < 32 → b l = blot l) :
    vectorEffect s (((s.modCore n (fun c => { c with
      regs := c.regs.setLanes vd f b
      ctl := { c.ctl with vready := c.ctl.vready.set vd ready }
      eng := { c.eng with veFlags := c.eng.veFlags ||| flags }
      ls := c.ls.noteV c.regs t ready vd })).occupyVe n t u occ).advance n t 1) n vd val blot flags := by
  refine vectorEffect_of_core (cyc := s.after n t 1) (past := decide ((s.core n).ctl.pc = 0xFFF)) (ve := s.after n t occ)
    (vt := if u = .vt then s.after n t occ else (s.core n).eng.vtFree) (vready := (s.core n).ctl.vready.set vd ready)
    (w := ((s.core n).ls.noteV (s.core n).regs t ready vd).vwrites) (by simp) (fun m hm => ?_) ?_ hval hblot
  · simp [State.occupyVe, hm]
  · simp [State.occupyVe, CoreLs.noteV]

/-- A vector result that is written shows as a vector effect. -/
theorem vectorEffect_putV (s : State) (n t lat occ vd : Nat) (u : Unit_) {r : VResult} {val : Nat → Word} {blot : Nat → Bool}
    (hval : ∀ l, l < 32 → (r.lanes.getD l (LaneResult.plain 0)).bits = val l)
    (hblot : ∀ l, l < 32 → r.blots.getD l false = blot l) :
    vectorEffect s (((s.putV n t lat vd r).occupyVe n t u occ).advance n t 1) n vd val blot r.flags :=
  vectorEffect_lanes s n t (s.after n t lat) occ vd u hval hblot

/-- A lane-wise operation, clear to issue, writes its result. -/
theorem vectorEffect_vecOp {s : State} {a : Issue} {vs : List Nat} {u : Unit_} (h : clearToIssue s a (needs [] vs u) = true)
    {vd : Nat} (occ lat : Nat) {ok : Bool} (hok : ok = true) {f : CoreRegs → VResult} {r : VResult}
    (hr : f (s.core a.core).regs = r) {val : Nat → Word} {blot : Nat → Bool} {flags : BitVec 6}
    (hval : ∀ l, l < 32 → (r.lanes.getD l (LaneResult.plain 0)).bits = val l)
    (hblot : ∀ l, l < 32 → r.blots.getD l false = blot l) (hflags : r.flags = flags) :
    vectorEffect s (vecOp a vd vs u occ lat ok none f s) a.core vd val blot flags := by
  subst hok hr hflags
  rw [show vecOp a vd vs u occ lat true none f s = _ from State.issueV_effect h rfl occ _]
  exact vectorEffect_putV _ _ _ _ _ _ _ hval hblot

/-- An operation that gives every lane a result and a blot writes them and their flags. -/
theorem vectorEffect_ofLanes {s : State} {a : Issue} {vs : List Nat} {u : Unit_} (h : clearToIssue s a (needs [] vs u) = true)
    {vd occ lat : Nat} {ok : Bool} (hok : ok = true) {f : CoreRegs → Nat → LaneResult} {b : CoreRegs → Nat → Bool}
    {lane : Nat → LaneResult} {blot : Nat → Bool} (hf : ∀ l, f (s.core a.core).regs l = lane l)
    (hb : ∀ l, b (s.core a.core).regs l = blot l) :
    vectorEffect s (vecOp a vd vs u occ lat ok none (fun r => VResult.ofLanes (f r) (b r)) s) a.core vd
      (fun l => (lane l).bits) blot (laneFlags lane blot) := by
  obtain rfl : f (s.core a.core).regs = lane := funext hf
  obtain rfl : b (s.core a.core).regs = blot := funext hb
  exact vectorEffect_vecOp h occ lat hok rfl (fun _ hl => by rw [VResult.ofLanes, getD_map_range _ _ hl])
    (fun _ hl => getD_map_range _ _ hl) rfl

/-- An operation that gives every lane one blot, and flags of its own beside BLOT, writes its words. -/
theorem vectorEffect_plain {s : State} {a : Issue} {vs : List Nat} {u : Unit_} (h : clearToIssue s a (needs [] vs u) = true)
    {vd occ lat : Nat} {ok : Bool} (hok : ok = true) {f : CoreRegs → VResult} {w : Nat → Word} {blot : Bool} {flags : BitVec 6}
    (hf : f (s.core a.core).regs =
      { VResult.ofLanes (fun l => LaneResult.plain (w l)) (fun _ => blot) with
        flags := (VResult.ofLanes (fun l => LaneResult.plain (w l)) (fun _ => blot)).flags ||| flags }) :
    vectorEffect s (vecOp a vd vs u occ lat ok none f s) a.core vd w (fun _ => blot) (flags ||| if blot then 32 else 0) :=
  vectorEffect_vecOp h occ lat hok hf (fun _ hl => by rw [VResult.ofLanes, getD_map_range _ _ hl]; rfl)
    (fun _ hl => getD_map_range _ _ hl) (by rw [BitVec.or_comm, ← laneFlags_plain w blot]; rfl)

/-! ### VINT (R103) -/

theorem clampInt32_eq (x : Int) :
    clampInt32 x = (max (-2147483648) (min 2147483647 x), decide (x < -2147483648 ∨ 2147483647 < x)) := by
  unfold clampInt32
  split_ifs with hlo hhi <;> simp only [Prod.mk.injEq, decide_eq_true_eq, eq_comm (a := true), eq_comm (a := false),
    decide_eq_false_iff_not] <;> omega

/-- The lanes of VINT are those of its table. -/
theorem vintLane_eq {fn : Nat} (h : fn ≤ 4) (x y : Word) : vintLane fn x y =
    some { LaneResult.plain ((vintTable x y).getD fn (0, 0, false)).2.1 with
      excess := ((vintTable x y).getD fn (0, 0, false)).2.2 } := by
  match fn, h with
  | 0, _ | 1, _ | 2, _ => rfl
  | 3, _ | 4, _ => simp only [vintLane, clampInt32_eq]; rfl

/-- Settles O9: VINT by the table of its operations. -/
theorem vintResult : Obligations.VintResult := by
  intro s a vd va vb vc fn n r lane blot hclear hfn
  have hlane : ∀ l, (vintLane fn.toNat (r.v va.toNat l) (r.v vb.toNat l)).getD (LaneResult.plain 0) =
      { LaneResult.plain (lane l).2.1 with excess := (lane l).2.2 } := fun l => by rw [vintLane_eq hfn]; rfl
  have hblot : ∀ l, ([va.toNat, vb.toNat].any fun v => r.vb v l) = blot l := fun l => by
    rw [List.any_cons, List.any_cons, List.any_nil, Bool.or_false]
  have hok : (vintLane fn.toNat 0 0).isSome = true := by rw [vintLane_eq hfn]; rfl
  have h := vectorEffect_ofLanes (vd := vd.toNat) (occ := 1) (lat := 4) hclear hok
    (f := fun r l => (vintLane fn.toNat (r.v va.toNat l) (r.v vb.toNat l)).getD (LaneResult.plain 0))
    (b := fun r l => [va.toNat, vb.toNat].any fun v => r.vb v l) hlane hblot
  exact ⟨_, rfl, h⟩

/-! ### VFP, VCVT, MXQ, VRED, VTR and VMOV -/

/-- A write of a scalar register leaves the vector registers and the instruction store. -/
theorem CoreRegs.setS_frame (r : CoreRegs) (k : Nat) (v : Word) (b : Bool) :
    (r.setS k v b).vreg = r.vreg ∧ (r.setS k v b).vblot = r.vblot ∧ (r.setS k v b).istore = r.istore := by
  unfold CoreRegs.setS
  split <;> exact ⟨rfl, rfl, rfl⟩

theorem vcvtLane_isSome {fn : Nat} (h : fn ∈ [0, 1, 8, 9, 10]) (w : Word) : (vcvtLane fn w).isSome = true ∧ fn < 16 := by
  simp only [List.mem_cons, List.not_mem_nil, or_false] at h
  rcases h with rfl | rfl | rfl | rfl | rfl <;> exact ⟨rfl, by decide⟩

/-- Settles O10, operation by operation. -/
theorem vectorResults : Obligations.VectorResults := by
  refine ⟨?_, ?_, ?_, ?_, ?_, ?_, ?_⟩
  · intro s a vd va vb vc fn f n r lane blot hclear hfn
    have hf : (vfpFn (fn.toNat % 32)).getD .fma = f := by rw [hfn]; rfl
    have hok : (vfpFn (fn.toNat % 32)).isSome = true := by rw [hfn]; rfl
    subst hf
    have h := vectorEffect_ofLanes (vd := vd.toNat) (occ := 1) (lat := 4) hclear hok
      (f := fun r l => ((vfpFn (fn.toNat % 32)).getD .fma).lane (laneVal (r.v va.toNat l)) (laneVal (r.v vb.toNat l))
        (laneVal (r.v vc.toNat l)) (fn.getLsbD 5))
      (b := fun r l => (((vfpFn (fn.toNat % 32)).getD .fma).sources va.toNat vb.toNat vc.toNat).any fun v => r.vb v l)
      (fun _ => rfl) (fun _ => rfl)
    exact ⟨_, rfl, h⟩
  · intro s a vd va vb vc fn n r lane hclear hfn
    obtain ⟨hsome, hlt⟩ := vcvtLane_isSome hfn 0
    have hlane : ∀ l, (vcvtLane (fn.toNat % 16) (r.v va.toNat l)).getD (LaneResult.plain 0) = lane l := fun l => by
      rw [Nat.mod_eq_of_lt hlt]
    have hok : ((vcvtLane (fn.toNat % 16) 0).isSome && decide (fn.toNat < 16)) = true := by
      rw [Nat.mod_eq_of_lt hlt, hsome, decide_eq_true hlt, Bool.and_self]
    have h := vectorEffect_ofLanes (vd := vd.toNat) (occ := 1) (lat := 4) hclear hok
      (f := fun r l => (vcvtLane (fn.toNat % 16) (r.v va.toNat l)).getD (LaneResult.plain 0))
      (b := fun r l => r.vb va.toNat l) hlane fun _ => rfl
    exact ⟨_, rfl, h⟩
  · intro s a vd va vb vc fmt g n r b hclear hfmt
    have hg : (mxqFmt fmt.toNat).getD e4m3 = g := by rw [hfmt]; rfl
    have hok : ((mxqFmt fmt.toNat).isSome && !false) = true := by rw [hfmt]; rfl
    subst hg
    have h := vectorEffect_plain (vd := vd.toNat) (occ := 1) (lat := 6) hclear hok
      (w := fun l => b.lane ((mxqFmt fmt.toNat).getD e4m3).width l) (blot := r.anyVb va.toNat) (flags := b.flags) (f := fun r =>
        let b := mxqBlock ((mxqFmt fmt.toNat).getD e4m3) ((List.range 32).map (fun l => laneVal (r.v va.toNat l)))
        let v := VResult.ofLanes (fun l => LaneResult.plain (b.lane ((mxqFmt fmt.toNat).getD e4m3).width l))
          (fun _ => r.anyVb va.toNat)
        { v with flags := v.flags ||| b.flags }) rfl
    exact ⟨_, rfl, h⟩
  · intro s a vd va vb vc fn f n r x hclear hfn
    have hf : vredFn fn.toNat = some f := by
      simp only [List.mem_cons, List.not_mem_nil, or_false, Prod.mk.injEq] at hfn
      rcases hfn with ⟨h, rfl⟩ | ⟨h, rfl⟩ | ⟨h, rfl⟩ <;> rw [h] <;> rfl
    have hg : (vredFn fn.toNat).getD .add = f := by rw [hf]; rfl
    have hok : (vredFn fn.toNat).isSome = true := by rw [hf]; rfl
    subst hg
    have h := vectorEffect_plain (vd := vd.toNat) (occ := 1) (lat := 9) hclear hok
      (w := fun _ => x.1) (blot := r.anyVb va.toNat) (flags := x.2) (f := fun r =>
        let x := redTree ((vredFn fn.toNat).getD .add) 5 ((List.range 32).map (fun l => LaneResult.plain (r.v va.toNat l))) 0
        let v := VResult.ofLanes (fun _ => LaneResult.plain x.1) (fun _ => r.anyVb va.toNat)
        { v with flags := v.flags ||| x.2 }) rfl
    exact ⟨_, rfl, h⟩
  · intro s a vd va vb vc fn f n r lane hclear hfn
    have hf : (trFn (fn.toNat % 32)).getD .exp2 = f := by rw [hfn]; rfl
    have hok : (trFn (fn.toNat % 32)).isSome = true := by rw [hfn]; rfl
    subst hf
    have h := vectorEffect_ofLanes (vd := vd.toNat) (occ := 4) (lat := 24) hclear hok
      (f := fun r l => ((trFn (fn.toNat % 32)).getD .exp2).lane (r.v va.toNat l) (fn.getLsbD 5))
      (b := fun r l => r.vb va.toNat l) (fun _ => rfl) (fun _ => rfl)
    exact ⟨_, rfl, h⟩
  · intro s a vd va vb vc n r hclear
    have hx : exec (.vmov a vd va vb vc 0 none) s = .next (((s.putV n _ 4 vd.toNat _).occupyVe n _ .ve 1).advance n _ 1) :=
      congrArg Host.Outcome.next (State.issueV_effect hclear rfl 1 _)
    have h := vectorEffect_putV s n (issueCycle s n (needs [va.toNat] [] .ve)) 4 1 vd.toNat .ve
      (r := VResult.ofLanes (fun _ => LaneResult.plain (r.s va.toNat)) (fun _ => r.sb va.toNat))
      (val := fun _ => r.s va.toNat) (blot := fun _ => r.sb va.toNat)
      (fun _ hl => by rw [VResult.ofLanes, getD_map_range _ _ hl]; rfl) (fun _ hl => getD_map_range _ _ hl)
    rw [show (VResult.ofLanes (fun _ => LaneResult.plain (r.s va.toNat)) (fun _ => r.sb va.toNat)).flags = _ from
      laneFlags_plain (fun _ => r.s va.toNat) _] at h
    exact ⟨_, hx, h⟩
  · intro s a vd va vb vc n r hclear
    have hx : exec (.vmov a vd va vb vc 1 none) s = .next (((s.putS n _ 4 vd.toNat (r.v va.toNat vb.toNat)
        (r.vb va.toNat vb.toNat)).occupyVe n _ .ve 1).advance n _ 1) :=
      congrArg Host.Outcome.next (State.issueV_effect hclear rfl 1 _)
    generalize ht : State.advance _ _ _ _ = t at hx
    generalize issueCycle s n (needs [] [va.toNat] .ve) = c at ht
    have hcore : t.core n = { s.core n with
        regs := r.setS vd.toNat (r.v va.toNat vb.toNat) (r.vb va.toNat vb.toNat)
        ctl := { (s.core n).ctl with pc := nextPc s n, cyc := s.after n c 1, pastEnd := decide ((s.core n).ctl.pc = 0xFFF),
                                     sready := (s.core n).ctl.sready.set vd.toNat (s.after n c 4) }
        eng := { (s.core n).eng with veFree := s.after n c 1 } } := by
      subst ht
      simp [State.occupyVe, State.putS, nextPc, r]
    obtain ⟨hvreg, hvblot, histore⟩ := CoreRegs.setS_frame r vd.toNat (r.v va.toNat vb.toNat) (r.vb va.toNat vb.toNat)
    have heng := congrArg Core.eng hcore
    have hls := congrArg Core.ls hcore
    have hctl := congrArg Core.ctl hcore
    refine ⟨t, hx, ⟨keepsBut_of_allSame (show OnlyCores _ _ by simp [← ht]), fun m hm => ?_, ?_⟩,
      ⟨fun q => ?_, fun q => ?_, ?_⟩, ⟨_, _, heng⟩, hls, _, _, _, hctl⟩
    · simp [← ht, State.occupyVe, State.putS, hm]
    · rw [hcore]
      exact ⟨rfl, rfl, rfl, rfl⟩
    · rw [hcore]
      exact CoreRegs.s_setS ..
    · rw [hcore]
      exact CoreRegs.sb_setS ..
    · rw [hcore]
      exact ⟨hvreg, hvblot, histore⟩

end Sys2Proof.Machine
end

section
/-!
PROOF. Vector loads and stores of the own local store (O11).
-/
namespace Sys2Proof.Machine

/-! ### What the ECC findings of reads change (R135) -/

/-- Of the reading core, the ECC findings change the counts and the writes under way; other cores stay. -/
theorem State.core_lsEccs (s : State) (n t : Nat) (l : List (Nat × Ecc)) :
    (∀ m, m ≠ n → (s.lsEccs n t l).core m = s.core m) ∧ ∃ errs flight, (s.lsEccs n t l).core n =
      { s.core n with errs := errs, ls := { (s.core n).ls with flight := flight } } := by
  refine foldl_keeps (fun u : State => (∀ m, m ≠ n → u.core m = s.core m) ∧ ∃ errs flight, u.core n =
    { s.core n with errs := errs, ls := { (s.core n).ls with flight := flight } }) _ _ _ (fun u x hu => ?_) ⟨fun _ _ => rfl, _, _, rfl⟩
  obtain ⟨hother, errs, flight, hcore⟩ := hu
  have hquill : ∀ (v : State) (p : Nat) (f : Corrected → Corrected) m, (v.modCorrected p f).core m = v.core m := fun _ _ _ _ => rfl
  cases x.2 with
  | ok => exact ⟨hother, _, _, hcore⟩
  | corrected =>
    refine ⟨fun m hm => ?_, { errs with lsCorr := satInc errs.lsCorr }, flight, ?_⟩
    · simp only [State.lsEcc, hquill, State.core_modErrs, if_neg hm, hother m hm]
    · simp only [State.lsEcc, hquill, State.core_modErrs, if_true, hcore]
  | uncorrectable =>
    refine ⟨fun m hm => ?_, { errs with lsUncorr := satInc errs.lsUncorr },
      LsWrite.into ⟨t, 0, 32 * x.1 / 32 * 32, [], true⟩ flight, ?_⟩
    · simp only [State.lsEcc, State.core_lsPut, State.core_modErrs, if_neg hm, hother m hm]
    · simp only [State.lsEcc, State.core_lsPut, State.core_modErrs, if_true, hcore]

@[simp] theorem State.regs_lsEccs (s : State) (n t : Nat) (l : List (Nat × Ecc)) :
    ((s.lsEccs n t l).core n).regs = (s.core n).regs := by
  obtain ⟨-, errs, flight, hcore⟩ := s.core_lsEccs n t l
  rw [hcore]

/-! ### Bytes of units that follow each other -/

theorem getD_flatMap_range {α : Type} (f : Nat → List α) (d : α) {w : Nat} (hw : ∀ j, (f j).length = w) {k i : Nat}
    (hi : i < k * w) : ((List.range k).flatMap f).getD i d = (f (i / w)).getD (i % w) d := by
  induction k with
  | zero => omega
  | succ k ih =>
    have hlen : ((List.range k).flatMap f).length = k * w := by simp [List.length_flatMap, hw]
    rw [List.range_succ, List.flatMap_append]
    by_cases hk : i < k * w
    · rw [List.getD_append _ _ _ _ (by omega), ih hk]
    · have hdiv : i / w = k := Nat.div_eq_of_lt_le (by omega) hi
      have hmod : i % w = i - k * w := by rw [Nat.mod_eq_sub_div_mul, hdiv]
      rw [List.getD_append_right _ _ _ _ (by omega), hlen, hdiv, hmod, List.flatMap_singleton]

/-- Whole units written one after the other read as the bytes of each. -/
theorem Memory.read_foldl_units (m : List Host.Cell) (a : Nat) (f : Nat → List Byte) (hf : ∀ g, (f g).length = 32) (k b : Nat) :
    Memory.read ((List.range k).foldl (fun x g => Memory.writeBytes x (a + 32 * g) (f g)) m) b =
      if a ≤ b ∧ b < a + 32 * k then (f ((b - a) / 32)).getD ((b - a) % 32) 0 else Memory.read m b := by
  induction k with
  | zero => exact (if_neg (by omega)).symm
  | succ k ih =>
    rw [List.range_succ, List.foldl_append, List.foldl_cons, List.foldl_nil, Memory.read_writeBytes, hf, ih]
    by_cases hk : a + 32 * k ≤ b ∧ b < a + 32 * k + 32
    · rw [if_pos hk, if_pos (by omega), show (b - a) / 32 = k by omega, show b - (a + 32 * k) = (b - a) % 32 by omega]
    · rw [if_neg hk]
      exact if_congr (by omega) rfl rfl

/-- Units whose blots are set one after the other. -/
theorem Units.has_foldl_put (l : List Nat) (a : Nat) (f : Nat → Bool) (k v : Nat) :
    Units.has ((List.range k).foldl (fun x g => Units.put x (a + g) (f g)) l) v =
      if a ≤ v ∧ v < a + k then f (v - a) else Units.has l v := by
  induction k with
  | zero => exact (if_neg (by omega)).symm
  | succ k ih =>
    rw [List.range_succ, List.foldl_append, List.foldl_cons, List.foldl_nil, Units.has_put, ih]
    by_cases hk : a + k = v
    · rw [if_pos hk, if_pos (by omega), ← hk, Nat.add_sub_cancel_left]
    · rw [if_neg hk]
      exact if_congr (by omega) rfl rfl

/-! ### Operands (R146, R164) -/

theorem vecMemErrs_eq_nil {r : CoreRegs} {rs1 : BitVec 6} {imm : BitVec 14} (hb : r.sb rs1.toNat = false)
    (hx : r.lsAddr rs1 imm < 0x40000) (ha : r.lsAddr rs1 imm % 128 = 0) : vecMemErrs r rs1 imm = [] := by
  rw [vecMemErrs, lsErrs_eq_nil hx ha, CoreRegs.blotErr_singleton hb, List.append_nil]

/-- Four bytes from a multiple of four lie in one unit. -/
theorem Store.blotRange_word (m : Store) {x : Nat} (h : x % 4 = 0) : m.blotRange x 4 = m.blotAt x := by
  have hone : (x + 4 - 1) / 32 + 1 - x / 32 = 1 := by omega
  rw [Store.blotRange, hone]
  simp [Store.blotAt]

/-! ### VLD -/

/-- VLD, clear to issue with a good operand, loads what its read finds. -/
theorem exec_vld {s : State} {a : Issue} (vd : BitVec 5) {rs1 : BitVec 6} {imm : BitVec 14} (ls : List (Nat × Ecc))
    (h : clearToIssue s a (needs [rs1.toNat] [] .ve) = true) (hb : (s.core a.core).regs.sb rs1.toNat = false)
    (hx : (s.core a.core).regs.lsAddr rs1 imm < 0x40000) (ha : (s.core a.core).regs.lsAddr rs1 imm % 128 = 0) :
    let n := a.core.val
    let ad := (s.core n).regs.lsAddr rs1 imm
    let c := s.after n (issueCycle s n (needs [rs1.toNat] [] .ve)) 1
    let u := s.lsEccs n c ls
    let m := u.lsView n c
    ∃ t, exec (.vld a vd rs1 imm ls) s = .next t ∧ vectorEffect u t n vd.toNat
      (fun l => m.word (lsBase n + ad + 4 * l)) (fun l => m.blotAt (lsBase n + ad + 4 * l))
      (if (List.range 32).any (fun l => m.blotAt (lsBase n + ad + 4 * l)) then 0x20 else 0) := by
  intro n ad c u m
  have hregs : (u.core n).regs = (s.core n).regs := s.regs_lsEccs n c ls
  have hword : ∀ l, u.lsWord n c ((u.core n).regs.lsAddr rs1 imm + 4 * l) = m.word (lsBase n + ad + 4 * l) := fun l => by
    rw [hregs, State.lsWord, ← Nat.add_assoc]
  have hblot : ∀ l, u.lsBlot n c ((u.core n).regs.lsAddr rs1 imm + 4 * l) 4 = m.blotAt (lsBase n + ad + 4 * l) := fun l => by
    have hal : (lsBase n + ad + 4 * l) % 4 = 0 := by
      have ha : ad % 128 = 0 := ha
      rw [lsBase]
      omega
    rw [hregs, State.lsBlot, ← Nat.add_assoc]
    exact Store.blotRange_word m hal
  refine ⟨_, congrArg Host.Outcome.next (State.issueV_effect h (vecMemErrs_eq_nil hb hx ha) 1 _), ?_⟩
  simp only [← hblot]
  exact vectorEffect_lanes u n _ _ 1 vd.toNat .ve (fun l _ => hword l) (fun _ _ => rfl)

/-! ### Several writes put under way -/

/-- The state after core n put some writes under way. -/
def State.lsPuts (s : State) (n : Nat) (ws : List LsWrite) : State :=
  ws.foldl (fun u w => u.lsPut n w.cycle w.port w.addr w.bytes w.blot) s

@[simp] theorem State.lsPuts_frame (s : State) (n : Nat) (ws : List LsWrite) : OnlyCores (s.lsPuts n ws) s :=
  foldl_keeps (fun u => OnlyCores u s) _ _ _ (fun u w hu => by simpa using hu) (by simp)

@[simp] theorem State.core_lsPuts (s : State) (n m : Nat) (ws : List LsWrite) : (s.lsPuts n ws).core m =
    if m = n then { s.core n with ls := { (s.core n).ls with flight := ws.foldl (fun l w => w.into l) (s.core n).ls.flight } }
    else s.core m := by
  induction ws generalizing s with
  | nil => exact (ite_eq_right_iff.2 fun h => congrArg s.core h.symm).symm
  | cons w ws ih =>
    refine (ih (s.lsPut n w.cycle w.port w.addr w.bytes w.blot)).trans ?_
    simp only [State.core_lsPut, if_true, List.foldl_cons]
    split <;> rfl

/-- Stores of one cycle are writes put under way. -/
theorem State.foldl_lsStore {α : Type} (s : State) (n t d port : Nat) (addr : α → Nat) (bytes : α → List Byte) (blot : α → Bool)
    (l : List α) : l.foldl (fun u g => u.lsStore n t d port (addr g) (bytes g) (blot g)) s =
      s.lsPuts n (l.map fun g => ⟨s.after n t d, port, addr g, bytes g, blot g⟩) := by
  induction l generalizing s with
  | nil => rfl
  | cons g l ih => exact ih (s.lsStore n t d port (addr g) (bytes g) (blot g))

/-- Writes of which each comes after those under way and those put there before it follow them. -/
theorem LsWrite.foldl_into (ws l : List LsWrite) (h : ∀ w ∈ ws, ∀ e ∈ l, e.before w = true)
    (hws : ws.Pairwise fun e w => e.before w = true) : ws.foldl (fun l w => w.into l) l = l ++ ws := by
  induction ws generalizing l with
  | nil => simp
  | cons w ws ih =>
    obtain ⟨hw, hws⟩ := List.pairwise_cons.1 hws
    rw [List.foldl_cons, w.into_of_later l (h w List.mem_cons_self), ih _ (fun x hx e he => ?_) hws, List.append_assoc,
      List.singleton_append]
    rcases List.mem_append.1 he with he | he
    · exact h x (List.mem_cons_of_mem _ hx) e he
    · rw [List.mem_singleton.1 he]
      exact hw x hx

/-! ### VST -/

/-- The write of the unit of lanes 8 g to 8 g + 7 that VST makes in cycle c. -/
def vstWrite (r : CoreRegs) (vs c ad g : Nat) : LsWrite :=
  { cycle := c, port := 4, addr := ad + 32 * g
    bytes := ((List.range 8).map (fun i => 8 * g + i)).flatMap (fun l => toLe (r.v vs l).toNat 4)
    blot := ((List.range 8).map (fun i => 8 * g + i)).any (r.vb vs) }

section
variable (r : CoreRegs) (vs c ad g : Nat)

theorem length_vstWrite : (vstWrite r vs c ad g).bytes.length = 32 := by
  simp [vstWrite, List.length_flatMap, Function.comp_def]

theorem getD_vstWrite {i : Nat} (hi : i < 32) : (vstWrite r vs c ad g).bytes.getD i 0 =
    BitVec.ofNat 8 ((r.v vs (8 * g + i / 4)).toNat >>> (8 * (i % 4))) := by
  rw [vstWrite, List.flatMap_map, getD_flatMap_range (w := 4) _ _ (fun _ => length_toLe ..) hi, getD_toLe (Nat.mod_lt _ (by norm_num))]

theorem blot_vstWrite : (vstWrite r vs c ad g).blot = (List.range 8).any fun i => r.vb vs (8 * g + i) := List.any_map

end

/-- VST's state: its four units put under way. -/
theorem exec_vst {s : State} {a : Issue} (vs : BitVec 5) {rs1 : BitVec 6} {imm : BitVec 14}
    (h : clearToIssue s a (needs [rs1.toNat] [vs.toNat] .ve) = true) (hb : (s.core a.core).regs.sb rs1.toNat = false)
    (hx : (s.core a.core).regs.lsAddr rs1 imm < 0x40000) (ha : (s.core a.core).regs.lsAddr rs1 imm % 128 = 0) :
    let n := a.core.val
    let t := issueCycle s n (needs [rs1.toNat] [vs.toNat] .ve)
    exec (.vst a vs rs1 imm none) s = .next ((((s.lsTick n t).lsPuts n ((List.range 4).map (vstWrite (s.core n).regs vs.toNat
      (s.after n t 2) ((s.core n).regs.lsAddr rs1 imm)))).occupyVe n t .ve 1).advance n t 1) := by
  intro n t
  have hput := State.foldl_lsStore (s.lsTick n t) n t 2 4 (fun g => (s.core n).regs.lsAddr rs1 imm + 32 * g)
    (fun g => (vstWrite (s.core n).regs vs.toNat (s.after n t 2) ((s.core n).regs.lsAddr rs1 imm) g).bytes)
    (fun g => (vstWrite (s.core n).regs vs.toNat (s.after n t 2) ((s.core n).regs.lsAddr rs1 imm) g).blot) (List.range 4)
  rw [State.after_lsTick] at hput
  exact congrArg Host.Outcome.next ((State.issueV_effect h (vecMemErrs_eq_nil hb hx ha) 1 _).trans
    (congrArg (fun u => (State.occupyVe u n t .ve 1).advance n t 1) hput))

/-- The four units of VST, all put under way in one cycle, keep their order. -/
theorem pairwise_vstWrite (r : CoreRegs) (vs c ad : Nat) :
    ((List.range 4).map (vstWrite r vs c ad)).Pairwise fun e w => e.before w = true :=
  List.pairwise_map.2 (List.pairwise_of_forall fun _ _ => by simp [LsWrite.before, vstWrite])

/-- Settles O11: VLD by the words of its read; VST by its four units, the last of the writes under way. -/
theorem vectorMemoryResults : Obligations.VectorMemoryResults := by
  refine ⟨?_, ?_⟩
  · intro s a vd rs1 imm ls n ad c u m hclear hb hx ha
    exact exec_vld vd ls hclear hb hx ha
  · intro s a vs rs1 imm n r ad hclear hb hx ha
    let t0 := issueCycle s n (needs [rs1.toNat] [vs.toNat] .ve)
    let c := s.after n t0 2
    let u := s.lsTick n t0
    let ws := (List.range 4).map (vstWrite r vs.toNat c ad)
    obtain ⟨hstore, hcore, hother⟩ := s.lsTick_eq n t0
    refine ⟨((u.lsPuts n ws).occupyVe n t0 .ve 1).advance n t0 1, exec_vst vs hclear hb hx ha, ?_, fun m hm => ?_, ?_,
      goesTo_advance ?_ _ _, ?_, fun hlast => ?_⟩
    · simp [State.occupyVe, u, hcore, r]
    · simp [State.occupyVe, u, hm, hother]
    · simp [State.occupyVe, u, hstore]
    · simp [State.occupyVe, u, hcore]
    · exact keepsBut_of_allSame (show OnlyCoresStore _ _ by simp [State.occupyVe, u])
    have hlater : ∀ e ∈ (u.core n).ls.flight, e.cycle < c := fun e he => hlast e (s.mem_flight_lsTick n _ he)
    have hws : ∀ w ∈ ws, w.cycle = c := fun w hw => by
      obtain ⟨g, -, rfl⟩ := List.mem_map.1 hw
      rfl
    have hlen : ∀ w ∈ ws, w.bytes.length = 32 := fun w hw => by
      obtain ⟨g, -, rfl⟩ := List.mem_map.1 hw
      exact length_vstWrite ..
    have hfinal : (((u.lsPuts n ws).occupyVe n t0 .ve 1).advance n t0 1).lsFinal n =
        Store.makeWrites (lsBase n) (s.lsFinal n) (s.lsFinal n) [] ws := by
      rw [← State.lsFinal_lsTick s n t0]
      refine State.lsFinal_of_flight_append (by simp [State.occupyVe, u]) ?_ fun w hw e he => ?_
      · rw [← LsWrite.foldl_into ws _ (fun w hw e he => LsWrite.before_of_lt ((hlater e he).trans_eq (hws w hw).symm))
          (pairwise_vstWrite ..)]
        simp [State.occupyVe, u]
      · rw [hws w (List.mem_of_mem_head? hw)]
        exact (hlater e he).ne
    rw [hfinal]
    have hbase : lsBase n % 32 = 0 := by rw [lsBase]; omega
    have haddr : ∀ g, lsBase n + (vstWrite r vs.toNat c ad g).addr = lsBase n + ad + 32 * g := fun g => (Nat.add_assoc ..).symm
    have hunit : ∀ g, (lsBase n + (vstWrite r vs.toNat c ad g).addr) / 32 = (lsBase n + ad) / 32 + g := fun g => by
      rw [haddr]
      omega
    refine ⟨fun x => ?_, fun x => ?_⟩
    · rw [Store.byte, Store.mem_makeWrites, List.foldl_map]
      simp only [haddr]
      rw [Memory.read_foldl_units _ _ (fun g => (vstWrite r vs.toNat c ad g).bytes) (fun g => length_vstWrite ..)]
      refine if_ctx_congr Iff.rfl (fun _ => ?_) fun _ => rfl
      rw [getD_vstWrite _ _ _ _ _ (Nat.mod_lt _ (by norm_num))]
      generalize x - (lsBase n + ad) = k
      rw [show 8 * (k / 32) + k % 32 / 4 = k / 4 by omega, show k % 32 % 4 = k % 4 by omega]
    · rw [Store.blotAt, Store.blots_makeWrites_whole _ _ hlen, List.foldl_map]
      simp only [hunit]
      rw [Units.has_foldl_put]
      refine if_ctx_congr (by omega) (fun hx => ?_) fun _ => rfl
      rw [blot_vstWrite, show x / 32 - (lsBase n + ad) / 32 = (x - (lsBase n + ad)) / 32 by omega]

end Sys2Proof.Machine
end

section
/-!
PROOF. The matrix engine: the accumulators that an MMA leaves (O12).
-/
namespace Sys2Proof.Machine

/-! ### Accumulators by bank, row and column -/

/-- Accumulator (i, j) of bank c after bank `bank` was updated, each accumulator from the one it replaces. -/
theorem Tbl.get_bank {t : Tbl Acc} (bank : Nat) (g : Nat → Acc → Acc) (c : Nat) {i j : Nat} (hi : i < 32) (hj : j < 16) :
    ((List.range 512).foldl (fun u x => u.set (bank * 512 + x) (g x (u.get Acc.clear (bank * 512 + x)))) t).get Acc.clear
      (c * 512 + i * 16 + j) =
        if c = bank then g (i * 16 + j) (t.get Acc.clear (c * 512 + i * 16 + j)) else t.get Acc.clear (c * 512 + i * 16 + j) := by
  rw [Tbl.get_foldl_set]
  by_cases hc : c = bank
  · rw [if_pos hc, if_pos (by omega), show c * 512 + i * 16 + j - bank * 512 = i * 16 + j by omega]
  · rw [if_neg hc, if_neg (by omega)]

/-! ### The operation under way -/

/-- The engine once an operation that has just begun is done: its reads find the store as of its start. -/
theorem State.meFinal_of_run {s t : State} {n : Nat} {x : MeRun} (hstore : t.store = s.store)
    (hflight : (t.core n).ls.flight = (s.core n).ls.flight) (hafter : ∀ d, t.after n x.start d = s.after n x.start d)
    (hrun : (t.core n).ls.run = some x) :
    t.meFinal n = x.finish x.blocks (fun d => s.lsView n (s.after n x.start d)) (lsBase n) (t.core n).eng := by
  have hview : t.runView n x = fun d => s.lsView n (s.after n x.start d) := funext fun d => by
    rw [State.runView, hafter, State.lsView_congr hstore hflight]
  simp only [State.meFinal, hrun, hview]

/-- The ECC findings of reads leave the cycles. -/
@[simp] theorem State.after_lsEccs (s : State) (n m t c d : Nat) (l : List (Nat × Ecc)) :
    (s.lsEccs n t l).after m c d = s.after m c d := State.after_congr (by simp) (by simp) ..

/-- A core whose matrix engine's operation was done before its reads. -/
theorem State.core_meSettle_lsEccs (s : State) (n t : Nat) (ls : List (Nat × Ecc)) :
    ∃ errs flight, ((s.meSettle n).lsEccs n t ls).core n =
      { s.core n with eng := s.meFinal n, errs := errs, ls := { (s.core n).ls with run := none, flight := flight } } := by
  obtain ⟨-, errs, flight, hcore⟩ := (s.meSettle n).core_lsEccs n t ls
  exact ⟨errs, flight, by simpa using hcore⟩

/-! ### MMA (R81, R881) -/

/-- What an MMA leaves of the engine: its bank with all its terms. -/
theorem MeRun.finish_mma {t : Nat} {g : MmaArgs} {clr : Bool} {bank : Nat} {anchor : Int} {fa fb : OpFmt}
    (ha : opFmt g.fa = some fa) (hb : opFmt g.fb = some fb) (hk : g.k % 32 = 0) (v : Nat → Store) (base : Nat) (e : CoreEng) :
    let x := MeRun.mma t g clr bank anchor
    let y := g.sides base fa fb
    x.finish x.blocks v base e =
      { e with acc := mmaBank (fun q => v (q * blockCycles fa fb)) y.1 y.2 g.k anchor clr bank e } := by
  simp only [MeRun.finish, MeRun.blocks, ha, hb, min_self, Nat.mul_div_cancel' (Nat.dvd_of_mod_eq_zero hk)]

/-- An MMA that has just begun has, once it is done, added its terms to its bank. -/
theorem State.meFinal_of_mma {s t : State} {n t0 : Nat} {g : MmaArgs} {clr : Bool} {bank : Nat} {anchor : Int} {fa fb : OpFmt}
    (hstore : t.store = s.store) (hflight : (t.core n).ls.flight = (s.core n).ls.flight)
    (hafter : ∀ d, t.after n t0 d = s.after n t0 d) (hrun : (t.core n).ls.run = some (.mma t0 g clr bank anchor))
    (ha : opFmt g.fa = some fa) (hb : opFmt g.fb = some fb) (hk : g.k % 32 = 0) :
    let y := g.sides (lsBase n) fa fb
    let v := fun q => s.lsView n (s.after n t0 (q * blockCycles fa fb))
    t.meFinal n = { (t.core n).eng with acc := mmaBank v y.1 y.2 g.k anchor clr bank (t.core n).eng } := by
  rw [State.meFinal_of_run (x := .mma t0 g clr bank anchor) hstore hflight hafter hrun, MeRun.finish_mma ha hb hk]
  rfl

/-- An MMA takes the accumulators of the engine alone. -/
theorem mmaBank_congr {e e' : CoreEng} (h : e'.acc = e.acc) (v : Nat → Store) (a b : Side) (terms : Nat) (anchor : Int)
    (clr : Bool) (bank : Nat) : mmaBank v a b terms anchor clr bank e' = mmaBank v a b terms anchor clr bank e := by
  simp only [mmaBank, h]

/-- Accumulator (i, j) of bank c after the terms of an MMA. -/
theorem get_mmaBank (v : Nat → Store) (a b : Side) (terms : Nat) (anchor : Int) (clr : Bool) (bank : Nat) (e : CoreEng) (c : Nat)
    {i j : Nat} (hi : i < 32) (hj : j < 16) : (mmaBank v a b terms anchor clr bank e).get Acc.clear (c * 512 + i * 16 + j) =
      if c = bank then accumulate v a b terms anchor i j (if clr then Acc.clear else e.accAt c i j) else e.accAt c i j := by
  refine (Tbl.get_bank bank (fun x y => accumulate v a b terms anchor (x / 16) (x % 16) (if clr then Acc.clear else y)) c
    hi hj).trans ?_
  rw [show (i * 16 + j) / 16 = i by omega, show (i * 16 + j) % 16 = j by omega, CoreEng.accAt]

/-- The rules of start that an MMA keeps (R65, R66). -/
theorem CoreEng.formats_of_mmaCheck {e : CoreEng} {x : MmaArgs} {clr : Bool} {bank : Nat} {field : Int} {fa fb : OpFmt}
    (h : e.mmaCheck x clr bank field = .inr (fa, fb)) : opFmt x.fa = some fa ∧ opFmt x.fb = some fb ∧ x.k % 32 = 0 := by
  unfold CoreEng.mmaCheck at h
  split at h
  · rename_i ga gb ha hb
    have hk : x.k % 32 = 0 := by
      by_contra hk
      simp only [hk, ne_eq, not_false_eq_true, true_or, if_true] at h
      split at h <;> cases h
    obtain ⟨rfl, rfl⟩ : ga = fa ∧ gb = fb := by
      split_ifs at h
      · cases h; exact ⟨rfl, rfl⟩
      · split at h
        · cases h
        · cases h; exact ⟨rfl, rfl⟩
    exact ⟨ha, hb, hk⟩
  · cases h

/-- An MMA that raises no engine error latches its anchor, occupies the engine and begins. -/
theorem State.startMma_of_check {s : State} {n t : Nat} {x : MmaArgs} {clr : Bool} {bank : Nat} {field : Int}
    (ls : List (Nat × Ecc)) {fa fb : OpFmt} (h : (s.meFinal n).mmaCheck x clr bank field = .inr (fa, fb)) :
    let u := (s.meSettle n).lsEccs n t ls
    let v := s.startMma n t x clr bank field .none ls
    OnlyCores v u ∧ (∀ m, m ≠ n → v.core m = u.core m) ∧ ∃ sampled, v.core n = { u.core n with
      eng := { s.meFinal n with anchor := if clr then (s.meFinal n).anchor.set bank (mmaAnchor field fa) else (s.meFinal n).anchor
                                meFree := s.after n t (x.k / 32 * blockCycles fa fb), sampled := sampled }
      ls := { (u.core n).ls with run := some (.mma t x clr bank (mmaAnchor field fa)) } } := by
  intro u v
  obtain ⟨errs, flight, hcore⟩ := s.core_meSettle_lsEccs n t ls
  have heng : (u.core n).eng = s.meFinal n := congrArg Core.eng hcore
  have hv : v = (u.modEng n (fun e =>
        { e with anchor := if clr then e.anchor.set bank (mmaAnchor field fa) else e.anchor
                 meFree := u.after n t (x.k / 32 * blockCycles fa fb)
                 sampled := e.sampled <|> x.trace fa fb clr bank })).modLocal n (fun l =>
        { l with run := some (.mma t x clr bank (mmaAnchor field fa)) }) := by
    simp only [v, State.startMma, show (((s.meSettle n).lsEccs n t ls).core n).eng = s.meFinal n from heng, h, meFaultKind, u]
  rw [hv]
  refine ⟨by simp, fun m hm => by simp [hm], (s.meFinal n).sampled <|> x.trace fa fb clr bank, ?_⟩
  simp [heng, u]

section
variable {s : State} {a : Issue} {rb : BitVec 6}
  (h : clearToIssue s a (needs [rb.toNat, rb.toNat + 1, rb.toNat + 2, rb.toNat + 3] [] .me) = true)
  (herr : mmaErrs (s.core a.core).regs rb.toNat = []) (clr bank : Bool) (anchor : BitVec 10) (hw : MeFault)
  (ls : List (Nat × Ecc))
include h herr

/-- An MMA starts in the cycle of its issue, unless its bank has a row read to come: in a free section it waits then. -/
theorem exec_mma (hst : (s.core a.core).ctl.st = .ruled → ¬(issueCycle s a.core (needs [rb.toNat, rb.toNat + 1, rb.toNat + 2,
      rb.toNat + 3] [] .me) ≤ (s.core a.core).eng.bankRead.get 0 (bankNo bank) ∧
        0 < (s.core a.core).eng.bankRead.get 0 (bankNo bank))) :
    let n := a.core.val
    let r := (s.core n).regs
    let t := issueCycle s n (needs [rb.toNat, rb.toNat + 1, rb.toNat + 2, rb.toNat + 3] [] .me)
    let last := (s.core n).eng.bankRead.get 0 (bankNo bank)
    exec (.mma a clr bank anchor rb hw ls) s = .next (if t ≤ last ∧ 0 < last then
      (s.advance n t 1).modEng n (fun e => { e with pendingMma := some ⟨clr, bankNo bank, anchor.toInt, r.s rb.toNat,
        r.s (rb.toNat + 1), r.s (rb.toNat + 2), r.s (rb.toNat + 3)⟩ })
    else
      (s.startMma n t (mmaArgs (r.s rb.toNat) (r.s (rb.toNat + 1)) (r.s (rb.toNat + 2)) (r.s (rb.toNat + 3))) clr
        (bankNo bank) anchor.toInt hw ls).advance n t 1) := by
  intro n r t last
  have hat : s.issueAt a.core ⟨[rb.toNat, rb.toNat + 1, rb.toNat + 2, rb.toNat + 3], [], .me,
    mmaErrs (s.core a.core).regs rb.toNat⟩ = t := issueAt_of_clear h
  refine congrArg Host.Outcome.next ?_
  simp only [effMma]
  rw [hat, if_neg fun hstall => hst hstall.2 (of_decide_eq_true hstall.1)]
  exact (State.issue_effect h herr _).trans (if_congr decide_eq_true_iff rfl rfl)

end

theorem goesTo.modEng {s t : State} {n : Nat} {pc : BitVec 12} (h : goesTo s t n pc) (f : CoreEng → CoreEng) :
    goesTo s (t.modEng n f) n pc := by
  obtain ⟨cyc, past, sready, hctl⟩ := h
  exact ⟨cyc, past, sready, by simpa using hctl⟩

/-- Settles O12: the MMA that starts, its terms added once it is done; the MMA that waits. -/
theorem mmaResult : Obligations.MmaResult := by
  refine ⟨?_, ?_⟩
  · intro s a clr bank anchor rb fa fb ls n r b x t0 sideA sideB e p g u hclear herr hread hcheck
    have hnot : ¬(t0 ≤ (s.core n).eng.bankRead.get 0 b ∧ 0 < (s.core n).eng.bankRead.get 0 b) := fun ⟨hle, hpos⟩ =>
      hread.elim hpos.ne' fun hlt => hlt.not_ge hle
    have hexec := (exec_mma hclear herr clr bank anchor .none ls fun _ => hnot).trans (congrArg Host.Outcome.next (if_neg hnot))
    obtain ⟨hframe, hother, sampled, hcore⟩ := State.startMma_of_check (t := t0) ls hcheck
    obtain ⟨ha, hb, hk⟩ := CoreEng.formats_of_mmaCheck hcheck
    generalize s.startMma n t0 x clr b anchor.toInt .none ls = v at hexec hframe hother hcore
    have hafter : ∀ d, (v.advance n t0 1).after n t0 d = u.after n t0 d := fun d =>
      State.after_congr (by simp [hframe, u]) (by simp [hframe, u]) ..
    have hfinal : (v.advance n t0 1).meFinal n = { (v.core n).eng with
        acc := mmaBank (fun q => u.lsView n (s.after n t0 (q * p))) sideA sideB x.k g clr b (v.core n).eng } := by
      rw [State.meFinal_of_mma (s := u) (t0 := t0) (g := x) (clr := clr) (bank := b) (anchor := g) (by simp [hframe, u])
        (by simp [hcore, u]) hafter (by simp [hcore, g]) ha hb hk]
      simp [u, MmaArgs.sides, sideA, sideB, p]
    refine ⟨v.advance n t0 1, hexec, fun c i j hi hj => ?_, ?_, ?_, ?_, ?_, ?_, ?_, ⟨?_, fun m hm => ?_, ?_⟩, goesTo_advance ?_ _ _⟩
    · have hbank : (v.core n).eng.acc = e.acc := by rw [hcore]
      have hacc : ((v.advance n t0 1).meFinal n).acc =
          mmaBank (fun q => u.lsView n (s.after n t0 (q * p))) sideA sideB x.k g clr b e := by
        rw [hfinal, ← mmaBank_congr hbank]
      rw [CoreEng.accAt, hacc, get_mmaBank _ _ _ _ _ _ _ _ _ hi hj]
    · rw [hfinal, hcore]
    · rw [hfinal, hcore]
    · rw [hfinal, hcore]
    · rw [hfinal, hcore]
    · rw [hfinal, hcore]
    · simp [hcore, r]
    · exact keepsBut_of_allSame (show OnlyCores _ u by simpa [u] using hframe)
    · simp [hm, hother, u]
    · simp [hcore, u]
    · simp [hcore, u]
  · intro s a clr bank anchor rb hw ls n r b w p hclear herr hst hlast
    have hexec := exec_mma hclear herr clr bank anchor hw ls fun h => absurd (hst.symm.trans h) (by decide)
    refine ⟨(s.advance n _ 1).modEng n fun e => { e with pendingMma := some w },
      hexec.trans (congrArg Host.Outcome.next (if_pos ⟨hlast.2, hlast.1⟩)), ?_, ⟨?_, fun m hm => ?_, ?_⟩, ?_, ?_, ?_⟩
    · simp [r]
    · exact keepsBut_of_allSame (show OnlyCores _ _ by simp)
    · simp [hm]
    · simp
    · exact (goesTo_advance rfl _ _).modEng _
    · simp [w, r, b]
    · simp

end Sys2Proof.Machine
end

section
/-!
PROOF. Drains, saves and loads of accumulator banks, and the MMA that waited (O13).
-/
namespace Sys2Proof.Machine

/-! ### Operands (R146, R164) -/

theorem rangeErrs_eq_nil {x len align : Nat} (hx : x + len ≤ 0x40000) (ha : x % align = 0) : rangeErrs x len align = [] := by
  simp [rangeErrs, lsSize, ha, Nat.not_lt.2 hx]

theorem dErrs_eq_nil {r : CoreRegs} {k len align : Nat} (ha : (r.s k).toNat % align = 0) (hx : (r.s k).toNat + len ≤ 0x40000)
    (hb : r.sb k = false) : dErrs r k len align = [] := by
  rw [dErrs, rangeErrs_eq_nil hx ha, CoreRegs.blotErr_singleton hb, List.append_nil]

@[simp] theorem State.regs_lsTick (s : State) (n c : Nat) : ((s.lsTick n c).core n).regs = (s.core n).regs := by
  obtain ⟨-, hcore, -⟩ := s.lsTick_eq n c
  rw [hcore]

/-! ### Bytes outside the units that are written -/

section
variable {s : State} {n i addr : Nat}

/-- Units put under way leave the bytes outside them. -/
theorem State.byte_lsFinal_lsPutUnits (cycle port : Nat) {us : List (List Byte × Bool)} (hlen : ∀ x ∈ us, x.1.length ≤ 32)
    (hi : ¬(lsBase n + addr ≤ i ∧ i < lsBase n + addr + 32 * us.length)) :
    ((s.lsPutUnits n cycle port addr us).lsFinal n).byte i = (s.lsFinal n).byte i := by
  refine List.foldlRecOn (motive := fun u : State => (u.lsFinal n).byte i = (s.lsFinal n).byte i) _ _ rfl fun u hu x hx => ?_
  have hplace : x.2 < us.length := List.snd_lt_of_mem_zipIdx hx
  have hsize : x.1.1.length ≤ 32 := hlen _ (List.fst_mem_of_mem_zipIdx hx)
  exact (State.byte_lsFinal_lsPut _ _ _ _ _ _ _ (by omega)).trans hu

theorem drainFmt_bytes {code : Nat} {d : DrainFmt} (h : drainFmt code = some d) : d.bytes = 1 ∨ d.bytes = 2 ∨ d.bytes = 4 := by
  unfold drainFmt at h
  split at h <;> cases h <;> decide

theorem length_drainPair (t bank d : Nat) (f : DrainFmt) : (s.drainPair n t bank d f).length = 32 := by
  simp [State.drainPair, drainRow]

/-- The units of two rows of a drain lie one after the other in as many units as an element has bytes. -/
theorem drainUnits_size {f : DrainFmt} (hf : f.bytes = 1 ∨ f.bytes = 2 ∨ f.bytes = 4) {outs : List (Drained × Acc)}
    (h : outs.length = 32) : (drainUnits f outs).length = f.bytes ∧ ∀ x ∈ drainUnits f outs, x.1.length ≤ 32 := by
  refine ⟨?_, fun x hx => ?_⟩
  · rcases hf with hf | hf | hf <;> simp [drainUnits, hf, h]
  · obtain ⟨g, -, rfl⟩ := List.mem_map.1 hx
    have hlen : ∀ l : List (Drained × Acc), (l.flatMap fun x => toLe x.1.bits f.bytes).length = l.length * f.bytes := fun l => by
      simp [List.length_flatMap]
    rw [hlen]
    exact (Nat.mul_le_mul_right _ (List.length_take_le ..)).trans (Nat.div_mul_le_self ..)

/-- A drain leaves the bytes outside its destination. -/
theorem State.byte_lsFinal_drainWrites {f : DrainFmt} (hf : f.bytes = 1 ∨ f.bytes = 2 ∨ f.bytes = 4) (t bank : Nat)
    (hi : ¬(lsBase n + addr ≤ i ∧ i < lsBase n + addr + 512 * f.bytes)) :
    ((s.drainWrites n t bank addr f (List.range 16)).lsFinal n).byte i = (s.lsFinal n).byte i := by
  refine List.foldlRecOn (motive := fun u : State => (u.lsFinal n).byte i = (s.lsFinal n).byte i) _ _ rfl fun u hu d hd => ?_
  obtain ⟨hlen, hsize⟩ := drainUnits_size hf (length_drainPair (s := s) (n := n) t bank d f)
  have hd : d < 16 := List.mem_range.1 hd
  refine (State.byte_lsFinal_lsPutUnits _ _ hsize ?_).trans hu
  rw [hlen]
  rcases hf with hf | hf | hf <;> rw [hf] at hi ⊢ <;> omega

theorem Acc.length_image (a : Acc) (anchor : Int) : (a.image anchor).length = 32 := by
  simp [Acc.image, Machine.block]

/-- ACC_SAVE leaves the bytes outside its records. -/
theorem State.byte_lsFinal_saveWrites (t bank : Nat) (hi : ¬(lsBase n + addr ≤ i ∧ i < lsBase n + addr + 0x4000)) :
    ((s.saveWrites n t bank addr (List.range 128)).lsFinal n).byte i = (s.lsFinal n).byte i := by
  refine List.foldlRecOn (motive := fun u : State => (u.lsFinal n).byte i = (s.lsFinal n).byte i) _ _ rfl fun u hu m hm => ?_
  have hm : m < 128 := List.mem_range.1 hm
  refine (State.byte_lsFinal_lsPutUnits _ _ (fun x hx => ?_) ?_).trans hu
  · obtain ⟨j, -, rfl⟩ := List.mem_map.1 hx
    exact (Acc.length_image ..).le
  · simp only [List.length_map, List.length_range]
    omega

end

/-! ### ACC_LOAD (R97, R98) -/

/-- Records whose anchors agree and are in range spoil no load. -/
theorem badRecord_eq_none {v : Nat → Store} {addr : Nat} {anchor : Int} (hlo : -512 ≤ anchor) (hhi : anchor ≤ 511)
    (h : ∀ i, i < 512 → (v (i / 4)).recAnchor (addr + 32 * i) = anchor) : badRecord v addr = none := by
  have h0 : (v 0).recAnchor addr = anchor := h 0 (by norm_num)
  refine List.find?_eq_none.2 fun i hi => ?_
  simp only [recordBad, h i (List.mem_range.1 hi), h0, ne_eq, not_true_eq_false, decide_false, Bool.or_false, Bool.or_eq_true,
    decide_eq_true_eq]
  omega

/-- What an ACC_LOAD that nothing spoils leaves of the engine: its bank and its anchor. -/
theorem MeRun.finish_load {v : Nat → Store} {base addr : Nat} {anchor : Int} (h : badRecord v (base + addr) = none)
    (h0 : (v 0).recAnchor (base + addr) = anchor) (t bank : Nat) (e : CoreEng) :
    let x := MeRun.load t bank addr
    x.finish x.blocks v base e =
      { e with acc := (List.range 512).foldl (fun (t : Tbl Acc) i =>
                 t.set (bank * 512 + i) ((v (i / 4)).recAcc (base + addr + 32 * i))) e.acc
               anchor := e.anchor.set bank anchor } := by
  simp only [MeRun.finish, h, h0, Option.isSome_none, Bool.false_eq_true, if_false]

/-- An ACC_LOAD that nothing spoils has, once it is done, replaced its bank and latched its anchor. -/
theorem State.meFinal_of_load {s t : State} {n t0 bank addr : Nat} {anchor : Int} (hstore : t.store = s.store)
    (hflight : (t.core n).ls.flight = (s.core n).ls.flight) (hafter : ∀ d, t.after n t0 d = s.after n t0 d)
    (hrun : (t.core n).ls.run = some (.load t0 bank addr)) (hlo : -512 ≤ anchor) (hhi : anchor ≤ 511) :
    let v := fun d => s.lsView n (s.after n t0 d)
    (∀ i, i < 512 → (v (i / 4)).recAnchor (lsBase n + addr + 32 * i) = anchor) →
    (t.meFinal n).anchor = (t.core n).eng.anchor.set bank anchor ∧ ∀ c i j, i < 32 → j < 16 → (t.meFinal n).accAt c i j =
      if c = bank then (v ((i * 16 + j) / 4)).recAcc (lsBase n + addr + 32 * (i * 16 + j)) else (t.core n).eng.accAt c i j := by
  intro v hagree
  have h0 : (v 0).recAnchor (lsBase n + addr) = anchor := hagree 0 (by norm_num)
  have hfinal : t.meFinal n = { (t.core n).eng with
      acc := (List.range 512).foldl (fun (t : Tbl Acc) i =>
        t.set (bank * 512 + i) ((v (i / 4)).recAcc (lsBase n + addr + 32 * i))) (t.core n).eng.acc
      anchor := (t.core n).eng.anchor.set bank anchor } := by
    rw [State.meFinal_of_run (x := .load t0 bank addr) hstore hflight hafter hrun]
    exact MeRun.finish_load (badRecord_eq_none hlo hhi hagree) h0 t0 bank _
  have hacc : (t.meFinal n).acc = (List.range 512).foldl (fun (t : Tbl Acc) i =>
      t.set (bank * 512 + i) ((v (i / 4)).recAcc (lsBase n + addr + 32 * i))) (t.core n).eng.acc := by rw [hfinal]
  refine ⟨by rw [hfinal], fun c i j hi hj => ?_⟩
  rw [CoreEng.accAt, hacc]
  exact Tbl.get_bank bank (fun x _ => (v (x / 4)).recAcc (lsBase n + addr + 32 * x)) c hi hj

/-! ### Engine errors (R118, R119) -/

/-- A core whose matrix engine records ACC_IMAGE, no operation under way. -/
def Core.spoiltLoad (c : Core) (detail : Nat) : Core :=
  { c with eng := { c.eng with err := c.eng.err.record (engFields 0 8 detail) 0 0, pendingMma := none }
           ls := { c.ls with run := none } }

/-- A record that spoils a load raises ACC_IMAGE: the bank and the anchor stay, and so it is where the context ends. -/
theorem State.core_accImage {s : State} {n : Nat} (h : (s.core n).ls.run = none) (detail : Nat) :
    let x := (s.core n).spoiltLoad detail
    (s.engineError n .accImage detail).core n = x ∨ (s.engineError n .accImage detail).core n = x.stopped := by
  intro x
  have hfinal : s.meFinal n = (s.core n).eng := by simp [State.meFinal, h]
  have hcore : ∀ f : Core → Core, ((s.meSettle n).modCore n f).core n =
      f { s.core n with ls := { (s.core n).ls with run := none } } := fun f => by
    rw [State.core_modCore, if_pos rfl, State.core_meSettle, if_pos rfl, hfinal]
  unfold State.engineError
  dsimp only
  rw [if_neg (by decide)]
  split
  · exact (State.core_kill (by rw [hcore]; rfl) _ _ _ _).imp (·.trans (hcore _)) (·.trans (congrArg Core.stopped (hcore _)))
  · exact .inl (hcore _)

/-- Settles O13: bytes by the units that are written, the load by its records, the MMA that waited by the cycle it meets. -/
theorem bankReadResults : Obligations.BankReadResults := by
  refine ⟨?_, ?_, ?_, ?_, ?_, ?_⟩
  · intro s a bank dfmt rs1 rs2 d n r b t ad fl u x y z hclear hd ⟨halign, hlim, hblot⟩ hflag
    have hflags : (if rs2 = 0 then [] else lsErrs fl 4 ++ r.blotErr [rs2.toNat] 0) = [] := by
      split
      · rfl
      · obtain ⟨ha, hl, hb⟩ := hflag.resolve_left ‹_›
        rw [lsErrs_eq_nil hl ha, CoreRegs.blotErr_singleton hb, List.append_nil]
    have herr : (match drainFmt dfmt.toNat with
        | none => [CoreErrKind.illegalInstr.err]
        | some d => dErrs r rs1.toNat (512 * d.bytes) 32 ++ if rs2 = 0 then [] else lsErrs fl 4 ++ r.blotErr [rs2.toNat] 0) = [] := by
      rw [hd]
      exact congrArg₂ _ (dErrs_eq_nil halign hlim hblot) hflags
    refine ⟨congrArg Host.Outcome.next ((State.issue_effect hclear herr _).trans ?_), fun i hdest hword => ?_⟩
    · simp only [meFaultKind, hd, State.regs_lsTick]
      rfl
    · have hx : (x.lsFinal n).byte i = (s.lsFinal n).byte i := by
        rw [← State.lsFinal_lsTick s n t, ← State.byte_lsFinal_drainWrites (s := u) (drainFmt_bytes hd) t b hdest]
        exact congrArg (Store.byte · i) (State.lsFinal_congr rfl (by simp [x, State.drainBank]))
      have hy : (y.lsFinal n).byte i = (x.lsFinal n).byte i := by
        unfold y
        split
        · rfl
        · refine State.byte_lsFinal_lsPut _ _ _ _ _ _ _ ?_
          rw [length_toLe]
          exact fun hi => hword ⟨‹_›, hi⟩
      rw [← hx, ← hy]
      exact congrArg (Store.byte · i) (State.lsFinal_congr (by simp [z]) (by simp [z]))
  · intro s a bank rs1 n r b t ad u z hclear ⟨halign, hlim, hblot⟩
    refine ⟨congrArg Host.Outcome.next ((State.issue_effect hclear (dErrs_eq_nil halign hlim hblot) _).trans ?_), fun i hi => ?_⟩
    · simp only [meFaultKind, State.regs_lsTick]
      rfl
    · rw [← State.lsFinal_lsTick s n t, ← State.byte_lsFinal_saveWrites (s := u) t b hi]
      exact congrArg (Store.byte · i) (State.lsFinal_congr (by simp [z]) (by simp [z]))
  · intro s a bank rs1 ls n r b ad t0 u v anchor hclear ⟨halign, hlim, hblot⟩ ⟨hlo, hhi⟩ hagree
    let t := ((u.modLocal n (fun l => { l with run := some (.load t0 b (r.s rs1.toNat).toNat) })).modEng n (fun e =>
      { e with meFree := s.after n t0 128 })).advance n t0 1
    obtain ⟨errs, flight, hcore⟩ := s.core_meSettle_lsEccs n t0 ls
    have hexec : exec (.accLoad a bank rs1 ls) s = .next t :=
      congrArg Host.Outcome.next ((State.issue_effect hclear (dErrs_eq_nil halign hlim hblot) _).trans (by simp [t, u, r, n, b, t0]))
    have heng : (t.core n).eng = { s.meFinal n with meFree := s.after n t0 128 } := by simp [t, u, hcore]
    have hview : (fun d => u.lsView n (u.after n t0 d)) = v := funext fun d => by simp [u, v]
    obtain ⟨hanchor, hacc⟩ := State.meFinal_of_load (s := u) (t := t) (n := n) (t0 := t0) (bank := b)
      (addr := (r.s rs1.toNat).toNat) (by simp [t]) (by simp [t])
      (fun d => State.after_congr (by simp [t]) (by simp [t]) ..) (by simp [t]) hlo hhi (by rwa [hview])
    rw [heng] at hanchor
    rw [heng, hview] at hacc
    refine ⟨t, hexec, hacc, hanchor, ?_, ⟨?_, fun m hm => ?_, ?_⟩, goesTo_advance ?_ _ _⟩
    · simp [t, u, r]
    · exact keepsBut_of_allSame (show OnlyCores _ u by simp [t])
    · simp [t, hm]
    · simp [t]
    · simp
  · intro s n hw ls m last t hm hpaused hdue hquiet hacc hruns
    have hdue : s.cycleDue n (s.mmaCycle n m) = true := hdue
    have hcore : s.coreRun n (s.mmaCycle n m - 1) = s := State.coreRun_of_quietBy hquiet (Nat.sub_le _ _)
    refine congrArg Host.Outcome.next ?_
    simp only [effMmaDelayedStart, hm, hpaused, hdue, hcore, hruns, Bool.not_true, Bool.or_false, Bool.false_eq_true, if_false,
      if_true]
    exact State.meets_nil hquiet hacc hruns _
  · intro s n hw ls h
    refine congrArg Host.Outcome.next ?_
    cases hm : (s.core n).eng.pendingMma with
    | none => simp only [effMmaDelayedStart, hm]
    | some m =>
      have hpaused := h.resolve_left (by simp [hm])
      simp only [effMmaDelayedStart, hm, hpaused, Bool.true_or, if_true]
  · intro s n x t hx
    have ht : t = (s.modLocal n (fun l => { l with run := none })).engineError n .accImage (x.bank * 32 + x.row) := by
      simp only [t, State.judgeLoad, hx]
    have hfields : engFields 0 8 (x.bank * 32 + x.row) = BitVec.ofNat 32 (8 * 2 ^ 23 + (x.bank * 32 + x.row) % 256 * 2 ^ 15) := by
      rw [engFields, Nat.zero_mul, Nat.zero_add]
    rw [ht, ← hfields]
    rcases State.core_accImage (s := s.modLocal n (fun l => { l with run := none })) (n := n) (by simp) (x.bank * 32 + x.row)
      with hcore | hcore <;> rw [hcore, State.core_modLocal, if_pos rfl] <;> exact ⟨rfl, rfl, rfl, rfl⟩

end Sys2Proof.Machine
end

section
/-!
PROOF. The scalar instructions: what a core shows after an instruction that writes a register, branches, or ends its section
(O1, O2, O4 to O7, O27), and that every command goes on (O21).
-/
namespace Sys2Proof.Machine

/-! ### One part of a core updated -/

section
variable (s : State) (n m t d : Nat)

@[simp] theorem State.core_modCtl (f : CoreCtl → CoreCtl) :
    (s.modCtl n f).core m = if m = n then { s.core n with ctl := f (s.core n).ctl } else s.core m := s.core_modCore ..

@[simp] theorem State.core_modQs (f : CoreQueues → CoreQueues) :
    (s.modQs n f).core m = if m = n then { s.core n with qs := f (s.core n).qs } else s.core m := s.core_modCore ..

@[simp] theorem State.core_goto (target : BitVec 12) : (s.goto n t d target).core m = if m = n then { s.core n with ctl :=
    { (s.core n).ctl with pc := target, cyc := s.after n t d, pastEnd := false } } else s.core m := s.core_modCore ..

@[simp] theorem State.core_putS (r : Nat) (v : Word) (b : Bool) : (s.putS n t d r v b).core m =
    if m = n then { s.core n with
      regs := (s.core n).regs.setS r v b
      ctl := { (s.core n).ctl with sready := (s.core n).ctl.sready.set r (s.after n t d) } }
    else s.core m := s.core_modCore ..

@[simp] theorem State.after_advance (c k : Nat) : (s.advance n t d).after m c k = s.after m c k := s.after_modCore ..

end

/-! ### What an instruction shows of one core -/

section
variable {s t : State} {n : Nat} (hframe : OnlyCores t s) (hother : ∀ m, m ≠ n → t.core m = s.core m)
include hframe hother

/-- Of a core with new registers and control, nothing else has changed. -/
theorem onlyCore_of_core {regs : CoreRegs} {ctl : CoreCtl} (h : t.core n = { s.core n with regs := regs, ctl := ctl }) :
    onlyCore s t n := by
  refine ⟨keepsBut_of_allSame hframe, hother, ?_⟩
  rw [h]
  exact ⟨rfl, rfl, rfl, rfl, rfl, rfl⟩

/-- A core that has written a scalar register and gone on shows a scalar effect. -/
theorem scalarEffect_of_core {r : Nat} {v : Word} {b past : Bool} {pc : BitVec 12} {cyc : Nat} {sready : Tbl Nat}
    (h : t.core n = { s.core n with
      regs := (s.core n).regs.setS r v b
      ctl := { (s.core n).ctl with pc := pc, cyc := cyc, pastEnd := past, sready := sready } }) :
    scalarEffect s t n r v b pc := by
  refine ⟨onlyCore_of_core hframe hother h, ⟨fun q => ?_, fun q => ?_, ?_⟩, cyc, past, sready, by rw [h]⟩
  · rw [h]
    exact CoreRegs.s_setS ..
  · rw [h]
    exact CoreRegs.sb_setS ..
  · rw [h]
    exact CoreRegs.setS_frame ..

/-- A core that has gone on with its registers as they were shows a branch. -/
theorem branchEffect_of_core {pc : BitVec 12} {cyc : Nat} {past : Bool}
    (h : t.core n = { s.core n with ctl := { (s.core n).ctl with pc := pc, cyc := cyc, pastEnd := past } }) :
    branchEffect s t n pc :=
  ⟨onlyCore_of_core hframe hother h, by rw [h], cyc, past, (s.core n).ctl.sready, by rw [h]⟩

end

section
variable (s : State) (n t lat d r : Nat) (v : Word) (b : Bool) (target : BitVec 12)

theorem scalarEffect_advance : scalarEffect s ((s.putS n t lat r v b).advance n t d) n r v b (nextPc s n) :=
  scalarEffect_of_core (cyc := (s.putS n t lat r v b).after n t d) (past := decide ((s.core n).ctl.pc = 0xFFF))
    (sready := (s.core n).ctl.sready.set r (s.after n t lat)) (by simp) (fun m hm => by simp [hm]) (by simp [nextPc])

theorem scalarEffect_goto : scalarEffect s ((s.putS n t lat r v b).goto n t d target) n r v b target :=
  scalarEffect_of_core (cyc := (s.putS n t lat r v b).after n t d) (past := false)
    (sready := (s.core n).ctl.sready.set r (s.after n t lat)) (by simp) (fun m hm => by simp [hm]) (by simp)

theorem branchEffect_advance : branchEffect s (s.advance n t d) n (nextPc s n) :=
  branchEffect_of_core (cyc := s.after n t d) (past := decide ((s.core n).ctl.pc = 0xFFF)) (by simp)
    (fun m hm => by simp [hm]) (by simp [nextPc])

theorem branchEffect_goto : branchEffect s (s.goto n t d target) n target :=
  branchEffect_of_core (cyc := s.after n t d) (past := false) (by simp) (fun m hm => by simp [hm]) (by simp)

end

/-! ### Arithmetic and moves (R138, R142) -/

/-- The ALU operation of a listed FN is that of the table. -/
theorem aluValue_of_mem {fn : Byte} {x y v : Word} (h : (fn, v) ∈ aluTable x y) :
    aluValue fn x y = some v ∧ (aluValue fn 0 0).isNone = false := by
  simp only [aluTable, List.mem_cons, List.not_mem_nil, or_false, Prod.mk.injEq] at h
  rcases h with ⟨rfl, rfl⟩ | ⟨rfl, rfl⟩ | ⟨rfl, rfl⟩ | ⟨rfl, rfl⟩ | ⟨rfl, rfl⟩ | ⟨rfl, rfl⟩ | ⟨rfl, rfl⟩ | ⟨rfl, rfl⟩ |
    ⟨rfl, rfl⟩ | ⟨rfl, rfl⟩ | ⟨rfl, rfl⟩ | ⟨rfl, rfl⟩ | ⟨rfl, rfl⟩ | ⟨rfl, rfl⟩ <;>
  simp [aluValue, BitVec.slt, BitVec.ult]

/-- The shift of a listed form is that of the table. -/
theorem shiValue_of_mem {imm : BitVec 14} {x v : Word} (h : (imm.toNat / 4096, v) ∈ shiTable x (imm.toNat % 32)) :
    shiValue imm x = some v ∧ (shiValue imm 0).isNone = false := by
  simp only [shiTable, List.mem_cons, List.not_mem_nil, or_false, Prod.mk.injEq] at h
  rcases h with ⟨hf, rfl⟩ | ⟨hf, rfl⟩ | ⟨hf, rfl⟩ <;> simp [shiValue, hf]

section
variable {s : State} {a : Issue} {srcs : List (BitVec 6)} (h : clearToIssue s a (needs (regs srcs) [] .scalar) = true)
include h

/-- A scalar operation that is clear to issue and breaks no rule writes its result and goes on. -/
theorem scalarOp_of_clear (rd : BitVec 6) (lat : Nat) {l : List CoreError} (hl : l = []) (f : CoreRegs → Word) :
    let n := a.core.val
    let t := issueCycle s n (needs (regs srcs) [] .scalar)
    scalarOp a rd srcs lat l f s = (s.putS n t lat rd.toNat (f (s.core n).regs)
      ((regs srcs).any (s.core n).regs.sb)).advance n t 1 := State.issue_effect h hl _

/-- Its result, and the OR of the sources' blots, show as a scalar effect. -/
theorem scalarEffect_scalarOp (rd : BitVec 6) (lat : Nat) {l : List CoreError} (hl : l = []) {f : CoreRegs → Word}
    {v : Word} {b : Bool} (hv : f (s.core a.core).regs = v) (hb : (regs srcs).any (s.core a.core).regs.sb = b) :
    scalarEffect s (scalarOp a rd srcs lat l f s) a.core rd.toNat v b (nextPc s a.core) := by
  subst hv hb
  rw [scalarOp_of_clear h rd lat hl f]
  exact scalarEffect_advance ..

end

/-- Settles O1: each instruction is a scalar operation whose value is that of the table. -/
theorem scalarResults : Obligations.ScalarResults := by
  intro s a rd rs1 rs2 imm big fn v n x y bx b2 i
  refine ⟨fun h hv => ?_, fun h => ?_, fun h => ?_⟩
  · obtain ⟨hval, hok⟩ := aluValue_of_mem hv
    have hblot : (regs [rs1, rs2]).any (s.core n).regs.sb = b2 := by simp [regs, b2, bx]
    exact ⟨_, rfl, scalarEffect_scalarOp (srcs := [rs1, rs2]) h rd _ (by rw [hok]; rfl) (by rw [hval]; rfl) hblot⟩
  · have hblot : (regs [rs1]).any (s.core n).regs.sb = bx := by simp [regs, bx]
    refine ⟨⟨_, rfl, ?_⟩, ⟨_, rfl, ?_⟩, ⟨_, rfl, ?_⟩, fun hv => ⟨_, rfl, ?_⟩⟩
    · exact scalarEffect_scalarOp (srcs := [rs1]) h rd 1 rfl rfl hblot
    · exact scalarEffect_scalarOp (srcs := [rs1]) h rd 1 rfl rfl hblot
    · exact scalarEffect_scalarOp (srcs := [rs1]) h rd 1 rfl rfl hblot
    · obtain ⟨hval, hok⟩ := shiValue_of_mem hv
      exact scalarEffect_scalarOp (srcs := [rs1]) h rd 1 (by rw [hok]; rfl) (by rw [hval]; rfl) hblot
  · exact ⟨_, rfl, scalarEffect_scalarOp (srcs := []) h rd 1 rfl rfl rfl⟩

/-- Settles O27: by the register that is written; an ADDI to s0 writes nothing. -/
theorem zeroRegister : Obligations.ZeroRegister := by
  refine ⟨fun r k q v b => ⟨rfl, rfl, rfl, fun hk => ?_, fun hk => ?_⟩, fun s a rs1 imm h => ?_⟩
  · rw [CoreRegs.s_setS]
    exact if_congr (and_iff_left hk) rfl rfl
  · rw [CoreRegs.sb_setS]
    exact if_congr (and_iff_left hk) rfl rfl
  · refine ⟨_, congrArg Host.Outcome.next (scalarOp_of_clear (srcs := [rs1]) h 0 1 rfl _), ?_⟩
    simp [CoreRegs.setS]

/-! ### LDW (R134, R142, R146) -/

/-- Settles O2: the word that its read finds, in the state that the read's ECC finding leaves. -/
theorem loadWordResult : Obligations.LoadWordResult := by
  intro s a rd rs1 imm ls n ad c u m h hb hlim hal
  have herr : lsErrs ad 4 ++ (s.core n).regs.blotErr (regs [rs1]) 0 = [] := by
    rw [lsErrs_eq_nil hlim hal, List.nil_append]
    exact CoreRegs.blotErr_singleton hb 0
  have hok : ls = .ok → u = s := fun hls => by simp only [u, hls, State.lsEcc]
  exact ⟨_, congrArg Host.Outcome.next (State.issue_effect h herr _), scalarEffect_advance .., hok⟩

/-! ### Branches (R142, R148, R164) -/

/-- A conditional branch, clear to issue on unblotted registers, goes on where its condition says. -/
theorem branchEffect_branchOp {s : State} {a : Issue} {rs1 rs2 : BitVec 6} {target pc : BitVec 12}
    {cond : Word → Word → Bool} (h : clearToIssue s a (needs [rs1.toNat, rs2.toNat] [] .scalar) = true)
    (hb : (s.core a.core).regs.sb rs1.toNat = false ∧ (s.core a.core).regs.sb rs2.toNat = false)
    (hpc : (if cond ((s.core a.core).regs.s rs1.toNat) ((s.core a.core).regs.s rs2.toNat) then target
      else nextPc s a.core) = pc) : branchEffect s (branchOp a rs1 rs2 target cond s) a.core pc := by
  have herr : (s.core a.core).regs.blotErr (regs [rs1, rs2]) 1 = [] := by simp [CoreRegs.blotErr, regs, hb]
  rw [show branchOp a rs1 rs2 target cond s = _ from State.issue_effect h herr _, ← hpc]
  dsimp only
  split
  · exact branchEffect_goto ..
  · exact branchEffect_advance ..

/-- Settles O4: each branch by its condition, LOOP by the value that it writes. -/
theorem branchResults : Obligations.BranchResults := by
  intro s a rs1 rs2 target n x y
  refine ⟨fun h hb => ⟨⟨_, rfl, ?_⟩, ⟨_, rfl, ?_⟩, ⟨_, rfl, ?_⟩, ⟨_, rfl, ?_⟩⟩, fun h => ?_, fun h hb => ?_, fun h hb => ?_⟩
  · exact branchEffect_branchOp h hb (if_congr beq_iff_eq rfl rfl)
  · exact branchEffect_branchOp h hb ((if_congr bne_iff_ne rfl rfl).trans (ite_not ..))
  · exact branchEffect_branchOp h hb (if_congr BitVec.slt_iff_toInt_lt rfl rfl)
  · have hge : (!x.slt y) = true ↔ ¬x.toInt < y.toInt := by
      rw [Bool.not_eq_true', Bool.eq_false_iff, Ne, BitVec.slt_iff_toInt_lt]
    exact branchEffect_branchOp h hb ((if_congr hge rfl rfl).trans (ite_not ..))
  · exact ⟨_, congrArg Host.Outcome.next (State.issue_effect h rfl _), scalarEffect_goto ..⟩
  · exact ⟨_, congrArg Host.Outcome.next (State.issue_effect h (CoreRegs.blotErr_singleton hb 0) _), branchEffect_goto ..⟩
  · refine ⟨_, congrArg Host.Outcome.next (State.issue_effect h (CoreRegs.blotErr_singleton hb 1) _), ?_⟩
    by_cases hx : x = 1
    · rw [if_pos hx, if_neg (not_not_intro (sub_eq_zero.2 hx))]
      exact scalarEffect_advance ..
    · rw [if_neg hx, if_pos (sub_ne_zero.2 hx)]
      exact scalarEffect_goto ..

/-! ### RDSYS (R147) -/

/-- A cycle that was not fixed takes a free value and is fixed from then on; the core stays at its instruction. -/
theorem State.fixCycle_unfixed {s : State} {n : Nat} (h : s.cycleFixed n = false) (c x : Nat) :
    (s.fixCycle n c x).free = s.free + 1 ∧ ((s.fixCycle n c x).core n).ctl.skew.isSome = true ∧
    nextPc (s.fixCycle n c x) n = nextPc s n := by
  rw [State.fixCycle, if_neg (by simp [h])]
  refine ⟨(State.modCtl_frame ..).2.2.2.2.2.2.2.2.2.2.2.2.2.2, ?_, ?_⟩
  · simp
  · simp only [nextPc, State.core_modCtl, if_true]
    rfl

/-- RDSYS of a listed code writes its system value in the state that reading the cycle leaves. -/
theorem exec_rdsys {s u : State} {a : Issue} (h : clearToIssue s a (needs [] [] .scalar) = true) (rd : BitVec 6)
    {imm : BitVec 14} (hcode : imm.toNat % 16 < 9)
    (hu : (if imm.toNat % 16 = 2 then s.fixCycle a.core (issueCycle s a.core (needs [] [] .scalar))
      (s.sysCycle a.core (issueCycle s a.core (needs [] [] .scalar))) else s) = u) :
    let n := a.core.val
    ∃ t, exec (.rdsys a rd imm) s = .next t ∧ t.free = u.free ∧ (t.core n).ctl.skew = (u.core n).ctl.skew ∧
      scalarEffect u t n rd.toNat (s.sysValue n (issueCycle s n (needs [] [] .scalar)) (imm.toNat % 16)) false
        (nextPc u n) := by
  subst hu
  have herr : (if 9 ≤ imm.toNat % 16 then [CoreErrKind.illegalInstr.err] else []) = [] := if_neg (Nat.not_le.2 hcode)
  refine ⟨_, congrArg Host.Outcome.next (State.issue_effect h herr _), ?_, ?_, scalarEffect_advance ..⟩ <;> simp

/-- Where the cycle is fixed, RDSYS of a listed code writes its system value and nothing else. -/
theorem exec_rdsys_fixed {s : State} {a : Issue} (h : clearToIssue s a (needs [] [] .scalar) = true) (rd : BitVec 6)
    {imm : BitVec 14} {v : Word} (hcode : imm.toNat % 16 < 9) (hfix : imm.toNat % 16 = 2 → s.cycleFixed a.core = true)
    (hv : s.sysValue a.core (issueCycle s a.core (needs [] [] .scalar)) (imm.toNat % 16) = v) :
    ∃ t, exec (.rdsys a rd imm) s = .next t ∧ scalarEffect s t a.core rd.toNat v false (nextPc s a.core) := by
  obtain ⟨t, hexec, -, -, heffect⟩ := exec_rdsys h rd hcode (ite_eq_right_iff.2 fun h2 => if_pos (hfix h2))
  exact ⟨t, hexec, hv ▸ heffect⟩

/-- Settles O5: by the code, and for the cycle by whether it is fixed. -/
theorem rdsysResult : Obligations.RdsysResult := by
  refine ⟨?_, ?_, ?_, ?_, ?_⟩
  · intro s a rd imm x v n h hx hv
    have hcode : imm.toNat % 16 < 9 ∧ imm.toNat % 16 ≠ 2 ∧
        s.sysValue n (issueCycle s n (needs [] [] .scalar)) (imm.toNat % 16) = v := by
      simp only [List.mem_cons, List.not_mem_nil, or_false, Prod.mk.injEq] at hv
      rcases hv with ⟨hc, rfl⟩ | ⟨hc, rfl⟩ | ⟨hc, rfl⟩ | ⟨hc, rfl⟩ | ⟨hc, rfl⟩ | ⟨hc, rfl⟩ | ⟨hc, rfl⟩ | ⟨hc, rfl⟩ <;>
      simp [hc, State.sysValue, hx, ctxNo]
    obtain ⟨hlt, hne, hval⟩ := hcode
    exact exec_rdsys_fixed h rd hlt (fun h2 => absurd h2 hne) hval
  · intro s a rd imm n h hst h2
    exact exec_rdsys_fixed h rd (by omega) (fun _ => by simp [State.cycleFixed, hst, n])
      (by simp [h2, State.sysValue, State.sysCycle, hst, n])
  · intro s a rd imm n h hst h2 hfree
    have hfix : s.cycleFixed n = false := by
      rcases hfree with hs | hb
      · simp [State.cycleFixed, hst, hs]
      · simp [State.cycleFixed, hst, hb]
    have hcyc : s.sysCycle n (issueCycle s n (needs [] [] .scalar)) = s.freeNext.toNat % s.strokeLen (kOf n) := by
      simp [State.sysCycle, hst, hfix]
    obtain ⟨t, hexec, hdraw, hskew, heffect⟩ := exec_rdsys h rd (by omega) (if_pos h2)
    have hval : s.sysValue n (issueCycle s n (needs [] [] .scalar)) (imm.toNat % 16) =
        BitVec.ofNat 32 (s.freeNext.toNat % s.strokeLen (kOf n)) := by simp [h2, State.sysValue, hcyc]
    obtain ⟨hfree1, hsome, hpc⟩ := State.fixCycle_unfixed hfix (issueCycle s n (needs [] [] .scalar))
      (s.sysCycle n (issueCycle s n (needs [] [] .scalar)))
    refine ⟨t, _, hexec, hdraw.trans hfree1, rfl, (congrArg Option.isSome hskew).trans hsome, ?_⟩
    rw [← hval, ← hcyc, ← hpc]
    exact heffect
  · intro s a rd imm k n h hst h2 hk hb
    have hfix : s.cycleFixed n = true := by simp [State.cycleFixed, hk, hb]
    exact exec_rdsys_fixed h rd (by omega) (fun _ => hfix) (by simp [h2, State.sysValue, State.sysCycle, hst, hfix, hk, n])
  · intro s a rd imm n h hst h9 t
    exact congrArg Host.Outcome.next (State.issue_error h hst (if_pos h9) _)

/-! ### Sections (R151 to R155) -/

theorem State.offsetErrs_eq_nil {s : State} {n : Nat} {off : Byte} (h : s.halfRate (kOf n) = false ∨ off.toNat < 128) :
    s.offsetErrs n off = [] := by
  refine if_neg fun ⟨hhalf, hoff⟩ => ?_
  rcases h with h | h
  · simp [h] at hhalf
  · omega

/-- A core that goes on and takes new control beside shows nothing else. -/
theorem advance_modCtl_effect (s : State) (n t d : Nat) (f : CoreCtl → CoreCtl) :
    onlyCore s ((s.advance n t d).modCtl n f) n ∧
    (((s.advance n t d).modCtl n f).core n).regs = (s.core n).regs ∧
    (((s.advance n t d).modCtl n f).core n).ctl = f { (s.core n).ctl with
      pc := nextPc s n, cyc := s.after n t d, pastEnd := decide ((s.core n).ctl.pc = 0xFFF) } := by
  have hcore : ((s.advance n t d).modCtl n f).core n = { s.core n with ctl := f { (s.core n).ctl with
      pc := nextPc s n, cyc := s.after n t d, pastEnd := decide ((s.core n).ctl.pc = 0xFFF) } } := by simp [nextPc]
  refine ⟨onlyCore_of_core (by simp) (fun m hm => by simp [hm]) hcore, ?_, ?_⟩ <;> rw [hcore]

/-- Settles O6: each SECT goes on and takes the control of its wait, or of a free section. -/
theorem sectionResults : Obligations.SectionResults := by
  refine ⟨?_, ?_, ?_⟩
  · intro s a off n h hoff
    have hissue := State.issue_effect h (State.offsetErrs_eq_nil hoff)
    exact ⟨⟨_, _, _, congrArg Host.Outcome.next (hissue _), advance_modCtl_effect ..⟩,
      ⟨_, _, _, congrArg Host.Outcome.next (hissue _), advance_modCtl_effect ..⟩⟩
  · intro s a rb off n now v h hoff hb hlate
    have herr : s.offsetErrs n off ++ (s.core n).regs.blotErr (regs [rb]) 2 ++
        (if (v - now).toInt ≤ 0 then [CoreErrKind.lateEntry.err 1] else []) = [] := by
      rw [State.offsetErrs_eq_nil hoff, if_neg (not_le.2 hlate), List.nil_append, List.append_nil]
      exact CoreRegs.blotErr_singleton hb 2
    exact ⟨_, _, _, congrArg Host.Outcome.next (State.issue_effect h herr _), advance_modCtl_effect ..⟩
  · intro s a ra rb off x n h hoff ⟨hba, hbb⟩ hx
    have herr : s.offsetErrs n off ++ (s.core n).regs.blotErr (regs [ra, rb]) 2 ++
        s.counterErrs n ((s.core n).regs.s ra.toNat) = [] := by
      simp [State.offsetErrs_eq_nil hoff, CoreRegs.blotErr, regs, hba, hbb, State.counterErrs, hx]
    refine ⟨_, s.after n (issueCycle s n (needs [ra.toNat, rb.toNat] [] .scalar)) 1, decide ((s.core n).ctl.pc = 0xFFF),
      congrArg Host.Outcome.next (State.issue_effect h herr _), ?_⟩
    rw [hx]
    exact advance_modCtl_effect ..

/-! ### HALT (R159, R329, R331) -/

/-- The closure notice that the producer of a free queue of core n is sent (R331). -/
def State.closureOf (s : State) (n q : Nat) : Option NetMsg :=
  if (s.core n).qs.mode q = 2 then (s.producer n q).map (fun e => NetMsg.notice e.1 e.2) else none

/-- The notices of some queues follow what is on the network, in queue order. -/
theorem State.foldl_closure (s : State) (n : Nat) (l : List Nat) (net : List NetMsg) :
    l.foldl (fun u q => if ((u.core n).qs.mode q = 2) then u.toProducer n q (fun c ch => .notice c ch) else u)
      ({ s with net := net } : State) = { s with net := net ++ l.filterMap (s.closureOf n) } := by
  induction l generalizing net with
  | nil => simp
  | cons q l ih =>
    have hstep : (if ((({ s with net := net } : State).core n).qs.mode q = 2) then
        ({ s with net := net } : State).toProducer n q (fun c ch => .notice c ch) else { s with net := net }) =
        ({ s with net := net ++ (s.closureOf n q).toList } : State) := by
      by_cases hm : (s.core n).qs.mode q = 2
      · rw [State.closureOf, if_pos hm]
        refine (if_pos hm).trans ?_
        rw [State.toProducer, show ({ s with net := net } : State).producer n q = s.producer n q from rfl]
        cases s.producer n q <;> simp [State.sendNet]
      · rw [State.closureOf, if_neg hm]
        exact (if_neg hm).trans (by simp)
    rw [List.foldl_cons, hstep, ih, List.filterMap_cons]
    cases s.closureOf n q <;> simp

theorem State.haltQueues_eq (s : State) (n : Nat) :
    s.haltQueues n = ({ s with net := s.net ++ (List.range 8).filterMap (s.closureOf n) } : State).modQs n (fun c =>
      { c with inq := [], haltClosed := true }) :=
  congrArg (fun u : State => u.modQs n fun c => { c with inq := [], haltClosed := true }) (s.foldl_closure n _ s.net)

/-- Closing the queues of a core changes its queues alone, and the network. -/
theorem State.core_haltQueues (s : State) (n m : Nat) : (s.haltQueues n).core m =
    if m = n then { s.core n with qs := { (s.core n).qs with inq := [], haltClosed := true } } else s.core m := by
  rw [State.haltQueues_eq, State.core_modQs]
  rfl

/-- Settles O7: HALT by its shared step, which sends the notices and closes the queues. -/
theorem haltResult : Obligations.HaltResult := by
  refine ⟨?_, ?_⟩
  · intro s a n h
    refine ⟨_, congrArg Host.Outcome.next (State.issue_effect h rfl _), ?_, ?_, ?_, ?_, fun m hm => ?_, ?_⟩
    · simp [State.core_haltQueues, n]
    · simp [State.core_haltQueues, n]
    · simp [State.core_haltQueues, nextPc, n]
    · simp [State.core_haltQueues, n]
    · simp [State.core_haltQueues, show m ≠ a.core.val from hm]
    · exact keepsBut_of_allSame (show OnlyCoresNet _ s by simp)
  · intro s n t
    have hnet : t.net = s.net ++ (List.range 8).filterMap (s.closureOf n) := by simp [t, State.haltQueues_eq]
    refine ⟨hnet, (s.core_haltQueues n n).trans (if_pos rfl), fun m hm => (s.core_haltQueues n m).trans (if_neg hm),
      keepsBut_of_allSame (State.haltQueues_frame s n)⟩

/-! ### Every command (R165, R540, R654) -/

/-- Settles O21: each arm of the dispatch answers a next state. -/
theorem everyCommandGoesOn : Obligations.EveryCommandGoesOn := by
  intro c s
  cases c <;> exact ⟨_, rfl⟩

end Sys2Proof.Machine
end

section
/-!
PROOF. Messages of programs: SEND, RECV, SELECT, QSTAT and what wakes a core that waits (O18).
-/
namespace Sys2Proof.Machine

/-! ### Errors of blocking operations (R156) -/

theorem Core.blockErrs_of_free {c : Core} (h : c.ctl.st = .free) : c.blockErrs = [] := if_neg (by simp [h])

/-! ### SEND (R263, R318 to R323, R331) -/

/-- A token of a SEND that finds 8 places held raises RULED_OVERFLOW, and enters its channel otherwise. -/
theorem State.sendEnter_cases (s : State) (n ch c : Nat) (x : Token) (pc : BitVec 12) :
    let u := s.takeChan n false ch c
    let old := (u.core n).qs.chan ch
    (8 ≤ old.length → s.sendEnter n ch c x pc =
      u.coreErrorIn n c { kind := .ruledOverflow, detail := 8 + ch, addr := 0, pc := some pc }) ∧
    (old.length < 8 → s.sendEnter n ch c x pc = u.enterChan n ch c x) :=
  ⟨fun h => if_pos h, fun h => if_neg (Nat.not_le.2 h)⟩

/-- A SEND on a free channel goes by what the channel can do: discard the token, send it, send it for a credit, or wait. -/
theorem State.startSend_cases (s : State) (n ch t : Nat) (x : Token) :
    (if (s.core n).qs.canSend ch then s.startSend n ch t x else s.block n (.send ch x)) =
      if (s.core n).qs.noticed ch then s.countOrphan n ch
      else if fdestKind ((s.core n).qs.fdest.get 0 ch) then s.addDue n (s.after n t 2) 16 (.leave ch x)
      else if 0 < (s.core n).qs.credit.get 0 ch then
        (s.modQs n (fun q => { q with credit := q.credit.set ch (q.credit.get 0 ch - 1) })).addDue n (s.after n t 2) 16
          (.leave ch x)
      else s.block n (.send ch x) := by
  unfold CoreQueues.canSend State.startSend
  cases hn : (s.core n).qs.noticed ch
  · cases hf : fdestKind ((s.core n).qs.fdest.get 0 ch)
    · by_cases hc : 0 < (s.core n).qs.credit.get 0 ch <;>
      simp only [hn, hf, hc, decide_true, decide_false, Bool.or_true, Bool.or_false, Bool.false_eq_true, if_true, if_false]
    · simp only [hn, hf, Bool.or_true, Bool.true_or, Bool.false_eq_true, if_true, if_false]
  · simp only [hn, Bool.true_or, if_true]

theorem State.runsOn_advance (s : State) (n t d : Nat) : (s.advance n t d).runsOn n = s.runsOn n := by
  simp [State.runsOn]

/-! ### Queues that have been filled (R277) -/

/-- The least of a list, as the fold that computes it: one of the list, and below all. -/
theorem foldl_min_mem_and_le (d : Nat) (r : List Nat) : r.foldl min d ∈ d :: r ∧ ∀ x ∈ d :: r, r.foldl min d ≤ x :=
  List.min?_eq_some_iff.1 List.min?_cons'

/-- Where nothing of a core's own happens by the cycle of a delivery to one of some queues, filling them changes nothing. -/
theorem State.fillQueues_of_quietBy {s : State} {n t : Nat} (h : quietBy s n t = true) {qs : List Nat} {x : Nat}
    (hx : x ∈ qs.flatMap fun q => ((s.core n).qs.queue q).map fun y => y.sent) (hxt : x ≤ t) :
    s.fillQueues n qs = s := by
  rw [State.fillQueues]
  cases hl : qs.flatMap fun q => ((s.core n).qs.queue q).map fun y => y.sent with
  | nil => exact absurd (hl ▸ hx) List.not_mem_nil
  | cons d r => exact State.coreRun_of_quietBy h (((foldl_min_mem_and_le d r).2 x (hl ▸ hx)).trans hxt)

/-! ### SELECT (R313, R325 to R327) -/

theorem mem_eligible {mask : Byte} {q : Nat} : q ∈ eligible mask ↔ q < 8 ∧ (mask = 0 ∨ mask.getLsbD q = true) := by
  simp [eligible]

theorem CoreQueues.mem_readySet {c : CoreQueues} {mask : Byte} {x q : Nat} : q ∈ c.readySet mask x ↔
    (q < 8 ∧ (mask = 0 ∨ mask.getLsbD q = true)) ∧ c.visible q (x - 1) ≠ [] := by
  simp [CoreQueues.readySet, mem_eligible]

/-- The queues that are ready stand in ascending order. -/
theorem CoreQueues.readySet_sorted (c : CoreQueues) (mask : Byte) (x : Nat) : (c.readySet mask x).Pairwise (· < ·) :=
  (List.pairwise_lt_range.filter _).filter _

theorem CoreQueues.mem_readySet_of_selects {c : CoreQueues} {mask : Byte} {x q : Nat} (h : c.selects mask x = some q) :
    q ∈ c.readySet mask x := by
  unfold CoreQueues.selects at h
  dsimp only at h
  split at h
  · split at h
    · rename_i p l hl
      exact Option.some.inj h ▸ (List.mem_filter.1 (hl ▸ List.mem_cons_self)).1
    · exact List.mem_of_mem_head? h
  · exact List.mem_of_mem_head? h

/-- Without ROTATE no queue below the selected one is ready. -/
theorem CoreQueues.selects_lowest {c : CoreQueues} {mask : Byte} {x q : Nat} (h : c.selects mask x = some q)
    (hr : c.rotate = false) {p : Nat} (hp : p < q) : p ∉ c.readySet mask x := by
  have hhead : (c.readySet mask x).head? = some q := by simpa [CoreQueues.selects, hr] using h
  obtain ⟨l, hl⟩ := List.head?_eq_some_iff.1 hhead
  intro hmem
  have hsorted := c.readySet_sorted mask x
  rw [hl] at hmem hsorted
  rcases List.mem_cons.1 hmem with rfl | hmem
  · exact lt_irrefl _ hp
  · exact lt_asymm hp ((List.pairwise_cons.1 hsorted).1 p hmem)

/-- A selection comes after the delivery of a token to one of the eligible queues. -/
theorem CoreQueues.exists_delivery_of_selectCycle {c : CoreQueues} {mask : Byte} {x t : Nat}
    (h : c.selectCycle mask x = some t) :
    ∃ d ∈ (eligible mask).flatMap (fun q => (c.queue q).map fun y => y.sent), d < t := by
  unfold CoreQueues.selectCycle at h
  split at h
  · cases h
  · rename_i d r hl
    have hmem := (foldl_min_mem_and_le d r).1
    rw [← hl] at hmem
    obtain ⟨q, hq, hd⟩ := List.mem_flatMap.1 hmem
    exact ⟨_, List.mem_flatMap.2 ⟨q, hq, List.mem_of_mem_take hd⟩, by have := Option.some.inj h; omega⟩

/-- Settles O18, operation by operation. -/
theorem messageResults : Obligations.MessageResults := by
  refine ⟨?_, ?_, ?_, ?_, ?_, ?_, ?_, ?_, ?_⟩
  · intro s a ra rb k n ch t h hfree
    have herr : (if (s.core n).qs.isFree ch then (s.core n).blockErrs else []) = [] := if_neg (by simp [hfree])
    exact congrArg Host.Outcome.next ((State.issue_effect h herr _).trans (if_pos (congrArg not hfree)))
  · intro s n ch c x pc u old t
    obtain ⟨hfull, hroom⟩ := s.sendEnter_cases n ch c x pc
    refine ⟨fun h => ?_, fun h => hfull h⟩
    rw [show t = _ from hroom h]
    refine ⟨?_, fun m hm => ?_, ?_, keepsBut_of_allSame (State.enterChan_frame ..)⟩
    · simp [State.enterChan, State.stamp, u, old]
    · simp [State.enterChan, hm, u]
    · simp [State.enterChan, u]
  · intro s a ra rb k n ch t u x h hst hfree hquiet
    have herr : (if (s.core n).qs.isFree ch then (s.core n).blockErrs else []) = [] := by
      rw [Core.blockErrs_of_free hst, ite_self]
    obtain ⟨hcan, -⟩ := clearToIssue_parts h
    have hrun : u.runsOn n = true := (State.runsOn_advance ..).trans (State.runsOn_of_canIssue hcan)
    have hqs : (u.core n).qs = (s.core n).qs := by simp [u]
    have hcore : u.coreRun n (min (t + 2) (t / 256 * 256 + 255)) = u := State.coreRun_of_quietBy hquiet (min_le_left _ _)
    have hsend := u.startSend_cases n ch t x
    rw [hqs, show u.after n t 2 = s.after n t 2 from State.after_advance ..] at hsend
    refine congrArg Host.Outcome.next ((State.issue_effect h herr _).trans ?_)
    refine (if_neg (ne_of_eq_of_ne (congrArg not hfree) Bool.false_ne_true)).trans ?_
    dsimp only
    rw [hcore, ← hsend]
    refine (if_neg (ne_of_eq_of_ne (congrArg not hrun) Bool.false_ne_true)).trans ?_
    rw [hqs]
  · intro s a ra rb q k n t l h hfree
    have herr : (if (s.core n).qs.mode q.toNat = 2 then (s.core n).blockErrs else []) = [] := by
      rcases hfree with hst | hmode
      · rw [Core.blockErrs_of_free hst, ite_self]
      · exact if_neg hmode
    refine congrArg Host.Outcome.next ((State.issue_effect h (by simpa using herr) _).trans (if_congr ?_ rfl rfl))
    rw [Bool.not_eq_true', Ne, ← List.isEmpty_iff, Bool.eq_false_iff]
  · intro s n q ra rb k x r t hb hw hq hquiet hdue
    have hfill : s.fillQueues n [q] = s := State.fillQueues_of_quietBy hquiet (x := x.sent) (by simp [hq]) le_rfl
    refine congrArg Host.Outcome.next ?_
    simp [effRecvWake, hb, hw, hfill, hq, hdue, t]
  · intro s a ra rb n t h hst
    exact congrArg Host.Outcome.next (State.issue_effect h (Core.blockErrs_of_free hst) _)
  · intro s n ra q t mask c u hb hw hcyc hquiet hdue hsel
    obtain ⟨d, hd, hdt⟩ := CoreQueues.exists_delivery_of_selectCycle hcyc
    have hfill : s.fillQueues n (eligible mask) = s := State.fillQueues_of_quietBy hquiet hd hdt.le
    have hexec : exec (.selectSelection n) s = .next (s.selectIn n ra mask t) := by
      refine congrArg Host.Outcome.next ?_
      simp [effSelectSelection, c, hb, hw, hfill, hcyc, hdue]
    rw [hexec, State.selectIn]
    dsimp only
    rw [hsel]
    refine ⟨fun hr => ?_, fun x hr hx => ?_⟩
    · exact congrArg Host.Outcome.next (if_neg (ne_of_eq_of_ne hr Bool.false_ne_true))
    · refine congrArg Host.Outcome.next ((if_pos hr).trans ?_)
      rw [hx]
  · intro c mask x q h
    obtain ⟨⟨hq, hmask⟩, hvis⟩ := CoreQueues.mem_readySet.1 (CoreQueues.mem_readySet_of_selects h)
    refine ⟨⟨hq, hmask, hvis⟩, fun hr p hp ⟨hm, hv⟩ => ?_⟩
    exact CoreQueues.selects_lowest h hr hp (CoreQueues.mem_readySet.2 ⟨⟨hp.trans hq, hm⟩, hv⟩)
  · intro s a ra q fn off n t w c v u h hfn
    exact congrArg Host.Outcome.next (State.issue_effect h (if_neg (by omega)) _)

end Sys2Proof.Machine
end

section
/-!
PROOF. The reads that capture the high word of the value they answer the low word of, and DEBUG_DUMP (O45).
-/
namespace Sys2Proof.Machine

/-- The word captured and the word answered make the value. -/
theorem hiWord_append_setWidth (x : DWord) : hiWord x ++ x.setWidth 32 = x := by
  refine BitVec.eq_of_getLsbD_eq fun i hi => ?_
  rw [BitVec.getLsbD_append]
  by_cases h : i < 32
  · simp [h]
  · simp [h, hiWord, show i - 32 < 32 by omega, show 32 + (i - 32) = i by omega]

/-! ### Stroke blocks and contexts -/

@[simp] theorem State.part_modStroke (s : State) (p q : Nat) (f : Stroke → Stroke) :
    (s.modStroke p f).part q = if q = p then { s.part p with stroke := f (s.part p).stroke } else s.part q :=
  s.part_modPart p q _

@[simp] theorem State.ctx_modRun (s : State) (c d : Nat) (f : CtxRun → CtxRun) :
    (s.modRun c f).ctx d = if d = c then { s.ctx c with run := f (s.ctx c).run } else s.ctx d :=
  s.ctx_modCtx c d _

@[simp] theorem State.part_answerRead (s : State) (w : Word) (p : Nat) : (s.answerRead w).part p = s.part p := rfl

@[simp] theorem State.ctx_answerRead (s : State) (w : Word) (c : Nat) : (s.answerRead w).ctx c = s.ctx c := rfl

/-! ### The registers of the low words -/

theorem State.strokeReg_count (s : State) (p : Nat) : s.strokeReg p 0 = (s.part p).stroke.count.setWidth 32 := rfl

theorem State.modeReg_tdcLo (s : State) (c : Fin 16) : s.modeReg (0x40 + 16 * c.val) = (s.ctx c).run.tdc.setWidth 32 := by
  have hs : slotIn (0x40 + 16 * c.val) 0x10 4 = none := slotIn_eq_none (.inr (by omega))
  have hb : blockIn (0x40 + 16 * c.val) 0x40 16 16 = some (c.val, 0) := blockIn_eq_some rfl c.isLt (by decide)
  simp only [State.modeReg, hs, hb, if_true, loWord]

/-! ### DEBUG_DUMP (R762) -/

section
variable {s sx : State} {h : Hdr} {r : Reply} {wh k : Byte}
  (hs : startsIn s h ((anySpec 0x0903 true false true).on (replyArgs r ++ [(28, 1, wh.toNat), (29, 1, k.toNat)])) sx)
  (hr : sx.refuses h ((anySpec 0x0903 true false true).on (replyArgs r ++ [(28, 1, wh.toNat), (29, 1, k.toNat)]))
    (decide (wh.toNat ≤ 2 ∧ k.toNat < 48) && (decide (h.fn = 0 ∨ h.fn = 5) || decide (quarterOf k.toNat = h.fn.val - 1)) &&
      replyOk h r) = none)
  (fi : List (DWord × Ecc)) (sp : List DWord)
include hs hr

/-- A dump of core state or an inkwell waits for no context: one that runs and is not frozen refuses it. -/
theorem effDebugDump_running (hw : wh ≠ 0)
    (hc : ∃ c ∈ sx.liveContexts (sx.partOf k.toNat), (sx.ctx c).run.frozen = false) :
    effDebugDump h r wh k fi sp s = (sx.complete h 0x0903 .wrongState 0).unclaim h s.host.nextJob :=
  (State.hostCmd_of_startsIn hs hr _).trans (congrArg (State.unclaim · h s.host.nextJob) (if_pos ⟨hw, by simpa using hc⟩))

theorem effDebugDump_answers
    (hc : wh = 0 ∨ ∀ c ∈ sx.liveContexts (sx.partOf k.toNat), (sx.ctx c).run.frozen = true) :
    let t := sx.quillFinds (dumpReads wh.toNat k.toNat) fi sp
    let d := t.dumpBody wh.toNat k.toNat
    effDebugDump h r wh k fi sp s = (t.reply h 0x0903 r (t.dumpHeader wh.toNat k.toNat d.length ++ d)).unclaim h s.host.nextJob := by
  refine (State.hostCmd_of_startsIn hs hr _).trans (congrArg (State.unclaim · h s.host.nextJob) (if_neg ?_))
  rintro ⟨hw, hany⟩
  obtain ⟨c, hmem, hrun⟩ := List.any_eq_true.1 hany
  have hfrozen := (hc.resolve_left hw) c hmem
  simp [hfrozen] at hrun

end

/-- Settles O45, read by read. -/
theorem capturingReads : Obligations.CapturingReads := by
  refine ⟨fun s p => ?_, fun s c => ?_, fun s => ⟨?_, ?_, ?_⟩, fun s sx h r wh k fi sp hs hr => ⟨fun hw hc => ?_, fun hc => ?_⟩⟩
  · refine ⟨_, rfl, ?_, ?_, ?_, fun q hq => ?_, keepsBut_of_allSame (effNwStrokeLoRead_frame p s)⟩
    · rw [effNwStrokeLoRead, State.strokeReg_count]; rfl
    · simp [effNwStrokeLoRead]
    · simp [effNwStrokeLoRead, hiWord_append_setWidth]
    · simp [effNwStrokeLoRead, hq]
  · refine ⟨_, rfl, ?_, ?_, ?_, fun d hd => ?_, keepsBut_of_allSame (effQlTdcLoRead_frame c s)⟩
    · rw [effQlTdcLoRead, State.modeReg_tdcLo]; rfl
    · simp [effQlTdcLoRead]
    · simp [effQlTdcLoRead, hiWord_append_setWidth]
    · simp [effQlTdcLoRead, hd]
  · exact ⟨_, rfl, rfl, rfl, hiWord_append_setWidth _, keepsBut_of_allSame (effCkTimeLoRead_frame s)⟩
  · exact ⟨_, rfl, rfl, rfl, hiWord_append_setWidth _, keepsBut_of_allSame (effEmEnergyLoRead_frame s)⟩
  · exact ⟨_, rfl, rfl, rfl, hiWord_append_setWidth _, keepsBut_of_allSame (effEmTimeLoRead_frame s)⟩
  · exact congrArg Host.Outcome.next (effDebugDump_running hs hr fi sp hw hc)
  · exact congrArg Host.Outcome.next (effDebugDump_answers hs hr fi sp hc)

end Sys2Proof.Machine
end

section
/-!
PROOF. Stroke edges, holds, crossing stalls, droop stretches and the count of a stroke (O36).
-/
namespace Sys2Proof.Machine

/-! ### Objects of a list updated one after the other -/

/-- Where each step of a fold updates the one object it names, a list without repetition updates each of its objects once. -/
theorem State.get_foldl_nodup {α : Type} {get : State → Nat → α} {upd : State → Nat → State} {f : α → α}
    (h : ∀ t i j, get (upd t i) j = if j = i then f (get t i) else get t j) {l : List Nat} (hl : l.Nodup) (s : State) (j : Nat) :
    get (l.foldl upd s) j = if j ∈ l then f (get s j) else get s j := by
  induction l generalizing s with
  | nil => simp
  | cons i l ih =>
    obtain ⟨hi, hl⟩ := List.nodup_cons.1 hl
    rw [List.foldl_cons, ih hl, h]
    by_cases hj : j = i
    · subst hj; simp [hi]
    · simp [hj]

/-- A fold whose every step leaves the start as it is. -/
theorem foldl_fixed_of_mem {α β : Type} {f : α → β → α} {a : α} {l : List β} (h : ∀ b ∈ l, f a b = a) : l.foldl f a = a := by
  induction l with
  | nil => rfl
  | cons b l ih =>
    obtain ⟨hb, hl⟩ := List.forall_mem_cons.1 h
    rw [List.foldl_cons, hb, ih hl]

theorem State.liveContexts_nodup (s : State) (p : Nat) : (s.liveContexts p).Nodup :=
  (List.nodup_range.map fun _ _ h => Nat.add_left_cancel h).filter _

theorem State.onContexts_nodup (s : State) (p : Nat) : (s.onContexts p).Nodup := (s.liveContexts_nodup p).filter _

/-! ### The edge (R197, R211, R212) -/

theorem effStrokeEdge_ofNoRules {s : State} {p : Fin 4} (hrun : s.strokesRun p = true) {rules : List RuleEcc}
    (hr : ∀ e ∈ rules, s.partOf e.k.val ≠ p.val) (o : Bool) (cal : List XCal) :
    effStrokeEdge p o rules cal s = (((if o = true then
      (s.modStroke p (fun x => { x with ovrMargin := satInc x.ovrMargin })).markLoss p else s).countDelay p).sendDigests p).tryEdge p
        true := by
  have hmine : rules.filter (fun e => decide (s.partOf e.k.val = p.val)) = [] := by simpa using hr
  simp [effStrokeEdge, hrun, hmine]

theorem effStrokeEdge_uncorrectable {s : State} {p : Fin 4} (hrun : s.strokesRun p = true) {e : RuleEcc}
    (hp : s.partOf e.k.val = p.val) (hu : e.uncorrectable = true) (o : Bool) (cal : List XCal) :
    effStrokeEdge p o [e] cal s =
      ((s.ruleEcc e).ruleFence e.k).partFault p 1 ((s.ruleEcc e).cluster e.k).router.err.read.toNat cal := by
  simp [effStrokeEdge, hrun, hp, hu]

theorem effHoldRelease_held {s : State} {p : Fin 4} (hh : (s.part p).stroke.holdSince.isSome = true)
    (hs : (s.part p).stroke.stall = none) (hc : (s.part p).ckptPause = none) : effHoldRelease p s = s.tryEdge p false := by
  simp [effHoldRelease, hh, hs, hc]

section
variable {s : State} {p : Nat} (hl : s.lagging p = none)
include hl

theorem State.tryEdge_met (hm : (s.modPart p (fun x => { x with lagHold := none })).holdsMet p = true) (first : Bool) :
    s.tryEdge p first = (s.modPart p (fun x => { x with lagHold := none })).strokeEdge p := by
  simp [State.tryEdge, hl, hm]

theorem State.tryEdge_unmet (hm : (s.modPart p (fun x => { x with lagHold := none })).holdsMet p = false) (first : Bool) :
    s.tryEdge p first = if first = true then
      ((s.modPart p (fun x => { x with lagHold := none })).modStroke p (fun x =>
        { x with holdCnt := satInc x.holdCnt, holdSince := some s.time })).markLoss p
    else s.modPart p (fun x => { x with lagHold := none }) := by
  simp [State.tryEdge, hl, hm]

end

/-! ### Crossings and droops (R207, R208, R777) -/

/-- Without a blocked SEND nothing goes on. -/
theorem State.resumeSends_of_unblocked {s : State} {p : Nat}
    (h : ∀ n ∈ s.coresOfPart p, ∀ ch tok, (s.core n).ctl.blockedOn ≠ some (.send ch tok)) : s.resumeSends p = s := by
  refine foldl_fixed_of_mem fun n hn => ?_
  split
  next ch tok hb => exact absurd hb (h n hn ch tok)
  next => rfl

theorem effDroopStretch_running {s : State} {r : Fin 8} (h : (s.region r).running = true) (c : BitVec 8) :
    effDroopStretch r c s = s.modRegion r (fun x => { x with stretch := satAdd x.stretch c.toNat }) := if_pos h

/-! ### The count of a stroke (R216 step 7, R746, R781) -/

@[simp] theorem State.part_modQPart (s : State) (p q : Nat) (f : QPart → QPart) : (s.modQPart p f).part q = s.part q := rfl
@[simp] theorem State.ctx_modQPart (s : State) (p c : Nat) (f : QPart → QPart) : (s.modQPart p f).ctx c = s.ctx c := rfl
@[simp] theorem State.region_modQPart (s : State) (p r : Nat) (f : QPart → QPart) : (s.modQPart p f).region r = s.region r := rfl
@[simp] theorem State.ctx_modStroke (s : State) (p c : Nat) (f : Stroke → Stroke) : (s.modStroke p f).ctx c = s.ctx c := rfl
@[simp] theorem State.region_modStroke (s : State) (p r : Nat) (f : Stroke → Stroke) : (s.modStroke p f).region r = s.region r := rfl

theorem State.part_syncLedgers (s : State) (p q : Nat) : (s.syncLedgers p).part q = s.part q := by
  simp [State.part]

theorem State.ctx_syncLedgers (s : State) (p c : Nat) : (s.syncLedgers p).ctx c = s.ctx c := by
  simp [State.ctx]

theorem State.ledger_syncLedgers (s : State) {p r : Nat} (hr : r < 8) (hp : partOfQuarter s.dev.mode (r / 2) = p) :
    ((s.syncLedgers p).region r).ledger = s.time := by
  have hget := State.get_foldl_nodup (f := fun x : Region => { x with ledger := s.time })
    (fun t i j => t.region_modRegion i j fun x => { x with ledger := s.time })
    ((List.nodup_range (n := 8)).filter fun r => decide (partOfQuarter s.dev.mode (r / 2) = p)) s r
  rw [State.syncLedgers, hget, if_pos (by simp [hr, hp])]

/-- The running contexts of partition p with one more stroke compared. -/
def State.countCompared (s : State) (p : Nat) : State :=
  (s.onContexts p).foldl (fun t c => t.modRun c (fun r => { r with lsIndex := r.lsIndex + 1 })) s

@[simp] theorem State.countCompared_frame (s : State) (p : Nat) : OnlyCtxs (s.countCompared p) s := by
  simp [State.countCompared]

theorem State.ctx_countCompared (s : State) (p c : Nat) : (s.countCompared p).ctx c =
    if c ∈ s.onContexts p then { s.ctx c with run := { (s.ctx c).run with lsIndex := (s.ctx c).run.lsIndex + 1 } } else s.ctx c :=
  State.get_foldl_nodup (f := fun x : Ctx => { x with run := { x.run with lsIndex := x.run.lsIndex + 1 } })
    (fun t i j => t.ctx_modRun i j fun r => { r with lsIndex := r.lsIndex + 1 }) (s.onContexts_nodup p) s c

/-- The strokes of partition p and of its running contexts counted and its ledgers set, before any context begins. -/
def State.countedStroke (s : State) (p : Nat) : State :=
  let s2 := ((s.countCompared p).syncLedgers p).modStroke p (fun x => { x with count := x.count + 1, loss := false })
  s2.modQPart p (fun q => { q with lastStroke := (s2.part p).stroke.count, lastStrokeTime := s.time })

theorem State.ctx_countedStroke (s : State) (p c : Nat) : (s.countedStroke p).ctx c = (s.countCompared p).ctx c := by
  rw [State.countedStroke]
  rw [State.ctx_modQPart, State.ctx_modStroke, State.ctx_syncLedgers]

theorem State.part_countCompared (s : State) (p q : Nat) : (s.countCompared p).part q = s.part q := by
  simp [State.part]

theorem State.stroke_countedStroke (s : State) (p : Nat) : ((s.countedStroke p).part p).stroke =
    { (s.part p).stroke with count := (s.part p).stroke.count + 1, loss := false } := by
  rw [State.countedStroke]
  dsimp only
  rw [State.part_modQPart, State.part_modStroke, if_pos rfl, State.part_syncLedgers, State.part_countCompared]

theorem State.ledger_countedStroke (s : State) (p r : Nat) (hr : r < 8) (hp : partOfQuarter s.dev.mode (r / 2) = p) :
    ((s.countedStroke p).region r).ledger = s.time := by
  have hdev : (s.countCompared p).dev = s.dev := by simp
  have htime : (s.countCompared p).time = s.time := by simp
  have hledger := (s.countCompared p).ledger_syncLedgers hr (hdev ▸ hp)
  rw [State.countedStroke]
  rw [State.region_modQPart, State.region_modStroke, hledger, htime]

theorem State.countStroke_eq (s : State) (p : Nat) : s.countStroke p = ((s.countedStroke p).liveContexts p).foldl (fun t c =>
    if (t.ctx c).lc.life = .starting then t.beginContext c else t) (s.countedStroke p) := by
  rw [State.countedStroke, State.countCompared, State.countStroke]

theorem State.liveContexts_congr {s t : State} {p : Nat} (h : ∀ c, (t.ctx c).lc.life = (s.ctx c).lc.life) :
    t.liveContexts p = s.liveContexts p := by
  simp only [State.liveContexts, h]

theorem State.life_countedStroke (s : State) (p c : Nat) : ((s.countedStroke p).ctx c).lc.life = (s.ctx c).lc.life := by
  rw [State.ctx_countedStroke, State.ctx_countCompared]
  split <;> rfl

/-- Where no context of the partition starts, none begins. -/
theorem State.countStroke_of_noneStarting {s : State} {p : Nat} (h : ∀ c ∈ s.liveContexts p, (s.ctx c).lc.life ≠ .starting) :
    s.countStroke p = s.countedStroke p := by
  have hlive : (s.countedStroke p).liveContexts p = s.liveContexts p := State.liveContexts_congr (s.life_countedStroke p)
  rw [State.countStroke_eq, hlive]
  refine foldl_fixed_of_mem fun c hc => if_neg ?_
  rw [State.life_countedStroke]
  exact h c hc

/-- Settles O36, clause by clause: each event by the conditions that its state meets. -/
theorem strokeResults : Obligations.StrokeResults := by
  refine ⟨fun s p o rules cal hrun hr => congrArg Host.Outcome.next (effStrokeEdge_ofNoRules hrun hr o cal), fun s p o e cal => ?_,
    fun s p hh hs hc => congrArg Host.Outcome.next (effHoldRelease_held hh hs hc), fun s p => ?_, fun s p hrun => ?_,
    fun s p r c => ?_, fun s p h => ?_⟩
  · exact fun hrun hp hu => congrArg Host.Outcome.next (effStrokeEdge_uncorrectable hrun hp hu o cal)
  · exact fun hl => ⟨State.tryEdge_met hl, fun hm => ⟨State.tryEdge_unmet hl hm false, State.tryEdge_unmet hl hm true⟩⟩
  · exact ⟨congrArg Host.Outcome.next (if_pos hrun), congrArg Host.Outcome.next (if_pos hrun)⟩
  · refine ⟨rfl, fun h => congrArg Host.Outcome.next (State.resumeSends_of_unblocked (p := p) fun n hn => ?_),
      fun hr => congrArg Host.Outcome.next (if_neg (by simp [hr])), fun hr => ?_⟩
    · exact h n hn
    · refine ⟨_, congrArg Host.Outcome.next (effDroopStretch_running hr c), ?_, fun q hq => ?_,
        keepsBut_of_allSame (State.modRegion_frame ..)⟩
      · simp
      · simp [hq]
  · rw [State.countStroke_of_noneStarting h]
    intro t
    refine ⟨?_, ?_, s.ledger_countedStroke p, fun c => ?_⟩
    · simp [t, State.stroke_countedStroke]
    · simp [t, State.stroke_countedStroke]
    · rw [State.ctx_countedStroke, State.ctx_countCompared]
      split <;> rfl

end Sys2Proof.Machine
end

section
/-!
PROOF. Summaries, hang watches, drift samples and their comparison, firn patrol and the hourly score (O60).
-/
namespace Sys2Proof.Machine

/-- What acts where its test holds: nothing is done where its conditions are not met, and its effect where they are. -/
theorem ite_of_test {b : Bool} {due : Prop} (h : b = true ↔ due) (x s : State) :
    (¬due → (if b = true then x else s) = s) ∧ (due → (if b = true then x else s) = x) :=
  ⟨fun hn => if_neg (mt h.1 hn), fun hd => if_pos (h.2 hd)⟩

/-- The same of a command. -/
theorem next_of_test {b : Bool} {due : Prop} (h : b = true ↔ due) (x s : State) :
    (¬due → (.next (if b = true then x else s) : Host.Outcome State Fault Refusal) = .next s) ∧
      (due → (.next (if b = true then x else s) : Host.Outcome State Fault Refusal) = .next x) :=
  (ite_of_test h x s).imp (fun hs hn => congrArg _ (hs hn)) (fun hx hd => congrArg _ (hx hd))

/-! ### Hang watches (R703, R704) -/

section
variable {s : State} {p : Fin 4} (hc : s.onContexts p ≠ []) (hp : (s.part p).ckptPause = none) (hr : (s.qpart p).replay ≠ 1)
include hc hp hr

theorem State.watched_of_running : s.watched p = true := by
  simp [State.watched, hc, hp, hr]

/-- Without a pending hold, the stroke watch alone runs. -/
theorem watches_withoutHold (hh : (s.part p).stroke.holdSince = none) (cal : List XCal) :
    effStrokeWatchExpiry p cal s =
        s.hang p 1 (max s.quill.health.strokeWatchMs.toNat (s.msSince (s.qpart p).lastStrokeTime)) cal ∧
      effHoldWatchExpiry p cal s = s := by
  have hw := State.watched_of_running hc hp hr
  simp [effStrokeWatchExpiry, effHoldWatchExpiry, State.holdPending, hw, hh]

/-- While a hold is pending, the hold watch alone runs. -/
theorem watches_withHold {t : Nat} (hh : (s.part p).stroke.holdSince = some t) (cal : List XCal) :
    effHoldWatchExpiry p cal s = s.hang p 2 (max (s.quill.health.holdWatchS.toNat * 1000) (s.msSince t)) cal ∧
      effStrokeWatchExpiry p cal s = s := by
  have hw := State.watched_of_running hc hp hr
  simp [effStrokeWatchExpiry, effHoldWatchExpiry, State.holdPending, hw, hh]

end

/-! ### Drift samples (R671 to R675) -/

/-- The state in which a cluster that has a spare again samples. -/
def State.resumeDrift (s : State) (k : Nat) : State :=
  if (s.driftOf k).suspended = true then (s.postDriftState k 4).modDrift k (fun x => { x with suspended := false }) else s

/-- What the live core of logical core l does that a sample can be taken of: its number, its running context, its MMA. -/
def State.liveTrace (s : State) (k l : Nat) : Option (Nat × Nat × MmaTrace) :=
  (s.physCore k l).bind (fun n => ((s.core n).ctl.context.filter (fun c => decide ((s.ctx c).lc.life = .on))).bind (fun c =>
    (s.core n).eng.sampled.map (fun t => (n, c, t))))

section
variable {s : State} {k l : Nat}

theorem State.liveTrace_eq_some {n c : Nat} {t : MmaTrace} (hn : s.physCore k l = some n) (hx : (s.core n).ctl.context = some c)
    (hl : (s.ctx c).lc.life = .on) (ht : (s.core n).eng.sampled = some t) : s.liveTrace k l = some (n, c, t) := by
  simp [State.liveTrace, hn, hx, hl, ht, Option.filter_some]

theorem State.liveTrace_eq_none (h : s.physCore k l = none ∨ ∃ n, s.physCore k l = some n ∧ ((s.core n).ctl.context = none ∨
      (∃ c, (s.core n).ctl.context = some c ∧ (s.ctx c).lc.life ≠ .on) ∨ (s.core n).eng.sampled = none)) :
    s.liveTrace k l = none := by
  rcases h with hn | ⟨n, hn, hx | ⟨c, hx, hl⟩ | ht⟩
  · simp [State.liveTrace, hn]
  · simp [State.liveTrace, hn, hx]
  · simp [State.liveTrace, hn, hx, hl]
  · simp [State.liveTrace, hn, ht]

end

section
variable {s : State} {k : Fin 48} (hc : s.onContexts (s.partOf k) ≠ []) (hp : (s.part (s.partOf k)).ckptPause = none)
  (hd : (s.driftOf k).sample = none)
include hc hp hd

theorem effDriftSample_withoutSpare (hs : s.sparesOf k = []) : effDriftSample k s = if (s.driftOf k).suspended = true then s
    else (s.postDriftState k 0).modDrift k (fun x => { x with suspended := true }) := by
  simp [effDriftSample, hc, hp, hd, hs]

variable (hs : s.sparesOf k ≠ [])
include hs

theorem effDriftSample_withSpare : effDriftSample k s = match (s.resumeDrift k).liveTrace k (s.driftOf k).next with
    | some (n, c, t) => ((s.resumeDrift k).takeSample k (s.driftOf k).next n c t (s.sparesOf k)).nextDrift k (s.driftOf k).next
    | none => ((s.resumeDrift k).modQuill (fun q => { q with skipped := satInc q.skipped })).nextDrift k (s.driftOf k).next := by
  simp only [effDriftSample, hd, hp]
  rw [if_neg (by simp [hc]), if_neg (by simp [hs])]
  rfl

theorem effDriftSample_taken {n c : Nat} {t : MmaTrace}
    (h : (s.resumeDrift k).liveTrace k (s.driftOf k).next = some (n, c, t)) : effDriftSample k s =
      ((s.resumeDrift k).takeSample k (s.driftOf k).next n c t (s.sparesOf k)).nextDrift k (s.driftOf k).next := by
  rw [effDriftSample_withSpare hc hp hd hs, h]

theorem effDriftSample_skipped (h : (s.resumeDrift k).liveTrace k (s.driftOf k).next = none) : effDriftSample k s =
    ((s.resumeDrift k).modQuill (fun q => { q with skipped := satInc q.skipped })).nextDrift k (s.driftOf k).next := by
  rw [effDriftSample_withSpare hc hp hd hs, h]

end

/-! ### The comparison of a drift sample (R674) -/

/-- The state in which the comparison of sample d is judged: what the spares' reads find is counted, and no sample is open. -/
def State.compareReads (s : State) (k : Nat) (d : DriftSample) (ea eb : List (Nat × Ecc)) : State :=
  let s1 := s.lsEccs d.spareA (s.issueBase d.spareA) ea
  let s2 := match d.spareB with | some n => s1.lsEccs n (s1.issueBase n) eb | none => s1
  s2.modDrift k (fun x => { x with sample := none })

/-- A mismatch is counted and posted with its outcome. -/
def State.mismatch (s : State) (k o : Nat) (d : DriftSample) : State :=
  (s.modQuill (fun q => { q with mismatches := satInc q.mismatches })).postDrift k o (if o = 2 then 1 else 2) d

section
variable {d : DriftSample} {a b : DWord}

theorem driftOutcome_live (hB : d.spareB ≠ none) (h : b = a) : driftOutcome d a b = 1 := by
  simp [driftOutcome, hB, h]

theorem driftOutcome_spare (ha : a ≠ d.crc) (hB : d.spareB ≠ none) (h : b = d.crc) : driftOutcome d a b = 2 := by
  simp [driftOutcome, hB, h, ha.symm]

theorem driftOutcome_unresolved (h : d.spareB = none ∨ (b ≠ a ∧ b ≠ d.crc)) : driftOutcome d a b = 3 := by
  rcases h with hB | ⟨hba, hbc⟩
  · simp [driftOutcome, hB]
  · simp [driftOutcome, hba, hbc]

variable {s : State} {k : Fin 48} (hd : (s.driftOf k).sample = some d) (ea eb : List (Nat × Ecc))
include hd

theorem effDriftCompare_agrees (h : a = d.crc) : effDriftCompare k a b ea eb s = (s.compareReads k d ea eb).driftEnded k true := by
  simp only [effDriftCompare, hd, if_pos h]
  rfl

theorem effDriftCompare_differs (h : a ≠ d.crc) {o : Nat} (ho : driftOutcome d a b = o) : effDriftCompare k a b ea eb s =
    (let t := (s.compareReads k d ea eb).mismatch k o d
     if o = 1 then (t.fenceAs d.live 2 2).driftKill k d.ctx
     else if o = 2 then t.fenceAs d.spareA 2 2
     else ((t.driftKill k d.ctx).scoreDrop 40).oweAll ([d.live, d.spareA] ++ d.spareB.toList)).driftEnded k false := by
  simp only [effDriftCompare, hd, if_neg h, ho]
  rfl

end

/-! ### Firn patrol (R676 to R680) -/

section
variable {s : State} {n : Fin 1536} {i : Nat} (hi : (s.care n.val).pattern = some i) (crc : DWord) (e : List (Nat × Ecc))
include hi

theorem effPatrolPatternEnd_pass : effPatrolPatternEnd n true crc e s =
    (let t := s.lsEccs n.val (s.issueBase n.val) e
     if (t.care n).retest then
       ((((t.postFirn n i 3 crc).moraineAppend 3
         [(16, 1, kOf n.val), (17, 1, jOf n.val), (20, 4, match t.packAt i with | some (_, j) => j | none => i),
          (24, 4, match t.packAt i with | some (p, _) => p.id.toNat | none => 0)]).scoreDrop 10).modCare n (fun y =>
            { y with marginal := true })).patternPassed n i
     else t.patternPassed n i) := by
  simp only [effPatrolPatternEnd, hi]
  rfl

theorem effPatrolPatternEnd_fail : effPatrolPatternEnd n false crc e s =
    (let t := s.lsEccs n.val (s.issueBase n.val) e
     let u := t.modQuill (fun q => { q with fails := satInc q.fails })
     if (t.care n).retest then
       ((u.fenceCore n 3).postFirn n i 2 crc).modCare n (fun y =>
         { y with pattern := none, retest := false, tested := false, testDue := false })
     else ((u.postFirn n i 1 crc).modCare n (fun y => { y with retest := true, failed := true })).loadPattern n i) := by
  simp only [effPatrolPatternEnd, hi]
  rfl

end

/-- Settles O60, clause by clause: each event by the conditions that its state meets. -/
theorem selfCare : Obligations.SelfCare := by
  refine ⟨fun s p => ?_, fun s p => ?_, fun s p => ?_, fun s => ?_, fun s p => ⟨rfl, ?_⟩,
    fun s p cal => ?_, fun s k => ?_, fun s k a b d ea eb => ?_, fun s n => ?_, fun s n crc i e => ?_, fun s => rfl⟩
  · exact next_of_test (by simp only [Bool.and_eq_true, Bool.or_eq_true, decide_eq_true_eq]) _ s
  · exact next_of_test (by simp only [Bool.and_eq_true, and_assoc]) _ s
  · exact next_of_test (by simp only [Bool.and_eq_true, decide_eq_true_eq, and_assoc]) _ s
  · exact next_of_test (by simp only [Bool.and_eq_true, decide_eq_true_eq, and_assoc]; rfl) _ s
  · exact ite_of_test (by simp only [Bool.and_eq_true, decide_eq_true_eq, and_assoc]) _ s
  · intro since hc hp hr
    refine ⟨fun hh => ?_, fun t hh => ?_⟩
    · obtain ⟨hstroke, hhold⟩ := watches_withoutHold hc hp hr hh cal
      exact ⟨congrArg Host.Outcome.next hstroke, congrArg Host.Outcome.next hhold⟩
    · obtain ⟨hhold, hstroke⟩ := watches_withHold hc hp hr hh cal
      exact ⟨congrArg Host.Outcome.next hhold, congrArg Host.Outcome.next hstroke⟩
  · intro d l u hc hp hd
    exact ⟨fun hs => congrArg Host.Outcome.next (effDriftSample_withoutSpare hc hp hd hs),
      fun hs n c t hn hx hl ht => congrArg Host.Outcome.next (effDriftSample_taken hc hp hd hs (State.liveTrace_eq_some hn hx hl ht)),
      fun hs hn => congrArg Host.Outcome.next (effDriftSample_skipped hc hp hd hs (State.liveTrace_eq_none hn))⟩
  · intro s1 s2 u v w hd
    refine ⟨fun ha => congrArg Host.Outcome.next (effDriftCompare_agrees hd ea eb ha), fun ha hB hb => ?_, fun ha hB hb => ?_,
      fun ha hB => ?_⟩
    · exact congrArg Host.Outcome.next (effDriftCompare_differs hd ea eb ha (driftOutcome_live hB hb))
    · exact congrArg Host.Outcome.next (effDriftCompare_differs hd ea eb ha (driftOutcome_spare ha hB hb))
    · exact congrArg Host.Outcome.next (effDriftCompare_differs hd ea eb ha (driftOutcome_unresolved hB))
  · exact next_of_test (by simp only [Bool.and_eq_true, decide_eq_true_eq, Option.isNone_iff_eq_none, and_assoc]) _ s
  · intro t x u hi
    have hpass := effPatrolPatternEnd_pass hi crc e
    have hfail := effPatrolPatternEnd_fail hi crc e
    refine ⟨fun hx => congrArg Host.Outcome.next (hpass.trans (if_neg (ne_of_eq_of_ne hx Bool.false_ne_true))),
      fun hx => congrArg Host.Outcome.next (hpass.trans (if_pos hx)),
      fun hx => congrArg Host.Outcome.next (hfail.trans (if_neg (ne_of_eq_of_ne hx Bool.false_ne_true))),
      fun hx => congrArg Host.Outcome.next (hfail.trans (if_pos hx))⟩

end Sys2Proof.Machine
end

section
/-!
PROOF. The host commands of contexts and the ends of their transfers: scrolls, checkpoints and restores, configurations, layouts and
watermarks (O51).
-/
namespace Sys2Proof.Machine

/-- A command that starts and that no check refuses answers what its body makes of the state with its queue entry taken. -/
theorem next_hostCmd {s sx t : State} {h : Hdr} {c : CmdSpec} {ok : Bool} {body : State → State} (hs : startsIn s h c sx)
    (hr : sx.refuses h c ok = none) (hb : body sx = t) :
    (.next (s.hostCmd h c ok body) : Host.Outcome State Fault Refusal) = .next (t.unclaim h s.host.nextJob) := by
  rw [State.hostCmd_of_startsIn hs hr, hb]

/-! ### The scroll that arrives (R243, R446) -/

section
variable {s : State} {i : Nat} {j : Job} {h : Hdr} {ha len : DWord} (hj : s.job i = some j) (hc : j.cmd = .loadScroll h ha len)
include hj hc

theorem effScrollReadComplete_failed : effScrollReadComplete i none s = s.finish i .aborted 0 := by
  simp only [effScrollReadComplete, hj, hc]

theorem effScrollReadComplete_started (b : List Byte) (hl : (s.ctx (s.hdrCtx h)).lc.life ≠ .off) :
    effScrollReadComplete i (some b) s = s.finish i .wrongState 0 := by
  simp only [effScrollReadComplete, hj, hc]
  exact if_pos hl

variable {b : List Byte} (hl : (s.ctx (s.hdrCtx h)).lc.life = .off)
include hl

theorem effScrollReadComplete_malformed (hp : parseScroll b len.toNat s.dev.gradeL = none) :
    effScrollReadComplete i (some b) s = s.finish i .badParam 0 := by
  simp only [effScrollReadComplete, hj, hc, hp]
  exact if_neg (not_not.2 hl)

variable {sc : Scroll} (hp : parseScroll b len.toNat s.dev.gradeL = some sc)
include hp

theorem effScrollReadComplete_refused {st : Status} (hr : s.loadRefusal (s.hdrCtx h) sc = some st) :
    effScrollReadComplete i (some b) s = s.finish i st 0 := by
  simp only [effScrollReadComplete, hj, hc, hp, hr]
  exact if_neg (not_not.2 hl)

theorem effScrollReadComplete_loaded (hr : s.loadRefusal (s.hdrCtx h) sc = none) : effScrollReadComplete i (some b) s =
    ((((s.unload (s.hdrCtx h)).modCtx (s.hdrCtx h) (fun x => { x with scroll := some { sc with base := j.value } })).refreshMargin
      (ctxPart (s.hdrCtx h))).write j.value b false).finish i .ok (sc.digest.toNat % 2 ^ 48) := by
  simp only [effScrollReadComplete, hj, hc, hp, hr]
  exact if_neg (not_not.2 hl)

end

/-! ### The mirror that arrives (R880, R842) -/

/-- The image slots that a mirror was written into, without their commit words. -/
def State.spoilSlots (s : State) (slots : List Nat) : State :=
  { s with store := slots.foldl (fun m a => m.uncommit a) s.store }

section
variable {s : State} {i : Nat} {j : Job} {h : Hdr} {src : Byte} {ha sq : DWord} {sc : Scroll} {slots : List Nat}
  (hj : s.job i = some j) (hc : j.cmd = .restore h src ha sq) (hsc : (s.ctx (s.hdrCtx h)).scroll = some sc)
  (hl : (s.ctx (s.hdrCtx h)).lc.life = .off) (hd : (s.ctx (s.hdrCtx h)).lc.restartDue = false)
  (hslots : s.newSlots (s.hdrCtx h) sc = some slots)
include hj hc hsc hl hd hslots

theorem effRestoreMirrorCopyDone_failed : effRestoreMirrorCopyDone i none s = (s.spoilSlots slots).finish i .aborted 0 := by
  simp [effRestoreMirrorCopyDone, hj, hc, hsc, hl, hd, hslots, State.spoilSlots]

variable {b : List Byte}

theorem effRestoreMirrorCopyDone_unauthentic
    (hr : mirrorRefusal ((List.range sc.parts).map (mirrorPartOf b)) (s.hdrCtx h) sc sq = some .authFail) :
    effRestoreMirrorCopyDone i (some b) s = s.finish i .authFail 0 := by
  simp [effRestoreMirrorCopyDone, hj, hc, hsc, hl, hd, hslots, hr]

theorem effRestoreMirrorCopyDone_refused {st : Status} (hst : st ≠ .authFail)
    (hr : mirrorRefusal ((List.range sc.parts).map (mirrorPartOf b)) (s.hdrCtx h) sc sq = some st) :
    effRestoreMirrorCopyDone i (some b) s = (s.spoilSlots slots).finish i st 0 := by
  simp [effRestoreMirrorCopyDone, hj, hc, hsc, hl, hd, hslots, hr, State.spoilSlots]

theorem effRestoreMirrorCopyDone_taken
    (hr : mirrorRefusal ((List.range sc.parts).map (mirrorPartOf b)) (s.hdrCtx h) sc sq = none) :
    let parts := (List.range sc.parts).map (mirrorPartOf b)
    let seq := fld (parts.getD 0 []) 8 8
    let m1 := (slots.zip parts).foldl (fun (m : Store) e => m.writePart e.1 (openedPart e.2)) s.store
    let m2 := slots.foldl (fun (m : Store) a => m.write (a + 4092) (toLe commitWord 4) false) m1
    effRestoreMirrorCopyDone i (some b) s = (({ s with store := m2 } : State).modLife (s.hdrCtx h) (fun l =>
      { l with named := some (BitVec.ofNat 64 seq) })).finish i .ok (seq % 2 ^ 48) := by
  simp [effRestoreMirrorCopyDone, hj, hc, hsc, hl, hd, hslots, hr]

end

/-! ### Reconfiguration (R288) -/

section
variable {s : State} {h : Hdr} {ru ci : Byte} {st : DWord} {sc : Scroll} (hsc : (s.ctx (s.hdrCtx h)).scroll = some sc)
  (hl : (s.ctx (s.hdrCtx h)).lc.life = .on) (h1 : (s.liveContexts (ctxPart (s.hdrCtx h))).length = 1) (cmd : Instr) (discard : Bool)
include hsc hl h1

/-- A RECONFIGURE of the partition is in progress. -/
theorem State.reconfigure_busy (hr : (s.part (ctxPart (s.hdrCtx h))).epoch.reconf.isSome = true) :
    s.reconfigure h cmd discard ru ci st = s.complete h 0x0206 .busy 0 := by
  simp [State.reconfigure, hsc, hl, h1, hr]

theorem State.reconfigure_recorded (hr : (s.part (ctxPart (s.hdrCtx h))).epoch.reconf = none)
    (hw : (s.ctx (s.hdrCtx h)).lc.work = none)
    (hk : reconfKnown sc (s.ctx (s.hdrCtx h)).run.layout ru.toNat ci.toNat = true)
    (hst : st = 0 ∨ (s.ctxStroke (s.hdrCtx h)).toNat + 2 ≤ st.toNat) :
    s.reconfigure h cmd discard ru ci st = (s.addJob h 0x0206 cmd 0).modEpoch (ctxPart (s.hdrCtx h)) (fun e =>
      { e with reconf := some { discard := discard, context := s.hdrCtx h, ruling := ru.toNat, configId := BitVec.ofNat 4 ci.toNat,
                                stroke := st, evaluated := 0, job := s.host.nextJob } }) := by
  have hlate : ¬(st ≠ 0 ∧ st.toNat < (s.ctxStroke (s.hdrCtx h)).toNat + 2) := fun ⟨h0, hlt⟩ => by
    rcases hst with rfl | hle
    · exact h0 rfl
    · omega
  simp only [State.reconfigure, hsc, hl, h1, hr, hw, hk]
  rw [if_neg (by simp), if_neg (by simp), if_neg (by simp), if_neg hlate]

end

/-- Settles O51, clause by clause: each command and each end of a transfer by the conditions that its state meets. -/
theorem contextData : Obligations.ContextData := by
  refine ⟨fun s sx h ha len => ?_, fun s i j h ha len => ?_, fun s sx h mi sm pd pw ha hl sc => ?_,
    fun s sx h src ha sq sc => ?_, fun s i j h src ha sq sc slots => ?_, fun s sx h ru ci st sc => ?_, fun s sx h ru ci st sc => ?_,
    fun s sx h ix => ?_, fun s sx h r => ?_⟩
  · intro c l hs hr
    refine ⟨fun hon => next_hostCmd hs hr (if_pos hon), fun hoff h0 => next_hostCmd hs hr ?_,
      fun hoff h0 hb => next_hostCmd hs hr ?_, fun b hoff h0 hb => next_hostCmd hs hr ?_⟩
    · exact (if_neg (not_not.2 hoff)).trans (if_pos h0)
    all_goals
      refine (if_neg (not_not.2 hoff)).trans ((if_neg h0).trans ?_)
      rw [hb]
  · intro c l hj hc
    exact ⟨congrArg Host.Outcome.next (effScrollReadComplete_failed hj hc),
      fun b hon => congrArg Host.Outcome.next (effScrollReadComplete_started hj hc b hon),
      fun b hoff hp => congrArg Host.Outcome.next (effScrollReadComplete_malformed hj hc hoff hp),
      fun b sc st hoff hp hr => congrArg Host.Outcome.next (effScrollReadComplete_refused hj hc hoff hp hr),
      fun b sc hoff hp hr => congrArg Host.Outcome.next (effScrollReadComplete_loaded hj hc hoff hp hr)⟩
  · intro c l k hs hr hsc hon hq
    have hstart : ¬((sx.ctx c).lc.life ≠ .on ∨ (sx.quietPoints c).isEmpty = true) :=
      not_or.2 ⟨not_not.2 hon, mt List.isEmpty_iff.1 hq⟩
    refine ⟨fun hb => next_hostCmd hs hr ?_, fun hb h1 hlen => next_hostCmd hs hr ?_, fun hb hlen => next_hostCmd hs hr ?_⟩
    all_goals
      dsimp only
      rw [hsc]
      refine (if_neg hstart).trans ?_
    · exact if_pos hb
    · exact (if_neg (ne_of_eq_of_ne hb Bool.false_ne_true)).trans (if_pos ⟨h1, hlen⟩)
    · exact (if_neg (ne_of_eq_of_ne hb Bool.false_ne_true)).trans (if_neg fun ⟨h1, hlt⟩ => absurd (hlen h1) (by omega))
  · intro c l hs hr hsc
    refine ⟨fun hbad => next_hostCmd hs hr ?_, fun hoff hdue h0 => next_hostCmd hs hr ?_, fun hoff hdue h0 => next_hostCmd hs hr ?_⟩
    all_goals
      dsimp only
      rw [hsc]
    · exact if_pos hbad
    · exact (if_neg (not_or.2 ⟨not_not.2 hoff, ne_of_eq_of_ne hdue Bool.false_ne_true⟩)).trans (if_pos h0)
    · exact (if_neg (not_or.2 ⟨not_not.2 hoff, ne_of_eq_of_ne hdue Bool.false_ne_true⟩)).trans (if_neg h0)
  · intro c l hj hc hsc hoff hdue hslots
    exact ⟨congrArg Host.Outcome.next (effRestoreMirrorCopyDone_failed hj hc hsc hoff hdue hslots),
      fun b hr => congrArg Host.Outcome.next (effRestoreMirrorCopyDone_unauthentic hj hc hsc hoff hdue hslots hr),
      fun b st hst hr => congrArg Host.Outcome.next (effRestoreMirrorCopyDone_refused hj hc hsc hoff hdue hslots hst hr),
      fun b hr => congrArg Host.Outcome.next (effRestoreMirrorCopyDone_taken hj hc hsc hoff hdue hslots hr)⟩
  · intro c l p r hs hr hsc hon h1 hw hk hst
    exact ⟨fun hb => next_hostCmd hs hr (State.reconfigure_busy hsc hon h1 _ _ hb),
      fun hb => next_hostCmd hs hr (State.reconfigure_recorded hsc hon h1 _ _ hb hw hk hst)⟩
  · intro c l p r hs hr hsc hon h1 hw hk hst
    exact ⟨fun hb => next_hostCmd hs hr (State.reconfigure_busy hsc hon h1 _ _ hb),
      fun hb => next_hostCmd hs hr (State.reconfigure_recorded hsc hon h1 _ _ hb hw hk hst)⟩
  · intro c hs hr
    refine ⟨fun hx => next_hostCmd hs hr (if_pos hx), fun sc hx hsc => next_hostCmd hs hr ?_, fun hx hsc => next_hostCmd hs hr ?_⟩
    all_goals
      refine (if_neg hx).trans ?_
      rw [hsc]
  · exact fun hs hr => next_hostCmd hs hr rfl

end Sys2Proof.Machine
end

section
/-!
PROOF. Ruled flits from their source entries to what LOCAL entries name, contributions, and releases of combining queues (O34).
-/
namespace Sys2Proof.Machine

/-! ### Deliveries at LOCAL entries (R191 to R193) -/

section
variable {s u : State} {src dst : RulingSlot} {h : Option ParityHit} {f : Flit} {a : Arrival}

/-- A flit that moves to the LOCAL entry `dst` arrives at what the entry names. -/
theorem State.deliverAt_of_move {kinds : Nat → Bool} (hport : dst.port = 0)
    (hm : s.move (placeOf src) (fun x => x.isAt (placeOf dst) && kinds (entryDstKind x.entry)) h = some (f, a, u)) :
    s.deliverAt src dst kinds h = some (u.arriveLocal a f) := by
  have hlocal : (placeOf dst).port = 0 := by simp [placeOf, hport]
  simp only [State.deliverAt, hlocal, if_true, hm, Option.map_some]

theorem next_deliverAt {kinds : Nat → Bool} (hport : dst.port = 0)
    (hm : s.move (placeOf src) (fun x => x.isAt (placeOf dst) && kinds (entryDstKind x.entry)) h = some (f, a, u)) (t : State) :
    (.next ((s.deliverAt src dst kinds h).getD t) : Host.Outcome State Fault Refusal) = .next (u.arriveLocal a f) := by
  rw [State.deliverAt_of_move hport hm, Option.getD_some]

/-- A flit that no entry reads leaves its source, and is discarded where it is lost. -/
theorem effTokenDelivery_unread (hd : s.deliverAt src dst (fun k => decide (k < 2)) h = none)
    (hp : (s.part (s.partOf (placeOf src).k)).paused = false) :
    let p := placeOf src
    let lost := fun (t : State) => (t.cluster p.k).router.flying.any (fun x => x.origins.contains p.key && !x.lost.isEmpty)
    let s1 := if lost s = true then s else s.takeAt p
    effTokenDelivery src dst h s = if lost s1 = true then s1.linkHit p.k p.key h else s1 := by
  rw [effTokenDelivery, hd]
  exact if_neg (ne_of_eq_of_ne hp Bool.false_ne_true)

end

section
variable {s : State} {a : Arrival} (f : Flit) {n : Nat} (hn : s.physCore (Place.ofKey a.place).k (entryDstCore a.entry) = some n)
include hn

theorem State.arriveLocal_queue (hk : entryDstKind a.entry = 0) : s.arriveLocal a f =
    s.deliver n (entryDstIndex a.entry % 8) (s.after (32 * (Place.ofKey a.place).k) a.cycle 4) (Place.ofKey a.place).slice f.token
      true := by
  simp [State.arriveLocal, hk, hn]

theorem State.arriveLocal_stream (hk : entryDstKind a.entry = 1) : s.arriveLocal a f =
    s.landFlit n (entryDstIndex a.entry % 8) { f with cycle := s.after (32 * (Place.ofKey a.place).k) a.cycle 4 } := by
  simp [State.arriveLocal, hk, hn]

theorem State.arriveLocal_steer (hk : entryDstKind a.entry = 2) : s.arriveLocal a f =
    s.steerDeliver n (entryDstIndex a.entry / 4) (entryDstIndex a.entry % 4) (s.after (32 * (Place.ofKey a.place).k) a.cycle 4)
      f.token := by
  simp [State.arriveLocal, hk, hn]

end

theorem State.arriveLocal_combining {s : State} {a : Arrival} (f : Flit) (hk : (Place.ofKey a.place).k < 48)
    (h3 : entryDstKind a.entry = 3) : s.arriveLocal a f =
      s.contribute (.cluster ⟨(Place.ofKey a.place).k, hk⟩ (BitVec.ofNat 4 (entryDstIndex a.entry)))
        (s.after (32 * (Place.ofKey a.place).k) a.cycle 4) (Place.ofKey a.place).slice f.token := by
  simp [State.arriveLocal, h3, hk]

/-! ### The way of a flit (R192 to R196) -/

/-- What is left of a flight that has arrived at one of its places. -/
def Flight.without (x : Flight) (a : Arrival) : List Flight :=
  let y : Flight := { x with due := x.due.erase a }
  if y.due.isEmpty && y.next.isEmpty && y.lost.isEmpty then [] else [y]

/-- The arrival that is taken is one of a flight of its origin, and the other flights stay. -/
theorem takeArrival_eq_some {key : Nat} {test : Arrival → Bool} {l rest : List Flight} {f : Flit} {a : Arrival}
    (h : takeArrival key test l = some ((f, a), rest)) :
    ∃ pre x post, l = pre ++ x :: post ∧ key ∈ x.origins ∧ a ∈ x.due ∧ test a = true ∧ f = x.flit ∧
      rest = pre ++ (x.without a ++ post) := by
  induction l generalizing rest with
  | nil => cases h
  | cons x l ih =>
    rw [takeArrival] at h
    split at h
    next b hb =>
      obtain ⟨⟨rfl, rfl⟩, rfl⟩ := (Prod.mk.inj (Option.some.inj h)).imp_left Prod.mk.inj
      split at hb
      next hkey =>
        refine ⟨[], x, l, rfl, List.contains_iff_mem.1 hkey, List.mem_of_find?_eq_some hb, List.find?_some hb, rfl, ?_⟩
        rw [Flight.without]
        dsimp only
        split <;> rfl
      next => cases hb
    next =>
      obtain ⟨⟨fa, rest'⟩, htake, heq⟩ := Option.map_eq_some_iff.1 h
      obtain ⟨rfl, rfl⟩ := Prod.mk.inj heq
      obtain ⟨pre, y, post, rfl, hkey, ha, ht, hflit, rfl⟩ := ih htake
      exact ⟨x :: pre, y, post, rfl, hkey, ha, ht, hflit, rfl⟩

theorem Flit.after_data (f : Flit) (h : Option ParityHit) : (f.after h).data = f.data := by
  unfold Flit.after
  split <;> rfl

theorem Flit.after_none (f : Flit) : f.after none = f := rfl

theorem Flit.after_blot (f : Flit) {h : Option ParityHit} (hh : h ≠ none) : (f.after h).blot = true := by
  rw [Flit.after, if_pos (Option.isSome_iff_ne_none.2 hh)]

theorem State.reach_eq_some {s u : State} {k key : Nat} {test : Arrival → Bool} {h : Option ParityHit} {f : Flit} {a : Arrival}
    (hr : s.reach k key test h = some (f, a, u)) :
    ∃ pre x post, (s.cluster k).router.flying = pre ++ x :: post ∧ key ∈ x.origins ∧ a ∈ x.due ∧ test a = true ∧
      f = x.flit.after h ∧ u = (s.modRouter k (fun r => { r with flying := pre ++ (x.without a ++ post) })).linkHit k key h := by
  obtain ⟨⟨⟨g, b⟩, rest⟩, htake, heq⟩ := Option.map_eq_some_iff.1 hr
  obtain ⟨pre, x, post, hl, hkey, ha, ht, rfl, rfl⟩ := takeArrival_eq_some htake
  obtain ⟨rfl, rfl, rfl⟩ := Prod.mk.inj heq |>.imp_right Prod.mk.inj
  exact ⟨pre, x, post, hl, hkey, ha, ht, rfl, rfl⟩

theorem State.move_eq_some {s u : State} {src : Place} {test : Arrival → Bool} {h : Option ParityHit} {f : Flit} {a : Arrival}
    (hm : s.move src test h = some (f, a, u)) :
    (s.part (s.partOf src.k)).paused = false ∧ ∃ v, (v = s ∨ s.reach src.k src.key test h = none ∧ v = s.takeAt src) ∧
      v.reach src.k src.key test h = some (f, a, u) := by
  rw [State.move] at hm
  split at hm
  next => cases hm
  next hp =>
    refine ⟨by simpa using hp, ?_⟩
    split at hm
    next r hr => exact ⟨s, .inl rfl, hr.trans hm⟩
    next hr => exact ⟨s.takeAt src, .inr ⟨hr, rfl⟩, hm⟩

/-! ### Taking a flit from its source (R193, R194, R293) -/

section
variable {s : State} {n : Nat} {te : Bool} {ch : Nat} {p : Place} {f : Flit} {r : List Flit} (hf : (s.core n).flits te ch = f :: r)
include hf

theorem State.takeFlit_idle (h : s.slotCycle p < f.cycle ∨ s.hasTaken p = true) : s.takeFlit n te ch p = s := by
  have hn : ¬(f.cycle ≤ s.slotCycle p ∧ s.hasTaken p = false) := fun ⟨hc, ht⟩ => by
    rcases h with hlt | htaken
    · omega
    · exact Bool.false_ne_true (ht.symm.trans htaken)
  rw [State.takeFlit, hf]
  exact if_neg hn

theorem State.takeFlit_launches (hc : f.cycle ≤ s.slotCycle p) (ht : s.hasTaken p = false) : s.takeFlit n te ch p =
    (s.modCore n (fun c => c.dropFlit te ch)).launch p.k [p.key] (s.slotCycle p) f (s.wayOf p) := by
  rw [State.takeFlit, hf]
  exact if_pos ⟨hc, ht⟩

end

section
variable (s : State) (k : Nat) (origins : List Nat) (sent : Nat) (f : Flit) (w : Spread)

theorem State.router_launch : ((s.launch k origins sent f w).cluster k).router =
    { (s.cluster k).router with
      taken := origins ++ (s.cluster k).router.taken,
      flying := (s.cluster k).router.flying ++
        [{ origins := origins, sent := sent, flit := f, due := w.due, next := w.next, lost := w.lost }] } := by
  have hfly : (s.launch k origins sent f w).cluster k = (s.modRouter k (fun r => { r with
      taken := origins ++ r.taken,
      flying := r.flying ++ [{ origins := origins, sent := sent, flit := f, due := w.due, next := w.next, lost := w.lost }] })).cluster
        k := by simp [State.launch, State.cluster]
  rw [hfly, State.modRouter, State.cluster_modCluster, if_pos rfl]

theorem State.core_launch (n : Nat) : (s.launch k origins sent f w).core n = s.core n := by
  simp [State.core]

theorem State.parts_launch_quiet (h : w.lost.length = 0 ∨ (s.part (s.partOf k)).epoch.firstStroke = false) :
    (s.launch k origins sent f w).parts = s.parts := by
  have hn : ¬(w.lost.length ≠ 0 ∧ (s.part (s.partOf k)).epoch.firstStroke = true) := fun ⟨hlen, hfirst⟩ =>
    h.elim hlen fun hlater => Bool.false_ne_true (hlater.symm.trans hfirst)
  rw [State.launch, State.countUnread, if_neg]
  · rfl
  · exact hn

/-- The copies of a flit that no entry reads are counted in the first stroke of a configuration (R293). -/
theorem State.parts_launch_counted (h : w.lost.length ≠ 0) (hf : (s.part (s.partOf k)).epoch.firstStroke = true) :
    (s.launch k origins sent f w).parts =
      (s.modEpoch (s.partOf k) (fun e => { e with reconfDrop := satAdd e.reconfDrop w.lost.length })).parts := by
  rw [State.launch, State.countUnread, if_pos]
  · rfl
  · exact ⟨h, hf⟩

end

/-! ### Contributions of free channels (R319, R348) -/

theorem State.freeContribution_arrives {s : State} {n ch : Nat} {fd : Word} {tok : Token} {post : List NetMsg} {k : Fin 48}
    (hnet : s.net = .freeTok n ch fd tok :: post) (hk : fdestKind fd = true) (hp : (s.part (s.partOf (kOf n))).paused = false)
    (hc : (s.core n).physCluster (fdestCluster fd) = some k.val) :
    let q : CombiningQueue := .cluster k (BitVec.ofNat 4 (fdestIndex fd))
    let t : State := { s with net := post }
    s.freeContribution n ch = t.contribute q (t.cqNow q) 4 tok := by
  simp [State.freeContribution, hnet, Machine.takeMsg, hk, hp, hc, k.isLt]

/-! ### Releases (R349, R350, R353) -/

theorem State.core_modCq (s : State) (q : CombiningQueue) (f : Combining → Combining) (n : Nat) : (s.modCq q f).core n = s.core n := by
  simp [State.core]

theorem effCombiningRelease_due {s : State} {q : CombiningQueue} {r : CqResult} {rest : List CqResult} {d : Nat}
    (hr : (s.cqOf q).results.get [] (cqIdx q) = r :: rest) (hd : s.cqDest q = some d)
    (hp : (s.part (s.partOf (kOf d))).paused = false) (hc : s.cycleDue d r.cycle = true) : effCombiningRelease q s =
      (s.modCq q (fun c => { c with results := c.results.set (cqIdx q) rest })).putResult q d ((s.cqOf q).cfg (cqIdx q)).queue r := by
  simp [effCombiningRelease, hr, hd, hp, hc]

theorem State.putResult_stale {s : State} (q : CombiningQueue) {d : Nat} (i : Nat) {r : CqResult} (h : s.epochTest d r.tok ≠ .pass) :
    s.putResult q d i r = s.dropStale d (s.epochTest d r.tok) := by
  rw [State.putResult]
  split
  next hp => exact absurd hp h
  next => rfl

theorem State.putResult_pass {s : State} (q : CombiningQueue) {d : Nat} (i : Nat) {r : CqResult} (h : s.epochTest d r.tok = .pass) :
    s.putResult q d i r = if (s.core d).qs.isClosed i = true then s.countRecvDrop d
      else if 16 ≤ ((s.core d).qs.queue i).length then s.cqFault q 4 r.piece else s.enqueue d i r.cycle 20 r.tok := by
  simp only [State.putResult, h]

/-- Settles O34, clause by clause: each delivery by the way of its flit, each release by the outcome of the epoch tests and the room. -/
theorem ruledDeliveries : Obligations.RuledDeliveries := by
  refine ⟨fun s src dst h f a u => ?_, fun s src dst h f a u => ?_, fun s src dst h f a u => ?_, fun s a f n => ?_,
    fun s src test h f a u hm => ?_, fun s n te ch p f r => ?_, fun s src dst h => ?_, fun s n ch fd tok post k => ?_,
    fun s q r rest d => ?_⟩
  · exact fun hport hm => next_deliverAt hport hm _
  · exact fun hport hm => next_deliverAt hport hm _
  · exact fun hport hm => next_deliverAt hport hm _
  · intro b i t hk hn
    exact ⟨State.arriveLocal_queue f hn, State.arriveLocal_stream f hn, State.arriveLocal_steer f hn,
      fun h3 => ⟨⟨_, hk⟩, rfl, State.arriveLocal_combining f hk h3⟩⟩
  · obtain ⟨hp, v, hv, hr⟩ := State.move_eq_some hm
    obtain ⟨pre, x, post, hl, hkey, ha, ht, rfl, rfl⟩ := State.reach_eq_some hr
    refine ⟨hp, v, hv, pre, x, post, hl, hkey, ha, ht, x.flit.after_data h, fun hh => ?_, x.flit.after_blot, rfl⟩
    rw [hh, Flit.after_none]
  · intro w k c hf
    refine ⟨State.takeFlit_idle hf, fun hc ht => ?_⟩
    have hframe := s.takeFlit_frame n te ch p
    rw [State.takeFlit_launches hf hc ht] at hframe ⊢
    refine ⟨?_, fun m hm => ?_, ?_, ?_, fun hq => ?_, fun hlost hfirst => ?_, keepsBut_of_allSame hframe⟩
    · simp [State.core_launch]
    · simp [State.core_launch, hm]
    · rw [State.router_launch]; rfl
    · simp [State.hasTaken, State.router_launch]
    · exact State.parts_launch_quiet (h := hq) ..
    · exact State.parts_launch_counted (h := hlost) (hf := hfirst) ..
  · intro p lost s1 hd hp
    have hx := effTokenDelivery_unread hd hp
    exact ⟨fun hl => congrArg Host.Outcome.next (hx.trans (if_pos hl)),
      fun hl => congrArg Host.Outcome.next (hx.trans (if_neg (ne_of_eq_of_ne hl Bool.false_ne_true)))⟩
  · intro v q hnet hk hp hc
    exact congrArg Host.Outcome.next (State.freeContribution_arrives hnet hk hp hc)
  · intro i g u hr hd hp hc
    have hx := effCombiningRelease_due hr hd hp hc
    refine ⟨fun hs => congrArg Host.Outcome.next (hx.trans (State.putResult_stale q _ hs)), fun hs hcl => ?_, fun hs hcl hlen => ?_,
      fun hs hcl hlen => ?_⟩
    all_goals
      refine congrArg Host.Outcome.next ((hx.trans (State.putResult_pass q _ hs)).trans ?_)
      rw [State.core_modCq]
    · exact if_pos hcl
    · exact (if_neg (ne_of_eq_of_ne hcl Bool.false_ne_true)).trans (if_neg (Nat.not_le.2 hlen))
    · exact (if_neg (ne_of_eq_of_ne hcl Bool.false_ne_true)).trans (if_pos hlen)

end Sys2Proof.Machine
end

section
/-!
PROOF. Messages of free channels under way: credits, closure notices and free tokens (O33).
-/
namespace Sys2Proof.Machine

/-! ### The oldest message of its kind -/

/-- The first message a test holds for is taken, and the others stay in order. -/
theorem takeMsg_append_cons {f : NetMsg → Bool} {pre post : List NetMsg} {m : NetMsg} (hpre : ∀ x ∈ pre, f x = false)
    (hm : f m = true) : takeMsg f (pre ++ m :: post) = some (m, pre ++ post) := by
  induction pre with
  | nil => exact if_pos hm
  | cons x pre ih =>
    obtain ⟨hx, hrest⟩ := List.forall_mem_cons.1 hpre
    rw [List.cons_append, takeMsg, if_neg (ne_of_eq_of_ne hx Bool.false_ne_true), ih hrest]
    rfl

/-! ### A SEND blocked on a channel (R321, R331) -/

section
variable {s : State} {n ch : Nat} {tok : Token}

theorem State.resumeSend_of_unblocked (h : (s.core n).ctl.blockedOn = none) : s.resumeSend n ch = s := by
  rw [State.resumeSend, h]

theorem State.resumeSend_of_blocked (h : (s.core n).ctl.blockedOn = some (.send ch tok)) (hw : s.waiting n = true)
    (hc : (s.core n).qs.canSend ch = true) : s.resumeSend n ch = (s.unblock n 2).leaveFree n ch tok := by
  rw [State.resumeSend, h]
  exact if_pos ⟨rfl, hw, hc⟩

theorem State.waiting_modQs (f : CoreQueues → CoreQueues) : (s.modQs n f).waiting n = s.waiting n := by
  rw [State.waiting, State.core_modQs, if_pos rfl]
  rfl

theorem State.qs_unblock (d : Nat) : ((s.unblock n d).core n).qs = (s.core n).qs := by
  simp [State.unblock]

theorem State.leaveFree_of_noticed (h : (s.core n).qs.noticed ch = true) : s.leaveFree n ch tok = s.countOrphan n ch :=
  if_pos h

end

/-- A channel that has a credit can take a token at once. -/
theorem CoreQueues.canSend_of_credit {c : CoreQueues} {ch : Nat} (h : 0 < c.credit.get 0 ch) : c.canSend ch = true := by
  rw [CoreQueues.canSend, decide_eq_true h, Bool.or_true]

theorem CoreQueues.canSend_of_noticed {c : CoreQueues} {ch : Nat} (h : c.noticed ch = true) : c.canSend ch = true := by
  rw [CoreQueues.canSend, h, Bool.true_or, Bool.true_or]

/-! ### Credits (R320 to R322) -/

/-- A credit more on egress channel `ch`, to at most 16. -/
def CoreQueues.credited (ch : Nat) (c : CoreQueues) : CoreQueues :=
  { c with credit := c.credit.set ch (min 16 (c.credit.get 0 ch + 1)) }

theorem CoreQueues.canSend_credited (c : CoreQueues) (ch : Nat) : (c.credited ch).canSend ch = true := by
  refine CoreQueues.canSend_of_credit ?_
  rw [CoreQueues.credited, Tbl.get_set, if_pos rfl]
  omega

theorem effCreditReturn_arrives {s : State} {n : Fin 1536} {ch : BitVec 3} {e : Byte} {pre post : List NetMsg}
    (hnet : s.net = pre ++ .credit n ch.toNat e :: post) (hpre : ∀ m ∈ pre, isCredit n ch.toNat m = false) :
    let u : State := { s with net := pre ++ post }
    effCreditReturn n ch s =
      if e = s.epochOf (kOf n) then (u.modQs n (CoreQueues.credited ch.toNat)).resumeSend n ch.toNat else u := by
  unfold effCreditReturn
  dsimp only
  rw [hnet, takeMsg_append_cons]
  · rfl
  · exact hpre
  · simp

/-! ### Closure notices (R331) -/

/-- The closure of the queue of egress channel `ch` is known. -/
def CoreQueues.closedAt (ch : Nat) (c : CoreQueues) : CoreQueues := { c with notice := c.notice.set ch true }

theorem CoreQueues.noticed_closedAt (c : CoreQueues) (ch : Nat) : (c.closedAt ch).noticed ch = true := by
  rw [CoreQueues.noticed, CoreQueues.closedAt, Tbl.get_set, if_pos rfl]

theorem effClosureNotice_arrives {s : State} {n : Fin 1536} {ch : BitVec 3} {pre post : List NetMsg}
    (hnet : s.net = pre ++ .notice n ch.toNat :: post) (hpre : ∀ m ∈ pre, isNotice n ch.toNat m = false) :
    effClosureNotice n ch s =
      (({ s with net := pre ++ post } : State).modQs n (CoreQueues.closedAt ch.toNat)).resumeSend n ch.toNat := by
  unfold effClosureNotice
  dsimp only
  rw [hnet, takeMsg_append_cons]
  · rfl
  · exact hpre
  · simp

/-! ### Free tokens (R284, R296, R315, R319, R330) -/

theorem effFreeTokenArrival_arrives {s : State} {n : Fin 1536} {ch : BitVec 3} {fd : Word} {tok : Token} {pre post : List NetMsg}
    {d : Nat} (hnet : (s.sendDue n ch.toNat).net = pre ++ .freeTok n ch.toNat fd tok :: post) (hk : fdestKind fd = false)
    (hpre : ∀ m ∈ pre, isFreeToken n ch.toNat false m = false)
    (hp : ((s.sendDue n ch.toNat).part ((s.sendDue n ch.toNat).partOf (kOf n))).paused = false)
    (hd : (((s.sendDue n ch.toNat).core n).physCluster (fdestCluster fd)).bind
      (fun j => (s.sendDue n ch.toNat).physCore j (fdestCore fd)) = some d) :
    effFreeTokenArrival n ch s = ({ s.sendDue n ch.toNat with net := pre ++ post } : State).deliver d (fdestIndex fd % 8)
      ((s.sendDue n ch.toNat).coreNow d) 21 tok false := by
  unfold effFreeTokenArrival
  dsimp only
  rw [hnet, takeMsg_append_cons]
  · dsimp only
    rw [if_neg (ne_of_eq_of_ne hp Bool.false_ne_true), hd]
    rfl
  · intro m hm
    have hother := hpre m hm
    cases m with
    | freeTok => simpa [isFreeToken] using hother
    | credit | notice | syncOp => rfl
  · simp [hk]

/-- A token of both present epochs, for an open queue with room, takes its place in the queue. -/
theorem State.deliver_enqueues {s : State} {n q : Nat} (cycle rank : Nat) {t : Token} {ruled : Bool}
    (hepochs : t.cepoch = s.epochOf (kOf n) ∧ t.repoch = (s.core n).steer.roleEpoch) (hopen : (s.core n).qs.isClosed q = false)
    (hmode : ruled = false ∨ (s.core n).qs.mode q ≠ 2) (hroom : ((s.core n).qs.queue q).length < 16) :
    s.deliver n q cycle rank t ruled = s.enqueue n q cycle rank t := by
  have hpass : s.epochTest n t = .pass := by simp [State.epochTest, hepochs]
  have hway : ((s.core n).qs.isClosed q || (ruled && decide ((s.core n).qs.mode q = 2))) = false := by
    rcases hmode with rfl | hmode
    · simp [hopen]
    · simp [hopen, hmode]
  rw [State.deliver, hpass]
  exact (if_neg (ne_of_eq_of_ne hway Bool.false_ne_true)).trans (if_neg (Nat.not_le.2 hroom))

section
variable (s : State) (n q cycle rank : Nat) (t : Token)

theorem State.core_enqueue (m : Nat) : (s.enqueue n q cycle rank t).core m = if m = n then
    { s.core n with qs := { (s.core n).qs with
      inq := (s.core n).qs.inq.set q (({ t with sent := cycle, rank := rank } : Token).into ((s.core n).qs.queue q)) } }
    else s.core m := s.core_modQs ..

theorem State.queue_enqueue (p : Nat) : ((s.enqueue n q cycle rank t).core n).qs.queue p =
    if p = q then ({ t with sent := cycle, rank := rank } : Token).into ((s.core n).qs.queue q) else (s.core n).qs.queue p := by
  rw [State.core_enqueue, if_pos rfl]
  exact Tbl.get_set ..

end

/-! ### The obligation -/

/-- Settles O33, clause by clause: what the message that is taken does, and whether a SEND blocked on its channel goes on. -/
theorem channelMessages : Obligations.ChannelMessages := by
  refine ⟨fun s n ch e pre post => ?_, fun s n ch pre post => ?_, fun s n ch fd tok pre post d => ?_,
    fun s n q cyc rank t ruled => ?_⟩
  · intro u k hnet hpre
    have hx := effCreditReturn_arrives hnet hpre
    refine ⟨fun he => ?_, fun he hb => ?_, fun tok he hb hw => ?_⟩
    all_goals refine congrArg Host.Outcome.next (hx.trans ?_)
    · exact if_neg he
    · refine (if_pos he).trans (State.resumeSend_of_unblocked ?_)
      rw [State.core_modQs, if_pos rfl]
      exact hb
    · refine (if_pos he).trans (State.resumeSend_of_blocked ?_ (State.waiting_modQs _ |>.trans hw) ?_)
      all_goals rw [State.core_modQs, if_pos rfl]
      · exact hb
      · exact CoreQueues.canSend_credited ..
  · intro u k v hnet hpre
    have hx := effClosureNotice_arrives hnet hpre
    have hcore : v.core k = { u.core k with qs := (u.core k).qs.closedAt ch.toNat } := (u.core_modQs ..).trans (if_pos rfl)
    have hnoticed : (v.core k).qs.noticed ch.toNat = true := hcore ▸ CoreQueues.noticed_closedAt ..
    refine ⟨fun hb => ?_, fun tok hb hw => ?_⟩
    all_goals refine congrArg Host.Outcome.next (hx.trans ?_)
    · exact State.resumeSend_of_unblocked (hcore ▸ hb)
    · calc v.resumeSend k ch.toNat
        _ = (v.unblock k 2).leaveFree k ch.toNat tok :=
          State.resumeSend_of_blocked (hcore ▸ hb) ((State.waiting_modQs _).trans hw) (CoreQueues.canSend_of_noticed hnoticed)
        _ = (v.unblock k 2).countOrphan k ch.toNat :=
          State.leaveFree_of_noticed ((congrArg (CoreQueues.noticed · ch.toNat) (State.qs_unblock 2)).trans hnoticed)
  · intro k hnet hk hpre hp hd
    exact congrArg Host.Outcome.next (effFreeTokenArrival_arrives hnet hk hpre hp hd)
  · intro c hepochs hopen hmode hroom u
    have hu : u = s.enqueue n q cyc rank t := State.deliver_enqueues cyc rank hepochs hopen hmode hroom
    have hcore := (s.core_enqueue n q cyc rank t n).trans (if_pos rfl)
    rw [hu]
    refine ⟨⟨?_, fun p hp => ?_⟩, fun m hm => ?_, ?_, ?_, ?_, keepsBut_of_allSame (State.enqueue_frame ..)⟩
    · exact (s.queue_enqueue n q cyc rank t q).trans (if_pos rfl)
    · exact (s.queue_enqueue n q cyc rank t p).trans (if_neg hp)
    · exact (s.core_enqueue n q cyc rank t m).trans (if_neg hm)
    all_goals rw [hcore]

end Sys2Proof.Machine
end

section
/-!
PROOF. Sync counters: their values, what was done to one in a cycle, the operations of cores (O15, O42).
-/
namespace Sys2Proof.Machine

/-! ### The value of a counter (R354, R356) -/

theorem reached_iff {x v : Word} : reached x v = true ↔ 0 ≤ (x - v).toInt := decide_eq_true_iff

section
variable (s : State)

@[simp] theorem State.counter_setCounter (c d : Counter) (v : Word) :
    (s.setCounter c v).counter d = if d = c then v else s.counter d := by
  cases c with
  | cluster k i =>
    cases d with
    | cluster k' i' =>
      by_cases hk : k' = k
      · subst hk
        simp [State.setCounter, State.counter, Tbl.get_set]
      · simp [State.setCounter, State.counter, hk]
    | device j => rfl
  | device i =>
    cases d with
    | cluster k' i' => rfl
    | device j => simp [State.setCounter, State.counter, Tbl.get_set]

/-- A counter takes the value that its mark shows, and no other counter changes. -/
@[simp] theorem State.counter_putMark (k i : Nat) (m : SyncMark) (d : Counter) :
    (s.putMark k i m).counter d = if d = .cluster k i then m.shown else s.counter d := by
  rw [← State.counter_setCounter]
  cases d with
  | cluster k' i' =>
    by_cases hk : k' = k
    · subst hk
      simp [State.putMark, State.counter]
    · simp [State.putMark, State.counter, hk]
  | device j => rfl

/-- A SET or an ADD of the management network or the host acts on its counter alone (R356, R360). -/
@[simp] theorem State.counter_syncApply (c : Counter) (b : Bool) (v : Word) (d : Counter) :
    (s.syncApply c b v).counter d = if d = c then (if b then v else s.counter c + v) else s.counter d := by
  cases c with
  | cluster k i =>
    rw [State.syncApply, State.counter_putMark]
    cases b <;> rfl
  | device i => exact State.counter_setCounter ..

/-! ### What counters leave unchanged -/

/-- A cluster without its sync counters. -/
def Cluster.unsynced (x : Cluster) : Cluster := { x with sync := [], marks := [] }

theorem State.unsynced_putMark (k i : Nat) (m : SyncMark) (j : Nat) :
    ((s.putMark k i m).cluster j).unsynced = (s.cluster j).unsynced := by
  by_cases hj : j = k
  · subst hj
    simp [State.putMark, State.setCounter, Cluster.unsynced]
  · simp [State.putMark, State.setCounter, hj]

theorem State.unsynced_syncApply (c : Counter) (b : Bool) (v : Word) :
    (∀ j, ((s.syncApply c b v).cluster j).unsynced = (s.cluster j).unsynced) ∧
    { (s.syncApply c b v).fabric with sync := [] } = { s.fabric with sync := [] } := by
  cases c with
  | cluster k i => exact ⟨s.unsynced_putMark k i _, rfl⟩
  | device i => exact ⟨fun _ => rfl, rfl⟩

end

/-! ### What was done to a counter in a cycle (R359) -/

/-- One more operation of a core, with the value that the counter then has. -/
def SyncMark.more (m : SyncMark) (l : Nat) (b : Bool) (v : Word) : SyncMark :=
  { m.apply l b v with shown := (m.apply l b v).value }

/-- A SET of the management network or the host, in place of those of the cores. -/
def SyncMark.farSet (m : SyncMark) (v : Word) : SyncMark := { m with far := some v, shown := v }

/-- Nothing done yet in a cycle to a counter of a value. -/
def SyncMark.begun (cyc : Nat) (now : Word) : SyncMark :=
  { cycle := cyc, start := now, set := none, far := none, added := 0, shown := now }

theorem SyncMark.apply_frame (m : SyncMark) (l : Nat) (b : Bool) (v : Word) :
    (m.apply l b v).cycle = m.cycle ∧ (m.apply l b v).start = m.start := by
  unfold SyncMark.apply
  repeat' split
  all_goals exact ⟨rfl, rfl⟩

theorem SyncMark.cycle_more (m : SyncMark) (l : Nat) (b : Bool) (v : Word) : (m.more l b v).cycle = m.cycle :=
  (m.apply_frame l b v).1

theorem SyncMark.start_more (m : SyncMark) (l : Nat) (b : Bool) (v : Word) : (m.more l b v).start = m.start :=
  (m.apply_frame l b v).2

section
variable (m : SyncMark) (l l' cyc : Nat) (now v w : Word)

theorem SyncMark.value_begun : (SyncMark.begun cyc now).value = now := BitVec.add_zero now

theorem SyncMark.value_more (b : Bool) : (m.more l b v).value = (m.more l b v).shown := rfl

theorem SyncMark.added_more_add : (m.more l false v).added = m.added + v := rfl

/-- Every ADD of a cycle counts. -/
theorem SyncMark.shown_more_add : (m.more l false v).shown = m.value + v := (BitVec.add_assoc ..).symm

/-- The first SET of a cycle stands below the ADDs. -/
theorem SyncMark.shown_more_set (h : m.set = none) (hfar : m.far = none) : (m.more l true v).shown = v + m.added := by
  simp [SyncMark.more, SyncMark.apply, SyncMark.value, h, hfar]

/-- Of two SETs that of the higher logical core prevails. -/
theorem SyncMark.shown_set_set (h : m.set = none) (hfar : m.far = none) :
    ((m.more l true v).more l' true w).shown = (if l' < l then v else w) + m.added := by
  by_cases hl : l' < l <;> simp [SyncMark.more, SyncMark.apply, SyncMark.value, h, hfar, hl]

theorem SyncMark.value_farSet : (m.farSet v).value = v + m.added := rfl

end

/-- An index is listed in a table, whatever its default, or it is not. -/
theorem Tbl.get_const_or_default {α : Type} (t : Tbl α) (i : Nat) : (∃ x, ∀ d, t.get d i = x) ∨ ∀ d, t.get d i = d := by
  induction t with
  | nil => exact .inr fun _ => rfl
  | cons e r ih =>
    by_cases he : e.1 = i
    · exact .inl ⟨e.2, fun _ => if_pos he⟩
    · simpa [Tbl.get, he] using ih

section
variable (s : State) (k i : Nat)

/-- The first operation of a cycle begins its mark with the value before it. -/
theorem State.syncByCore_begun {cyc : Nat} {d : SyncMark} (h : ((s.cluster k).marks.get d i).cycle ≠ cyc) (l : Nat)
    (b : Bool) (v : Word) :
    s.syncByCore k i l cyc b v = s.putMark k i ((SyncMark.begun cyc (s.counter (.cluster k i))).more l b v) := by
  have hold : (if (s.markOf k i cyc).cycle = cyc then s.markOf k i cyc else SyncMark.begun cyc (s.counter (.cluster k i))) =
      SyncMark.begun cyc (s.counter (.cluster k i)) := by
    rw [State.markOf]
    rcases Tbl.get_const_or_default (s.cluster k).marks i with ⟨x, hx⟩ | hx
    · rw [hx] at h ⊢
      by_cases hs : x.shown = s.counter (.cluster k i)
      · rw [if_pos hs, if_neg h]
      · rw [if_neg hs]
        exact if_pos rfl
    · rw [hx, ite_self]
      exact if_pos rfl
  exact congrArg (fun x : SyncMark => s.putMark k i (x.more l b v)) hold

variable {m : SyncMark}

theorem State.markOf_putMark (x : Nat) : (s.putMark k i m).markOf k i x = m := by
  have hget : ∀ d, ((s.putMark k i m).cluster k).marks.get d i = m := fun d => by simp [State.putMark, Tbl.get_set]
  simp [State.markOf, hget]

/-- The value at the end of a cycle is the one before what was done later, and the present one otherwise. -/
theorem State.counterAt_putMark (x : Nat) :
    (s.putMark k i m).counterAt (.cluster k i) x = if x < m.cycle then m.start else m.shown := by
  simp [State.counterAt, State.markOf_putMark]

/-- Operations of one cycle come together in one mark. -/
theorem State.syncByCore_putMark {cyc : Nat} (hm : m.cycle = cyc) (l : Nat) (b : Bool) (v : Word) :
    (s.putMark k i m).syncByCore k i l cyc b v = (s.putMark k i m).putMark k i (m.more l b v) := by
  rw [State.syncByCore, State.markOf_putMark, if_pos hm]
  rfl

theorem State.syncApply_putMark (v : Word) : (s.putMark k i m).syncApply (.cluster k i) true v =
    (s.putMark k i m).putMark k i (m.farSet v) := by
  rw [State.syncApply, State.markOf_putMark]
  rfl

end

/-! ### Operations of cores (R356 to R358, R361) -/

theorem CoreRegs.blotErr_pair {r : CoreRegs} {x y : BitVec 6} (h : r.sb x.toNat = false ∧ r.sb y.toNat = false) (d : Nat) :
    r.blotErr (regs [x, y]) d = [] := by
  simp [CoreRegs.blotErr, regs, h]

section
variable {s : State} {a : Issue} {ra rb : BitVec 6} (h : clearToIssue s a (needs [ra.toNat, rb.toNat] [] .scalar) = true)
  (hb : (s.core a.core).regs.sb ra.toNat = false ∧ (s.core a.core).regs.sb rb.toNat = false) {c : Counter}
  (hc : s.counterOf a.core ((s.core a.core).regs.s ra.toNat) = some c)
include hb hc

theorem syncErrs_eq_nil : (s.core a.core).regs.blotErr (regs [ra, rb]) 2 ++
    s.counterErrs a.core ((s.core a.core).regs.s ra.toNat) = [] := by
  rw [CoreRegs.blotErr_pair hb, State.counterErrs, hc]
  rfl

include h

/-- An operation on a counter elsewhere, or behind one of the core's own, travels on the management network. -/
theorem syncOp_travels (hway : ((s.core a.core).regs.s ra.toNat).toNat / 2 ^ 30 ≠ 0 ∨ s.syncOwed a.core c = true) (b : Bool) :
    syncOp a ra rb b s = (s.sendNet (.syncOp (some a.core.val) c b ((s.core a.core).regs.s rb.toNat))).advance a.core
      (issueCycle s a.core (needs [ra.toNat, rb.toNat] [] .scalar)) 1 := by
  refine (State.issue_effect h (syncErrs_eq_nil hb hc) _).trans ?_
  dsimp only
  rw [hc]
  cases c with
  | cluster k i =>
    have hoff : (scopeOwn ((s.core a.core).regs.s ra.toNat) && !s.syncOwed a.core (.cluster k i)) = false := by
      rcases hway with hscope | howed
      · rw [scopeOwn, decide_eq_false hscope, Bool.false_and]
      · rw [howed, Bool.not_true, Bool.and_false]
    dsimp only
    rw [hoff]
    rfl
  | device i => rfl

/-- WAIT_GE goes on or blocks by the value at the end of cycle issue + 2 (R361). -/
theorem effSyncWaitGe_eq (hst : (s.core a.core).ctl.st = .free) :
    let n := a.core.val
    let t := issueCycle s n (needs [ra.toNat, rb.toNat] [] .scalar)
    let v := (s.core n).regs.s rb.toNat
    effSyncWaitGe a ra rb s = if reached (s.counterAt c (s.after n t 2)) v && !s.syncOwed n c then s.advance n t 3
      else (s.advance n t 3).block n (.waitGe c v) := by
  have herr : (s.core a.core).blockErrs ++ (s.core a.core).regs.blotErr (regs [ra, rb]) 2 ++
      s.counterErrs a.core ((s.core a.core).regs.s ra.toNat) = [] := by
    rw [Core.blockErrs_of_free hst, List.nil_append, syncErrs_eq_nil hb hc]
  refine (State.issue_effect h herr _).trans ?_
  dsimp only
  rw [hc]

end

/-- An operation on a counter of the own cluster, with none of the core's own under way, acts in cycle issue + 2 (R358). -/
theorem syncOp_own {s : State} {a : Issue} {ra rb : BitVec 6}
    (h : clearToIssue s a (needs [ra.toNat, rb.toNat] [] .scalar) = true)
    (hb : (s.core a.core).regs.sb ra.toNat = false ∧ (s.core a.core).regs.sb rb.toNat = false)
    (hscope : ((s.core a.core).regs.s ra.toNat).toNat / 2 ^ 30 = 0)
    (howed : s.syncOwed a.core (.cluster (kOf a.core) (((s.core a.core).regs.s ra.toNat).toNat % 256)) = false) (b : Bool) :
    let n := a.core.val
    let r := (s.core n).regs
    let t := issueCycle s n (needs [ra.toNat, rb.toNat] [] .scalar)
    syncOp a ra rb b s = (s.syncByCore (kOf n) ((r.s ra.toNat).toNat % 256) (s.core n).ctl.lcore.toNat (s.after n t 2) b
      (r.s rb.toNat)).advance n t 1 := by
  have hc : s.counterOf a.core ((s.core a.core).regs.s ra.toNat) =
      some (.cluster (kOf a.core) (((s.core a.core).regs.s ra.toNat).toNat % 256)) := if_pos hscope
  refine (State.issue_effect h (syncErrs_eq_nil hb hc) _).trans ?_
  dsimp only
  rw [hc]
  dsimp only
  rw [scopeOwn, decide_eq_true hscope, howed]
  rfl

theorem effWaitGeWake_reached {s : State} {n : Fin 1536} {c : Counter} {v : Word}
    (hblock : (s.core n).ctl.blockedOn = some (.waitGe c v)) (hwait : s.waiting n = true) (hge : 0 ≤ (s.counter c - v).toInt)
    (howed : s.syncOwed n c = false) : effWaitGeWake n s = s.wakeGe n c := by
  simp only [effWaitGeWake, hblock, hwait, reached_iff.2 hge, howed, Bool.not_false, Bool.and_self, if_true]

/-! ### Operations under way (R359, R360) -/

/-- The oldest sync operation is taken, and the other messages stay in order. -/
theorem takeSync_append_cons {l : List NetMsg} (hl : takeSync l = none) (m : List NetMsg) (o : Option Nat) (c : Counter) (b : Bool)
    (v : Word) : takeSync (l ++ .syncOp o c b v :: m) = some ((c, b, v), l ++ m) := by
  induction l with
  | nil => rfl
  | cons x l ih =>
    cases x with
    | syncOp => cases hl
    | credit | notice | freeTok =>
      have hrest := ih (Option.map_eq_none_iff.1 hl)
      exact congrArg (Option.map fun e => (e.1, _ :: e.2)) hrest

/-- MGMT_SYNC_OP applies the oldest sync operation under way. -/
theorem effMgmtSyncOp_applies {s : State} {l m : List NetMsg} {o : Option Nat} {c : Counter} {b : Bool} {v : Word}
    (hnet : s.net = l ++ .syncOp o c b v :: m) (hl : takeSync l = none) :
    effMgmtSyncOp s = ({ s with net := l ++ m } : State).syncApply c b v := by
  rw [effMgmtSyncOp, hnet, takeSync_append_cons hl]

/-! ### SYNC_OP (R363, R561) -/

/-- What a SYNC_OP packet asks for: OP, the counter's name and the further fields. -/
def syncSpec (op : Nat) (sc cl : Byte) (ix : Half) (args : List (Nat × Nat × Nat)) : CmdSpec :=
  { anySpec 0x0307 true false false with
    work := true, args := [(16, 1, op), (17, 1, sc.toNat), (18, 1, cl.toNat), (20, 2, ix.toNat)] ++ args }

section
variable {s sx : State} {h : Hdr} {op : Nat} {sc cl : Byte} {ix : Half} {args : List (Nat × Nat × Nat)}
  (hs : startsIn s h (syncSpec op sc cl ix args) sx) (hr : sx.refuses h (syncSpec op sc cl ix args) (syncArgsOk h sc cl ix) = none)
  (body : Counter → State → State)
include hs hr

/-- A SYNC_OP that no check refuses acts on the counter it names. -/
theorem State.syncCmd_named {c : Counter} (hc : sx.syncTarget h sc cl ix = .inr c) {t : State} (hb : body c sx = t) :
    (.next (s.syncCmd h op sc cl ix args body) : Host.Outcome State Fault Refusal) = .next (t.unclaim h s.host.nextJob) :=
  next_hostCmd hs hr (by rw [hc]; exact hb)

/-- One that can name no counter completes with the status that says why. -/
theorem State.syncCmd_unnamed {st : Status} (hc : sx.syncTarget h sc cl ix = .inl st) :
    (.next (s.syncCmd h op sc cl ix args body) : Host.Outcome State Fault Refusal) =
      .next ((sx.complete h 0x0307 st 0).unclaim h s.host.nextJob) :=
  next_hostCmd hs hr (by rw [hc])

end

theorem effSyncOpWaitEnd_named {s : State} {i : Nat} {j : Job} {h : Hdr} {sc cl : Byte} {ix : Half} {v t : Word} {c : Counter}
    (hj : s.job i = some j) (hcmd : j.cmd = .syncOpWaitGe h sc cl ix v t) (hc : s.syncTarget h sc cl ix = .inr c) :
    effSyncOpWaitEnd i s = s.finish i (if reached (s.counter c) v then .ok else .timeout) (s.counter c).toNat := by
  simp only [effSyncOpWaitEnd, hj, hcmd, hc]

/-! ### The obligations -/

/-- Settles O15: SET, ADD and WAIT_GE by the way of their counter; the operations of a cycle by the mark that holds them. -/
theorem syncCounterOps : Obligations.SyncCounterOps := by
  refine ⟨?_, ?_, ?_, ?_, ?_, ?_, State.counter_setCounter⟩
  · intro s a ra rb n r id c t h hb hscope howed
    exact ⟨congrArg Host.Outcome.next (syncOp_own h hb hscope howed true),
      congrArg Host.Outcome.next (syncOp_own h hb hscope howed false)⟩
  · intro s a ra rb c n r id t h hb hway hc
    exact ⟨congrArg Host.Outcome.next (syncOp_travels h hb hc hway true),
      congrArg Host.Outcome.next (syncOp_travels h hb hc hway false)⟩
  · intro s a ra rb c n r t v h hb hc hst
    refine congrArg Host.Outcome.next ((effSyncWaitGe_eq h hb hc hst).trans (if_congr ?_ rfl rfl))
    rw [Bool.and_eq_true, reached_iff, Bool.not_eq_true']
  · intro s n c v hblock hwait hge howed
    exact congrArg Host.Outcome.next (effWaitGeWake_reached hblock hwait hge howed)
  · intro s l m o c b v hnet hl
    have heff := effMgmtSyncOp_applies hnet hl
    obtain ⟨hclusters, hfabric⟩ := ({ s with net := l ++ m } : State).unsynced_syncApply c b v
    refine ⟨_, congrArg Host.Outcome.next heff, ?_, fun d => State.counter_syncApply .., hclusters, hfabric,
      keepsBut_of_allSame (heff ▸ effMgmtSyncOp_frame s)⟩
    simp
  · intro s k i l1 l2 cyc u v w x none_ h
    have hone := s.syncByCore_begun k i (cyc := cyc) (d := none_) h
    have hcycle : ∀ b y, ((SyncMark.begun cyc (s.counter x)).more l1 b y).cycle = cyc := fun b y => SyncMark.cycle_more ..
    have htwo : ∀ b c y z, ((s.syncByCore k i l1 cyc b y).syncByCore k i l2 cyc c z).counter x =
        (((SyncMark.begun cyc (s.counter x)).more l1 b y).more l2 c z).shown := fun b c y z => by
      rw [hone, State.syncByCore_putMark _ _ _ (hcycle b y), State.counter_putMark, if_pos rfl]
    have hzero : ∀ y : Word, y + (SyncMark.begun cyc (s.counter x)).added = y := BitVec.add_zero
    refine ⟨(htwo ..).trans ?_, (htwo ..).trans ?_, (htwo ..).trans ?_, (htwo ..).trans ?_, ?_, fun y hy => ?_, ?_, ?_, ?_⟩
    · rw [SyncMark.shown_set_set _ _ _ _ _ rfl rfl, hzero]
    · rw [SyncMark.shown_more_set _ _ _ rfl rfl, SyncMark.added_more_add, BitVec.add_comm _ v, hzero]
    · rw [SyncMark.shown_more_add, SyncMark.value_more, SyncMark.shown_more_set _ _ _ rfl rfl, hzero]
    · rw [SyncMark.shown_more_add, SyncMark.value_more, SyncMark.shown_more_add, SyncMark.value_begun, BitVec.add_assoc]
    · have hfar : (((SyncMark.begun cyc (s.counter x)).more l1 false v).farSet w).cycle = cyc := hcycle false v
      rw [hone, State.syncApply_putMark, State.syncByCore_putMark _ _ _ hfar, State.counter_putMark, if_pos rfl,
        SyncMark.shown_more_add, SyncMark.value_farSet, SyncMark.added_more_add, BitVec.add_comm _ v, hzero,
        BitVec.add_assoc]
    · rw [hone, State.counterAt_putMark, SyncMark.cycle_more]
      exact (if_pos hy).trans (SyncMark.start_more ..)
    · rw [hone, State.counterAt_putMark, SyncMark.cycle_more]
      exact (if_neg (lt_irrefl cyc)).trans ((SyncMark.shown_more_set _ _ _ rfl rfl).trans (hzero v))
    · rw [hone, State.counter_putMark, if_pos rfl, SyncMark.shown_more_set _ _ _ rfl rfl, hzero]
    · rw [hone, State.counter_putMark, if_pos rfl, SyncMark.shown_more_add, SyncMark.value_begun]

/-- Settles O42: each SYNC_OP by whether it names a counter, with the value that the counter then has; the wait by its end. -/
theorem syncOpResults : Obligations.SyncOpResults := by
  refine ⟨?_, ?_, ?_, ?_, ?_, ?_, ?_, ?_, ?_⟩
  · intro s sx h sc cl ix v c x hs hr hc
    refine State.syncCmd_named hs hr _ hc ?_
    dsimp only
    rw [State.counter_syncApply, if_pos rfl, if_pos rfl]
  · intro s sx h sc cl ix v st hs hr hc
    exact State.syncCmd_unnamed hs hr _ hc
  · intro s sx h sc cl ix v c x hs hr hc
    refine State.syncCmd_named hs hr _ hc ?_
    dsimp only
    rw [State.counter_syncApply, if_pos rfl, if_neg Bool.false_ne_true]
  · intro s sx h sc cl ix v st hs hr hc
    exact State.syncCmd_unnamed hs hr _ hc
  · intro s sx h sc cl ix c x hs hr hc
    exact State.syncCmd_named hs hr _ hc rfl
  · intro s sx h sc cl ix st hs hr hc
    exact State.syncCmd_unnamed hs hr _ hc
  · intro s sx h sc cl ix v t c x hs hr hc
    exact State.syncCmd_named hs hr _ hc (if_congr reached_iff rfl rfl)
  · intro s sx h sc cl ix v t st hs hr hc
    exact State.syncCmd_unnamed hs hr _ hc
  · intro s i j h sc cl ix v t c x hj hcmd hc
    refine congrArg Host.Outcome.next ((effSyncOpWaitEnd_named hj hcmd hc).trans ?_)
    rw [if_congr reached_iff rfl rfl]

end Sys2Proof.Machine
end

section
/-!
PROOF. Landing counts and adds to the counters of peers: LANDWAIT and RADD (O16).
-/
namespace Sys2Proof.Machine

section
variable {s : State} {a : Issue} {ra rb : BitVec 6} (h : clearToIssue s a (needs [ra.toNat, rb.toNat] [] .scalar) = true)
  (hb : (s.core a.core).regs.sb ra.toNat = false ∧ (s.core a.core).regs.sb rb.toNat = false)
include h hb

/-- LANDWAIT on a window open for the core's context goes on or blocks by the landing count (R618). -/
theorem effLandwait_eq {w : Nat} (hw : ((s.core a.core).regs.s ra.toNat).toNat % 64 = w) (hst : (s.core a.core).ctl.st = .free)
    (hopen : (s.window w).opened = true)
    (hctx : (s.core a.core).ctl.context = some (4 * (s.window w).part + (s.window w).ctx)) :
    let n := a.core.val
    let t := issueCycle s n (needs [ra.toNat, rb.toNat] [] .scalar)
    let v := (s.core n).regs.s rb.toNat
    effLandwait a ra rb s = if reached (s.window w).landed v then s.advance n t 3
      else (s.advance n t 3).block n (.landwait w v) := by
  subst hw
  refine State.issue_effect h ?_ _
  rw [Core.blockErrs_of_free hst, CoreRegs.blotErr_pair hb, hopen, hctx]
  exact if_pos (decide_eq_true rfl)

variable (hscope : ((s.core a.core).regs.s ra.toNat).toNat / 2 ^ 30 = 3)
include hscope

/-- An RADD with no remote write open is sent at once (R620). -/
theorem effSyncRadd_sends (hopen : s.openWrites a.core = []) :
    let n := a.core.val
    let id := (s.core n).regs.s ra.toNat
    effSyncRadd a ra rb s = (s.sendAdd (BitVec.ofNat 16 (id.toNat / 2 ^ 14)) (id.toNat % 4096)
      ((s.core n).regs.s rb.toNat)).advance n (issueCycle s n (needs [ra.toNat, rb.toNat] [] .scalar)) 1 := by
  refine (State.issue_effect h ?_ _).trans ?_
  · rw [CoreRegs.blotErr_pair hb, if_pos hscope, hopen]
    rfl
  · rw [hopen]
    rfl

/-- An RADD behind open remote writes is held with their list, while fewer than 16 are held (R620). -/
theorem effSyncRadd_held (hopen : s.openWrites a.core ≠ [])
    (hroom : (s.fabric.adds.filter (fun x => decide (x.core = a.core.val))).length < 16) :
    let n := a.core.val
    let id := (s.core n).regs.s ra.toNat
    effSyncRadd a ra rb s = ({ s with fabric := { s.fabric with adds := s.fabric.adds ++ [{
      core := n, device := id.toNat / 2 ^ 14 % 2 ^ 16, counter := id.toNat % 4096, value := (s.core n).regs.s rb.toNat,
      waits := s.openWrites n }] } } : State).advance n (issueCycle s n (needs [ra.toNat, rb.toNat] [] .scalar)) 1 := by
  have hsome : (s.openWrites a.core).isEmpty = false := List.isEmpty_eq_false_iff.2 hopen
  refine (State.issue_effect h ?_ _).trans ?_
  · rw [CoreRegs.blotErr_pair hb, if_pos hscope, decide_eq_false (Nat.not_le.2 hroom), Bool.and_false]
    rfl
  · dsimp only
    rw [if_neg (ne_of_eq_of_ne hsome Bool.false_ne_true), BitVec.toNat_ofNat]

end

/-- An RADD of another scope raises ADDRESS with the counter ID (R357). -/
theorem effSyncRadd_misnamed {s : State} {a : Issue} {ra rb : BitVec 6}
    (h : clearToIssue s a (needs [ra.toNat, rb.toNat] [] .scalar) = true)
    (hb : (s.core a.core).regs.sb ra.toNat = false ∧ (s.core a.core).regs.sb rb.toNat = false)
    (hst : (s.core a.core).ctl.st = .free) (hscope : ((s.core a.core).regs.s ra.toNat).toNat / 2 ^ 30 ≠ 3)
    (hopen : s.openWrites a.core = []) :
    let n := a.core.val
    let t := issueCycle s n (needs [ra.toNat, rb.toNat] [] .scalar)
    effSyncRadd a ra rb s = (s.coreErrorIn n t (counterErr ((s.core n).regs.s ra.toNat))).spent n t := by
  refine State.issue_error h hst ?_ _
  rw [CoreRegs.blotErr_pair hb, if_neg hscope, hopen]
  rfl

/-- Settles O16: LANDWAIT by its landing count, RADD by its scope and the remote writes that are open. -/
theorem landwaitAndRadd : Obligations.LandwaitAndRadd := by
  refine ⟨?_, ?_, ?_, ?_, ?_⟩
  · intro s a ra rb n r w t v h hb hst hopen hctx
    exact congrArg Host.Outcome.next ((effLandwait_eq h hb rfl hst hopen hctx).trans (if_congr reached_iff rfl rfl))
  · intro s n w v hblock hwait hge
    refine congrArg Host.Outcome.next ?_
    simp only [effLandwaitWake, hblock, hwait, reached_iff.2 hge, Bool.and_self, if_true]
  · intro s a ra rb n r id t h hb hscope hopen
    exact congrArg Host.Outcome.next (effSyncRadd_sends h hb hscope hopen)
  · intro s a ra rb n r id t held h hb hscope hopen hroom
    exact congrArg Host.Outcome.next (effSyncRadd_held h hb hscope hopen hroom)
  · intro s a ra rb n r id t h hb hst hscope hopen
    exact congrArg Host.Outcome.next (effSyncRadd_misnamed h hb hst hscope hopen)

end Sys2Proof.Machine
end

section
/-!
PROOF. Deadlocks of blocked sends: what the detectors find, and how a cycle is broken (O35).
-/
namespace Sys2Proof.Machine

/-! ### Cycles of edges (R336, R337) -/

/-- The cores of a list each have an edge to the next, and the last has one to n. -/
def EdgesTo (next : Nat → Option Nat) (n : Nat) (l : List Nat) : Prop := (l ++ [n]).IsChain (fun a b => next a = some b)

section
variable {next : Nat → Option Nat}

/-- A path goes on by an edge of the core it leads to. -/
theorem edgesTo_append_singleton {n d : Nat} (hd : next n = some d) {l : List Nat} (h : EdgesTo next n l) :
    EdgesTo next d (l ++ [n]) := by
  rw [EdgesTo, List.append_assoc]
  exact List.isChain_split.2 ⟨h, List.isChain_pair.2 hd⟩

theorem edgesTo_dropWhile {n : Nat} (p : Nat → Bool) {l : List Nat} (h : EdgesTo next n l) : EdgesTo next n (l.dropWhile p) :=
  List.IsChain.suffix h ⟨l.takeWhile p, by rw [← List.append_assoc, List.takeWhile_append_dropWhile]⟩

/-- Each core of a path has an edge to one of the path, or to where it leads. -/
theorem exists_edge_of_edgesTo {n x : Nat} {l : List Nat} (h : EdgesTo next n l) (hx : x ∈ l) :
    ∃ d, next x = some d ∧ (d ∈ l ∨ d = n) := by
  obtain ⟨u, v, rfl⟩ := List.append_of_mem hx
  rw [EdgesTo, List.append_assoc] at h
  cases v with
  | nil =>
    obtain ⟨-, hedge, -⟩ := List.isChain_append_cons_cons.1 h
    exact ⟨n, hedge, .inr rfl⟩
  | cons d v =>
    obtain ⟨-, hedge, -⟩ := List.isChain_append_cons_cons.1 h
    exact ⟨d, hedge, .inl (by simp)⟩

/-- A list without what comes before an element of it still holds the element. -/
theorem mem_dropWhile_bne {n : Nat} {l : List Nat} (h : n ∈ l) : n ∈ l.dropWhile (fun y => y != n) := by
  rw [← List.takeWhile_append_dropWhile (p := fun y => y != n) (l := l), List.mem_append] at h
  exact h.resolve_left fun hn => by simpa using List.mem_takeWhile_imp hn

/-- What is found is a cycle: each of its cores has an edge to one of them. -/
theorem exists_edge_of_mem_followEdges {fuel n x : Nat} {path : List Nat} (hpath : EdgesTo next n path)
    (hx : x ∈ followEdges next fuel n path) : ∃ d, d ∈ followEdges next fuel n path ∧ next x = some d := by
  induction fuel generalizing n path with
  | zero => cases hx
  | succ f ih =>
    rw [followEdges] at hx ⊢
    by_cases hn : path.contains n = true
    · rw [if_pos hn] at hx ⊢
      obtain ⟨d, hd, hmem⟩ := exists_edge_of_edgesTo (edgesTo_dropWhile (fun y => y != n) hpath) hx
      exact ⟨d, hmem.elim id fun hdn => hdn.symm ▸ mem_dropWhile_bne (List.contains_iff_mem.1 hn), hd⟩
    · rw [if_neg hn] at hx ⊢
      cases hd : next n with
      | none => rw [hd] at hx; cases hx
      | some d =>
        rw [hd] at hx
        exact ih (edgesTo_append_singleton hd hpath) hx

theorem exists_edge_of_mem_firstCycle {starts : List Nat} {x : Nat} (hx : x ∈ firstCycle next starts) :
    ∃ d, d ∈ firstCycle next starts ∧ next x = some d := by
  unfold firstCycle at hx ⊢
  cases hf : (starts.map (fun n => followEdges next 1537 n [])).find? (fun l => !l.isEmpty) with
  | none => rw [hf] at hx; cases hx
  | some l =>
    obtain ⟨n, -, rfl⟩ := List.mem_map.1 (List.mem_of_find?_eq_some hf)
    rw [hf] at hx
    exact exists_edge_of_mem_followEdges (List.isChain_singleton n) hx

end

/-- A cycle turned to start with its lowest core has the same cores. -/
theorem State.mem_fromLowest (s : State) (l : List Nat) (n : Nat) : n ∈ s.fromLowest l ↔ n ∈ l := by
  cases l with
  | nil => rfl
  | cons a r =>
    rw [State.fromLowest, List.mem_append, or_comm, ← List.mem_append, List.takeWhile_append_dropWhile]

/-! ### The Quill's readings (R338) -/

theorem seenKey_ne_declaredKey (p : Nat) : seenKey p ≠ declaredKey p := by
  unfold seenKey declaredKey
  omega

theorem State.mem_wideCycles (s : State) (p : Nat) (cyc : List Nat) : cyc ∈ s.wideCycles p ↔
    spansClusters cyc = true ∧ ∃ n, n ∈ s.coresOfPart p ∧ followEdges s.edge 1537 n [] ≠ [] ∧
      cyc = s.fromLowest (followEdges s.edge 1537 n []) := by
  simp only [State.wideCycles, allCycles, List.mem_eraseDups, List.mem_filter, List.mem_map, Bool.not_eq_true',
    List.isEmpty_eq_false_iff]
  constructor
  · rintro ⟨⟨_, ⟨⟨n, hn, rfl⟩, hne⟩, rfl⟩, hspan⟩
    exact ⟨hspan, n, hn, hne, rfl⟩
  · rintro ⟨hspan, n, hn, hne, rfl⟩
    exact ⟨⟨_, ⟨⟨n, hn, rfl⟩, hne⟩, rfl⟩, hspan⟩

section
variable (s : State) (p : Fin 4)

theorem seen_effQuillDeadlockPoll : (effQuillDeadlockPoll p s).quill.deadlock.get [] (seenKey p) = s.wideCycles p := by
  simp [effQuillDeadlockPoll, State.modQuill, Tbl.get_set, seenKey_ne_declaredKey]

/-- A reading declares, beside what was declared, the cycles that the reading before showed too. -/
theorem mem_declared_effQuillDeadlockPoll (cyc : List Nat) :
    cyc ∈ (effQuillDeadlockPoll p s).quill.deadlock.get [] (declaredKey p) ↔ cyc ∈ s.quill.deadlock.get [] (declaredKey p) ∨
      (cyc ∈ s.wideCycles p ∧ cyc ∈ s.quill.deadlock.get [] (seenKey p)) := by
  by_cases hold : cyc ∈ s.quill.deadlock.get [] (declaredKey p)
  · simp [effQuillDeadlockPoll, State.modQuill, Tbl.get_set, hold]
  · simp [effQuillDeadlockPoll, State.modQuill, Tbl.get_set, hold]

end

/-! ### A cycle is broken (R339, R340) -/

/-- A core that is frozen. -/
def State.freezeCore (s : State) (n : Nat) : State := s.modCtl n (fun x => { x with st := .frozen })

/-- Freezing cores changes the state of those cores, once or more often, and of no other. -/
theorem State.core_foldl_freezeCore (l : List Nat) (s : State) (m : Nat) : (l.foldl State.freezeCore s).core m =
    if m ∈ l then { s.core m with ctl := { (s.core m).ctl with st := .frozen } } else s.core m := by
  induction l generalizing s with
  | nil => rfl
  | cons n l ih =>
    rw [List.foldl_cons, ih, State.freezeCore, State.core_modCtl]
    by_cases hn : m = n
    · subst hn
      simp
    · simp [hn]

@[simp] theorem State.freezeCore_frame (s : State) (n : Nat) : OnlyCores (s.freezeCore n) s := s.modCtl_frame ..

theorem State.foldl_freezeCore_frame (l : List Nat) (s : State) : OnlyCores (l.foldl State.freezeCore s) s := by
  simp

theorem State.breakDeadlock_eq {s : State} {a c : Nat} (hc : (s.core a).ctl.context = some c) (r : List Nat) (q : Bool) :
    ∃ src args, s.breakDeadlock (a :: r) q =
      (((a :: r).foldl State.freezeCore s).post 0x0060 2 src args (some (ctxPart c))).kill c (if q = true then 3 else 2) src [] := by
  rw [State.breakDeadlock, hc]
  exact ⟨_, _, rfl⟩

/-- Settles O35: each detector by the cycle of edges that it finds, the break by the cores that it freezes. -/
theorem deadlockResults : Obligations.DeadlockResults := by
  refine ⟨fun s k => ?_, fun s p => ?_, fun s k => ?_, fun s p cyc r => ?_, fun s a r c q hc => ?_⟩
  · intro cyc
    refine ⟨rfl, fun n hn => ?_⟩
    obtain ⟨d, hd, hedge⟩ := exists_edge_of_mem_firstCycle ((s.mem_fromLowest _ n).1 hn)
    obtain ⟨hs, hk⟩ := Option.filter_eq_some_iff.1 hedge
    exact ⟨d, (s.mem_fromLowest _ d).2 hd, hs, of_decide_eq_true hk⟩
  · refine ⟨_, rfl, keepsBut_of_allSame (effQuillDeadlockPoll_frame p s), fun cyc => ?_,
      mem_declared_effQuillDeadlockPoll s p, s.mem_wideCycles p⟩
    rw [seen_effQuillDeadlockPoll]
  · intro cyc hcyc
    exact congrArg Host.Outcome.next (if_neg (mt List.isEmpty_iff.1 hcyc))
  · intro q hq
    refine congrArg Host.Outcome.next ?_
    rw [effDeadlockDetected]
    dsimp only
    rw [hq]
    rfl
  · obtain ⟨src, args, heq⟩ := State.breakDeadlock_eq hc r q
    refine ⟨_, src, args, heq, fun n hn => ?_, fun n hn => ?_, keepsBut_of_allSame ?_⟩
    · rw [State.core_foldl_freezeCore, if_pos hn]
    · rw [State.core_foldl_freezeCore, if_neg hn]
    · exact State.foldl_freezeCore_frame ..

end Sys2Proof.Machine
end

section
/-!
PROOF. The inkwell's service side: the flits of a landing and the walk of scrub (O37).
-/
namespace Sys2Proof.Machine

/-! ### Bytes of a unit, some of them left out (R417) -/

theorem Memory.read_writeSome (skip : Nat → Bool) (bs : List Byte) (m : List Host.Cell) (a n b : Nat) :
    Memory.read ((bs.zipIdx n).foldl (fun r e => if skip e.2 = true then r else Memory.write r (a + e.2) e.1) m) b =
      if a + n ≤ b ∧ b < a + n + bs.length ∧ skip (b - a) = false then bs.getD (b - a - n) 0 else Memory.read m b := by
  induction bs generalizing m n with
  | nil => exact (if_neg fun h => by rw [List.length_nil] at h; omega).symm
  | cons x r ih =>
    rw [List.zipIdx_cons, List.foldl_cons, ih, List.length_cons]
    by_cases hb : b = a + n
    · subst hb
      cases hs : skip n <;> simp [Memory.read_write, hs]
    · have hfirst : Memory.read (if skip n = true then m else Memory.write m (a + n) x) b = Memory.read m b := by
        cases skip n <;> simp [Memory.read_write, hb]
      rw [hfirst]
      refine ite_congr (propext (and_congr (by omega) (and_congr_left' (by omega)))) (fun h => ?_) (fun _ => rfl)
      rw [show b - a - n = b - a - (n + 1) + 1 by omega, List.getD_cons_succ]

/-! ### A service write of a unit (R412, R417, R420) -/

section
variable (s : State) (k : Nat) {off : Nat} (f : Flit) (hit : BitVec 32) (b : Nat) (hoff : off % 32 = 0)
include hoff

theorem inkBase_add_mod : (inkBase k + off) % 32 = 0 := by
  unfold inkBase
  omega

/-- A service write that no core write meets writes the whole unit; FILL follows in checking mode (R420). -/
theorem State.serviceWrite_alone : ∃ fills, (s.serviceWrite k off f 0).store =
    { s.store.writeUnit (inkBase k + off) (toLe f.data.toNat 32) f.blot with fills := fills } := by
  have hunit : s.store.write (inkBase k + off) (toLe f.data.toNat 32) f.blot =
      s.store.writeUnit (inkBase k + off) (toLe f.data.toNat 32) f.blot :=
    Store.write_within_unit _ _ _ (List.ne_nil_of_length_pos (by simp)) (by simp [inkBase_add_mod k hoff])
  rw [State.serviceWrite, if_pos rfl, hunit]
  cases (s.cluster k).ink.checking <;> exact ⟨_, rfl⟩

/-- The bytes after a service write: those that the core wrote in the same cycle stay (R417). -/
theorem State.byte_serviceWrite :
    (s.serviceWrite k off f hit).store.byte b =
      if inkBase k + off ≤ b ∧ b < inkBase k + off + 32 ∧ hit.getLsbD (b - (inkBase k + off)) = false then
        (toLe f.data.toNat 32).getD (b - (inkBase k + off)) 0
      else s.store.byte b := by
  by_cases hz : hit = 0
  · subst hz
    obtain ⟨fills, hstore⟩ := s.serviceWrite_alone k f hoff
    rw [hstore]
    refine (s.store.byte_writeUnit _ b _ f.blot).trans ?_
    simp
  · rw [State.serviceWrite, if_neg hz]
    refine (Memory.read_writeSome hit.getLsbD (toLe f.data.toNat 32) s.store.mem (inkBase k + off) 0 b).trans ?_
    rw [length_toLe, Nat.add_zero, Nat.sub_zero]
    rfl

/-- The blots after a service write: the unit takes the flit's, unless the core wrote in it (R417). -/
theorem State.blotAt_serviceWrite :
    (s.serviceWrite k off f hit).store.blotAt b =
      if (inkBase k + off) / 32 = b / 32 ∧ hit = 0 then f.blot else s.store.blotAt b := by
  by_cases hz : hit = 0
  · subst hz
    obtain ⟨fills, hstore⟩ := s.serviceWrite_alone k f hoff
    rw [hstore]
    refine (Store.blotAt_writeUnit ..).trans ?_
    simp
  · rw [State.serviceWrite, if_neg hz, if_neg (fun h => hz h.2)]
    rfl

end

/-! ### One flit of a landing (R413, R427) -/

theorem State.landAdmits_eq_false_iff {s : State} {k off : Nat} {h : LandHeader} : s.landAdmits k h off = false ↔
    s.landOutside k h = true ∨ (h.isRemote = true ∧ s.windowAdmits k h off = false) := by
  rw [State.landAdmits, Bool.and_eq_false_iff, Bool.or_eq_false_iff, Bool.not_eq_false', Bool.not_eq_false']

theorem State.landOne_dropped {s : State} {k off : Nat} {h : LandHeader} (hno : s.landAdmits k h off = false) (f : Flit)
    (hit : BitVec 32) : s.landOne k h off f hit = s.countWinDropInk k 1 := by
  rw [State.landOne, hno]
  rfl

theorem State.landOne_local {s : State} {k : Nat} {h : LandHeader} (hin : s.landOutside k h = false)
    (hloc : h.isRemote = false) (off : Nat) (f : Flit) (hit : BitVec 32) :
    s.landOne k h off f hit = s.serviceWrite k off f hit := by
  have hyes : s.landAdmits k h off = true := by simp [State.landAdmits, hin, hloc]
  simp [State.landOne, hyes, hloc]

/-! ### The landing slot (R412) -/

/-- No landing begins while one is in progress (R412). -/
theorem State.beginLanding_of_landing {s : State} {k : Nat} {l : Landing} (h : (s.cluster k).ink.landing = some l) :
    s.beginLanding k = s := by
  simp only [State.beginLanding, h]

/-- A landing slot that writes m + 1 flits of the landing in progress (R412, R413, R417). -/
theorem effLandingSlotWrite_eq {s : State} {k : Fin 48} {l : Landing} {m : Nat} (ecc : List (Nat × Ecc)) (col : BitVec 64)
    (hpause : (s.part (s.partOf k)).ckptPause = none) (hon : s.domOn k = true) (hrun : s.liveContexts (s.partOf k) ≠ [])
    (hl : ((s.inkSettle k).cluster k).ink.landing = some l)
    (hm : slotFlits ((s.inkSettle k).streamOf l.core l.stream).length ((landFields l.header).count - l.done)
      ((landFields l.header).off + 32 * l.done) = m + 1) :
    let v := s.inkSettle k
    let h := landFields l.header
    let off := h.off + 32 * l.done
    let u := (v.dropStream l.core l.stream (m + 1)).inkFind k ((slotWords off).take (8 * (m + 1))) 2 0 ecc
    let t := ((v.streamOf l.core l.stream).take (m + 1)).zipIdx.foldl
      (fun t e => t.landOne k h (off + 32 * e.2) e.1 (col.extractLsb' (32 * e.2) 32)) u
    let hit := (List.range (m + 1)).any
      (fun i => u.landAdmits k h (off + 32 * i) && decide (col.extractLsb' (32 * i) 32 ≠ 0))
    effLandingSlotWrite k ecc col s = (if hit = true then t.countCollide k 1 else t).landingAdvance k (m + 1) := by
  intro v h off u t hit
  have hgo : ¬((s.part (s.partOf k)).ckptPause.isSome || !s.domOn k || (s.liveContexts (s.partOf k)).isEmpty) = true := by
    simp [hpause, hon, hrun]
  rw [effLandingSlotWrite, if_neg hgo, State.beginLanding_of_landing hl]
  dsimp only
  rw [hl]
  dsimp only
  rw [hm]
  rfl

/-! ### The scrub position (R425) -/

/-- A change of a cluster that leaves its position, whatever is done beside the clusters. -/
theorem State.position_of_set {s t : State} {k m : Nat} {c : Cluster} (ht : t.clusters = s.clusters.set k c)
    (hc : c.ink.position = (s.cluster k).ink.position) : (t.cluster m).ink.position = (s.cluster m).ink.position := by
  rw [State.cluster, ht, Tbl.get_set]
  split
  case isTrue hm => exact hm ▸ hc
  case isFalse => rfl

theorem State.position_foldl {α : Type} {g : State → α → State} {m : Nat}
    (h : ∀ t x, ((g t x).cluster m).ink.position = (t.cluster m).ink.position) (l : List α) (s : State) :
    ((l.foldl g s).cluster m).ink.position = (s.cluster m).ink.position :=
  foldl_keeps (fun u => (u.cluster m).ink.position = (s.cluster m).ink.position) l g s (fun t x ht => (h t x).trans ht) rfl

@[simp] theorem State.position_inkMake (s : State) (k : Nat) (w : InkLate) (m : Nat) :
    ((s.inkMake k w).cluster m).ink.position = (s.cluster m).ink.position := rfl

@[simp] theorem State.position_inkSettle (s : State) (k m : Nat) :
    ((s.inkSettle k).cluster m).ink.position = (s.cluster m).ink.position := by
  rw [State.inkSettle]
  split
  · rfl
  · refine (State.position_foldl (fun t w => t.position_inkMake k w m) _ _).trans ?_
    exact State.position_of_set (k := k) rfl rfl

@[simp] theorem State.position_inkEcc (s : State) (k off kind phase m : Nat) (e : Ecc) :
    ((s.inkEcc k off kind phase e).cluster m).ink.position = (s.cluster m).ink.position := by
  cases e with
  | ok => rfl
  | corrected => exact State.position_of_set (k := k) rfl rfl
  | uncorrectable => exact State.position_of_set (k := k) rfl rfl

@[simp] theorem State.position_inkSplit (s : State) (k off m : Nat) :
    ((s.inkSplit k off).cluster m).ink.position = (s.cluster m).ink.position :=
  State.position_of_set (k := k) rfl rfl

@[simp] theorem State.position_inkFind (s : State) (k : Nat) (offs : List Nat) (kind phase m : Nat) (l : List (Nat × Ecc)) :
    ((s.inkFind k offs kind phase l).cluster m).ink.position = (s.cluster m).ink.position :=
  State.position_foldl (fun t e => by split <;> simp) l s

@[simp] theorem State.position_inkSplits (s : State) (k : Nat) (offs : List Nat) (m : Nat) (l : List Nat) :
    ((s.inkSplits k offs l).cluster m).ink.position = (s.cluster m).ink.position :=
  State.position_foldl (fun t i => by split <;> simp) l s

/-- Scrub reads the 64 bytes of its position and moves on (R425). -/
theorem effScrubAccess_eq {s : State} {k : Fin 48} (hscrub : (s.cluster k).ink.scrub = true) (hon : s.domOn k = true)
    (ecc : List (Nat × Ecc)) (sp : List Nat) :
    let offs := slotWords ((s.cluster k).ink.position.toNat * 64)
    effScrubAccess k ecc sp s = (((s.inkSettle k).inkFind k offs 3 0 ecc).inkSplits k offs sp).modInk k (fun x =>
      if scrubEnd ≤ x.position.toNat + 1 then { x with position := 0, passes := satInc x.passes }
      else { x with position := x.position + 1 }) :=
  if_neg (by simp [hscrub, hon])

/-- Settles O37: the landing slot by its guards, a flit's bytes and blots by those of a service write, and the scrub position
by what an access leaves of it. -/
theorem inkwellService : Obligations.InkwellService := by
  refine ⟨?_, ?_, ?_, ?_⟩
  · intro s k ecc col l m v h fs off u t hit hpause hon hrun hl hm
    exact congrArg Host.Outcome.next (effLandingSlotWrite_eq ecc col hpause hon hrun hl hm)
  · intro s k off h f hit a t hin hloc hoff _
    have ht : t = s.serviceWrite k off f hit := State.landOne_local hin hloc off f hit
    have ha : a % 32 = 0 := inkBase_add_mod k hoff
    rw [ht]
    refine ⟨fun i hi => ?_, fun b hb => ⟨?_, ?_⟩, ?_, keepsBut_of_allSame (State.serviceWrite_frame ..)⟩
    · rw [State.byte_serviceWrite s k f hit _ hoff, Nat.add_sub_cancel_left]
      cases hit.getLsbD i <;> simp [a, hi]
    · rw [State.byte_serviceWrite s k f hit b hoff, if_neg (by omega)]
    · rw [State.blotAt_serviceWrite s k f hit b hoff, if_neg (by omega)]
    · rw [State.blotAt_serviceWrite s k f hit _ hoff]
      exact if_congr (and_iff_right rfl) rfl rfl
  · intro s k off h f hit hno
    exact State.landOne_dropped (State.landAdmits_eq_false_iff.2 hno) f hit
  · intro s k ecc sp i n u hscrub hon
    refine ⟨congrArg Host.Outcome.next (effScrubAccess_eq hscrub hon ecc sp), ?_⟩
    simp only [u, i, State.position_inkSplits, State.position_inkFind, State.position_inkSettle]

end Sys2Proof.Machine
end

section
/-!
PROOF. Slots: the guards and the outcome of each slot command, and the host commands of sequence slots (O53).
-/
namespace Sys2Proof.Machine

/-! ### What the operations on tables and pages leave of the slots (R477, R483) -/

theorem State.slots_releasePage (s : State) (c pn : Nat) : (s.releasePage c pn).bulk.slots = s.bulk.slots := by
  unfold State.releasePage
  dsimp only
  split <;> rfl

@[simp] theorem State.slot_unmapFrom (s : State) (c n lo k : Nat) : (s.unmapFrom c n lo).slot k = s.slot k := by
  have hslots : (s.unmapFrom c n lo).bulk.slots = s.bulk.slots := by
    refine foldl_keeps (fun t : State => t.bulk.slots = s.bulk.slots) _ _ _ (fun t e ht => ?_) rfl
    split
    · exact (State.slots_releasePage ..).trans ht
    · exact ht
  rw [State.slot, hslots]
  rfl

@[simp] theorem State.slot_holdTable (s : State) (n k : Nat) : (s.holdTable n).slot k = s.slot k := by
  simp [State.slot]

@[simp] theorem State.slot_slotDone (s : State) (n k : Nat) :
    (s.slotDone n).slot k = if k = n then { s.slot n with commands := satInc (s.slot n).commands, busy := false } else s.slot k :=
  State.slot_modSlot ..

theorem State.slot_closeSlot (s : State) (n k : Nat) :
    (s.closeSlot n).slot k = if k = n then (s.slot n).close else s.slot k := by
  simp [State.closeSlot]

/-! ### Slot commands that take effect (R483) -/

theorem State.open_of_slotOpen {s : State} {n c : Nat} (h : s.slotOpen n c = true) : (s.slot n).open_ = true := by
  simp only [State.slotOpen, Bool.and_eq_true] at h
  obtain ⟨⟨⟨-, hopen⟩, -⟩, -⟩ := h
  exact hopen

theorem State.not_open_of_slotClosed {s : State} {n c : Nat} (h : s.slotClosed n c = true) : (s.slot n).open_ = false := by
  simp only [State.slotClosed, Bool.and_eq_true, Bool.not_eq_true'] at h
  obtain ⟨⟨-, hclosed⟩, -⟩ := h
  exact hclosed

/-- A slot that a command may name as open is not one that it may name as closed. -/
theorem State.ne_of_slotOpen_of_slotClosed {s : State} {a b c : Nat} (ha : s.slotOpen a c = true) (hb : s.slotClosed b c = true) :
    a ≠ b := by
  rintro rfl
  exact Bool.false_ne_true ((State.not_open_of_slotClosed hb).symm.trans (State.open_of_slotOpen ha))

/-- A FORK that takes effect: the child is as the parent, at the position given, and the parent counts the command. -/
theorem State.forkSlot_eq_inr {s v : State} {c a b p : Nat} (h : s.forkSlot c a b p = .inr v) :
    s.slotOpen a c = true ∧ s.slotClosed b c = true ∧ p ≤ (s.slot a).pos ∧ ∀ k, v.slot k =
      if k = a then { s.slot a with commands := satInc (s.slot a).commands, busy := false }
      else if k = b then { s.slot a with pos := p, copies := 0, commands := 0, busy := false, faulted := false }
      else s.slot k := by
  unfold State.forkSlot at h
  dsimp only at h
  split at h
  next => cases h
  next ha =>
    split at h
    next => cases h
    next hb =>
      split at h
      next => cases h
      next hp =>
        rw [Bool.not_eq_true', Bool.not_eq_false] at ha hb
        have hab := State.ne_of_slotOpen_of_slotClosed ha hb
        cases h
        refine ⟨ha, hb, Nat.le_of_not_lt (not_or.1 hp).1, fun k => ?_⟩
        simp only [State.slot_slotDone, State.slot_modSlot, State.slot_holdTable, if_neg hab]
        rfl

/-- A REWIND that takes effect. -/
theorem State.rewindSlot_eq_inr {s v : State} {c n p : Nat} (h : s.rewindSlot c n p = .inr v) :
    s.slotOpen n c = true ∧ p ≤ (s.slot n).pos ∧ (s.sharesTier n = true → (s.slot n).tierPos ≤ p) ∧ ∀ k, v.slot k =
      if k = n then { s.slot n with pos := p, commands := satInc (s.slot n).commands, busy := false } else s.slot k := by
  unfold State.rewindSlot at h
  dsimp only at h
  split at h
  next => cases h
  next hn =>
    split at h
    next => cases h
    next hp =>
      obtain ⟨hpos, htier⟩ := not_or.1 hp
      cases h
      refine ⟨by simpa using hn, Nat.le_of_not_lt hpos, fun hs => Nat.le_of_not_lt fun hlt => htier ⟨hs, hlt⟩, fun k => ?_⟩
      simp only [State.slot_slotDone, State.slot_modSlot, State.slot_unmapFrom, if_pos]
      split <;> rfl

/-! ### Slot commands of the host (R484, R486, R540, R559, R724) -/

/-- The entry of a slot command in the table of commands. -/
abbrev slotSpec (op : Nat) (ctx : Bool) (args : List (Nat × Nat × Nat)) : CmdSpec :=
  { opcode := op, vf := true, bc := false, safe := false, part := .one, context := ctx, work := false, args := args }

theorem State.slotNamed_claim (s : State) (h g : Hdr) (c : CmdSpec) (n : Byte) : (s.claim h c).slotNamed g n = s.slotNamed g n := by
  have hdev : (s.claim h c).dev = s.dev := by simp
  unfold State.slotNamed State.slotPart State.hdrPart State.partNamed
  rw [hdev]

/-- A slot command that starts, that no check refuses and whose partition neither starts nor stops acts on the state with its queue
entry taken. -/
theorem next_slotCmd {s sx t : State} {h : Hdr} {op : Nat} {ctx ok : Bool} {slots : List Byte} {args : List (Nat × Nat × Nat)}
    {body : State → State} (hs : startsIn s h (slotSpec op ctx args) sx)
    (hr : sx.refuses h (slotSpec op ctx args) (ok && slots.all (fun n => sx.slotNamed h n)) = none)
    (hp : (sx.qpart (sx.hdrPart h)).life ≠ .starting ∧ (sx.qpart (sx.hdrPart h)).life ≠ .stopping) (hb : body sx = t) :
    (.next (s.slotCmd h op ctx slots args ok body) : Host.Outcome State Fault Refusal) = .next (t.unclaim h s.host.nextJob) := by
  have hnamed : ∀ n, sx.slotNamed h n = s.slotNamed h n := fun n => by
    obtain ⟨-, -, -, rfl⟩ := hs
    exact State.slotNamed_claim ..
  simp only [hnamed] at hr
  refine next_hostCmd hs hr ?_
  exact (if_neg (not_or.2 hp)).trans hb

/-- Settles O53: each host command by the state of the slots it names, each effect by what it leaves of every slot. -/
theorem sequenceCommands : Obligations.SequenceCommands := by
  refine ⟨fun s sx h sl lg ti ba pg => ?_, fun s sx h a b p tb ls => ?_, fun s sx h a p tb ls => ?_,
    fun s sx h a b tb tc ls => ?_, fun s t h op n => ⟨rfl, rfl, rfl, rfl⟩, fun s sx h sl tb ls => ?_, fun s n => ?_,
    fun s v c a b p hv => ?_⟩
  · intro n c hs hr hp
    refine ⟨fun hbad => next_slotCmd hs hr hp ?_, fun hw hf ho => next_slotCmd hs hr hp ?_,
      fun hw hf ho => next_slotCmd hs hr hp ?_⟩
    · exact if_pos (by simpa using hbad)
    all_goals
      have hgood : ¬(sx.writingImage c || (sx.slot n).faulted) = true := by simp [hw, hf]
      refine (if_neg hgood).trans ?_
    · exact if_pos ho
    · refine (if_neg (ne_of_eq_of_ne ho Bool.false_ne_true)).trans ?_
      rw [State.slotReply, State.slot_modSlot, if_pos rfl]
      rfl
  · exact fun hs hr hp => next_slotCmd hs hr hp rfl
  · exact fun hs hr hp => next_slotCmd hs hr hp rfl
  · exact fun hs hr hp => next_slotCmd hs hr hp rfl
  · intro n x t hs hr hp
    refine ⟨fun ho hf => next_slotCmd hs hr hp ?_, fun hx hw => next_slotCmd hs hr hp ?_, fun hx hw => next_slotCmd hs hr hp ?_⟩
    · exact if_pos (by simp [ho, hf, x, n])
    all_goals
      have hheld : ¬(!x.open_ && !x.faulted) = true := by rcases hx with ho | hf <;> simp [*]
      refine (if_neg hheld).trans ?_
    · exact if_pos hw
    · refine (if_neg (ne_of_eq_of_ne hw Bool.false_ne_true)).trans ?_
      rw [State.slotReply, State.slot_closeSlot, if_pos rfl]
      rfl
  · intro t
    have hn : t.slot n = (s.slot n).close := (s.slot_closeSlot n n).trans (if_pos rfl)
    have hk : ∀ k, k ≠ n → t.slot k = s.slot k := fun k hne => (s.slot_closeSlot n k).trans (if_neg hne)
    rw [hn]
    exact ⟨rfl, rfl, rfl, rfl, fun k hne => by simp [hk k hne]⟩
  · obtain ⟨ha, hb, hp, hslot⟩ := State.forkSlot_eq_inr hv
    have hpar := (hslot a).trans (if_pos rfl)
    have hchild := (hslot b).trans ((if_neg (State.ne_of_slotOpen_of_slotClosed ha hb).symm).trans (if_pos rfl))
    refine ⟨ha, hb, hp, ?_, ?_, ?_, ?_, ?_, ?_, fun k hka hkb => (hslot k).trans ((if_neg hka).trans (if_neg hkb))⟩
    all_goals simp [hpar, hchild, State.open_of_slotOpen ha]

end Sys2Proof.Machine
end

section
/-!
PROOF. RETURN_TO_SERVICE, the modes and the change of the partition mode (O49).
-/
namespace Sys2Proof.Machine

/-! ### A range that is cleared (R443, R445) -/

theorem Memory.read_filter (test : Nat → Bool) (m : List Host.Cell) (a : Nat) :
    Memory.read (m.filter (fun c => test c.1)) a = if test a = true then Memory.read m a else 0 := by
  induction m with
  | nil => exact (ite_self (0 : BitVec 8)).symm
  | cons c m ih =>
    obtain ⟨b, x⟩ := c
    by_cases hb : b = a
    · subst hb
      by_cases ht : test b = true
      · simp [Memory.read, ht]
      · simpa [List.filter_cons, ht] using ih
    · by_cases ht : test b = true
      · simpa [List.filter_cons, ht, Memory.read, hb] using ih
      · simpa [List.filter_cons, ht, Memory.read, hb] using ih

theorem Units.has_filter (test : Nat → Bool) (l : List Nat) (u : Nat) :
    Units.has (l.filter test) u = (test u && Units.has l u) := by
  induction l with
  | nil => simp [Units.has]
  | cons v l ih =>
    by_cases hv : v = u
    · subst hv
      by_cases ht : test v = true
      · simp [Units.has, ht]
      · simpa [List.filter_cons, ht] using ih
    · by_cases ht : test v = true
      · simpa [List.filter_cons, ht, Units.has, hv] using ih
      · simpa [List.filter_cons, ht, Units.has, hv] using ih

theorem Store.byte_zeroRange (m : Store) {a n b : Nat} (hlo : a ≤ b) (hhi : b < a + n) : (m.zeroRange a n).byte b = 0 := by
  refine (Memory.read_filter (fun i => decide (i < a ∨ a + n ≤ i)) m.mem b).trans (if_neg ?_)
  rw [decide_eq_true_eq]
  omega

theorem Store.blotAt_zeroRange (m : Store) {a n b : Nat} (hlo : a ≤ b) (hhi : b / 32 < (a + n) / 32) :
    (m.zeroRange a n).blotAt b = false := by
  refine (Units.has_filter (fun u => decide (u < a / 32 ∨ (a + n) / 32 ≤ u)) m.blots (b / 32)).trans ?_
  rw [decide_eq_false (by omega), Bool.false_and]

/-! ### The partitions of a new mode (R443, R737) -/

theorem Tbl.get_map_of_mem {α : Type} (d : α) (f : Nat → α) {l : List Nat} {i : Nat} (hi : i ∈ l) :
    Tbl.get (l.map (fun j => (j, f j))) d i = f i := by
  induction l with
  | nil => cases hi
  | cons j l ih =>
    by_cases hj : j = i
    · subst hj; simp [Tbl.get]
    · simpa [Tbl.get, hj] using ih ((List.mem_cons.1 hi).resolve_left (Ne.symm hj))

theorem mem_partitionsOf {mode : BitVec 2} {p : Nat} : p ∈ partitionsOf mode ↔ p < 4 ∧ partOfQuarter mode p = p := by
  simp [partitionsOf]

/-- Checking mode off in every partition of the mode in force. -/
def State.allUnchecked (s : State) : State := (partitionsOf s.dev.mode).foldl (fun t p => t.setChecking p false) s

theorem State.qparts_setChecking (s : State) (p : Nat) (on : Bool) : (s.setChecking p on).quill.parts = s.quill.parts := by
  unfold State.setChecking
  split
  · rfl
  · simp [State.modModes, State.modQuill]

theorem State.qpart_allUnchecked (s : State) (p : Nat) : s.allUnchecked.qpart p = s.qpart p := by
  have hparts : s.allUnchecked.quill.parts = s.quill.parts :=
    foldl_keeps (fun t : State => t.quill.parts = s.quill.parts) _ _ _
      (fun t p ht => (t.qparts_setChecking p false).trans ht) rfl
  rw [State.qpart, hparts]
  rfl

theorem State.partNamed_allUnchecked (s : State) (q : Nat) : s.allUnchecked.partNamed q = s.partNamed q := by
  simp [State.partNamed, State.allUnchecked]

theorem State.store_changeMode (s : State) (mode : BitVec 2) :
    (s.changeMode mode).store = s.allUnchecked.store.zeroRange 0 bulkEnd := by
  simp [State.changeMode, State.loseBulk, State.allUnchecked]

theorem State.slots_changeMode (s : State) (mode : BitVec 2) : (s.changeMode mode).bulk.slots = [] := by
  simp [State.changeMode, State.loseBulk]

section
variable (s : State) {mode : BitVec 2} {p : Nat} (hp : p ∈ partitionsOf mode)
include hp

theorem State.qpart_changeMode : (s.changeMode mode).qpart p = s.allUnchecked.mergedPart mode p := by
  have hparts : (s.changeMode mode).quill.parts = (partitionsOf mode).map (fun p => (p, s.allUnchecked.mergedPart mode p)) := by
    simp [State.changeMode, State.allUnchecked]
  rw [State.qpart, hparts, Tbl.get_map_of_mem _ _ hp]

theorem State.part_changeMode : (s.changeMode mode).part p = s.allUnchecked.partAfterMode p := by
  have hparts : (s.changeMode mode).parts = (partitionsOf mode).map (fun p => (p, s.allUnchecked.partAfterMode p)) := by
    simp [State.changeMode, State.allUnchecked]
  rw [State.part, hparts, Tbl.get_map_of_mem _ _ hp]

end

/-- A new partition is ON where every quarter of it was (log 33). -/
theorem State.life_mergedPart_iff (s : State) (mode : BitVec 2) (p : Nat) : (s.mergedPart mode p).life = .on ↔
    ∀ q, q < 4 → partOfQuarter mode q = p → (s.qpart (s.partNamed q)).life = .on := by
  simp [State.mergedPart, ite_eq_left_iff]

/-- Settles O49: each command by the conditions that its state meets, the change of mode by what it makes of each area. -/
theorem serviceAndModes : Obligations.ServiceAndModes := by
  refine ⟨fun s sx h k ix => ?_, fun s sx h det ck seam pat drift => ?_, fun s sx h m => ?_, fun s m p hm hp hq => ?_⟩
  · intro p f back hs hr
    refine next_hostCmd hs hr ?_
    simp only [back, decide_eq_true_eq]
    rfl
  · exact fun hs hr => next_hostCmd hs hr rfl
  · intro hs hr
    refine ⟨fun ⟨e, he, hsc⟩ => next_hostCmd hs hr (if_pos (List.any_eq_true.2 ⟨e, he, hsc⟩)),
      fun hno => next_hostCmd hs hr (if_neg fun hany => ?_)⟩
    obtain ⟨e, he, hsc⟩ := List.any_eq_true.1 hany
    rw [hno e he] at hsc
    exact Bool.false_ne_true hsc
  · have hmem := mem_partitionsOf.2 ⟨hp, hq⟩
    refine ⟨s.changeMode_dev m, s.slots_changeMode m, fun a ha => ?_, ?_, ?_⟩
    · rw [State.store_changeMode]
      have hend : bulkEnd = 32 * (bulkEnd / 32) := rfl
      exact ⟨Store.byte_zeroRange _ (Nat.zero_le a) (by omega), Store.blotAt_zeroRange _ (Nat.zero_le a) (by omega)⟩
    · rw [State.qpart_changeMode s hmem, State.life_mergedPart_iff]
      simp only [State.qpart_allUnchecked, State.partNamed_allUnchecked]
    · rw [State.part_changeMode s hmem]
      rfl

end Sys2Proof.Machine
end

section
/-!
PROOF. Memory controllers: the requests served in order, read data, position writes and slot commands (O38).
-/
namespace Sys2Proof.Machine

/-! ### Requests that arrive (R458, R459) -/

section
variable {s : State} {m : Fin 16} (hst : (s.mcOf m).st = .ready) (e l t : Ecc) (ls : List LineFind)
include hst

theorem effMcRequest_edge {a : RulingSlot} {h : Option ParityHit} {f : Flit} {b : Arrival} {u : State}
    (hm : s.move (placeOf a) (fun x => decide ((Place.ofKey x.place).port = 13 ∧ (Place.ofKey x.place).k = mcCluster m)) h =
      some (f, b, u)) :
    effMcRequest m (.edge a h) e l t ls s =
      (u.mcArrive m (Place.ofKey b.place).slice f).serveAll m { first := some (e, l, t), lines := ls } := by
  refine (if_neg (not_not.2 hst)).trans ?_
  rw [hm]

theorem effMcRequest_spine {q : McSpine} {rest : List McSpine} (hq : (s.mcOf m).spine = q :: rest) :
    effMcRequest m .spine e l t ls s =
      ((s.modMc m (fun x => { x with spine := rest })).mcQueue m { data := 0, blot := false } [] (some q)).serveAll m
        { first := some (e, l, t), lines := ls } := by
  refine (if_neg (not_not.2 hst)).trans ?_
  rw [hq]

end

/-- A request takes the last place of its controller's list, with the time and the number of its arrival. -/
theorem State.pending_mcQueue (s : State) (m : Nat) (request : Flit) (data : List Flit) (unit : Option McSpine) :
    ((s.mcQueue m request data unit).mcOf m).pending = (s.mcOf m).pending ++
      [{ request := request, data := data, unit := unit, since := s.time, no := s.bulk.arrivals }] := by
  have hmc : (s.mcQueue m request data unit).mcOf m = (s.modMc m (fun x => { x with pending := x.pending ++
      [{ request := request, data := data, unit := unit, since := s.time, no := s.bulk.arrivals }] })).mcOf m := rfl
  rw [hmc, State.mcOf_modMc, if_pos rfl]

/-! ### The request at the front (R459, R465, R485) -/

section
variable {s : State} {m : Nat} {q : McPending} {rest : List McPending} (hq : (s.mcOf m).pending = q :: rest)
include hq

theorem State.serveFront_serves (hs : q.special = false) (hh : s.mcHolds m q = false) (hw : s.mcWaits m q = false) (n : Nat)
    (f : Finds) : s.serveFront (n + 1) m f =
      ((s.modMc m (fun x => { x with pending := rest })).serve m q f).serveFront n m (.of f.lines) := by
  rw [State.serveFront, hq]
  exact if_neg (by simp [hs, hh, hw])

theorem State.serveFront_stops (h : q.special = true ∨ s.mcHolds m q = true ∨ s.mcWaits m q = true) (n : Nat) (f : Finds) :
    s.serveFront n m f = s := by
  cases n with
  | zero => rfl
  | succ n =>
    rw [State.serveFront, hq]
    exact if_pos (by simpa [or_assoc] using h)

/-- A row of its own serves the request at the front where it is one of its requests and waits for no other controller. -/
theorem State.withFront_serves (hst : (s.mcOf m).st = .ready) (hs : q.special = true) (hw : s.mcWaits m q = false)
    {test : Request → Bool} (ht : test (requestOf q.request) = true) (ls : List LineFind)
    (f : State → McPending → Request → State) : s.withFront m test ls f =
      (f (s.modMc m (fun x => { x with pending := rest })) q (requestOf q.request)).serveEvery (.of ls) := by
  rw [State.withFront, hq]
  exact if_pos (by simp [hs, ht, hst, hw])

end

theorem State.cameBefore_iff {s : State} {m n no : Nat} {test : Request → Bool} : s.cameBefore m n no test = true ↔
    ∃ m2, m2 < 16 ∧ m2 ≠ m ∧ ∃ x, x ∈ (s.mcOf m2).pending ∧ x.no < no ∧ x.unit = none ∧ (requestOf x.request).host = false ∧
      test (requestOf x.request) = true ∧ s.requestCore m2 (requestOf x.request) = some n := by
  simp [State.cameBefore, and_assoc]

section
variable {q : McPending} (hu : q.unit = none) (hh : (requestOf q.request).host = false)
include hu hh

theorem State.mcWaits_slotCommand {s : State} {m n : Nat} (hn : s.requestCore m (requestOf q.request) = some n)
    (hk : (requestOf q.request).kind = 5) :
    s.mcWaits m q = s.cameBefore m n q.no (fun x => decide (x.kind = 2 ∨ x.kind = 3)) := by
  simp [State.mcWaits, hu, hh, hn, hk]

/-- A position write waits for no other controller. -/
theorem State.mcWaits_position (s : State) (m : Nat) (hk : (requestOf q.request).kind = 4) : s.mcWaits m q = false := by
  simp only [State.mcWaits, hu, hh, hk]
  cases s.requestCore m (requestOf q.request) <;> rfl

theorem McPending.special_position (hk : (requestOf q.request).kind = 4) : q.special = true := by
  simp [McPending.special, Request.special, hu, hh, hk]

theorem McPending.special_slotCommand (hk : (requestOf q.request).kind = 5) (hlo : 3 ≤ (requestOf q.request).op)
    (hhi : (requestOf q.request).op ≤ 5) : q.special = true := by
  simp [McPending.special, Request.special, hu, hh, hk, hlo, hhi]

/-! ### Lines of a context's bulk region (R460, R462) -/

section
variable {s : State} {m : Nat}
  (hs : s.bulkServed m (s.requestCtx m (requestOf q.request)) ((requestOf q.request).addr / 64 * 64) = true) (f : Finds)
include hs

theorem State.serve_lineWrite (hk : (requestOf q.request).kind = 1) :
    s.serve m q f = s.mcWrite ((requestOf q.request).addr / 64 * 64) q.data := by
  simp [State.serve, hu, hh, hk, hs]

theorem State.serve_lineRead (hk : (requestOf q.request).kind = 0) :
    s.serve m q f = s.mcRead m ((requestOf q.request).addr / 64 * 64) (requestOf q.request).rslice q.since f := by
  simp [State.serve, hu, hh, hk, hs]

end

end

/-- The read of a line in which no error is found queues the line's two units, lower first. -/
theorem State.mcRead_clean {f : Finds} {line : Nat} (hf : f.line line = (.ok, .ok)) (s : State) (m : Nat) (slice : Bool)
    (since : Nat) :
    s.mcRead m line slice since f = s.queueRead m slice since (s.unitFlit line) (s.unitFlit (line + 32)) := by
  rw [State.mcRead, hf]
  rfl

/-! ### Read data (R192, R196, R293, R460) -/

/-- The place at which read data crosses a controller's edge in a slot. -/
def mcReturnPlace (m : Fin 16) (slice : Bool) (slot : Byte) : Place := ⟨mcCluster m, 13, if slice then 1 else 0, slot.toNat⟩

section
variable {s : State} {p : Place} {m : Nat} {slice : Bool}

theorem State.takeRead_taken (h : (s.cluster p.k).router.taken.contains (edgeKey p) = true) : s.takeRead m slice p = s := if_pos h

theorem State.takeRead_launches {f : Flit} {u : State} (h : (s.cluster p.k).router.taken.contains (edgeKey p) = false)
    (hr : s.popMcRead m slice = some (f, u)) :
    s.takeRead m slice p = u.launch p.k [edgeKey p] (s.slotCycle p) f (s.wayFrom p) := by
  rw [State.takeRead, hr]
  exact if_neg (ne_of_eq_of_ne h Bool.false_ne_true)

end

/-- The flit of the read data at an edge place that has reached `dst`. -/
abbrev State.readDataAt (s : State) (p : Place) (dst : RulingSlot) (h : Option ParityHit) : Option (Flit × Arrival × State) :=
  s.reach p.k (edgeKey p) (fun a => a.isAt (placeOf dst)) h

section
variable {s : State} {m : Fin 16} {slice : Bool} {slot : Byte} {dst : RulingSlot} {h : Option ParityHit}
  (hp : (s.part (s.partOf (mcReturnPlace m slice slot).k)).paused = false) (hd : dst.port = 0)
include hp hd

/-- The read data that reaches `dst` is what already flies to it, or the next flit of the reads. -/
theorem effMcReadDataReturn_eq : effMcReadDataReturn m slice slot dst h s =
    match s.readDataAt (mcReturnPlace m slice slot) dst h with
    | some (f, a, u) => u.arriveLocal a f
    | none =>
      let v := s.takeRead m slice (mcReturnPlace m slice slot)
      match v.readDataAt (mcReturnPlace m slice slot) dst h with
      | some (f, a, u) => u.arriveLocal a f
      | none => v.dropRead (mcReturnPlace m slice slot) h := by
  have hport : (placeOf dst).port = 0 := congrArg BitVec.toNat hd
  refine (if_neg (not_or.2 ⟨ne_of_eq_of_ne hp Bool.false_ne_true, not_not.2 hport⟩)).trans ?_
  rfl

theorem effMcReadDataReturn_flying {f : Flit} {a : Arrival} {u : State}
    (hr : s.readDataAt (mcReturnPlace m slice slot) dst h = some (f, a, u)) :
    effMcReadDataReturn m slice slot dst h s = u.arriveLocal a f := by
  rw [effMcReadDataReturn_eq hp hd, hr]

variable (hr : s.readDataAt (mcReturnPlace m slice slot) dst h = none)
include hr

theorem effMcReadDataReturn_taken {f : Flit} {a : Arrival} {u : State}
    (hv : (s.takeRead m slice (mcReturnPlace m slice slot)).readDataAt (mcReturnPlace m slice slot) dst h = some (f, a, u)) :
    effMcReadDataReturn m slice slot dst h s = u.arriveLocal a f := by
  rw [effMcReadDataReturn_eq hp hd, hr]
  dsimp only
  rw [hv]

theorem effMcReadDataReturn_dropped
    (hv : (s.takeRead m slice (mcReturnPlace m slice slot)).readDataAt (mcReturnPlace m slice slot) dst h = none) :
    effMcReadDataReturn m slice slot dst h s =
      (s.takeRead m slice (mcReturnPlace m slice slot)).dropRead (mcReturnPlace m slice slot) h := by
  rw [effMcReadDataReturn_eq hp hd, hr]
  dsimp only
  rw [hv]

end

section
variable {r : McRead} (rest : List McRead)

theorem popRead_lower (hh : r.host = none) (hl : r.loSent = false) :
    popRead r.slice (r :: rest) = some ((r.lo, r), { r with loSent := true } :: rest) := by
  simp [popRead, hh, hl]

theorem popRead_upper (hh : r.host = none) (hl : r.loSent = true) : popRead r.slice (r :: rest) = some ((r.hi, r), rest) := by
  simp [popRead, hh, hl]

theorem popRead_waits (hh : r.host ≠ none) : popRead r.slice (r :: rest) = none := by
  simp [popRead, Option.isSome_iff_ne_none.2 hh]

theorem popRead_other {slice : Bool} (hs : slice ≠ r.slice) :
    popRead slice (r :: rest) = (popRead slice rest).map (fun e => (e.1, r :: e.2)) := if_neg hs.symm

end

/-! ### Position writes (R462, R482) -/

section
variable {s : State} {m : Nat} {q : McPending} {r : Request} (hb : q.request.blot = false)
include hb

theorem State.servePosition_notOpen (ho : s.slotOpen r.slot (s.requestCtx m r) = false) :
    s.servePosition m q r = s.requestFault m 4 r := by
  simp [State.servePosition, hb, ho]

variable (ho : s.slotOpen r.slot (s.requestCtx m r) = true)
include ho

theorem State.servePosition_outOfRange (h : r.pos < (s.slot r.slot).pos ∨ 4194304 < r.pos) :
    s.servePosition m q r = s.requestFault m 5 r := by
  simp [State.servePosition, hb, ho, h]

theorem State.servePosition_moves (hlo : (s.slot r.slot).pos ≤ r.pos) (hhi : r.pos ≤ 4194304) :
    s.servePosition m q r = s.modSlot r.slot (fun x => { x with pos := r.pos }) := by
  have hin : ¬(r.pos < (s.slot r.slot).pos ∨ 4194304 < r.pos) := by omega
  simp [State.servePosition, hb, ho, hin]

end

/-! ### Slot commands of programs (R473, R484, R485) -/

/-- Reads of a table that find nothing leave the state as it is. -/
theorem State.readTable_clean (s : State) (c n : Nat) : s.readTable c n [] [] = s := by
  simp [State.readTable, State.mcLines]

/-! ### Refresh, checks, link polls and scrub (R452 to R454, R464, R465) -/

section
variable {s : State} {m : Fin 16} (hst : (s.mcOf m).st = .ready)
include hst

theorem effMcWckCheck_begins (ch : BitVec 2) (ls : List LineFind) : effMcWckCheck m ch true ls s =
    s.modMc m (fun x => { x with held := x.held ||| BitVec.ofNat 4 (2 ^ ch.toNat) }) :=
  (if_neg (not_not.2 hst)).trans (if_pos rfl)

theorem effMcWckCheck_ends (ch : BitVec 2) (ls : List LineFind) : effMcWckCheck m ch false ls s =
    (s.modMc m (fun x => { x with held := x.held &&& ~~~BitVec.ofNat 4 (2 ^ ch.toNat) })).serveAll m (.of ls) :=
  (if_neg (not_not.2 hst)).trans (if_neg Bool.false_ne_true)

theorem effMcScrubRead_clean (hh : (s.mcOf m).held.getLsbD (s.chanAt (s.packageLine m (s.mcOf m).scrubLine)) = false) :
    effMcScrubRead m .ok .ok s = s.modMc m (fun x =>
      if packageLines ≤ (s.mcOf m).scrubLine + 1 then { x with scrubLine := 0, passes := satInc x.passes, passCorr := [] }
      else { x with scrubLine := (s.mcOf m).scrubLine + 1 }) :=
  if_neg (not_or.2 ⟨not_not.2 hst, ne_of_eq_of_ne hh Bool.false_ne_true⟩)

end

theorem effMcScrubRead_held {s : State} {m : Fin 16}
    (hh : (s.mcOf m).held.getLsbD (s.chanAt (s.packageLine m (s.mcOf m).scrubLine)) = true) (e l : Ecc) :
    effMcScrubRead m e l s = s := if_pos (.inr hh)

/-- Settles O38, clause by clause: arrivals, the front of the list, read data, and each row that serves the front. -/
theorem controllerResults : Obligations.ControllerResults := by
  refine ⟨?_, ?_, ?_, ?_, ?_, ?_, ?_, ?_, ?_, ?_, ?_⟩
  · exact fun s m a h e l t ls f b u hst hm => congrArg Host.Outcome.next (effMcRequest_edge hst e l t ls hm)
  · intro s m e l t ls q rest fm x hst hq
    refine ⟨congrArg Host.Outcome.next (effMcRequest_spine hst e l t ls hq), ?_, fun v g => rfl,
      fun v n y r hp hs hh hw => State.serveFront_serves hp hs hh hw n fm,
      fun v n y r hp hno => State.serveFront_stops hp hno n fm⟩
    rw [State.pending_mcQueue, State.mcOf_modMc, if_pos rfl]
    rfl
  · intro s m q n r hu hh hn hk
    rw [State.mcWaits_slotCommand hu hh hn hk, State.cameBefore_iff]
    simp only [decide_eq_true_eq]
  · intro s m q f r line hu hh _ hs
    refine ⟨State.serve_lineWrite hu hh hs f, fun hk hf => ?_⟩
    exact (State.serve_lineRead hu hh hs f hk).trans (State.mcRead_clean hf ..)
  · intro s m sl slot dst h p tst v hp hd
    exact ⟨fun f a u hr => congrArg Host.Outcome.next (effMcReadDataReturn_flying hp hd hr),
      fun hr => ⟨fun f a u hv => congrArg Host.Outcome.next (effMcReadDataReturn_taken hp hd hr hv),
        fun hv => congrArg Host.Outcome.next (effMcReadDataReturn_dropped hp hd hr hv)⟩,
      State.takeRead_taken, fun f u ht hpop => State.takeRead_launches ht hpop⟩
  · exact fun r rest => ⟨popRead_lower rest, popRead_upper rest, popRead_waits rest, fun sl => popRead_other rest⟩
  · intro s m ls q rest r u c hq hst hu hh hk hb
    have hserve : effPositionWrite m ls s = (u.servePosition m q r).serveEvery (.of ls) :=
      State.withFront_serves hq hst (McPending.special_position hu hh hk) (State.mcWaits_position hu hh s m hk)
        (decide_eq_true hk) ls _
    refine ⟨fun ho => ?_, fun ho hout => ?_, fun ho hlo hhi => ?_⟩
    all_goals refine congrArg Host.Outcome.next (hserve.trans (congrArg (State.serveEvery · (.of ls)) ?_))
    · exact State.servePosition_notOpen hb ho
    · exact State.servePosition_outOfRange hb ho hout
    · exact State.servePosition_moves hb ho hlo hhi
  · intro s m q rest tbl child ls r u c v w hq hst hu hh hk hw
    have hserve : 3 ≤ r.op → r.op ≤ 5 → ∀ test : Request → Bool, test r = true → ∀ f : State → McPending → Request → State,
        s.withFront m test ls f = (f u q r).serveEvery (.of ls) := fun hlo hhi test ht f =>
      State.withFront_serves hq hst (McPending.special_slotCommand hu hh hk hlo hhi) hw ht ls f
    refine ⟨fun hop => ?_, fun hop => ?_, fun hop => ?_, u.readTable_clean c r.slot⟩
    all_goals
      exact congrArg Host.Outcome.next (hserve (by omega) (by omega) _ (decide_eq_true ⟨hk, hop⟩) _)
  · intro s v m r e
    exact ⟨rfl, by cases e <;> rfl⟩
  · intro s v c n p hv
    obtain ⟨hopen, hp, htier, hslot⟩ := State.rewindSlot_eq_inr hv
    have hn := (hslot n).trans (if_pos rfl)
    refine ⟨hopen, hp, htier, ?_, ?_, ?_, fun k hk => (hslot k).trans (if_neg hk)⟩
    all_goals rw [hn]
  · intro s m ch n ls hst
    exact ⟨congrArg Host.Outcome.next (if_pos hst), congrArg Host.Outcome.next (effMcWckCheck_begins hst ch ls),
      congrArg Host.Outcome.next (effMcWckCheck_ends hst ch ls), congrArg Host.Outcome.next (if_pos hst),
      fun hh => congrArg Host.Outcome.next (effMcScrubRead_held hh .ok .ok),
      fun hh => congrArg Host.Outcome.next (effMcScrubRead_clean hst hh)⟩

end Sys2Proof.Machine
end

section
/-!
PROOF. The functions and queue pairs of the host interface (09 R521 to R530): what an update of one leaves of the others.
-/
namespace Sys2Proof.Machine

@[simp] theorem State.fn_emit (s : State) (o : Out) (f : Nat) : (s.emit o).fn f = s.fn f := rfl
@[simp] theorem State.qp_emit (s : State) (o : Out) (f n : Nat) : (s.emit o).qp f n = s.qp f n := rfl
@[simp] theorem State.out_emit (s : State) (o : Out) : (s.emit o).out = s.out ++ [o] := rfl

section
variable (s : State) (f n : Nat)

theorem State.fn_modQp (u : Qp → Qp) : (s.modQp f n u).fn f = { s.fn f with qps := (s.fn f).qps.set n (u (s.qp f n)) } := by
  simp [State.modQp, State.qp]

theorem State.fn_modQp_of_ne (u : Qp → Qp) {g : Nat} (hg : g ≠ f) : (s.modQp f n u).fn g = s.fn g := by
  simp [State.modQp, hg]

theorem State.qp_modQp (u : Qp → Qp) (m : Nat) : (s.modQp f n u).qp f m = if m = n then u (s.qp f n) else s.qp f m := by
  rw [State.qp, State.fn_modQp]
  exact Tbl.get_set ..

/-- An update of a function that leaves its queue pairs. -/
theorem State.qp_modFn {u : Fn → Fn} (hu : ∀ x, (u x).qps = x.qps) (g m : Nat) : (s.modFn f u).qp g m = s.qp g m := by
  rw [State.qp, State.fn_modFn]
  split
  next hg => rw [hu, hg]; rfl
  next => rfl

/-- Two updates of a function that make the same of it are the same. -/
theorem State.modFn_congr {u v : Fn → Fn} (h : u (s.fn f) = v (s.fn f)) : s.modFn f u = s.modFn f v := by
  rw [State.modFn, State.modFn, h]

/-- Two updates of a queue pair that make the same of it are the same. -/
theorem State.modQp_congr {u v : Qp → Qp} (h : u (s.qp f n) = v (s.qp f n)) : s.modQp f n u = s.modQp f n v :=
  s.modFn_congr f (congrArg (fun q => { s.fn f with qps := (s.fn f).qps.set n q }) h)

end

/-- Putting a vector on the list of messages due changes nothing else of a function. -/
theorem Fn.due_eq (x : Fn) (irq : Bool) (v : BitVec 6) :
    x.due irq v = { x with msixDue := if irq then setAdd x.msixDue v.toNat else x.msixDue } := by
  cases irq <;> rfl

theorem Fn.mute_iff (x : Fn) : x.mute = true ↔ x.d3 = true ∨ x.bme = false := by simp [Fn.mute]

theorem Fn.mute_eq_false_iff (x : Fn) : x.mute = false ↔ x.d3 = false ∧ x.bme = true := by simp [Fn.mute]

theorem keepsBut_host {s t : State} (h : OnlyHost t s) : keepsBut [.host] s t := keepsBut_of_allSame h

theorem keepsBut_host_out {s t : State} (h : OnlyHostOut t s) : keepsBut [.host, .out] s t := keepsBut_of_allSame h

end Sys2Proof.Machine
end

section
/-!
PROOF. Event records at a ring (O31).
-/
namespace Sys2Proof.Machine

theorem State.toRing_writes {s : State} {f : Nat} (hroom : (s.fn f).ringRoom = true) (hheld : (s.fn f).ring.held = [])
    (r : List Byte) : s.toRing f r = s.ringWrite f r := by
  simp [State.toRing, hroom, hheld]

/-- A record that the ring does not take is held where it is of severity 3 or 4 and fewer than 64 are; else it is lost. -/
theorem State.toRing_waits {s : State} {f : Nat} (h : (s.fn f).ringRoom = false ∨ (s.fn f).ring.held ≠ []) (r : List Byte) :
    s.toRing f r = if 3 ≤ recSeverity r ∧ (s.fn f).ring.held.length < 64
      then s.modFn f (fun y => { y with ring := { y.ring with held := y.ring.held ++ [r] } })
      else s.modFn f (fun y => { y with ring := { y.ring with lost := true, lostCnt := satInc y.ring.lostCnt } }) := by
  refine if_neg ?_
  rcases h with h | h <;> simp [h]

/-- The ring after a record at its tail (R521, R528). -/
theorem State.ring_ringWrite (s : State) (f : Nat) (r : List Byte) : ((s.ringWrite f r).fn f).ring =
    { (s.fn f).ring with
      tail := ((s.fn f).ring.tail + 1) % (s.fn f).ring.size
      phase := (s.fn f).ring.phase != decide (((s.fn f).ring.tail + 1) % (s.fn f).ring.size = 0) } := by
  simp [State.ringWrite, Fn.due_eq]

theorem State.fn_ringWrite_of_ne (s : State) {f g : Nat} (hg : g ≠ f) (r : List Byte) : (s.ringWrite f r).fn g = s.fn g := by
  simp [State.ringWrite, hg]

/-- Settles O31, by whether the ring takes the record. -/
theorem eventDelivery : Obligations.EventDelivery := by
  refine ⟨fun s f r => ?_, fun s f r => ?_, fun x code sev => ?_⟩
  · intro x t hroom hheld
    have ht : t = s.ringWrite f r := State.toRing_writes hroom hheld r
    rw [ht]
    exact ⟨by simp [State.ringWrite, x], s.ring_ringWrite f r, fun g hg => s.fn_ringWrite_of_ne hg r,
      keepsBut_host_out (s.ringWrite_frame f r)⟩
  · exact fun h => State.toRing_waits h r
  · simp [Fn.passes]

end Sys2Proof.Machine
end

section
/-!
PROOF. Completions (O30).
-/
namespace Sys2Proof.Machine

/-- The bytes of a completion of a host function (R541). -/
theorem completionBytes_of_host {h : Hdr} (h5 : h.fn ≠ 5) (sqHead : Nat) (st : Status) (phase : Bool) (res : Nat) :
    completionBytes h sqHead st phase res = block 16 [(0, 4, h.tag.toNat), (4, 2, h.sq.toNat), (6, 2, sqHead), (8, 1, st.code),
      (9, 1, if phase then 1 else 0), (10, 6, res)] := by
  rw [completionBytes, if_neg h5]

theorem Qp.writes_iff (q : Qp) : q.writes = true ↔ q.active = true ∧ q.halted = false ∧ q.cqSize ≠ 0 := by
  simp [Qp.writes, and_assoc]

theorem Hdr.val_ne_of_host {h : Hdr} (h5 : h.fn ≠ 5) : h.fn.val ≠ 5 := fun hv => h5 (Fin.ext hv)

section
variable {s : State} {h : Hdr} (h5 : h.fn ≠ 5) (st : Status) (res : Nat) (data : List Byte) (note : Option Nat)
include h5

theorem State.writeCqWith_stopped (hq : (s.qp h.fn.val h.sq.toNat).writes = false) : s.writeCqWith h st res data note = s := by
  simp [State.writeCqWith, Hdr.val_ne_of_host h5, hq]

theorem State.writeCqWith_parked (hq : (s.qp h.fn.val h.sq.toNat).writes = true) (hm : (s.fn h.fn.val).mute = true) :
    s.writeCqWith h st res data note = s.modFn h.fn.val (fun x =>
      { x with parked := x.parked ++ [{ pair := h.sq.toNat, bytes := completionBytes h 0 st false res, note := note }] }) := by
  simp [State.writeCqWith, Hdr.val_ne_of_host h5, hq, hm]

theorem State.writeCqWith_written (hq : (s.qp h.fn.val h.sq.toNat).writes = true) (hm : (s.fn h.fn.val).mute = false) :
    s.writeCqWith h st res data note = (s.cqPut h.fn.val h.sq.toNat
      (completionBytes h (s.qp h.fn.val h.sq.toNat).sqHead st (s.qp h.fn.val h.sq.toNat).phase res)).postNotes h.fn.val
        (completionBytes h 0 st false res) note := by
  simp [State.writeCqWith, Hdr.val_ne_of_host h5, hq, hm]

end

/-- The command that job `job` carries out leaves the commands of a pair without a final completion. -/
def Qp.completed (q : Qp) (job : Nat) : Qp := { q with fetched := q.fetched.filter (fun e => decide (e.job ≠ some job)) }

theorem State.completeJob_of_host {h : Hdr} (h5 : h.fn ≠ 5) (s : State) (op job : Nat) (st : Status) (res : Nat) (data : List Byte) :
    s.completeJob h op job st res data = (s.modQp h.fn.val h.sq.toNat (Qp.completed · job)).writeCqWith h st res data
      (if h.notify then some op else none) := by
  rw [State.completeJob, if_neg (Hdr.val_ne_of_host h5)]
  rfl

section
variable (s : State) (f n : Nat) (b : List Byte)

theorem State.qp_cqPut (m : Nat) : (s.cqPut f n b).qp f m = if m = n then
    { s.qp f n with
      cqTail := ((s.qp f n).cqTail + 1) % (s.qp f n).cqSize
      phase := (s.qp f n).phase != decide (((s.qp f n).cqTail + 1) % (s.qp f n).cqSize = 0) } else s.qp f m := by
  have hdue : ∀ x : Fn, (x.due (s.qp f n).irqEn (s.qp f n).vector).qps = x.qps := fun x => by rw [Fn.due_eq]
  rw [State.cqPut, State.qp_emit, State.qp_modFn _ _ hdue, State.qp_modQp]

theorem State.fn_cqPut_of_ne {g : Nat} (hg : g ≠ f) : (s.cqPut f n b).fn g = s.fn g := by
  simp [State.cqPut, hg, State.fn_modQp_of_ne]

theorem State.ring_cqPut : ((s.cqPut f n b).fn f).ring = (s.fn f).ring := by
  simp [State.cqPut, Fn.due_eq, State.fn_modQp]

theorem State.msixDue_cqPut : ((s.cqPut f n b).fn f).msixDue = if (s.qp f n).irqEn
    then setAdd (s.fn f).msixDue (s.qp f n).vector.toNat else (s.fn f).msixDue := by
  simp [State.cqPut, Fn.due_eq, State.fn_modQp]

theorem State.out_cqPut : (s.cqPut f n b).out =
    s.out ++ [.completion f n (s.qp f n).cqTail b ((s.qp f n).cqBase.toNat + 16 * (s.qp f n).cqTail)] := by
  simp [State.cqPut]

end

/-- A final completion without NOTIFY, of a pair and a function that write: it is put at the tail of the completion queue. -/
theorem State.completeJob_written {s : State} {h : Hdr} (h5 : h.fn ≠ 5) (hnote : h.notify = false)
    (hq : (s.qp h.fn.val h.sq.toNat).writes = true) (hm : (s.fn h.fn.val).mute = false) (op job : Nat) (st : Status) (res : Nat)
    (data : List Byte) : s.completeJob h op job st res data = (s.modQp h.fn.val h.sq.toNat (Qp.completed · job)).cqPut h.fn.val
      h.sq.toNat (completionBytes h (s.qp h.fn.val h.sq.toNat).sqHead st (s.qp h.fn.val h.sq.toNat).phase res) := by
  have hpair : (s.modQp h.fn.val h.sq.toNat (Qp.completed · job)).qp h.fn.val h.sq.toNat =
      (s.qp h.fn.val h.sq.toNat).completed job := (s.qp_modQp ..).trans (if_pos rfl)
  have hmute : ((s.modQp h.fn.val h.sq.toNat (Qp.completed · job)).fn h.fn.val).mute = false := by
    rw [State.fn_modQp]
    exact hm
  rw [State.completeJob_of_host h5, hnote, State.writeCqWith_written h5 _ _ _ _ (by rw [hpair]; exact hq) hmute, hpair]
  rfl

theorem exec_commandFetch_unwritten {s : State} {fn : Fin 6} {n : Byte} (hn : n.toNat < pairsOf fn.val)
    (ha : (s.qp fn.val n.toNat).active = true) (p : Option (List Byte)) :
    exec (.commandFetch fn n p false) s = .next (s.pairFails fn.val n.toNat) := by
  simp [exec, execCommandFetch, effCommandFetch, Nat.not_le.2 hn, ha]

/-- Settles O30: the command leaves its pair, and the completion is written, parked or dropped as the pair and its function
are (parking without Bus Master Enable: log 24). -/
theorem completionWritten : Obligations.CompletionWritten := by
  refine ⟨fun s h op job st res => ?_, fun s h st res note => ?_, fun s h st res note => ?_,
    fun s fn n p hn ha => exec_commandFetch_unwritten hn ha p⟩
  · intro f q t q2 h5 hnote ha hh hsz hwr
    have ht : t = (s.modQp f h.sq.toNat (Qp.completed · job)).cqPut f h.sq.toNat (completionBytes h q.sqHead st q.phase res) :=
      State.completeJob_written h5 hnote ((Qp.writes_iff _).2 ⟨ha, hh, hsz⟩) ((Fn.mute_eq_false_iff _).2 hwr) ..
    have hq : (s.modQp f h.sq.toNat (Qp.completed · job)).qp f h.sq.toNat = q.completed job := (s.qp_modQp ..).trans (if_pos rfl)
    refine ⟨?_, ?_, fun n hn => ?_, fun g hg => ?_, ?_, ?_, keepsBut_host_out (s.completeJob_frame ..)⟩
    · rw [ht, State.out_cqPut, hq, completionBytes_of_host h5]
      simp [Qp.completed]
    · rw [show q2 = _ from congrArg (State.qp · f h.sq.toNat) ht, State.qp_cqPut, if_pos rfl, hq]
      rfl
    · rw [ht, State.qp_cqPut, if_neg hn, State.qp_modQp, if_neg hn]
    · rw [ht, State.fn_cqPut_of_ne _ _ _ _ hg, State.fn_modQp_of_ne _ _ _ _ hg]
    · rw [ht, State.msixDue_cqPut, hq, State.fn_modQp]
      rfl
    · rw [ht, State.ring_cqPut, State.fn_modQp]
  · intro f q h5 hstop
    refine State.writeCqWith_stopped h5 st res [] note (Bool.eq_false_iff.2 fun hw => ?_)
    obtain ⟨ha, hh, -⟩ := (Qp.writes_iff _).1 hw
    rcases hstop with hs | hs
    · exact Bool.false_ne_true (hs.symm.trans ha)
    · exact Bool.false_ne_true (hh.symm.trans hs)
  · intro f q h5 ha hh hsz hm b
    have hb : completionBytes h 0 st false res = b := completionBytes_of_host h5 0 st false res
    rw [← hb]
    exact State.writeCqWith_parked h5 st res [] note ((Qp.writes_iff _).2 ⟨ha, hh, hsz⟩) ((Fn.mute_iff _).2 hm)

end Sys2Proof.Machine
end

section
/-!
PROOF. The registers of queue pairs and event rings (O39).
-/
namespace Sys2Proof.Machine

/-! ### Doorbells (R516, R527, R528, R531) -/

section
variable {s : State} {fn : Fin 6} {n : Byte} {v : Word} (hn : n.toNat < pairsOf fn.val)
include hn

theorem effSqTailDoorbell_moves (ha : (s.qp fn.val n.toNat).active = true) (hv : v.toNat % 4096 < (s.qp fn.val n.toNat).sqSize) :
    effSqTailDoorbell fn n v s = s.modQp fn.val n.toNat (fun q => { q with sqTail := v.toNat % 4096 }) :=
  (if_pos hn).trans (if_pos ⟨ha, hv⟩)

theorem effSqTailDoorbell_bad (h : (s.qp fn.val n.toNat).active = false ∨ (s.qp fn.val n.toNat).sqSize ≤ v.toNat % 4096) :
    effSqTailDoorbell fn n v s = s.badDoorbell fn.val := by
  refine (if_pos hn).trans (if_neg ?_)
  rcases h with h | h <;> simp [h]

theorem effCqHeadDoorbell_moves (ha : (s.qp fn.val n.toNat).active = true) (hv : v.toNat % 4096 < (s.qp fn.val n.toNat).cqSize) :
    effCqHeadDoorbell fn n v s = s.modQp fn.val n.toNat (fun q => { q with cqHead := v.toNat % 4096 }) :=
  (if_pos hn).trans (if_pos ⟨ha, hv⟩)

theorem effCqHeadDoorbell_bad (h : (s.qp fn.val n.toNat).active = false ∨ (s.qp fn.val n.toNat).cqSize ≤ v.toNat % 4096) :
    effCqHeadDoorbell fn n v s = s.badDoorbell fn.val := by
  refine (if_pos hn).trans (if_neg ?_)
  rcases h with h | h <;> simp [h]

end

section
variable {s : State} {fn : Fin 6} (h5 : fn ≠ 5) {v : Word}
include h5

theorem effEventRingHeadDoorbell_moves (ha : (s.fn fn.val).ring.active = true) (hv : v.toNat % 65536 < (s.fn fn.val).ring.size) :
    effEventRingHeadDoorbell fn v s =
      (s.modFn fn.val (fun x => { x with ring := { x.ring with head := v.toNat % 65536 } })).flushRing fn.val :=
  (if_neg h5).trans (if_pos ⟨ha, hv⟩)

theorem effEventRingHeadDoorbell_bad (h : (s.fn fn.val).ring.active = false ∨ (s.fn fn.val).ring.size ≤ v.toNat % 65536) :
    effEventRingHeadDoorbell fn v s = s.badDoorbell fn.val := by
  refine (if_neg h5).trans (if_neg ?_)
  rcases h with h | h <;> simp [h]

end

/-! ### Enabling and disabling (R522, R523, R578, R580, R581) -/

/-- A pair after a write of HI_QP_CFGn that enables it (R522, R532, R580, R581). -/
def Qp.enabledBy (q : Qp) (v : Word) : Qp :=
  let sq := (v.extractLsb' 12 12).toNat + 1
  let cq := (v.extractLsb' 0 12).toNat + 1
  let q1 := { q.setIrq v with enable := true, fault := false, halted := q.enable && q.halted }
  if q.active then q1
  else { q1 with fault := decide (sq < 2 ∨ cq < 4), active := decide (2 ≤ sq ∧ 4 ≤ cq), sqSize := sq, cqSize := cq, sqHead := 0,
                 sqTail := 0, cqHead := 0, cqTail := 0, phase := true, fetched := [] }

theorem effQpEnable_eq {s : State} {fn : Fin 6} {n : Byte} (hn : n.toNat < pairsOf fn.val) (v : Word) :
    effQpEnable fn n v s = s.modQp fn.val n.toNat (·.enabledBy v) := by
  have hsmall : ∀ a b : Nat, (!decide (a < 2 ∨ b < 4)) = decide (2 ≤ a ∧ 4 ≤ b) := fun a b => by
    rw [← decide_not, decide_eq_decide]
    omega
  simp only [effQpEnable, if_pos hn, hsmall, Qp.enabledBy]

theorem effQpDisable_active {s : State} {fn : Fin 6} {n : Byte} (hn : n.toNat < pairsOf fn.val)
    (ha : (s.qp fn.val n.toNat).active = true) (v : Word) : effQpDisable fn n v s =
      s.modQp fn.val n.toNat (fun q => { q with enable := false, irqEn := v.getLsbD 24, vector := v.extractLsb' 25 6 }) :=
  (if_pos hn).trans (s.modQp_congr fn.val n.toNat (if_pos ha))

section
variable {s : State} {fn : Fin 6} {n : Byte}

theorem effQpDeactivate_done (ha : (s.qp fn.val n.toNat).active = true) (he : (s.qp fn.val n.toNat).enable = false)
    (hf : (s.qp fn.val n.toNat).fetched = []) (hp : ∀ e ∈ (s.fn fn.val).parked, e.pair ≠ n.toNat) :
    effQpDeactivate fn n s = s.modQp fn.val n.toNat (fun q => { q with active := false }) := by
  refine if_pos ?_
  simpa [ha, he, hf, Qp.inFlight] using hp

theorem effQpDeactivate_waits (h : (s.qp fn.val n.toNat).enable = true ∨ (s.qp fn.val n.toNat).fetched ≠ []) :
    effQpDeactivate fn n s = s := by
  refine if_neg ?_
  rcases h with h | h <;> simp [h, Qp.inFlight]

end

/-- A ring after a write of HI_EVR_CFG (R528, R578). -/
def Ring.configured (r : Ring) (v : Word) : Ring :=
  let size := (v.extractLsb' 0 16).toNat + 1
  let r1 := { r with enable := v.getLsbD 31, vector := v.extractLsb' 25 6, irqEn := v.getLsbD 24 }
  if r.active then { r1 with active := v.getLsbD 31 }
  else { r1 with size := size, active := v.getLsbD 31 && decide (16 ≤ size), head := 0, tail := 0, phase := true }

/-- The records held by a ring that holds none are written. -/
theorem State.flushRing_of_held_nil {s : State} {f : Nat} (h : (s.fn f).ring.held = []) : s.flushRing f = s := by
  rw [State.flushRing, h]
  rfl

theorem Ring.held_configured (r : Ring) (v : Word) : (r.configured v).held = r.held := by
  rw [Ring.configured]
  split <;> rfl

theorem effEventRingEnable_of_held_nil {s : State} {fn : Fin 6} (h5 : fn ≠ 5) (hh : (s.fn fn.val).ring.held = []) (v : Word) :
    effEventRingEnable fn v s = s.modFn fn.val (fun x => { x with ring := x.ring.configured v }) := by
  refine (if_neg h5).trans (State.flushRing_of_held_nil ?_)
  rw [State.fn_modFn, if_pos rfl]
  exact (Ring.held_configured ..).trans hh

theorem toNat_ringSize (v : Word) : (v.extractLsb' 0 16).toNat = v.toNat % 65536 := by simp [BitVec.extractLsb'_toNat]

/-- Settles O39 (rings of fewer than 16 entries: log 27), by what each write makes of the pair or the ring it names. -/
theorem queueRegisters : Obligations.QueueRegisters := by
  refine ⟨fun s fn n v => ?_, fun s fn v => ?_, fun s fn n v => ?_, fun s fn n v => ?_, fun s fn v => ?_, fun s fn v => ?_⟩
  · intro f q x hn
    exact ⟨fun ha hv => congrArg Host.Outcome.next (effSqTailDoorbell_moves hn ha hv),
      fun ha hv => congrArg Host.Outcome.next (effCqHeadDoorbell_moves hn ha hv),
      fun h => congrArg Host.Outcome.next (effSqTailDoorbell_bad hn h),
      fun h => congrArg Host.Outcome.next (effCqHeadDoorbell_bad hn h)⟩
  · intro f r x h5
    exact ⟨fun ha hv => congrArg Host.Outcome.next (effEventRingHeadDoorbell_moves h5 ha hv),
      fun h => congrArg Host.Outcome.next (effEventRingHeadDoorbell_bad h5 h)⟩
  · intro f q sq cq hn
    refine ⟨s.modQp f n.toNat (·.enabledBy v), congrArg Host.Outcome.next (effQpEnable_eq hn v), keepsBut_host (s.modQp_frame ..),
      fun m hm => (s.qp_modQp ..).trans (if_neg hm), fun ha => ?_, fun ha => ?_⟩
    · exact ((s.qp_modQp ..).trans (if_pos rfl)).trans (if_pos ha)
    · exact ((s.qp_modQp ..).trans (if_pos rfl)).trans (if_neg (ne_of_eq_of_ne ha Bool.false_ne_true))
  · intro f q hn ha
    exact ⟨congrArg Host.Outcome.next (effQpDisable_active hn ha v),
      fun he hf hp => congrArg Host.Outcome.next (effQpDeactivate_done ha he hf hp),
      fun h => congrArg Host.Outcome.next (effQpDeactivate_waits h)⟩
  · intro f r size h5 hh
    refine ⟨s.modFn f (fun x => { x with ring := x.ring.configured v }),
      congrArg Host.Outcome.next (effEventRingEnable_of_held_nil h5 hh v), keepsBut_host (s.modFn_frame ..),
      fun g hg => (s.fn_modFn ..).trans (if_neg hg), fun ha => ?_, fun ha => ?_⟩
    all_goals rw [State.fn_modFn, if_pos rfl]
    · exact if_pos ha
    · refine (if_neg (ne_of_eq_of_ne ha Bool.false_ne_true)).trans ?_
      rw [toNat_ringSize]
  · intro h5
    refine congrArg Host.Outcome.next ?_
    simp only [effEventLostClear, ne_eq, h5, not_false_eq_true, true_and]

end Sys2Proof.Machine
end

section
/-!
PROOF. Host commands: when they start, what refuses them, what is left of them after a reset (O43).
-/
namespace Sys2Proof.Machine

/-! ### The ways of a host command (R533, R534, R540, R565, R575) -/

section
variable {s : State} {h : Hdr} {c : CmdSpec}

theorem State.hostCmd_stopped (hrun : s.quill.running = false) (ok : Bool) (body : State → State) : s.hostCmd h c ok body = s :=
  if_neg (ne_of_eq_of_ne hrun Bool.false_ne_true)

theorem State.hostCmd_waits (hleft : s.leftFor h c = none) (hmay : s.mayStart h c = false) (ok : Bool) (body : State → State) :
    s.hostCmd h c ok body = s := by
  simp [State.hostCmd, hleft, hmay]

theorem State.hostCmd_left (hrun : s.quill.running = true) {x : Left} (hleft : s.leftFor h c = some x) (ok : Bool)
    (body : State → State) : s.hostCmd h c ok body = s.carryLeft h c ok x body := by
  simp [State.hostCmd, hrun, hleft]

/-- A host command that starts and that a check refuses completes with the status of that check. -/
theorem State.hostCmd_refused {sx : State} {ok : Bool} {st : Status} (hs : startsIn s h c sx) (hr : sx.refuses h c ok = some st)
    (body : State → State) : s.hostCmd h c ok body = (sx.complete h c.opcode st 0).unclaim h s.host.nextJob := by
  obtain ⟨hrun, hleft, hmay, rfl⟩ := hs
  simp [State.hostCmd, State.checked, hrun, hleft, hmay, hr]

end

theorem State.unclaim_of_ne {s : State} {j : Nat} (hj : s.host.nextJob ≠ j) (h : Hdr) : s.unclaim h j = s := if_pos hj

/-! ### The checks (R505 to R507, R540, R724) -/

/-- A HELLO, or a command of minor version 0 after a HELLO (R540 check 1). -/
def State.versionAgreed (s : State) (h : Hdr) (c : CmdSpec) : Bool :=
  decide (c.opcode = 1) || ((s.fn h.fn.val).version && decide (h.minor = 0))

/-- The checks in order, each by the value for which it refuses. -/
theorem State.refuses_eq (s : State) (h : Hdr) (c : CmdSpec) (ok : Bool) : s.refuses h c ok =
    if s.versionAgreed h c = false then some .badVersion
    else if s.permits h c = false then some .notPermitted
    else if (hdrInRange h c && ok) = false then some .badParam
    else if (s.inSafe && !c.safe) = true then some .wrongState
    else if s.outOfService h c = true then some .outOfService
    else if s.enclosingMoves h c = true then some .busy
    else none := by
  have hv : (c.opcode ≠ 0x0001 ∧ ((s.fn h.fn.val).version = false ∨ h.minor ≠ 0)) ↔ s.versionAgreed h c = false := by
    rw [State.versionAgreed]
    cases (s.fn h.fn.val).version <;> simp
  have hr : (!hdrInRange h c || !ok) = !(hdrInRange h c && ok) := (Bool.not_and _ _).symm
  simp only [State.refuses, Bool.not_eq_true', hv, hr]

theorem State.permits_pf {h : Hdr} (h0 : h.fn = 0) (s : State) (c : CmdSpec) : s.permits h c = true := by
  simp [State.permits, h0]

theorem State.permits_bc {h : Hdr} (h5 : h.fn = 5) (s : State) (c : CmdSpec) : s.permits h c = c.bc := by
  simp [State.permits, h5]

/-- What authority says of a VF (R506). -/
theorem State.permits_vf {h : Hdr} (h0 : h.fn ≠ 0) (h5 : h.fn ≠ 5) (s : State) (c : CmdSpec) : s.permits h c =
    (c.vf && (if s.dev.mode = 2
      then decide (h.partition.toNat = h.fn.val - 1) || (decide (h.partition = 0xFF) && vfDevice.contains c.opcode)
      else (decide (h.partition.toNat = h.fn.val - 1) || decide (h.partition = 0xFF)) && vfAnyMode.contains c.opcode)) := by
  have hv0 : h.fn.val ≠ 0 := fun hv => h0 (Fin.ext hv)
  rw [State.permits, if_neg hv0, if_neg (Hdr.val_ne_of_host h5)]

/-- A command that a VF may issue names its own partition or the device. -/
theorem State.permits_vf_names {h : Hdr} (h0 : h.fn ≠ 0) (h5 : h.fn ≠ 5) {s : State} {c : CmdSpec} (hp : s.permits h c = true) :
    c.vf = true ∧ (h.partition.toNat = h.fn.val - 1 ∨ h.partition = 0xFF) := by
  rw [State.permits_vf h0 h5, Bool.and_eq_true] at hp
  obtain ⟨hvf, hpart⟩ := hp
  refine ⟨hvf, ?_⟩
  split at hpart
  · simp only [Bool.or_eq_true, Bool.and_eq_true, decide_eq_true_eq] at hpart
    exact hpart.imp_right And.left
  · simp only [Bool.and_eq_true, Bool.or_eq_true, decide_eq_true_eq] at hpart
    obtain ⟨hnames, -⟩ := hpart
    exact hnames

/-- The commands of a VF outside quarters mode: HELLO, GET_INFO and SET_EVENT_MASK. -/
theorem State.permits_vf_anyMode {h : Hdr} (h0 : h.fn ≠ 0) (h5 : h.fn ≠ 5) {s : State} (hm : s.dev.mode ≠ 2) {c : CmdSpec}
    (hp : s.permits h c = true) : c.opcode = 1 ∨ c.opcode = 2 ∨ c.opcode = 4 := by
  rw [State.permits_vf h0 h5, if_neg hm, Bool.and_eq_true, Bool.and_eq_true] at hp
  obtain ⟨-, -, hop⟩ := hp
  simpa [vfAnyMode] using hop

/-- Settles O43 (the queue entry of a command: log 93): the ways of a command, then the checks in order, then authority. -/
theorem admissionChecks : Obligations.AdmissionChecks := by
  refine ⟨fun s h c ok body => ⟨fun w hs => ⟨fun hr => State.hostCmd_of_startsIn hs hr body,
      fun st hr => State.hostCmd_refused hs hr body⟩, fun hrun => State.hostCmd_stopped hrun ok body,
      fun j => ⟨keepsBut_host (s.claim_frame h c), keepsBut_host (s.unclaim_frame h j), fun hj => State.unclaim_of_ne hj h⟩⟩,
    fun s h c ok => ?_, fun s h c => ⟨fun h0 => State.permits_pf h0 s c, fun h5 => State.permits_bc h5 s c,
      fun h0 h5 hp => State.permits_vf_names h0 h5 hp, fun h0 h5 hm hp => State.permits_vf_anyMode h0 h5 hm hp⟩⟩
  intro v
  have hv : s.versionAgreed h c = v := rfl
  rw [State.refuses_eq, hv]
  refine ⟨fun h1 => ?_, fun h1 h2 => ?_, fun h1 h2 h3 => ?_, fun h1 h2 h3 h4 h5 => ?_, fun h1 h2 h3 h4 h5 => ?_,
    fun h1 h2 h3 h4 h5 => ?_⟩
  all_goals simp only [*, Bool.true_eq_false, if_true, if_false, Bool.false_eq_true, Bool.not_false, Bool.and_self]

end Sys2Proof.Machine
end

section
/-!
PROOF. Fetches, starts of commands, messages, resets and power states of functions (O40).
-/
namespace Sys2Proof.Machine

/-! ### COMMAND_FETCH (R521, R524, R526, R532, R534, R536) -/

section
variable {s : State} {fn : Fin 6} {n : Byte} (hn : n.toNat < pairsOf fn.val) (hm : s.mayFetch fn.val n.toNat = true)
include hn hm

theorem effCommandFetch_failed : effCommandFetch fn n none true s = s.pairFails fn.val n.toNat := by
  simp [effCommandFetch, Nat.not_le.2 hn, hm]

variable {p : List Byte}

theorem effCommandFetch_taken (hp : s.packetRefusal (pktHdr fn n p) p = none) : effCommandFetch fn n (some p) true s =
    (s.fetched fn.val n.toNat p none).readBlock (pktHdr fn n p) p := by
  simp [effCommandFetch, Nat.not_le.2 hn, hm, hp]

variable {st : Status} (hp : s.packetRefusal (pktHdr fn n p) p = some st)
include hp

theorem effCommandFetch_refused (ho : (pktHdr fn n p).ordered = false ∨ s.sqClear (pktHdr fn n p) = true) :
    effCommandFetch fn n (some p) true s =
      ((s.fetched fn.val n.toNat p (some s.host.nextJob)).readBlock (pktHdr fn n p) p).refusePacket (pktHdr fn n p) (fld p 0 2) st := by
  rcases ho with ho | ho <;> simp [effCommandFetch, Nat.not_le.2 hn, hm, hp, ho]

theorem effCommandFetch_held (ho : (pktHdr fn n p).ordered = true) (hq : s.sqClear (pktHdr fn n p) = false) :
    effCommandFetch fn n (some p) true s = s := by
  simp [effCommandFetch, Nat.not_le.2 hn, hm, hp, ho, hq]

end

section
variable (s : State) (f n : Nat)

theorem State.qp_countHostFail (g m : Nat) : (s.countHostFail f).qp g m = s.qp g m :=
  s.qp_modFn f (u := fun x => { x with hostFail := satInc x.hostFail }) (fun _ => rfl) g m

theorem State.qp_pairFails : (s.pairFails f n).qp f n = { s.qp f n with fault := true, halted := true } := by
  rw [State.pairFails, State.qp_countHostFail, State.qp_modQp, if_pos rfl]

theorem State.hostFail_pairFails : ((s.pairFails f n).fn f).hostFail = satInc (s.fn f).hostFail := by
  simp [State.pairFails, State.countHostFail, State.fn_modQp]

theorem State.qp_fetched (p : List Byte) (job : Option Nat) : (s.fetched f n p job).qp f n =
    { s.qp f n with sqHead := ((s.qp f n).sqHead + 1) % (s.qp f n).sqSize
                    fetched := (s.qp f n).fetched ++ [{ packet := p, job := job }] } := by
  rw [State.fetched, State.qp_modQp, if_pos rfl]
  rfl

theorem State.out_fetched (p : List Byte) (job : Option Nat) : (s.fetched f n p job).out =
    s.out ++ [.hostRead f ((s.qp f n).sqBase.toNat + 64 * (s.qp f n).sqHead) 64] := by
  simp [State.fetched]

theorem State.qp_readBlock (h : Hdr) (p : List Byte) : (s.readBlock h p).qp f n = s.qp f n := by
  rw [State.readBlock]
  split <;> rfl

end

/-- What a pair that may fetch meets (R500, R502, R523, R524, R526, R532): two completions for each command fetched, this one
included, have room. -/
theorem State.mayFetch_spec {s : State} {f n : Nat} (h : s.mayFetch f n = true) : let q := s.qp f n
    s.quill.running = true ∧ q.enable = true ∧ q.active = true ∧ q.halted = false ∧ (s.fn f).d3 = false ∧ (s.fn f).bme = true ∧
      q.sqHead ≠ q.sqTail ∧ 2 * (q.inFlight + 1) + (q.cqTail + q.cqSize - q.cqHead) % q.cqSize < q.cqSize := by
  intro q
  simp only [State.mayFetch, Bool.and_eq_true, Bool.not_eq_true', decide_eq_true_eq] at h
  obtain ⟨⟨⟨⟨⟨⟨hrun, hen⟩, hact⟩, hhalt⟩, hmute⟩, hne⟩, hroom⟩ := h
  obtain ⟨hd3, hbme⟩ := (Fn.mute_eq_false_iff _).1 hmute
  exact ⟨hrun, hen, hact, hhalt, hd3, hbme, hne, by simp only [q]; omega⟩

/-! ### When a command may start (R533, R534) -/

/-- A fetched entry that waits to be started and asks for a command. -/
abbrev Fetched.asks (e : Fetched) (h : Hdr) (c : CmdSpec) : Prop := e.waits h = true ∧ spells h c e.packet = true

section
variable (s : State) (h : Hdr) (c : CmdSpec)

theorem State.mayStart_bc (h5 : h.fn = 5) : s.mayStart h c = true := by simp [State.mayStart, h5]

variable {h} (h5 : h.fn ≠ 5)
include h5

theorem State.mayStart_of_waiting (hw : ∃ e, e ∈ (s.qp h.fn.val h.sq.toNat).fetched ∧ e.waits h = true) :
    s.mayStart h c = true ↔ (∃ e, e ∈ (s.qp h.fn.val h.sq.toNat).fetched ∧ e.asks h c) ∧
      (h.ordered = true → (∀ e ∈ (s.fn h.fn.val).parked, e.pair ≠ h.sq.toNat) ∧
        ∃ e, (s.qp h.fn.val h.sq.toNat).fetched.head? = some e ∧ e.asks h c) := by
  have hany : (s.qp h.fn.val h.sq.toNat).fetched.any (fun e => e.waits h) = true := List.any_eq_true.2 hw
  have hhead : ∀ o : Option Fetched, (o.map (fun e => e.waits h && spells h c e.packet)).getD false = true ↔
      ∃ e, o = some e ∧ e.asks h c := fun o => by cases o <;> simp
  simp only [State.mayStart, decide_eq_false (Hdr.val_ne_of_host h5), hany, Bool.false_or, if_true, Bool.and_eq_true,
    Bool.or_eq_true, Bool.not_eq_true', hhead, List.any_eq_true, List.all_eq_true, decide_eq_true_eq]
  cases h.ordered <;> simp

theorem State.mayStart_of_none_waiting (hw : ∀ e, e ∈ (s.qp h.fn.val h.sq.toNat).fetched → e.waits h = false) :
    s.mayStart h c = true ↔ h.ordered = false ∨ s.sqClear h = true := by
  have hany : (s.qp h.fn.val h.sq.toNat).fetched.any (fun e => e.waits h) = false :=
    List.any_eq_false.2 fun e he => ne_of_eq_of_ne (hw e he) Bool.false_ne_true
  simp [State.mayStart, Hdr.val_ne_of_host h5, hany]

end

/-! ### Commands left over from before a reset (R565) -/

theorem State.leftFor_spec {s : State} {h : Hdr} {c : CmdSpec} {x : Left} (hx : s.leftFor h c = some x) :
    x ∈ (s.fn h.fn.val).left ∧ x.sq = h.sq.toNat ∧ spells h c x.packet = true := by
  obtain ⟨hfind, -⟩ := Option.filter_eq_some_iff.1 hx
  obtain ⟨hmem, hsq⟩ := List.mem_filter.1 (List.mem_of_find?_eq_some hfind)
  exact ⟨hmem, of_decide_eq_true hsq, List.find?_some (p := fun e : Left => spells h c e.packet) hfind⟩

/-- The jobs from a number on are silent. -/
theorem State.silent_of_mem_silence {s : State} {job i : Nat} {j : Job} (hj : (i, j) ∈ (s.silence job).host.jobs) (hi : job ≤ i) :
    j.silent = true := by
  obtain ⟨e, -, he⟩ := List.mem_map.1 hj
  split at he
  next =>
    cases he
    rfl
  next hlt =>
    cases he
    exact absurd hi hlt

/-! ### DEFERRED, MSI-X (R500, R502, R530, R542) -/

section
variable {s : State} {i : Nat} {j : Job} (hj : s.job i = some j)
include hj

theorem effDeferredCompletion_again (hd : j.deferred = true) : effDeferredCompletion i s = s := by
  simp [effDeferredCompletion, hj, hd]

theorem effDeferredCompletion_first (hs : j.silent = false) (hd : j.deferred = false) : effDeferredCompletion i s =
    ({ s with host := { s.host with jobs := s.host.jobs.set i { j with deferred := true } } } : State).writeCq j.hdr .deferred 0 := by
  simp [effDeferredCompletion, hj, hs, hd]

end

section
variable {s : State} {fn : Fin 6} {v : BitVec 6}

theorem effMsixMessage_sent (hdue : (s.fn fn.val).msixDue.contains v.toNat = true) (hs : (s.fn fn.val).sendsMsix v.toNat = true) :
    effMsixMessage fn v s =
      (s.modFn fn.val (fun y => { y with msixDue := setDel y.msixDue v.toNat })).emit (.msix fn.val v.toNat) :=
  if_pos (Bool.and_eq_true_iff.2 ⟨hdue, hs⟩)

theorem effMsixMessage_waits (hs : (s.fn fn.val).sendsMsix v.toNat = false) : effMsixMessage fn v s = s :=
  if_neg fun h => Bool.false_ne_true (hs.symm.trans (Bool.and_eq_true_iff.1 h).2)

end

theorem Fn.sendsMsix_iff (x : Fn) (v : Nat) : x.sendsMsix v = true ↔
    x.d3 = false ∧ x.bme = true ∧ x.msixOn = true ∧ x.msixMask = false ∧ x.msixMasked.getLsbD v = false := by
  simp [Fn.sendsMsix, Fn.mute_eq_false_iff, and_assoc]

theorem Fn.sendsMsix_eq_false_iff (x : Fn) (v : Nat) : x.sendsMsix v = false ↔
    x.d3 = true ∨ x.bme = false ∨ x.msixOn = false ∨ x.msixMask = true ∨ x.msixMasked.getLsbD v = true := by
  rw [← Bool.not_eq_true, Fn.sendsMsix_iff]
  simp only [not_and_or, Bool.not_eq_false, Bool.not_eq_true]

/-! ### Function resets and power states (R502, R565) -/

theorem State.fn_resetFn (s : State) (f g : Nat) : (s.resetFn f).fn g = if g = f then (s.fn f).afterReset else s.fn g :=
  s.fn_modFn f g Fn.afterReset

theorem effD0Return_of_d3 {s : State} {fn : Fin 6} (h5 : fn ≠ 5) (hd : (s.fn fn.val).d3 = true) :
    effD0Return fn s = (s.modFn fn.val (fun y => { y with d3 := false })).flushFn fn.val := if_pos ⟨h5, hd⟩

theorem State.flushFn_of_mute {s : State} {f : Nat} (hm : (s.fn f).mute = true) : s.flushFn f = s := if_pos hm

/-- Where no data and no completion waited, the records held are what is left to write. -/
theorem State.flushFn_of_nothing_parked {s : State} {f : Nat} (hm : (s.fn f).mute = false) (hd : (s.fn f).parkedData = [])
    (hp : (s.fn f).parked = []) :
    s.flushFn f = (s.modFn f (fun y => { y with parked := [], parkedData := [] })).flushRing f := by
  simp [State.flushFn, hm, hd, hp]

/-! ### PCI Express (R500, R509, R518, R574) -/

theorem bar2Fits_iff (fn : Fin 6) (g : BitVec 3) : bar2Fits fn.val g = true ↔ g.toNat ≤ if fn = 0 then 6 else 4 := by
  by_cases h0 : fn = 0
  · subst h0
    simp [bar2Fits, barsOf, show 30 + g.toNat ≤ 36 ↔ g.toNat ≤ 6 by omega]
  · have hv : fn.val ≠ 0 := fun h => h0 (Fin.ext h)
    simp [bar2Fits, barsOf, h0, hv, show 30 + g.toNat ≤ 34 ↔ g.toNat ≤ 4 by omega]

theorem effPcieConfigWrite_bar2Size {fn : Fin 6} (h5 : fn ≠ 5) (g : BitVec 3) (s : State) : effPcieConfigWrite fn (.bar2Size g) s =
    if g.toNat ≤ if fn = 0 then 6 else 4 then s.modFn fn.val (fun x => { x with b2Log := g }) else s := by
  rw [effPcieConfigWrite, if_neg h5]
  simp only [bar2Fits_iff]

theorem effPcieLinkStateChange_up {l : HostLink} (hl : linkLegal l = true) (hs : l.speed ≠ 0) (s : State) :
    effPcieLinkStateChange l [] s = { s with host := { s.host with link := l } } := by
  rw [effPcieLinkStateChange, List.foldl_nil, if_neg (by simp [hl])]
  exact if_neg hs

/-- Settles O40 (Bus Master Enable, MSI-X, AER, VF Enable: log 24; what a reset keeps: log 26; packets that spell no row: log
93), row by row. -/
theorem fetchAndInterrupts : Obligations.FetchAndInterrupts := by
  refine ⟨fun s fn n p => ?_, fun s h c => ?_, fun s h c ok body x => ?_, fun s f n hm => State.mayFetch_spec hm,
    fun s i j hj hs => ?_, fun s fn v => ?_, fun s fn => ?_, fun s fn b g v a l => ?_⟩
  · intro f q k op out u v hn hm
    refine ⟨congrArg Host.Outcome.next (effCommandFetch_failed hn hm),
      fun hp => congrArg Host.Outcome.next (effCommandFetch_taken hn hm hp),
      fun st hp ho => congrArg Host.Outcome.next (effCommandFetch_refused hn hm hp ho), fun hp ho hq => ?_,
      fun x ha => exec_commandFetch_unwritten hn ha x, ⟨s.qp_pairFails f n.toNat, s.hostFail_pairFails f n.toNat⟩, ?_,
      s.out_fetched f n.toNat p none⟩
    · obtain ⟨st, hst⟩ := Option.ne_none_iff_exists'.1 hp
      exact congrArg Host.Outcome.next (effCommandFetch_held hn hm hst ho hq)
    · exact (State.qp_readBlock ..).trans (s.qp_fetched f n.toNat p none)
  · intro l asks
    exact ⟨fun h5 => s.mayStart_bc h c h5, fun h5 hw => s.mayStart_of_waiting c h5 hw,
      fun h5 hw => s.mayStart_of_none_waiting c h5 hw, fun ok body hrun => State.hostCmd_stopped hrun ok body,
      fun ok body hleft hmay => State.hostCmd_waits hleft hmay ok body,
      fun ok body st hrun hleft hmay hr => State.hostCmd_refused ⟨hrun, hleft, hmay, rfl⟩ hr body,
      fun ok body hrun hleft hmay hr => State.hostCmd_of_startsIn ⟨hrun, hleft, hmay, rfl⟩ hr body⟩
  · intro f v q s1 t hrun hx
    exact ⟨State.hostCmd_left hrun hx ok body, State.leftFor_spec hx, fun i j => State.silent_of_mem_silence⟩
  · exact ⟨fun hd => congrArg Host.Outcome.next (effDeferredCompletion_again hj hd),
      fun hd => congrArg Host.Outcome.next (effDeferredCompletion_first hj hs hd)⟩
  · intro x hdue
    exact ⟨fun h => congrArg Host.Outcome.next (effMsixMessage_sent hdue ((Fn.sendsMsix_iff ..).2 h)),
      fun h => congrArg Host.Outcome.next (effMsixMessage_waits ((Fn.sendsMsix_eq_false_iff ..).2 h))⟩
  · intro f h5
    refine ⟨⟨s.resetFn f, congrArg Host.Outcome.next (if_neg h5), (s.fn_resetFn f f).trans (if_pos rfl),
      fun g hg => (s.fn_resetFn f g).trans (if_neg hg), keepsBut_of_allSame (s.resetFn_frame f)⟩, rfl,
      congrArg Host.Outcome.next (if_neg h5), fun hd => congrArg Host.Outcome.next (effD0Return_of_d3 h5 hd),
      fun t hm => State.flushFn_of_mute ((Fn.mute_iff _).2 hm),
      fun t hd3 hbme => State.flushFn_of_nothing_parked ((Fn.mute_eq_false_iff _).2 ⟨hd3, hbme⟩)⟩
  · intro f h5 hl
    exact ⟨congrArg Host.Outcome.next (if_neg h5),
      fun hg => congrArg Host.Outcome.next ((effPcieConfigWrite_bar2Size h5 g s).trans (if_pos hg)),
      fun hg => congrArg Host.Outcome.next ((effPcieConfigWrite_bar2Size h5 g s).trans (if_neg (Nat.not_le.2 hg))),
      congrArg Host.Outcome.next (if_neg h5), congrArg Host.Outcome.next (if_neg h5), congrArg Host.Outcome.next (if_neg h5),
      congrArg Host.Outcome.next (if_neg h5), rfl, congrArg Host.Outcome.next (effPcieLinkStateChange_up hl.1 hl.2 s)⟩

end Sys2Proof.Machine
end

section
/-!
PROOF. The session: HELLO, information blocks, masks and thresholds (O48).
-/
namespace Sys2Proof.Machine

/-! ### HELLO (R549, R550) -/

section
variable {s sx : State} {h : Hdr} {lo hi mn : Byte}
  (hs : startsIn s h ((anySpec 0x0001 true true true).on [(16, 1, lo.toNat), (17, 1, hi.toNat), (18, 1, mn.toNat)]) sx)
  (hr : sx.refuses h ((anySpec 0x0001 true true true).on [(16, 1, lo.toNat), (17, 1, hi.toNat), (18, 1, mn.toNat)]) true = none)
include hs hr

theorem exec_hello_busy (ho : 2 ≤ sx.outstanding h.fn.val) :
    exec (.hello h lo hi mn) s = .next ((sx.complete h 0x0001 .busy 0).unclaim h s.host.nextJob) :=
  next_hostCmd hs hr (if_pos ho)

variable (ho : sx.outstanding h.fn.val < 2)
include ho

theorem exec_hello_agreed (hlo : lo.toNat ≤ 1) (hhi : 1 ≤ hi.toNat) : exec (.hello h lo hi mn) s =
    .next ((((sx.modFn h.fn.val (fun x => { x with version := true, mask := BitVec.allOnes 256 })).newNonce h.fn.val).complete h 0x0001
      .ok (1 + 2 ^ 16 + h.fn.val * 2 ^ 24)).unclaim h s.host.nextJob) :=
  next_hostCmd hs hr ((if_neg (Nat.not_le.2 ho)).trans (if_pos ⟨hlo, hhi⟩))

theorem exec_hello_badVersion (hv : 1 < lo.toNat ∨ hi.toNat = 0) :
    exec (.hello h lo hi mn) s = .next ((sx.complete h 0x0001 .badVersion 1).unclaim h s.host.nextJob) :=
  next_hostCmd hs hr ((if_neg (Nat.not_le.2 ho)).trans (if_neg (by omega)))

end

/-! ### Replies (R553, R568) -/

section
variable {s : State} {h : Hdr} (op : Nat) {r : Reply} {d : List Byte}

theorem State.reply_tooSmall (hn : r.len.toNat < d.length) : s.reply h op r d = s.complete h op .badParam d.length := if_pos hn

variable (hn : d.length ≤ r.len.toNat)
include hn

theorem State.reply_bc (h5 : h.fn = 5) : s.reply h op r d = s.completeWith h op .ok d.length d :=
  (if_neg (Nat.not_lt.2 hn)).trans (if_pos h5)

variable (h5 : h.fn ≠ 5)
include h5

theorem State.reply_failed (hok : r.ok = false) : s.reply h op r d = (s.countHostFail h.fn.val).complete h op .aborted 0 :=
  (if_neg (Nat.not_lt.2 hn)).trans ((if_neg h5).trans (if_pos (by rw [hok]; rfl)))

theorem State.reply_taken (hok : r.ok = true) :
    s.reply h op r d = (s.toHost h.fn.val r.addr.toNat d).complete h op .ok d.length :=
  (if_neg (Nat.not_lt.2 hn)).trans ((if_neg h5).trans (if_neg (by simp [hok])))

end

/-- Data of a function that may write goes to host memory (R500, R502). -/
theorem State.toHost_written {s : State} {f : Nat} (hm : (s.fn f).mute = false) (a : Nat) (b : List Byte) :
    s.toHost f a b = s.emit (.hostWrite f a b) := if_neg (ne_of_eq_of_ne hm Bool.false_ne_true)

/-! ### SET_THRESHOLDS (R558, R712) -/

/-- A SET_THRESHOLDS as the table of commands has it. -/
abbrev thresholdsSpec (b : List Byte) : CmdSpec := (anySpec 0x0104 false true false).on [(16, b.length, leNat b)]

/-- The thresholds of a block are set and recorded. -/
def State.withThresholds (s : State) (b : List Byte) : State :=
  let x := fun o n => leNat ((b.drop o).take n)
  (s.modHealth (fun y =>
    { y with partResets := x 0 1, partMinutes := x 1 1, devResetMax := x 2 1, devMinutes := x 3 1
             strokeWatchMs := BitVec.ofNat 16 (x 4 2), holdWatchS := BitVec.ofNat 16 (x 6 2) })).moraineAppend 11
    [(16, 8, leNat (b.take 8))]

/-- What SET_THRESHOLDS does once its checks pass. -/
def State.takeThresholds (s : State) (h : Hdr) (b : List Byte) : State :=
  if s.thresholdsSigned h.fn.val b then (s.withThresholds b).complete h 0x0104 .ok 0 else s.complete h 0x0104 .authFail 0

/-- A SET_THRESHOLDS that starts draws a new AUTH_NONCE, whatever its outcome. -/
theorem effSetThresholds_of_startsIn {s sx : State} {h : Hdr} {b : List Byte} (hs : startsIn s h (thresholdsSpec b) sx) :
    effSetThresholds h b s =
      (s.hostCmd h (thresholdsSpec b) (thresholdsOk b && h.indirect) (·.takeThresholds h b)).newNonce h.fn.val := by
  obtain ⟨hrun, -, hmay, -⟩ := hs
  exact if_pos (by rw [hrun, hmay, Bool.or_true, Bool.and_true])

section
variable {s sx : State} {h : Hdr} {b : List Byte} (hs : startsIn s h (thresholdsSpec b) sx)
include hs

theorem exec_setThresholds_refused {st : Status} (hr : sx.refuses h (thresholdsSpec b) (thresholdsOk b && h.indirect) = some st) :
    exec (.setThresholds h b) s = .next (((sx.complete h 0x0104 st 0).unclaim h s.host.nextJob).newNonce h.fn.val) := by
  refine congrArg Host.Outcome.next ((effSetThresholds_of_startsIn hs).trans ?_)
  rw [State.hostCmd_refused hs hr]
  rfl

theorem exec_setThresholds_checked (hr : sx.refuses h (thresholdsSpec b) (thresholdsOk b && h.indirect) = none) :
    exec (.setThresholds h b) s = .next (((sx.takeThresholds h b).unclaim h s.host.nextJob).newNonce h.fn.val) := by
  refine congrArg Host.Outcome.next ((effSetThresholds_of_startsIn hs).trans ?_)
  rw [State.hostCmd_of_startsIn hs hr]

end

/-- Settles O48 (a HELLO that fails leaves the version in force: log 28), command by command. -/
theorem sessionResults : Obligations.SessionResults := by
  refine ⟨fun s sx h lo hi mn => ?_, fun s sx h r hs hr => next_hostCmd hs hr rfl, fun s sx h r hs hr => next_hostCmd hs hr rfl,
    fun s sx h r m hs hr => next_hostCmd hs hr rfl, fun s sx h r m hs hr => next_hostCmd hs hr rfl, fun s h op r d => ?_,
    fun s sx h m hs hr => next_hostCmd hs hr rfl, fun s sx h b => ?_⟩
  · intro f hs hr
    exact ⟨fun ho => exec_hello_busy hs hr ho, fun ho hlo hhi => exec_hello_agreed hs hr ho hlo hhi,
      fun ho hv => exec_hello_badVersion hs hr ho hv⟩
  · intro n
    refine ⟨fun hn => State.reply_tooSmall op hn, fun hn h5 => State.reply_bc op hn h5,
      fun hn h5 hok => State.reply_failed op hn h5 hok, fun hn h5 hok hm => (State.reply_taken op hn h5 hok).trans ?_⟩
    rw [State.toHost_written hm]
  · intro x c hs
    refine ⟨fun st hr => exec_setThresholds_refused hs hr, fun hr hsig => ?_, fun hr hsig => ?_⟩
    all_goals refine (exec_setThresholds_checked hs hr).trans ?_
    · rw [State.takeThresholds, if_neg (ne_of_eq_of_ne hsig Bool.false_ne_true)]
    · rw [State.takeThresholds, if_pos hsig]
      rfl

end Sys2Proof.Machine
end

section
/-!
PROOF. START_CONTEXT and STOP_CONTEXT by the state of the context they name (O50).
-/
namespace Sys2Proof.Machine

/-! ### Starts as enables (R723, R832) -/

/-- A start whose reads find nothing is made at once. -/
theorem State.startReading_nil (s : State) (c : Nat) (reads : List (Nat × Nat)) (run : State → State) :
    s.startReading c reads [] run = run s := rfl

/-- A START_CONTEXT of a context that is not OFF reads nothing. -/
theorem State.startReading_not_off {s : State} {c : Nat} (hl : (s.ctx c).lc.life ≠ .off) (reads : List (Nat × Nat))
    (ls : List LineFind) (run : State → State) : s.startReading c reads ls run = run s :=
  if_pos (by simp [hl])

section
variable {s : State} {h : Hdr} (cmd : Instr)

theorem State.enableContext_busy (hb : s.committing = true ∨ (s.ctx (s.hdrCtx h)).lc.holdsEnable = true) :
    s.enableContext h cmd = s.complete h 0x0202 .busy 0 := by
  by_cases hc : s.committing = true
  · exact if_pos hc
  · exact (if_neg hc).trans (if_pos (hb.resolve_left hc))

variable (hc : s.committing = false) (hh : (s.ctx (s.hdrCtx h)).lc.holdsEnable = false)
include hc hh

theorem State.enableContext_on (hl : (s.ctx (s.hdrCtx h)).lc.life = .on) : s.enableContext h cmd =
    (s.cancelHeld (s.hdrCtx h)).complete h 0x0202 .ok ((s.cancelHeld (s.hdrCtx h)).startResult (s.hdrCtx h)) := by
  simp [State.enableContext, hc, hh, hl]

theorem State.enableContext_starting (hl : (s.ctx (s.hdrCtx h)).lc.life = .starting) : s.enableContext h cmd =
    ((s.cancelHeld (s.hdrCtx h)).addJob h 0x0202 cmd 0).modLife (s.hdrCtx h) (fun x =>
      { x with starts := x.starts ++ [(s.cancelHeld (s.hdrCtx h)).host.nextJob] }) := by
  simp [State.enableContext, hc, hh, hl]

theorem State.enableContext_stopping (hl : (s.ctx (s.hdrCtx h)).lc.life = .stopping) : s.enableContext h cmd =
    ((s.cancelHeld (s.hdrCtx h)).deferJob h 0x0202 cmd 0).modLife (s.hdrCtx h) (fun x =>
      { x with held := some (.enable (s.cancelHeld (s.hdrCtx h)).host.nextJob) }) := by
  simp [State.enableContext, hc, hh, hl]

theorem State.enableContext_off (hl : (s.ctx (s.hdrCtx h)).lc.life = .off) : s.enableContext h cmd =
    (((s.cancelHeld (s.hdrCtx h)).addJob h 0x0202 cmd 0).startJob (s.cancelHeld (s.hdrCtx h)).host.nextJob).refreshPw
      (ctxPart (s.hdrCtx h)) := by
  simp [State.enableContext, hc, hh, hl]

end

/-! ### Stops as disables (R723, R759) -/

section
variable {s : State} {h : Hdr} (cmd : Instr) (quiet : Bool)

theorem State.disableContext_busy (hh : (s.ctx (s.hdrCtx h)).lc.holdsDisable = true) :
    s.disableContext h cmd quiet = s.complete h 0x0203 .busy 0 := if_pos hh

variable (hh : (s.ctx (s.hdrCtx h)).lc.holdsDisable = false)
include hh

theorem State.disableContext_off (hl : (s.ctx (s.hdrCtx h)).lc.life = .off) :
    s.disableContext h cmd quiet = s.complete h 0x0203 .ok 0 := by
  simp [State.disableContext, hh, hl]

theorem State.disableContext_starting (hl : (s.ctx (s.hdrCtx h)).lc.life = .starting) : s.disableContext h cmd quiet =
    (s.deferJob h 0x0203 cmd 0).modLife (s.hdrCtx h) (fun x => { x with held := some (.disable s.host.nextJob) }) := by
  simp [State.disableContext, hh, hl]

theorem State.disableContext_stopping (hl : (s.ctx (s.hdrCtx h)).lc.life = .stopping) : s.disableContext h cmd quiet =
    ((s.addJob h 0x0203 cmd 0).cancelHeld (s.hdrCtx h)).modLife (s.hdrCtx h) (fun x =>
      { x with stopEdge := x.stopEdge ++ [s.host.nextJob] }) := by
  simp [State.disableContext, hh, hl]

variable (hl : (s.ctx (s.hdrCtx h)).lc.life = .on)
include hl

theorem State.disableContext_edge : s.disableContext h cmd false =
    let u := (s.addJob h 0x0203 cmd 0).modLife (s.hdrCtx h) (fun x => { x with stopEdge := x.stopEdge ++ [s.host.nextJob] })
    if (s.ctx (s.hdrCtx h)).run.frozen = true then u.stopFrozen (s.hdrCtx h)
    else u.modLife (s.hdrCtx h) (fun x => { x with life := .stopping }) := by
  simp [State.disableContext, hh, hl]

theorem State.disableContext_quiet : s.disableContext h cmd true =
    if (s.ctx (s.hdrCtx h)).run.frozen = true then s.complete h 0x0203 .wrongState 0
    else if (s.ctx (s.hdrCtx h)).lc.stopQuiet.isSome = true then s.complete h 0x0203 .busy 0
    else (s.addJob h 0x0203 cmd 0).modLife (s.hdrCtx h) (fun x => { x with stopQuiet := some s.host.nextJob }) := by
  simp [State.disableContext, hh, hl]

end

/-- Settles O50 (a second STOP of FORM 1 and a STOP of a context that is OFF: log 88), by the state of the context. -/
theorem contextRuns : Obligations.ContextRuns := by
  refine ⟨fun s sx h wm ck fr bs hbase hlimit ls => ?_, fun s sx h => ?_, fun s sx h => ?_⟩
  · intro c l cmd s1 id hs hr
    refine ⟨fun hbusy => next_hostCmd hs hr (State.enableContext_busy cmd hbusy), fun hc hh =>
      ⟨fun hl => next_hostCmd hs hr ?_, fun hl => next_hostCmd hs hr ?_, fun hl => next_hostCmd hs hr ?_,
        fun hl => next_hostCmd hs hr (State.enableContext_off cmd hc hh hl), fun _ => next_hostCmd hs hr rfl⟩⟩
    all_goals refine (State.startReading_not_off (show l.life ≠ .off by simp [hl]) ..).trans ?_
    · exact State.enableContext_on cmd hc hh hl
    · exact State.enableContext_starting cmd hc hh hl
    · exact State.enableContext_stopping cmd hc hh hl
  · intro c l id u hs hr
    refine ⟨fun hh => next_hostCmd hs hr (State.disableContext_busy _ false hh),
      fun hh hl => next_hostCmd hs hr (State.disableContext_off _ false hh hl),
      fun hh hl => next_hostCmd hs hr (State.disableContext_starting _ false hh hl),
      fun hh hl => next_hostCmd hs hr (State.disableContext_stopping _ false hh hl),
      fun hh hl hf => next_hostCmd hs hr ((State.disableContext_edge _ hh hl).trans ?_),
      fun hh hl hf => next_hostCmd hs hr ((State.disableContext_edge _ hh hl).trans (if_pos hf))⟩
    exact if_neg (ne_of_eq_of_ne hf Bool.false_ne_true)
  · intro c l id u hs hr
    refine ⟨fun hh => next_hostCmd hs hr (State.disableContext_busy _ true hh),
      fun hh hl => next_hostCmd hs hr (State.disableContext_off _ true hh hl),
      fun hh hl => next_hostCmd hs hr (State.disableContext_starting _ true hh hl),
      fun hh hl => next_hostCmd hs hr (State.disableContext_stopping _ true hh hl),
      fun hh hl => ⟨fun hf hq => next_hostCmd hs hr ((State.disableContext_quiet _ hh hl).trans ?_),
        fun hf => next_hostCmd hs hr ((State.disableContext_quiet _ hh hl).trans (if_pos hf)),
        fun hf hq => next_hostCmd hs hr ((State.disableContext_quiet _ hh hl).trans ?_)⟩⟩
    all_goals refine (if_neg (ne_of_eq_of_ne hf Bool.false_ne_true)).trans ?_
    · exact if_neg (by simp [show (sx.ctx (sx.hdrCtx h)).lc.stopQuiet = none from hq])
    · exact if_pos (Option.isSome_iff_ne_none.2 hq)

end Sys2Proof.Machine
end

section
/-!
PROOF. Tests on command: RUN_BIST, pattern packs, suspect replay (O54).
-/
namespace Sys2Proof.Machine

/-! ### The end of a test (R809, R814) -/

theorem effBistDone_of_job {s : State} {i n : Nat} {j : Job} (hj : s.job i = some j) (hn : bistScope j.cmd = some n)
    (found : List BistFinding) (cal : List XCal) :
    let p := s.hdrPart j.hdr
    let mine := if n = 0 then cal.filter (fun x => decide (s.partOf x.k.val = p)) else []
    let u := mine.foldl State.calibrate (found.foldl State.handleFinding s)
    let bad := found.any BistFinding.fatal
    effBistDone i found cal s = ((if bad = true then u.bistOut p else u).finish i .ok (bistResult (u.fences - s.fences)
      (found.filter (fun f => match f with | .inkwellRow _ _ _ _ spare => spare | _ => false)).length
      (u.bulk.bad.length - s.bulk.bad.length) (if bad = true then 1 else 0)
      (mine.filter (fun x => match s.crossingClass x.k.val x.port.toNat with
        | some c => decide (c < x.cal.toNat)
        | none => false)).length)).refreshPw p := by
  intro p mine u bad
  rw [effBistDone, hj]
  dsimp only
  rw [hn] <;> rfl

/-! ### Pattern packs (R682, R683) -/

theorem fitTo_of_length_eq {n : Nat} {l : List Byte} (h : l.length = n) : fitTo n l = l := by
  rw [fitTo, ← h, List.take_left]

/-- The pack that the bytes of a pattern pack describe (R682). -/
abbrev packOf (b : List Byte) : Pack :=
  { id := BitVec.ofNat 32 (fld b 8 4), version := BitVec.ofNat 32 (fld b 12 4), patterns := fld b 16 2, bytes := b }

section
variable {s sx : State} {h : Hdr} {ha : DWord} {len : Word}
  (hs : startsIn s h ((pfOnly 0x0503 false .any).on [(16, 8, ha.toNat), (24, 4, len.toNat)]) sx)
  (hr : sx.refuses h ((pfOnly 0x0503 false .any).on [(16, 8, ha.toNat), (24, 4, len.toNat)]) (decide (ha.toNat % 4 = 0)) = none)
include hs hr

theorem exec_loadFirnPatterns_tooLong (hlen : 4 * 1048576 < len.toNat) (x : Option (List Byte)) :
    exec (.loadFirnPatterns h ha len x) s = .next ((sx.complete h 0x0503 .badParam 0).unclaim h s.host.nextJob) :=
  next_hostCmd hs hr (if_pos hlen)

variable (hlen : len.toNat ≤ 4 * 1048576)
include hlen

theorem exec_loadFirnPatterns_unread :
    exec (.loadFirnPatterns h ha len none) s = .next ((sx.complete h 0x0503 .aborted 0).unclaim h s.host.nextJob) :=
  next_hostCmd hs hr (if_neg (Nat.not_lt.2 hlen))

variable {b : List Byte} (hb : b.length = len.toNat)
include hb

theorem exec_loadFirnPatterns_malformed (hok : packOk b = false) :
    exec (.loadFirnPatterns h ha len (some b)) s = .next ((sx.complete h 0x0503 .badParam 0).unclaim h s.host.nextJob) := by
  refine next_hostCmd hs hr ((if_neg (Nat.not_lt.2 hlen)).trans ?_)
  dsimp only
  rw [fitTo_of_length_eq hb, hok]
  rfl

/-- A signed pack of a new or higher version is taken where fewer than four others are loaded. -/
theorem exec_loadFirnPatterns_taken (hok : packOk b = true) {k : Nat} (hk : sx.module_.ident.enrolled 1 = some k)
    (hsig : verified k (b.take (b.length - 64)) (b.drop (b.length - 64)) = true)
    (hnew : ∀ x ∈ sx.quill.packs, x.id = (packOf b).id → x.version.toNat < (packOf b).version.toNat)
    (hroom : (sx.quill.packs.filter (fun x => x.id != (packOf b).id)).length < 4) :
    exec (.loadFirnPatterns h ha len (some b)) s = .next ((((((sx.modQuill (fun q =>
      { q with packs := placePack sx.quill.packs (packOf b) })).writeRec 5
        (packIndex (placePack sx.quill.packs (packOf b)) (packOf b).id) 0 0 b).moraineAppend 12
          [(16, 4, (packOf b).id.toNat), (20, 4, (packOf b).version.toNat)]).complete h 0x0503 .ok 0)).unclaim h s.host.nextJob) := by
  have hold : ¬sx.quill.packs.any (fun x => decide (x.id = (packOf b).id ∧ (packOf b).version.toNat ≤ x.version.toNat)) = true := by
    rw [List.any_eq_true]
    rintro ⟨x, hx, hd⟩
    obtain ⟨hid, hver⟩ := of_decide_eq_true hd
    exact absurd (hnew x hx hid) (Nat.not_lt.2 hver)
  refine next_hostCmd hs hr ((if_neg (Nat.not_lt.2 hlen)).trans ?_)
  dsimp only
  rw [fitTo_of_length_eq hb]
  exact (if_neg (by simp [hok])).trans ((if_neg (by simp [hk, hsig])).trans ((if_neg hold).trans (if_neg (Nat.not_le.2 hroom))))

end

/-! ### Suspect replay (R708 to R710) -/

section
variable {s : State} {p : Fin 4} {i : Nat} (hi : (s.qpart p).replayCtx = some i) (hrep : (s.qpart p).replay = 1) (cal : List XCal)
include hi hrep

theorem effSuspectRunEnd_innocent :
    effSuspectRunEnd p false cal s = (s.suspectOff (4 * p + i)).replayFrom 5 p (i + 1) := by
  simp [effSuspectRunEnd, hi, hrep]

/-- The suspect that hangs ends the replay (R709): the partition is reset, and every suspect is OFF. -/
theorem effSuspectRunEnd_guilty : effSuspectRunEnd p true cal s =
    ((List.range 4).foldl (fun t n => if (s.qpart p).suspects.getLsbD n then t.suspectOff (4 * p + n) else t)
      ((s.resetPartition p cal).post 0x0020 3 (source 3 0 0 p 0)
        [(16, 1, 3), (17, 1, i), (18, 1, (s.qpart p).suspects.toNat), (20, 4, (s.part p).stroke.count.toNat % 2 ^ 32),
          (24, 4, s.msSince (s.qpart p).lastStrokeTime)] (some p))).endReplay p i := by
  rw [effSuspectRunEnd]
  dsimp only
  rw [hi]
  exact (if_neg (not_not.2 hrep)).trans (if_pos rfl)

end

/-- Settles O54 (the place of a replaced pack: log 63; CAUSE of a partition taken out of service: log 21), command by command. -/
theorem testCommands : Obligations.TestCommands := by
  refine ⟨fun s sx h => ?_, fun s sx h => ?_, fun s sx h => ?_, fun s sx h => ?_, fun s i j n found cal => ?_,
    fun s sx h ha len => ?_, fun s sx h => ?_, fun s p cal i => ?_⟩
  · exact fun hs hr => next_hostCmd hs hr rfl
  · exact fun hs hr => next_hostCmd hs hr rfl
  · exact fun hs hr => next_hostCmd hs hr rfl
  · exact fun hs hr => next_hostCmd hs hr rfl
  · exact fun hj hn => congrArg Host.Outcome.next (effBistDone_of_job hj hn found cal)
  · intro pk hs hr
    exact ⟨exec_loadFirnPatterns_tooLong hs hr, exec_loadFirnPatterns_unread hs hr,
      fun b hlen hb hok => exec_loadFirnPatterns_malformed hs hr hlen hb hok,
      fun b k hlen hb hok hk hsig hnew hroom => ⟨_, rfl, exec_loadFirnPatterns_taken hs hr hlen hb hok hk hsig hnew hroom⟩⟩
  · intro p q hs hr
    refine ⟨fun hbad => next_hostCmd hs hr (if_pos ?_), fun hsus hrep hlive => next_hostCmd hs hr (if_neg ?_)⟩
    · simpa using hbad
    · exact not_or.2 ⟨hsus, not_or.2 ⟨hrep, by simpa using hlive⟩⟩
  · intro q u hi hrep
    exact ⟨congrArg Host.Outcome.next (effSuspectRunEnd_innocent hi hrep cal),
      congrArg Host.Outcome.next (effSuspectRunEnd_guilty hi hrep cal)⟩

end Sys2Proof.Machine
end

section
/-!
PROOF. The board controller, SPDM, DOE and IDE, recovery and start-up (O58).
-/
namespace Sys2Proof.Machine

/-! ### Command packets (R568) -/

/-- One more request of the board controller is outstanding. -/
def State.bcTaken (s : State) : State := { s with host := { s.host with bc := { s.host.bc with tags := s.host.bc.tags + 1 } } }

section
variable {s : State} {msg : List Byte}

theorem effMctpCommandRequest_taken (ht : s.host.bc.tags < 4) (hrun : s.quill.running = true) (cal : List XCal) :
    effMctpCommandRequest msg cal s = s.bcRequest msg false cal :=
  (if_neg (Nat.not_le.2 ht)).trans (if_pos hrun)

variable (hd : (pktHdr 5 0 msg).indirect = false) (cal : List XCal)
include hd

theorem State.bcRequest_badLength (hl : msg.length ≠ 64) :
    s.bcRequest msg false cal = s.bcTaken.refusePacket (pktHdr 5 0 msg) (fld msg 0 2) .badParam := by
  simp only [State.bcRequest, hd, Bool.false_eq_true, if_false]
  exact if_pos hl

variable (hl : msg.length = 64)
include hl

theorem State.bcRequest_refused {st : Status} (hr : s.bcTaken.packetRefusal (pktHdr 5 0 msg) msg = some st) :
    s.bcRequest msg false cal = s.bcTaken.refusePacket (pktHdr 5 0 msg) (fld msg 0 2) st := by
  rw [State.bcTaken] at hr
  simp only [State.bcRequest, hd, Bool.false_eq_true, if_false, hl, ne_eq, not_true_eq_false, hr]
  rfl

theorem State.bcRequest_runs (hr : s.bcTaken.packetRefusal (pktHdr 5 0 msg) msg = none) :
    s.bcRequest msg false cal = s.bcTaken.bcCommand (pktHdr 5 0 msg) (fld msg 0 2) (msg.drop 16) cal := by
  rw [State.bcTaken] at hr
  simp only [State.bcRequest, hd, Bool.false_eq_true, if_false, hl, ne_eq, not_true_eq_false, hr]
  rfl

end

theorem State.bcCommand_powerState (s : State) (h : Hdr) (b : List Byte) (cal : List XCal) : s.bcCommand h 0x0601 b cal =
    if fld b 0 1 = 0 then effPowerStateRun h cal s
    else if fld b 0 1 = 1 then effPowerStateIdle h cal s
    else if fld b 0 1 = 2 then effPowerStateRetain h s
    else effPowerStateDormant h s := rfl

theorem State.bcCommand_meterStamp (s : State) (h : Hdr) (b : List Byte) (cal : List XCal) : s.bcCommand h 0x0802 b cal =
    if fld b 24 1 = 0 then effMeterStampStart h (bcReply b) (BitVec.ofNat 64 (fld b 16 8)) s
    else effMeterStampEnd h (bcReply b) (BitVec.ofNat 64 (fld b 16 8)) s := rfl

/-! ### MCTP control and addresses (R566, R567, R570) -/

theorem effMctpControlMessage_setEid {msg : List Byte} (hc : fld msg 1 1 = 1) (s : State) :
    effMctpControlMessage msg s =
      ({ s with host := { s.host with bc := { s.host.bc with eid := BitVec.ofNat 8 (fld msg 3 1) } } } : State).emit (.bcMessage
        ([0x00, BitVec.ofNat 8 (fld msg 0 1 % 32), BitVec.ofNat 8 (fld msg 1 1)] ++
          controlAnswer (BitVec.ofNat 8 (fld msg 3 1)) (fld msg 1 1))) := by
  rw [effMctpControlMessage]
  dsimp only
  rw [if_pos hc]

theorem effMctpControlMessage_other {msg : List Byte} (hc : fld msg 1 1 ≠ 1) (s : State) :
    effMctpControlMessage msg s = s.emit (.bcMessage
      ([0x00, BitVec.ofNat 8 (fld msg 0 1 % 32), BitVec.ofNat 8 (fld msg 1 1)] ++ controlAnswer s.host.bc.eid (fld msg 1 1))) := by
  rw [effMctpControlMessage]
  dsimp only
  rw [if_neg hc]

theorem effI3cAddressAssign_own {w : Option (BitVec 7)} (hw : w = none ∨ w = some i3cStatic) (a : BitVec 7) (s : State) :
    effI3cAddressAssign a w s = s.host.bc.held.foldl (fun t r => t.emit (.bcMessage r))
      { s with host := { s.host with bc := { s.host.bc with address := a, assigned := true, held := [], alert := false } } } :=
  if_neg (by rcases hw with rfl | rfl <;> simp)

theorem effI3cAddressAssign_foreign {x : BitVec 7} (hx : x ≠ i3cStatic) (a : BitVec 7) (s : State) :
    effI3cAddressAssign a (some x) s = s := if_pos (by simpa using hx)

/-! ### SPDM and IDE (R519, R520, R826) -/

theorem State.spdmValid_iff (s : State) (ch : SpdmChannel) : s.spdmValid ch = true ↔
    ch = .mctp ∨ ch = .doe 0 ∨ (ch = .secured ∧ (s.fn 5).spdm = .session) := by
  cases ch <;> simp [State.spdmValid]

section
variable {s : State} {ch : SpdmChannel} (hv : s.spdmValid ch = true) (hrun : s.quill.running = true)
include hv hrun

theorem effSpdmRequest_answered {msg : List Byte} {q : SpdmPhase} (hq : (s.fn (spdmOwner ch)).spdm.next msg = some q) :
    effSpdmRequest ch msg s =
      (s.draw.modFn (spdmOwner ch) (fun x => { x with spdm := q })).answerSpdm ch (Config.spdmAnswer s.free msg) := by
  simp only [effSpdmRequest, hv, hrun, hq, Bool.and_self, if_true]

theorem effSpdmRequest_error {msg : List Byte} (hq : (s.fn (spdmOwner ch)).spdm.next msg = none) :
    effSpdmRequest ch msg s = s.answerSpdm ch [0x13, 0x7F, 0x04, 0x00] := by
  simp only [effSpdmRequest, hv, hrun, hq, Bool.and_self, if_true]

theorem effSpdmGetMeasurements_unknown {op : Byte} (hop : ¬(op.toNat ≤ 9 ∨ op = 0xFF)) (x : Option (BitVec 256)) :
    effSpdmGetMeasurements ch op x s = s.answerSpdm ch [0x13, 0x7F, 0x01, 0x00] :=
  (if_pos (Bool.and_eq_true_iff.2 ⟨hv, hrun⟩)).trans (if_neg hop)

variable {op : Byte} (hop : op.toNat ≤ 9 ∨ op = 0xFF)
include hop

theorem effSpdmGetMeasurements_signed (n : BitVec 256) :
    let b := s.spdmResponse op.toNat ((List.range 4).flatMap (fun i => toLe (Config.freeWord (s.free + i)).toNat 8))
    effSpdmGetMeasurements ch op (some n) s = s.draw.draw.draw.draw.answerSpdm ch
      (b ++ signed (aliasKey s.module_.ident.measurement) (toLe n.toNat 32 ++ b)) :=
  (if_pos (Bool.and_eq_true_iff.2 ⟨hv, hrun⟩)).trans (if_pos hop)

theorem effSpdmGetMeasurements_unsigned : effSpdmGetMeasurements ch op none s = s.draw.draw.draw.draw.answerSpdm ch
    (s.spdmResponse op.toNat ((List.range 4).flatMap (fun i => toLe (Config.freeWord (s.free + i)).toNat 8))) := by
  refine ((if_pos (Bool.and_eq_true_iff.2 ⟨hv, hrun⟩)).trans (if_pos hop)).trans ?_
  dsimp only
  rw [List.append_nil]

end

/-- Within the PF's session a stream takes a key, or stops. -/
theorem effIdeKmKeySetup_session {s : State} (hs : (s.fn 0).spdm = .session) (x : IdeStream) (key : BitVec 256) (stop : Bool) :
    effIdeKmKeySetup 0 x true key stop s = s.setIde x (if stop then none else some key) := if_pos ⟨rfl, hs, rfl⟩

theorem State.setIde_selective {v : BitVec 3} (hv : v.toNat < 4) (s : State) (key : Option (BitVec 256)) :
    s.setIde (.selective v) key = s.modFn (v.toNat + 1) (fun x => { x with ideKey := key }) := if_pos hv

/-! ### Recovery and start-up (R582, R806, R830) -/

section
variable {s : State} (hb : s.booted = false)
include hb

theorem effRecoveryGo_boots (hn : s.host.recoveryLen.toNat ≤ 0x800000)
    (hl : imageLength (s.windowBytes s.host.recoveryLen.toNat) ≤ s.host.recoveryLen.toNat)
    (hv : imageValid (s.windowBytes s.host.recoveryLen.toNat) = true) :
    effRecoveryGo s = ((s.bootImage (s.windowBytes s.host.recoveryLen.toNat) true).afterRecovery).passHeld := by
  refine (if_neg (ne_of_eq_of_ne hb Bool.false_ne_true)).trans ?_
  dsimp only
  rw [Nat.min_eq_left hn]
  exact if_pos ⟨hn, hl, hv⟩

/-- A window that holds no valid image of its length counts a failed recovery. -/
theorem effRecoveryGo_fails (h : 0x800000 < s.host.recoveryLen.toNat ∨ s.host.recoveryLen.toNat <
      imageLength (s.windowBytes s.host.recoveryLen.toNat) ∨ imageValid (s.windowBytes s.host.recoveryLen.toNat) = false) :
    effRecoveryGo s = s.modIdent (fun d => { d with recoveryFails := satInc d.recoveryFails }) := by
  refine (if_neg (ne_of_eq_of_ne hb Bool.false_ne_true)).trans (if_neg ?_)
  rintro ⟨hn, hl, hv⟩
  rw [Nat.min_eq_left hn] at hl hv
  rcases h with h | h | h
  · exact Nat.not_lt.2 hn h
  · exact Nat.not_lt.2 hl h
  · exact Bool.false_ne_true (h.symm.trans hv)

theorem effRecoveryTimeout_waiting : effRecoveryTimeout s =
    (s.deviceReset.modIdent (fun d => { d with recoveryFails := s.module_.ident.recoveryFails })).enterSafe 5 0 :=
  if_neg (ne_of_eq_of_ne hb Bool.false_ne_true)

end

theorem effStartup_first {s : State} (hc : s.canStart = true) (hp : s.module_.power.step < 2) (bt : BootInput) :
    let n := s.dev.boot + 1
    let u := ((({ s with dev := { s.dev with boot := n } } : State).writeRec 7 0 0 0 (toLe n.toNat 4)).modPower (fun w =>
      { w with on := w.on ||| BitVec.ofNat 60 (3 * 2 ^ 58), step := 1 })).bootRom
    effStartup bt s = if u.booted = true then (u.modPower (fun w => { w with step := 2 })).startSteps bt else u :=
  (if_pos hc).trans (if_pos hp)

theorem effStartup_goesOn {s : State} (hc : s.canStart = true) (hp : 2 ≤ s.module_.power.step) (bt : BootInput) :
    effStartup bt s = s.startSteps bt := (if_pos hc).trans (if_neg (Nat.not_lt.2 hp))

/-- What start-up needs to go on (R804, R806, R830). -/
theorem State.canStart_iff (s : State) : s.canStart = true ↔
    s.module_.entry.on = true ∧ s.module_.power.step < 7 ∧ s.booted = true ∧ (s.module_.power.tripped = true → ∀ i, i < 50 → (s.module_.power.temps.get 0 i).toInt < 850) := by
  simp only [State.canStart, Bool.and_eq_true, Bool.or_eq_true, Bool.not_eq_true', decide_eq_true_eq, List.all_eq_true,
    List.mem_range, and_assoc]
  cases s.module_.power.tripped <;> simp

/-- Settles O58 (answers of SPDM and of MCTP control: logs 8 and 23), channel by channel. -/
theorem boardController : Obligations.BoardController := by
  refine ⟨fun s msg cal => ?_, fun s msg => ?_, fun s ch msg => ?_, fun s ch op n => ?_, fun s v key hs => ?_, fun s => ?_,
    fun s bt => ?_⟩
  · intro hd op b u ht hrun hind
    have hx : exec (.mctpCommandRequest msg cal) s = .next (s.bcRequest msg false cal) :=
      congrArg Host.Outcome.next (effMctpCommandRequest_taken ht hrun cal)
    rw [hx]
    refine ⟨fun hl => congrArg Host.Outcome.next (State.bcRequest_badLength hind cal hl),
      fun hl st hr => congrArg Host.Outcome.next (State.bcRequest_refused hind cal hl hr), fun hl hr => ?_⟩
    have hrow : ∀ {n : Nat} {e : State}, u.bcCommand hd n b cal = e → op = n →
        (.next e : Host.Outcome State Fault Refusal) = .next (u.bcCommand hd op b cal) := by
      rintro n e rfl hop
      rw [hop]
    have hps := u.bcCommand_powerState hd b cal
    have hms := u.bcCommand_meterStamp hd b cal
    refine ⟨u.bcCommand hd op b cal, congrArg Host.Outcome.next (State.bcRequest_runs hind cal hl hr), hrow rfl, hrow rfl, hrow rfl,
      hrow rfl, hrow rfl, hrow rfl, hrow rfl, hrow rfl, fun hop hf => hrow (hps.trans ?_) hop, fun hop hf => hrow (hps.trans ?_) hop,
      fun hop hf => hrow (hps.trans ?_) hop, fun hop hf => hrow (hps.trans ?_) hop, hrow rfl, hrow rfl,
      fun hop hf => hrow (hms.trans ?_) hop, fun hop hf => hrow (hms.trans ?_) hop, hrow rfl, hrow rfl, hrow rfl⟩
    all_goals
      rw [hf]
      rfl
  · intro cmd ans
    exact ⟨fun hc => congrArg Host.Outcome.next (effMctpControlMessage_setEid hc s),
      fun hc => congrArg Host.Outcome.next (effMctpControlMessage_other hc s),
      fun a w hw => congrArg Host.Outcome.next (effI3cAddressAssign_own hw a s),
      fun a x hx => congrArg Host.Outcome.next (effI3cAddressAssign_foreign hx a s), fun i => rfl⟩
  · intro code o p hch hrun
    have hv := (s.spdmValid_iff ch).2 hch
    refine ⟨fun q hq => congrArg Host.Outcome.next (effSpdmRequest_answered hv hrun hq),
      fun hq => congrArg Host.Outcome.next (effSpdmRequest_error hv hrun hq), ?_, ?_, ?_, ?_, ?_, ?_⟩
    all_goals
      intro hcode
      simp [SpdmPhase.next, show fld msg 1 1 = _ from hcode]
  · intro own b u hch hrun
    have hv := (s.spdmValid_iff ch).2 hch
    exact ⟨fun hop => ⟨congrArg Host.Outcome.next (effSpdmGetMeasurements_unsigned hv hrun hop),
        congrArg Host.Outcome.next (effSpdmGetMeasurements_signed hv hrun hop n)⟩,
      fun hop hff x => congrArg Host.Outcome.next
        (effSpdmGetMeasurements_unknown hv hrun (not_or.2 ⟨Nat.not_le.2 hop, hff⟩) x)⟩
  · have hset : ∀ x stop, exec (.ideKmKeySetup 0 x true key stop) s = .next (s.setIde x (if stop then none else some key)) :=
      fun x stop => congrArg Host.Outcome.next (effIdeKmKeySetup_session hs x key stop)
    exact ⟨hset .link false, hset .link true, fun hv =>
      ⟨(hset _ false).trans (congrArg Host.Outcome.next (State.setIde_selective hv s (some key))),
        (hset _ true).trans (congrArg Host.Outcome.next (State.setIde_selective hv s none))⟩⟩
  · intro n b hb
    exact ⟨fun hn hl hv => congrArg Host.Outcome.next (effRecoveryGo_boots hb hn hl hv),
      fun _ h => congrArg Host.Outcome.next (effRecoveryGo_fails hb (.inr h)),
      fun hn => congrArg Host.Outcome.next (effRecoveryGo_fails hb (.inl hn))⟩
  · intro n u
    exact ⟨fun hc hp => congrArg Host.Outcome.next (effStartup_first hc hp bt),
      fun hc hp => congrArg Host.Outcome.next (effStartup_goesOn hc hp bt), s.canStart_iff,
      fun hb => congrArg Host.Outcome.next (effRecoveryTimeout_waiting hb), fun hb => congrArg Host.Outcome.next (if_pos hb)⟩

end Sys2Proof.Machine
end

section
/-!
PROOF. The link layer of a port: what waits, what is sent, what a trailer and a sequence number change (O46).
-/
namespace Sys2Proof.Machine

@[simp] theorem State.port_modLink (s : State) (p q : Nat) (g : Link → Link) : (s.modLink p g).port q =
    if q = p then { s.port p with link := g (s.port p).link } else s.port q := s.port_modPort p q _

@[simp] theorem State.port_emit (s : State) (o : Out) (q : Nat) : (s.emit o).port q = s.port q := rfl

/-- Where nothing waits, nothing leaves. -/
theorem State.drainLink_of_wait_nil {s : State} {p : Nat} (hw : (s.port p).link.wait = []) :
    s.drainLink p = s.modLink p (fun y => { y with wait := [] }) := by
  rw [State.drainLink, hw, State.drainList]

theorem State.port_drainLink_of_wait_nil {s : State} {p : Nat} (hw : (s.port p).link.wait = []) :
    (s.drainLink p).port p = s.port p := by
  rw [State.drainLink_of_wait_nil hw, State.port_modLink, if_pos rfl, ← hw]

/-! ### Sending (R586, R588, R589) -/

/-- While the replay buffer has room nothing of it is dropped. -/
theorem Link.sent_of_room {l : Link} (hroom : l.replay.length < 256) (f : FabricFlit) : l.sent f = { l with
    txSeq := l.txSeq + 1, replay := l.replay ++ [l.stamp f], owed := []
    credit := if flitCredited f then l.credit.set (flitLane f) (l.credit.get 64 (flitLane f) - 1) else l.credit } := by
  have hdrop : l.replay.length + 1 - replayRoom = 0 := Nat.sub_eq_zero_of_le hroom
  rw [Link.sent, hdrop, List.drop_zero]
  rfl

theorem Link.ready_iff (l : Link) (f : FabricFlit) :
    l.ready f = true ↔ 0 < l.credit.get 64 (flitLane f) ∧ l.replay.length < 256 := decide_eq_true_iff

section
variable {t : State} {n : Nat} {f : FabricFlit}

theorem State.drainList_ready (hr : (t.port n).link.ready f = true) :
    t.drainList n [] [f] = (t.modLink n (fun y => y.sent f)).emit (.fabric n ((t.port n).link.stamp f)) := by
  simp [State.drainList, hr]

theorem State.drainList_waits (hr : (t.port n).link.ready f = false) :
    t.drainList n [] [f] = t.modLink n (fun y => { y with wait := y.wait ++ [f] }) := by
  simp [State.drainList, hr]

end

section
variable {s : State} {n : Nat} {f : FabricFlit} (hw : (s.port n).link.wait = [])
include hw

/-- Where nothing waits, a message is the only one that `sendFlit` looks at. -/
theorem State.sendFlit_of_wait_nil : ∃ t : State, s.sendFlit n f = t.drainList n [] [f] ∧ (t.port n).link = (s.port n).link ∧
    t.out = s.out := by
  refine ⟨(s.modLink n (fun y => { y with wait := y.wait ++ [f] })).modLink n (fun y => { y with wait := [] }), ?_, ?_, rfl⟩
  · rw [State.sendFlit, State.drainLink, State.port_modLink, if_pos rfl, hw]
    rfl
  · simp [← hw]

theorem State.sendFlit_ready (hr : (s.port n).link.ready f = true) :
    ((s.sendFlit n f).port n).link = (s.port n).link.sent f ∧
      (s.sendFlit n f).out = s.out ++ [.fabric n ((s.port n).link.stamp f)] := by
  obtain ⟨t, ht, hlink, hout⟩ := State.sendFlit_of_wait_nil (f := f) hw
  rw [ht, State.drainList_ready (hlink ▸ hr), ← hlink, ← hout]
  exact ⟨by simp, rfl⟩

theorem State.sendFlit_waits (hr : (s.port n).link.ready f = false) :
    ((s.sendFlit n f).port n).link = { (s.port n).link with wait := [f] } ∧ (s.sendFlit n f).out = s.out := by
  obtain ⟨t, ht, hlink, hout⟩ := State.sendFlit_of_wait_nil (f := f) hw
  rw [ht, State.drainList_waits (hlink ▸ hr), ← hlink, ← hout]
  refine ⟨?_, rfl⟩
  simp [hlink, hw]

end

/-! ### Receiving (R588, R589) -/

theorem Link.accepts_iff (l : Link) (f : FabricFlit) : l.accepts f = true ↔ l.discard = false ∨ f.seq = l.rxSeq + 1 := by
  simp [Link.accepts]

section
variable (s : State) (n : Nat) (f : FabricFlit) (body : State → State)

theorem State.receiveFlit_accepted (h : (s.port n).link.discard = false ∨ f.seq = (s.port n).link.rxSeq + 1) :
    s.receiveFlit n f body = body ((s.takeSeq n f).takeTrailer n f) := if_pos ((Link.accepts_iff ..).2 h)

theorem State.receiveFlit_discarded (hd : (s.port n).link.discard = true) (hseq : f.seq ≠ (s.port n).link.rxSeq + 1) :
    s.receiveFlit n f body = s :=
  if_neg fun h => by
    rcases (Link.accepts_iff ..).1 h with h | h
    · exact Bool.false_ne_true (h.symm.trans hd)
    · exact hseq h

/-- What a flit received in order makes of a port that has nothing waiting. -/
theorem State.port_takeTrailer_takeSeq (hw : (s.port n).link.wait = []) : ((s.takeSeq n f).takeTrailer n f).port n =
    { s.port n with
      link := { (s.port n).link with rxSeq := f.seq, discard := false }.trailer f
      stalled := (s.port n).stalled && decide (f.credit0 = 0 ∧ f.credit1 = 0) } := by
  rw [State.takeTrailer, State.port_drainLink_of_wait_nil]
  all_goals simp [State.takeSeq, Link.trailer, hw]

end

/-! ### Lanes and blocks (R591, R592, R603) -/

theorem laneChoice_eq (l : List Nat) (narrow : Bool) : laneChoice l narrow =
    if l.length < 2 then none else some (l.take (if 4 ≤ l.length ∧ narrow = false then 4 else 2)) := by
  rw [laneChoice]
  by_cases h4 : 4 ≤ l.length ∧ narrow = false
  · rw [if_pos h4, if_neg (by omega), if_pos h4]
  · rw [if_neg h4, if_neg h4]
    split
    next h2 => rw [if_neg (Nat.not_lt.2 h2)]
    next h2 => rw [if_pos (Nat.not_le.1 h2)]

section
variable {s : State} {b : List Byte}

theorem State.exchangeRefusal_own (h : fld b 4 2 = s.dev.fbId.toNat) : s.exchangeRefusal b = some 8 := if_pos h

variable (h : fld b 4 2 ≠ s.dev.fbId.toNat)
include h

theorem State.exchangeRefusal_version (hv : fld b 2 1 % 2 = 0) : s.exchangeRefusal b = some 6 := (if_neg h).trans (if_pos hv)

theorem State.exchangeRefusal_none (hv : fld b 2 1 % 2 = 1) : s.exchangeRefusal b = none :=
  (if_neg h).trans (if_neg (by omega))

end

theorem State.port_activate (s : State) (f : Nat) (b : List Byte) :
    ((s.activate f b).port f).st = .active ∧ ((s.activate f b).port f).peer = some (blockPeer b) := by
  simp [State.activate, State.takeNext, State.takeBlock]

end Sys2Proof.Machine
end

section
/-!
PROOF. The training of a port, row by row (O46).
-/
namespace Sys2Proof.Machine

/-! ### DETECT, EQUALISE, ALIGN (R584, R590, R591, R604) -/

section
variable {s : State} {f : Fin 16} (light : BitVec 5) (hst : (s.port f).st = .detect)
include hst

/-- The laser inputs seen on, with that of a port's optical engine. -/
abbrev State.withLaser (s : State) (f : Fin 16) : State :=
  s.modFabCnt (fun c => { c with laser := c.laser ||| BitVec.ofNat 4 (2 ^ (f.val / 4)) })

theorem effPortDetectPoll_dark : effPortDetectPoll f false light s =
    (s.modFabCnt (fun c => { c with laser := c.laser &&& ~~~BitVec.ofNat 4 (2 ^ (f.val / 4)) })).modPort f
      (fun p => { p with lastCause := 13 }) := if_neg (not_not.2 hst)

theorem effPortDetectPoll_lit : effPortDetectPoll f true light s =
    if s.dev.fbId ≠ 0xFFFF ∧ 2 ≤ ((List.range 5).filter (fun l => light.getLsbD l)).length
    then (s.withLaser f).modPort f (fun p => { p with st := .equalise }) else s.withLaser f := if_neg (not_not.2 hst)

end

section
variable {s : State} {f : Fin 16}

theorem effEqualiseDone_eq (hst : (s.port f).st = .equalise) (l : BitVec 5) : effEqualiseDone f l s =
    if 2 ≤ ((s.port f).goodLanes l).length then s.modPort f (fun p => { p with st := .align, usable := l })
    else s.portTo f 5 .detect := if_neg (not_not.2 hst)

section
variable (hst : (s.port f).st = .align) {l : BitVec 5} {narrow : Bool}
include hst

theorem effAlignDone_chosen {w : List Nat} (hw : laneChoice ((s.port f).goodLanes ((s.port f).usable &&& l)) narrow = some w) :
    effAlignDone f l narrow s = s.modPort f (fun x => { x.useLanes w with st := .exchange, usable := x.usable &&& l }) := by
  simp [effAlignDone, hst, hw]

theorem effAlignDone_none (hw : laneChoice ((s.port f).goodLanes ((s.port f).usable &&& l)) narrow = none) :
    effAlignDone f l narrow s = s.portTo f 5 .detect := by
  simp [effAlignDone, hst, hw]

end

/-! ### EXCHANGE (R592, R595, R600 to R603) -/

section
variable (hst : (s.port f).st = .exchange) {b : List Byte}
include hst

theorem effExchangeDone_refused {c : Nat} (hb : s.exchangeRefusal b = some c) : effExchangeDone f b s = s.portTo f c .detect := by
  simp [effExchangeDone, hst, hb]

theorem effExchangeDone_taken (hb : s.exchangeRefusal b = none) : effExchangeDone f b s =
    (((s.activate f b).postUp f b).postPeer f (s.port f).peer b).settlePort f := by
  simp [effExchangeDone, hst, hb]

end

/-! ### RETRAIN (R588, R590 to R594, R597, R602, R603) -/

section
variable (hst : (s.port f).st = .retrain) {ps : BitVec 5} {narrow : Bool} {b : List Byte}
include hst

theorem effRetrainDone_none (hw : laneChoice ((s.port f).goodLanes ps) narrow = none) :
    effRetrainDone f ps narrow b s = s.portTo f 5 .detect := by
  simp [effRetrainDone, hst, hw]

variable {w : List Nat} (hw : laneChoice ((s.port f).goodLanes ps) narrow = some w)
include hw

theorem effRetrainDone_refused {c : Nat} (hb : s.exchangeRefusal b = some c) :
    effRetrainDone f ps narrow b s = s.portTo f c .detect := by
  simp [effRetrainDone, hst, hw, hb]

theorem effRetrainDone_taken (hb : s.exchangeRefusal b = none) : effRetrainDone f ps narrow b s =
    if (s.port f).peer = some (blockPeer b)
    then (((s.modPort f (fun x => { x with usable := ps })).modPort f (fun x => x.useLanes w)).activate f b).settlePort f
    else (s.modPort f (fun x => { x with usable := ps })).peerChanged f w b := by
  simp [effRetrainDone, hst, hw, hb]

end

end

/-! ### The link of an ACTIVE port (R588, R589, R593, R597) -/

/-- A cause of 3, of 4 or of none, and what each leads to. -/
theorem ite_retrainCause {α : Type} (a b : Prop) [Decidable a] [Decidable b] (u : α) (g : Nat → α) :
    let c := if a then 3 else if b then 4 else 0
    (if c = 0 then u else g c) = if a then g 3 else if b then g 4 else u := by
  by_cases ha : a
  · simp [ha]
  · by_cases hb : b <;> simp [ha, hb]

section
variable {s : State} {f : Fin 16} (hst : (s.port f).st = .active)
include hst

theorem effLaneLockLoss_active {lane : BitVec 3} (hl : lane.toNat < 5) :
    effLaneLockLoss f lane s = (s.countRetrain f lane.toNat).enterRetrain f 2 := if_pos ⟨hst, hl⟩

theorem effCreditStallTimeout_stalled {vl : BitVec 3} (hv : vl.toNat ≤ 1) (hc : (s.port f).link.credits vl.toNat = 0) :
    effCreditStallTimeout f vl s = s.modPort f (fun p => { p with stalled := true }) := if_pos ⟨hst, hv, hc⟩

omit hst in
theorem effCreditStallTimeout_credited {vl : BitVec 3} (hc : (s.port f).link.credits vl.toNat ≠ 0) :
    effCreditStallTimeout f vl s = s := if_neg fun ⟨_, _, h⟩ => hc h

/-- A port after a flit that failed its check: it discards until the sender replays, with the failed codewords of the last 1 ms and
the replays of the last 1 s. -/
def State.crcFailed (s : State) (f : Nat) (uncorrectable : Bool) : State :=
  s.modPort f (fun x =>
    { x with
      replays := satInc x.replays, uncorr := if uncorrectable = true then satInc x.uncorr else x.uncorr
      fecTimes := (s.port f).fecTimes.filter (fun t => decide (s.time < t + 1000000)) ++ (if uncorrectable = true then [s.time] else [])
      replayTimes := (s.port f).replayTimes.filter (fun t => decide (s.time < t + 1000000000)) ++ [s.time]
      link := { x.link with discard := true } })

/-- The retrain that follows counts against the lane that carried the errors. -/
def State.chargeLane (s : State) (f : Nat) (lane : Option (BitVec 3)) : State :=
  match lane with
  | some l => if l.toNat < 5 then s.countRetrain f l.toNat else s
  | none => s

theorem effFlitCrcFail_active (lane : Option (BitVec 3)) (un : Bool) : effFlitCrcFail f lane un s =
    if 16 < ((s.crcFailed f un).port f).fecTimes.length then ((s.crcFailed f un).chargeLane f lane).enterRetrain f 3
    else if 1000 < ((s.crcFailed f un).port f).replayTimes.length then ((s.crcFailed f un).chargeLane f lane).enterRetrain f 4
    else s.crcFailed f un := by
  have hport : (s.crcFailed f un).port f = _ := (State.port_modPort ..).trans (if_pos rfl)
  rw [hport, ← ite_retrainCause _ _ _ fun c => ((s.crcFailed f un).chargeLane f lane).enterRetrain f c]
  refine (if_neg (not_not.2 hst)).trans ?_
  cases lane <;> rfl

end

/-- Settles O46 (causes 2 and 5 of the timeouts: log 37; STALLED cleared by either lane: log 40; the wait for room in the replay
buffer: log 139), phase by phase. -/
theorem portTraining : Obligations.PortTraining := by
  refine ⟨fun s f light => ?_, fun s f l nar => ?_, fun l nar _ => laneChoice_eq l nar, fun s f b => ?_, fun s f => ?_,
    fun s f lane vl hst => ?_, fun s n f => ?_, fun s n f body => ?_, fun s f lane un => ?_, fun s f ps nar b => ?_⟩
  · intro e on hst
    exact ⟨fun hid hl => congrArg Host.Outcome.next ((effPortDetectPoll_lit light hst).trans (if_pos ⟨hid, hl⟩)),
      fun h => congrArg Host.Outcome.next ((effPortDetectPoll_lit light hst).trans (if_neg fun ⟨hid, hl⟩ =>
        h.elim hid (Nat.not_lt.2 hl))),
      congrArg Host.Outcome.next (effPortDetectPoll_dark light hst)⟩
  · intro p
    exact ⟨fun hst => congrArg Host.Outcome.next (effEqualiseDone_eq hst l),
      fun hst w hw => congrArg Host.Outcome.next (effAlignDone_chosen hst hw),
      fun hst hw => congrArg Host.Outcome.next (effAlignDone_none hst hw)⟩
  · intro own u hst
    refine ⟨fun hown => congrArg Host.Outcome.next
        (effExchangeDone_refused hst (State.exchangeRefusal_own (of_decide_eq_true hown))),
      fun hown hv => congrArg Host.Outcome.next
        (effExchangeDone_refused hst (State.exchangeRefusal_version (of_decide_eq_false hown) hv)),
      fun hown hv => ⟨congrArg Host.Outcome.next
        (effExchangeDone_taken hst (State.exchangeRefusal_none (of_decide_eq_false hown) hv)), s.port_activate f b⟩⟩
  · intro st c
    refine ⟨fun hst => ?_, fun hst => ?_, fun hst => ?_, fun hst => ?_⟩
    all_goals
      refine congrArg Host.Outcome.next ?_
      rw [effTrainingTimeout, show (s.port f).st = _ from hst]
  · exact ⟨fun hl => congrArg Host.Outcome.next (effLaneLockLoss_active hst hl),
      fun hv hc => congrArg Host.Outcome.next (effCreditStallTimeout_stalled hst hv hc),
      fun _ hc => congrArg Host.Outcome.next (effCreditStallTimeout_credited hc)⟩
  · intro l v r u hw
    refine ⟨fun hr => ?_, fun hr => ?_⟩
    · obtain ⟨hlink, hout⟩ := State.sendFlit_ready hw ((Link.ready_iff l f).2 hr)
      exact ⟨hlink.trans (Link.sent_of_room hr.2 f), hout, rfl, rfl⟩
    · exact State.sendFlit_waits hw (Bool.eq_false_iff.2 fun h =>
        have ⟨hcredit, hroom⟩ := (Link.ready_iff l f).1 h
        hr.elim (Nat.ne_of_gt hcredit) (Nat.not_le.2 hroom))
  · intro l u hw
    have hport := s.port_takeTrailer_takeSeq n f hw
    exact ⟨fun h => s.receiveFlit_discarded n f body h.1 h.2, s.receiveFlit_accepted n f body,
      congrArg Port.link hport, congrArg Port.stalled hport⟩
  · intro p fec rep u hst w
    have hport : (s.crcFailed f un).port f = _ := (State.port_modPort ..).trans (if_pos rfl)
    refine congrArg Host.Outcome.next ((effFlitCrcFail_active hst lane un).trans ?_)
    simp only [hport]
    cases lane <;> rfl
  · intro p v hst
    exact ⟨fun hw => congrArg Host.Outcome.next (effRetrainDone_none hst hw),
      fun w hw hb hp => congrArg Host.Outcome.next ((effRetrainDone_taken hst hw hb).trans (if_pos hp)),
      fun w hw hb hp => congrArg Host.Outcome.next ((effRetrainDone_taken hst hw hb).trans (if_neg hp)),
      fun w c hw hb => congrArg Host.Outcome.next (effRetrainDone_refused hst hw hb)⟩

end Sys2Proof.Machine
end

section
/-!
PROOF. The commands on ports, the device ID and the expected watermarks (O47).
-/
namespace Sys2Proof.Machine

/-! ### PORT_CONTROL and LANE_CLEAR (R590, R593, R599, R714, R722) -/

section
variable {s sx : State} {h : Hdr} {op : Nat} {port : Byte} {arg : Nat} {ok : Bool}
  (hs : startsIn s h ((pfOnly op false .any).on [(16, 1, port.toNat), (17, 1, arg)]) sx)
  (hr : sx.refuses h ((pfOnly op false .any).on [(16, 1, port.toNat), (17, 1, arg)]) (decide (port.toNat ≤ 15) && ok) = none)
include hs hr

/-- A command on a port that does not need the port in service, once its checks pass. -/
theorem next_portCmd (body : Nat → State → State) :
    let l := (sx.qpart (sx.partNamed (port.toNat / 4))).life
    (.next (s.portCmd h op port arg ok false body) : Host.Outcome State Fault Refusal) =
      .next ((if l = .starting ∨ l = .stopping then sx.complete h op .busy 0 else body port.toNat sx).unclaim h s.host.nextJob) :=
  next_hostCmd hs hr rfl

/-- A command on a port that asks for work, once its checks pass. -/
theorem next_portCmd_work (body : Nat → State → State) :
    let l := (sx.qpart (sx.partNamed (port.toNat / 4))).life
    (.next (s.portCmd h op port arg ok true body) : Host.Outcome State Fault Refusal) =
      .next ((if sx.quill.health.portOut.getLsbD port.toNat = true then sx.complete h op .outOfService 0
        else if l = .starting ∨ l = .stopping then sx.complete h op .busy 0 else body port.toNat sx).unclaim h s.host.nextJob) :=
  next_hostCmd hs hr rfl

end

/-! ### FB_ID (R604, R646) -/

/-- A port leaves its training or its link for DETECT, with a new ID as the cause. -/
def State.idChanged (s : State) (f : Nat) : State :=
  if (s.port f).st = .off ∨ (s.port f).st = .detect then s else s.portTo f 12 .detect

section
variable {s : State} (v : Word)

theorem effFbIdWrite_refused (h : (4096 ≤ (v.setWidth 16).toNat ∧ v.setWidth 16 ≠ 0xFFFF) ∨ s.anyRuns = true) :
    effFbIdWrite v s = s := if_pos h

theorem effFbIdWrite_taken (hid : ¬(4096 ≤ (v.setWidth 16).toNat ∧ v.setWidth 16 ≠ 0xFFFF)) (hruns : s.anyRuns = false) :
    effFbIdWrite v s = (List.range 16).foldl State.idChanged { s with dev := { s.dev with fbId := v.setWidth 16 } } := by
  refine (if_neg (not_or.2 ⟨hid, ne_of_eq_of_ne hruns Bool.false_ne_true⟩)).trans ?_
  congr 1
  funext t f
  rw [State.idChanged]
  cases (t.port f).st <;> rfl

end

/-! ### FB_PORT_EXPECT (R632) -/

theorem getLsbD_wordMask (k : Nat) : (0xFFFFFFFF : BitVec 256).getLsbD k = decide (k < 32) := by
  rw [show (0xFFFFFFFF : BitVec 256) = (BitVec.allOnes 32).setWidth 256 from rfl, BitVec.getLsbD_setWidth, BitVec.getLsbD_allOnes,
    ← Bool.decide_and, decide_eq_decide]
  omega

theorem getLsbD_setWord32 (x : BitVec 256) (n : Nat) (v : Word) {k : Nat} (hk : k < 256) :
    (setWord32 x n v).getLsbD k = if 32 * n ≤ k ∧ k - 32 * n < 32 then v.getLsbD (k - 32 * n) else x.getLsbD k := by
  have hlt : k - 32 * n < 256 := by omega
  simp only [setWord32, BitVec.getLsbD_or, BitVec.getLsbD_and, BitVec.getLsbD_not, BitVec.getLsbD_shiftLeft,
    BitVec.getLsbD_setWidth, getLsbD_wordMask, hk, hlt]
  by_cases hlo : 32 * n ≤ k
  · by_cases hhi : k - 32 * n < 32
    · simp [hlo, hhi, Nat.not_lt.2 hlo]
    · simp [hlo, hhi, BitVec.getLsbD_of_ge v _ (Nat.not_lt.1 hhi)]
  · simp [hlo, Nat.not_le.1 hlo]

/-- A word of a value after one of its eight words was replaced. -/
theorem extractLsb'_setWord32 (x : BitVec 256) (v : Word) {n i : Nat} (hi : i < 8) :
    (setWord32 x n v).extractLsb' (32 * i) 32 = if i = n then v else x.extractLsb' (32 * i) 32 := by
  ext j hj
  rw [BitVec.getElem_extractLsb', getLsbD_setWord32 x n v (by omega)]
  by_cases hn : i = n
  · subst hn
    simp [hj]
  · rw [if_neg (by omega), if_neg hn, BitVec.getElem_extractLsb']

/-- Settles O47 (WRONG_STATE for a port that is not ACTIVE or whose domain is off: log 38), command by command. -/
theorem portCommands : Obligations.PortCommands := by
  refine ⟨fun s sx h port => ?_, fun s sx h port => ?_, fun s sx h port => ?_, fun s sx h port lane => ?_, fun s v => ?_,
    fun s f n v => ?_⟩
  · intro f p l hs hr
    refine (next_portCmd hs hr _).trans ?_
    rw [← apply_ite (fun t : State => t.complete h 0x0404 .ok 0)]
  · intro f p l out hs hr
    exact next_portCmd_work hs hr _
  · intro f p l out hs hr
    exact next_portCmd_work hs hr _
  · intro f back u hs hr hlife
    refine (next_portCmd hs hr _).trans ?_
    have hu : u = (if lane = 0xFF then List.range 5 else [lane.toNat]).foldl back sx := by
      simp only [u]
      split <;> rfl
    rw [if_neg (not_or.2 hlife), hu]
  · intro id
    exact ⟨fun h => congrArg Host.Outcome.next (effFbIdWrite_refused v h),
      fun hid hruns => congrArg Host.Outcome.next (effFbIdWrite_taken v hid hruns)⟩
  · intro u
    exact ⟨rfl, fun i hi => extractLsb'_setWord32 _ v hi⟩

end Sys2Proof.Machine
end

section
/-!
PROOF. What an idle step does, and the settings after reset (O20, O24).
-/
namespace Sys2Proof.Machine

theorem State.advanceTime_of_no_slew {s : State} (h : s.fabric.cfg.slew = 0) : s.advanceTime = { s with time := s.time + 10 } :=
  if_pos (.inl h)

/-- A reference cycle takes 9 to 11 ns of device time, and in the fabric changes no more than what is left to correct. -/
theorem State.advanceTime_spec (s : State) : s.time + 9 ≤ s.advanceTime.time ∧ s.advanceTime.time ≤ s.time + 11 ∧
    { s.advanceTime.fabric with cfg := { s.advanceTime.fabric.cfg with slew := 0, slewAt := 0 } } =
      { s.fabric with cfg := { s.fabric.cfg with slew := 0, slewAt := 0 } } := by
  simp only [State.advanceTime]
  split
  next =>
    refine ⟨?_, ?_, rfl⟩ <;> dsimp only <;> omega
  next =>
    refine ⟨?_, ?_, rfl⟩
    all_goals
      simp only [State.modFabCfg]
      split <;> omega

/-- Settles O20 (the 10 ns of an idle step: log 1), by what a reference cycle does to device time. -/
theorem idleStep : Obligations.IdleStep := by
  intro s hp
  have hstep : step s = .next s.advanceTime := by
    rw [step, hp]
    rfl
  exact ⟨fun h => hstep.trans (congrArg Host.Outcome.next (State.advanceTime_of_no_slew h)),
    s.advanceTime, hstep, keepsBut_of_allSame s.advanceTime_frame, s.advanceTime_spec⟩

/-- Settles O24, by what the reset state holds. -/
theorem deviceSettingsAtReset : Obligations.DeviceSettingsAtReset := ⟨rfl, rfl, by decide, .inr rfl⟩

end Sys2Proof.Machine
end

section
/-!
PROOF. What a port receives: flits, adds, receipts, writes and link control blocks (O59).
-/
namespace Sys2Proof.Machine

/-! ### Flits (R586, R587, R606, R750) -/

theorem State.isMine_iff (s : State) (x : FabricFlit) : s.isMine x = true ↔ x.dst = s.dev.fbId ∧ x.dst.toNat < 4096 :=
  decide_eq_true_iff

section
variable {s : State} {f : Fin 16} {x : FabricFlit} (hst : (s.port f).st = .active)
include hst

theorem effFlitForward_idle (hk : x.kind.toNat = 0) (e : Ecc) : effFlitForward f x e s = s.takeTrailer f x :=
  (if_neg (not_not.2 hst)).trans (if_pos hk)

theorem effFlitForward_link (hk : x.kind.toNat = 4 ∨ x.kind.toNat = 5) (e : Ecc) :
    effFlitForward f x e s = s.receiveFlit f x id :=
  (if_neg (not_not.2 hst)).trans ((if_neg (by omega)).trans (if_pos hk))

theorem effFlitForward_mine (hlo : 1 ≤ x.kind.toNat) (hhi : x.kind.toNat ≤ 3) (hm : x.dst = s.dev.fbId ∧ x.dst.toNat < 4096)
    (e : Ecc) : effFlitForward f x e s = s :=
  (if_neg (not_not.2 hst)).trans ((if_neg (by omega)).trans ((if_neg (by omega)).trans (if_pos ⟨hhi, (s.isMine_iff x).2 hm⟩)))

theorem effFlitForward_onward (hlo : 1 ≤ x.kind.toNat) (h4 : x.kind.toNat ≠ 4) (h5 : x.kind.toNat ≠ 5)
    (hm : x.kind.toNat ≤ 3 → ¬(x.dst = s.dev.fbId ∧ x.dst.toNat < 4096)) (e : Ecc) :
    effFlitForward f x e s = s.centralRead e (fun t => t.receiveFlit f x (fun u => u.forwardFlit f x)) :=
  (if_neg (not_not.2 hst)).trans ((if_neg (by omega)).trans ((if_neg (by omega)).trans
    (if_neg fun ⟨hhi, h⟩ => hm hhi ((s.isMine_iff x).1 h))))

/-- A message for this device is received on an ACTIVE port in order, and discarded on the lock-step port (R588, R750). -/
theorem State.takeMsg_received {k : Nat} (hk : x.kind.toNat = k) (hm : x.dst = s.dev.fbId ∧ x.dst.toNat < 4096)
    (body : State → State) : s.takeMsg f k x body =
      s.receiveFlit f x (fun t => if s.lsOwns f = true then t.dropOther.oweCredit f x else body t) :=
  if_pos ⟨hst, hk, (s.isMine_iff x).2 hm⟩

end

section
variable (s : State) (f : Nat) {x : FabricFlit}

theorem State.forwardFlit_reserved (hk : 6 ≤ x.kind.toNat) : s.forwardFlit f x = s.dropOther := if_pos hk

theorem State.forwardFlit_message (hk : x.kind.toNat ≤ 3) : s.forwardFlit f x =
    if s.lsOwns f = true then s.dropOther.oweCredit f x else (s.forward x).oweCredit f x := if_neg (by omega)

end

section
variable {u : State} {x : FabricFlit} (hx : x.hops ≠ 0)
include hx

theorem State.forward_noRoute (h : u.fate x.dst = .noRoute) : u.forward x = u.dropNoRoute := by
  rw [State.forward, if_neg hx, h]

theorem State.forward_noPort (h : u.fate x.dst = .noPort) : u.forward x = u.dropOther := by
  rw [State.forward, if_neg hx, h]

theorem State.forward_out {p : Nat} {d : Bool} (h : u.fate x.dst = .out p d) :
    u.forward x = (u.transmit p d { x with hops := x.hops - 1 }).countForward := by
  rw [State.forward, if_neg hx, h]

end

/-! ### Writes that arrive (R613 to R615) -/

section
variable {u : State} {x : FabricFlit} (n : Nat)

theorem State.writeArrives_refused {c : Nat} (h : u.windowRefuses x = some c) : u.writeArrives n x =
    let t := (u.countWinDrop.modFabCnt (fun y =>
      { y with dropFirst := y.dropFirst <|> some (x.src, flitWindow x, c) })).sendReceipt x.src (flitTrack x) true
    if n < 16 then t.oweCredit n x else t := by
  simp [State.writeArrives, State.landHeld, State.dealWrite, State.decideWrite, h]

variable (h : u.windowRefuses x = none)
include h

theorem State.writeArrives_accepted
    (hroom : (u.window (flitWindow x)).target ≠ 0 ∨
      (u.landRoom x = true ∧ (u.port (u.window (flitWindow x)).entryPort).held = [])) :
    u.writeArrives n x = if n < 16 then (u.acceptWrite x).oweCredit n x else u.acceptWrite x := by
  have hheld : u.landHeld x = false := by
    rcases hroom with ht | ⟨hr, hq⟩ <;> simp [State.landHeld, *]
  simp [State.writeArrives, hheld, State.dealWrite, State.decideWrite, h]

theorem State.writeArrives_held (ht : (u.window (flitWindow x)).target = 0)
    (hfull : u.landRoom x = false ∨ (u.port (u.window (flitWindow x)).entryPort).held ≠ []) :
    u.writeArrives n x = u.modPort (u.window (flitWindow x)).entryPort (fun p => { p with held := p.held ++ [(n, x)] }) := by
  have hheld : u.landHeld x = true := by
    rcases hfull with hf | hf <;> simp [State.landHeld, *]
  exact if_pos hheld

end

/-! ### Link control blocks and fabric time (R631 to R638) -/

/-- The watermark that the last block on a port stated. -/
def Port.peerWatermark (p : Port) : Nat :=
  match p.block with
  | some b => b.watermark.toNat
  | none => 0

section
variable {s : State} {f : Nat} {silent : Bool}

theorem State.evalMismatch_same (h : decide (s.mismatchReason f silent ≠ 0) = (s.port f).mismatch) :
    s.evalMismatch f silent = s := if_pos h

theorem State.evalMismatch_changed (h : decide (s.mismatchReason f silent ≠ 0) ≠ (s.port f).mismatch) :
    s.evalMismatch f silent =
      (s.modPort f (fun x => { x with mismatch := decide (s.mismatchReason f silent ≠ 0) })).post 0x0044 1 (s.portSource f 0)
        [(16, 1, f), (17, 1, if s.mismatchReason f silent ≠ 0 then 1 else 0), (18, 1, s.mismatchReason f silent),
         (20, 2, (s.port f).peerDevice.toNat),
         (24, 8, (s.port f).peerWatermark)] none := by
  simp only [State.evalMismatch, if_neg h, decide_eq_true_eq]
  rfl

end

theorem effTimeSourceTimeout_lost {s : State} (hrole : s.fabric.cfg.timeRole = false) (hst : s.fabric.cfg.stratum ≠ 0xFF) :
    effTimeSourceTimeout s = (s.modPort s.fabric.cfg.source.toNat (fun p =>
      { p with block := p.block.map (fun b => { b with stratum := 0xFF }) })).sourceLost s.fabric.cfg.source.toNat :=
  if_neg (not_or.2 ⟨ne_of_eq_of_ne hrole Bool.false_ne_true, hst⟩)

/-! ### Lost messages (R622) -/

section
variable {s : State} {n : Nat}

theorem effReceiptTimeout_untracked (h : s.fabric.tracked.filter (fun t => t.track == n) = []) : effReceiptTimeout n s = s :=
  if_pos (List.isEmpty_iff.2 h)

theorem effReceiptTimeout_tracked (h : s.fabric.tracked.filter (fun t => t.track == n) ≠ []) : effReceiptTimeout n s =
    (s.fabric.tracked.filter (fun t => t.track == n)).foldl State.lostFor
      (({ s with fabric := { s.fabric with tracked := s.fabric.tracked.filter (fun x => x.track != n) } } : State).modFabCnt
        (fun c => { c with rcptLost := satInc c.rcptLost })) :=
  if_neg (fun he => h (List.isEmpty_iff.1 he))

end

end Sys2Proof.Machine
end

section
/-!
PROOF. What leaves by the fabric: margin readings, remote writes from the edges, rings and windows (O59).
-/
namespace Sys2Proof.Machine

/-! ### Margin telemetry (R584, R640, R778) -/

section
variable (s : State) (f : Fin 16) {lane : BitVec 3} {val : Half}

theorem effMarginTelemetry_rxPower_dark (hl : lane.toNat < 5) (hv : val = 0x8000) :
    effMarginTelemetry (.rxPower f lane val) s = s.modLane f lane.toNat (fun x => { x with rxPower := val }) :=
  (if_neg (Nat.not_le.2 hl)).trans (if_pos hv)

theorem effMarginTelemetry_rxPower (hl : lane.toNat < 5) (hv : val ≠ 0x8000) : effMarginTelemetry (.rxPower f lane val) s =
    (s.modLane f lane.toNat (fun x => { x with rxPower := val })).margin 1 (5 * f.val + lane.toNat) val.toInt
      s.fabric.cnt.rxLow.toInt (decide (val.toInt < s.fabric.cnt.rxLow.toInt)) [f.val] :=
  (if_neg (Nat.not_le.2 hl)).trans (if_neg hv)

end

/-! ### Remote writes from the edges (R606 to R609) -/

/-- The arrivals at port f among the flits that a cluster sends over its edge. -/
def atEdgePort (f : Fin 16) (a : Arrival) : Bool :=
  let b := Place.ofKey a.place
  decide (b.k = portCluster f.val ∧ 14 ≤ b.port ∧ edgePort (portCluster f.val) b.port = some f.val)

section
variable {s u v : State} {f : Fin 16} {src : RulingSlot} {par : Option ParityHit} (e : Ecc) {x : Flit} {a : Arrival} {sl : Nat}
  {l : List Flit} (hon : s.domOn (54 + f.val / 4) = true) (hmove : s.move (placeOf src) (atEdgePort f) par = some (x, a, u))
  (hsl : (Place.ofKey a.place).slice = sl) (hv : u.edgeFlit f.val sl x = v) (hl : (v.port f).assembly.get [] sl = l)
include hon hmove hsl hv hl

/-- A flit has crossed the edge: `v` is the state with it in the write that slice `sl` assembles, `l` that write. -/
theorem effEdgeRemoteWrite_moved : effEdgeRemoteWrite f src par e s =
    if l.length ≤ remoteCount l then v
    else if v.remoteHeld l = true ∨ v.sendRoom l = false then s
    else v.centralRead e (fun t => (t.modPort f (fun p => { p with assembly := p.assembly.set sl [] })).sendRemote
      (s.partOf (portCluster f.val)) l) := by
  subst hsl hv hl
  have hm : s.move (placeOf src) (fun a => let b := Place.ofKey a.place
      decide (b.k = portCluster f.val ∧ 14 ≤ b.port ∧ edgePort (portCluster f.val) b.port = some f.val)) par = some (x, a, u) := hmove
  simp only [effEdgeRemoteWrite, hon, hm, Bool.or_eq_true, Bool.not_eq_true', Bool.true_eq_false, if_false]

end

/-! ### Rings (R625 to R627, R641, R649, R650) -/

/-- Where the bulk region of a ring's context starts. -/
def State.ringBase (s : State) (r : Nat) : Nat := (s.ctx (4 * (s.ring r).part + (s.ring r).ctx)).run.bulkBase * 65536
/-- The size of that region. -/
def State.ringSize (s : State) (r : Nat) : Nat := (s.ctx (4 * (s.ring r).part + (s.ring r).ctx)).run.bulkSize * 65536
/-- The offset in it of the descriptor at the head of a ring. -/
def State.ringHeadOff (s : State) (r : Nat) : Nat := (s.ring r).base.toNat * 65536 + (s.ring r).head.toNat % 2 ^ (s.ring r).log2 * 32

/-- The source of a descriptor is read and its messages leave; `s` is the state before the descriptor was read, `u` the one after,
and nothing is done while the read of the source has to wait. -/
def State.ringSource (s u : State) (r : Nat) (d : RingDesc) (errs : List (DWord × Ecc)) (ls : List LineFind) : State :=
  match u.devReady .bulk (s.ringBase r + d.src) d.length ls with
  | none => s
  | some v => (v.devFinds .bulk (s.ringBase r + d.src) d.length errs ls).ringRun r d (s.ringBase r)

section
variable {s u : State} {r : Nat} {d : RingDesc} (errs : List (DWord × Ecc)) {ls : List LineFind}

theorem State.ringSource_waits (h : u.devReady .bulk (s.ringBase r + d.src) d.length ls = none) :
    s.ringSource u r d errs ls = s := by
  rw [State.ringSource, h]

theorem State.ringSource_runs {v : State} (h : u.devReady .bulk (s.ringBase r + d.src) d.length ls = some v) :
    s.ringSource u r d errs ls = (v.devFinds .bulk (s.ringBase r + d.src) d.length errs ls).ringRun r d (s.ringBase r) := by
  rw [State.ringSource, h]

end

theorem State.ringReady_modCorrected (s : State) (p r : Nat) (g : Corrected → Corrected) :
    (s.modCorrected p g).ringReady r = s.ringReady r := rfl

/-- What a ring that is ready does, it does with the unit's own tables read. -/
theorem effRingDescriptorStart_body (r : BitVec 6) (errs : List (DWord × Ecc)) (ls : List LineFind) : ∃ body : State → State,
    ∀ (e : Ecc) {t : State}, t.ringReady r.toNat = true → effRingDescriptorStart r errs ls e t = t.centralRead e body :=
  ⟨_, fun _ _ h => if_neg (by simp [h])⟩

section
variable {s : State} {r : BitVec 6} {errs : List (DWord × Ecc)} {ls : List LineFind} (hr : s.ringReady r.toNat = true)
include hr

theorem effRingDescriptorStart_centralRead (e : Ecc) :
    effRingDescriptorStart r errs ls e s = s.centralRead e (fun t => effRingDescriptorStart r errs ls .ok t) := by
  obtain ⟨body, hbody⟩ := effRingDescriptorStart_body r errs ls
  rw [hbody e hr]
  cases e
  case ok => exact (hbody .ok hr).symm
  case corrected => exact (hbody .ok ((s.ringReady_modCorrected 0 r.toNat _).trans hr)).symm
  case uncorrectable => rfl

theorem effRingDescriptorStart_outside (ho : s.ringSize r.toNat < s.ringHeadOff r.toNat + 32) :
    effRingDescriptorStart r errs ls .ok s = s.ringFault r.toNat [] :=
  (if_neg (by simp [hr])).trans (if_pos ho)

variable (ho : s.ringHeadOff r.toNat + 32 ≤ s.ringSize r.toNat)
include ho

theorem effRingDescriptorStart_waits (hd : s.devReady .bulk (s.ringBase r.toNat + s.ringHeadOff r.toNat) 32 ls = none) :
    effRingDescriptorStart r errs ls .ok s = s := by
  refine (if_neg (by simp [hr])).trans ((if_neg (Nat.not_lt.2 ho)).trans ?_)
  simp only [State.ringBase, State.ringHeadOff] at hd
  simp only [hd]

variable {t u : State} {b : List Byte} {d : RingDesc}
  (hd : s.devReady .bulk (s.ringBase r.toNat + s.ringHeadOff r.toNat) 32 ls = some t)
  (hu : t.devFinds .bulk (s.ringBase r.toNat + s.ringHeadOff r.toNat) 32 errs ls = u)
  (hb : u.store.bytes (s.ringBase r.toNat + s.ringHeadOff r.toNat) 32 = b) (hdesc : ringDesc b = d)
include hd hu hb hdesc

/-- The descriptor has been read: `u` is the state after its reads, `d` what it says. -/
theorem effRingDescriptorStart_read : effRingDescriptorStart r errs ls .ok s =
    if ringDescOk b d = false ∨ s.ringSize r.toNat < d.src + d.length ∨
      u.store.blotAt (s.ringBase r.toNat + s.ringHeadOff r.toNat) = true
    then u.ringFault r.toNat [] else s.ringSource u r.toNat d errs ls := by
  subst hu hb hdesc
  refine (if_neg (by simp [hr])).trans ((if_neg (Nat.not_lt.2 ho)).trans ?_)
  simp only [State.ringBase, State.ringHeadOff] at hd
  simp only [hd, Bool.or_eq_true, Bool.not_eq_true', decide_eq_true_eq, or_assoc]
  rfl

end

/-- The fields of FB_RING_CFGr but ENABLE. -/
def RingSt.withCfg (x : RingSt) (v : Nat) : RingSt :=
  { x with ctx := v / 2 ^ 28 % 4, part := v / 2 ^ 26 % 4, log2 := v / 2 ^ 22 % 16, tail := v % 4096 }

section
variable {s : State} {r : BitVec 6} (hr : r.toNat < 60) (val : Word)
include hr

theorem effFbRingEnable_enabled (hen : (s.ring r.toNat).enable = true) : effFbRingEnable r val s =
    s.modRing r.toNat (fun x => if x.enable then { x with enable := val.getLsbD 31 } else x) := by
  refine (if_neg (Nat.not_le.2 hr)).trans ?_
  simp only [State.modRing, hen, if_true]

theorem ring_effFbRingEnable_disabled (hen : (s.ring r.toNat).enable = false) : (effFbRingEnable r val s).ring r.toNat =
    if val.getLsbD 31 = false then (s.ring r.toNat).withCfg val.toNat
    else if 4 ≤ val.toNat / 2 ^ 22 % 16 ∧ val.toNat / 2 ^ 22 % 16 ≤ 12
    then { (s.ring r.toNat).withCfg val.toNat with enable := true, fault := false, head := 0, work := none }
    else { (s.ring r.toNat).withCfg val.toNat with fault := true, head := 0, work := none } := by
  rw [effFbRingEnable, if_neg (Nat.not_le.2 hr), State.ring_modRing, if_pos rfl, if_neg (ne_of_eq_of_ne hen Bool.false_ne_true)]
  cases val.getLsbD 31 <;> rfl

end

/-! ### Windows (R610 to R612) -/

section
variable {s sx : State} {h : Hdr} {desc : List Byte}
  (hs : startsIn s h ({ pfOnly 0x0401 false .one with context := true, args := [(16, 48, leNat (fitTo 48 desc))] }) sx)
  (hr : sx.refuses h ({ pfOnly 0x0401 false .one with context := true, args := [(16, 48, leNat (fitTo 48 desc))] })
    (winFieldsOk desc) = none)
include hs hr

theorem exec_openWindow_refused {st : Status} (ho : sx.openRefusal (sx.hdrCtx h) desc = some st) :
    exec (.openWindow h desc) s = .next ((sx.complete h 0x0401 st 0).unclaim h s.host.nextJob) :=
  next_hostCmd hs hr (by simp only [ho])

theorem exec_openWindow_opened (ho : sx.openRefusal (sx.hdrCtx h) desc = none) : exec (.openWindow h desc) s =
    .next (((sx.modWindow (fld desc 0 1) (fun _ => winOf desc (ctxPart (sx.hdrCtx h)) (ctxNo (sx.hdrCtx h))
      ((sx.winCluster (sx.hdrCtx h) desc).getD 0))).complete h 0x0401 .ok 0).unclaim h s.host.nextJob) :=
  next_hostCmd hs hr (by simp only [ho])

end

section
variable {s sx : State} {h : Hdr} {w : Byte} (hs : startsIn s h ((pfOnly 0x0402 false .any).on [(16, 1, w.toNat)]) sx)
  (hr : sx.refuses h ((pfOnly 0x0402 false .any).on [(16, 1, w.toNat)]) (decide (w.toNat < 64)) = none)
include hs hr

theorem exec_closeWindow_refused (hw : (sx.window w.toNat).opened = false ∨ (sx.window w.toNat).closing = true) :
    exec (.closeWindow h w) s = .next ((sx.complete h 0x0402 .wrongState 0).unclaim h s.host.nextJob) :=
  next_hostCmd hs hr (if_pos (by simpa using hw))

theorem exec_closeWindow_closing (hopen : (sx.window w.toNat).opened = true) (hc : (sx.window w.toNat).closing = false) :
    exec (.closeWindow h w) s = .next (((sx.modWindow w.toNat (fun y => { y with closing := true })).addJob h 0x0402
      (.closeWindow h w) 0).unclaim h s.host.nextJob) :=
  next_hostCmd hs hr (if_neg (by simp [hopen, hc]))

end

/-! ### The obligation -/

/-- Settles O59 (descriptors blotted or outside the region: log 42; one that waits: log 141; OPEN_WINDOW's test: log 43; messages
and adds: logs 45 and 66; the time source: log 41; idle and control flits without credit: log 139), effect by effect. -/
theorem fabricReceive : Obligations.FabricReceive := by
  refine ⟨fun s body => ⟨rfl, rfl, rfl⟩, fun s f x e => ?_, fun s f x e hst hk hm => ?_, fun u n x => ?_,
    fun s f x e hst hk hm => ?_, fun s f x hst hk hm => ?_, fun s f b => ?_, fun s => ?_, fun s n => ?_,
    fun s f lane oe r k val ber corr => ?_, fun s f src par e x a u => ?_, fun s r errs ls => ?_, fun s r val => ?_,
    fun s sx h dest entry hs hr => next_hostCmd hs hr rfl, fun s sx h desc => ?_, fun s sx h w => ?_⟩
  · intro k mine hst
    refine ⟨fun hk => congrArg Host.Outcome.next (effFlitForward_idle hst hk e),
      fun hk => congrArg Host.Outcome.next (effFlitForward_link hst hk e),
      fun hlo hhi hm => congrArg Host.Outcome.next (effFlitForward_mine hst hlo hhi hm e), fun hk => ?_, fun hlo hhi hm => ?_,
      fun u => ⟨fun hx => if_pos hx, fun hx h => State.forward_noRoute hx h, fun hx h => State.forward_noPort hx h,
        fun p d hx h => State.forward_out hx h⟩⟩
    · refine congrArg Host.Outcome.next ((effFlitForward_onward hst ?_ ?_ ?_ (fun h => ?_) e).trans ?_)
      any_goals omega
      simp only [State.forwardFlit_reserved _ _ hk]
    · refine congrArg Host.Outcome.next ((effFlitForward_onward hst hlo ?_ ?_ (fun _ => hm) e).trans ?_)
      any_goals omega
      simp only [State.forwardFlit_message _ _ hhi]
  · exact congrArg Host.Outcome.next (State.takeMsg_received hst hk hm _)
  · intro w q cred
    exact ⟨fun c h => State.writeArrives_refused n h, fun h hroom => State.writeArrives_accepted n h hroom,
      fun h ht hfull => State.writeArrives_held n h ht hfull⟩
  · exact congrArg Host.Outcome.next (State.takeMsg_received hst hk hm _)
  · exact congrArg Host.Outcome.next (State.takeMsg_received hst hk hm _)
  · intro st o
    exact ⟨fun hst => congrArg Host.Outcome.next (if_neg (not_not.2 hst)), fun hst => congrArg Host.Outcome.next (if_pos hst),
      fun hst => congrArg Host.Outcome.next (if_pos hst), fun h => congrArg Host.Outcome.next (State.evalMismatch_same h),
      fun h => ⟨_, rfl, State.evalMismatch_changed h⟩⟩
  · intro c f hrole hst
    exact congrArg Host.Outcome.next (effTimeSourceTimeout_lost hrole hst)
  · intro mine u
    refine ⟨fun h => congrArg Host.Outcome.next (effReceiptTimeout_untracked h),
      fun h => congrArg Host.Outcome.next (effReceiptTimeout_tracked h), fun v t => ⟨fun c id h => ?_, fun r h => ?_, fun j h => ?_⟩⟩
    all_goals rw [State.lostFor, h]
  · intro c rx dm sl bi n fe
    exact ⟨fun hl hv => congrArg Host.Outcome.next (effMarginTelemetry_rxPower_dark s f hl hv),
      fun hl hv => congrArg Host.Outcome.next (effMarginTelemetry_rxPower s f hl hv),
      fun hv => congrArg Host.Outcome.next (if_neg hv), rfl,
      fun hv => ⟨congrArg Host.Outcome.next (if_pos hv), congrArg Host.Outcome.next (if_pos hv)⟩,
      fun hv => ⟨congrArg Host.Outcome.next (if_neg hv), congrArg Host.Outcome.next (if_neg hv)⟩⟩
  · intro k sl v l hon hmove
    have hx := effEdgeRemoteWrite_moved e hon hmove (sl := sl) rfl (v := v) rfl (l := l) rfl
    exact ⟨fun hc => congrArg Host.Outcome.next (hx.trans (if_pos hc)),
      fun hc hh => congrArg Host.Outcome.next (hx.trans ((if_neg (Nat.not_le.2 hc)).trans (if_pos hh))),
      fun hc hh hroom => congrArg Host.Outcome.next (hx.trans ((if_neg (Nat.not_le.2 hc)).trans
        (if_neg (by simp [hh, hroom]))))⟩
  · intro x c base size o hready
    refine ⟨fun e => congrArg Host.Outcome.next (effRingDescriptorStart_centralRead hready e),
      fun ho => congrArg Host.Outcome.next (effRingDescriptorStart_outside hready ho),
      fun ho hd => congrArg Host.Outcome.next (effRingDescriptorStart_waits hready ho hd), fun t ho hd => ?_⟩
    intro u b d
    have hx := effRingDescriptorStart_read hready ho (errs := errs) hd (u := u) rfl (b := b) rfl (d := d) rfl
    refine ⟨fun hbad => congrArg Host.Outcome.next (hx.trans (if_pos hbad)), fun hok hsrc hblot => ?_⟩
    have hgood := hx.trans (if_neg (not_or.2 ⟨ne_of_eq_of_ne hok Bool.false_ne_true.symm,
      not_or.2 ⟨Nat.not_lt.2 hsrc, ne_of_eq_of_ne hblot Bool.false_ne_true⟩⟩))
    exact ⟨fun hw => congrArg Host.Outcome.next (hgood.trans (State.ringSource_waits errs hw)),
      fun v hw => congrArg Host.Outcome.next (hgood.trans (State.ringSource_runs errs hw))⟩
  · intro on v n hr
    refine ⟨fun hen => congrArg Host.Outcome.next (effFbRingEnable_enabled hr val hen), fun hen => ⟨_, rfl, ?_⟩⟩
    have hring := ring_effFbRingEnable_disabled hr val hen
    refine ⟨fun hon hlo hhi => hring.trans ((if_neg (ne_of_eq_of_ne hon Bool.false_ne_true.symm)).trans (if_pos ⟨hlo, hhi⟩)), fun hon hn => ?_,
      fun hoff => hring.trans (if_pos hoff)⟩
    have hfault := hring.trans ((if_neg (ne_of_eq_of_ne hon Bool.false_ne_true.symm)).trans
      (if_neg (not_and_or.2 (hn.imp Nat.not_le.2 Nat.not_le.2))))
    exact ⟨(congrArg RingSt.enable hfault).trans hen, congrArg RingSt.fault hfault⟩
  · intro c hs hr
    exact ⟨fun st ho => exec_openWindow_refused hs hr ho, fun ho => exec_openWindow_opened hs hr ho⟩
  · intro x hs hr
    exact ⟨fun hw => exec_closeWindow_refused hs hr hw, fun hopen hc => exec_closeWindow_closing hs hr hopen hc⟩

end Sys2Proof.Machine
end

section
/-!
PROOF. Checkpoints after their edge, restarts of contexts and remaps of fenced cores (O52).
-/
namespace Sys2Proof.Machine

/-! ### The image of a paused context (R665, R666, R681) -/

section
variable {s u : State} {c : Fin 16} {w : CkptWork} {sc : Scroll} {find : List (DWord × Ecc)} {split : List DWord}

theorem State.pausedWork_of_pause (hpause : (s.part (ctxPart c.val)).ckptPause = some c.val)
    (hfrozen : (s.ctx c).run.frozen = false) (hwork : (s.ctx c).lc.work = some w) (hscroll : (s.ctx c).scroll = some sc) :
    s.pausedWork c = some (w, sc) := by
  simp only [State.pausedWork, hpause, hfrozen, hwork, hscroll, and_self, if_true]

/-- `u` is the state with the image written: a mismatch drops it; else it is committed, or waits for the open comparisons, and
the pause ends after the rotation. -/
theorem effCheckpointCommit_of_pausedWork (hp : s.pausedWork c = some (w, sc))
    (hu : (s.quillFinds (s.ckptReads c) find split).writeImage c w sc ((sc.layout (s.ctx c).run.layout).getD []) = u) :
    effCheckpointCommit c find split s =
      if w.spoiled then ((u.modLife c (fun l => { l with work := none })).unpause c).edgeTail (ctxPart c.val)
      else ((if w.waits.isEmpty then u.commitCheckpoint c w
        else u.modLife c (fun l => { l with work := some { w with written := true } })).rotate c w).endPause c := by
  subst hu
  simp only [effCheckpointCommit, hp]
  cases w.spoiled <;> simp only [if_true, Bool.false_eq_true, if_false]

end

/-! ### Commands that end without a commit (R668, R669) -/

section
variable {s : State} {i : Nat} {j : Job} {h : Hdr} {c : Nat} (hj : s.job i = some j)
  (hc : 4 * s.partNamed h.partition.toNat + h.context.toNat % 4 = c)
include hj hc

theorem effCheckpointTimeout_stopContextAtQuiet (hcmd : j.cmd = .stopContextAtQuiet h)
    (hstop : (s.ctx c).lc.stopQuiet = some i) (hwork : (s.ctx c).lc.work = none) :
    effCheckpointTimeout i s = (s.finish i .timeout 0).modLife c (fun l => { l with stopQuiet := none }) := by
  subst hc
  simp [effCheckpointTimeout, hj, hcmd, hstop, hwork]

section
variable {mi sm pw : Byte} {pd : Half} {ha hl : DWord} (hcmd : j.cmd = .checkpoint h mi sm pd pw ha hl)
include hcmd

theorem effCheckpointTimeout_checkpoint {k : CkptCmd} (hckpt : (s.ctx c).lc.ckpt = some k) (hk : k.job = i)
    (hwork : (s.ctx c).lc.work = none) :
    effCheckpointTimeout i s = (s.finish i .timeout 0).modLife c (fun l => { l with ckpt := none }) := by
  subst hc
  simp [effCheckpointTimeout, hj, hcmd, hckpt, hk, hwork]

/-- The image is committed: a mirror that is complete, with no receipt awaited, or one that is not. -/
theorem effCheckpointMirrorDone_of_committed (hckpt : (s.ctx c).lc.ckpt = none) (ok : Bool) :
    effCheckpointMirrorDone i ok s =
      if ok && s.fabric.tracked.any (fun t => decide (t.origin = .mirror i)) then s
      else if ok then s.finish i .ok j.value else s.finish i .aborted 0 := by
  subst hc
  simp [effCheckpointMirrorDone, hj, hcmd, hckpt]

end
end

/-! ### Restarts and remaps (R225, R657, R658, R687) -/

theorem State.mayRestart_due {s : State} {c : Nat} (h : s.mayRestart c = true) :
    (s.ctx c).lc.restartDue = true ∧ (s.ctx c).lc.life = .off ∧ (s.qpart (ctxPart c)).life = .on ∧
      (s.qpart (ctxPart c)).out = false ∧ s.quill.health.service ≠ 2 := by
  simp only [State.mayRestart, Bool.and_eq_true, decide_eq_true_eq, Bool.not_eq_true'] at h
  obtain ⟨⟨⟨⟨⟨⟨hdue, hoff⟩, hon⟩, hout⟩, hservice⟩, -⟩, -⟩ := h
  exact ⟨hdue, hoff, hon, hout, hservice⟩

/-- A restart whose reads find nothing is made at once. -/
theorem effContextRestart_unread (s : State) (c : Fin 16) :
    effContextRestart c [] s = if s.mayRestart c then s.restart c (s.restartReason c) else s := by
  simp only [effContextRestart, State.startReading_nil]

theorem State.mapFree_none_iff (s : State) (k : Nat) :
    s.mapFree k none = true ↔ ∀ d ∈ s.liveContexts (s.partOf k), s.mapsCluster d k = false := by
  simp [State.mapFree]

theorem effCoreRemap_eq (s : State) (n : Fin 1536) : effCoreRemap n s =
    if (s.core n).ctl.fenced = true ∧ (∀ d ∈ s.liveContexts (s.partOf (kOf n)), s.mapsCluster d (kOf n) = false)
    then s.moveRole n 1 else s := by
  simp only [effCoreRemap, Bool.and_eq_true, State.mapFree_none_iff]

/-! ### The obligation -/

/-- Settles O52 (ABORTED for a host mirror that is not complete: log 89), command by command. -/
theorem checkpointWork : Obligations.CheckpointWork := by
  refine ⟨fun s c fi sp w sc => ?_, fun s i j h => ?_, fun s i j h mi sm pd pw ha hl k => ?_,
    fun s i j h mi sm pd pw ha hl => ?_, fun s c n ls => ⟨congrArg Host.Outcome.next (effContextRestart_unread s c), rfl,
      State.mayRestart_due, congrArg Host.Outcome.next (effCoreRemap_eq s n)⟩⟩
  · intro u p hpause hfrozen hwork hscroll
    have hx := effCheckpointCommit_of_pausedWork (find := fi) (split := sp)
      (State.pausedWork_of_pause hpause hfrozen hwork hscroll) (u := u) rfl
    refine ⟨fun hs => congrArg Host.Outcome.next (hx.trans (if_pos hs)), fun hs hw => congrArg Host.Outcome.next (hx.trans ?_),
      fun hs hw => congrArg Host.Outcome.next (hx.trans ?_)⟩
    all_goals simp [hs, hw]
  · intro c hj hcmd hstop hwork
    exact congrArg Host.Outcome.next (effCheckpointTimeout_stopContextAtQuiet hj rfl hcmd hstop hwork)
  · intro c hj hcmd hckpt hk hwork
    exact congrArg Host.Outcome.next (effCheckpointTimeout_checkpoint hj rfl hcmd hckpt hk hwork)
  · intro c hj hcmd hckpt
    have hx := effCheckpointMirrorDone_of_committed hj rfl hcmd hckpt
    refine ⟨fun hnone => congrArg Host.Outcome.next ((hx true).trans ?_), congrArg Host.Outcome.next (hx false)⟩
    exact if_neg (by simpa using hnone)

end Sys2Proof.Machine
end

section
/-!
PROOF. The power entry and the meter (O57).
-/
namespace Sys2Proof.Machine

/-! ### The input (R847, R848, R850, R852, R865, R873) -/

section
variable {s : State} {mv : BitVec 17}

/-- `v` is the state with the output on and the input taken. -/
theorem effInputRise_of_off {v : State} (hoff : s.module_.entry.on = false) (hlatch : s.module_.entry.latched = false)
    (hlow : 50000 ≤ mv.toNat) (hexcess : s.module_.entry.excess = false ∨ mv.toNat ≤ 62000)
    (hv : (s.powerless.modEntry (fun e => { e with on := true, excess := false, mv := mv.toNat })).modMeter (fun m =>
      { m with since := if s.meterPowered then s.meterSeconds else s.module_.meter.since, outRange := !decide (mv.toNat ≤ 62000)
               strayed := m.strayed || !decide (mv.toNat ≤ 62000) }) = v) :
    effInputRise mv s = (v.takeReading 5 0 0).emit (.pin powerGood true) := by
  subst hv
  exact if_pos (by simp [hoff, hlatch, hlow, hexcess])

/-- An input that falls below 20 V with the stage off frees the latch, whether or not the meter logs the fall (log 61). -/
theorem entry_effLatchClear (hlow : mv.toNat < 20000) (hoff : s.module_.entry.on = false) :
    (effLatchClear mv s).module_.entry.latched = false ∧ (effLatchClear mv s).module_.entry.mv = mv.toNat := by
  rw [effLatchClear, if_pos ⟨hlow, by simp [hoff]⟩]
  exact ⟨rfl, rfl⟩

end

/-- Whether the stage stretches cycles after averages of `ma` and `watts` (R847): its limits, with the hysteresis of a peak that
goes on. -/
def Entry.peaks (e : Entry) (ma watts : Nat) : Prop :=
  (30000 < ma ∨ 1500 < watts) ∨ (e.peak = true ∧ (28000 ≤ ma ∨ 1450 ≤ watts))

theorem Entry.peaks_iff (e : Entry) (ma watts : Nat) : e.peaks ma watts ↔ (decide (30000 < ma ∨ 1500 < watts) ||
    (e.peak && !decide (ma < 28000 ∧ watts < 1450))) = true := by
  simp [Entry.peaks]

section
variable {s : State} (hon : s.module_.entry.on = true) {ma watts : Half} (cycles : Half)
include hon

theorem effPeakLimit_of_peaks (hp : s.module_.entry.peaks ma.toNat watts.toNat) : effPeakLimit ma watts cycles s =
    (s.modEntry (fun e => { e with peak := true, ma := ma.toNat })).stretchAll cycles.toNat := by
  simp only [effPeakLimit, hon, (Entry.peaks_iff ..).1 hp, if_true]

theorem effPeakLimit_of_not_peaks (hp : ¬ s.module_.entry.peaks ma.toNat watts.toNat) : effPeakLimit ma watts cycles s =
    s.modEntry (fun e => { e with peak := false, ma := ma.toNat }) := by
  rw [Entry.peaks_iff, Bool.not_eq_true] at hp
  simp only [effPeakLimit, hon, hp, if_true, Bool.false_eq_true, if_false]

end

/-! ### The meter of itself (R861, R869, R870, R873, R875) -/

section
variable {s : State}

theorem effMeterReseal_open (hopen : s.module_.meter.intact = false) : effMeterReseal true s =
    ((s.modMeter (fun m => { m with intact := true })).takeReading 7 0 0).tellMeter 4 :=
  if_pos ⟨rfl, by simp [hopen]⟩

theorem effMeterReseal_intact (hseal : s.module_.meter.intact = true) : effMeterReseal true s = s :=
  if_neg (by simp [hseal])

theorem effMeterFwUpdate_open (v : Word) (hopen : s.module_.meter.intact = false) : effMeterFwUpdate v true s =
    ((s.modMeter (fun m => { m with fw := v })).takeReading 9 0 0).tellMeter 4 :=
  if_pos ⟨rfl, by simp [hopen]⟩

theorem effMeterFwUpdate_intact (v : Word) (hseal : s.module_.meter.intact = true) : effMeterFwUpdate v true s = s :=
  if_neg (by simp [hseal])

theorem effEmRefresh_running (hrun : s.quill.running = true) : effEmRefresh s =
    if s.module_.meter.answering then (s.modMeter (fun m => { m with answering := true })).refreshEm
    else (s.modMeter (fun m => { m with answering := true })).refreshEm.postMeter 6 :=
  if_pos hrun

end

/-! ### METER_READ (R868) -/

/-- METER_READ of a meter that answers or not, into a buffer of enough room or not (log 60). -/
theorem execMeterRead_of_startsIn {s sx : State} {h : Hdr} {r : Reply}
    (hs : startsIn s h ((anySpec 0x0801 true true true).on (replyArgs r)) sx)
    (hr : sx.refuses h ((anySpec 0x0801 true true true).on (replyArgs r)) (replyOk h r) = none) : execMeterRead h r s = .next (
    (if sx.module_.meter.answering = false then sx.complete h 0x0801 .timeout 0
    else if r.len.toNat < 160 + 128 * min 96 (sx.module_.meter.seq + 1) then
      sx.complete h 0x0801 .badParam (160 + 128 * min 96 (sx.module_.meter.seq + 1))
    else (sx.takeReading 2 0 (BitVec.ofNat 64 sx.time)).reply h 0x0801 r
      (sx.takeReading 2 0 (BitVec.ofNat 64 sx.time)).meterReply).unclaim h s.host.nextJob) :=
  next_hostCmd hs hr (by simp only [Bool.not_eq_true'])

/-! ### METER_STAMP (R866, R867) -/

section
variable {s : State} {job : DWord} {close : Bool}

theorem State.stampRefusal_wrongState (hopen : (s.module_.meter.stampOf job).isSome ≠ close) :
    s.stampRefusal close job = some .wrongState := by
  have hdiffer : ∀ a b : Bool, b ≠ a → ((!a && b) || (a && !b)) = true := by decide
  exact if_pos (hdiffer _ _ hopen)

/-- Stamps that open or close in their turn meet the checks that follow: the room for a stamp, the meter's answer. -/
theorem State.stampRefusal_in_turn (hopen : (s.module_.meter.stampOf job).isSome = close) : s.stampRefusal close job =
    if close = false ∧ 16 ≤ s.module_.meter.stamps.length then some .noResource
    else if s.module_.meter.answering = false then some .timeout else none := by
  subst hopen
  have hsame : ∀ a : Bool, ¬ ((!a && a) || (a && !a)) = true := by decide
  refine (if_neg (hsame _)).trans ?_
  simp only [Bool.and_eq_true, Bool.not_eq_true', decide_eq_true_eq]

end

section
variable {s sx : State} {h : Hdr} {r : Reply} {job : DWord} {close : Bool}
  (hs : startsIn s h ((anySpec 0x0802 false true true).on
    (replyArgs r ++ [(32, 8, job.toNat), (40, 1, if close = true then 1 else 0)])) sx)
  (hr : sx.refuses h ((anySpec 0x0802 false true true).on
    (replyArgs r ++ [(32, 8, job.toNat), (40, 1, if close = true then 1 else 0)])) (replyOk h r && decide (job ≠ 0)) = none)

theorem exec_meterStamp (s : State) (h : Hdr) (r : Reply) (job : DWord) (close : Bool) :
    exec (if close = true then .meterStampEnd h r job else .meterStampStart h r job) s = .next (s.meterStamp h r job close) := by
  cases close <;> rfl

include hs hr

theorem exec_meterStamp_refused {st : Status} (hst : sx.stampRefusal close job = some st) :
    exec (if close = true then .meterStampEnd h r job else .meterStampStart h r job) s =
      .next ((sx.complete h 0x0802 st 0).unclaim h s.host.nextJob) :=
  (exec_meterStamp ..).trans (next_hostCmd hs hr (by rw [hst]))

theorem exec_meterStamp_made (hst : sx.stampRefusal close job = none) :
    exec (if close = true then .meterStampEnd h r job else .meterStampStart h r job) s = .next (
      (if r.len.toNat < 128 then sx.complete h 0x0802 .badParam 128
      else (sx.takeReading (if close = true then 4 else 3) 0 job).reply h 0x0802 r
        (sx.takeReading (if close = true then 4 else 3) 0 job).module_.meter.newest).unclaim h s.host.nextJob) :=
  (exec_meterStamp ..).trans (next_hostCmd hs hr (by rw [hst]))

end

/-! ### The obligation -/

/-- Settles O57 (readings' counts and flags, and a buffer too small for METER_READ: log 60; CAUSE 4 below 40 V: log 61), event by
event of the input and of the meter, then command by command. -/
theorem meterResults : Obligations.MeterResults := by
  refine ⟨fun s mv => ?_, fun s mv => ?_, fun s mv ma hon => ?_, fun s ma watts cycles hon => ?_, fun s mv ma v => ?_, fun s => ?_,
    fun s sx h r => ?_, fun s sx h r job close => ?_⟩
  · intro m since inRange lit hoff hlatch hlow hexcess
    exact ⟨congrArg Host.Outcome.next (effInputRise_of_off hoff hlatch hlow hexcess rfl),
      fun hin => by simp [lit, inRange, State.modMeter, hin], fun hout => by simp [lit, inRange, State.modMeter, hout]⟩
  · exact ⟨fun hlo hhi => congrArg Host.Outcome.next (if_pos ⟨hlo, hhi⟩),
      fun hlo hhi => congrArg Host.Outcome.next (if_pos ⟨hlo, hhi⟩),
      fun hlo hhi hout => congrArg Host.Outcome.next (if_pos ⟨hlo, hhi, hout⟩),
      fun hlow hoff => ⟨_, rfl, entry_effLatchClear hlow hoff⟩⟩
  · exact ⟨fun hlow => congrArg Host.Outcome.next (if_pos ⟨hon, hlow⟩),
      fun hhigh => congrArg Host.Outcome.next (if_pos ⟨hon, hhigh⟩),
      fun hhigh => congrArg Host.Outcome.next (if_pos ⟨hon, hhigh⟩)⟩
  · refine ⟨fun hmax => congrArg Host.Outcome.next (effPeakLimit_of_peaks hon cycles (.inl hmax)),
      fun hma hw => congrArg Host.Outcome.next (effPeakLimit_of_not_peaks hon cycles ?_),
      fun hma hw hmid hpeak => congrArg Host.Outcome.next (effPeakLimit_of_peaks hon cycles (.inr ⟨hpeak, hmid⟩)),
      fun hma hw hpeak => congrArg Host.Outcome.next (effPeakLimit_of_not_peaks hon cycles ?_)⟩
    · rintro (hmax | ⟨-, hmid⟩) <;> omega
    · rintro (hmax | ⟨hstill, -⟩)
      · omega
      · simp [hpeak] at hstill
  · exact ⟨fun hlo hhi => congrArg Host.Outcome.next (if_pos ⟨hlo, hhi⟩), rfl, rfl,
      fun hopen => ⟨congrArg Host.Outcome.next (effMeterReseal_open hopen),
        congrArg Host.Outcome.next (effMeterFwUpdate_open v hopen)⟩, rfl, rfl,
      fun hseal => ⟨congrArg Host.Outcome.next (effMeterReseal_intact hseal),
        congrArg Host.Outcome.next (effMeterFwUpdate_intact v hseal)⟩⟩
  · exact ⟨fun ha => congrArg Host.Outcome.next (if_pos ha),
      fun hrun ha => congrArg Host.Outcome.next ((effEmRefresh_running hrun).trans (if_pos ha)),
      fun hrun ha => congrArg Host.Outcome.next ((effEmRefresh_running hrun).trans (if_neg (ne_of_eq_of_ne ha Bool.false_ne_true)))⟩
  · intro n t hs hr
    have hx := execMeterRead_of_startsIn hs hr
    refine ⟨fun ha => hx.trans ?_, fun ha hlen => hx.trans ?_, fun ha hlen => hx.trans ?_⟩
    · rw [if_pos ha]
    · rw [if_neg (ne_of_eq_of_ne ha Bool.false_ne_true.symm), if_pos hlen]
    · rw [if_neg (ne_of_eq_of_ne ha Bool.false_ne_true.symm), if_neg (Nat.not_lt.2 hlen)]
  · intro cmd mt hs hr
    refine ⟨fun hopen => exec_meterStamp_refused hs hr (State.stampRefusal_wrongState hopen), fun hclose hnone hfull => ?_,
      fun hopen hroom => ?_⟩
    · refine exec_meterStamp_refused hs hr ((State.stampRefusal_in_turn ?_).trans (if_pos ⟨hclose, hfull⟩))
      exact (congrArg Option.isSome hnone).trans hclose.symm
    · have hturn := (State.stampRefusal_in_turn hopen).trans (if_neg fun hfull => Nat.not_le.2 (hroom hfull.1) hfull.2)
      refine ⟨fun ha => exec_meterStamp_refused hs hr (hturn.trans (if_pos ha)), fun ha hlen => ?_, fun ha hlen => ?_⟩
      all_goals refine (exec_meterStamp_made hs hr (hturn.trans (if_neg (ne_of_eq_of_ne ha Bool.false_ne_true.symm)))).trans ?_
      · rw [if_pos hlen]
      · rw [if_neg (Nat.not_lt.2 hlen)]

end Sys2Proof.Machine
end
